-- ==== Sys2Proof/Word.lean ====
section
/-! DEFINITION. The word types of the block and their plainest arithmetic. -/

namespace Sys2Proof

/-- One byte. -/
abbrev Byte := BitVec 8
/-- One 32-bit word: a register, or one word of a ring entry (R41, R534). -/
abbrev Word := BitVec 32
/-- One 64-bit doubleword: a 64-bit register or an ESM entry (R245, R535). -/
abbrev DWord := BitVec 64

end Sys2Proof
end

