-- ==== Sys2Proof/Syntax.lean ====
section
/-! DEFINITION. The commands of the block: one constructor for each row of spec/opcode_table.json.
Every command carries `t`, the AON local clock (in timestamp units, R10) at which it happens; an event's further
operands are what the outside world supplies with it (a bus value, host memory that is read, a measured level, a
received frame). -/

namespace Sys2Proof

/-- Who accesses a register (R535, R536): the host over PCIe, an application core, the security core, or the
debug module. -/
inductive Requester where
  | host
  | core (n : Nat)
  | security
  | debug
  deriving DecidableEq, Repr

/-- A qualified detection: bin, spreading factor, code index, first-chip timestamp, carrier offset and metric (R177). -/
structure Detection where
  bin : Int
  sf : Nat
  code : Nat
  start : Nat
  cfo : Nat
  q : Nat
  deriving DecidableEq, Repr

/-- What an energy window of one bin gives: its average power, −0.5 dB × level relative to full scale (R174), and the
samples of the window on the cancellation chain, decimated to 245.76 kS/s, oldest first (R208). -/
structure BinWindow where
  bin : Int
  level : Nat
  samples : List Word
  deriving DecidableEq, Repr

/-- What a lane measured of a frame (Table 6-3): RSSI (−RSSI dBm), and SNR in 0.25 dB. -/
structure LinkData where
  rssi : Nat
  snr : Int
  deriving DecidableEq, Repr

/-- A candidate of an election (R319). -/
structure Cand where
  id : Nat
  prio : Nat
  inc : Bool
  deriving DecidableEq, Repr

/-- A time mark (R314). -/
structure Mark where
  low : Bool
  headless : Bool
  holdover : Bool
  incumbent : Bool
  ticks : Nat
  head : Nat
  prio : Nat
  sender : Nat
  sport : Nat
  hops : Nat
  deriving DecidableEq, Repr

/-- A device as an ENUM record reports it (R316, R321). -/
structure Enum where
  id : Nat
  pport : Nat
  parent : Nat
  upport : Nat
  prio : Nat
  relay : Bool
  deriving DecidableEq, Repr

/-- A message (R317): kind 0 data, 1 ACK, 2 remote reset. -/
structure SknMsg where
  dest : Nat
  bcast : Bool
  kind : Nat
  prio : Nat
  origin : Nat
  channel : Nat
  seq : Nat
  time : Nat
  payload : List Byte
  deriving DecidableEq, Repr


/-- What the active configuration record sets (R1, R195, R252, R264, R464, R465, R470): the profile, the device id, the
nonce instance, the relay's banks and lanes, the start delays, and the clock options. -/
structure BootConfig where
  relay : Bool
  deviceId : Nat
  nonceInstance : Nat
  banks : Nat
  lanes : Nat
  xoDelay : Option Nat
  lfDelay : Option Nat
  tcxo : Bool
  noLfxo : Bool
  sris : Bool
  deriving DecidableEq, Repr

/-- Who reads flash (R375): a reader that is no application core, a core's load, or a core's fetch; `fence` says that the
core has executed FENCE.I since its last fetch (R508). -/
inductive FlashReader where
  | other
  | load (core : Nat)
  | fetch (core : Nat) (fence : Bool)
  deriving DecidableEq, Repr

/-- One constructor for each row of the command table. -/
inductive Instr where
  /-- REGISTER_WRITE (R14). -/
  | registerWrite (t : Nat) (req : Requester) (a : Nat) (v : Word) (whole : Bool)
  /-- BLOCK_ENABLE (R66). -/
  | blockEnable (t : Nat) (b : Nat)
  /-- ENABLE_CHECK_DONE (R66). -/
  | enableCheckDone (t : Nat) (b : Nat)
  /-- CHECK_ABANDONED (R66). -/
  | checkAbandoned (t : Nat) (b : Nat)
  /-- BLOCK_DISABLE (R68). -/
  | blockDisable (t : Nat) (b : Nat)
  /-- FLC_READY (R382). -/
  | flcReady (t : Nat)
  /-- CALIBRATION_DONE (R240). -/
  | calibrationDone (t : Nat) (rx0 rx1 : Nat)
  /-- RING_ENABLE (R52). -/
  | ringEnable (t : Nat) (n : Nat)
  /-- RING_DISABLE (R52). -/
  | ringDisable (t : Nat) (n : Nat)
  /-- DOORBELL (R45). -/
  | doorbell (t : Nat) (n idx : Nat)
  /-- DESCRIPTOR_FETCH (R55). -/
  | descriptorFetch (t : Nat) (words : List Word) (buf : List Byte) (fail : Bool)
  /-- ADMISSION (R89). -/
  | admission (t : Nat)
  /-- COMPLETION_WRITE (R44). -/
  | completionWrite (t : Nat) (ring : Nat) (fail : Bool)
  /-- MOD_TIME_EXPIRY (R49). -/
  | modTimeExpiry (t : Nat) (ring : Nat)
  /-- EVENT_RECORD_WRITE (R58). -/
  | eventRecordWrite (t : Nat) (fail : Bool)
  /-- HOST_RESET (R37). -/
  | hostReset (t : Nat) (linkLost : Bool)
  /-- QUENCH_SET (R60). -/
  | quenchSet (t : Nat)
  /-- QUENCH_CLEAR (R62). -/
  | quenchClear (t : Nat)
  /-- NOP (R63). -/
  | nop (t : Nat)
  /-- CANCEL (R64). -/
  | cancel (t : Nat)
  /-- QUENCH (R60). -/
  | quench (t : Nat)
  /-- FENCE_ALL (R59). -/
  | fenceAll (t : Nat)
  /-- FENCE_ALL_DONE (R59). -/
  | fenceAllDone (t : Nat)
  /-- BANK_SWAP (R84). -/
  | bankSwap (t : Nat)
  /-- BANK_SWAP_EFFECT (R85). -/
  | bankSwapEffect (t : Nat)
  /-- TIME_SET_STEP (R114). -/
  | timeSetStep (t : Nat)
  /-- TIME_SET_SLEW (R114). -/
  | timeSetSlew (t : Nat)
  /-- TX_FRAME (R123). -/
  | txFrame (t err : Nat)
  /-- TX_154 (R172). -/
  | tx154 (t : Nat)
  /-- TX_BEACON (R126). -/
  | txBeacon (t : Nat)
  /-- TX_ACK_BEACON (R131). -/
  | txAckBeacon (t : Nat)
  /-- TX_LEGACY (R170). -/
  | txLegacy (t err : Nat)
  /-- RX_WINDOW (R200). -/
  | rxWindow (t : Nat)
  /-- RX_BUFFER (R203). -/
  | rxBuffer (t : Nat)
  /-- LBT_LISTEN (R144). -/
  | lbtListen (t : Nat) (idx : Nat) (dbm : Int)
  /-- TX_START (R93). -/
  | txStart (t : Nat) (idx : Nat)
  /-- TX_END (R26). -/
  | txEnd (t : Nat) (idx : Nat) (gamma phase fwd : Nat)
  /-- RX_WINDOW_OPEN (R94). -/
  | rxWindowOpen (t : Nat) (idx : Nat)
  /-- RX_WINDOW_CLOSE (R206). -/
  | rxWindowClose (t : Nat) (idx : Nat)
  /-- RX_WINDOW_FINAL (R206). -/
  | rxWindowFinal (t : Nat) (idx : Nat)
  /-- FLASH_ITEM_ISSUE (R94). -/
  | flashItemIssue (t : Nat) (idx : Nat)
  /-- SLOT_BOUNDARY (R73). -/
  | slotBoundary (t : Nat)
  /-- LOCKSTEP_MISMATCH (R102). -/
  | lockstepMismatch (t : Nat)
  /-- RESTORE_COMPLETE (R102). -/
  | restoreComplete (t : Nat)
  /-- SCHEDULE_ECC_ERROR (R74). -/
  | scheduleEccError (t : Nat) (corrected : Bool) (cell : Option Nat)
  /-- CELL_WRITE (R80). -/
  | cellWrite (t : Nat) (v : Word)
  /-- REGION_PRESET_LOAD (R147). -/
  | regionPresetLoad (t : Nat) (region : Nat)
  /-- DRONE_BEACON_SUBMIT (R126). -/
  | droneBeaconSubmit (t : Nat)
  /-- RECOVERY_TIMEOUT (R137). -/
  | recoveryTimeout (t : Nat)
  /-- ACQUIRE_SCAN_EXPIRY (R137). -/
  | acquireScanExpiry (t : Nat)
  /-- ORPHAN_RETRY_EXPIRY (R137). -/
  | orphanRetryExpiry (t : Nat)
  /-- TXFC_REFILL_DONE (R121). -/
  | txfcRefillDone (t : Nat)
  /-- NONCE_REFILL_DONE (R291). -/
  | nonceRefillDone (t : Nat)
  /-- ENERGY_WINDOW_END (R174). -/
  | energyWindowEnd (t : Nat) (windows : List BinWindow)
  /-- PREAMBLE_QUALIFIED (R177). -/
  | preambleQualified (t : Nat) (found : List Detection)
  /-- CAPTURE_RELOCK (R179). -/
  | captureRelock (t : Nat) (lane q start : Nat)
  /-- SYNC_ACCEPTED (R178). -/
  | syncAccepted (t : Nat) (lane errors : Nat)
  /-- SYNC_LOST (R178). -/
  | syncLost (t : Nat) (lane : Nat)
  /-- HEADER_DECODED (R181). -/
  | headerDecoded (t : Nat) (lane : Nat) (header : Word)
  /-- FRAME_END (R182). -/
  | frameEnd (t : Nat) (lane : Nat) (payload : List Byte) (crc err : Nat) (link : LinkData) (fail : Bool)
  /-- IEEE154_FRAME_END (R173). -/
  | ieee154FrameEnd (t : Nat) (lane : Nat) (psdu : List Byte) (fcs : Nat) (link : LinkData) (fail : Bool)
  /-- SIC_JOB_START (R211). -/
  | sicJobStart (t : Nat)
  /-- SIC_SUBTRACTION_DONE (R211). -/
  | sicSubtractionDone (t : Nat) (residue : List Word) (found : List Detection)
  /-- RESIDUE_SCAN_DONE (R212). -/
  | residueScanDone (t : Nat)
  /-- RESIDUE_AGE_EXPIRY (R213). -/
  | residueAgeExpiry (t : Nat)
  /-- AGC_GAIN_STEP (R223). -/
  | agcGainStep (t : Nat) (chain : Nat) (down : Bool)
  /-- CAPTURE_START (R226). -/
  | captureStart (t : Nat)
  /-- CAPTURE_DONE (R226). -/
  | captureDone (t : Nat) (samples : List Word)
  /-- CAP_DATA_READ (R226). -/
  | capDataRead (t : Nat)
  /-- FIR_CHECK (R232). -/
  | firCheck (t : Nat)
  /-- FIR_CHECK_DONE (R232). -/
  | firCheckDone (t : Nat)
  /-- FIR_UNLOCK (R233). -/
  | firUnlock (t : Nat)
  /-- ANTENNA_FAULT (R238). -/
  | antennaFault (t : Nat) (gamma phase fwd : Nat) (external : Bool)
  /-- ANTENNA_RETRY (R239). -/
  | antennaRetry (t : Nat)
  /-- SYNTH_UNLOCK (R222). -/
  | synthUnlock (t : Nat) (tx : Bool)
  /-- BAND_RESELECT (R241). -/
  | bandReselect (t : Nat) (tx : Bool)
  /-- RECAL_DUE_EXPIRY (R241). -/
  | recalDueExpiry (t : Nat)
  /-- ESM_ACCESS (R510). -/
  | esmAccess (t : Nat) (core a size : Nat) (write : Bool) (v : Word) (err : Nat)
  /-- ESM_SCRUB (R250). -/
  | esmScrub (t : Nat) (n err : Nat)
  /-- CHECKPOINT_TIMER (R270). -/
  | checkpointTimer (t : Nat)
  /-- CKPT_NOW (R271). -/
  | ckptNow (t : Nat)
  /-- CLOSE (R272). -/
  | close (t : Nat)
  /-- CHECKPOINT_DONE (R269). -/
  | checkpointDone (t : Nat)
  /-- CHECKPOINT_RETRY (R270). -/
  | checkpointRetry (t : Nat)
  /-- ESM_RESTORE (R273). -/
  | esmRestore (t : Nat)
  /-- JOIN_REQUEST (R264). -/
  | joinRequest (t : Nat) (eui g : Nat)
  /-- JOIN_ACCEPT_DONE (R265). -/
  | joinAcceptDone (t : Nat)
  /-- DIRECTORY_COMPACTION (R260). -/
  | directoryCompaction (t : Nat)
  /-- LOOKUP_EUI (R274). -/
  | lookupEui (t : Nat) (fail : Bool)
  /-- LOOKUP_INDEX (R274). -/
  | lookupIndex (t : Nat) (fail : Bool)
  /-- SUSPEND (R267). -/
  | suspend (t : Nat)
  /-- RESUME (R267). -/
  | resume (t : Nat)
  /-- REVOKE (R267). -/
  | revoke (t : Nat)
  /-- DELETE (R267). -/
  | delete (t : Nat)
  /-- CHECKPOINT (R274). -/
  | checkpoint (t : Nat)
  /-- STATS (R274). -/
  | stats (t : Nat) (fail : Bool)
  /-- OWNER_SET (R304). -/
  | ownerSet (t : Nat)
  /-- CRY_OP (R283). -/
  | cryOp (t : Nat)
  /-- CIPHER_REQUEST_DONE (R282). -/
  | cipherRequestDone (t : Nat) (fail : Bool)
  /-- KEY_IMPORT (R286). -/
  | keyImport (t : Nat)
  /-- SIG_SIGN (R300). -/
  | sigSign (t : Nat)
  /-- SIG_VERIFY (R300). -/
  | sigVerify (t : Nat)
  /-- HASH (R300). -/
  | hash (t : Nat)
  /-- SIG_OPERATION_DONE (R299). -/
  | sigOperationDone (t : Nat) (fail : Bool)
  /-- ATTEST_REPORT (R302). -/
  | attestReport (t : Nat) (fail : Bool)
  /-- ATTEST_CHAIN (R302). -/
  | attestChain (t : Nat) (fail : Bool)
  /-- TXFC_RESTART (R292). -/
  | txfcRestart (t : Nat)
  /-- ALARM (R296). -/
  | alarm (t : Nat) (src : Nat)
  /-- ALARM_CLEAR (R297). -/
  | alarmClear (t : Nat) (mask present : Nat)
  /-- KEY_RESTORE (R297). -/
  | keyRestore (t : Nat)
  /-- KEY_RESTORE_DONE (R297). -/
  | keyRestoreDone (t : Nat)
  /-- LINE_TEST (R311). -/
  | lineTest (t : Nat) (p fault pair dist : Nat)
  /-- LINE_SHORT_DETECT (R311). -/
  | lineShortDetect (t : Nat) (p : Nat) (toVsup : Bool) (pair : Nat)
  /-- RATE_FALLBACK (R310). -/
  | rateFallback (t : Nat) (p : Nat)
  /-- SKEIN_FRAME_BOUNDARY (R313). -/
  | skeinFrameBoundary (t : Nat) (xo : Int)
  /-- TIME_MARK_RECEIVED (R323). -/
  | timeMarkReceived (t : Nat) (p : Nat) (m : Mark) (valid : Bool) (violations : Nat)
  /-- LINK_UP (R318). -/
  | linkUp (t : Nat) (p : Nat)
  /-- LINK_DOWN (R318). -/
  | linkDown (t : Nat) (p : Nat) (quiet : Bool)
  /-- EVENT_CELL_RECEIVED (R452). -/
  | eventCellReceived (t : Nat) (p : Nat) (valid : Bool) (skc : Word) (kind origin seq : Nat)
  /-- DELAY_RECORD (R323). -/
  | delayRecord (t : Nat) (p : Nat) (d : Int)
  /-- ELECT_RECORD (R319). -/
  | electRecord (t : Nat) (p : Nat) (head : Cand) (dep : Option Cand)
  /-- ENUM_RECORD (R321). -/
  | enumRecord (t : Nat) (p : Nat) (e : Enum)
  /-- PRUNE_RECORD (R321). -/
  | pruneRecord (t : Nat) (p id port : Nat)
  /-- QUENCH_RECORD (R338). -/
  | quenchRecord (t : Nat) (p head : Nat) (set : Bool) (seq : Nat)
  /-- ENUM_REFRESH (R321). -/
  | enumRefresh (t : Nat)
  /-- MEMBER_TIMEOUT (R321). -/
  | memberTimeout (t : Nat) (id : Nat)
  /-- INCUMBENCY (R319). -/
  | incumbency (t : Nat)
  /-- ELECTION_SETTLED (R339). -/
  | electionSettled (t : Nat)
  /-- ORPHAN_TIMEOUT (R339). -/
  | orphanTimeout (t : Nat)
  /-- SKN_SEND (R330). -/
  | sknSend (t : Nat)
  /-- SKN_REMOTE_RESET (R336). -/
  | sknRemoteReset (t : Nat)
  /-- SKEIN_DEPART (R331). -/
  | skeinDepart (t : Nat) (idx : Nat)
  /-- SKEIN_MESSAGE_RECEIVED (R332). -/
  | skeinMessageReceived (t : Nat) (p : Nat) (m : SknMsg) (crcOk fail : Bool)
  /-- SKEIN_ACK_RECEIVED (R334). -/
  | skeinAckReceived (t : Nat) (seq result : Nat)
  /-- ACK_TIMEOUT (R333). -/
  | ackTimeout (t : Nat) (idx : Nat)
  /-- HOLD_EXPIRY (R334). -/
  | holdExpiry (t : Nat) (idx : Nat)
  /-- REMOTE_RESET_RECEIVED (R337). -/
  | remoteResetReceived (t : Nat) (m : SknMsg)
  /-- REMOTE_RESET_EXECUTE (R337). -/
  | remoteResetExecute (t : Nat)
  /-- UNBLOCK (R322). -/
  | unblock (t : Nat)
  /-- QUENCH_RELEASE (R338). -/
  | quenchRelease (t : Nat)
  /-- COMMIT (R353). -/
  | commit (t : Nat)
  /-- STORE_WRITE (R353). -/
  | storeWrite (t : Nat) (v : Word)
  /-- BUDGET_PERIOD_START (R355). -/
  | budgetPeriodStart (t : Nat)
  /-- HARVEST_HOUR_END (R354). -/
  | harvestHourEnd (t : Nat)
  /-- SUPPLY_WARNING (R493). -/
  | supplyWarning (t : Nat) (mv : Nat)
  /-- WARNING_CLEAR (R360). -/
  | warningClear (t : Nat) (mv : Nat)
  /-- ECONOMY_HOLD_END (R360). -/
  | economyHoldEnd (t : Nat)
  /-- FL_READ (R370). -/
  | flRead (t : Nat) (corrected : Nat) (bad : List Nat) (fail : Bool)
  /-- FL_PROGRAM (R374). -/
  | flProgram (t : Nat)
  /-- FL_ERASE (R384). -/
  | flErase (t : Nat)
  /-- FL_COUNTER (R388). -/
  | flCounter (t : Nat)
  /-- DIRECT_PROGRAM (R373). -/
  | directProgram (t : Nat) (req : Requester) (v : Word)
  /-- DIRECT_ERASE (R373). -/
  | directErase (t : Nat) (req : Requester) (v : Word)
  /-- FLASH_OP_DONE (R381). -/
  | flashOpDone (t : Nat) (bank : Nat) (badWord : Option Nat) (failMask : Nat)
  /-- FLASH_SUSPEND (R375). -/
  | flashSuspend (t : Nat) (a : Nat) (r : FlashReader)
  /-- FLASH_RESUME (R376). -/
  | flashResume (t : Nat) (bank : Nat)
  /-- FLASH_OCCUPANCY_STOP (R380). -/
  | flashOccupancyStop (t : Nat) (bank : Nat)
  /-- SCRUB_REFRESH (R385). -/
  | scrubRefresh (t : Nat) (a errors : Nat)
  /-- EXEC_LOCK_WRITE (R379). -/
  | execLockWrite (t : Nat) (v : Word)
  /-- BOOT (R395). -/
  | boot (t : Nat) (loaderOk : Bool) (cfg : Option BootConfig) (recordOk : Bool) (ownerKey : Option (List Byte)) (step2Ok : Bool)
  /-- IMAGE_PIECE_MANIFEST (R399). -/
  | imagePieceManifest (t : Nat) (src : Nat) (bytes : List Byte)
  /-- IMAGE_PIECE_HASH (R401). -/
  | imagePieceHash (t : Nat) (src : Nat) (bytes : List Byte)
  /-- IMAGE_PIECE_DATA (R401). -/
  | imagePieceData (t : Nat) (src : Nat) (bytes : List Byte)
  /-- STAGING_CHECK_DONE (R403). -/
  | stagingCheckDone (t : Nat) (target : Nat)
  /-- ACTIVATE (R408). -/
  | activate (t : Nat)
  /-- HANDOVER (R408). -/
  | handover (t : Nat) (req : Requester)
  /-- ALIVE (R408). -/
  | alive (t : Nat) (req : Requester)
  /-- CONFIRM (R408). -/
  | confirm (t : Nat) (req : Requester)
  /-- REVERT (R409). -/
  | revert (t : Nat)
  /-- ABANDON (R413). -/
  | abandon (t : Nat)
  /-- QUIESCE_TIMEOUT (R408). -/
  | quiesceTimeout (t : Nat)
  /-- ALIVE_TIMEOUT (R409). -/
  | aliveTimeout (t : Nat)
  /-- TRIAL_EXPIRY (R409). -/
  | trialExpiry (t : Nat)
  /-- DIST_START (R411). -/
  | distStart (t : Nat)
  /-- DIST_STOP (R411). -/
  | distStop (t : Nat)
  /-- DIST_STATUS (R411). -/
  | distStatus (t : Nat) (fail : Bool)
  /-- DIST_CLEAR (R411). -/
  | distClear (t : Nat)
  /-- DIST_CAROUSEL_FRAME (R412). -/
  | distCarouselFrame (t : Nat) (d : Nat)
  /-- DIST_SNAPSHOT (R412). -/
  | distSnapshot (t : Nat) (d : Nat)
  /-- REQA (R416). -/
  | reqa (t : Nat) (wupa : Bool)
  /-- ANTICOLLISION (R417). -/
  | anticollision (t : Nat) (level : Nat) (known : List Bool)
  /-- SELECT (R418). -/
  | select (t : Nat) (level : Nat) (uid : List Byte)
  /-- RATS (R419). -/
  | rats (t : Nat)
  /-- PPS (R419). -/
  | pps (t : Nat) (rate : Nat)
  /-- DESELECT (R432). -/
  | deselect (t : Nat) (hlta : Bool)
  /-- NDEF_SELECT (R420). -/
  | ndefSelect (t : Nat) (byName : Bool) (name : List Byte)
  /-- READ_BINARY (R420). -/
  | readBinary (t : Nat) (offset : Nat) (n : Nat)
  /-- UPDATE_BINARY (R420). -/
  | updateBinary (t : Nat)
  /-- WRITE_BEGIN (R423). -/
  | writeBegin (t : Nat) (cla : Nat) (data : List Byte)
  /-- WRITE_DATA (R423). -/
  | writeData (t : Nat) (cla : Nat) (offset : Nat) (data : List Byte)
  /-- WRITE_COMMIT (R428). -/
  | writeCommit (t : Nat) (cla : Nat) (data : List Byte) (collapse : Option (Nat × Nat)) (verifyFail : Bool)
  /-- WRITE_ABORT (R423). -/
  | writeAbort (t : Nat) (cla : Nat)
  /-- TAG_STATUS (R423). -/
  | tagStatus (t : Nat) (cla : Nat)
  /-- FIELD_ON (R434). -/
  | fieldOn (t : Nat)
  /-- FIELD_OFF (R434). -/
  | fieldOff (t : Nat)
  /-- QUIET_EXPIRY (R432). -/
  | quietExpiry (t : Nat)
  /-- UNQUIET (R433). -/
  | unquiet (t : Nat)
  /-- COIL_TEST (R436). -/
  | coilTest (t : Nat) (result : Nat) (ball : Nat)
  /-- EVENT_FIRE (R446). -/
  | eventFire (t : Nat)
  /-- SWFIRE (R450). -/
  | swfire (t : Nat) (k : Nat) (v : Word)
  /-- GRP_SET (R442). -/
  | grpSet (t : Nat) (v : Word)
  /-- GRP_CLR (R442). -/
  | grpClr (t : Nat) (v : Word)
  /-- PUB_SUB_WRITE (R448). -/
  | pubSubWrite (t : Nat) (a : Nat) (v : Word)
  /-- TIMER_TICK (R454). -/
  | timerTick (t : Nat) (n : Nat)
  /-- GSTART (R454). -/
  | gstart (t : Nat) (v : Word)
  /-- GSTOP (R454). -/
  | gstop (t : Nat) (v : Word)
  /-- GRELOAD (R454). -/
  | greload (t : Nat) (v : Word)
  /-- STAGGER (R459). -/
  | stagger (t : Nat) (v : Word)
  /-- TIMER_CTL_WRITE (R458). -/
  | timerCtlWrite (t : Nat) (n : Nat) (v : Word)
  /-- OSC_START_DELAY_END (R465). -/
  | oscStartDelayEnd (t : Nat) (src : Nat) (valid : Bool) (meas : Nat)
  /-- CLOCK_MONITOR_TRIP (R477). -/
  | clockMonitorTrip (t : Nat) (src : Nat)
  /-- RC_TRIM (R471). -/
  | rcTrim (t : Nat) (hf : Nat) (lf : Nat)
  /-- PLL_UNLOCK (R475). -/
  | pllUnlock (t : Nat)
  /-- DSP_PLL_UNLOCK (R476). -/
  | dspPllUnlock (t : Nat)
  /-- PLL_RELOCK (R475). -/
  | pllRelock (t : Nat) (dsp : Bool)
  /-- RELOCK_TIMEOUT (R475). -/
  | relockTimeout (t : Nat)
  /-- CHANTER_WAKE (R479). -/
  | chanterWake (t : Nat)
  /-- BROWN_OUT (R491). -/
  | brownOut (t : Nat) (mv : Nat)
  /-- OVERVOLTAGE (R485). -/
  | overvoltage (t : Nat) (mv : Nat)
  /-- POWER_ON (R491). -/
  | powerOn (t : Nat) (iosel : Nat)
  /-- VIOOUT_FAULT (R490). -/
  | vioFault (t : Nat)
  /-- VIOOUT_RETRY (R490). -/
  | vioRetry (t : Nat)
  /-- WARN_WRITE (R492). -/
  | warnWrite (t : Nat) (v : Word) (mv : Nat)
  /-- SLEEP_REQUEST (R495). -/
  | sleepRequest (t : Nat)
  /-- HIBERNATE_REQUEST (R495). -/
  | hibernateRequest (t : Nat)
  /-- POWER_REQUEST_CANCEL (R495). -/
  | powerRequestCancel (t : Nat)
  /-- POWER_STATE_ENTRY (R495). -/
  | powerStateEntry (t : Nat)
  /-- WAKE (R497). -/
  | wake (t : Nat) (src : Nat)
  /-- RESET_PIN (R499). -/
  | resetPin (t : Nat) (low : Bool)
  /-- RESET_PIN_LONG (R499). -/
  | resetPinLong (t : Nat) (iosel : Nat)
  /-- DEVICE_RESET (R498). -/
  | deviceReset (t : Nat) (cause : Nat)
  /-- APPLICATION_RESET (R19). -/
  | applicationReset (t : Nat) (cause : Nat)
  /-- SOFT_RESET (R501). -/
  | softReset (t : Nat) (v : Word)
  /-- SOFT_APP_RESET (R501). -/
  | softAppReset (t : Nat) (v : Word)
  /-- WDT_KICK (R500). -/
  | wdtKick (t : Nat) (v : Word)
  /-- WDT_HALF (R500). -/
  | wdtHalf (t : Nat)
  /-- WDT_SYSTEM (R500). -/
  | wdtSystem (t : Nat)
  /-- WDT_LOCK (R500). -/
  | wdtLock (t : Nat) (v : Word)
  /-- CORE_WDT_KICK (R514). -/
  | coreWdtKick (t : Nat) (v : Word)
  /-- WDT_CORE (R514). -/
  | wdtCore (t : Nat)
  /-- OUTPUT_SHORT (R504). -/
  | outputShort (t : Nat) (pin : Nat)
  /-- DOUBLE_FAULT (R513). -/
  | doubleFault (t : Nat) (c : Nat) (mepc : Nat)
  /-- SUBMIT (R517). -/
  | submit (t : Nat) (ring : Nat) (addr : Nat)
  /-- WAIT (R517). -/
  | wait (t : Nat) (addr : Nat) (ms : Nat)
  /-- YIELD (R517). -/
  | yield (t : Nat)
  /-- PARTITION_FAULT (R516). -/
  | partitionFault (t : Nat) (mcause : Nat)
  /-- DEBUG_CHALLENGE (R519). -/
  | debugChallenge (t : Nat)
  /-- DEBUG_AUTH (R519). -/
  | debugAuth (t : Nat) (scope : Nat) (sig : List Byte)
  /-- DEBUG_AUTH_DONE (R519). -/
  | debugAuthDone (t : Nat)
  /-- DMI_ACCESS (R518). -/
  | dmiAccess (t : Nat) (write : Bool)
  /-- DEBUG_HALT (R520). -/
  | debugHalt (t : Nat) (c : Nat)
  /-- DEBUG_MUTE_WRITE (R520). -/
  | debugMuteWrite (t : Nat) (v : Bool)
  /-- END (R519). -/
  | endSession (t : Nat)
  /-- PLIC_CLAIM (R537). -/
  | plicClaim (t : Nat) (ctx : Nat)
  /-- PLIC_COMPLETE (R511). -/
  | plicComplete (t : Nat) (ctx : Nat) (id : Nat)
  /-- GPIO_EDGE (R522). -/
  | gpioEdge (t : Nat) (u : Nat) (rising : Bool)
  /-- UART_DATA_WRITE (R523). -/
  | uartDataWrite (t : Nat) (i : Nat) (b : Byte)
  /-- UART_DATA_READ (R537). -/
  | uartDataRead (t : Nat) (i : Nat)
  /-- UART_RECEIVE (R523). -/
  | uartReceive (t : Nat) (i : Nat) (b : Byte) (bad : Bool)
  /-- SPI_DATA_WRITE (R524). -/
  | spiDataWrite (t : Nat) (i : Nat) (v : Word)
  /-- SPI_DATA_READ (R537). -/
  | spiDataRead (t : Nat) (i : Nat)
  /-- I2C_GO (R525). -/
  | i2cGo (t : Nat) (i : Nat) (v : Word)
  /-- I2C_DATA_ACCESS (R537). -/
  | i2cDataAccess (t : Nat) (i : Nat) (write : Bool) (b : Byte)
  /-- I2C_COMMAND_END (R525). -/
  | i2cCommandEnd (t : Nat) (i : Nat) (nack : Bool) (arb : Bool) (bytes : List Byte)
  /-- TAMPER_TEST (R526). -/
  | tamperTest (t : Nat) (n : Nat) (line : Nat) (level : Bool)
  /-- HKA_START (R528). -/
  | hkaStart (t : Nat)
  /-- HKA_SEQUENCE_DONE (R528). -/
  | hkaSequenceDone (t : Nat) (results : List (Nat × Nat × Nat))
  /-- CB_DATA_READ (R537). -/
  | cbDataRead (t : Nat)
  /-- PCIE_LINK_UP (R555). -/
  | pcieLinkUp (t : Nat)
  /-- WFI (R494). -/
  | wfi (t : Nat) (core : Nat)
  /-- METER_SAMPLE (R345). -/
  | meterSample (t : Nat) (uj : Nat) (mv : Nat)
  /-- GUARD_TIME_MET (R375). -/
  | guardTimeMet (t : Nat) (bank : Nat)
  /-- SHR_DETECTED (R196). -/
  | shrDetected (t : Nat) (lane start cfo q : Nat)
  /-- SYNTH_RELOCK (R222). -/
  | synthRelock (t : Nat) (tx : Bool)
  /-- DEBUG_RESUME (R520). -/
  | debugResume (t : Nat) (c : Nat)
  /-- WAIT_TIMEOUT (R517). -/
  | waitTimeout (t : Nat)
  /-- SPI_FRAME_END (R524). -/
  | spiFrameEnd (t : Nat) (i : Nat) (v : Word)
  /-- UART_BYTE_SENT (R523). -/
  | uartByteSent (t : Nat) (i : Nat)
  /-- AON_LOSS (R486). -/
  | aonLoss (t : Nat)
  /-- LOCK_AT_RATE (R310). -/
  | lockAtRate (t : Nat) (p : Nat) (low inverted : Bool)
  /-- AGGREGATED_COPY_DELIVERY (R28). -/
  | aggregatedCopyDelivery (t first : Nat) (frame : List Byte) (others : List (Nat × Nat)) (fail : Bool)
  /-- LOWER_WORD_READ (R535). -/
  | lowerWordRead (t : Nat) (req : Requester) (a : Nat)
  deriving DecidableEq, Repr

end Sys2Proof
end

