-- ==== Sys2Proof/Decode.lean ====
section
/-! DEFINITION. The words of the command table.  No row of spec/opcode_table.json gives bits: the commands come from
outside as register accesses, bus transfers and events, not as instruction words, so no word spells one. -/

namespace Sys2Proof

/-- The command that a word spells by the table's bits: none, for no row gives bits. -/
def decodeTableWord (_nbits _w : Nat) : Option Instr := none

end Sys2Proof
end

