-- ==== Sys2Proof/Config.lean ====
section
/-! DEFINITION. What the spec leaves to the implementation or to standards it only names: free values and the
cryptographic functions.  None has a body, so no proof can see a value of it (notes/assumptions/3.md, 4.md). -/

namespace Sys2Proof

/-- A value that the spec leaves open; the argument is the state's free-value counter (notes/assumptions/3.md). -/
opaque Config.freeNat : Nat → Nat

/-- An AES key: AES-256 or AES-128 (R284), and its bytes as one number, first byte most significant. -/
structure AesKey where
  wide : Bool
  value : Nat
  deriving DecidableEq, Repr

/-- The AES block cipher (FIPS 197) that the modes of Table 9-2 build on, and its inverse: key and block, first byte most
significant (R278, R280). -/
opaque Config.aesBlock : AesKey → Nat → Nat
opaque Config.aesInverse : AesKey → Nat → Nat
/-- The tag-length field that the first CCM* block carries for a tag of an odd number of bytes or of 2 bytes, which IEEE
802.15.4-2020 does not define (Table 9-3, TAGLEN). -/
opaque Config.ccmOddField : Nat → Nat
/-- SHAKE256: input bytes and number of output bytes (R299, R300). -/
opaque Config.shake256 : List Byte → Nat → List Byte
/-- Ed448 signature: key and message digest bytes (R299, R301). -/
opaque Config.ed448Sign : Nat → List Byte → List Byte
/-- Is a 57-byte string a valid Ed448 public key (R304)? -/
opaque Config.ed448Valid : List Byte → Bool
/-- A value that is drawn from the true random source: the counter of draws (R286, R519). -/
opaque Config.random : Nat → Nat
/-- Does an Ed448 signature verify: public key, context, message, signature (R300, R399, R516)? -/
opaque Config.ed448Verify : List Byte → List Byte → List Byte → List Byte → Bool
/-- The vendor public key whose hash is fused (Table 13-2), and the device's serial number (R417, Table 9-7). -/
opaque Config.vendorKey : List Byte
opaque Config.serial : Nat
/-- The device identity private key and its certificate chain, in the device since its factory test (R301). -/
opaque Config.identityKey : Nat
opaque Config.certificateChain : List Byte
/-- The device identity public key and the origin signature that sector 0 of the field bank holds (R421). -/
opaque Config.identityTail : List Byte

/-- A merged copy of an uplink frame with its list of receiving devices and link quality, whose layout the spec does not
give (R28). -/
opaque Config.mergedCopy : List Byte → List (Nat × Nat) → List Byte

/-- The subsystem IDs of the PCIe function that a configuration record gives (R35). -/
opaque Config.subsystemIds : List Byte → Word

/-- A 14-bit ADC value of a chain in gain state MID (1) or LOW (2), scaled by the inverse of its gain steps (R224): the
steps are stated in dB, the number format of the product is not. -/
opaque Config.gainScale : Nat → BitVec 14 → BitVec 16

end Sys2Proof
end

