-- ==== Sys2Proof/Machine/RegMap.lean ====
section
/-! DEFINITION. The register map: where every register of Table 19-2 lies, its access masks (Table 0-4),
its reset word, and where every field of the chapters' field maps lies.
Generated once from the field-map tables of spec/02 to spec/18 and Table 19-2; reset values that the spec takes from
the profile, the configuration record, the factory, fuses or flash hold the anchor profile's or the named value of
notes/assumptions/2.md, and BOOT (R395) overwrites them from the configuration record.
Names: `Reg.X` is the internal address of register X (an element of an array takes its index), `F.X_Y` is field Y of X. -/

namespace Sys2Proof.Machine

/-- One field of a register: the register's address, the field's lowest bit and its width (R14). -/
structure Fld where
  addr : Nat
  lo : Nat
  width : Nat
  deriving DecidableEq, Repr

/-- One named register or register array of Table 19-2: its offset, how often it repeats and at which stride
(twice for arrays of arrays), its access masks (Table 0-4) and its reset word.  `high` marks the upper word of a
64-bit register (R535). -/
structure RegDesc where
  off : Nat
  n : Nat := 1
  stride : Nat := 4
  n2 : Nat := 1
  stride2 : Nat := 4
  high : Bool := false
  low64 : Bool := false
  rw : Nat := 0
  rwe : Nat := 0
  w1c : Nat := 0
  w1s : Nat := 0
  wo : Nat := 0
  rst : Nat := 0
  rstStep : Nat := 0
  rstTab : List Nat := []
  deriving DecidableEq, Repr

/-- Base address of a block's 64 KiB (R13). -/
def blockBase (b : Nat) : Nat := 0x40000000 + b * 0x10000

/-- The flat index of the element at offset `o`, when `o` is one of the words the descriptor names. -/
def regIndex (d : RegDesc) (o : Nat) : Option Nat :=
  if o < d.off then none
  else
    let r := o - d.off
    let i := r / d.stride
    let r' := r - i * d.stride
    if i < d.n then
      if d.n2 = 1 then (if r' = 0 then some i else none)
      else
        let j := r' / d.stride2
        if j < d.n2 && r' % d.stride2 == 0 then some (i * d.n2 + j) else none
    else none

/-- Block id of SYS (Table 0-3). -/
def Blk.SYS : Nat := 0

/-- Block id of SUP (Table 0-3). -/
def Blk.SUP : Nat := 1

/-- Block id of CLK (Table 0-3). -/
def Blk.CLK : Nat := 2

/-- Block id of BLW (Table 0-3). -/
def Blk.BLW : Nat := 3

/-- Block id of HRE (Table 0-3). -/
def Blk.HRE : Nat := 4

/-- Block id of RFE (Table 0-3). -/
def Blk.RFE : Nat := 5

/-- Block id of PHY (Table 0-3). -/
def Blk.PHY : Nat := 6

/-- Block id of MUR (Table 0-3). -/
def Blk.MUR : Nat := 7

/-- Block id of CHN (Table 0-3). -/
def Blk.CHN : Nat := 8

/-- Block id of MAC (Table 0-3). -/
def Blk.MAC : Nat := 9

/-- Block id of ESM (Table 0-3). -/
def Blk.ESM : Nat := 10

/-- Block id of CRY (Table 0-3). -/
def Blk.CRY : Nat := 11

/-- Block id of SIG (Table 0-3). -/
def Blk.SIG : Nat := 12

/-- Block id of SKN (Table 0-3). -/
def Blk.SKN : Nat := 13

/-- Block id of FLC (Table 0-3). -/
def Blk.FLC : Nat := 14

/-- Block id of UPD (Table 0-3). -/
def Blk.UPD : Nat := 15

/-- Block id of TAG (Table 0-3). -/
def Blk.TAG : Nat := 16

/-- Block id of EVF (Table 0-3). -/
def Blk.EVF : Nat := 17

/-- Block id of TMB (Table 0-3). -/
def Blk.TMB : Nat := 18

/-- Block id of CPX (Table 0-3). -/
def Blk.CPX : Nat := 19

/-- Block id of PER (Table 0-3). -/
def Blk.PER : Nat := 20

/-- Block id of HKA (Table 0-3). -/
def Blk.HKA : Nat := 21

/-- Block id of SEC (Table 0-3). -/
def Blk.SEC : Nat := 22

/-- Registers of block SYS (Table 19-2) beside BLK_CTL and BLK_CHK. -/
def regsSYS : List RegDesc := [
    { off := 0x10, w1s := 0x3, wo := 0xffff0000 },  -- SYS_CTL
    { off := 0x14, rst := 0x1040001 },  -- SYS_RST
    { off := 0x18 },  -- SYS_RST_PREV
    { off := 0x20, low64 := true },  -- SYS_RST_TIME
    { off := 0x24, high := true },  -- SYS_RST_TIME upper
    { off := 0x28, rw := 0xff, w1s := 0x100 },  -- SYS_WDT_CFG
    { off := 0x2c, wo := 0xffffffff },  -- SYS_WDT_KICK
    { off := 0x30, w1c := 0x1 },  -- SYS_ISR
    { off := 0x34, rw := 0x1 },  -- SYS_IER
    { off := 0x40, n := 14, stride := 0x4 }  -- SYS_RSTCNT
  ]

/-- Registers of block SUP (Table 19-2) beside BLK_CTL and BLK_CHK. -/
def regsSUP : List RegDesc := [
    { off := 0x10, rw := 0x3f, rwe := 0x100, rst := 0x100 },  -- SUP_CFG
    { off := 0x14, rst := 0x8c0000 },  -- SUP_STATUS
    { off := 0x18 },  -- SUP_VSUP
    { off := 0x1c, rw := 0x3 },  -- SUP_PWR
    { off := 0x20, w1c := 0x3f },  -- SUP_ISR
    { off := 0x24, rw := 0x3f },  -- SUP_IER
    { off := 0x28, rw := 0x1ffffff },  -- SUP_WAKE
    { off := 0x2c },  -- SUP_WAKE_SRC
    { off := 0x30, rw := 0xffff, rst := 0xffff },  -- SUP_RET
    { off := 0x40, n := 4, stride := 0x4 }  -- SUP_CNT
  ]

/-- Registers of block CLK (Table 19-2) beside BLK_CTL and BLK_CHK. -/
def regsCLK : List RegDesc := [
    { off := 0x10, rwe := 0x3ff, rst := 0x7f },  -- CLK_CFG
    { off := 0x14, rst := 0x2 },  -- CLK_STATUS
    { off := 0x18 },  -- CLK_XO_MEAS
    { off := 0x1c },  -- CLK_TRIM
    { off := 0x20, w1c := 0x3ff },  -- CLK_ISR
    { off := 0x24, rw := 0x3ff },  -- CLK_IER
    { off := 0x40, n := 10, stride := 0x4 },  -- CLK_LOST
    { off := 0x80, n := 6, stride := 0x4 }  -- CLK_CNT
  ]

/-- Registers of block BLW (Table 19-2) beside BLK_CTL and BLK_CHK. -/
def regsBLW : List RegDesc := [
    { off := 0x10, rwe := 0x7fff7f, rst := 0x783c1a },  -- BLW_CFG
    { off := 0x14, rwe := 0x3ff, rst := 0xa },  -- BLW_ECON
    { off := 0x18, rw := 0xffffffff, rst := 0x38403e8 },  -- BLW_CAP
    { off := 0x1c, rw := 0x7ffffff, rst := 0x2d0 },  -- BLW_SRC
    { off := 0x20, rw := 0xffffffff },  -- BLW_CAPACITY
    { off := 0x24, rw := 0xffffffff },  -- BLW_STORE
    { off := 0x28, w1s := 0x1 },  -- BLW_CTL
    { off := 0x2c },  -- BLW_STATUS
    { off := 0x30, n := 4, stride := 0x4, rw := 0xffffffff },  -- BLW_FLOOR
    { off := 0x40, n := 24, stride := 0x4, rw := 0xffff },  -- BLW_HARVEST
    { off := 0x90, w1c := 0x1f },  -- BLW_ISR
    { off := 0x94, rw := 0x1f },  -- BLW_IER
    { off := 0xa0, low64 := true },  -- BLW_METER
    { off := 0xa4, high := true },  -- BLW_METER upper
    { off := 0xa8 },  -- BLW_BUDGET
    { off := 0xac },  -- BLW_CHARGED
    { off := 0xb0 },  -- BLW_BACKGROUND
    { off := 0xb4 },  -- BLW_NEXT_BUDGET
    { off := 0xc0, n := 8, stride := 0x4 },  -- BLW_CNT
    { off := 0x100, n := 7, stride := 0x4, rw := 0x2ffff, rst := 0x10000, rstTab := [0x100f0, 0x137f0, 0x1073a, 0x10960, 0x10009, 0x10136, 0x11f40] },  -- BLW_COST
    { off := 0x140, n := 21, stride := 0x4, rw := 0x2ffff, rst := 0x10000, rstTab := [0x1017c, 0x1017f, 0x10182, 0x10186, 0x1018c, 0x10193, 0x1019c, 0x101a8, 0x101b8, 0x101cc, 0x101e7, 0x1020b, 0x1023c, 0x1027e, 0x102da, 0x1035b, 0x10412, 0x1051a, 0x1069a, 0x108d0, 0x10c1c] }  -- BLW_TXCOST
  ]

/-- Registers of block HRE (Table 19-2) beside BLK_CTL and BLK_CHK. -/
def regsHRE : List RegDesc := [
    { off := 0x10, rwe := 0xff02, rst := 0x800 },  -- HRE_CFG
    { off := 0x14 },  -- HRE_STATUS
    { off := 0x20, rw := 0x1 },  -- HRE_QUENCH
    { off := 0x24, w1c := 0xfffffff },  -- HRE_ISR
    { off := 0x28, rw := 0xfffffff },  -- HRE_IER
    { off := 0x30 },  -- HRE_EVT_LOST
    { off := 0x100, n := 24, stride := 0x20, rw := 0xfffff000 },  -- HRE_RING.BASE_LO
    { off := 0x104, n := 24, stride := 0x20, rw := 0xffffffff },  -- HRE_RING.BASE_HI
    { off := 0x108, n := 24, stride := 0x20, rw := 0x1fff011f, rstStep := 0x10000 },  -- HRE_RING.CFG
    { off := 0x10c, n := 24, stride := 0x20, rst := 0x10000 },  -- HRE_RING.HEAD
    { off := 0x110, n := 24, stride := 0x20 },  -- HRE_RING.STATUS
    { off := 0x114, n := 24, stride := 0x20 },  -- HRE_RING.RSV
    { off := 0x1000, n := 24, stride := 0x8, wo := 0xffff }  -- HRE_DB
  ]

/-- Registers of block RFE (Table 19-2) beside BLK_CTL and BLK_CHK. -/
def regsRFE : List RegDesc := [
    { off := 0x10, rwe := 0x7, rst := 0x7 },  -- RFE_CFG
    { off := 0x14, rwe := 0x3fffffff, rst := 0x33bca100 },  -- RFE_RXLO
    { off := 0x18, rwe := 0xfff, rst := 0x9fc },  -- RFE_NB
    { off := 0x1c },  -- RFE_STATUS
    { off := 0x20, w1c := 0x1f },  -- RFE_ISR
    { off := 0x24, rw := 0x1f },  -- RFE_IER
    { off := 0x28, rwe := 0x7, rst := 0x5 },  -- RFE_TX
    { off := 0x2c, rwe := 0x3fffff1f },  -- RFE_FEM
    { off := 0x30, rw := 0xff0001, w1s := 0x2, rst := 0x1 },  -- RFE_ANT
    { off := 0x34 },  -- RFE_ANT_MEAS
    { off := 0x40, n := 2, stride := 0x4, rwe := 0xffff, rst := 0x3220 },  -- RFE_RX
    { off := 0x80, rw := 0x4, w1s := 0x1 },  -- RFE_FIR_CTL
    { off := 0x100, n := 48, stride := 0x4, rw := 0xfff },  -- RFE_FIR
    { off := 0x200, n := 8, stride := 0x4, rw := 0x7f03ff, rstTab := [0x6007b, 0x1e00b9, 0x2800f6, 0x2d0171, 0x3201ec, 0x0, 0x0, 0x0] },  -- RFE_MASK
    { off := 0x300, rw := 0x7fc, w1s := 0x1 },  -- RFE_CAP_CTL
    { off := 0x304 },  -- RFE_CAP_DATA
    { off := 0x380, n := 5, stride := 0x4 }  -- RFE_CNT
  ]

/-- Registers of block PHY (Table 19-2) beside BLK_CTL and BLK_CHK. -/
def regsPHY : List RegDesc := [
    { off := 0x10, rwe := 0x1ff01ff, rst := 0x1ff01ff },  -- PHY_CFG
    { off := 0x14, rwe := 0x3ffff, rst := 0x21049 },  -- PHY_DET
    { off := 0x18, rwe := 0x3fffff1f, rst := 0x20462408 },  -- PHY_QUAL
    { off := 0x20, n := 6, stride := 0x4, rwe := 0xffffffff },  -- PHY_ALWAYS[0] to [5]
    { off := 0x38, rwe := 0xff },  -- PHY_ALWAYS[6]
    { off := 0x40, rw := 0xff },  -- PHY_FLOOR_IDX
    { off := 0x44 },  -- PHY_FLOOR_DATA
    { off := 0x80, n := 8, stride := 0x4 }  -- PHY_CNT
  ]

/-- Registers of block MUR (Table 19-2) beside BLK_CTL and BLK_CHK. -/
def regsMUR : List RegDesc := [
    { off := 0x10, rwe := 0x1f01ff, rst := 0x60066 },  -- MUR_CFG
    { off := 0x14, rst := 0x41040 },  -- MUR_CAP
    { off := 0x20, n := 6, stride := 0x4, rwe := 0xffffffff },  -- MUR_CSET[0] to [5]
    { off := 0x38, rwe := 0xff },  -- MUR_CSET[6]
    { off := 0x40, w1c := 0xf },  -- MUR_ISR
    { off := 0x44, rw := 0xf },  -- MUR_IER
    { off := 0x48 },  -- MUR_SEATS
    { off := 0x4c },  -- MUR_LOAD
    { off := 0x60, rw := 0x801f3fff },  -- MUR_CB_IDX
    { off := 0x64 },  -- MUR_CB_DATA
    { off := 0x80, n := 10, stride := 0x4 },  -- MUR_CNT
    { off := 0x100, n := 4, stride := 0x4, rwe := 0xf7 },  -- MUR_WIDE
    { off := 0x400, n := 64, stride := 0x20 },  -- MUR_LANE.STATE
    { off := 0x404, n := 64, stride := 0x20 },  -- MUR_LANE.TRIPLE
    { off := 0x408, n := 64, stride := 0x20 },  -- MUR_LANE.METRIC
    { off := 0x40c, n := 64, stride := 0x20 },  -- MUR_LANE.FRAMES
    { off := 0x410, n := 64, stride := 0x20, low64 := true },  -- MUR_LANE.START
    { off := 0x414, n := 64, stride := 0x20, high := true }  -- MUR_LANE.START upper
  ]

/-- Registers of block CHN (Table 19-2) beside BLK_CTL and BLK_CHK. -/
def regsCHN : List RegDesc := [
    { off := 0x10, rwe := 0x1fff0fff, rst := 0x10400440 },  -- CHN_CFG
    { off := 0x14, rwe := 0x7f7f7f, rst := 0x404040 },  -- CHN_PRIO_LIM
    { off := 0x18 },  -- CHN_STATUS
    { off := 0x1c },  -- CHN_USE
    { off := 0x20, w1c := 0x3f },  -- CHN_ISR
    { off := 0x24, rw := 0x3f, rst := 0x2 },  -- CHN_IER
    { off := 0x28 },  -- CHN_MISMATCH
    { off := 0x2c },  -- CHN_ECC
    { off := 0x30, rw := 0x3fff },  -- CHN_CAL_IDX
    { off := 0x38, low64 := true },  -- CHN_CAL_DATA
    { off := 0x3c, high := true },  -- CHN_CAL_DATA upper
    { off := 0x40, rw := 0xffff },  -- CHN_CELL_IDX
    { off := 0x44, rw := 0xffffffff },  -- CHN_CELL_LO
    { off := 0x48, rw := 0xffff },  -- CHN_CELL_HI
    { off := 0x100, n := 2, stride := 0x80, n2 := 8, stride2 := 0x10, rw := 0xffff0001 },  -- CHN_SF.CFG
    { off := 0x104, n := 2, stride := 0x80, n2 := 8, stride2 := 0x10, rw := 0xffff },  -- CHN_SF.FIRST
    { off := 0x108, n := 2, stride := 0x80, n2 := 8, stride2 := 0x10, rw := 0x1ffff },  -- CHN_SF.COUNT
    { off := 0x200, n := 2, stride := 0x100, n2 := 16, stride2 := 0x10, rw := 0xffff0f97 },  -- CHN_AC.CFG
    { off := 0x204, n := 2, stride := 0x100, n2 := 16, stride2 := 0x10, rw := 0xffffffff }  -- CHN_AC.POS
  ]

/-- Registers of block MAC (Table 19-2) beside BLK_CTL and BLK_CHK. -/
def regsMAC : List RegDesc := [
    { off := 0x10, rwe := 0x3f3f },  -- MAC_CFG
    { off := 0x14, rwe := 0x3f3ff1ff, rst := 0x400800c },  -- MAC_DRONE
    { off := 0x18, rwe := 0xfff7ffff, rst := 0x41931440 },  -- MAC_SYNC
    { off := 0x1c },  -- MAC_SYNC_STATUS
    { off := 0x20 },  -- MAC_FREQ_EST
    { off := 0x24 },  -- MAC_PHASE
    { off := 0x28, rw := 0xffff0000, rwe := 0x3fff, rst := 0xff0000 },  -- MAC_BCN
    { off := 0x2c },  -- MAC_TXFC
    { off := 0x30, w1c := 0x3f },  -- MAC_ISR
    { off := 0x34, rw := 0x3f },  -- MAC_IER
    { off := 0x38, rwe := 0xffff8f, rst := 0x5000 },  -- MAC_BCN_RADIO
    { off := 0x40, n := 7, stride := 0x4 },  -- MAC_RXCNT
    { off := 0x100, n := 16, stride := 0x10, rw := 0x3fffc3ff },  -- MAC_NBR.ADDR
    { off := 0x104, n := 16, stride := 0x10, rw := 0x7fff },  -- MAC_NBR.RADIO
    { off := 0x108, n := 16, stride := 0x10, rw := 0xffffffff },  -- MAC_NBR.FC_HWM
    { off := 0x10c, n := 16, stride := 0x10 },  -- MAC_NBR.QUAL
    { off := 0x200, n := 16, stride := 0x20, rwe := 0x3ff000f },  -- MAC_DC.CFG
    { off := 0x204, n := 16, stride := 0x20, rwe := 0xfffff },  -- MAC_DC.FLO
    { off := 0x208, n := 16, stride := 0x20, rwe := 0xfffff },  -- MAC_DC.FHI
    { off := 0x20c, n := 16, stride := 0x20, rwe := 0xffffffff },  -- MAC_DC.WIN
    { off := 0x210, n := 16, stride := 0x20, rwe := 0xffffffff },  -- MAC_DC.LBT
    { off := 0x214, n := 16, stride := 0x20 }  -- MAC_DC.USED
  ]

/-- Registers of block ESM (Table 19-2) beside BLK_CTL and BLK_CHK. -/
def regsESM : List RegDesc := [
    { off := 0x10, rwe := 0x13f, rst := 0x100 },  -- ESM_CFG
    { off := 0x14, rwe := 0xffffffff, rst := 0xffffffff },  -- ESM_BANKS
    { off := 0x18, rwe := 0xffffff, rst := 0x2805a0 },  -- ESM_CKPT
    { off := 0x1c, rst := 0x4b3 },  -- ESM_CKPT_MIN
    { off := 0x20, w1s := 0x3 },  -- ESM_CTL
    { off := 0x24, w1c := 0x1, rst := 0x1 },  -- ESM_STATUS
    { off := 0x28, w1c := 0x1f },  -- ESM_ISR
    { off := 0x2c, rw := 0x1f },  -- ESM_IER
    { off := 0x30 },  -- ESM_UE_IDX
    { off := 0x34 },  -- ESM_ECC
    { off := 0x38 },  -- ESM_CKPT_SEQ
    { off := 0x40, n := 4, stride := 0x4 }  -- ESM_CNT
  ]

/-- Registers of block CRY (Table 19-2) beside BLK_CTL and BLK_CHK. -/
def regsCRY : List RegDesc := [
    { off := 0x10, rwe := 0x1, rst := 0x1 },  -- CRY_CFG
    { off := 0x14 },  -- CRY_STATUS
    { off := 0x18, w1s := 0x1 },  -- CRY_CTL
    { off := 0x20, w1c := 0xf },  -- CRY_ISR
    { off := 0x24, rw := 0xf },  -- CRY_IER
    { off := 0x28 },  -- CRY_NONCE
    { off := 0x30, low64 := true },  -- CRY_NONCE_NEXT
    { off := 0x34, high := true },  -- CRY_NONCE_NEXT upper
    { off := 0x40, n := 4, stride := 0x4 },  -- CRY_CNT
    { off := 0x100, n := 64, stride := 0x10 },  -- CRY_SLOT.ATTR
    { off := 0x104, n := 64, stride := 0x10 },  -- CRY_SLOT.USE_LO
    { off := 0x108, n := 64, stride := 0x10 }  -- CRY_SLOT.USE_HI
  ]

/-- Registers of block SIG (Table 19-2) beside BLK_CTL and BLK_CHK. -/
def regsSIG : List RegDesc := [
    { off := 0x10 },  -- SIG_STATUS
    { off := 0x14 },  -- SIG_OWNER_SEQ
    { off := 0x20, w1c := 0x3 },  -- SIG_ISR
    { off := 0x24, rw := 0x3 },  -- SIG_IER
    { off := 0x40, n := 4, stride := 0x4 }  -- SIG_CNT
  ]

/-- Registers of block SKN (Table 19-2) beside BLK_CTL and BLK_CHK. -/
def regsSKN : List RegDesc := [
    { off := 0x10, rwe := 0xff7ff },  -- SKN_CFG
    { off := 0x14, rwe := 0x3fff0fff, rst := 0xfa0040 },  -- SKN_MSG
    { off := 0x18, rwe := 0xffff, rst := 0x64 },  -- SKN_TIME
    { off := 0x1c, rst := 0x1ffc0030 },  -- SKN_STATUS
    { off := 0x20 },  -- SKN_DEPUTY
    { off := 0x24, w1s := 0x3 },  -- SKN_CTL
    { off := 0x28, w1c := 0xff },  -- SKN_ISR
    { off := 0x2c, rw := 0xff },  -- SKN_IER
    { off := 0x30 },  -- SKN_OFFSET
    { off := 0x34 },  -- SKN_XO
    { off := 0x38 },  -- SKN_HOLD
    { off := 0x3c },  -- SKN_HOLDOVER
    { off := 0x40, rw := 0x3ff },  -- SKN_MEMBER_IDX
    { off := 0x44 },  -- SKN_MEMBER_DATA
    { off := 0x80, n := 8, stride := 0x4 },  -- SKN_CNT
    { off := 0x100, n := 3, stride := 0x40, rwe := 0x7, rst := 0x4 },  -- SKN_PORT.CFG
    { off := 0x104, n := 3, stride := 0x40, rwe := 0xffffffff },  -- SKN_PORT.ASYM
    { off := 0x108, n := 3, stride := 0x40 },  -- SKN_PORT.STATUS
    { off := 0x10c, n := 3, stride := 0x40 },  -- SKN_PORT.PEER
    { off := 0x110, n := 3, stride := 0x40 },  -- SKN_PORT.DELAY
    { off := 0x114, n := 3, stride := 0x40 }  -- SKN_PORT.ERR
  ]

/-- Registers of block FLC (Table 19-2) beside BLK_CTL and BLK_CHK. -/
def regsFLC : List RegDesc := [
    { off := 0x10, rwe := 0xffff1f, rst := 0x40408 },  -- FLC_CFG
    { off := 0x14, rw := 0xf },  -- FLC_LOCK
    { off := 0x18 },  -- FLC_STATUS
    { off := 0x1c, rwe := 0xff03, rst := 0x1e03 },  -- FLC_SCRUB
    { off := 0x20, w1c := 0xff },  -- FLC_ISR
    { off := 0x24, rw := 0xff },  -- FLC_IER
    { off := 0x28, rst := 0x20202020 },  -- FLC_SPARE
    { off := 0x2c },  -- FLC_FAULT_ADDR
    { off := 0x30, rw := 0x1fff0007, w1s := 0x80000000 },  -- FLC_DCMD
    { off := 0x34, rw := 0x3ffffff },  -- FLC_DADDR
    { off := 0x38, rw := 0xffffffff },  -- FLC_DSRC
    { off := 0x3c },  -- FLC_DSTAT
    { off := 0x40, n := 8, stride := 0x4 },  -- FLC_CNT
    { off := 0x80, n := 32, stride := 0x4 }  -- FLC_CTR
  ]

/-- Registers of block UPD (Table 19-2) beside BLK_CTL and BLK_CHK. -/
def regsUPD : List RegDesc := [
    { off := 0x10, rwe := 0xfff, rst := 0xfe8 },  -- UPD_CFG
    { off := 0x14 },  -- UPD_STATUS
    { off := 0x18 },  -- UPD_HELD
    { off := 0x1c },  -- UPD_RUN_EPOCH
    { off := 0x20 },  -- UPD_RUN_VERSION
    { off := 0x24 },  -- UPD_STG_EPOCH
    { off := 0x28 },  -- UPD_STG_VERSION
    { off := 0x2c },  -- UPD_TRIAL_LEFT
    { off := 0x30, w1s := 0x3f },  -- UPD_CTL
    { off := 0x34, w1c := 0x7f },  -- UPD_ISR
    { off := 0x38, rw := 0x7f },  -- UPD_IER
    { off := 0x3c },  -- UPD_BLACKOUT
    { off := 0x40, n := 4, stride := 0x4 }  -- UPD_CNT
  ]

/-- Registers of block TAG (Table 19-2) beside BLK_CTL and BLK_CHK. -/
def regsTAG : List RegDesc := [
    { off := 0x10, rwe := 0x1ff, rst := 0x1ca },  -- TAG_CFG
    { off := 0x14, rst := 0x10 },  -- TAG_STATUS
    { off := 0x18 },  -- TAG_VERSION
    { off := 0x1c, w1s := 0x3 },  -- TAG_CTL
    { off := 0x20, w1c := 0x3f },  -- TAG_ISR
    { off := 0x24, rw := 0x3f },  -- TAG_IER
    { off := 0x28 },  -- TAG_UID_LO
    { off := 0x2c },  -- TAG_UID_HI
    { off := 0x40, n := 6, stride := 0x4 }  -- TAG_CNT
  ]

/-- Registers of block EVF (Table 19-2) beside BLK_CTL and BLK_CHK. -/
def regsEVF : List RegDesc := [
    { off := 0x10, rwe := 0xffffff, rst := 0x400a40 },  -- EVF_MON
    { off := 0x14, rst := 0xffff },  -- EVF_GROUPS
    { off := 0x18, wo := 0xffff },  -- EVF_GRP_SET
    { off := 0x1c, wo := 0xffff },  -- EVF_GRP_CLR
    { off := 0x20, w1c := 0x3ff },  -- EVF_ISR
    { off := 0x24, rw := 0x3ff },  -- EVF_IER
    { off := 0x28 },  -- EVF_LOOP
    { off := 0x2c, rst := 0x1 },  -- EVF_STATUS
    { off := 0x30, n := 4, stride := 0x4, wo := 0xffffffff },  -- EVF_SWFIRE
    { off := 0x40, n := 4, stride := 0x8, low64 := true },  -- EVF_TSCAP
    { off := 0x44, n := 4, stride := 0x8, high := true },  -- EVF_TSCAP upper
    { off := 0x80, n := 6, stride := 0x4 },  -- EVF_CNT
    { off := 0x100, n := 32, stride := 0x4, rw := 0x8000007f },  -- EVF_SKPUB
    { off := 0x200, n := 64, stride := 0x4, rw := 0x8000007f },  -- EVF_PUB
    { off := 0x400, n := 128, stride := 0x4, rw := 0x800000ff },  -- EVF_SUB
    { off := 0x600, n := 128, stride := 0x4 }  -- EVF_COINC
  ]

/-- Registers of block TMB (Table 19-2) beside BLK_CTL and BLK_CHK. -/
def regsTMB : List RegDesc := [
    { off := 0x10, wo := 0xffff },  -- TMB_GSTART
    { off := 0x14, wo := 0xffff },  -- TMB_GSTOP
    { off := 0x18, wo := 0xffff },  -- TMB_GRELOAD
    { off := 0x1c, wo := 0xffff },  -- TMB_STAGGER
    { off := 0x20, w1c := 0xffffffff },  -- TMB_ISR
    { off := 0x24, rw := 0xffffffff },  -- TMB_IER
    { off := 0x100, n := 16, stride := 0x20, rw := 0x1f },  -- TMB_CH.CTL
    { off := 0x104, n := 16, stride := 0x20, rw := 0xffffffff, rst := 0xffffffff },  -- TMB_CH.PERIOD
    { off := 0x108, n := 16, stride := 0x20, rw := 0xffffffff, rst := 0xffffffff },  -- TMB_CH.COMPARE
    { off := 0x10c, n := 16, stride := 0x20 },  -- TMB_CH.COUNT
    { off := 0x110, n := 16, stride := 0x20, rw := 0xffffffff },  -- TMB_CH.PHASE
    { off := 0x114, n := 16, stride := 0x20 },  -- TMB_CH.CAPTURE
    { off := 0x118, n := 16, stride := 0x20 }  -- TMB_CH.STATUS
  ]

/-- Registers of block CPX (Table 19-2) beside BLK_CTL and BLK_CHK. -/
def regsCPX : List RegDesc := [
    { off := 0x10, rwe := 0x1 },  -- CPX_CFG
    { off := 0x14 },  -- CPX_STATUS
    { off := 0x18, rw := 0x1, w1s := 0x2 },  -- CPX_DBG
    { off := 0x1c, rw := 0xf },  -- CPX_MSIP
    { off := 0x20, w1c := 0x7 },  -- CPX_ISR
    { off := 0x24, rw := 0x7 },  -- CPX_IER
    { off := 0x28, rw := 0xffff, w1s := 0x10000 },  -- CPX_WDT_CFG
    { off := 0x2c, wo := 0xffffffff },  -- CPX_WDT_KICK
    { off := 0x8004, n := 255, stride := 0x4, rw := 0x7 },  -- CPX_PLIC_PRIO
    { off := 0x8400, n := 8, stride := 0x4 },  -- CPX_PLIC_PEND
    { off := 0x8800, n := 5, stride := 0x20, n2 := 8, stride2 := 0x4, rw := 0xffffffff },  -- CPX_PLIC_EN
    { off := 0x9000, n := 5, stride := 0x10, rw := 0x7 },  -- CPX_PLIC_THR
    { off := 0x9004, n := 5, stride := 0x10, rw := 0xffffffff }  -- CPX_PLIC_CLAIM
  ]

/-- Registers of block PER (Table 19-2) beside BLK_CTL and BLK_CHK. -/
def regsPER : List RegDesc := [
    { off := 0x10, n := 2, stride := 0x4 },  -- PER_GPIO_IN
    { off := 0x18, n := 2, stride := 0x4, rw := 0xffffffff },  -- PER_GPIO_OUT
    { off := 0x20, n := 2, stride := 0x4, wo := 0xffffffff },  -- PER_GPIO_SET
    { off := 0x28, n := 2, stride := 0x4, wo := 0xffffffff },  -- PER_GPIO_CLR
    { off := 0x30, w1c := 0x3 },  -- PER_ISR
    { off := 0x34, rw := 0x3 },  -- PER_IER
    { off := 0x38 },  -- PER_TAMP
    { off := 0x100, n := 40, stride := 0x4, rwe := 0x3f },  -- PER_PIN
    { off := 0x200, n := 8, stride := 0x4, rw := 0xfff },  -- PER_GEVT
    { off := 0x220, n := 8, stride := 0x4, rw := 0xff },  -- PER_GTSK
    { off := 0x300, n := 2, stride := 0x20, rwe := 0x1fffff, rst := 0x1ab },  -- PER_UART.CFG
    { off := 0x400, n := 2, stride := 0x20, rw := 0x3000, rwe := 0xfff },  -- PER_SPI.CFG
    { off := 0x304, n := 2, stride := 0x20, w1c := 0x30000 },  -- PER_UART.STATUS
    { off := 0x404, n := 2, stride := 0x20 },  -- PER_SPI.STATUS
    { off := 0x308, n := 2, stride := 0x20, rw := 0xff },  -- PER_UART.DATA
    { off := 0x408, n := 2, stride := 0x20, rw := 0xffffffff },  -- PER_SPI.DATA
    { off := 0x500, n := 2, stride := 0x20, rwe := 0x3 },  -- PER_I2C.CFG
    { off := 0x504, n := 2, stride := 0x20, rw := 0x1fffff, w1s := 0x80000000 },  -- PER_I2C.CMD
    { off := 0x508, n := 2, stride := 0x20, w1c := 0x6 },  -- PER_I2C.STATUS
    { off := 0x50c, n := 2, stride := 0x20, rw := 0xff }  -- PER_I2C.DATA
  ]

/-- Registers of block HKA (Table 19-2) beside BLK_CTL and BLK_CHK. -/
def regsHKA : List RegDesc := [
    { off := 0x10, rwe := 0x1f, rst := 0x1 },  -- HKA_CFG
    { off := 0x14, w1s := 0x1 },  -- HKA_CTL
    { off := 0x18 },  -- HKA_STATUS
    { off := 0x20, w1c := 0xf },  -- HKA_ISR
    { off := 0x24, rw := 0xf },  -- HKA_IER
    { off := 0x40, n := 16, stride := 0x4, rwe := 0x1fff },  -- HKA_SEQ
    { off := 0x80, n := 13, stride := 0x4 },  -- HKA_RESULT
    { off := 0xc0, n := 13, stride := 0x4, rw := 0xffffffff, rst := 0x7fff0000 }  -- HKA_LIMIT
  ]

/-- Registers of block SEC (Table 19-2) beside BLK_CTL and BLK_CHK. -/
def regsSEC : List RegDesc := [
    { off := 0x10, rwe := 0x7ff, rst := 0x640 },  -- SEC_CFG
    { off := 0x14, w1c := 0x3f },  -- SEC_ALARM
    { off := 0x18 },  -- SEC_STATUS
    { off := 0x1c, w1s := 0x1 },  -- SEC_CTL
    { off := 0x20, w1c := 0x7 },  -- SEC_ISR
    { off := 0x24, rw := 0x7, rst := 0x1 }  -- SEC_IER
  ]

/-- BLK_CTL and the 64-bit BLK_CHK, which every block has (R65); writes of EN have an effect of their own. -/
def regsBLK : List RegDesc := [{ off := 0x0 }, { off := 0x8, low64 := true }, { off := 0xc, high := true }]

/-- The registers of block `b`. -/
def ownRegs (b : Nat) : List RegDesc :=
  match b with
  | 0 => regsSYS
  | 1 => regsSUP
  | 2 => regsCLK
  | 3 => regsBLW
  | 4 => regsHRE
  | 5 => regsRFE
  | 6 => regsPHY
  | 7 => regsMUR
  | 8 => regsCHN
  | 9 => regsMAC
  | 10 => regsESM
  | 11 => regsCRY
  | 12 => regsSIG
  | 13 => regsSKN
  | 14 => regsFLC
  | 15 => regsUPD
  | 16 => regsTAG
  | 17 => regsEVF
  | 18 => regsTMB
  | 19 => regsCPX
  | 20 => regsPER
  | 21 => regsHKA
  | 22 => regsSEC
  | _ => []

/-- Every register of a block. -/
def blockRegs (b : Nat) : List RegDesc := if b < 23 then ownRegs b ++ regsBLK else []

/-- The register descriptor and the flat index of the word at address `a`, if Table 19-2 lists it. -/
def regFind (a : Nat) : Option (RegDesc × Nat) :=
  if a < 0x40000000 then none
  else
    let o := (a - 0x40000000) % 0x10000
    (blockRegs ((a - 0x40000000) / 0x10000)).findSome? (fun d => (regIndex d o).map (fun i => (d, i)))

/-- The reset word at address `a` (Table 19-2): 0 for an address that the table does not list (R533). -/
def resetWord (a : Nat) : Word :=
  match regFind a with
  | some (d, i) => BitVec.ofNat 32 (match d.rstTab with
      | [] => d.rst + i * d.rstStep
      | t => t.getD i 0)
  | none => 0

/-! ### BLK_CTL and BLK_CHK of every block (Table 2-10a) -/
def Reg.BLK_CTL (b : Nat) : Nat := blockBase b
def Reg.BLK_CHK (b : Nat) : Nat := blockBase b + 8
def Reg.BLK_CHK_FIELD (b : Nat) : Nat := blockBase b + 12
def F.BLK_EN (b : Nat) : Fld := ⟨blockBase b, 0, 1⟩
def F.BLK_BUSY (b : Nat) : Fld := ⟨blockBase b, 1, 1⟩
def F.CHK_REASON (b : Nat) : Fld := ⟨blockBase b + 8, 0, 16⟩
def F.CHK_STATUS (b : Nat) : Fld := ⟨blockBase b + 8, 16, 2⟩

/-! ### SYS -/
def Reg.SYS_CTL : Nat := 0x40000010
def F.SYS_CTL_RESET : Fld := ⟨Reg.SYS_CTL, 0, 1⟩
def F.SYS_CTL_APP_RESET : Fld := ⟨Reg.SYS_CTL, 1, 1⟩
def F.SYS_CTL_KEY : Fld := ⟨Reg.SYS_CTL, 16, 16⟩
def Reg.SYS_RST : Nat := 0x40000014
def F.SYS_RST_CAUSE : Fld := ⟨Reg.SYS_RST, 0, 4⟩
def F.SYS_RST_SCOPE : Fld := ⟨Reg.SYS_RST, 4, 1⟩
def F.SYS_RST_PIN_LONG : Fld := ⟨Reg.SYS_RST, 5, 1⟩
def F.SYS_RST_REASON : Fld := ⟨Reg.SYS_RST, 16, 16⟩
def Reg.SYS_RST_PREV : Nat := 0x40000018
def F.SYS_RST_PREV_RECORD : Fld := ⟨Reg.SYS_RST_PREV, 0, 32⟩
def Reg.SYS_RST_TIME : Nat := 0x40000020
def Reg.SYS_WDT_CFG : Nat := 0x40000028
def F.SYS_WDT_CFG_PERIOD_S : Fld := ⟨Reg.SYS_WDT_CFG, 0, 8⟩
def F.SYS_WDT_CFG_LOCK : Fld := ⟨Reg.SYS_WDT_CFG, 8, 1⟩
def Reg.SYS_WDT_KICK : Nat := 0x4000002c
def F.SYS_WDT_KICK_KEY : Fld := ⟨Reg.SYS_WDT_KICK, 0, 32⟩
def Reg.SYS_ISR : Nat := 0x40000030
def F.SYS_ISR_WDT_HALF : Fld := ⟨Reg.SYS_ISR, 0, 1⟩
def Reg.SYS_IER : Nat := 0x40000034
def F.SYS_IER_ENABLE : Fld := ⟨Reg.SYS_IER, 0, 1⟩
def Reg.SYS_RSTCNT (n : Nat) : Nat := 0x40000040 + n * 0x4
def F.SYS_RSTCNT_COUNT (n : Nat) : Fld := ⟨Reg.SYS_RSTCNT n, 0, 16⟩
/-! ### SUP -/
def Reg.SUP_CFG : Nat := 0x40010010
def F.SUP_CFG_WARN : Fld := ⟨Reg.SUP_CFG, 0, 6⟩
def F.SUP_CFG_AVS_EN : Fld := ⟨Reg.SUP_CFG, 8, 1⟩
def Reg.SUP_STATUS : Nat := 0x40010014
def F.SUP_STATUS_WARN : Fld := ⟨Reg.SUP_STATUS, 0, 1⟩
def F.SUP_STATUS_IO33 : Fld := ⟨Reg.SUP_STATUS, 1, 1⟩
def F.SUP_STATUS_IOSEL_OPEN : Fld := ⟨Reg.SUP_STATUS, 2, 1⟩
def F.SUP_STATUS_VIO_FAULT : Fld := ⟨Reg.SUP_STATUS, 3, 1⟩
def F.SUP_STATUS_STATE : Fld := ⟨Reg.SUP_STATUS, 4, 3⟩
def F.SUP_STATUS_VCORE : Fld := ⟨Reg.SUP_STATUS, 16, 8⟩
def Reg.SUP_VSUP : Nat := 0x40010018
def F.SUP_VSUP_MV : Fld := ⟨Reg.SUP_VSUP, 0, 13⟩
def Reg.SUP_PWR : Nat := 0x4001001c
def F.SUP_PWR_REQ : Fld := ⟨Reg.SUP_PWR, 0, 2⟩
def F.SUP_PWR_PENDING : Fld := ⟨Reg.SUP_PWR, 2, 1⟩
def F.SUP_PWR_REASON : Fld := ⟨Reg.SUP_PWR, 16, 16⟩
def Reg.SUP_ISR : Nat := 0x40010020
def F.SUP_ISR_WARN : Fld := ⟨Reg.SUP_ISR, 0, 1⟩
def F.SUP_ISR_RISE : Fld := ⟨Reg.SUP_ISR, 1, 1⟩
def F.SUP_ISR_VIO_FAULT : Fld := ⟨Reg.SUP_ISR, 2, 1⟩
def F.SUP_ISR_WAKE : Fld := ⟨Reg.SUP_ISR, 3, 1⟩
def F.SUP_ISR_ENTRY_ABORT : Fld := ⟨Reg.SUP_ISR, 4, 1⟩
def F.SUP_ISR_REFUSED : Fld := ⟨Reg.SUP_ISR, 5, 1⟩
def Reg.SUP_IER : Nat := 0x40010024
def F.SUP_IER_ENABLE : Fld := ⟨Reg.SUP_IER, 0, 6⟩
def Reg.SUP_WAKE : Nat := 0x40010028
def F.SUP_WAKE_TMB : Fld := ⟨Reg.SUP_WAKE, 0, 16⟩
def F.SUP_WAKE_GPIO : Fld := ⟨Reg.SUP_WAKE, 16, 8⟩
def F.SUP_WAKE_TAG : Fld := ⟨Reg.SUP_WAKE, 24, 1⟩
def Reg.SUP_WAKE_SRC : Nat := 0x4001002c
def F.SUP_WAKE_SRC_SRC : Fld := ⟨Reg.SUP_WAKE_SRC, 0, 5⟩
def Reg.SUP_RET : Nat := 0x40010030
def F.SUP_RET_SEG : Fld := ⟨Reg.SUP_RET, 0, 16⟩
def Reg.SUP_CNT (n : Nat) : Nat := 0x40010040 + n * 0x4
def F.SUP_CNT_COUNT (n : Nat) : Fld := ⟨Reg.SUP_CNT n, 0, 32⟩
/-! ### CLK -/
def Reg.CLK_CFG : Nat := 0x40020010
def F.CLK_CFG_XO_DELAY : Fld := ⟨Reg.CLK_CFG, 0, 4⟩
def F.CLK_CFG_LF_DELAY : Fld := ⟨Reg.CLK_CFG, 4, 3⟩
def F.CLK_CFG_XO_MODE : Fld := ⟨Reg.CLK_CFG, 7, 1⟩
def F.CLK_CFG_LF_SRC : Fld := ⟨Reg.CLK_CFG, 8, 1⟩
def F.CLK_CFG_PCIE_REF : Fld := ⟨Reg.CLK_CFG, 9, 1⟩
def Reg.CLK_STATUS : Nat := 0x40020014
def F.CLK_STATUS_REF_SRC : Fld := ⟨Reg.CLK_STATUS, 0, 2⟩
def F.CLK_STATUS_REF_VALID : Fld := ⟨Reg.CLK_STATUS, 2, 1⟩
def F.CLK_STATUS_SYS_LOCK : Fld := ⟨Reg.CLK_STATUS, 3, 1⟩
def F.CLK_STATUS_DSP_LOCK : Fld := ⟨Reg.CLK_STATUS, 4, 1⟩
def F.CLK_STATUS_OK : Fld := ⟨Reg.CLK_STATUS, 5, 4⟩
def F.CLK_STATUS_LF_ACT : Fld := ⟨Reg.CLK_STATUS, 9, 1⟩
def F.CLK_STATUS_DELAY_FORCED : Fld := ⟨Reg.CLK_STATUS, 10, 1⟩
def F.CLK_STATUS_HELD : Fld := ⟨Reg.CLK_STATUS, 11, 1⟩
def Reg.CLK_XO_MEAS : Nat := 0x40020018
def F.CLK_XO_MEAS_XO_US : Fld := ⟨Reg.CLK_XO_MEAS, 0, 16⟩
def F.CLK_XO_MEAS_LF_MS : Fld := ⟨Reg.CLK_XO_MEAS, 16, 16⟩
def Reg.CLK_TRIM : Nat := 0x4002001c
def F.CLK_TRIM_HF_CODE : Fld := ⟨Reg.CLK_TRIM, 0, 8⟩
def F.CLK_TRIM_LF_CODE : Fld := ⟨Reg.CLK_TRIM, 8, 8⟩
def F.CLK_TRIM_HF_REF : Fld := ⟨Reg.CLK_TRIM, 16, 2⟩
def F.CLK_TRIM_LF_REF : Fld := ⟨Reg.CLK_TRIM, 18, 2⟩
def Reg.CLK_ISR : Nat := 0x40020020
def F.CLK_ISR_XO_FAIL : Fld := ⟨Reg.CLK_ISR, 0, 1⟩
def F.CLK_ISR_LFXO_FAIL : Fld := ⟨Reg.CLK_ISR, 1, 1⟩
def F.CLK_ISR_HFRC_FAIL : Fld := ⟨Reg.CLK_ISR, 2, 1⟩
def F.CLK_ISR_LFRC_FAIL : Fld := ⟨Reg.CLK_ISR, 3, 1⟩
def F.CLK_ISR_SKEIN_REF_LOST : Fld := ⟨Reg.CLK_ISR, 4, 1⟩
def F.CLK_ISR_SYS_UNLOCK : Fld := ⟨Reg.CLK_ISR, 5, 1⟩
def F.CLK_ISR_DSP_UNLOCK : Fld := ⟨Reg.CLK_ISR, 6, 1⟩
def F.CLK_ISR_RELOCK : Fld := ⟨Reg.CLK_ISR, 7, 1⟩
def F.CLK_ISR_REF_INVALID : Fld := ⟨Reg.CLK_ISR, 8, 1⟩
def F.CLK_ISR_REF_VALID : Fld := ⟨Reg.CLK_ISR, 9, 1⟩
def Reg.CLK_IER : Nat := 0x40020024
def F.CLK_IER_ENABLE : Fld := ⟨Reg.CLK_IER, 0, 10⟩
def Reg.CLK_LOST (n : Nat) : Nat := 0x40020040 + n * 0x4
def F.CLK_LOST_CYCLES (n : Nat) : Fld := ⟨Reg.CLK_LOST n, 0, 32⟩
def Reg.CLK_CNT (n : Nat) : Nat := 0x40020080 + n * 0x4
def F.CLK_CNT_COUNT (n : Nat) : Fld := ⟨Reg.CLK_CNT n, 0, 32⟩
/-! ### BLW -/
def Reg.BLW_CFG : Nat := 0x40030010
def F.BLW_CFG_MODE : Fld := ⟨Reg.BLW_CFG, 0, 1⟩
def F.BLW_CFG_LEARN_EN : Fld := ⟨Reg.BLW_CFG, 1, 1⟩
def F.BLW_CFG_LEARN_SHIFT : Fld := ⟨Reg.BLW_CFG, 2, 4⟩
def F.BLW_CFG_CEIL_EN : Fld := ⟨Reg.BLW_CFG, 6, 1⟩
def F.BLW_CFG_PERIOD_MIN : Fld := ⟨Reg.BLW_CFG, 8, 11⟩
def F.BLW_CFG_REPORT : Fld := ⟨Reg.BLW_CFG, 19, 4⟩
def Reg.BLW_ECON : Nat := 0x40030014
def F.BLW_ECON_HOLD : Fld := ⟨Reg.BLW_ECON, 0, 10⟩
def Reg.BLW_CAP : Nat := 0x40030018
def F.BLW_CAP_CAP_MW : Fld := ⟨Reg.BLW_CAP, 0, 16⟩
def F.BLW_CAP_CEIL_MW : Fld := ⟨Reg.BLW_CAP, 16, 16⟩
def Reg.BLW_SRC : Nat := 0x4003001c
def F.BLW_SRC_AUTONOMY_H : Fld := ⟨Reg.BLW_SRC, 0, 16⟩
def F.BLW_SRC_DAY_OFS : Fld := ⟨Reg.BLW_SRC, 16, 11⟩
def Reg.BLW_CAPACITY : Nat := 0x40030020
def F.BLW_CAPACITY_MJ : Fld := ⟨Reg.BLW_CAPACITY, 0, 32⟩
def Reg.BLW_STORE : Nat := 0x40030024
def F.BLW_STORE_MJ : Fld := ⟨Reg.BLW_STORE, 0, 32⟩
def Reg.BLW_CTL : Nat := 0x40030028
def F.BLW_CTL_COMMIT : Fld := ⟨Reg.BLW_CTL, 0, 1⟩
def Reg.BLW_STATUS : Nat := 0x4003002c
def F.BLW_STATUS_ECONOMY : Fld := ⟨Reg.BLW_STATUS, 0, 1⟩
def F.BLW_STATUS_HOLD : Fld := ⟨Reg.BLW_STATUS, 1, 1⟩
def F.BLW_STATUS_MODEL_VALID : Fld := ⟨Reg.BLW_STATUS, 2, 1⟩
def F.BLW_STATUS_OVERDRAW : Fld := ⟨Reg.BLW_STATUS, 3, 1⟩
def F.BLW_STATUS_HOUR : Fld := ⟨Reg.BLW_STATUS, 8, 5⟩
def Reg.BLW_FLOOR (n : Nat) : Nat := 0x40030030 + n * 0x4
def F.BLW_FLOOR_MJ (n : Nat) : Fld := ⟨Reg.BLW_FLOOR n, 0, 32⟩
def Reg.BLW_HARVEST (n : Nat) : Nat := 0x40030040 + n * 0x4
def F.BLW_HARVEST_J (n : Nat) : Fld := ⟨Reg.BLW_HARVEST n, 0, 16⟩
def Reg.BLW_ISR : Nat := 0x40030090
def F.BLW_ISR_ECONOMY_START : Fld := ⟨Reg.BLW_ISR, 0, 1⟩
def F.BLW_ISR_ECONOMY_END : Fld := ⟨Reg.BLW_ISR, 1, 1⟩
def F.BLW_ISR_OVERDRAW : Fld := ⟨Reg.BLW_ISR, 2, 1⟩
def F.BLW_ISR_RESERVE : Fld := ⟨Reg.BLW_ISR, 3, 1⟩
def F.BLW_ISR_PERIOD : Fld := ⟨Reg.BLW_ISR, 4, 1⟩
def Reg.BLW_IER : Nat := 0x40030094
def F.BLW_IER_ENABLE : Fld := ⟨Reg.BLW_IER, 0, 5⟩
def Reg.BLW_METER : Nat := 0x400300a0
def Reg.BLW_BUDGET : Nat := 0x400300a8
def F.BLW_BUDGET_MJ : Fld := ⟨Reg.BLW_BUDGET, 0, 32⟩
def Reg.BLW_CHARGED : Nat := 0x400300ac
def F.BLW_CHARGED_MJ : Fld := ⟨Reg.BLW_CHARGED, 0, 32⟩
def Reg.BLW_BACKGROUND : Nat := 0x400300b0
def F.BLW_BACKGROUND_MJ : Fld := ⟨Reg.BLW_BACKGROUND, 0, 32⟩
def Reg.BLW_NEXT_BUDGET : Nat := 0x400300b4
def F.BLW_NEXT_BUDGET_MJ : Fld := ⟨Reg.BLW_NEXT_BUDGET, 0, 32⟩
def Reg.BLW_CNT (n : Nat) : Nat := 0x400300c0 + n * 0x4
def F.BLW_CNT_COUNT (n : Nat) : Fld := ⟨Reg.BLW_CNT n, 0, 32⟩
def Reg.BLW_COST (n : Nat) : Nat := 0x40030100 + n * 0x4
def F.BLW_COST_VALUE (n : Nat) : Fld := ⟨Reg.BLW_COST n, 0, 16⟩
def F.BLW_COST_VALID (n : Nat) : Fld := ⟨Reg.BLW_COST n, 16, 1⟩
def F.BLW_COST_LOCK (n : Nat) : Fld := ⟨Reg.BLW_COST n, 17, 1⟩
def Reg.BLW_TXCOST (n : Nat) : Nat := 0x40030140 + n * 0x4
def F.BLW_TXCOST_VALUE (n : Nat) : Fld := ⟨Reg.BLW_TXCOST n, 0, 16⟩
def F.BLW_TXCOST_VALID (n : Nat) : Fld := ⟨Reg.BLW_TXCOST n, 16, 1⟩
def F.BLW_TXCOST_LOCK (n : Nat) : Fld := ⟨Reg.BLW_TXCOST n, 17, 1⟩
/-! ### HRE -/
def Reg.HRE_CFG : Nat := 0x40040010
def F.HRE_CFG_HOST_MODE : Fld := ⟨Reg.HRE_CFG, 0, 1⟩
def F.HRE_CFG_NOTICE_EN : Fld := ⟨Reg.HRE_CFG, 1, 1⟩
def F.HRE_CFG_CTRL_RESERVE : Fld := ⟨Reg.HRE_CFG, 8, 8⟩
def Reg.HRE_STATUS : Nat := 0x40040014
def F.HRE_STATUS_DRAINING : Fld := ⟨Reg.HRE_STATUS, 0, 1⟩
def F.HRE_STATUS_LINK_UP : Fld := ⟨Reg.HRE_STATUS, 1, 1⟩
def Reg.HRE_QUENCH : Nat := 0x40040020
def F.HRE_QUENCH_QUENCH : Fld := ⟨Reg.HRE_QUENCH, 0, 1⟩
def F.HRE_QUENCH_SETTLED : Fld := ⟨Reg.HRE_QUENCH, 1, 1⟩
def Reg.HRE_ISR : Nat := 0x40040024
def F.HRE_ISR_RING : Fld := ⟨Reg.HRE_ISR, 0, 24⟩
def F.HRE_ISR_SETTLED : Fld := ⟨Reg.HRE_ISR, 24, 1⟩
def F.HRE_ISR_DRAINED : Fld := ⟨Reg.HRE_ISR, 25, 1⟩
def F.HRE_ISR_EVT_LOST : Fld := ⟨Reg.HRE_ISR, 26, 1⟩
def F.HRE_ISR_HOST_FAULT : Fld := ⟨Reg.HRE_ISR, 27, 1⟩
def Reg.HRE_IER : Nat := 0x40040028
def F.HRE_IER_ENABLE : Fld := ⟨Reg.HRE_IER, 0, 28⟩
def Reg.HRE_EVT_LOST : Nat := 0x40040030
def F.HRE_EVT_LOST_COUNT : Fld := ⟨Reg.HRE_EVT_LOST, 0, 32⟩
def Reg.HRE_RING_BASE_LO (n : Nat) : Nat := 0x40040100 + n * 0x20
def F.HRE_RING_BASE_LO_ADDR (n : Nat) : Fld := ⟨Reg.HRE_RING_BASE_LO n, 12, 20⟩
def Reg.HRE_RING_BASE_HI (n : Nat) : Nat := 0x40040104 + n * 0x20
def F.HRE_RING_BASE_HI_ADDR (n : Nat) : Fld := ⟨Reg.HRE_RING_BASE_HI n, 0, 32⟩
def Reg.HRE_RING_CFG (n : Nat) : Nat := 0x40040108 + n * 0x20
def F.HRE_RING_CFG_SIZE_LOG2 (n : Nat) : Fld := ⟨Reg.HRE_RING_CFG n, 0, 5⟩
def F.HRE_RING_CFG_EN (n : Nat) : Fld := ⟨Reg.HRE_RING_CFG n, 8, 1⟩
def F.HRE_RING_CFG_VEC (n : Nat) : Fld := ⟨Reg.HRE_RING_CFG n, 16, 5⟩
def F.HRE_RING_CFG_MOD_COUNT (n : Nat) : Fld := ⟨Reg.HRE_RING_CFG n, 21, 4⟩
def F.HRE_RING_CFG_MOD_TIME (n : Nat) : Fld := ⟨Reg.HRE_RING_CFG n, 25, 4⟩
def Reg.HRE_RING_HEAD (n : Nat) : Nat := 0x4004010c + n * 0x20
def F.HRE_RING_HEAD_INDEX (n : Nat) : Fld := ⟨Reg.HRE_RING_HEAD n, 0, 16⟩
def F.HRE_RING_HEAD_PHASE (n : Nat) : Fld := ⟨Reg.HRE_RING_HEAD n, 16, 1⟩
def Reg.HRE_RING_STATUS (n : Nat) : Nat := 0x40040110 + n * 0x20
def F.HRE_RING_STATUS_REASON (n : Nat) : Fld := ⟨Reg.HRE_RING_STATUS n, 0, 16⟩
def F.HRE_RING_STATUS_ERR (n : Nat) : Fld := ⟨Reg.HRE_RING_STATUS n, 16, 1⟩
def Reg.HRE_RING_RSV (n : Nat) : Nat := 0x40040114 + n * 0x20
def F.HRE_RING_RSV_COUNT (n : Nat) : Fld := ⟨Reg.HRE_RING_RSV n, 0, 17⟩
def Reg.HRE_DB (n : Nat) : Nat := 0x40041000 + n * 0x8
def F.HRE_DB_INDEX (n : Nat) : Fld := ⟨Reg.HRE_DB n, 0, 16⟩
/-! ### RFE -/
def Reg.RFE_CFG : Nat := 0x40050010
def F.RFE_CFG_CHAIN_EN : Fld := ⟨Reg.RFE_CFG, 0, 2⟩
def F.RFE_CFG_TX_EN : Fld := ⟨Reg.RFE_CFG, 2, 1⟩
def Reg.RFE_RXLO : Nat := 0x40050014
def F.RFE_RXLO_FREQ : Fld := ⟨Reg.RFE_RXLO, 0, 30⟩
def Reg.RFE_NB : Nat := 0x40050018
def F.RFE_NB_FIRST : Fld := ⟨Reg.RFE_NB, 0, 8⟩
def F.RFE_NB_COUNT : Fld := ⟨Reg.RFE_NB, 8, 4⟩
def Reg.RFE_STATUS : Nat := 0x4005001c
def F.RFE_STATUS_CAL_DONE : Fld := ⟨Reg.RFE_STATUS, 0, 1⟩
def F.RFE_STATUS_RX_LOCK : Fld := ⟨Reg.RFE_STATUS, 1, 1⟩
def F.RFE_STATUS_TX_LOCK : Fld := ⟨Reg.RFE_STATUS, 2, 1⟩
def F.RFE_STATUS_RECAL_DUE : Fld := ⟨Reg.RFE_STATUS, 3, 1⟩
def F.RFE_STATUS_GAIN0 : Fld := ⟨Reg.RFE_STATUS, 4, 2⟩
def F.RFE_STATUS_GAIN1 : Fld := ⟨Reg.RFE_STATUS, 6, 2⟩
def F.RFE_STATUS_PMAX : Fld := ⟨Reg.RFE_STATUS, 8, 8⟩
def Reg.RFE_ISR : Nat := 0x40050020
def F.RFE_ISR_ANT_FAULT : Fld := ⟨Reg.RFE_ISR, 0, 1⟩
def F.RFE_ISR_ANT_CLEAR : Fld := ⟨Reg.RFE_ISR, 1, 1⟩
def F.RFE_ISR_UNLOCK : Fld := ⟨Reg.RFE_ISR, 2, 1⟩
def F.RFE_ISR_CAP_DONE : Fld := ⟨Reg.RFE_ISR, 3, 1⟩
def F.RFE_ISR_CAL_DONE : Fld := ⟨Reg.RFE_ISR, 4, 1⟩
def Reg.RFE_IER : Nat := 0x40050024
def F.RFE_IER_ENABLE : Fld := ⟨Reg.RFE_IER, 0, 5⟩
def Reg.RFE_TX : Nat := 0x40050028
def F.RFE_TX_RAMP : Fld := ⟨Reg.RFE_TX, 0, 3⟩
def Reg.RFE_FEM : Nat := 0x4005002c
def F.RFE_FEM_EN : Fld := ⟨Reg.RFE_FEM, 0, 1⟩
def F.RFE_FEM_EXT_PA : Fld := ⟨Reg.RFE_FEM, 1, 1⟩
def F.RFE_FEM_FLT_SEL : Fld := ⟨Reg.RFE_FEM, 2, 3⟩
def F.RFE_FEM_IDLE_PAT : Fld := ⟨Reg.RFE_FEM, 8, 4⟩
def F.RFE_FEM_RX_PAT : Fld := ⟨Reg.RFE_FEM, 12, 4⟩
def F.RFE_FEM_TX_PAT : Fld := ⟨Reg.RFE_FEM, 16, 4⟩
def F.RFE_FEM_FEM_LEAD : Fld := ⟨Reg.RFE_FEM, 20, 5⟩
def F.RFE_FEM_FEM_LAG : Fld := ⟨Reg.RFE_FEM, 25, 5⟩
def Reg.RFE_ANT : Nat := 0x40050030
def F.RFE_ANT_FOLD : Fld := ⟨Reg.RFE_ANT, 0, 1⟩
def F.RFE_ANT_RETRY : Fld := ⟨Reg.RFE_ANT, 1, 1⟩
def F.RFE_ANT_LATCHED : Fld := ⟨Reg.RFE_ANT, 2, 1⟩
def F.RFE_ANT_LAST : Fld := ⟨Reg.RFE_ANT, 3, 2⟩
def F.RFE_ANT_RX0 : Fld := ⟨Reg.RFE_ANT, 5, 2⟩
def F.RFE_ANT_RX1 : Fld := ⟨Reg.RFE_ANT, 7, 2⟩
def F.RFE_ANT_PHASE_OFS : Fld := ⟨Reg.RFE_ANT, 16, 8⟩
def Reg.RFE_ANT_MEAS : Nat := 0x40050034
def F.RFE_ANT_MEAS_GAMMA : Fld := ⟨Reg.RFE_ANT_MEAS, 0, 10⟩
def F.RFE_ANT_MEAS_PHASE : Fld := ⟨Reg.RFE_ANT_MEAS, 16, 8⟩
def F.RFE_ANT_MEAS_FWD : Fld := ⟨Reg.RFE_ANT_MEAS, 24, 8⟩
def Reg.RFE_RX (n : Nat) : Nat := 0x40050040 + n * 0x4
def F.RFE_RX_MODE (n : Nat) : Fld := ⟨Reg.RFE_RX n, 0, 2⟩
def F.RFE_RX_CLIP_N (n : Nat) : Fld := ⟨Reg.RFE_RX n, 2, 6⟩
def F.RFE_RX_HOLD_MS (n : Nat) : Fld := ⟨Reg.RFE_RX n, 8, 8⟩
def Reg.RFE_FIR_CTL : Nat := 0x40050080
def F.RFE_FIR_CTL_CHECK : Fld := ⟨Reg.RFE_FIR_CTL, 0, 1⟩
def F.RFE_FIR_CTL_PASS : Fld := ⟨Reg.RFE_FIR_CTL, 1, 1⟩
def F.RFE_FIR_CTL_LOCK : Fld := ⟨Reg.RFE_FIR_CTL, 2, 1⟩
def F.RFE_FIR_CTL_FAIL_PT : Fld := ⟨Reg.RFE_FIR_CTL, 8, 3⟩
def F.RFE_FIR_CTL_REASON : Fld := ⟨Reg.RFE_FIR_CTL, 16, 16⟩
def Reg.RFE_FIR (n : Nat) : Nat := 0x40050100 + n * 0x4
def F.RFE_FIR_COEF (n : Nat) : Fld := ⟨Reg.RFE_FIR n, 0, 12⟩
def Reg.RFE_MASK (n : Nat) : Nat := 0x40050200 + n * 0x4
def F.RFE_MASK_F_KHZ (n : Nat) : Fld := ⟨Reg.RFE_MASK n, 0, 10⟩
def F.RFE_MASK_ATT_DB (n : Nat) : Fld := ⟨Reg.RFE_MASK n, 16, 7⟩
def Reg.RFE_CAP_CTL : Nat := 0x40050300
def F.RFE_CAP_CTL_START : Fld := ⟨Reg.RFE_CAP_CTL, 0, 1⟩
def F.RFE_CAP_CTL_DONE : Fld := ⟨Reg.RFE_CAP_CTL, 1, 1⟩
def F.RFE_CAP_CTL_CHAIN : Fld := ⟨Reg.RFE_CAP_CTL, 2, 1⟩
def F.RFE_CAP_CTL_TRIG_EN : Fld := ⟨Reg.RFE_CAP_CTL, 3, 1⟩
def F.RFE_CAP_CTL_EVC : Fld := ⟨Reg.RFE_CAP_CTL, 4, 7⟩
def Reg.RFE_CAP_DATA : Nat := 0x40050304
def F.RFE_CAP_DATA_SAMPLE : Fld := ⟨Reg.RFE_CAP_DATA, 0, 32⟩
def Reg.RFE_CNT (n : Nat) : Nat := 0x40050380 + n * 0x4
def F.RFE_CNT_COUNT (n : Nat) : Fld := ⟨Reg.RFE_CNT n, 0, 32⟩
/-! ### PHY -/
def Reg.PHY_CFG : Nat := 0x40060010
def F.PHY_CFG_SF_EN : Fld := ⟨Reg.PHY_CFG, 0, 9⟩
def F.PHY_CFG_CODE_EN : Fld := ⟨Reg.PHY_CFG, 16, 8⟩
def F.PHY_CFG_ACCEPT_UNCODED : Fld := ⟨Reg.PHY_CFG, 24, 1⟩
def Reg.PHY_DET : Nat := 0x40060014
def F.PHY_DET_ED_WIN_LOG2 : Fld := ⟨Reg.PHY_DET, 0, 4⟩
def F.PHY_DET_ED_THRESH : Fld := ⟨Reg.PHY_DET, 4, 6⟩
def F.PHY_DET_ED_HOLD : Fld := ⟨Reg.PHY_DET, 10, 4⟩
def F.PHY_DET_FLOOR_RISE : Fld := ⟨Reg.PHY_DET, 14, 4⟩
def Reg.PHY_QUAL : Nat := 0x40060018
def F.PHY_QUAL_NPRE : Fld := ⟨Reg.PHY_QUAL, 0, 5⟩
def F.PHY_QUAL_THRESH : Fld := ⟨Reg.PHY_QUAL, 8, 8⟩
def F.PHY_QUAL_CAPTURE : Fld := ⟨Reg.PHY_QUAL, 16, 6⟩
def F.PHY_QUAL_SYNC_ERR : Fld := ⟨Reg.PHY_QUAL, 22, 2⟩
def F.PHY_QUAL_SYNC_WIN : Fld := ⟨Reg.PHY_QUAL, 24, 6⟩
def Reg.PHY_ALWAYS (n : Nat) : Nat := 0x40060020 + n * 0x4
def F.PHY_ALWAYS_BINS (n : Nat) : Fld := ⟨Reg.PHY_ALWAYS n, 0, 32⟩
def Reg.PHY_FLOOR_IDX : Nat := 0x40060040
def F.PHY_FLOOR_IDX_BIN : Fld := ⟨Reg.PHY_FLOOR_IDX, 0, 8⟩
def Reg.PHY_FLOOR_DATA : Nat := 0x40060044
def F.PHY_FLOOR_DATA_FLOOR : Fld := ⟨Reg.PHY_FLOOR_DATA, 0, 10⟩
def F.PHY_FLOOR_DATA_FLAGGED : Fld := ⟨Reg.PHY_FLOOR_DATA, 10, 1⟩
def Reg.PHY_CNT (n : Nat) : Nat := 0x40060080 + n * 0x4
def F.PHY_CNT_COUNT (n : Nat) : Fld := ⟨Reg.PHY_CNT n, 0, 32⟩
/-! ### MUR -/
def Reg.MUR_CFG : Nat := 0x40070010
def F.MUR_CFG_DIV_MODE : Fld := ⟨Reg.MUR_CFG, 0, 2⟩
def F.MUR_CFG_PREEMPT_EN : Fld := ⟨Reg.MUR_CFG, 2, 1⟩
def F.MUR_CFG_PREEMPT_MARGIN : Fld := ⟨Reg.MUR_CFG, 3, 6⟩
def F.MUR_CFG_SIC_EN : Fld := ⟨Reg.MUR_CFG, 16, 1⟩
def F.MUR_CFG_SIC_DEPTH : Fld := ⟨Reg.MUR_CFG, 17, 3⟩
def F.MUR_CFG_SIC_CHAIN : Fld := ⟨Reg.MUR_CFG, 20, 1⟩
def Reg.MUR_CAP : Nat := 0x40070014
def F.MUR_CAP_LANES : Fld := ⟨Reg.MUR_CAP, 0, 7⟩
def F.MUR_CAP_SCANNERS : Fld := ⟨Reg.MUR_CAP, 8, 5⟩
def F.MUR_CAP_WIDE : Fld := ⟨Reg.MUR_CAP, 16, 3⟩
def Reg.MUR_CSET (n : Nat) : Nat := 0x40070020 + n * 0x4
def F.MUR_CSET_BINS (n : Nat) : Fld := ⟨Reg.MUR_CSET n, 0, 32⟩
def Reg.MUR_ISR : Nat := 0x40070040
def F.MUR_ISR_LANE_EXHAUSTED : Fld := ⟨Reg.MUR_ISR, 0, 1⟩
def F.MUR_ISR_OVERLOAD : Fld := ⟨Reg.MUR_ISR, 1, 1⟩
def F.MUR_ISR_BIN_SF_FULL : Fld := ⟨Reg.MUR_ISR, 2, 1⟩
def F.MUR_ISR_SIC_LIMIT : Fld := ⟨Reg.MUR_ISR, 3, 1⟩
def Reg.MUR_IER : Nat := 0x40070044
def F.MUR_IER_ENABLE : Fld := ⟨Reg.MUR_IER, 0, 4⟩
def Reg.MUR_SEATS : Nat := 0x40070048
def F.MUR_SEATS_USED : Fld := ⟨Reg.MUR_SEATS, 0, 8⟩
def F.MUR_SEATS_QUEUED : Fld := ⟨Reg.MUR_SEATS, 8, 8⟩
def Reg.MUR_LOAD : Nat := 0x4007004c
def F.MUR_LOAD_LIVE : Fld := ⟨Reg.MUR_LOAD, 0, 7⟩
def F.MUR_LOAD_RESIDUE : Fld := ⟨Reg.MUR_LOAD, 8, 7⟩
def F.MUR_LOAD_SIC_QUEUE : Fld := ⟨Reg.MUR_LOAD, 16, 5⟩
def Reg.MUR_CB_IDX : Nat := 0x40070060
def F.MUR_CB_IDX_SAMPLE : Fld := ⟨Reg.MUR_CB_IDX, 0, 14⟩
def F.MUR_CB_IDX_ENTRY : Fld := ⟨Reg.MUR_CB_IDX, 16, 5⟩
def F.MUR_CB_IDX_FREEZE : Fld := ⟨Reg.MUR_CB_IDX, 31, 1⟩
def Reg.MUR_CB_DATA : Nat := 0x40070064
def F.MUR_CB_DATA_I : Fld := ⟨Reg.MUR_CB_DATA, 0, 16⟩
def F.MUR_CB_DATA_Q : Fld := ⟨Reg.MUR_CB_DATA, 16, 16⟩
def Reg.MUR_CNT (n : Nat) : Nat := 0x40070080 + n * 0x4
def F.MUR_CNT_COUNT (n : Nat) : Fld := ⟨Reg.MUR_CNT n, 0, 32⟩
def Reg.MUR_WIDE (n : Nat) : Nat := 0x40070100 + n * 0x4
def F.MUR_WIDE_EN (n : Nat) : Fld := ⟨Reg.MUR_WIDE n, 0, 1⟩
def F.MUR_WIDE_MODE (n : Nat) : Fld := ⟨Reg.MUR_WIDE n, 1, 1⟩
def F.MUR_WIDE_BAND (n : Nat) : Fld := ⟨Reg.MUR_WIDE n, 2, 1⟩
def F.MUR_WIDE_CHANNEL (n : Nat) : Fld := ⟨Reg.MUR_WIDE n, 4, 4⟩
def Reg.MUR_LANE_STATE (n : Nat) : Nat := 0x40070400 + n * 0x20
def F.MUR_LANE_STATE_STATE (n : Nat) : Fld := ⟨Reg.MUR_LANE_STATE n, 0, 3⟩
def F.MUR_LANE_STATE_LEVEL (n : Nat) : Fld := ⟨Reg.MUR_LANE_STATE n, 4, 3⟩
def Reg.MUR_LANE_TRIPLE (n : Nat) : Nat := 0x40070404 + n * 0x20
def F.MUR_LANE_TRIPLE_BIN (n : Nat) : Fld := ⟨Reg.MUR_LANE_TRIPLE n, 0, 8⟩
def F.MUR_LANE_TRIPLE_SF_IDX (n : Nat) : Fld := ⟨Reg.MUR_LANE_TRIPLE n, 8, 4⟩
def F.MUR_LANE_TRIPLE_CODE (n : Nat) : Fld := ⟨Reg.MUR_LANE_TRIPLE n, 12, 3⟩
def Reg.MUR_LANE_METRIC (n : Nat) : Nat := 0x40070408 + n * 0x20
def F.MUR_LANE_METRIC_Q (n : Nat) : Fld := ⟨Reg.MUR_LANE_METRIC n, 0, 8⟩
def F.MUR_LANE_METRIC_CFO (n : Nat) : Fld := ⟨Reg.MUR_LANE_METRIC n, 16, 16⟩
def Reg.MUR_LANE_FRAMES (n : Nat) : Nat := 0x4007040c + n * 0x20
def F.MUR_LANE_FRAMES_COUNT (n : Nat) : Fld := ⟨Reg.MUR_LANE_FRAMES n, 0, 32⟩
def Reg.MUR_LANE_START (n : Nat) : Nat := 0x40070410 + n * 0x20
/-! ### CHN -/
def Reg.CHN_CFG : Nat := 0x40080010
def F.CHN_CFG_REPAIR_HORIZON : Fld := ⟨Reg.CHN_CFG, 0, 8⟩
def F.CHN_CFG_MIN_LEAD : Fld := ⟨Reg.CHN_CFG, 8, 4⟩
def F.CHN_CFG_TX_OFFSET : Fld := ⟨Reg.CHN_CFG, 16, 8⟩
def F.CHN_CFG_RX_LIMIT : Fld := ⟨Reg.CHN_CFG, 24, 5⟩
def Reg.CHN_PRIO_LIM : Nat := 0x40080014
def F.CHN_PRIO_LIM_LIM1 : Fld := ⟨Reg.CHN_PRIO_LIM, 0, 7⟩
def F.CHN_PRIO_LIM_LIM2 : Fld := ⟨Reg.CHN_PRIO_LIM, 8, 7⟩
def F.CHN_PRIO_LIM_LIM3 : Fld := ⟨Reg.CHN_PRIO_LIM, 16, 7⟩
def Reg.CHN_STATUS : Nat := 0x40080018
def F.CHN_STATUS_ACTIVE_BANK : Fld := ⟨Reg.CHN_STATUS, 0, 1⟩
def F.CHN_STATUS_SWAP_PENDING : Fld := ⟨Reg.CHN_STATUS, 1, 1⟩
def F.CHN_STATUS_FAULT : Fld := ⟨Reg.CHN_STATUS, 2, 1⟩
def Reg.CHN_USE : Nat := 0x4008001c
def F.CHN_USE_TX_USED : Fld := ⟨Reg.CHN_USE, 0, 13⟩
def F.CHN_USE_TIMED_USED : Fld := ⟨Reg.CHN_USE, 16, 13⟩
def Reg.CHN_ISR : Nat := 0x40080020
def F.CHN_ISR_MISMATCH : Fld := ⟨Reg.CHN_ISR, 0, 1⟩
def F.CHN_ISR_FAULT : Fld := ⟨Reg.CHN_ISR, 1, 1⟩
def F.CHN_ISR_ECC_CE : Fld := ⟨Reg.CHN_ISR, 2, 1⟩
def F.CHN_ISR_ECC_UE : Fld := ⟨Reg.CHN_ISR, 3, 1⟩
def F.CHN_ISR_CELL_WERR : Fld := ⟨Reg.CHN_ISR, 4, 1⟩
def F.CHN_ISR_SWAP_DONE : Fld := ⟨Reg.CHN_ISR, 5, 1⟩
def Reg.CHN_IER : Nat := 0x40080024
def F.CHN_IER_ENABLE : Fld := ⟨Reg.CHN_IER, 0, 6⟩
def Reg.CHN_MISMATCH : Nat := 0x40080028
def F.CHN_MISMATCH_COUNT : Fld := ⟨Reg.CHN_MISMATCH, 0, 16⟩
def F.CHN_MISMATCH_RECENT : Fld := ⟨Reg.CHN_MISMATCH, 16, 2⟩
def Reg.CHN_ECC : Nat := 0x4008002c
def F.CHN_ECC_CE_COUNT : Fld := ⟨Reg.CHN_ECC, 0, 16⟩
def F.CHN_ECC_UE_COUNT : Fld := ⟨Reg.CHN_ECC, 16, 16⟩
def Reg.CHN_CAL_IDX : Nat := 0x40080030
def F.CHN_CAL_IDX_IDX : Fld := ⟨Reg.CHN_CAL_IDX, 0, 14⟩
def Reg.CHN_CAL_DATA : Nat := 0x40080038
def Reg.CHN_CELL_IDX : Nat := 0x40080040
def F.CHN_CELL_IDX_IDX : Fld := ⟨Reg.CHN_CELL_IDX, 0, 16⟩
def Reg.CHN_CELL_LO : Nat := 0x40080044
def F.CHN_CELL_LO_CELL : Fld := ⟨Reg.CHN_CELL_LO, 0, 32⟩
def Reg.CHN_CELL_HI : Nat := 0x40080048
def F.CHN_CELL_HI_CELL : Fld := ⟨Reg.CHN_CELL_HI, 0, 16⟩
def Reg.CHN_SF_CFG (i j : Nat) : Nat := 0x40080100 + i * 0x80 + j * 0x10
def F.CHN_SF_CFG_EN (i j : Nat) : Fld := ⟨Reg.CHN_SF_CFG i j, 0, 1⟩
def F.CHN_SF_CFG_LEN_M1 (i j : Nat) : Fld := ⟨Reg.CHN_SF_CFG i j, 16, 16⟩
def Reg.CHN_SF_FIRST (i j : Nat) : Nat := 0x40080104 + i * 0x80 + j * 0x10
def F.CHN_SF_FIRST_FIRST_CELL (i j : Nat) : Fld := ⟨Reg.CHN_SF_FIRST i j, 0, 16⟩
def Reg.CHN_SF_COUNT (i j : Nat) : Nat := 0x40080108 + i * 0x80 + j * 0x10
def F.CHN_SF_COUNT_CELL_COUNT (i j : Nat) : Fld := ⟨Reg.CHN_SF_COUNT i j, 0, 17⟩
def Reg.CHN_AC_CFG (i j : Nat) : Nat := 0x40080200 + i * 0x100 + j * 0x10
def F.CHN_AC_CFG_SF_ID (i j : Nat) : Fld := ⟨Reg.CHN_AC_CFG i j, 0, 3⟩
def F.CHN_AC_CFG_DIR (i j : Nat) : Fld := ⟨Reg.CHN_AC_CFG i j, 4, 1⟩
def F.CHN_AC_CFG_EN (i j : Nat) : Fld := ⟨Reg.CHN_AC_CFG i j, 7, 1⟩
def F.CHN_AC_CFG_POS_DUR (i j : Nat) : Fld := ⟨Reg.CHN_AC_CFG i j, 8, 4⟩
def F.CHN_AC_CFG_BIN_FIRST (i j : Nat) : Fld := ⟨Reg.CHN_AC_CFG i j, 16, 8⟩
def F.CHN_AC_CFG_BIN_COUNT (i j : Nat) : Fld := ⟨Reg.CHN_AC_CFG i j, 24, 8⟩
def Reg.CHN_AC_POS (i j : Nat) : Nat := 0x40080204 + i * 0x100 + j * 0x10
def F.CHN_AC_POS_FIRST_OFFSET (i j : Nat) : Fld := ⟨Reg.CHN_AC_POS i j, 0, 16⟩
def F.CHN_AC_POS_SPAN (i j : Nat) : Fld := ⟨Reg.CHN_AC_POS i j, 16, 16⟩
/-! ### MAC -/
def Reg.MAC_CFG : Nat := 0x40090010
def F.MAC_CFG_REGION : Fld := ⟨Reg.MAC_CFG, 0, 2⟩
def F.MAC_CFG_TIME_SRC : Fld := ⟨Reg.MAC_CFG, 2, 2⟩
def F.MAC_CFG_BEACON_COPY : Fld := ⟨Reg.MAC_CFG, 4, 1⟩
def F.MAC_CFG_DELIVER_REJECTS : Fld := ⟨Reg.MAC_CFG, 5, 1⟩
def F.MAC_CFG_LINK_SLOT : Fld := ⟨Reg.MAC_CFG, 8, 6⟩
def F.MAC_CFG_DEVICE_ID : Fld := ⟨Reg.MAC_CFG, 16, 10⟩
def Reg.MAC_DRONE : Nat := 0x40090014
def F.MAC_DRONE_PERIOD_LOG2 : Fld := ⟨Reg.MAC_DRONE, 0, 5⟩
def F.MAC_DRONE_AUTO : Fld := ⟨Reg.MAC_DRONE, 5, 1⟩
def F.MAC_DRONE_CODE : Fld := ⟨Reg.MAC_DRONE, 6, 3⟩
def F.MAC_DRONE_DEPTH_MAX : Fld := ⟨Reg.MAC_DRONE, 12, 4⟩
def F.MAC_DRONE_BEACON_SLOT : Fld := ⟨Reg.MAC_DRONE, 16, 6⟩
def F.MAC_DRONE_REPAIR_DELAY : Fld := ⟨Reg.MAC_DRONE, 24, 6⟩
def Reg.MAC_SYNC : Nat := 0x40090018
def F.MAC_SYNC_G0 : Fld := ⟨Reg.MAC_SYNC, 0, 8⟩
def F.MAC_SYNC_DRIFT : Fld := ⟨Reg.MAC_SYNC, 8, 8⟩
def F.MAC_SYNC_ALPHA : Fld := ⟨Reg.MAC_SYNC, 16, 3⟩
def F.MAC_SYNC_MAX_SLEW : Fld := ⟨Reg.MAC_SYNC, 20, 8⟩
def F.MAC_SYNC_RETRY : Fld := ⟨Reg.MAC_SYNC, 28, 4⟩
def Reg.MAC_SYNC_STATUS : Nat := 0x4009001c
def F.MAC_SYNC_STATUS_STATE : Fld := ⟨Reg.MAC_SYNC_STATUS, 0, 3⟩
def F.MAC_SYNC_STATUS_CAPPED : Fld := ⟨Reg.MAC_SYNC_STATUS, 3, 1⟩
def F.MAC_SYNC_STATUS_PARENT : Fld := ⟨Reg.MAC_SYNC_STATUS, 4, 4⟩
def F.MAC_SYNC_STATUS_PARENT_V : Fld := ⟨Reg.MAC_SYNC_STATUS, 8, 1⟩
def F.MAC_SYNC_STATUS_SLEWING : Fld := ⟨Reg.MAC_SYNC_STATUS, 9, 1⟩
def Reg.MAC_FREQ_EST : Nat := 0x40090020
def F.MAC_FREQ_EST_EST : Fld := ⟨Reg.MAC_FREQ_EST, 0, 32⟩
def Reg.MAC_PHASE : Nat := 0x40090024
def F.MAC_PHASE_PHI : Fld := ⟨Reg.MAC_PHASE, 0, 32⟩
def Reg.MAC_BCN : Nat := 0x40090028
def F.MAC_BCN_LINK : Fld := ⟨Reg.MAC_BCN, 0, 14⟩
def F.MAC_BCN_ACC : Fld := ⟨Reg.MAC_BCN, 16, 8⟩
def F.MAC_BCN_LEAP : Fld := ⟨Reg.MAC_BCN, 24, 8⟩
def Reg.MAC_TXFC : Nat := 0x4009002c
def F.MAC_TXFC_NEXT : Fld := ⟨Reg.MAC_TXFC, 0, 32⟩
def Reg.MAC_ISR : Nat := 0x40090030
def F.MAC_ISR_BEACON_MISS : Fld := ⟨Reg.MAC_ISR, 0, 1⟩
def F.MAC_ISR_PARENT_LOST : Fld := ⟨Reg.MAC_ISR, 1, 1⟩
def F.MAC_ISR_PARENT_ACQUIRED : Fld := ⟨Reg.MAC_ISR, 2, 1⟩
def F.MAC_ISR_ORPHAN : Fld := ⟨Reg.MAC_ISR, 3, 1⟩
def F.MAC_ISR_GUARD_CAP : Fld := ⟨Reg.MAC_ISR, 4, 1⟩
def F.MAC_ISR_TXFC_LOW : Fld := ⟨Reg.MAC_ISR, 5, 1⟩
def Reg.MAC_IER : Nat := 0x40090034
def F.MAC_IER_ENABLE : Fld := ⟨Reg.MAC_IER, 0, 6⟩
def Reg.MAC_BCN_RADIO : Nat := 0x40090038
def F.MAC_BCN_RADIO_SF_IDX : Fld := ⟨Reg.MAC_BCN_RADIO, 0, 4⟩
def F.MAC_BCN_RADIO_CRC32 : Fld := ⟨Reg.MAC_BCN_RADIO, 7, 1⟩
def F.MAC_BCN_RADIO_POWER : Fld := ⟨Reg.MAC_BCN_RADIO, 8, 8⟩
def F.MAC_BCN_RADIO_BIN : Fld := ⟨Reg.MAC_BCN_RADIO, 16, 8⟩
def Reg.MAC_RXCNT (n : Nat) : Nat := 0x40090040 + n * 0x4
def F.MAC_RXCNT_COUNT (n : Nat) : Fld := ⟨Reg.MAC_RXCNT n, 0, 32⟩
def Reg.MAC_NBR_ADDR (n : Nat) : Nat := 0x40090100 + n * 0x10
def F.MAC_NBR_ADDR_DEVICE_ID (n : Nat) : Fld := ⟨Reg.MAC_NBR_ADDR n, 0, 10⟩
def F.MAC_NBR_ADDR_CAND (n : Nat) : Fld := ⟨Reg.MAC_NBR_ADDR n, 14, 1⟩
def F.MAC_NBR_ADDR_EN (n : Nat) : Fld := ⟨Reg.MAC_NBR_ADDR n, 15, 1⟩
def F.MAC_NBR_ADDR_LINK (n : Nat) : Fld := ⟨Reg.MAC_NBR_ADDR n, 16, 14⟩
def Reg.MAC_NBR_RADIO (n : Nat) : Nat := 0x40090104 + n * 0x10
def F.MAC_NBR_RADIO_BIN (n : Nat) : Fld := ⟨Reg.MAC_NBR_RADIO n, 0, 8⟩
def F.MAC_NBR_RADIO_SF_IDX (n : Nat) : Fld := ⟨Reg.MAC_NBR_RADIO n, 8, 4⟩
def F.MAC_NBR_RADIO_CODE (n : Nat) : Fld := ⟨Reg.MAC_NBR_RADIO n, 12, 3⟩
def Reg.MAC_NBR_FC_HWM (n : Nat) : Nat := 0x40090108 + n * 0x10
def F.MAC_NBR_FC_HWM_HWM (n : Nat) : Fld := ⟨Reg.MAC_NBR_FC_HWM n, 0, 32⟩
def Reg.MAC_NBR_QUAL (n : Nat) : Nat := 0x4009010c + n * 0x10
def F.MAC_NBR_QUAL_LQ (n : Nat) : Fld := ⟨Reg.MAC_NBR_QUAL n, 0, 8⟩
def F.MAC_NBR_QUAL_DEPTH (n : Nat) : Fld := ⟨Reg.MAC_NBR_QUAL n, 8, 4⟩
def Reg.MAC_DC_CFG (n : Nat) : Nat := 0x40090200 + n * 0x20
def F.MAC_DC_CFG_EN (n : Nat) : Fld := ⟨Reg.MAC_DC_CFG n, 0, 1⟩
def F.MAC_DC_CFG_WIDE (n : Nat) : Fld := ⟨Reg.MAC_DC_CFG n, 1, 1⟩
def F.MAC_DC_CFG_DWELL (n : Nat) : Fld := ⟨Reg.MAC_DC_CFG n, 2, 1⟩
def F.MAC_DC_CFG_LBT_EN (n : Nat) : Fld := ⟨Reg.MAC_DC_CFG n, 3, 1⟩
def F.MAC_DC_CFG_LIMIT (n : Nat) : Fld := ⟨Reg.MAC_DC_CFG n, 16, 10⟩
def Reg.MAC_DC_FLO (n : Nat) : Nat := 0x40090204 + n * 0x20
def F.MAC_DC_FLO_KHZ (n : Nat) : Fld := ⟨Reg.MAC_DC_FLO n, 0, 20⟩
def Reg.MAC_DC_FHI (n : Nat) : Nat := 0x40090208 + n * 0x20
def F.MAC_DC_FHI_KHZ (n : Nat) : Fld := ⟨Reg.MAC_DC_FHI n, 0, 20⟩
def Reg.MAC_DC_WIN (n : Nat) : Nat := 0x4009020c + n * 0x20
def F.MAC_DC_WIN_BUCKET_S (n : Nat) : Fld := ⟨Reg.MAC_DC_WIN n, 0, 8⟩
def F.MAC_DC_WIN_NBUCKETS (n : Nat) : Fld := ⟨Reg.MAC_DC_WIN n, 8, 8⟩
def F.MAC_DC_WIN_MAXTX (n : Nat) : Fld := ⟨Reg.MAC_DC_WIN n, 16, 16⟩
def Reg.MAC_DC_LBT (n : Nat) : Nat := 0x40090210 + n * 0x20
def F.MAC_DC_LBT_LISTEN_US (n : Nat) : Fld := ⟨Reg.MAC_DC_LBT n, 0, 16⟩
def F.MAC_DC_LBT_THRESH (n : Nat) : Fld := ⟨Reg.MAC_DC_LBT n, 16, 8⟩
def F.MAC_DC_LBT_PAUSE_MS (n : Nat) : Fld := ⟨Reg.MAC_DC_LBT n, 24, 8⟩
def Reg.MAC_DC_USED (n : Nat) : Nat := 0x40090214 + n * 0x20
def F.MAC_DC_USED_US (n : Nat) : Fld := ⟨Reg.MAC_DC_USED n, 0, 32⟩
/-! ### ESM -/
def Reg.ESM_CFG : Nat := 0x400a0010
def F.ESM_CFG_MASTER_SLOT : Fld := ⟨Reg.ESM_CFG, 0, 6⟩
def F.ESM_CFG_SCRUB_EN : Fld := ⟨Reg.ESM_CFG, 8, 1⟩
def Reg.ESM_BANKS : Nat := 0x400a0014
def F.ESM_BANKS_ON : Fld := ⟨Reg.ESM_BANKS, 0, 32⟩
def Reg.ESM_CKPT : Nat := 0x400a0018
def F.ESM_CKPT_INTERVAL_MIN : Fld := ⟨Reg.ESM_CKPT, 0, 16⟩
def F.ESM_CKPT_LIFE_Y : Fld := ⟨Reg.ESM_CKPT, 16, 8⟩
def Reg.ESM_CKPT_MIN : Nat := 0x400a001c
def F.ESM_CKPT_MIN_MINUTES : Fld := ⟨Reg.ESM_CKPT_MIN, 0, 16⟩
def Reg.ESM_CTL : Nat := 0x400a0020
def F.ESM_CTL_CKPT_NOW : Fld := ⟨Reg.ESM_CTL, 0, 1⟩
def F.ESM_CTL_CLOSE : Fld := ⟨Reg.ESM_CTL, 1, 1⟩
def Reg.ESM_STATUS : Nat := 0x400a0024
def F.ESM_STATUS_LOST : Fld := ⟨Reg.ESM_STATUS, 0, 1⟩
def F.ESM_STATUS_CKPT_RUNNING : Fld := ⟨Reg.ESM_STATUS, 1, 1⟩
def F.ESM_STATUS_CLOSED : Fld := ⟨Reg.ESM_STATUS, 2, 1⟩
def F.ESM_STATUS_CKPT_REASON : Fld := ⟨Reg.ESM_STATUS, 16, 16⟩
def Reg.ESM_ISR : Nat := 0x400a0028
def F.ESM_ISR_UE : Fld := ⟨Reg.ESM_ISR, 0, 1⟩
def F.ESM_ISR_CE : Fld := ⟨Reg.ESM_ISR, 1, 1⟩
def F.ESM_ISR_CKPT_DONE : Fld := ⟨Reg.ESM_ISR, 2, 1⟩
def F.ESM_ISR_CKPT_LATE : Fld := ⟨Reg.ESM_ISR, 3, 1⟩
def F.ESM_ISR_CKPT_FAIL : Fld := ⟨Reg.ESM_ISR, 4, 1⟩
def Reg.ESM_IER : Nat := 0x400a002c
def F.ESM_IER_ENABLE : Fld := ⟨Reg.ESM_IER, 0, 5⟩
def Reg.ESM_UE_IDX : Nat := 0x400a0030
def F.ESM_UE_IDX_INDEX : Fld := ⟨Reg.ESM_UE_IDX, 0, 20⟩
def F.ESM_UE_IDX_PENDING : Fld := ⟨Reg.ESM_UE_IDX, 20, 8⟩
def Reg.ESM_ECC : Nat := 0x400a0034
def F.ESM_ECC_CE_COUNT : Fld := ⟨Reg.ESM_ECC, 0, 16⟩
def F.ESM_ECC_UE_COUNT : Fld := ⟨Reg.ESM_ECC, 16, 16⟩
def Reg.ESM_CKPT_SEQ : Nat := 0x400a0038
def F.ESM_CKPT_SEQ_SEQ : Fld := ⟨Reg.ESM_CKPT_SEQ, 0, 32⟩
def Reg.ESM_CNT (n : Nat) : Nat := 0x400a0040 + n * 0x4
def F.ESM_CNT_COUNT (n : Nat) : Fld := ⟨Reg.ESM_CNT n, 0, 32⟩
/-! ### CRY -/
def Reg.CRY_CFG : Nat := 0x400b0010
def F.CRY_CFG_CACHE_EN : Fld := ⟨Reg.CRY_CFG, 0, 1⟩
def Reg.CRY_STATUS : Nat := 0x400b0014
def F.CRY_STATUS_QPEND : Fld := ⟨Reg.CRY_STATUS, 0, 8⟩
def F.CRY_STATUS_ERASED : Fld := ⟨Reg.CRY_STATUS, 8, 1⟩
def F.CRY_STATUS_REASON : Fld := ⟨Reg.CRY_STATUS, 16, 16⟩
def Reg.CRY_CTL : Nat := 0x400b0018
def F.CRY_CTL_TXFC_RESTART : Fld := ⟨Reg.CRY_CTL, 0, 1⟩
def Reg.CRY_ISR : Nat := 0x400b0020
def F.CRY_ISR_SLOT_LOW : Fld := ⟨Reg.CRY_ISR, 0, 1⟩
def F.CRY_ISR_SLOT_EXHAUSTED : Fld := ⟨Reg.CRY_ISR, 1, 1⟩
def F.CRY_ISR_ERASED : Fld := ⟨Reg.CRY_ISR, 2, 1⟩
def F.CRY_ISR_NONCE_LOW : Fld := ⟨Reg.CRY_ISR, 3, 1⟩
def Reg.CRY_IER : Nat := 0x400b0024
def F.CRY_IER_ENABLE : Fld := ⟨Reg.CRY_IER, 0, 4⟩
def Reg.CRY_NONCE : Nat := 0x400b0028
def F.CRY_NONCE_INSTANCE : Fld := ⟨Reg.CRY_NONCE, 0, 32⟩
def Reg.CRY_NONCE_NEXT : Nat := 0x400b0030
def Reg.CRY_CNT (n : Nat) : Nat := 0x400b0040 + n * 0x4
def F.CRY_CNT_COUNT (n : Nat) : Fld := ⟨Reg.CRY_CNT n, 0, 32⟩
def Reg.CRY_SLOT_ATTR (n : Nat) : Nat := 0x400b0100 + n * 0x10
def F.CRY_SLOT_ATTR_VALID (n : Nat) : Fld := ⟨Reg.CRY_SLOT_ATTR n, 0, 1⟩
def F.CRY_SLOT_ATTR_TYPE (n : Nat) : Fld := ⟨Reg.CRY_SLOT_ATTR n, 1, 1⟩
def F.CRY_SLOT_ATTR_PERSIST (n : Nat) : Fld := ⟨Reg.CRY_SLOT_ATTR n, 2, 1⟩
def F.CRY_SLOT_ATTR_KEK (n : Nat) : Fld := ⟨Reg.CRY_SLOT_ATTR n, 3, 1⟩
def F.CRY_SLOT_ATTR_EXHAUSTED (n : Nat) : Fld := ⟨Reg.CRY_SLOT_ATTR n, 4, 1⟩
def F.CRY_SLOT_ATTR_MODES (n : Nat) : Fld := ⟨Reg.CRY_SLOT_ATTR n, 8, 9⟩
def F.CRY_SLOT_ATTR_LIMIT_LOG2 (n : Nat) : Fld := ⟨Reg.CRY_SLOT_ATTR n, 17, 6⟩
def Reg.CRY_SLOT_USE_LO (n : Nat) : Nat := 0x400b0104 + n * 0x10
def F.CRY_SLOT_USE_LO_USE (n : Nat) : Fld := ⟨Reg.CRY_SLOT_USE_LO n, 0, 32⟩
def Reg.CRY_SLOT_USE_HI (n : Nat) : Nat := 0x400b0108 + n * 0x10
def F.CRY_SLOT_USE_HI_USE (n : Nat) : Fld := ⟨Reg.CRY_SLOT_USE_HI n, 0, 16⟩
/-! ### SIG -/
def Reg.SIG_STATUS : Nat := 0x400c0010
def F.SIG_STATUS_BUSY : Fld := ⟨Reg.SIG_STATUS, 0, 1⟩
def F.SIG_STATUS_OWNED : Fld := ⟨Reg.SIG_STATUS, 1, 1⟩
def F.SIG_STATUS_OWNER_VALID : Fld := ⟨Reg.SIG_STATUS, 2, 4⟩
def Reg.SIG_OWNER_SEQ : Nat := 0x400c0014
def F.SIG_OWNER_SEQ_SEQ : Fld := ⟨Reg.SIG_OWNER_SEQ, 0, 32⟩
def Reg.SIG_ISR : Nat := 0x400c0020
def F.SIG_ISR_VERIFY_FAIL : Fld := ⟨Reg.SIG_ISR, 0, 1⟩
def F.SIG_ISR_OWNER_CHANGED : Fld := ⟨Reg.SIG_ISR, 1, 1⟩
def Reg.SIG_IER : Nat := 0x400c0024
def F.SIG_IER_ENABLE : Fld := ⟨Reg.SIG_IER, 0, 2⟩
def Reg.SIG_CNT (n : Nat) : Nat := 0x400c0040 + n * 0x4
def F.SIG_CNT_COUNT (n : Nat) : Fld := ⟨Reg.SIG_CNT n, 0, 32⟩
/-! ### SKN -/
def Reg.SKN_CFG : Nat := 0x400d0010
def F.SKN_CFG_PRIORITY : Fld := ⟨Reg.SKN_CFG, 0, 8⟩
def F.SKN_CFG_PLL_DISC : Fld := ⟨Reg.SKN_CFG, 8, 1⟩
def F.SKN_CFG_RESET_EN : Fld := ⟨Reg.SKN_CFG, 9, 1⟩
def F.SKN_CFG_QUENCH_SKEIN : Fld := ⟨Reg.SKN_CFG, 10, 1⟩
def F.SKN_CFG_RESET_SLOT : Fld := ⟨Reg.SKN_CFG, 12, 6⟩
def F.SKN_CFG_CRING : Fld := ⟨Reg.SKN_CFG, 18, 2⟩
def Reg.SKN_MSG : Nat := 0x400d0014
def F.SKN_MSG_SHARE : Fld := ⟨Reg.SKN_MSG, 0, 12⟩
def F.SKN_MSG_HOLD_MS : Fld := ⟨Reg.SKN_MSG, 16, 14⟩
def Reg.SKN_TIME : Nat := 0x400d0018
def F.SKN_TIME_HOLD_PPB : Fld := ⟨Reg.SKN_TIME, 0, 16⟩
def Reg.SKN_STATUS : Nat := 0x400d001c
def F.SKN_STATUS_STATE : Fld := ⟨Reg.SKN_STATUS, 0, 3⟩
def F.SKN_STATUS_DEPUTY : Fld := ⟨Reg.SKN_STATUS, 3, 1⟩
def F.SKN_STATUS_UPPORT : Fld := ⟨Reg.SKN_STATUS, 4, 2⟩
def F.SKN_STATUS_SQUENCH : Fld := ⟨Reg.SKN_STATUS, 6, 1⟩
def F.SKN_STATUS_HEAD_ID : Fld := ⟨Reg.SKN_STATUS, 8, 10⟩
def F.SKN_STATUS_HOPS : Fld := ⟨Reg.SKN_STATUS, 18, 11⟩
def Reg.SKN_DEPUTY : Nat := 0x400d0020
def F.SKN_DEPUTY_ID : Fld := ⟨Reg.SKN_DEPUTY, 0, 10⟩
def F.SKN_DEPUTY_V : Fld := ⟨Reg.SKN_DEPUTY, 10, 1⟩
def Reg.SKN_CTL : Nat := 0x400d0024
def F.SKN_CTL_QUENCH_RELEASE : Fld := ⟨Reg.SKN_CTL, 0, 1⟩
def F.SKN_CTL_UNBLOCK : Fld := ⟨Reg.SKN_CTL, 1, 1⟩
def Reg.SKN_ISR : Nat := 0x400d0028
def F.SKN_ISR_PATH_LOST : Fld := ⟨Reg.SKN_ISR, 0, 1⟩
def F.SKN_ISR_PATH_RESTORED : Fld := ⟨Reg.SKN_ISR, 1, 1⟩
def F.SKN_ISR_HEAD_CHANGED : Fld := ⟨Reg.SKN_ISR, 2, 1⟩
def F.SKN_ISR_HEADLESS : Fld := ⟨Reg.SKN_ISR, 3, 1⟩
def F.SKN_ISR_LINE_FAULT : Fld := ⟨Reg.SKN_ISR, 4, 1⟩
def F.SKN_ISR_ID_CONFLICT : Fld := ⟨Reg.SKN_ISR, 5, 1⟩
def F.SKN_ISR_RESET_REJECTED : Fld := ⟨Reg.SKN_ISR, 6, 1⟩
def F.SKN_ISR_SQUENCH_CHANGED : Fld := ⟨Reg.SKN_ISR, 7, 1⟩
def Reg.SKN_IER : Nat := 0x400d002c
def F.SKN_IER_ENABLE : Fld := ⟨Reg.SKN_IER, 0, 8⟩
def Reg.SKN_OFFSET : Nat := 0x400d0030
def F.SKN_OFFSET_THETA : Fld := ⟨Reg.SKN_OFFSET, 0, 32⟩
def Reg.SKN_XO : Nat := 0x400d0034
def F.SKN_XO_PPB : Fld := ⟨Reg.SKN_XO, 0, 32⟩
def Reg.SKN_HOLD : Nat := 0x400d0038
def F.SKN_HOLD_MESSAGES : Fld := ⟨Reg.SKN_HOLD, 0, 11⟩
def F.SKN_HOLD_KIB : Fld := ⟨Reg.SKN_HOLD, 16, 10⟩
def Reg.SKN_HOLDOVER : Nat := 0x400d003c
def F.SKN_HOLDOVER_MS : Fld := ⟨Reg.SKN_HOLDOVER, 0, 32⟩
def Reg.SKN_MEMBER_IDX : Nat := 0x400d0040
def F.SKN_MEMBER_IDX_ID : Fld := ⟨Reg.SKN_MEMBER_IDX, 0, 10⟩
def Reg.SKN_MEMBER_DATA : Nat := 0x400d0044
def F.SKN_MEMBER_DATA_PRESENT : Fld := ⟨Reg.SKN_MEMBER_DATA, 0, 1⟩
def F.SKN_MEMBER_DATA_PARENT : Fld := ⟨Reg.SKN_MEMBER_DATA, 1, 10⟩
def F.SKN_MEMBER_DATA_PPORT : Fld := ⟨Reg.SKN_MEMBER_DATA, 11, 2⟩
def F.SKN_MEMBER_DATA_HOPS : Fld := ⟨Reg.SKN_MEMBER_DATA, 13, 11⟩
def F.SKN_MEMBER_DATA_PRIORITY : Fld := ⟨Reg.SKN_MEMBER_DATA, 24, 8⟩
def Reg.SKN_CNT (n : Nat) : Nat := 0x400d0080 + n * 0x4
def F.SKN_CNT_COUNT (n : Nat) : Fld := ⟨Reg.SKN_CNT n, 0, 32⟩
def Reg.SKN_PORT_CFG (n : Nat) : Nat := 0x400d0100 + n * 0x40
def F.SKN_PORT_CFG_EN (n : Nat) : Fld := ⟨Reg.SKN_PORT_CFG n, 0, 1⟩
def F.SKN_PORT_CFG_RATE (n : Nat) : Fld := ⟨Reg.SKN_PORT_CFG n, 1, 2⟩
def Reg.SKN_PORT_ASYM (n : Nat) : Nat := 0x400d0104 + n * 0x40
def F.SKN_PORT_ASYM_ASYM (n : Nat) : Fld := ⟨Reg.SKN_PORT_ASYM n, 0, 32⟩
def Reg.SKN_PORT_STATUS (n : Nat) : Nat := 0x400d0108 + n * 0x40
def F.SKN_PORT_STATUS_LINK (n : Nat) : Fld := ⟨Reg.SKN_PORT_STATUS n, 0, 3⟩
def F.SKN_PORT_STATUS_POL_INV (n : Nat) : Fld := ⟨Reg.SKN_PORT_STATUS n, 3, 1⟩
def F.SKN_PORT_STATUS_LOW_RATE (n : Nat) : Fld := ⟨Reg.SKN_PORT_STATUS n, 4, 1⟩
def F.SKN_PORT_STATUS_FAULT (n : Nat) : Fld := ⟨Reg.SKN_PORT_STATUS n, 8, 3⟩
def F.SKN_PORT_STATUS_FAULT_PAIR (n : Nat) : Fld := ⟨Reg.SKN_PORT_STATUS n, 11, 1⟩
def F.SKN_PORT_STATUS_FAULT_DIST (n : Nat) : Fld := ⟨Reg.SKN_PORT_STATUS n, 16, 9⟩
def Reg.SKN_PORT_PEER (n : Nat) : Nat := 0x400d010c + n * 0x40
def F.SKN_PORT_PEER_ID (n : Nat) : Fld := ⟨Reg.SKN_PORT_PEER n, 0, 10⟩
def F.SKN_PORT_PEER_PORT (n : Nat) : Fld := ⟨Reg.SKN_PORT_PEER n, 10, 2⟩
def F.SKN_PORT_PEER_V (n : Nat) : Fld := ⟨Reg.SKN_PORT_PEER n, 12, 1⟩
def Reg.SKN_PORT_DELAY (n : Nat) : Nat := 0x400d0110 + n * 0x40
def F.SKN_PORT_DELAY_D_F (n : Nat) : Fld := ⟨Reg.SKN_PORT_DELAY n, 0, 32⟩
def Reg.SKN_PORT_ERR (n : Nat) : Nat := 0x400d0114 + n * 0x40
def F.SKN_PORT_ERR_COUNT (n : Nat) : Fld := ⟨Reg.SKN_PORT_ERR n, 0, 32⟩
/-! ### FLC -/
def Reg.FLC_CFG : Nat := 0x400e0010
def F.FLC_CFG_NEST_EN : Fld := ⟨Reg.FLC_CFG, 0, 1⟩
def F.FLC_CFG_GUARD_EN : Fld := ⟨Reg.FLC_CFG, 1, 1⟩
def F.FLC_CFG_GUARD_LOG : Fld := ⟨Reg.FLC_CFG, 2, 3⟩
def F.FLC_CFG_IDLE_US : Fld := ⟨Reg.FLC_CFG, 8, 8⟩
def F.FLC_CFG_SUSP_MS : Fld := ⟨Reg.FLC_CFG, 16, 8⟩
def Reg.FLC_LOCK : Nat := 0x400e0014
def F.FLC_LOCK_EXEC_LOCK : Fld := ⟨Reg.FLC_LOCK, 0, 4⟩
def F.FLC_LOCK_PENDING : Fld := ⟨Reg.FLC_LOCK, 4, 4⟩
def Reg.FLC_STATUS : Nat := 0x400e0018
def F.FLC_STATUS_READY : Fld := ⟨Reg.FLC_STATUS, 0, 1⟩
def F.FLC_STATUS_BUSY : Fld := ⟨Reg.FLC_STATUS, 1, 4⟩
def F.FLC_STATUS_SUSP : Fld := ⟨Reg.FLC_STATUS, 5, 4⟩
def F.FLC_STATUS_NESTED : Fld := ⟨Reg.FLC_STATUS, 9, 4⟩
def F.FLC_STATUS_FIELD_BUSY : Fld := ⟨Reg.FLC_STATUS, 13, 1⟩
def F.FLC_STATUS_REFRESH_DUE : Fld := ⟨Reg.FLC_STATUS, 14, 1⟩
def Reg.FLC_SCRUB : Nat := 0x400e001c
def F.FLC_SCRUB_SCRUB_EN : Fld := ⟨Reg.FLC_SCRUB, 0, 1⟩
def F.FLC_SCRUB_THRESH : Fld := ⟨Reg.FLC_SCRUB, 1, 1⟩
def F.FLC_SCRUB_PERIOD_D : Fld := ⟨Reg.FLC_SCRUB, 8, 8⟩
def Reg.FLC_ISR : Nat := 0x400e0020
def F.FLC_ISR_DIRECT_DONE : Fld := ⟨Reg.FLC_ISR, 0, 1⟩
def F.FLC_ISR_INTERRUPTED : Fld := ⟨Reg.FLC_ISR, 1, 1⟩
def F.FLC_ISR_GROWN_BAD : Fld := ⟨Reg.FLC_ISR, 2, 1⟩
def F.FLC_ISR_SPARE_LOW : Fld := ⟨Reg.FLC_ISR, 3, 1⟩
def F.FLC_ISR_ECC_UE : Fld := ⟨Reg.FLC_ISR, 4, 1⟩
def F.FLC_ISR_SUSP_READ : Fld := ⟨Reg.FLC_ISR, 5, 1⟩
def F.FLC_ISR_REFRESH : Fld := ⟨Reg.FLC_ISR, 6, 1⟩
def F.FLC_ISR_COUNTER_FAIL : Fld := ⟨Reg.FLC_ISR, 7, 1⟩
def Reg.FLC_IER : Nat := 0x400e0024
def F.FLC_IER_ENABLE : Fld := ⟨Reg.FLC_IER, 0, 8⟩
def Reg.FLC_SPARE : Nat := 0x400e0028
def F.FLC_SPARE_FREE : Fld := ⟨Reg.FLC_SPARE, 0, 32⟩
def Reg.FLC_FAULT_ADDR : Nat := 0x400e002c
def F.FLC_FAULT_ADDR_ADDR : Fld := ⟨Reg.FLC_FAULT_ADDR, 0, 26⟩
def F.FLC_FAULT_ADDR_FIELD : Fld := ⟨Reg.FLC_FAULT_ADDR, 26, 1⟩
def Reg.FLC_DCMD : Nat := 0x400e0030
def F.FLC_DCMD_OP : Fld := ⟨Reg.FLC_DCMD, 0, 2⟩
def F.FLC_DCMD_FIELD : Fld := ⟨Reg.FLC_DCMD, 2, 1⟩
def F.FLC_DCMD_LEN : Fld := ⟨Reg.FLC_DCMD, 16, 13⟩
def F.FLC_DCMD_GO : Fld := ⟨Reg.FLC_DCMD, 31, 1⟩
def Reg.FLC_DADDR : Nat := 0x400e0034
def F.FLC_DADDR_ADDR : Fld := ⟨Reg.FLC_DADDR, 0, 26⟩
def Reg.FLC_DSRC : Nat := 0x400e0038
def F.FLC_DSRC_ADDR : Fld := ⟨Reg.FLC_DSRC, 0, 32⟩
def Reg.FLC_DSTAT : Nat := 0x400e003c
def F.FLC_DSTAT_BUSY : Fld := ⟨Reg.FLC_DSTAT, 0, 1⟩
def F.FLC_DSTAT_WAITING : Fld := ⟨Reg.FLC_DSTAT, 1, 1⟩
def F.FLC_DSTAT_NESTED : Fld := ⟨Reg.FLC_DSTAT, 2, 1⟩
def F.FLC_DSTAT_REASON : Fld := ⟨Reg.FLC_DSTAT, 16, 16⟩
def Reg.FLC_CNT (n : Nat) : Nat := 0x400e0040 + n * 0x4
def F.FLC_CNT_COUNT (n : Nat) : Fld := ⟨Reg.FLC_CNT n, 0, 32⟩
def Reg.FLC_CTR (n : Nat) : Nat := 0x400e0080 + n * 0x4
def F.FLC_CTR_VALUE (n : Nat) : Fld := ⟨Reg.FLC_CTR n, 0, 32⟩
/-! ### UPD -/
def Reg.UPD_CFG : Nat := 0x400f0010
def F.UPD_CFG_QUIESCE_MS : Fld := ⟨Reg.UPD_CFG, 0, 10⟩
def F.UPD_CFG_SKEIN_SRC : Fld := ⟨Reg.UPD_CFG, 10, 1⟩
def F.UPD_CFG_RADIO_SRC : Fld := ⟨Reg.UPD_CFG, 11, 1⟩
def Reg.UPD_STATUS : Nat := 0x400f0014
def F.UPD_STATUS_STAGE : Fld := ⟨Reg.UPD_STATUS, 0, 3⟩
def F.UPD_STATUS_RUN_BOBBIN : Fld := ⟨Reg.UPD_STATUS, 3, 1⟩
def F.UPD_STATUS_RECOVERY : Fld := ⟨Reg.UPD_STATUS, 4, 1⟩
def F.UPD_STATUS_FALLBACK : Fld := ⟨Reg.UPD_STATUS, 5, 1⟩
def F.UPD_STATUS_SOURCE : Fld := ⟨Reg.UPD_STATUS, 6, 2⟩
def F.UPD_STATUS_REASON : Fld := ⟨Reg.UPD_STATUS, 16, 16⟩
def Reg.UPD_HELD : Nat := 0x400f0018
def F.UPD_HELD_DATA : Fld := ⟨Reg.UPD_HELD, 0, 14⟩
def F.UPD_HELD_HASH : Fld := ⟨Reg.UPD_HELD, 16, 9⟩
def Reg.UPD_RUN_EPOCH : Nat := 0x400f001c
def F.UPD_RUN_EPOCH_EPOCH : Fld := ⟨Reg.UPD_RUN_EPOCH, 0, 32⟩
def Reg.UPD_RUN_VERSION : Nat := 0x400f0020
def F.UPD_RUN_VERSION_VERSION : Fld := ⟨Reg.UPD_RUN_VERSION, 0, 32⟩
def Reg.UPD_STG_EPOCH : Nat := 0x400f0024
def F.UPD_STG_EPOCH_EPOCH : Fld := ⟨Reg.UPD_STG_EPOCH, 0, 32⟩
def Reg.UPD_STG_VERSION : Nat := 0x400f0028
def F.UPD_STG_VERSION_VERSION : Fld := ⟨Reg.UPD_STG_VERSION, 0, 32⟩
def Reg.UPD_TRIAL_LEFT : Nat := 0x400f002c
def F.UPD_TRIAL_LEFT_S : Fld := ⟨Reg.UPD_TRIAL_LEFT, 0, 17⟩
def Reg.UPD_CTL : Nat := 0x400f0030
def F.UPD_CTL_ACTIVATE : Fld := ⟨Reg.UPD_CTL, 0, 1⟩
def F.UPD_CTL_HANDOVER : Fld := ⟨Reg.UPD_CTL, 1, 1⟩
def F.UPD_CTL_ALIVE : Fld := ⟨Reg.UPD_CTL, 2, 1⟩
def F.UPD_CTL_CONFIRM : Fld := ⟨Reg.UPD_CTL, 3, 1⟩
def F.UPD_CTL_REVERT : Fld := ⟨Reg.UPD_CTL, 4, 1⟩
def F.UPD_CTL_ABANDON : Fld := ⟨Reg.UPD_CTL, 5, 1⟩
def Reg.UPD_ISR : Nat := 0x400f0034
def F.UPD_ISR_STAGED : Fld := ⟨Reg.UPD_ISR, 0, 1⟩
def F.UPD_ISR_PREEMPTED : Fld := ⟨Reg.UPD_ISR, 1, 1⟩
def F.UPD_ISR_QUIESCE : Fld := ⟨Reg.UPD_ISR, 2, 1⟩
def F.UPD_ISR_SWITCHED : Fld := ⟨Reg.UPD_ISR, 3, 1⟩
def F.UPD_ISR_REVERT_REQ : Fld := ⟨Reg.UPD_ISR, 4, 1⟩
def F.UPD_ISR_CONFIRMED : Fld := ⟨Reg.UPD_ISR, 5, 1⟩
def F.UPD_ISR_REVERTED : Fld := ⟨Reg.UPD_ISR, 6, 1⟩
def Reg.UPD_IER : Nat := 0x400f0038
def F.UPD_IER_ENABLE : Fld := ⟨Reg.UPD_IER, 0, 7⟩
def Reg.UPD_BLACKOUT : Nat := 0x400f003c
def F.UPD_BLACKOUT_US : Fld := ⟨Reg.UPD_BLACKOUT, 0, 16⟩
def Reg.UPD_CNT (n : Nat) : Nat := 0x400f0040 + n * 0x4
def F.UPD_CNT_COUNT (n : Nat) : Fld := ⟨Reg.UPD_CNT n, 0, 32⟩
/-! ### TAG -/
def Reg.TAG_CFG : Nat := 0x40100010
def F.TAG_CFG_QUIET_S : Fld := ⟨Reg.TAG_CFG, 0, 6⟩
def F.TAG_CFG_WRITE_EN : Fld := ⟨Reg.TAG_CFG, 6, 1⟩
def F.TAG_CFG_FD_PIN : Fld := ⟨Reg.TAG_CFG, 7, 1⟩
def F.TAG_CFG_FD_WAKE : Fld := ⟨Reg.TAG_CFG, 8, 1⟩
def Reg.TAG_STATUS : Nat := 0x40100014
def F.TAG_STATUS_FIELD : Fld := ⟨Reg.TAG_STATUS, 0, 1⟩
def F.TAG_STATUS_QUIET : Fld := ⟨Reg.TAG_STATUS, 1, 1⟩
def F.TAG_STATUS_SESSION : Fld := ⟨Reg.TAG_STATUS, 2, 1⟩
def F.TAG_STATUS_MODE : Fld := ⟨Reg.TAG_STATUS, 3, 3⟩
def F.TAG_STATUS_SLOT : Fld := ⟨Reg.TAG_STATUS, 6, 1⟩
def F.TAG_STATUS_PENDING : Fld := ⟨Reg.TAG_STATUS, 7, 1⟩
def F.TAG_STATUS_COIL : Fld := ⟨Reg.TAG_STATUS, 8, 2⟩
def F.TAG_STATUS_LAST_REASON : Fld := ⟨Reg.TAG_STATUS, 16, 16⟩
def Reg.TAG_VERSION : Nat := 0x40100018
def F.TAG_VERSION_C : Fld := ⟨Reg.TAG_VERSION, 0, 32⟩
def Reg.TAG_CTL : Nat := 0x4010001c
def F.TAG_CTL_UNQUIET : Fld := ⟨Reg.TAG_CTL, 0, 1⟩
def F.TAG_CTL_COIL_TEST : Fld := ⟨Reg.TAG_CTL, 1, 1⟩
def Reg.TAG_ISR : Nat := 0x40100020
def F.TAG_ISR_FIELD_ON : Fld := ⟨Reg.TAG_ISR, 0, 1⟩
def F.TAG_ISR_FIELD_OFF : Fld := ⟨Reg.TAG_ISR, 1, 1⟩
def F.TAG_ISR_HANDLED : Fld := ⟨Reg.TAG_ISR, 2, 1⟩
def F.TAG_ISR_COMMIT : Fld := ⟨Reg.TAG_ISR, 3, 1⟩
def F.TAG_ISR_WRITE_LOST : Fld := ⟨Reg.TAG_ISR, 4, 1⟩
def F.TAG_ISR_COIL_FAULT : Fld := ⟨Reg.TAG_ISR, 5, 1⟩
def Reg.TAG_IER : Nat := 0x40100024
def F.TAG_IER_ENABLE : Fld := ⟨Reg.TAG_IER, 0, 6⟩
def Reg.TAG_UID_LO : Nat := 0x40100028
def F.TAG_UID_LO_UID : Fld := ⟨Reg.TAG_UID_LO, 0, 32⟩
def Reg.TAG_UID_HI : Nat := 0x4010002c
def F.TAG_UID_HI_UID : Fld := ⟨Reg.TAG_UID_HI, 0, 24⟩
def Reg.TAG_CNT (n : Nat) : Nat := 0x40100040 + n * 0x4
def F.TAG_CNT_COUNT (n : Nat) : Fld := ⟨Reg.TAG_CNT n, 0, 32⟩
/-! ### EVF -/
def Reg.EVF_MON : Nat := 0x40110010
def F.EVF_MON_LIMIT : Fld := ⟨Reg.EVF_MON, 0, 8⟩
def F.EVF_MON_WIN_US : Fld := ⟨Reg.EVF_MON, 8, 8⟩
def F.EVF_MON_SK_CELLS : Fld := ⟨Reg.EVF_MON, 16, 8⟩
def Reg.EVF_GROUPS : Nat := 0x40110014
def F.EVF_GROUPS_EN : Fld := ⟨Reg.EVF_GROUPS, 0, 16⟩
def Reg.EVF_GRP_SET : Nat := 0x40110018
def F.EVF_GRP_SET_SET : Fld := ⟨Reg.EVF_GRP_SET, 0, 16⟩
def Reg.EVF_GRP_CLR : Nat := 0x4011001c
def F.EVF_GRP_CLR_CLR : Fld := ⟨Reg.EVF_GRP_CLR, 0, 16⟩
def Reg.EVF_ISR : Nat := 0x40110020
def F.EVF_ISR_IRQ : Fld := ⟨Reg.EVF_ISR, 0, 8⟩
def F.EVF_ISR_LOOP : Fld := ⟨Reg.EVF_ISR, 8, 1⟩
def F.EVF_ISR_SW_SKEIN : Fld := ⟨Reg.EVF_ISR, 9, 1⟩
def Reg.EVF_IER : Nat := 0x40110024
def F.EVF_IER_ENABLE : Fld := ⟨Reg.EVF_IER, 0, 10⟩
def Reg.EVF_LOOP : Nat := 0x40110028
def F.EVF_LOOP_CHANNEL : Fld := ⟨Reg.EVF_LOOP, 0, 8⟩
def F.EVF_LOOP_LATCH : Fld := ⟨Reg.EVF_LOOP, 16, 16⟩
def Reg.EVF_STATUS : Nat := 0x4011002c
def F.EVF_STATUS_FAST : Fld := ⟨Reg.EVF_STATUS, 0, 1⟩
def F.EVF_STATUS_LAST_REASON : Fld := ⟨Reg.EVF_STATUS, 16, 16⟩
def Reg.EVF_SWFIRE (n : Nat) : Nat := 0x40110030 + n * 0x4
def F.EVF_SWFIRE_FIRE (n : Nat) : Fld := ⟨Reg.EVF_SWFIRE n, 0, 32⟩
def Reg.EVF_TSCAP (n : Nat) : Nat := 0x40110040 + n * 0x8
def Reg.EVF_CNT (n : Nat) : Nat := 0x40110080 + n * 0x4
def F.EVF_CNT_COUNT (n : Nat) : Fld := ⟨Reg.EVF_CNT n, 0, 32⟩
def Reg.EVF_SKPUB (n : Nat) : Nat := 0x40110100 + n * 0x4
def F.EVF_SKPUB_SOURCE (n : Nat) : Fld := ⟨Reg.EVF_SKPUB n, 0, 7⟩
def F.EVF_SKPUB_EN (n : Nat) : Fld := ⟨Reg.EVF_SKPUB n, 31, 1⟩
def Reg.EVF_PUB (n : Nat) : Nat := 0x40110200 + n * 0x4
def F.EVF_PUB_CHANNEL (n : Nat) : Fld := ⟨Reg.EVF_PUB n, 0, 7⟩
def F.EVF_PUB_EN (n : Nat) : Fld := ⟨Reg.EVF_PUB n, 31, 1⟩
def Reg.EVF_SUB (n : Nat) : Nat := 0x40110400 + n * 0x4
def F.EVF_SUB_CHANNEL (n : Nat) : Fld := ⟨Reg.EVF_SUB n, 0, 8⟩
def F.EVF_SUB_EN (n : Nat) : Fld := ⟨Reg.EVF_SUB n, 31, 1⟩
def Reg.EVF_COINC (n : Nat) : Nat := 0x40110600 + n * 0x4
def F.EVF_COINC_COUNT (n : Nat) : Fld := ⟨Reg.EVF_COINC n, 0, 16⟩
/-! ### TMB -/
def Reg.TMB_GSTART : Nat := 0x40120010
def F.TMB_GSTART_MASK : Fld := ⟨Reg.TMB_GSTART, 0, 16⟩
def Reg.TMB_GSTOP : Nat := 0x40120014
def F.TMB_GSTOP_MASK : Fld := ⟨Reg.TMB_GSTOP, 0, 16⟩
def Reg.TMB_GRELOAD : Nat := 0x40120018
def F.TMB_GRELOAD_MASK : Fld := ⟨Reg.TMB_GRELOAD, 0, 16⟩
def Reg.TMB_STAGGER : Nat := 0x4012001c
def F.TMB_STAGGER_MASK : Fld := ⟨Reg.TMB_STAGGER, 0, 16⟩
def Reg.TMB_ISR : Nat := 0x40120020
def F.TMB_ISR_OVERRUN : Fld := ⟨Reg.TMB_ISR, 0, 16⟩
def F.TMB_ISR_PRESC_REJ : Fld := ⟨Reg.TMB_ISR, 16, 16⟩
def Reg.TMB_IER : Nat := 0x40120024
def F.TMB_IER_ENABLE : Fld := ⟨Reg.TMB_IER, 0, 32⟩
def Reg.TMB_CH_CTL (n : Nat) : Nat := 0x40120100 + n * 0x20
def F.TMB_CH_CTL_PRESC (n : Nat) : Fld := ⟨Reg.TMB_CH_CTL n, 0, 4⟩
def F.TMB_CH_CTL_ONESHOT (n : Nat) : Fld := ⟨Reg.TMB_CH_CTL n, 4, 1⟩
def Reg.TMB_CH_PERIOD (n : Nat) : Nat := 0x40120104 + n * 0x20
def F.TMB_CH_PERIOD_PERIOD (n : Nat) : Fld := ⟨Reg.TMB_CH_PERIOD n, 0, 32⟩
def Reg.TMB_CH_COMPARE (n : Nat) : Nat := 0x40120108 + n * 0x20
def F.TMB_CH_COMPARE_COMPARE (n : Nat) : Fld := ⟨Reg.TMB_CH_COMPARE n, 0, 32⟩
def Reg.TMB_CH_COUNT (n : Nat) : Nat := 0x4012010c + n * 0x20
def F.TMB_CH_COUNT_COUNT (n : Nat) : Fld := ⟨Reg.TMB_CH_COUNT n, 0, 32⟩
def Reg.TMB_CH_PHASE (n : Nat) : Nat := 0x40120110 + n * 0x20
def F.TMB_CH_PHASE_PHASE (n : Nat) : Fld := ⟨Reg.TMB_CH_PHASE n, 0, 32⟩
def Reg.TMB_CH_CAPTURE (n : Nat) : Nat := 0x40120114 + n * 0x20
def F.TMB_CH_CAPTURE_VALUE (n : Nat) : Fld := ⟨Reg.TMB_CH_CAPTURE n, 0, 32⟩
def Reg.TMB_CH_STATUS (n : Nat) : Nat := 0x40120118 + n * 0x20
def F.TMB_CH_STATUS_RUN (n : Nat) : Fld := ⟨Reg.TMB_CH_STATUS n, 0, 1⟩
def F.TMB_CH_STATUS_REASON (n : Nat) : Fld := ⟨Reg.TMB_CH_STATUS n, 16, 16⟩
/-! ### CPX -/
def Reg.CPX_CFG : Nat := 0x40130010
def F.CPX_CFG_MIRROR : Fld := ⟨Reg.CPX_CFG, 0, 1⟩
def Reg.CPX_STATUS : Nat := 0x40130014
def F.CPX_STATUS_HALTED : Fld := ⟨Reg.CPX_STATUS, 0, 4⟩
def F.CPX_STATUS_FAULTED : Fld := ⟨Reg.CPX_STATUS, 4, 4⟩
def F.CPX_STATUS_PART : Fld := ⟨Reg.CPX_STATUS, 8, 2⟩
def F.CPX_STATUS_SESSION : Fld := ⟨Reg.CPX_STATUS, 10, 1⟩
def Reg.CPX_DBG : Nat := 0x40130018
def F.CPX_DBG_DEBUG_MUTE : Fld := ⟨Reg.CPX_DBG, 0, 1⟩
def F.CPX_DBG_END : Fld := ⟨Reg.CPX_DBG, 1, 1⟩
def Reg.CPX_MSIP : Nat := 0x4013001c
def F.CPX_MSIP_MSIP : Fld := ⟨Reg.CPX_MSIP, 0, 4⟩
def Reg.CPX_ISR : Nat := 0x40130020
def F.CPX_ISR_CORE_FAULT : Fld := ⟨Reg.CPX_ISR, 0, 1⟩
def F.CPX_ISR_SESSION : Fld := ⟨Reg.CPX_ISR, 1, 1⟩
def F.CPX_ISR_PARTITION : Fld := ⟨Reg.CPX_ISR, 2, 1⟩
def Reg.CPX_IER : Nat := 0x40130024
def F.CPX_IER_ENABLE : Fld := ⟨Reg.CPX_IER, 0, 3⟩
def Reg.CPX_WDT_CFG : Nat := 0x40130028
def F.CPX_WDT_CFG_PERIOD_MS : Fld := ⟨Reg.CPX_WDT_CFG, 0, 16⟩
def F.CPX_WDT_CFG_LOCK : Fld := ⟨Reg.CPX_WDT_CFG, 16, 1⟩
def Reg.CPX_WDT_KICK : Nat := 0x4013002c
def F.CPX_WDT_KICK_KEY : Fld := ⟨Reg.CPX_WDT_KICK, 0, 32⟩
def Reg.CPX_PLIC_PRIO (n : Nat) : Nat := 0x40138004 + n * 0x4
def F.CPX_PLIC_PRIO_PRIO (n : Nat) : Fld := ⟨Reg.CPX_PLIC_PRIO n, 0, 3⟩
def Reg.CPX_PLIC_PEND (n : Nat) : Nat := 0x40138400 + n * 0x4
def F.CPX_PLIC_PEND_BITS (n : Nat) : Fld := ⟨Reg.CPX_PLIC_PEND n, 0, 32⟩
def Reg.CPX_PLIC_EN (i j : Nat) : Nat := 0x40138800 + i * 0x20 + j * 0x4
def F.CPX_PLIC_EN_BITS (i j : Nat) : Fld := ⟨Reg.CPX_PLIC_EN i j, 0, 32⟩
def Reg.CPX_PLIC_THR (n : Nat) : Nat := 0x40139000 + n * 0x10
def F.CPX_PLIC_THR_THR (n : Nat) : Fld := ⟨Reg.CPX_PLIC_THR n, 0, 3⟩
def Reg.CPX_PLIC_CLAIM (n : Nat) : Nat := 0x40139004 + n * 0x10
def F.CPX_PLIC_CLAIM_ID (n : Nat) : Fld := ⟨Reg.CPX_PLIC_CLAIM n, 0, 32⟩
/-! ### PER -/
def Reg.PER_GPIO_IN (n : Nat) : Nat := 0x40140010 + n * 0x4
def F.PER_GPIO_IN_IN (n : Nat) : Fld := ⟨Reg.PER_GPIO_IN n, 0, 32⟩
def Reg.PER_GPIO_OUT (n : Nat) : Nat := 0x40140018 + n * 0x4
def F.PER_GPIO_OUT_OUT (n : Nat) : Fld := ⟨Reg.PER_GPIO_OUT n, 0, 32⟩
def Reg.PER_GPIO_SET (n : Nat) : Nat := 0x40140020 + n * 0x4
def F.PER_GPIO_SET_SET (n : Nat) : Fld := ⟨Reg.PER_GPIO_SET n, 0, 32⟩
def Reg.PER_GPIO_CLR (n : Nat) : Nat := 0x40140028 + n * 0x4
def F.PER_GPIO_CLR_CLR (n : Nat) : Fld := ⟨Reg.PER_GPIO_CLR n, 0, 32⟩
def Reg.PER_ISR : Nat := 0x40140030
def F.PER_ISR_PIN_SHORT : Fld := ⟨Reg.PER_ISR, 0, 1⟩
def F.PER_ISR_TAMPER : Fld := ⟨Reg.PER_ISR, 1, 1⟩
def Reg.PER_IER : Nat := 0x40140034
def F.PER_IER_ENABLE : Fld := ⟨Reg.PER_IER, 0, 2⟩
def Reg.PER_TAMP : Nat := 0x40140038
def F.PER_TAMP_LINE0 : Fld := ⟨Reg.PER_TAMP, 0, 2⟩
def F.PER_TAMP_LEVEL0 : Fld := ⟨Reg.PER_TAMP, 2, 1⟩
def F.PER_TAMP_LINE1 : Fld := ⟨Reg.PER_TAMP, 4, 2⟩
def F.PER_TAMP_LEVEL1 : Fld := ⟨Reg.PER_TAMP, 6, 1⟩
def Reg.PER_PIN (n : Nat) : Nat := 0x40140100 + n * 0x4
def F.PER_PIN_DIR (n : Nat) : Fld := ⟨Reg.PER_PIN n, 0, 1⟩
def F.PER_PIN_FUNC (n : Nat) : Fld := ⟨Reg.PER_PIN n, 1, 1⟩
def F.PER_PIN_PULL (n : Nat) : Fld := ⟨Reg.PER_PIN n, 2, 2⟩
def F.PER_PIN_OD (n : Nat) : Fld := ⟨Reg.PER_PIN n, 4, 1⟩
def F.PER_PIN_DRIVE (n : Nat) : Fld := ⟨Reg.PER_PIN n, 5, 1⟩
def Reg.PER_GEVT (n : Nat) : Nat := 0x40140200 + n * 0x4
def F.PER_GEVT_PIN (n : Nat) : Fld := ⟨Reg.PER_GEVT n, 0, 6⟩
def F.PER_GEVT_EDGE (n : Nat) : Fld := ⟨Reg.PER_GEVT n, 6, 2⟩
def F.PER_GEVT_FILT (n : Nat) : Fld := ⟨Reg.PER_GEVT n, 8, 4⟩
def Reg.PER_GTSK (n : Nat) : Nat := 0x40140220 + n * 0x4
def F.PER_GTSK_PIN (n : Nat) : Fld := ⟨Reg.PER_GTSK n, 0, 6⟩
def F.PER_GTSK_ACTION (n : Nat) : Fld := ⟨Reg.PER_GTSK n, 6, 2⟩
def Reg.PER_UART_CFG (n : Nat) : Nat := 0x40140300 + n * 0x20
def F.PER_UART_CFG_DIV (n : Nat) : Fld := ⟨Reg.PER_UART_CFG n, 0, 16⟩
def F.PER_UART_CFG_BITS7 (n : Nat) : Fld := ⟨Reg.PER_UART_CFG n, 16, 1⟩
def F.PER_UART_CFG_PARITY (n : Nat) : Fld := ⟨Reg.PER_UART_CFG n, 17, 2⟩
def F.PER_UART_CFG_STOP2 (n : Nat) : Fld := ⟨Reg.PER_UART_CFG n, 19, 1⟩
def F.PER_UART_CFG_FLOW (n : Nat) : Fld := ⟨Reg.PER_UART_CFG n, 20, 1⟩
def Reg.PER_SPI_CFG (n : Nat) : Nat := 0x40140400 + n * 0x20
def F.PER_SPI_CFG_DIV (n : Nat) : Fld := ⟨Reg.PER_SPI_CFG n, 0, 8⟩
def F.PER_SPI_CFG_MODE (n : Nat) : Fld := ⟨Reg.PER_SPI_CFG n, 8, 2⟩
def F.PER_SPI_CFG_WIDTH (n : Nat) : Fld := ⟨Reg.PER_SPI_CFG n, 10, 2⟩
def F.PER_SPI_CFG_CS (n : Nat) : Fld := ⟨Reg.PER_SPI_CFG n, 12, 2⟩
def Reg.PER_UART_STATUS (n : Nat) : Nat := 0x40140304 + n * 0x20
def F.PER_UART_STATUS_RXN (n : Nat) : Fld := ⟨Reg.PER_UART_STATUS n, 0, 6⟩
def F.PER_UART_STATUS_TXN (n : Nat) : Fld := ⟨Reg.PER_UART_STATUS n, 8, 6⟩
def F.PER_UART_STATUS_OVR (n : Nat) : Fld := ⟨Reg.PER_UART_STATUS n, 16, 1⟩
def F.PER_UART_STATUS_ERR (n : Nat) : Fld := ⟨Reg.PER_UART_STATUS n, 17, 1⟩
def Reg.PER_SPI_STATUS (n : Nat) : Nat := 0x40140404 + n * 0x20
def F.PER_SPI_STATUS_RXN (n : Nat) : Fld := ⟨Reg.PER_SPI_STATUS n, 0, 7⟩
def F.PER_SPI_STATUS_TXN (n : Nat) : Fld := ⟨Reg.PER_SPI_STATUS n, 8, 7⟩
def F.PER_SPI_STATUS_BUSY (n : Nat) : Fld := ⟨Reg.PER_SPI_STATUS n, 15, 1⟩
def Reg.PER_UART_DATA (n : Nat) : Nat := 0x40140308 + n * 0x20
def F.PER_UART_DATA_BYTE (n : Nat) : Fld := ⟨Reg.PER_UART_DATA n, 0, 8⟩
def Reg.PER_SPI_DATA (n : Nat) : Nat := 0x40140408 + n * 0x20
def F.PER_SPI_DATA_FRAME (n : Nat) : Fld := ⟨Reg.PER_SPI_DATA n, 0, 32⟩
def Reg.PER_I2C_CFG (n : Nat) : Nat := 0x40140500 + n * 0x20
def F.PER_I2C_CFG_SPEED (n : Nat) : Fld := ⟨Reg.PER_I2C_CFG n, 0, 2⟩
def Reg.PER_I2C_CMD (n : Nat) : Nat := 0x40140504 + n * 0x20
def F.PER_I2C_CMD_ADDR (n : Nat) : Fld := ⟨Reg.PER_I2C_CMD n, 0, 10⟩
def F.PER_I2C_CMD_ADDR10 (n : Nat) : Fld := ⟨Reg.PER_I2C_CMD n, 10, 1⟩
def F.PER_I2C_CMD_READ (n : Nat) : Fld := ⟨Reg.PER_I2C_CMD n, 11, 1⟩
def F.PER_I2C_CMD_COUNT (n : Nat) : Fld := ⟨Reg.PER_I2C_CMD n, 12, 8⟩
def F.PER_I2C_CMD_STOP (n : Nat) : Fld := ⟨Reg.PER_I2C_CMD n, 20, 1⟩
def F.PER_I2C_CMD_GO (n : Nat) : Fld := ⟨Reg.PER_I2C_CMD n, 31, 1⟩
def Reg.PER_I2C_STATUS (n : Nat) : Nat := 0x40140508 + n * 0x20
def F.PER_I2C_STATUS_BUSY (n : Nat) : Fld := ⟨Reg.PER_I2C_STATUS n, 0, 1⟩
def F.PER_I2C_STATUS_NACK (n : Nat) : Fld := ⟨Reg.PER_I2C_STATUS n, 1, 1⟩
def F.PER_I2C_STATUS_ARB (n : Nat) : Fld := ⟨Reg.PER_I2C_STATUS n, 2, 1⟩
def Reg.PER_I2C_DATA (n : Nat) : Nat := 0x4014050c + n * 0x20
def F.PER_I2C_DATA_BYTE (n : Nat) : Fld := ⟨Reg.PER_I2C_DATA n, 0, 8⟩
/-! ### HKA -/
def Reg.HKA_CFG : Nat := 0x40150010
def F.HKA_CFG_LEN : Fld := ⟨Reg.HKA_CFG, 0, 5⟩
def Reg.HKA_CTL : Nat := 0x40150014
def F.HKA_CTL_START : Fld := ⟨Reg.HKA_CTL, 0, 1⟩
def Reg.HKA_STATUS : Nat := 0x40150018
def F.HKA_STATUS_BUSY : Fld := ⟨Reg.HKA_STATUS, 0, 1⟩
def F.HKA_STATUS_ENTRY : Fld := ⟨Reg.HKA_STATUS, 1, 4⟩
def F.HKA_STATUS_REASON : Fld := ⟨Reg.HKA_STATUS, 16, 16⟩
def Reg.HKA_ISR : Nat := 0x40150020
def F.HKA_ISR_DONE : Fld := ⟨Reg.HKA_ISR, 0, 1⟩
def F.HKA_ISR_LIMIT : Fld := ⟨Reg.HKA_ISR, 1, 1⟩
def F.HKA_ISR_OVERRUN : Fld := ⟨Reg.HKA_ISR, 2, 1⟩
def F.HKA_ISR_LINE_FAULT : Fld := ⟨Reg.HKA_ISR, 3, 1⟩
def Reg.HKA_IER : Nat := 0x40150024
def F.HKA_IER_ENABLE : Fld := ⟨Reg.HKA_IER, 0, 4⟩
def Reg.HKA_SEQ (n : Nat) : Nat := 0x40150040 + n * 0x4
def F.HKA_SEQ_CH (n : Nat) : Fld := ⟨Reg.HKA_SEQ n, 0, 4⟩
def F.HKA_SEQ_AVG (n : Nat) : Fld := ⟨Reg.HKA_SEQ n, 4, 4⟩
def F.HKA_SEQ_ACQ (n : Nat) : Fld := ⟨Reg.HKA_SEQ n, 8, 4⟩
def F.HKA_SEQ_CHECK (n : Nat) : Fld := ⟨Reg.HKA_SEQ n, 12, 1⟩
def Reg.HKA_RESULT (n : Nat) : Nat := 0x40150080 + n * 0x4
def F.HKA_RESULT_VALUE (n : Nat) : Fld := ⟨Reg.HKA_RESULT n, 0, 16⟩
def F.HKA_RESULT_LINE (n : Nat) : Fld := ⟨Reg.HKA_RESULT n, 16, 2⟩
def Reg.HKA_LIMIT (n : Nat) : Nat := 0x401500c0 + n * 0x4
def F.HKA_LIMIT_LO (n : Nat) : Fld := ⟨Reg.HKA_LIMIT n, 0, 16⟩
def F.HKA_LIMIT_HI (n : Nat) : Fld := ⟨Reg.HKA_LIMIT n, 16, 16⟩
/-! ### SEC -/
def Reg.SEC_CFG : Nat := 0x40160010
def F.SEC_CFG_TAMP0_EN : Fld := ⟨Reg.SEC_CFG, 0, 1⟩
def F.SEC_CFG_TAMP1_EN : Fld := ⟨Reg.SEC_CFG, 1, 1⟩
def F.SEC_CFG_TAMP0_POL : Fld := ⟨Reg.SEC_CFG, 2, 1⟩
def F.SEC_CFG_TAMP1_POL : Fld := ⟨Reg.SEC_CFG, 3, 1⟩
def F.SEC_CFG_TAMP_FILT : Fld := ⟨Reg.SEC_CFG, 4, 4⟩
def F.SEC_CFG_ALARM_RESET : Fld := ⟨Reg.SEC_CFG, 8, 1⟩
def F.SEC_CFG_AUTO_RESTORE : Fld := ⟨Reg.SEC_CFG, 9, 1⟩
def F.SEC_CFG_PLAIN_IMPORT : Fld := ⟨Reg.SEC_CFG, 10, 1⟩
def Reg.SEC_ALARM : Nat := 0x40160014
def F.SEC_ALARM_SRC : Fld := ⟨Reg.SEC_ALARM, 0, 6⟩
def F.SEC_ALARM_ACTIVE : Fld := ⟨Reg.SEC_ALARM, 8, 1⟩
def Reg.SEC_STATUS : Nat := 0x40160018
def F.SEC_STATUS_RESTORING : Fld := ⟨Reg.SEC_STATUS, 0, 1⟩
def F.SEC_STATUS_ALARMS : Fld := ⟨Reg.SEC_STATUS, 16, 16⟩
def Reg.SEC_CTL : Nat := 0x4016001c
def F.SEC_CTL_RESTORE : Fld := ⟨Reg.SEC_CTL, 0, 1⟩
def Reg.SEC_ISR : Nat := 0x40160020
def F.SEC_ISR_ALARM : Fld := ⟨Reg.SEC_ISR, 0, 1⟩
def F.SEC_ISR_RESTORED : Fld := ⟨Reg.SEC_ISR, 1, 1⟩
def F.SEC_ISR_DEBUG_FAIL : Fld := ⟨Reg.SEC_ISR, 2, 1⟩
def Reg.SEC_IER : Nat := 0x40160024
def F.SEC_IER_ENABLE : Fld := ⟨Reg.SEC_IER, 0, 3⟩

end Sys2Proof.Machine
end

