-- ==== Sys2Proof/Machine/Sparse.lean ====
section
/-! DEFINITION. Sparse stores: a list of (key, value) pairs with keys strictly rising and no value equal to what an
unlisted key reads as.  The register file, the memories and the ESM are held in this one canonical form, so equal
contents are equal data. -/

namespace Sys2Proof.Machine

/-- The value at key `k`; `d` says what an unlisted key reads as. -/
def Sparse.get {V : Type} (d : Nat → V) : List (Nat × V) → Nat → V
  | [], k => d k
  | (a, v) :: r, k => if k = a then v else Sparse.get d r k

/-- Put value `v` before the rest `r` unless it is what the key reads as anyway. -/
def Sparse.consIf {V : Type} [DecidableEq V] (d : Nat → V) (k : Nat) (v : V) (r : List (Nat × V)) : List (Nat × V) :=
  if v = d k then r else (k, v) :: r

/-- Write value `v` at key `k`: every entry at `k` goes, and the new one stands before the first higher key. -/
def Sparse.set {V : Type} [DecidableEq V] (d : Nat → V) : List (Nat × V) → Nat → V → List (Nat × V)
  | [], k, v => Sparse.consIf d k v []
  | (a, w) :: r, k, v =>
      if k < a then Sparse.consIf d k v ((a, w) :: r.filter (fun e => e.1 != k))
      else if k = a then Sparse.set d r k v
      else (a, w) :: Sparse.set d r k v

/-- Write a run of values from key `k` upward. -/
def Sparse.setMany {V : Type} [DecidableEq V] (d : Nat → V) (m : List (Nat × V)) (k : Nat) : List V → List (Nat × V)
  | [] => m
  | v :: vs => Sparse.setMany d (Sparse.set d m k v) (k + 1) vs

/-- Read `n` values from key `k` upward. -/
def Sparse.getMany {V : Type} (d : Nat → V) (m : List (Nat × V)) (k : Nat) : Nat → List V
  | 0 => []
  | n + 1 => Sparse.get d m k :: Sparse.getMany d m (k + 1) n

/-- Return every key of `[lo, hi)` to what it reads as unlisted. -/
def Sparse.clear {V : Type} (m : List (Nat × V)) (lo hi : Nat) : List (Nat × V) :=
  m.filter (fun e => decide (e.1 < lo) || decide (hi ≤ e.1))

/-- Canonical form from key `lo` upward. -/
def Sparse.wfFrom {V : Type} [DecidableEq V] (d : Nat → V) : Nat → List (Nat × V) → Bool
  | _, [] => true
  | lo, (a, v) :: r => decide (lo ≤ a) && !decide (v = d a) && Sparse.wfFrom d (a + 1) r

/-- Canonical form: keys strictly rising, and no entry equal to what an unlisted key reads as. -/
def Sparse.wf {V : Type} [DecidableEq V] (d : Nat → V) (m : List (Nat × V)) : Bool := Sparse.wfFrom d 0 m

end Sys2Proof.Machine
end

