-- ==== Sys2Proof/Machine/State.lean ====
section
/-! DEFINITION. The state of the block as plain data.

Registers live in one place, the register file `regs`: a sparse store of 32-bit words by internal address, whose
unlisted addresses read as their reset word (Table 19-2).  Everything that the spec gives the machine beside its
registers is held in one structure for each block. -/

namespace Sys2Proof.Machine

/-- Reasons for which a step ends in a fault: none.  The spec gives every command of the table an effect, and a core
access outside the address map is an access fault of that core, which the machine reports and survives (R29). -/
inductive Fault where
  /-- Raised by no meaning; the type must not be empty for `deriving Repr` to print it.  Safe. -/
  | none
  deriving DecidableEq, Repr

/-- Reasons for which a command has no meaning. -/
inductive Refusal where
  /-- A command that this model rejects by name.  Safe: nothing is claimed about it. -/
  | notModelled (mnemonic : String)
  deriving DecidableEq, Repr

/-! ### Host rings (chapter 2) -/

/-- A completion that the device has decided and not yet written (R42, R56). -/
structure Compl where
  /-- Completion ring that it is written to (16 to 20). -/
  cring : Nat
  tag : Nat
  status : Nat
  reason : Nat
  /-- Submission ring (word 1 [23:16]). -/
  ring : Nat
  attempt : Nat
  time : Nat
  w4 : Word
  w5 : Word
  w6 : Word
  w7 : Word
  /-- A signalled entry (R49). -/
  sig : Bool
  /-- The promise-table entry whose reservation the write uses (R27, R56). -/
  item : Option Nat
  /-- The last completion of its descriptor: the write ends the descriptor (R4). -/
  final : Bool
  deriving DecidableEq, Repr

/-- A ring 20 record that has been raised and not yet written (R58, R567). -/
structure Rec where
  tag : Nat
  reason : Nat
  time : Nat
  w4 : Word
  w5 : Word
  w6 : Word
  w7 : Word
  /-- Written at HRE enable and never dropped (R58, R489, R502). -/
  exempt : Bool
  deriving DecidableEq, Repr

/-- What the ring engine keeps for one ring beside its registers. -/
structure Ring where
  /-- The last doorbell index (HRE_DB is write only). -/
  db : Nat
  /-- The slot at HEAD had no matching PHASE: wait for the next doorbell (R45). -/
  waitDb : Bool
  /-- The slot at HEAD carries FENCE: wait until every earlier item of the ring has its final (R41). -/
  fenced : Bool
  /-- Device-to-host: entries written and not yet released (R56). -/
  unreleased : Nat
  /-- Signalled entries not yet signalled, and when the first of them was written (R49). -/
  sigCount : Nat
  sigSince : Nat
  /-- Descriptors fetched from the ring whose final completion is not yet written (R41 FENCE). -/
  openItems : Nat
  /-- The slot at HEAD will be refused, and an earlier descriptor of the ring is still undecided (R54). -/
  held : Bool
  deriving DecidableEq, Repr

/-- A ring that has never been used. -/
def Ring.reset : Ring := ⟨0, false, false, 0, 0, 0, 0, false⟩

/-- A fetched descriptor: its ring, its eight words and its buffer. -/
structure Fetched where
  ring : Nat
  words : List Word
  buf : List Byte
  deriving DecidableEq, Repr

/-- A posted receive buffer of ring 9 (R203). -/
structure RxBuf where
  tag : Nat
  irq : Bool
  addr : Nat
  len : Nat
  deriving DecidableEq, Repr

/-- A waiting FENCE_ALL: its TAG and IRQ and the sequence number below which items must end (R59). -/
structure Fence where
  tag : Nat
  irq : Bool
  before : Nat
  deriving DecidableEq, Repr

structure Hre where
  rings : List Ring
  fetched : List Fetched
  /-- Decided completions waiting for their write, oldest first. -/
  outq : List Compl
  /-- Raised ring 20 records, oldest first. -/
  records : List Rec
  lossCount : Nat
  /-- The reset report and other records that the next HRE enable writes first (R502, R489). -/
  atEnable : List Rec
  fences : List Fence
  buffers : List RxBuf
  /-- Ring 9 to 13 served last, and descriptors served from rings 1 to 8 since while rings 9 to 13 had work (R53). -/
  rrLast : Nat
  rrCount : Nat
  /-- Promise-table entries whose finals DRAINING still waits for (R51). -/
  draining : List Nat
  /-- A ring 20 record whose host write failed, held with its contents until the ring is restarted (R566). -/
  failed20 : Option Rec
  deriving DecidableEq, Repr

def Hre.reset : Hre := ⟨List.replicate 24 Ring.reset, [], [], [], 0, [], [], [], 13, 0, [], none⟩

/-- The PCIe function (R35, Table 2-1): its MSI-X table by word (entry v at words 4v to 4v + 3: address, upper address,
data, control), its pending-bit array, the messages sent as address and data, oldest first, the configuration words that
the host has written, by offset, and whether it is in D3hot. -/
structure Pcie where
  table : List (Nat × Word)
  pendingBits : Nat
  messages : List (Nat × Word)
  config : List (Nat × Word)
  d3hot : Bool
  deriving DecidableEq, Repr

def Pcie.reset : Pcie := ⟨[], 0, [], [], false⟩

/-! ### The promise table (R27) -/

/-- A charge against a duty-cycle account: account, AON local start and charged microseconds (R141). -/
structure Charge where
  acct : Nat
  /-- First bin and number of bins of the occupied band (R143, R144). -/
  bin : Int
  bins : Nat
  start : Nat
  us : Nat
  /-- AON local end of ramp-down (R145). -/
  fin : Nat
  deriving DecidableEq, Repr

/-- One placed attempt of a transmission. -/
structure Attempt where
  time : Nat
  bin : Int
  code : Nat
  /-- Slots occupied: first and one past last (R95). -/
  slotLo : Nat
  slotHi : Nat
  charge : Charge
  listenUs : Nat
  /-- The pool entry that it lies in, in CELL mode (R74, R87). -/
  cell : Option Nat
  deriving DecidableEq, Repr

/-- What a transmission carries (R122, R170, R172). -/
structure TxInfo where
  /-- The staged PHY payload. -/
  frame : List Byte
  wide : Bool
  legacy : Bool
  sfIdx : Nat
  crc32 : Bool
  power : Nat
  /-- Carrier of a TX_154 in kHz; 0 for a native frame. -/
  carrier : Nat
  /-- Duration on air and ramp time in timestamp units, without lead. -/
  airU : Nat
  rampU : Nat
  femU : Nat
  first : Attempt
  second : Attempt
  /-- Placement mode and argument (Table 3-4). -/
  pmode : Nat
  arg : Nat
  dstEndpoint : Option Nat
  /-- Result of the listen span of the present attempt: done and clear (R144). -/
  listened : Bool
  /-- AON local start of ramp-up of the attempt that emitted. -/
  rampStart : Nat
  /-- Emission cut short at this AON local instant (R61, R102, R359 ...). -/
  cutAt : Option Nat
  /-- Pending final of a transmission that ramps down: status and reason. -/
  cutStatus : Nat
  cutReason : Nat
  /-- Network time at which the cause of the cut was detected (Table 2-5). -/
  cutSince : Nat
  /-- Level actually sent, as a POWER code, and DONE reason so far. -/
  sent : Nat
  doneReason : Nat
  deriving DecidableEq, Repr

/-- What a receive window carries and counts (R200, R205). -/
structure RxInfo where
  pmode : Nat
  arg : Nat
  maxf : Nat
  fcsFail : Bool
  expLanes : Nat
  binFirst : Int
  binCount : Nat
  closeAt : Nat
  closed : Bool
  delivered : Nat
  firmware : Nat
  overMaxf : Nat
  discarded : Nat
  laneMiss : Nat
  recovered : Nat
  blankedUs : Nat
  /-- Seen conditions: lanes exhausted, lane limits, scanner overload, cancellation limit (R205). -/
  exhausted : Bool
  limited : Bool
  overload : Bool
  sicLimit : Bool
  /-- Sum of the holding times of the lanes assigned to its detections (R349). -/
  laneTime : Nat
  /-- Frame records decided. -/
  records : Nat
  /-- AON local instants at which it opened and closed. -/
  openedAt : Nat
  closedAt : Nat
  /-- The pool entry that it lies in, in CELL mode (R74, R87). -/
  cell : Option Nat
  deriving DecidableEq, Repr

/-- A timed flash operation (R374, R384, R388): 1 program, 2 erase, 3 counter; its occupancy `maxU` and run maximum
`runU` (R371), and words 4 and 5 of its final (Table 12-2). -/
structure FlashInfo where
  op : Nat
  addr : Nat
  data : List Byte
  counter : Nat
  bank : Nat
  maxU : Nat
  runU : Nat
  w4 : Nat
  w5 : Nat
  deriving DecidableEq, Repr

/-- A skein item (R330, R336): kind 0 a message, 2 a remote reset. -/
structure SkeinInfo where
  dest : Nat
  /-- Sent to the present head, whoever that is. -/
  toHead : Bool
  bcast : Bool
  channel : Nat
  kind : Nat
  payload : List Byte
  seq : Nat
  /-- The last departure (network time), and the port it left by. -/
  sentAt : Option Nat
  port : Nat
  /-- A resend is due at this network time, and the slot of the last resend (R333). -/
  resendAt : Option Nat
  lastSlot : Option Nat
  resends : Nat
  /-- Held back because its path was lost (R335). -/
  held : Bool
  /-- The last failure: 0 none yet or no ACK or no path, 1 no buffer or forward overflow (R334). -/
  lastFail : Nat
  deriving DecidableEq, Repr

/-- The kinds of timed item (Table 3-5). -/
inductive ItemKind where
  | tx (i : TxInfo)
  | rx (i : RxInfo)
  | flash (i : FlashInfo)
  | skein (i : SkeinInfo)
  | swap
  deriving DecidableEq, Repr

/-- Who owns an item: a host descriptor, or one of the device's own items (R126, R132, R137, R266, R270, R412). -/
inductive Owner where
  | host
  | droneBeacon
  | tracking (repair : Bool)
  | recoveryScan
  | candidateScan
  | checkpoint
  | dist (slot : Nat)
  | join (k : Nat)
  deriving DecidableEq, Repr

/-- One entry of the promise table. -/
structure Item where
  idx : Nat
  seq : Nat
  owner : Owner
  ring : Nat
  tag : Nat
  opcode : Nat
  cring : Nat
  irq : Bool
  prio : Nat
  eclass : Nat
  deadline : Nat
  committed : Nat
  repairAt : Option Nat
  /-- Moved to its repair opportunity (R99). -/
  moved : Bool
  started : Bool
  startTime : Nat
  /-- Final decided: only the entry and the completion entries are still held (R26). -/
  decided : Bool
  /-- Completion entries and ring 9 buffers still reserved (R56). -/
  entries : Nat
  buffers : Nat
  /-- Energy reserved, in microjoules, and the budget period that holds it (R356). -/
  e1 : Nat
  e2 : Nat
  period : Nat
  kind : ItemKind
  deriving DecidableEq, Repr

/-- A native frame before it is sealed: its header fields, its key and its payload.  The fields that name the committed
time (CTIME, a beacon's TIME) are filled in with the position (R124, R125; notes/assumptions/10.md). -/
structure Seal where
  key : AesKey
  fctl : Nat
  dst : Nat
  src : Nat
  fcnt : Nat
  body : List Byte
  deriving DecidableEq, Repr

/-- A timed item waiting for its admission decision (R88).  In `kind`, a transmission holds its requested bin and code
in `first`, and a window its requested length in slots in `closeAt`. -/
structure Waiting where
  owner : Owner
  ring : Nat
  words : List Word
  kind : ItemKind
  form : Option Seal
  deriving DecidableEq, Repr

/-! ### Chanter (chapter 3) -/

structure Chn where
  awaiting : List Waiting
  /-- BANK_SWAP descriptors that wait at the crossing to Chanter (R17, R475, R478). -/
  crossing : List Fetched
  /-- The cell pool; an unlisted entry reads 0. -/
  cells : List (Nat × BitVec 48)
  /-- Pool entries marked unusable by an uncorrectable ECC error (R74). -/
  badCells : List Nat
  /-- Network slots quenched after a mismatch, and muted after a lock loss: [lo, hi) (R102, R107). -/
  muteLo : Nat
  muteHi : Nat
  pllLo : Nat
  pllHi : Nat
  /-- AON local instants of recent mismatches, newest first (R104). -/
  mismatches : List Nat
  restoring : Bool
  waitingBoundary : Bool
  /-- AON local instant of the last re-enable after a fault (R106). -/
  refaultFrom : Option Nat
  lastSlot : Nat
  seq : Nat
  deriving DecidableEq, Repr

def Chn.reset : Chn := ⟨[], [], [], [], 0, 0, 0, 0, [], false, false, none, 0, 0⟩

/-! ### Medium access (chapter 4) -/

structure Mac where
  /-- Settled airtime charges, kept through every reset but a power-on reset (R146). -/
  history : List Charge
  /-- Highest transmit frame counter reserved so far (exclusive), and whether a refill runs (R121). -/
  txfcLimit : Nat
  txfcRefill : Bool
  /-- Present slew, in signed timestamp units still to apply (R114, R136). -/
  slew : Int
  /-- Parts of a timestamp unit of network time not yet applied: of the slew, in 10^-6 units, and of the drift estimate,
  in 2^-10 × 10^-6 units (R114, R136). -/
  slewRest : Nat
  driftRest : Nat
  /-- Consecutive missed periods, and the TIME of the last verified beacon (R133). -/
  missed : Nat
  lastBeacon : Nat
  parentDepth : Nat
  repairDelay : Nat
  periodLog2 : Nat
  /-- AON local instant at which the present tracking state was entered. -/
  stateSince : Nat
  /-- Candidate index being scanned in ACQUIRE, and the parent to skip there (R137). -/
  candidate : Nat
  skip : Option Nat
  /-- A beacon was verified in the present period's windows. -/
  verified : Bool
  /-- ASN at which the Drone last submitted its own beacon (R126). -/
  beaconFor : Nat
  deriving DecidableEq, Repr

def Mac.reset : Mac := ⟨[], 0, false, 0, 0, 0, 0, 0, 0, 4, 12, 0, 0, none, false, 0⟩

/-! ### Bellows (chapter 11) -/

/-- The committed source model (R352, R353). -/
structure Model where
  capMw : Nat
  ceilMw : Nat
  autonomyH : Nat
  dayOfs : Int
  capacity : Nat
  floors : List Nat
  harvest : List Nat
  deriving DecidableEq, Repr

structure Blw where
  /-- Stored energy S in microjoules (R354). -/
  store : Nat
  meter : Nat
  model : Model
  /-- Index, AON local start, budget, background reserve, settled charges and background of the current period. -/
  period : Nat
  periodStart : Nat
  budget : Nat
  reserveG : Nat
  settled : Nat
  settledNext : Nat
  /-- Metered energy in the current period (its background is this less the settled charges, R355). -/
  metered : Nat
  nextBudget : Nat
  nextG : Nat
  /-- By how much the charges held and G exceeded the recomputed budget at the period's start (R356). -/
  debit : Nat
  /-- Background energy of the ended periods, newest first, at most four (R355). -/
  ended : List Nat
  /-- AON local instant of the last meter sample, of the start of economy and of the hold. -/
  sampledAt : Nat
  economyAt : Nat
  holdAt : Nat
  /-- Items voided in the present dip, and the local hour (counted from the epoch) that runs (R354). -/
  voided : Nat
  hour : Nat
  deriving DecidableEq, Repr

/-- The model registers' reset values: what COMMIT has not replaced. -/
def Model.reset : Model := ⟨1000, 900, 720, 0, 0, [0, 0, 0, 0], List.replicate 24 0⟩

def Blw.reset : Blw := ⟨0, 0, Model.reset, 0, 0, 0, 0, 0, 0, 0, 0, 0, 0, [], 0, 0, 0, 0, 0⟩

/-! ### PHY and multi-user receiver (chapters 5 and 6) -/

/-- The energy detector's state for one bin (R174, R175, R193). -/
structure BinState where
  bin : Int
  floor : Nat
  /-- Windows that the flag still holds for; 0 when the bin is not flagged. -/
  hold : Nat
  quietWindows : Nat
  flaggedAt : Nat
  /-- Scanner seat held. -/
  seat : Option Nat
  deriving DecidableEq, Repr

/-- What a lane keeps beside its MUR_LANE registers. -/
structure LaneX where
  /-- Promise-table index of the window that owns the frame. -/
  window : Option Nat
  residue : Bool
  assignedAt : Nat
  synced : Bool
  header : Option Word
  deriving DecidableEq, Repr

/-- A cancellation job (R209). -/
structure SicJob where
  det : Detection
  level : Nat
  rssi : Nat
  window : Option Nat
  /-- Duration of its frame in timestamp units. -/
  span : Nat
  /-- The DSP cycle in which its frame ended (R210). -/
  ended : Nat
  deriving DecidableEq, Repr

/-- A waiting residue detection (R213). -/
structure Residue where
  det : Detection
  level : Nat
  window : Option Nat
  deriving DecidableEq, Repr

/-- The cancellation buffer of one bin: its samples, newest first, and the AON local instant at which the newest ends
(R208). -/
structure CbEntry where
  until_ : Nat
  samples : List Word
  deriving DecidableEq, Repr

structure Mur where
  bins : List BinState
  seatQueue : List Int
  lanes : List LaneX
  jobs : List SicJob
  running : Option SicJob
  scanning : Bool
  residues : List Residue
  /-- Triples of frames decoded recently, with their first-chip time (R197). -/
  recent : List Detection
  /-- Lanes whose frame has ended in the present DSP cycle (R199). -/
  freed : List Nat
  /-- The cancellation buffer: entry e serves the e-th set bit of MUR_CSET (R208). -/
  buffer : List CbEntry
  deriving DecidableEq, Repr

def LaneX.reset : LaneX := ⟨none, false, 0, false, none⟩

def Mur.reset : Mur := ⟨[], [], List.replicate 64 LaneX.reset, [], none, false, [], [], [], List.replicate 32 ⟨0, []⟩⟩

/-! ### RF front end (chapter 7) -/

/-- What the transmitter radiates (R155 to R165, R172, R220): carrier in Hz, level as a POWER code, and for a Hegal
frame its spreading factor, its code, whether the shaping filter is used, and the symbol signs in order. -/
structure Emission where
  item : Nat
  carrier : Nat
  level : Nat
  sfIdx : Nat
  code : Nat
  legacy : Bool
  /-- Taps of the shaping filter, tap 0 first, of a TX_LEGACY; none otherwise (R231). -/
  taps : List Int
  firstChip : Nat
  symbols : List Bool
  octets : List Byte
  deriving DecidableEq, Repr

structure Rfe where
  onAir : Option Emission
  /-- The captured samples, oldest first, and the next one to read (R226). -/
  capture : List Word
  capNext : Nat
  capturing : Bool
  calibrating : Bool
  /-- Present level of the FEM lines and PA_EN (R234). -/
  fem : Nat
  paEn : Bool
  /-- Last gain step of each chain, AON local. -/
  gainAt0 : Nat
  gainAt1 : Nat
  /-- A new band selection waits: transmit, receive (R241). -/
  bandTx : Bool
  bandRx : Bool
  bandSince : Nat
  /-- Measured throughout its body below 0.6, and a fault seen, in the present transmission (R239). -/
  faultSeen : Nat
  /-- End of FEM_LAG after the last transmission, AON local (R234). -/
  lagUntil : Nat
  /-- AON local instant at which the transmit synthesiser last locked (R222). -/
  txLockAt : Nat
  /-- Last downward gain step of each chain, AON local (R223). -/
  downAt0 : Nat
  downAt1 : Nat
  /-- Ended spans, AON local, over which a transmission blanked the chains, while a window may still count them (R95). -/
  blanks : List (Nat × Nat)
  /-- AON local instant at which the receive synthesiser lost lock, and the ended spans of the last second over which it,
  or the DSP PLL, was out of lock (R222, R476). -/
  rxLostAt : Option Nat
  dead : List (Nat × Nat)
  deriving DecidableEq, Repr

def Rfe.reset : Rfe := ⟨none, [], 0, false, false, 0, false, 0, 0, false, false, 0, 0, 0, 0, 0, 0, [], none, []⟩


/-! ### Endpoint state and the directory (chapter 8) -/

/-- A directory record (Table 8-3).  An unlisted record is free: all ones. -/
structure DirRec where
  eui : Nat
  joinDay : Nat
  gen : Nat
  dstate : Nat
  confirm : Bool
  /-- Bits [15:8] of bytes 10 and 11, reserved, 1. -/
  rsv : Nat
  deriving DecidableEq, Repr

def DirRec.free : DirRec := ⟨0xFFFFFFFFFFFFFFFF, 0xFFFF, 15, 7, true, 255⟩

/-- A frame in the firmware receive queue (R24), as it was received. -/
structure FwFrame where
  bytes : List Byte
  /-- The frame with its payload decrypted. -/
  plain : List Byte
  det : Detection
  endAt : Nat
  link : LinkData
  deriving DecidableEq, Repr

/-- A join in progress (Table 8-6): its number, the endpoint, and the end of the request (network time). -/
structure Join where
  k : Nat
  idx : Nat
  eui : Nat
  requestEnd : Nat
  deriving DecidableEq, Repr

/-- A checkpoint in progress: banks still to write, its step within the first of them (4 erases, then 32 programs of
4,096 bytes), whether it closes (R272), the start of the segment, the item in flight, and when a refused item is
submitted again (R270). -/
structure Ckpt where
  banks : List Nat
  step : Nat
  closing : Bool
  start : Nat
  inFlight : Bool
  retryAt : Option Nat
  deriving DecidableEq, Repr

structure Esm where
  /-- Entries by endpoint index; an unlisted entry is 0, unused (Table 8-2). -/
  entries : List (Nat × DWord)
  /-- Indexes that hold an uncorrectable error (R251). -/
  bad : List Nat
  /-- Sequence number of the next entry of the directory journal (R259). -/
  journalSeq : Nat
  /-- The directory block that is being compacted, the next of its steps, and the last journal entry that its image takes
  in (Table 8-5). -/
  compaction : Option (Nat × Nat × Nat)
  ckpt : Option Ckpt
  /-- AON local instants: last checkpoint start, next interval checkpoint (R270, R271). -/
  startedAt : Option Nat
  dueAt : Nat
  /-- CHECKPOINT service requests that wait for the running checkpoint (R274). -/
  waiting : List Fetched
  /-- The firmware receive queue (R24), and joins in progress. -/
  firmware : List FwFrame
  joins : List Join
  joinCount : Nat
  /-- JOIN_ACCEPT items that have ended, with whether they ended DONE. -/
  accepts : List (Nat × Bool)
  /-- The low half of an access pair that a core has opened: core, entry, write, value (R510). -/
  pairs : List (Nat × Nat × Bool × Word)
  deriving DecidableEq, Repr

def Esm.reset : Esm := ⟨[], [], 1, none, none, none, 0, [], [], [], 0, [], []⟩

/-! ### Keys, signatures and alarms (chapter 9) -/

/-- An entry of the derived-key cache (R287): its number, its sequence number, its master slot, EUI and generation. -/
structure Derived where
  entry : Nat
  seq : Nat
  master : Nat
  eui : Nat
  gen : Nat
  deriving DecidableEq, Repr

/-- A committed entry of the key store: slot, ATTR word, key, and the last recorded usage of that key (R289, R293). -/
structure StoreKey where
  slot : Nat
  attr : Word
  key : Nat
  usage : Option Nat
  deriving DecidableEq, Repr

/-- What names the key of a request: a slot, or a derivation from a master slot for an EUI-64 and a generation (R282,
R287). -/
inductive KeyName where
  | slot (n : Nat)
  | derived (master eui gen : Nat)
  deriving DecidableEq, Repr

/-- A cipher request that has been accepted and not completed: its queue, its descriptor, the name of its key, the key once
its first block has entered the pipeline and, for NONCE_GEN, its nonce (R281 to R283). -/
structure CryReq where
  queue : Nat
  f : Fetched
  name : KeyName
  key : Option AesKey
  nonce : Option Nat
  deriving DecidableEq, Repr

/-- An accepted SIG operation: its descriptor and, for a signature, the identity key (R299, R300). -/
structure SigReq where
  f : Fetched
  key : Nat
  deriving DecidableEq, Repr

/-- A hash context (R300): open, and the input absorbed. -/
structure HashCtx where
  isOpen : Bool
  input : List Byte
  deriving DecidableEq, Repr

/-- A write of the key store: a key slot, or an owner key (R294, R304). -/
inductive StoreEntry where
  | key (k : StoreKey)
  | owner (index : Nat) (key : Option (List Byte))
  deriving DecidableEq, Repr

/-- A persistent write in progress: its descriptor, what it writes, whether its entry (2) or its commit record (3) is
programmed (Table 9-4), and whether that program has been issued. -/
structure StoreJob where
  f : Fetched
  entry : StoreEntry
  step : Nat
  issued : Bool
  deriving DecidableEq, Repr

structure Cry where
  /-- Key material by slot, 0 when erased or empty (R284), and of the identity key. -/
  vault : List Nat
  identity : Nat
  /-- The derived-key cache, most recently used first (R287), and for each entry number that has been used the next
  sequence number that it takes. -/
  cache : List Derived
  cacheSeq : List (Nat × Nat)
  /-- The key store: persistent slots, identity key, owner keys, restart base, certificate chain (R293, R301). -/
  store : List StoreKey
  storeIdentity : Nat
  owners : List (Option (List Byte))
  /-- Writes of the key store, oldest first, and the pages used so far (R294). -/
  storing : List StoreJob
  storePage : Nat
  restartBase : Nat
  /-- Network day of the last TXFC restart (R292), if any. -/
  restartDay : Option Nat
  chain : List Byte
  /-- Slots imported since TXFC_LOW was last set (R292). -/
  imported : List Nat
  /-- Cipher requests that wait or run, oldest first: those of one queue complete in their order (R281, R282). -/
  queue : List CryReq
  /-- First nonce counter value that is not reserved, flash count, and whether a refill runs (R291). -/
  nonceLimit : Nat
  nonceRefill : Bool
  nonceFlash : Nat
  /-- SIG operations, the running one first, and the eight hash contexts (R299, R300). -/
  sigQueue : List SigReq
  contexts : List HashCtx
  /-- Alarms since manufacture (Table 9-7). -/
  alarmsEver : Nat
  /-- An alarm has abandoned a restore, which begins again once no alarm is active (R298). -/
  restoreAgain : Bool
  deriving DecidableEq, Repr

def HashCtx.closed : HashCtx := ⟨false, []⟩

/-- The vault after a power-on reset.  The identity key and its certificate chain are in the device since its factory test
(R301; notes/assumptions/4.md): the key is any number but 0. -/
def Cry.reset : Cry := ⟨List.replicate 64 0, 0, [], [], [], Config.identityKey + 1, [none, none, none, none], [], 0, 0, none, Config.certificateChain, [], [], 0, false, 0, [],
  List.replicate 8 HashCtx.closed, 0, false⟩

/-! ### Skein (chapter 10) -/

/-- A path notice (R315): kind 1 TREE_LOST, 2 ATTACH. -/
structure Notice where
  kind : Nat
  origin : Nat
  seq : Nat
  deriving DecidableEq, Repr

/-- An event cell that a port sends: its number since network time 0, its SKC bits, and its path notice (R315). -/
structure EvCell where
  n : Nat
  skc : Word
  notice : Option Notice
  deriving DecidableEq, Repr

/-- A control record (R316). -/
inductive SknRec where
  | delay (d : Int)
  | quench (head : Nat) (set : Bool) (seq : Nat)
  | elect (head dep : Option Cand)
  | prune (id port : Nat)
  | enum (e : Enum)
  deriving DecidableEq, Repr

/-- What a port keeps beside its registers. -/
structure Port where
  /-- AON local instant of the next line test (R311), and since when the receiver has had no lock (R310). -/
  testAt : Nat
  locked : Bool
  unlockedAt : Nat
  /-- Consecutive valid marks, consecutive invalid ones, and the instant of the last valid one (R318). -/
  marks : Nat
  misses : Nat
  lastMark : Nat
  peer : Option Mark
  /-- Arrival minus TICKS of the last mark (R323). -/
  t21 : Option Int
  /-- The peer's view, by its last ELECT record. -/
  viewHead : Option Cand
  viewDep : Option Cand
  /-- A tree port, or one that was a tree port when the upstream was lost (R315, R339). -/
  tree : Bool
  /-- Records that wait to leave, and the event cells of the present frame and later ones that carry something. -/
  recs : List SknRec
  cells : List EvCell
  /-- Forwarded messages that wait to leave, and the bytes of the present frame's data region in use (R331). -/
  queue : List SknMsg
  used : Nat
  /-- What the present frame holds: its time mark, its control records, the messages that start in it; and the bytes of its
  control slice but for event cell 0, and of those messages. -/
  sentMark : Option Mark
  sentRecs : List SknRec
  sent : List SknMsg
  slice : List Byte
  data : List Byte
  deriving DecidableEq, Repr

/-- An entry of the member table: what its ENUM said, the port it came through, and when (R321). -/
structure Member where
  e : Enum
  port : Nat
  seen : Nat
  deriving DecidableEq, Repr

/-- An uplink frame that passed the MAC checks at this device: its network address and frame counter, the AON local instant
and the link quality measured (R28). -/
structure Uplink where
  addr : Nat
  fcnt : Nat
  at_ : Nat
  lq : Nat
  deriving DecidableEq, Repr

structure Skn where
  ports : List Port
  /-- The device's view and the instant of its last change (R319). -/
  viewHead : Option Cand
  viewDep : Option Cand
  viewAt : Nat
  /-- Head since, incumbent, orphan since, and an election entered from ORPHAN with the head that was lost. -/
  headSince : Nat
  incumbent : Bool
  orphanSince : Nat
  fromOrphan : Bool
  lostHead : Option Nat
  members : List Member
  /-- Entries have been removed (R321). -/
  removed : Bool
  /-- The last path notice seen of each origin, and this device's own notice sequence (R315). -/
  seen : List (Nat × Nat)
  noticeSeq : Nat
  /-- Bucket level at a frame (R331). -/
  bucket : Nat
  bucketFrame : Nat
  /-- This device's message sequence, and (ORIGIN, SEQ) delivered here, newest first (R332). -/
  seq : Nat
  delivered : List (Nat × Nat)
  firmware : List SknMsg
  /-- θ of the present 16 frames (R324). -/
  thetas : List Int
  /-- The instant at which holdover began (R327). -/
  holdSince : Option Nat
  /-- The head and sequence of the last QUENCH record, and the sequence of this device's own (R338). -/
  quenchHead : Option Nat
  quenchSeq : Nat
  quenchOut : Nat
  /-- An accepted remote reset: its slot boundary and kind (R337); the last accepted departure (AON). -/
  resetPending : Option (Nat × Nat)
  lastReset : Nat
  enumAt : Nat
  /-- Frame index of the last frame boundary served. -/
  lastFrame : Nat
  /-- Merged uplink frames delivered: network address, frame counter, instant (R28). -/
  merged : List (Nat × Nat × Nat)
  /-- Uplink frames received here within the last beacon period, newest first (R28). -/
  uplinks : List Uplink
  deriving DecidableEq, Repr

def Port.reset : Port :=
  ⟨0, false, 0, 0, 0, 0, none, none, none, none, false, [], [], [], 0, none, [], [], [], []⟩

def Skn.reset : Skn :=
  ⟨[Port.reset, Port.reset, Port.reset], none, none, 0, 0, false, 0, false, none, [], false, [], 0, 0, 0, 0, [], [], [], none,
    none, 0, 0, none, 0, 0, 0, [], []⟩

/-! ### Flash (chapter 12) -/

/-- A program (1), erase (2), counter step (3) or refresh (4) in the controller: its item or direct operation, its
target, how long it may still run, and its suspension (R372 to R378).  Addresses from 0x0400_0000 lie in the field bank. -/
structure FlashOp where
  item : Option Nat
  direct : Bool
  op : Nat
  addr : Nat
  data : List Byte
  counter : Nat
  /-- Run maximum, and the run time spent before the last start or resume, in timestamp units. -/
  runU : Nat
  ranU : Nat
  /-- AON local instant of the last start or resume, and of the last access to the bank. -/
  since : Nat
  lastAccess : Nat
  suspended : Bool
  /-- An access waits for the guard time (R375). -/
  waiting : Bool
  /-- Its record of the operation journal (R381). -/
  record : Option Nat
  deriving DecidableEq, Repr

structure Flc where
  /-- Flash bytes by address; an unlisted byte is erased, 0xFF. -/
  mem : List Host.Cell
  /-- Programs of each ECC word since its erase (R367), by word index; an unlisted word has none. -/
  slots : List (Nat × Nat)
  /-- ECC words that are uncorrectable, by address (R368). -/
  ue : List Nat
  /-- Free spares of each bank, physical block numbers. -/
  spares : List (List Nat)
  /-- The operation of each bank, the field bank last; a nested program; a direct operation that waits. -/
  ops : List (Option FlashOp)
  nested : Option FlashOp
  waiting : Option FlashOp
  /-- Place and sequence number of the next record of the operation journal (R381). -/
  journalNext : Nat
  journalSeq : Nat
  /-- Execute-locked work deferred: blocks that wait for a refresh (R379). -/
  refreshDue : List Nat
  deriving DecidableEq, Repr

def sparePool : List Nat := (List.range 32).map (fun k => 480 + k)

def Flc.reset : Flc := ⟨[], [], [], [sparePool, sparePool, sparePool, sparePool], [none, none, none, none, none], none, none,
  0, 0, []⟩

/-! ### Update, boot and distribution (chapter 13) -/

/-- A distribution campaign (R411, R412): its command, its place in the carousel, its counts and its next turn. -/
structure Campaign where
  bin : Int
  sfIdx : Nat
  code : Nat
  power : Nat
  perHour : Nat
  /-- Network time at which it ends. -/
  deadline : Nat
  first : Nat
  last : Nat
  model : Nat
  cursor : Nat
  sent : Nat
  nextAt : Nat
  /-- STOP has been requested (R411). -/
  stopping : Bool
  deriving DecidableEq, Repr

/-- A distribution slot (R410, R412): its campaign, the completion bitmap as the indexes marked, the endpoints that
failed, whether the marks have changed since the last snapshot, and when that was. -/
structure DistSlot where
  campaign : Option Campaign
  done : List Nat
  failed : List Nat
  changed : Bool
  snapAt : Nat
  deriving DecidableEq, Repr

structure Upd where
  /-- A device reset has ended and the boot chain has not yet run (R395). -/
  bootPending : Bool
  /-- Measurements M0 to M4 (Table 9-7). -/
  measured : List (List Byte)
  /-- Manifests of bobbins A and B, and of the distribution slots (empty: none). -/
  manifests : List (List Byte)
  /-- The active configuration record (R431). -/
  config : List Byte
  /-- Deadlines in AON local time: HANDOVER after ACTIVATE, ALIVE after HANDOVER, end of trial, HANDOVER after
  REVERT_REQ (R408, R409). -/
  quiesceBy : Option Nat
  aliveBy : Option Nat
  trialEnd : Option Nat
  revertBy : Option Nat
  handoverAt : Nat
  dist : List DistSlot
  deriving DecidableEq, Repr

def DistSlot.reset : DistSlot := ⟨none, [], [], false, 0⟩

def Upd.reset : Upd where
  bootPending := true
  measured := List.replicate 5 (List.replicate 64 0)
  manifests := [[], [], [], []]
  config := []
  quiesceBy := none
  aliveBy := none
  trialEnd := none
  revertBy := none
  handoverAt := 0
  dist := [DistSlot.reset, DistSlot.reset]

/-! ### Contactless tag (chapter 14) -/

/-- The states of ISO/IEC 14443-3 that the spec names: idle, ready (an answer to REQA), selected at level 1, active
(selected), a part 4 session, and halted. -/
inductive TagState where
  | idle
  | ready
  | level2
  | active
  | session
  | halted
  deriving DecidableEq, Repr

/-- The file or application selected in a session (R420, R423). -/
inductive TagFile where
  | none
  | ndefApp
  | capability
  | ndef
  | vendor
  deriving DecidableEq, Repr

/-- An open record buffer (R423): its length and bytes. -/
structure TagBuffer where
  len : Nat
  bytes : List Byte
  deriving DecidableEq, Repr

structure Tag where
  st : TagState
  file : TagFile
  /-- A SELECT of the NDEF or vendor application has succeeded in the session (R432). -/
  selected : Bool
  buffer : Option TagBuffer
  /-- The last commit's status word (R423). -/
  lastCommit : Nat
  /-- End of the quiet time, in AON local time (R432). -/
  quietUntil : Nat
  /-- Without VSUP quiet time counts only in a field: what was left when the field was lost, and when that was (R433). -/
  quietLeft : Nat
  lostAt : Nat
  /-- The last answer sent, as bytes; of an anticollision command one element for each bit. -/
  answer : List Byte
  deriving DecidableEq, Repr

def Tag.reset : Tag := ⟨.idle, .none, false, none, 0x9000, 0, 0, 0, []⟩

/-! ### Event fabric and timer bank (chapter 15) -/

structure Evf where
  /-- Events that have occurred and wait for the fabric: number and AON local instant (R17, R445). -/
  raised : List (Nat × Nat)
  /-- The fabric cycle of the last firing of each channel, and the consumer cycle of the last trigger of each task
  (R449). -/
  lastFire : List (Nat × Nat)
  lastTrigger : List (Nat × Nat)
  /-- Firings within the loop-monitor window: channel and instant (R453). -/
  recent : List (Nat × Nat)
  /-- Skein channels: the last event cell in which each fired, and how many consecutive ones (R453). -/
  skRuns : List (Nat × Nat × Nat)
  /-- The fabric cycle of the last group change, the group state at its start, and the groups disabled in it (R441, R442). -/
  groupCycle : Nat
  groupOld : Nat
  disabled : Nat
  /-- Task triggers that wait for the clock of a stopped island (R17, R444). -/
  waiting : List Nat
  deriving DecidableEq, Repr

def Evf.reset : Evf := ⟨[], [], [], [], [], 0, 0xFFFF, 0, []⟩

/-- What a channel held when the first input of an AON bus cycle reached it (R454). -/
structure TmbSnap where
  cycle : Nat
  count : Nat
  run : Bool
  /-- A STOP has reached the channel in this cycle. -/
  stopped : Bool
  deriving DecidableEq, Repr

structure Tmb where
  /-- AON local instant of each channel's next tick, and its snapshot of the last cycle with an input (R454). -/
  tickAt : List Nat
  snaps : List (Option TmbSnap)
  deriving DecidableEq, Repr

def Tmb.reset : Tmb := ⟨List.replicate 16 0, List.replicate 16 none⟩

/-! ### Clocks, supply and resets (chapters 16 and 17) -/

structure Clk where
  /-- Sources that run: XOSC, LFXO, HFRC, LFRC; and the AON local instant at which their present start began (R465). -/
  running : List Bool
  startedAt : List Nat
  /-- Sources whose present start has been measured (R466). -/
  measured : List Bool
  /-- The system PLL has locked to the selected reference (R473). -/
  lockedTo : Bool
  /-- Since when the system PLL and the DSP PLL have been unlocked (R475, R476). -/
  sysUnlocked : Option Nat
  dspUnlocked : Option Nat
  deriving DecidableEq, Repr

def Clk.reset : Clk := ⟨[true, true, true, true], [0, 0, 0, 0], [false, false, false, false], false, none, none⟩

/-- The power states of Table 17-5. -/
inductive Power where
  | run
  | doze
  | sleep
  | hibernate
  | off
  deriving DecidableEq, Repr

structure Sup where
  power : Power
  /-- RESET_N is low since this AON local instant (R499); the input switch is open (R485). -/
  pinLow : Option Nat
  switchOpen : Bool
  /-- A brown-out holds the device in reset until VSUP is above the power-on release level (R491). -/
  brown : Bool
  /-- The VIOOUT switch is open since (R490). -/
  vioAt : Nat
  /-- IOSEL as sampled at power-on: 0 ground, 1 VSUP, 2 open (R489). -/
  iosel : Nat
  /-- Upper words latched by reads of lower words: requester, address of the lower word, upper word (R535). -/
  latches : List (Requester × Nat × Word)
  /-- Words that reads have delivered, newest last. -/
  delivered : List Word
  /-- The AON bus cycle in which the last reset was recorded (R498). -/
  resetIn : Option Nat
  /-- The last two samples of VSUP: AON local instant and millivolts, newest first (R229). -/
  vsup : List (Nat × Nat)
  deriving DecidableEq, Repr

def Sup.reset : Sup := ⟨.run, none, false, false, 0, 0, [], [], none, []⟩

/-! ### Processor complex and peripherals (chapter 18) -/

/-- A watchdog: time counted before its last pause, and since when it counts again (R500, R514). -/
structure Watchdog where
  ran : Nat
  since : Option Nat
  deriving DecidableEq, Repr

/-- A partition's WAIT call: its buffer and the AON local instant of its timeout (R517). -/
structure PartWait where
  addr : Nat
  deadline : Nat
  deriving DecidableEq, Repr

/-- A verification that runs: the scope, the signature, the challenge and its start (R519). -/
structure DebugAuth where
  scope : Nat
  sig : List Byte
  challenge : Nat
  start : Nat
  deriving DecidableEq, Repr

structure Cpx where
  /-- The boot chain has released the application cores (R395). -/
  released : Bool
  /-- A debug session is open, with its scope (R519). -/
  session : Bool
  scope : Nat
  /-- The present challenge (a draw of the random source), a verification that runs, and the AON local instants of the
  failures (R295, R519). -/
  challenge : Nat
  verifying : Option DebugAuth
  failures : List Nat
  /-- Cores in debug halt, and cores that wait in WFI (R494). -/
  halted : List Bool
  wfi : List Bool
  /-- The core watchdog, and the system watchdog (R500, R514). -/
  coreWdt : Watchdog
  sysWdt : Watchdog
  /-- PLIC sources claimed and not yet completed, with their contexts (R511). -/
  servicing : List (Nat × Nat)
  /-- Sources raised again while they are being served. -/
  deferred : List Nat
  /-- The partition's waiting call, and the results of its calls, newest last (R517). -/
  wait : Option PartWait
  results : List Nat
  /-- Access faults that each core has taken (R29), and the last word that its load delivered. -/
  accessFaults : List Nat
  loaded : List Word
  /-- Access faults that the security core has taken (R29). -/
  securityFaults : Nat
  /-- The instruction cache of each core: its lines, by line number, with their bytes (R508). -/
  icache : List (List (Nat × List Byte))
  /-- Reads and fetches of the cores that stall: address and reader (R376). -/
  stalled : List (Nat × FlashReader)
  deriving DecidableEq, Repr

def Watchdog.reset : Watchdog := ⟨0, none⟩

def Cpx.reset : Cpx where
  released := false
  session := false
  scope := 0
  challenge := 0
  verifying := none
  failures := []
  halted := [false, false, false, false]
  wfi := [false, false, false, false]
  coreWdt := Watchdog.reset
  sysWdt := Watchdog.reset
  servicing := []
  deferred := []
  wait := none
  results := []
  accessFaults := [0, 0, 0, 0]
  loaded := [0, 0, 0, 0]
  securityFaults := 0
  icache := [[], [], [], []]
  stalled := []

/-- One UART (R523), one SPI (R524) and one I2C controller (R525): their FIFOs. -/
structure Uart where
  rx : List Byte
  tx : List Byte
  deriving DecidableEq, Repr

structure Spi where
  rx : List Word
  tx : List Word
  /-- The frame that shifts, and whether the chip select is asserted. -/
  shifting : Option Word
  selected : Bool
  deriving DecidableEq, Repr

structure I2c where
  rx : List Byte
  tx : List Byte
  deriving DecidableEq, Repr

structure Per where
  uart : List Uart
  spi : List Spi
  i2c : List I2c
  deriving DecidableEq, Repr

def Per.reset : Per := ⟨[⟨[], []⟩, ⟨[], []⟩], [⟨[], [], none, false⟩, ⟨[], [], none, false⟩], [⟨[], []⟩, ⟨[], []⟩]⟩

/-! ### The whole state -/

structure State where
  /-- The commands that are waiting, first in, first out. -/
  pending : List Instr
  /-- AON local clock, and network time, both in timestamp units (R9, R10, R142). -/
  now : Nat
  net : Nat
  /-- The active profile: relay (R1). -/
  relay : Bool
  /-- The free-value counter (the model's own; notes/assumptions/3.md). -/
  freeCtr : Nat
  /-- The register file: internal address and word; unlisted addresses read their reset word. -/
  regs : List (Nat × Word)
  /-- Interrupt vectors raised in the anchor profile, oldest first (R49), and the PCIe function that sends them (R35). -/
  msix : List Nat
  pcie : Pcie
  /-- Bytes that the device has written into host memory, and application SRAM. -/
  hostMem : List Host.Cell
  sram : List Host.Cell
  /-- The promise table (R27). -/
  items : List Item
  hre : Hre
  chn : Chn
  mac : Mac
  blw : Blw
  mur : Mur
  rfe : Rfe
  esm : Esm
  cry : Cry
  skn : Skn
  flc : Flc
  evf : Evf
  cpx : Cpx
  per : Per
  upd : Upd
  tag : Tag
  tmb : Tmb
  clk : Clk
  sup : Sup
  deriving DecidableEq, Repr

/-- The machine right after a power-on reset (R33, R498): every register at its reset word, every queue and buffer
empty, and network time 0 (R113). -/
def State.reset : State where
  pending := []
  now := 0
  net := 0
  relay := false
  freeCtr := 0
  regs := []
  msix := []
  pcie := Pcie.reset
  hostMem := []
  sram := []
  items := []
  hre := Hre.reset
  chn := Chn.reset
  mac := Mac.reset
  blw := Blw.reset
  mur := Mur.reset
  rfe := Rfe.reset
  esm := Esm.reset
  cry := Cry.reset
  skn := Skn.reset
  flc := Flc.reset
  evf := Evf.reset
  cpx := Cpx.reset
  per := Per.reset
  upd := Upd.reset
  tag := Tag.reset
  tmb := Tmb.reset
  clk := Clk.reset
  sup := Sup.reset

end Sys2Proof.Machine
end

