-- ==== Sys2Proof/Machine/Ops.lean ====
section
/-! DEFINITION. The shared operations of every family: reading and writing registers and their fields, the clock,
interrupts, events, ring 20 records and free values. -/

namespace Sys2Proof.Machine

/-- The outcome of a command. -/
abbrev Out := Host.Outcome State Fault Refusal

/-! ### Small list and number helpers -/

/-- Replace the element at index `i` by `f` of it; no effect outside the list. -/
def modAt {α : Type} (f : α → α) : List α → Nat → List α
  | [], _ => []
  | x :: r, 0 => f x :: r
  | x :: r, i + 1 => x :: modAt f r i

/-- Take the first element that satisfies `p` out of a list. -/
def takeFirst {α : Type} (p : α → Bool) : List α → Option (α × List α)
  | [] => none
  | x :: r => if p x then some (x, r) else (takeFirst p r).map (fun q => (q.1, x :: q.2))

/-- Sum of a measure over a list. -/
def sumBy {α : Type} (f : α → Nat) : List α → Nat
  | [] => 0
  | x :: r => f x + sumBy f r

/-- A two's-complement number of `w` bits. -/
def signed (w v : Nat) : Int := if v % 2 ^ w < 2 ^ (w - 1) then ((v % 2 ^ w : Nat) : Int) else ((v % 2 ^ w : Nat) : Int) - (2 ^ w : Nat)

/-- The `w`-bit two's-complement code of an integer. -/
def unsigned (w : Nat) (i : Int) : Nat := (i % ((2 ^ w : Nat) : Int)).toNat

/-- Bits [hi:lo] of a number. -/
def bits (v hi lo : Nat) : Nat := v / 2 ^ lo % 2 ^ (hi - lo + 1)

/-- A 32-bit word of a number. -/
def word (n : Nat) : Word := BitVec.ofNat 32 n

/-- The lower and upper words of a 64-bit quantity (R41). -/
def loWord (n : Nat) : Word := BitVec.ofNat 32 n
def hiWord (n : Nat) : Word := BitVec.ofNat 32 (n / 2 ^ 32)

/-- Word `n` of a descriptor; a missing word reads 0. -/
def wordAt (ws : List Word) (n : Nat) : Nat := (ws.getD n 0).toNat

/-- Bits [hi:lo] of word `n` of a descriptor. -/
def wbits (ws : List Word) (n hi lo : Nat) : Nat := bits (wordAt ws n) hi lo

/-- A little-endian number from bytes (R116). -/
def leNat : List Byte → Nat
  | [] => 0
  | b :: r => b.toNat + 256 * leNat r

/-- The `n` little-endian bytes of a number. -/
def leBytes : Nat → Nat → List Byte
  | 0, _ => []
  | n + 1, v => BitVec.ofNat 8 v :: leBytes n (v / 256)

/-- Exactly `n` bytes of a list, filled with zeros. -/
def fit (n : Nat) (bs : List Byte) : List Byte := (bs.take n) ++ List.replicate (n - bs.length) 0

/-- Bytes `lo` to `lo + n - 1` of a list. -/
def slice (bs : List Byte) (lo n : Nat) : List Byte := (bs.drop lo).take n

/-! ### Time units (Table 0-2) -/

/-- One tick in timestamp units. -/
def tickU : Nat := 65536
/-- One slot in timestamp units (R72). -/
def slotU : Nat := 4194304
/-- Units in one second. -/
def secondU : Nat := 2147483648
/-- Microseconds in timestamp units, rounded up (notes/assumptions/1.md). -/
def usU (n : Nat) : Nat := (n * secondU + 999999) / 1000000
/-- Milliseconds in timestamp units. -/
def msU (n : Nat) : Nat := usU (1000 * n)
/-- A span in whole microseconds, rounded up (R141). -/
def usCeil (u : Nat) : Nat := (u * 1000000 + secondU - 1) / secondU
/-- A span in whole microseconds, rounded down. -/
def usFloor (u : Nat) : Nat := u * 1000000 / secondU
/-- Absolute slot number of a timestamp (R72). -/
def asn (ts : Nat) : Nat := ts / slotU

/-! ### Registers -/

/-- Read the stored word of a register. -/
def State.rd (s : State) (a : Nat) : Word := Sparse.get resetWord s.regs a

/-- Write the stored word of a register. -/
def State.wr (s : State) (a : Nat) (v : Word) : State := { s with regs := Sparse.set resetWord s.regs a v }

/-- A field's value within a word. -/
def Fld.value (f : Fld) (w : Word) : Nat := w.toNat / 2 ^ f.lo % 2 ^ f.width

/-- A word with one field replaced. -/
def Fld.insert (f : Fld) (w : Word) (v : Nat) : Word :=
  BitVec.ofNat 32 (w.toNat - f.value w * 2 ^ f.lo + v % 2 ^ f.width * 2 ^ f.lo)

/-- Insert after everything that goes before, so that equals keep their order. -/
def insertBy {α : Type} (before : α → α → Bool) (r : α) : List α → List α
  | [] => [r]
  | x :: l => if before r x then r :: x :: l else x :: insertBy before r l

/-- Read a field. -/
def State.get (s : State) (f : Fld) : Nat := f.value (s.rd f.addr)

/-- Is a field nonzero? -/
def State.on (s : State) (f : Fld) : Bool := s.get f != 0

/-- Write a field (by the hardware: whatever its access code). -/
def State.put (s : State) (f : Fld) (v : Nat) : State := s.wr f.addr (f.insert (s.rd f.addr) v)

/-- Add to a saturating counter. -/
def State.count (s : State) (f : Fld) (n : Nat := 1) : State := s.put f (Nat.min (s.get f + n) (2 ^ f.width - 1))

/-- Read and write a 64-bit register (R535). -/
def State.rd64 (s : State) (a : Nat) : Nat := (s.rd a).toNat + (s.rd (a + 4)).toNat * 2 ^ 32
def State.wr64 (s : State) (a : Nat) (v : Nat) : State := (s.wr a (loWord v)).wr (a + 4) (hiWord v)

/-- Is block `b` enabled (R66)? -/
def State.en (s : State) (b : Nat) : Bool := s.on (F.BLK_EN b)

/-- Return every register of a block to its reset word. -/
def State.resetRegs (s : State) (b : Nat) : State :=
  { s with regs := Sparse.clear s.regs (blockBase b) (blockBase b + 0x10000) }

/-- Clear a run of `n` counters from a first address (counters that a field map clears at enable, R541). -/
def State.clearRun (s : State) (a : Nat) : Nat → State
  | 0 => s
  | n + 1 => (s.wr a 0).clearRun (a + 4) n

/-! ### The clock (R9, R114, R136) -/

/-- The part of the slew that `lim` units allow. -/
def slewStep (lim : Nat) (rest : Int) : Int :=
  if rest < 0 then -((Nat.min rest.natAbs lim : Nat) : Int) else ((Nat.min rest.natAbs lim : Nat) : Int)

/-- The clocks at AON local instant `t`; the local clock never goes back.  Network time follows it at the rate that
the drift estimate corrects (R136) and with the slew in progress, at MAX_SLEW in units of 4 ppm (R114); parts of a unit
are kept. -/
def State.clockAt (s : State) (t : Nat) : State :=
  let dt := t - s.now
  let slewed := dt * (4 * s.get F.MAC_SYNC_MAX_SLEW) + s.mac.slewRest
  let step := slewStep (slewed / 1000000) s.mac.slew
  let drifted : Int := (dt : Int) * signed 32 (s.get F.MAC_FREQ_EST_EST) + s.mac.driftRest
  { s with
    now := s.now + dt
    net := ((s.net : Int) + dt + drifted / (1024 * 1000000) + step).toNat % 2 ^ 64
    mac := { s.mac with
      slew := s.mac.slew - step
      slewRest := if s.mac.slew = 0 then 0 else slewed % 1000000
      driftRest := (drifted % (1024 * 1000000)).toNat } }

/-- The AON local instant of a network timestamp, as the present clocks relate. -/
def State.localOf (s : State) (ts : Nat) : Nat := ((s.now : Int) + ((ts : Int) - s.net)).toNat

/-! ### Free values -/

/-- A value below `n` that the spec leaves open, and the state that has drawn it. -/
def State.fresh (s : State) (n : Nat) : Nat × State :=
  (Config.freeNat s.freeCtr % (if n = 0 then 1 else n), { s with freeCtr := s.freeCtr + 1 })

/-! ### Interrupts (R49, R511, R512) -/

/-- Would a pending source interrupt a context: enabled there, with a priority above its threshold (R511)? -/
def plicReady (s : State) (ctx src : Nat) : Bool :=
  bits (s.rd (Reg.CPX_PLIC_EN ctx (src / 32))).toNat (src % 32) (src % 32) == 1 &&
  decide (s.get (F.CPX_PLIC_THR_THR ctx) < s.get (F.CPX_PLIC_PRIO_PRIO (src - 1)))

/-- An interrupt ends the WFI of a core, and with it DOZE (Table 17-5). -/
def State.wakeCore (s : State) (c : Nat) : State :=
  if s.cpx.wfi.getD c false && (s.sup.power == .run || s.sup.power == .doze) then
    { s with
      cpx := { s.cpx with wfi := modAt (fun _ => false) s.cpx.wfi c }
      sup := { s.sup with power := .run } }.put F.SUP_STATUS_STATE 0
  else s

/-- A PLIC source is raised: its pending bit is set, or, while it is being served, as soon as it completes (R511). -/
def State.plic (s : State) (src : Nat) : State :=
  if s.cpx.servicing.any (fun x => x.1 == src) then
    { s with cpx := { s.cpx with deferred := src :: s.cpx.deferred.filter (fun d => d != src) } }
  else
    let a := Reg.CPX_PLIC_PEND (src / 32)
    let s1 := s.wr a (s.rd a ||| BitVec.ofNat 32 (2 ^ (src % 32)))
    ([0, 1, 2, 3].filter (fun c => plicReady s1 c src)).foldl State.wakeCore s1

/-- Is a firmware receive queue, of frames (R24) or of messages (R332), not empty: the level of source 69 (Table 18-1)? -/
def firmwareWaits (s : State) : Bool := !(s.esm.firmware.isEmpty && s.skn.firmware.isEmpty)

/-- A frame or a message joins the firmware receive queue, which raises source 69 (R24, R332, R512). -/
def State.frameToFirmware (s : State) (f : FwFrame) : State :=
  { s with esm := { s.esm with firmware := s.esm.firmware ++ [f] } }.plic 69
def State.messageToFirmware (s : State) (m : SknMsg) : State :=
  { s with skn := { s.skn with firmware := s.skn.firmware ++ [m] } }.plic 69

/-- A word of the MSI-X table: an entry is masked at reset (bit 0 of its control word; notes/assumptions/99.md). -/
def msixReset (k : Nat) : Word := if k % 4 = 3 then 1 else 0
def msixWord (s : State) (k : Nat) : Word := Sparse.get msixReset s.pcie.table k

/-- The message control word of the MSI-X capability in configuration space (offset 0x50): bit 31 enable, bit 30 function
mask. -/
def msixControl (s : State) : Nat := (Sparse.get (fun _ => (0 : Word)) s.pcie.config 0x50).toNat

/-- May the message of a vector be sent: MSI-X is enabled, and neither the function nor the entry is masked? -/
def msixOpen (s : State) (v : Nat) : Bool :=
  bits (msixControl s) 31 31 == 1 && bits (msixControl s) 30 30 == 0 && (msixWord s (4 * v + 3)).toNat % 2 == 0

/-- Send the message of a vector, or note it in the pending-bit array while it is masked (R35). -/
def State.sendMsix (s : State) (v : Nat) : State :=
  if msixOpen s v then
    { s with pcie := { s.pcie with
      pendingBits := if bits s.pcie.pendingBits v v = 1 then s.pcie.pendingBits - 2 ^ v else s.pcie.pendingBits
      messages := s.pcie.messages ++
        [((msixWord s (4 * v)).toNat + (msixWord s (4 * v + 1)).toNat * 2 ^ 32, msixWord s (4 * v + 2))] } }
  else { s with pcie := { s.pcie with
    pendingBits := if bits s.pcie.pendingBits v v = 1 then s.pcie.pendingBits else s.pcie.pendingBits + 2 ^ v } }

/-- Signal MSI-X vector `v`, or PLIC source `src`: in the relay profile the source; in the anchor profile the vector,
and the source too while CPX_CFG.MIRROR is 1 (R512). -/
def State.vector (s : State) (v src : Nat) : State :=
  if s.relay then s.plic src
  else
    let s1 := { s with msix := s.msix ++ [v] }.sendMsix v
    if s.on F.CPX_CFG_MIRROR then s1.plic src else s1

/-- ISR address, IER address, MSI-X vector and PLIC source of a block's interrupt register. -/
def isrOf (b : Nat) : Option (Nat × Nat × Option Nat × Nat) :=
  match b with
  | 0x00 => some (Reg.SYS_ISR, Reg.SYS_IER, some 24, 65)
  | 0x01 => some (Reg.SUP_ISR, Reg.SUP_IER, some 24, 64)
  | 0x02 => some (Reg.CLK_ISR, Reg.CLK_IER, some 24, 55)
  | 0x03 => some (Reg.BLW_ISR, Reg.BLW_IER, some 24, 49)
  | 0x04 => some (Reg.HRE_ISR, Reg.HRE_IER, some 24, 40)
  | 0x05 => some (Reg.RFE_ISR, Reg.RFE_IER, some 28, 44)
  | 0x07 => some (Reg.MUR_ISR, Reg.MUR_IER, some 27, 43)
  | 0x08 => some (Reg.CHN_ISR, Reg.CHN_IER, some 25, 41)
  | 0x09 => some (Reg.MAC_ISR, Reg.MAC_IER, some 26, 42)
  | 0x0A => some (Reg.ESM_ISR, Reg.ESM_IER, some 29, 45)
  | 0x0B => some (Reg.CRY_ISR, Reg.CRY_IER, some 30, 46)
  | 0x0C => some (Reg.SIG_ISR, Reg.SIG_IER, some 30, 46)
  | 0x0D => some (Reg.SKN_ISR, Reg.SKN_IER, some 26, 48)
  | 0x0E => some (Reg.FLC_ISR, Reg.FLC_IER, some 29, 50)
  | 0x0F => some (Reg.UPD_ISR, Reg.UPD_IER, some 28, 51)
  | 0x10 => some (Reg.TAG_ISR, Reg.TAG_IER, some 27, 52)
  | 0x11 => some (Reg.EVF_ISR, Reg.EVF_IER, some 26, 53)
  | 0x12 => some (Reg.TMB_ISR, Reg.TMB_IER, some 30, 54)
  | 0x13 => some (Reg.CPX_ISR, Reg.CPX_IER, none, 66)
  | 0x14 => some (Reg.PER_ISR, Reg.PER_IER, none, 67)
  | 0x15 => some (Reg.HKA_ISR, Reg.HKA_IER, none, 68)
  | 0x16 => some (Reg.SEC_ISR, Reg.SEC_IER, some 31, 47)
  | _ => none

/-- The bits of an ISR that signal their block's interrupt: the HRE ring bits have vectors of their own (R49). -/
def irqMask (b : Nat) (m : Word) : Word := if b = 0x04 then m &&& 0x0F000000 else m

/-- Set the ISR bits `mask` of block `b`; an enabled bit that was clear signals the block's interrupt
(the HRE ring bits have vectors of their own, R49). -/
def State.irq (s : State) (b mask : Nat) : State :=
  match isrOf b with
  | none => s
  | some (isr, ier, vec, src) =>
      let old := s.rd isr
      let m := BitVec.ofNat 32 mask
      let s1 := s.wr isr (old ||| m)
      if (irqMask b m &&& ~~~old) &&& s.rd ier = 0 then s1
      else match vec with
        | some v => s1.vector v src
        | none => s1.plic src

/-! ### Events and records -/

/-- Event `e` of Table 15-2 occurs: it waits for the fabric (R445). -/
def State.fire (s : State) (e : Nat) : State := { s with evf := { s.evf with raised := s.evf.raised ++ [(e, s.now)] } }

/-- Raise a ring 20 record (R567). -/
def State.record (s : State) (tag reason : Nat) (w4 w5 w6 w7 : Nat := 0) : State :=
  { s with hre := { s.hre with records := s.hre.records ++
      [⟨tag, reason, s.net, word w4, word w5, word w6, word w7, false⟩] } }

/-- The word by which a record names an item: ring in [7:0], TAG in [31:16]; an internal item is ring 0xFF (R567). -/
def Item.name (i : Item) : Nat := match i.owner with
  | .host => i.ring % 32 + i.tag * 65536
  | _ => 0xFF

/-- The item at promise-table index `idx`. -/
def State.item (s : State) (idx : Nat) : Option Item := s.items.find? (fun i => i.idx == idx)

/-- Change the item at promise-table index `idx`. -/
def State.setItem (s : State) (idx : Nat) (f : Item → Item) : State :=
  { s with items := s.items.map (fun i => if i.idx == idx then f i else i) }

/-- What the ring engine keeps for ring `n`. -/
def State.ring (s : State) (n : Nat) : Ring := s.hre.rings.getD n Ring.reset
def State.setRing (s : State) (n : Nat) (f : Ring → Ring) : State :=
  { s with hre := { s.hre with rings := modAt f s.hre.rings n } }

/-! ### Cores (R29, R510) -/

/-- A core's access completes with an access fault. -/
def State.accessFault (s : State) (core : Nat) : State :=
  { s with cpx := { s.cpx with accessFaults := modAt (fun n => n + 1) s.cpx.accessFaults core } }
/-- The security core's access completes with an access fault. -/
def State.securityFault (s : State) : State :=
  { s with cpx := { s.cpx with securityFaults := s.cpx.securityFaults + 1 } }
/-- A core's load delivers a word. -/
def State.deliverLoad (s : State) (core : Nat) (w : Word) : State :=
  { s with cpx := { s.cpx with loaded := modAt (fun _ => w) s.cpx.loaded core } }

/-- `n` bytes that the spec leaves open, and the state that has drawn them. -/
def State.freshBytes (s : State) : Nat → List Byte × State
  | 0 => ([], s)
  | n + 1 => let (b, s1) := s.fresh 256; let (r, s2) := s1.freshBytes n; (BitVec.ofNat 8 b :: r, s2)

/-- The device delivers words to a requester: what a read returned. -/
def State.deliverWords (s : State) (ws : List Word) : State :=
  { s with sup := { s.sup with delivered := s.sup.delivered ++ ws } }

/-! ### Watchdogs (R500, R514) -/

/-- Time that a watchdog has counted. -/
def Watchdog.elapsed (w : Watchdog) (now : Nat) : Nat := w.ran + (match w.since with | some a => now - a | none => 0)
/-- Let a watchdog count or pause. -/
def Watchdog.run (w : Watchdog) (now : Nat) (go : Bool) : Watchdog :=
  match w.since, go with
  | none, true => { w with since := some now }
  | some _, false => ⟨w.elapsed now, none⟩
  | _, _ => w

/-- Is the device in RUN or DOZE? -/
def awake (s : State) : Bool := s.sup.power == .run || s.sup.power == .doze
/-- Is an application core in debug halt? -/
def anyHalted (s : State) : Bool := s.cpx.halted.any (fun h => h)

/-- The watchdogs count in RUN and DOZE, outside debug halt, while they have a period. -/
def State.syncWatchdogs (s : State) : State :=
  let go := awake s && !anyHalted s
  { s with cpx := { s.cpx with
    sysWdt := s.cpx.sysWdt.run s.now (go && s.on F.SYS_WDT_CFG_PERIOD_S)
    coreWdt := s.cpx.coreWdt.run s.now (go && s.on F.CPX_WDT_CFG_PERIOD_MS) } }

/-! ### Memory -/

/-- Does a range lie in the application SRAM, its handover area included (Table 1-4)? -/
def inSram (a n : Nat) : Bool := decide (0x20000000 ≤ a ∧ a + n ≤ 0x20100000)

/-- The application SRAM and the host's memory as the device writes it: an unlisted byte reads 0
(notes/assumptions/5.md). -/
def State.sramByte (s : State) (a : Nat) : Byte := Sparse.get (fun _ => (0 : Byte)) s.sram a
def State.sramRead (s : State) (a n : Nat) : List Byte := Sparse.getMany (fun _ => (0 : Byte)) s.sram a n
def State.sramWrite (s : State) (a : Nat) (bs : List Byte) : State :=
  { s with sram := if inSram a bs.length then Sparse.setMany (fun _ => (0 : Byte)) s.sram a bs else s.sram }
def State.hostByte (s : State) (a : Nat) : Byte := Sparse.get (fun _ => (0 : Byte)) s.hostMem a
def State.hostWrite (s : State) (a : Nat) (bs : List Byte) : State :=
  { s with hostMem := Sparse.setMany (fun _ => (0 : Byte)) s.hostMem a bs }

/-- A write by the device into a buffer of the host: host memory, or application SRAM with the internal host (R39). -/
def State.dma (s : State) (a : Nat) (bs : List Byte) : State :=
  if s.relay then s.sramWrite a bs else s.hostWrite a bs

/-- A write into a descriptor's buffer: the customer partition's buffers stand in application SRAM in both profiles
(R517). -/
def State.bufWrite (s : State) (ring a : Nat) (bs : List Byte) : State :=
  if 32 ≤ ring then s.sramWrite a bs else s.dma a bs

/-! ### Promise-table entries in time -/

/-- The attempt that is due or running: the first, or the repair after a move (R99). -/
def Item.attempt (i : Item) (x : TxInfo) : Attempt := if i.moved then x.second else x.first

/-- The time at which an item is due: its committed time, or its repair time once moved (R101). -/
def Item.due (i : Item) : Nat := if i.moved then i.repairAt.getD i.committed else i.committed

/-- Is a receive window open? -/
def windowOpen (s : State) : Bool :=
  s.items.any (fun i => i.started && !i.decided && (match i.kind with | .rx x => !x.closed | _ => false))

/-- Is quench in force, locally or by the skein (R60, R338)? -/
def quenchOn (s : State) : Bool := s.on F.HRE_QUENCH_QUENCH || s.on F.SKN_STATUS_SQUENCH

/-- The reference clock is valid (R473). -/
def refValid (s : State) : Bool := s.on F.CLK_STATUS_REF_VALID

/-! ### Front-end module lines (R234, R235) -/

/-- Is Chanter muted after a mismatch, or in fault (R102, R105)? -/
def chnMuted (s : State) : Bool :=
  s.on F.CHN_STATUS_FAULT || s.chn.restoring || s.chn.waitingBoundary ||
    (decide (s.chn.muteLo ≤ asn s.net) && decide (asn s.net < s.chn.muteHi))

/-- Is a transmission in its lead-in, from FEM_LEAD before its ramp-up on, with nothing that keeps it from starting? -/
def txLead (s : State) : Bool :=
  !s.on F.BLW_STATUS_ECONOMY && refValid s && !quenchOn s && s.on F.RFE_STATUS_TX_LOCK && s.clk.sysUnlocked.isNone &&
    s.clk.dspUnlocked.isNone && s.items.any (fun i => !i.decided && !i.started && (match i.kind with
      | .tx x =>
          let a := i.attempt x
          (a.listenUs == 0 || x.listened) && decide (a.time ≤ s.net + x.femU + x.rampU) && decide (s.net ≤ a.time + usU 1)
      | _ => false))

/-- The lines that a pattern drives: the fault input of FLT_SEL is not driven (R235). -/
def femDriven (s : State) (pat : Nat) : Nat :=
  let k := s.get F.RFE_FEM_FLT_SEL
  if k = 0 ∨ bits pat (k - 1) (k - 1) = 0 then pat else pat - 2 ^ (k - 1)

/-- FEM0 to FEM3 and PA_EN (R234): low when the block, the control or the device is off; IDLE through calibration, a mute
and a fault; TX from the lead-in of a transmission to FEM_LAG after it; RX while a window is open; else IDLE. -/
def femLines (s : State) : Nat × Bool :=
  if !s.en Blk.RFE || !s.on F.RFE_FEM_EN || s.sup.power == .hibernate || s.sup.power == .off then (0, false)
  else if s.rfe.calibrating || chnMuted s then (femDriven s (s.get F.RFE_FEM_IDLE_PAT), false)
  else if s.rfe.onAir.isSome || decide (s.now < s.rfe.lagUntil) || txLead s then (femDriven s (s.get F.RFE_FEM_TX_PAT), true)
  else if windowOpen s then (femDriven s (s.get F.RFE_FEM_RX_PAT), false)
  else (femDriven s (s.get F.RFE_FEM_IDLE_PAT), false)

/-- The lines follow. -/
def State.syncFem (s : State) : State :=
  let l := femLines s
  { s with rfe := { s.rfe with fem := l.1, paEn := l.2 } }

/-- The 24-bit bin field of a register or word as a bin number. -/
def binOf (v : Nat) : Int := signed 8 v

end Sys2Proof.Machine
end

