-- ==== Sys2Proof/Machine/Aes.lean ====
section
/-! DEFINITION. The modes of the AES pipeline over its block cipher (Table 9-2): CTR, CBC-MAC, CCM*, GCM, CMAC, the KDF
and the RFC 5649 key unwrap (R120, R262, R278 to R280, R286). -/

namespace Sys2Proof.Machine

/-! ### Blocks -/

/-- A big-endian number and its `n` bytes. -/
def beNat (bs : List Byte) : Nat := leNat bs.reverse
def beBytes (n v : Nat) : List Byte := (leBytes n v).reverse

/-- One block through the pipeline, and through its inverse. -/
def aes (k : AesKey) (b : Nat) : Nat := Config.aesBlock k (b % 2 ^ 128) % 2 ^ 128
def aesInv (k : AesKey) (b : Nat) : Nat := Config.aesInverse k (b % 2 ^ 128) % 2 ^ 128

/-- The key of a slot's or a derivation's bytes. -/
def aesKeyOf (wide : Bool) (bs : List Byte) : AesKey := ⟨wide, beNat bs⟩

/-- The first `n` blocks of a byte list, the last one filled with zeros. -/
def blockList : Nat → List Byte → List Nat
  | 0, _ => []
  | n + 1, bs => beNat (fit 16 (bs.take 16)) :: blockList n (bs.drop 16)

def ceil16 (n : Nat) : Nat := (n + 15) / 16

/-- A byte list in blocks, filled with zeros. -/
def blocksOf (bs : List Byte) : List Nat := blockList (ceil16 bs.length) bs

/-- Bytewise exclusive or, as long as the first list. -/
def xorBytes : List Byte → List Byte → List Byte
  | [], _ => []
  | b :: r, [] => b :: r
  | b :: r, k :: q => (b ^^^ k) :: xorBytes r q

/-- Chain blocks from an initial value. -/
def cbcChain (k : AesKey) (x : Nat) (bs : List Nat) : Nat := bs.foldl (fun y b => aes k (y ^^^ b)) x

/-! ### Counter mode (NIST SP 800-38A) -/

/-- The keystream of `n` counter blocks from `c`, each the `next` of the one before. -/
def keystream (k : AesKey) (next : Nat → Nat) : Nat → Nat → List Byte
  | 0, _ => []
  | n + 1, c => beBytes 16 (aes k c) ++ keystream k next n (next c)

/-- Encrypt or decrypt with a keystream. -/
def streamXor (k : AesKey) (next : Nat → Nat) (c : Nat) (bs : List Byte) : List Byte :=
  xorBytes bs (keystream k next (ceil16 bs.length) c)

/-- Successors of a counter block: on 128 bits, and on its low 32 or 16 bits. -/
def inc128 (c : Nat) : Nat := (c + 1) % 2 ^ 128
def incLow (w c : Nat) : Nat := c / 2 ^ w * 2 ^ w + (c + 1) % 2 ^ w

/-! ### CBC-MAC (ISO/IEC 9797-1 algorithm 1, padding 2) and CMAC (NIST SP 800-38B) -/

def cbcMac (k : AesKey) (bs : List Byte) : List Byte := beBytes 16 (cbcChain k 0 (blocksOf (bs ++ [0x80])))

/-- Doubling in GF(2^128) of CMAC's subkeys. -/
def cmacDouble (v : Nat) : Nat := (2 * v % 2 ^ 128) ^^^ (if v < 2 ^ 127 then 0 else 0x87)

def cmac (k : AesKey) (bs : List Byte) : List Byte :=
  let k1 := cmacDouble (aes k 0)
  let n := Nat.max 1 (ceil16 bs.length)
  let last := bs.drop (16 * (n - 1))
  let x := cbcChain k 0 (blockList (n - 1) bs)
  beBytes 16 (aes k (x ^^^ (if last.length = 16 then beNat last ^^^ k1 else beNat (fit 16 (last ++ [0x80])) ^^^ cmacDouble k1)))

/-- One iteration of the counter-mode KDF over its input (R262): an AES-128 key. -/
def kdf (k : AesKey) (input : List Byte) : AesKey := aesKeyOf false (cmac k input)

/-! ### CCM* (IEEE 802.15.4-2020 Annex B) -/

/-- Field M' of the first block for a tag of `m` bytes. -/
def ccmField (m : Nat) : Nat := if m % 2 = 0 ∧ 4 ≤ m then (m - 2) / 2 else if m = 0 then 0 else Config.ccmOddField m % 8

/-- Counter block `i` of a 13-byte nonce. -/
def ccmCounter (nonce : List Byte) (i : Nat) : Nat := (2 ^ 104 + beNat (fit 13 nonce)) * 2 ^ 16 + i

/-- The authenticated data with its length, in whole blocks. -/
def ccmAad (aad : List Byte) : List Byte :=
  if aad.isEmpty then []
  else
    let l := if aad.length < 0xFF00 then beBytes 2 aad.length else [0xFF, 0xFE] ++ beBytes 4 aad.length
    fit (16 * ceil16 (l.length + aad.length)) (l ++ aad)

/-- The tag of `m` bytes over authenticated data and plaintext. -/
def ccmTag (k : AesKey) (m : Nat) (nonce aad plain : List Byte) : List Byte :=
  let flags := (if aad.isEmpty then 0 else 64) + 8 * ccmField m + 1
  let b0 := leBytes 1 flags ++ fit 13 nonce ++ beBytes 2 plain.length
  let t := cbcChain k 0 (blocksOf (b0 ++ ccmAad aad) ++ blocksOf plain)
  (beBytes 16 (t ^^^ aes k (ccmCounter nonce 0))).take m

/-- Encryption and decryption: counter blocks from 1. -/
def ccmCrypt (k : AesKey) (nonce bs : List Byte) : List Byte := streamXor k (incLow 16) (ccmCounter nonce 1) bs

/-! ### GCM (NIST SP 800-38D, 96-bit IV) -/

/-- `n` steps of a product in GCM's field, from bit `n` - 1 of `x` down. -/
def ghashMul : Nat → Nat → Nat → Nat → Nat
  | 0, _, _, z => z
  | n + 1, x, v, z =>
      ghashMul n x (if v % 2 = 1 then (v / 2) ^^^ (0xE1 * 2 ^ 120) else v / 2) (if bits x n n = 1 then z ^^^ v else z)

/-- GHASH of blocks under the hash key `h`. -/
def ghash (h : Nat) (bs : List Nat) : Nat := bs.foldl (fun y b => ghashMul 128 (y ^^^ b) h 0) 0

/-- The first counter block of a 12-byte IV. -/
def gcmJ0 (iv : List Byte) : Nat := beNat (fit 12 iv) * 2 ^ 32 + 1

def gcmCrypt (k : AesKey) (iv bs : List Byte) : List Byte := streamXor k (incLow 32) (incLow 32 (gcmJ0 iv)) bs

/-- The 16-byte tag over authenticated data and ciphertext. -/
def gcmTag (k : AesKey) (iv aad ct : List Byte) : List Byte :=
  let y := ghash (aes k 0) (blocksOf aad ++ blocksOf ct ++ [8 * aad.length * 2 ^ 64 + 8 * ct.length])
  beBytes 16 (y ^^^ aes k (gcmJ0 iv))

/-! ### Key unwrap (RFC 5649) -/

/-- One inverse wrap step for register `i` of `n` in round `j`. -/
def unwrapStep (k : AesKey) (n j : Nat) (ar : Nat × List Nat) (i : Nat) : Nat × List Nat :=
  let b := aesInv k ((ar.1 ^^^ (n * j + i)) * 2 ^ 64 + ar.2.getD (i - 1) 0)
  (b / 2 ^ 64, modAt (fun _ => b % 2 ^ 64) ar.2 (i - 1))

/-- The 64-bit registers of a byte list. -/
def words64 : Nat → List Byte → List Nat
  | 0, _ => []
  | n + 1, bs => beNat (fit 8 (bs.take 8)) :: words64 n (bs.drop 8)

/-- Unwrap a key of `n` 64-bit registers: the key bytes, unless the integrity check fails. -/
def keyUnwrap (k : AesKey) (n : Nat) (bs : List Byte) : Option (List Byte) :=
  let w := words64 (n + 1) bs
  let r := (List.range 6).foldl (fun (ar : Nat × List Nat) j =>
    (List.range n).foldl (fun a i => unwrapStep k n (5 - j) a (n - i)) ar) (w.headD 0, w.drop 1)
  if r.1 = 0xA65959A6 * 2 ^ 32 + 8 * n then some (r.2.flatMap (beBytes 8)) else none

end Sys2Proof.Machine
end

