-- ==== Sys2Proof/Machine/Framing.lean ====
section
/-! DEFINITION. The Hegal PHY to the bit: codes, CRCs, forward error correction, interleaving, the symbol sequence and
frame durations (R155 to R172), and the native MAC frame (R116 to R120). -/

namespace Sys2Proof.Machine

/-! ### Spreading codes (R157, R158) -/

/-- The seed of code index `c` (Table 5-2). -/
def codeSeed (c : Nat) : Nat :=
  [0x1A35, 0x0C6B, 0x15D2, 0x03A7, 0x1E49, 0x0B1E, 0x16F4, 0x0958].getD c 0

/-- `n` output bits of the generator from state `s`. -/
def codeBits : Nat → Nat → List Bool
  | 0, _ => []
  | n + 1, s =>
      let fb := (s ^^^ (s >>> 1) ^^^ (s >>> 3) ^^^ (s >>> 4)) &&& 1
      (s % 2 == 1) :: codeBits n ((s >>> 1) ||| (fb <<< 12))

/-- The code of a spreading factor index and a code index. -/
def spreadCode (sfIdx c : Nat) : List Bool := codeBits (2 ^ (sfIdx + 4)) (codeSeed c ^^^ (sfIdx <<< 9))

/-- A code as chips: output bit 0 is +1 and output bit 1 is −1 (R157). -/
def codeChips (sfIdx c : Nat) : List Int := (spreadCode sfIdx c).map (fun b => if b then -1 else 1)

/-- The chips of a frame, chip 0 first: every symbol is its code times its sign (R157, R161). -/
def frameChips (sfIdx c : Nat) (symbols : List Bool) : List Int :=
  symbols.flatMap (fun d => (codeChips sfIdx c).map (fun x => if d then -x else x))

/-! ### CRCs (R166, R167) -/

/-- `n` shift steps of a CRC-8 with polynomial 0x07. -/
def crc8Step : Nat → Nat → Nat
  | 0, r => r
  | n + 1, r => crc8Step n (if r / 128 % 2 = 1 then (r * 2 % 256) ^^^ 0x07 else r * 2 % 256)

/-- CRC-8 of R166 over bytes, each most significant bit first. -/
def crc8 (bs : List Byte) : Nat := bs.foldl (fun r b => crc8Step 8 (r ^^^ b.toNat)) 0

/-- `n` shift steps of a reflected CRC. -/
def crcRefStep (poly : Nat) : Nat → Nat → Nat
  | 0, r => r
  | n + 1, r => crcRefStep poly n (if r % 2 = 1 then (r / 2) ^^^ poly else r / 2)

/-- CRC-16 of R167. -/
def crc16 (bs : List Byte) : Nat := bs.foldl (fun r b => crcRefStep 0x8408 8 (r ^^^ b.toNat)) 0

/-- CRC-32 of R167. -/
def crc32 (bs : List Byte) : Nat :=
  (bs.foldl (fun r b => crcRefStep 0xEDB88320 8 (r ^^^ b.toNat)) 0xFFFFFFFF) ^^^ 0xFFFFFFFF

/-- The payload CRC of a frame. -/
def payloadCrc (wide : Bool) (bs : List Byte) : Nat := if wide then crc32 bs else crc16 bs

/-! ### PHY header (R160) -/

/-- The PHY header word with its HCRC. -/
def phyHeader (sfIdx code len : Nat) (fec crc32 ct : Bool) : Nat :=
  let h := sfIdx % 16 + code % 8 * 16 + len % 256 * 128 + fec.toNat * 2 ^ 15 + crc32.toNat * 2 ^ 16 + ct.toNat * 2 ^ 17
  h + crc8 (leBytes 3 h) * 2 ^ 24

/-- Does a received header carry the right HCRC? -/
def headerCrcOk (h : Nat) : Bool := crc8 (leBytes 3 h) == h / 2 ^ 24 % 256

/-! ### Forward error correction and interleaving (R162 to R165) -/

/-- The `n` bits of a number, bit 0 first. -/
def bitsOf : Nat → Nat → List Bool
  | 0, _ => []
  | n + 1, v => (v % 2 == 1) :: bitsOf n (v / 2)

/-- One output of the convolutional encoder: the generator's bits from the most significant one on apply to the
current bit and the previous bits in order of age. -/
def parity : List Bool → List Bool → Bool
  | g :: gs, b :: bs => (g && b) != parity gs bs
  | _, _ => false

/-- Generators 0o171 and 0o133. -/
def gen171 : List Bool := [true, true, true, true, false, false, true]
def gen133 : List Bool := [true, false, true, true, false, true, true]

/-- Encode bits with the six memory bits `mem`, newest first. -/
def convolve : List Bool → List Bool → List Bool
  | _, [] => []
  | mem, b :: r => parity gen171 (b :: mem) :: parity gen133 (b :: mem) :: convolve ((b :: mem).take 6) r

/-- Interleave one block of 64 code bits. -/
def interleaveBlock (block : List Bool) : List Bool :=
  (List.range 64).map (fun p => block.getD (8 * (p % 8) + p / 8) false)

/-- Interleave `n` blocks. -/
def interleave : Nat → List Bool → List Bool
  | 0, _ => []
  | n + 1, bs => interleaveBlock (bs.take 64) ++ interleave n (bs.drop 64)

/-- The 64 header symbols: tail-biting coded and interleaved (R163). -/
def headerSymbols (h : Nat) : List Bool :=
  let hb := bitsOf 32 h
  interleaveBlock (convolve ((hb.drop 26).reverse) hb)

/-- Bits of a byte list, byte 0 and bit 0 first (R161). -/
def byteBits (bs : List Byte) : List Bool := bs.flatMap (fun b => bitsOf 8 b.toNat)

/-- Input bits of the data section (R164). -/
def nIn (len : Nat) (crc32 : Bool) : Nat := (8 * len + (if crc32 then 32 else 16) + 6 + 31) / 32 * 32
/-- Code bits of the data section (R164). -/
def nCode (len : Nat) (crc32 fec : Bool) : Nat := if fec then 2 * nIn len crc32 else 8 * len + (if crc32 then 32 else 16)

/-- The data section as sent, FEC set. -/
def dataSymbols (payload : List Byte) (c32 : Bool) : List Bool :=
  let crcB := bitsOf (if c32 then 32 else 16) (payloadCrc c32 payload)
  let d := byteBits payload ++ crcB
  let n := nIn payload.length c32
  let padded := d ++ List.replicate (n - d.length) false
  interleave (2 * n / 64) (convolve (List.replicate 6 false) padded)

/-- Differential encoding: the sign of each symbol, true for −1 (R161). -/
def differential : Bool → List Bool → List Bool
  | _, [] => []
  | d, b :: r => (d != b) :: differential (d != b) r

/-- The symbol signs of a whole frame: preamble, sync word, header, data (Table 5-3). -/
def frameSymbols (sfIdx code : Nat) (c32 ct : Bool) (payload : List Byte) : List Bool :=
  differential false (List.replicate 16 false ++ bitsOf 16 0xB5C3
    ++ headerSymbols (phyHeader sfIdx code payload.length true c32 ct) ++ dataSymbols payload c32)

/-! ### Durations (R168, R172) -/

/-- Chips in timestamp units, rounded up: 6 chips a tick (R155). -/
def chipsU (n : Nat) : Nat := (n * tickU + 5) / 6

/-- Duration of a Hegal frame in timestamp units (R168). -/
def frameU (sfIdx len : Nat) (c32 fec : Bool) : Nat := chipsU ((96 + nCode len c32 fec) * 2 ^ (sfIdx + 4))

/-- Duration of the preamble and the sync word at a spreading factor: T_acq of R133. -/
def acqU (sfIdx : Nat) : Nat := chipsU (32 * 2 ^ (sfIdx + 4))

/-- Duration of an IEEE 802.15.4 transmission of a PSDU of `len` bytes without FCS (R172). -/
def ieee154U (band len : Nat) : Nat := usU ((8 + len) * (if band = 0 then 80 else 32))

/-- Carrier of an IEEE 802.15.4 channel in kHz (R172): channel 0 at 868 MHz, 1 to 10 at 915 MHz. -/
def ieee154Khz (band ch : Nat) : Option Nat :=
  if band = 0 then (if ch = 0 then some 868300 else none)
  else if 1 ≤ ch ∧ ch ≤ 10 then some (906000 + 2000 * (ch - 1)) else none

/-! ### The native MAC frame (R116 to R120) -/

/-- FCTL fields. -/
def fctlType (f : Nat) : Nat := bits f 3 0
def fctlCt (f : Nat) : Nat := bits f 4 4
def fctlKeysel (f : Nat) : Nat := bits f 9 8
def fctlVersion (f : Nat) : Nat := bits f 11 10

/-- Address types (Table 4-4). -/
def addrType (a : Nat) : Nat := bits a 23 22
def isEndpoint (a : Nat) : Bool := addrType a == 0 && bits a 21 20 == 0
def isDevice (a : Nat) : Bool := addrType a == 1 && bits a 21 10 == 0
def isBroadcast (a : Nat) : Bool := a == 0xBFFFFF
def isUnjoined (a : Nat) : Bool := a == 0xC00000
def deviceAddr (d : Nat) : Nat := 0x400000 + d

/-- A decoded native frame. -/
structure MacFrame where
  fctl : Nat
  dst : Nat
  src : Nat
  fcnt : Nat
  ctime : Option Nat
  payload : List Byte
  mic : List Byte
  header : List Byte
  deriving DecidableEq, Repr

/-- Take a native frame apart; `none` when it is too short for its header and MIC. -/
def parseMac (bs : List Byte) : Option MacFrame :=
  if bs.length < 20 then none
  else
    let fctl := leNat (slice bs 0 2)
    let hl := if fctlCt fctl = 1 then 14 else 12
    if bs.length < hl + 8 then none
    else some {
      fctl := fctl
      dst := leNat (slice bs 2 3)
      src := leNat (slice bs 5 3)
      fcnt := leNat (slice bs 8 4)
      ctime := if fctlCt fctl = 1 then some (leNat (slice bs 12 2)) else none
      payload := slice bs hl (bs.length - hl - 8)
      mic := bs.drop (bs.length - 8)
      header := bs.take hl }

/-- The device id of the nonce: of the frame's device-type address, of SRC when both are (R120). -/
def nonceDevice (src dst : Nat) : Nat := if isDevice src then bits src 9 0 else if isDevice dst then bits dst 9 0 else 0

/-- The 13-byte CCM* nonce (R120). -/
def macNonce (fctl dst src fcnt : Nat) : List Byte :=
  leBytes 3 src ++ leBytes 3 dst ++ leBytes 4 fcnt ++ leBytes 2 (nonceDevice src dst) ++ leBytes 1 fctl

/-- Is the payload of a frame type sent in clear (R120)? -/
def clearPayload (ty : Nat) : Bool := ty == 1 || ty == 2

/-- Encrypt and authenticate a frame: header, payload and MIC under a key (R120). -/
def sealFrame (key : AesKey) (fctl dst src fcnt : Nat) (ctime : Option Nat) (payload : List Byte) : List Byte :=
  let hdr := leBytes 2 fctl ++ leBytes 3 dst ++ leBytes 3 src ++ leBytes 4 fcnt ++
    (match ctime with | some c => leBytes 2 c | none => [])
  let nonce := macNonce fctl dst src fcnt
  let body := if clearPayload (fctlType fctl) then payload else ccmCrypt key nonce payload
  hdr ++ body ++ ccmTag key 8 nonce hdr payload

/-- The frame with its payload decrypted and its MIC removed, as a receive buffer gets it (R203). -/
def openFrame (key : AesKey) (f : MacFrame) : List Byte :=
  f.header ++ (if clearPayload (fctlType f.fctl) then f.payload else ccmCrypt key (macNonce f.fctl f.dst f.src f.fcnt) f.payload)

/-- Does the MIC of a received frame verify under a key (R120, Table 4-12 step 5)? -/
def micOk (key : AesKey) (f : MacFrame) : Bool :=
  ccmTag key 8 (macNonce f.fctl f.dst f.src f.fcnt) f.header ((openFrame key f).drop f.header.length) == f.mic

/-- The address types that a frame may have: it passes between an endpoint, or an unjoined sender of a JOIN_REQUEST, and a
device, or between two devices; a broadcast is a device's (R117). -/
def addrPair (src dst : Nat) (join : Bool) : Bool :=
  (isDevice src && (isEndpoint dst || isDevice dst || isBroadcast dst)) ||
    ((isEndpoint src || (isUnjoined src && join)) && isDevice dst)

/-- The network address of an endpoint: the device id of the frame's device-type address, then the endpoint index of its
endpoint-type address (R117, R261). -/
def uplinkAddr (dst src : Nat) : Nat := nonceDevice src dst * 2 ^ 20 + bits (if isEndpoint src then src else dst) 19 0

/-- The header check of R119, without the destination clause: true when the frame's form is right. -/
def headerForm (f : MacFrame) : Bool :=
  fctlVersion f.fctl == 1 && bits f.fctl 7 7 == 0 && bits f.fctl 15 12 == 0 && fctlType f.fctl ≤ 0xA &&
  addrPair f.src f.dst (fctlType f.fctl == 4) &&
  !(isEndpoint f.src && (fctlKeysel f.fctl == 1 || fctlKeysel f.fctl == 2))

end Sys2Proof.Machine
end

