-- ==== Sys2Proof/Machine/Energy.lean ====
section
/-! DEFINITION. Bellows arithmetic: the cost table, the charges of Table 11-2, and the answer to admission
(R347 to R351, R355 to R358). -/

namespace Sys2Proof.Machine

/-- Ceiling division. -/
def ceilDiv (a b : Nat) : Nat := (a + (b - 1)) / b

/-- Power in units of 1/`den` mW over a span of timestamp units, in microjoules, rounded up (R347). -/
def energyU (pw den spanU : Nat) : Nat := ceilDiv (pw * spanU * 1000000) (den * 1000 * secondU)

/-- TX(P) in units of 1/40 mW (R348). -/
def txPower40 (s : State) (p : Nat) : Nat :=
  let k := p / 4
  let a := s.get (F.BLW_TXCOST_VALUE k)
  if 80 ≤ p then 4 * s.get (F.BLW_TXCOST_VALUE 20)
  else
    let b := s.get (F.BLW_TXCOST_VALUE (k + 1))
    (((4 * a : Nat) : Int) + ((b : Int) - a) * (p % 4 : Nat)).toNat

/-- Are the entries that TX(P) needs valid (R351)? -/
def txCostValid (s : State) (p : Nat) : Bool :=
  s.on (F.BLW_TXCOST_VALID (Nat.min (p / 4) 20)) && (p % 4 == 0 || 80 ≤ p || s.on (F.BLW_TXCOST_VALID (p / 4 + 1)))

/-- Energy of one transmission attempt of `us` charged microseconds at POWER `p` (Table 11-2). -/
def txEnergy (s : State) (p us : Nat) : Nat := ceilDiv (txPower40 s p * us) 40000

/-- Energy at the ceiling CEIL_MW over microseconds (R351). -/
def ceilEnergy (s : State) (us : Nat) : Nat := ceilDiv (s.blw.model.ceilMw * us) 1000

/-- Chains enabled (Table 11-2). -/
def chainsOn (s : State) : Nat := let c := s.get F.RFE_CFG_CHAIN_EN; c % 2 + c / 2

/-- Energy of a receive window with `lanesU` lane-time and an open span of `spanU` (Table 11-2, R349). -/
def rxEnergy (s : State) (laneTimeU spanU : Nat) : Nat :=
  ceilDiv ((s.get (F.BLW_COST_VALUE 0) * laneTimeU + chainsOn s * s.get (F.BLW_COST_VALUE 1) * spanU) * 1000000)
    (100 * 1000 * secondU)

/-- Pages that a program of `n` bytes at `addr` touches: 256 bytes each (R374). -/
def pagesOf (addr n : Nat) : Nat := if n = 0 then 0 else (addr + n - 1) / 256 - addr / 256 + 1

/-- Energy of one attempt of a flash operation (Table 11-2). -/
def flashEnergy (s : State) (f : FlashInfo) : Nat :=
  match f.op with
  | 1 => s.get (F.BLW_COST_VALUE 4) * pagesOf f.addr f.data.length
  | 2 => s.get (F.BLW_COST_VALUE 5)
  | _ => 2 * s.get (F.BLW_COST_VALUE 4)

/-- Steps of a flash operation, each charged ERASE at the ceiling (R351). -/
def flashSteps (f : FlashInfo) : Nat :=
  match f.op with | 1 => pagesOf f.addr f.data.length | 2 => 1 | _ => 2

/-- Energy of one attempt of a skein item (Table 11-2). -/
def skeinEnergy (s : State) (bcast : Bool) : Nat :=
  ceilDiv (s.get (F.BLW_COST_VALUE 3) * (if bcast then 3 else 1) * 262144 * 1000000) (100 * 1000 * secondU)

/-- The charges e1 and e2 of an item's kind, and whether every entry they need is valid (Table 11-2, R351). -/
def chargesOf (s : State) (spanU : Nat) (k : ItemKind) : Bool × Nat × Nat :=
  match k with
  | .tx i =>
      if txCostValid s i.power then (true, txEnergy s i.power i.first.charge.us, txEnergy s i.power i.second.charge.us)
      else (false, ceilEnergy s i.first.charge.us, ceilEnergy s i.second.charge.us)
  | .rx i =>
      if s.on (F.BLW_COST_VALID 0) && s.on (F.BLW_COST_VALID 1) then (true, rxEnergy s (i.expLanes * spanU) spanU, 0)
      else (false, ceilEnergy s (usCeil spanU), 0)
  | .flash f =>
      if s.on (F.BLW_COST_VALID (if f.op = 2 then 5 else 4)) then (true, flashEnergy s f, flashEnergy s f)
      else (false, flashSteps f * s.get (F.BLW_COST_VALUE 5), flashSteps f * s.get (F.BLW_COST_VALUE 5))
  | .skein i =>
      if s.on (F.BLW_COST_VALID 3) then (true, skeinEnergy s i.bcast, skeinEnergy s i.bcast)
      else (false, energyU s.blw.model.ceilMw 1 (262144 * (if i.bcast then 3 else 1)),
        energyU s.blw.model.ceilMw 1 (262144 * (if i.bcast then 3 else 1)))
  | .swap => (true, 0, 0)

/-- Length of a budget period in timestamp units (R355). -/
def periodU (s : State) : Nat := s.get F.BLW_CFG_PERIOD_MIN * 60 * secondU

/-- The budget period that holds an AON local instant: the current one or the next (R355, R356). -/
def periodOf (s : State) (loc : Nat) : Nat :=
  if loc < s.blw.periodStart + periodU s then s.blw.period else s.blw.period + 1

/-- Energy still reserved by the items of period `p`, in microjoules (R26, R100). -/
def reservedIn (s : State) (p : Nat) : Nat :=
  sumBy (fun i => if i.period == p && !i.decided then i.e1 + i.e2 else 0) s.items

/-- Every outstanding reservation (R357). -/
def reservedAll (s : State) : Nat := sumBy (fun i => if i.decided then 0 else i.e1 + i.e2) s.items

/-- Charges, background reserve, debit and budget of a period, as admission sees them. -/
def chargedIn (s : State) (p : Nat) : Nat :=
  reservedIn s p + (if p = s.blw.period then s.blw.settled else s.blw.settledNext)
def gIn (s : State) (p : Nat) : Nat := if p = s.blw.period then s.blw.reserveG else s.blw.nextG
/-- Background drawn in the current period: metered energy less the settled item charges (R355). -/
def background (s : State) : Nat := s.blw.metered - s.blw.settled
/-- The debit of the current period: what its recomputed budget lacked, and what the background draws above G (R356). -/
def debitNow (s : State) : Nat := s.blw.debit + (background s - s.blw.reserveG)
def debitIn (s : State) (p : Nat) : Nat := if p = s.blw.period then debitNow s else 0
def budgetIn (s : State) (p : Nat) : Nat := if p = s.blw.period then s.blw.budget else s.blw.nextBudget

/-- Available energy A of R357. -/
def available (s : State) : Int :=
  (s.blw.store : Int) - reservedAll s - ((s.blw.reserveG - background s : Nat) : Int)

/-- The code, if any, with which Bellows refuses the energy `e` in class `c` and period `p` (R357). -/
def bellowsTest (s : State) (c p e : Nat) : Option Nat :=
  if s.on F.BLW_CFG_MODE && decide (available s - e < ((s.blw.model.floors.getD c 0 * 1000 : Nat) : Int)) then
    some (if c = 0 then 0x0307 else 0x0302)
  else if 0 < c ∧ chargedIn s p + gIn s p + debitIn s p + e > budgetIn s p then some 0x0301
  else none

/-- Bellows' answer to an admission: `none` when it accepts (R357). -/
def bellows (s : State) (c p : Nat) (valid : Bool) (e1 e2 : Nat) : Option Nat :=
  if e1 = 0 ∧ e2 = 0 ∧ valid then none
  else if s.on F.BLW_STATUS_HOLD then some 0x0303
  else if s.on F.BLW_CFG_MODE && !s.on F.BLW_STATUS_MODEL_VALID then some 0x0304
  else if !valid && !s.on F.BLW_CFG_CEIL_EN then some 0x0305
  else match bellowsTest s c p e1 with
    | some code => some code
    | none => match bellowsTest s c p (e1 + e2) with
      | some _ => some 0x0306
      | none => none

/-- Count a Bellows refusal (BLW_CNT[k], k = code − 0x0301). -/
def countBellows (s : State) (code : Nat) : State :=
  if 0x0301 ≤ code ∧ code ≤ 0x0307 then s.count (F.BLW_CNT_COUNT (code - 0x0301)) else s

/-- The millijoule registers follow the accounts (R346). -/
def syncBellows (s : State) : State :=
  ((((s.put F.BLW_CHARGED_MJ (chargedIn s s.blw.period / 1000)).put F.BLW_BACKGROUND_MJ (background s / 1000)).put
    F.BLW_BUDGET_MJ (s.blw.budget / 1000)).put F.BLW_NEXT_BUDGET_MJ (s.blw.nextBudget / 1000)).put
    F.BLW_STORE_MJ (s.blw.store / 1000)

end Sys2Proof.Machine
end

