-- ==== Sys2Proof/Machine/FlashStore.lean ====
section
/-! DEFINITION. What flash holds: the array with its program rules, and the records that the device keeps in it: the
operation journal, the bad-block map, the counters, the ESM index, and the endpoint directory with its journal and its
compaction images (R254, R259, R260, R269, R366, R367, R381, R383, R386). -/

namespace Sys2Proof.Machine

/-! ### Contents and geometry (R366, R367, R389) -/

/-- Base of the field bank in the address space of this model's flash store. -/
def fieldBase : Nat := 0x04000000
def flashByte (s : State) (a : Nat) : Byte := Sparse.get (fun _ => (0xFF : Byte)) s.flc.mem a
def flashBytes (s : State) (a n : Nat) : List Byte := Sparse.getMany (fun _ => (0xFF : Byte)) s.flc.mem a n
def State.flashStore (s : State) (a : Nat) (bs : List Byte) : State :=
  { s with flc := { s.flc with mem := Sparse.setMany (fun _ => (0xFF : Byte)) s.flc.mem a bs } }
/-- Bank of an address: 0 to 3, and 4 for the field bank. -/
def bankOf (a : Nat) : Nat := if fieldBase ≤ a then 4 else a / 0x1000000
/-- Size of the erase unit at an address, and the unit's base. -/
def blockSize (a : Nat) : Nat := if fieldBase ≤ a then 2048 else 32768
def blockStart (a : Nat) : Nat := a / blockSize a * blockSize a
/-- Programs of an ECC word since its erase. -/
def slotsUsed (s : State) (w : Nat) : Nat := Sparse.get (fun _ => 0) s.flc.slots w
/-- Erase `n` bytes from `a`. -/
def State.eraseRange (s : State) (a n : Nat) : State :=
  { s with flc := { s.flc with
    mem := Sparse.clear s.flc.mem a (a + n)
    slots := Sparse.clear s.flc.slots (a / 32) ((a + n) / 32)
    ue := s.flc.ue.filter (fun w => decide (w < a) || decide (a + n ≤ w)) } }

/-- ECC words that a range touches, by index. -/
def wordsOf (a n : Nat) : List Nat := (List.range ((a + n + 31) / 32 - a / 32)).map (fun k => a / 32 + k)

/-- The part of a program that falls into one ECC word: address and data. -/
def wordPart (a : Nat) (data : List Byte) (w : Nat) : Nat × List Byte :=
  let lo := Nat.max a (w * 32)
  (lo, slice data (lo - a) (w * 32 + 32 - lo))

/-- Would the program of a word set a 0 bit to 1, or use a ninth slot (R367, R374)? -/
def wordConflict (s : State) (a : Nat) (data : List Byte) (w : Nat) : Bool :=
  let p := wordPart a data w
  let old := flashBytes s p.1 p.2.length
  let new := (old.zip p.2).map (fun x => if x.2 = 0xFF then x.1 else x.2)
  (old.zip new).any (fun x => x.1 &&& x.2 != x.2) || (new != old && decide (8 ≤ slotsUsed s w))

/-- Program one word. -/
def State.programWord (s : State) (a : Nat) (data : List Byte) (w : Nat) : State :=
  let p := wordPart a data w
  let old := flashBytes s p.1 p.2.length
  let new := (old.zip p.2).map (fun x => x.1 &&& x.2)
  if new = old then s
  else
    let slots := Sparse.set (fun _ => 0) s.flc.slots w (slotsUsed s w + 1)
    { s.flashStore p.1 new with flc := { (s.flashStore p.1 new).flc with slots := slots } }

/-- Program a range. -/
def State.program (s : State) (a : Nat) (data : List Byte) : State :=
  (wordsOf a data.length).foldl (fun x w => x.programWord a data w) s

/-- A range takes values that the spec leaves open (R380, Table 12-6). -/
def State.scramble (s : State) (a n : Nat) : State :=
  let (bs, s1) := s.freshBytes n
  s1.flashStore a bs

/-- A block copied to an erased spare: each of its words that is not erased has used one slot (R367). -/
def State.oneSlot (s : State) (a : Nat) : State :=
  let used := fun (w : Nat) => if (flashBytes s (w * 32) 32).all (fun b => b == 0xFF) then 0 else 1
  { s with flc := { s.flc with slots := (List.range 1024).foldl (fun m k =>
      Sparse.set (fun _ => 0) m (blockStart a / 32 + k) (used (blockStart a / 32 + k))) s.flc.slots } }

/-! ### Records -/

/-- Addresses of `[lo, hi)` that hold something else than the erased value. -/
def listedIn (s : State) (lo hi : Nat) : List Nat :=
  (s.flc.mem.filter (fun c => decide (lo ≤ c.1) && decide (c.1 < hi))).map (fun c => c.1)

/-- A rising list without its repeats. -/
def dedupRising : List Nat → List Nat
  | [] => []
  | a :: r => match dedupRising r with
    | [] => [a]
    | b :: q => if a = b then b :: q else a :: b :: q

/-- Numbers of the records of `size` bytes from `lo` that are not wholly erased. -/
def writtenRecords (s : State) (lo hi size : Nat) : List Nat := dedupRising ((listedIn s lo hi).map (fun a => (a - lo) / size))

/-- Does the little-endian word at byte `k` of a record hold the CRC-32 of the bytes before byte `n`? -/
def sealedAt (n k : Nat) (bs : List Byte) : Bool := leNat (slice bs k 4) == crc32 (bs.take n)

/-- A little-endian number in bytes [lo, hi) of a record. -/
def field (bs : List Byte) (lo hi : Nat) : Nat := leNat (slice bs lo (hi - lo))

/-- Valid records with their numbers. -/
def validRecords (s : State) (lo hi size : Nat) (ok : List Byte → Bool) : List (Nat × List Byte) :=
  ((writtenRecords s lo hi size).map (fun k => (k, flashBytes s (lo + k * size) size))).filter (fun r => ok r.2)

/-- The record with the highest number in bytes [lo, hi). -/
def newestBy (lo hi : Nat) (l : List (Nat × List Byte)) : Option (Nat × List Byte) :=
  l.foldl (fun m r => match m with
    | none => some r
    | some q => if field q.2 lo hi < field r.2 lo hi then some r else some q) none

/-- The number after the last written record, 0 when none is written. -/
def nextFree (s : State) (lo hi size : Nat) : Nat := match (writtenRecords s lo hi size).getLast? with | some k => k + 1 | none => 0

/-! ### The operation journal (R381) -/

def opJournalBase : Nat := 0x00340000
/-- Record `k` of the journal. -/
def opJournalAt (k : Nat) : Nat := opJournalBase + k * 16

/-- A journal record: address, kind, source, length and sequence number (Table 12-5). -/
def opRecord (a kind source len seq : Nat) : List Byte :=
  let head := leBytes 4 (a % 2 ^ 26 + kind % 4 * 2 ^ 26 + source % 4 * 2 ^ 28 + 3 * 2 ^ 30) ++ leBytes 2 len ++ leBytes 2 seq
  head ++ leBytes 4 (crc32 head)

/-- Write the journal record of an operation before its first pulse; a new block is entered with the next one erased. -/
def State.openRecord (s : State) (a kind source len : Nat) : State :=
  let k := s.flc.journalNext
  let s1 := s.program (opJournalAt k) (opRecord a kind source len s.flc.journalSeq)
  let s2 := if k % 2048 = 0 then s1.eraseRange (opJournalAt ((k / 2048 + 1) % 6 * 2048)) 32768 else s1
  { s2 with flc := { s2.flc with journalNext := (k + 1) % 12288, journalSeq := s.flc.journalSeq + 1 } }

/-- Mark a journal record done. -/
def State.closeRecord (s : State) (k : Nat) : State := s.program (opJournalAt k + 12) [0, 0, 0, 0]

/-- The valid records that are not marked done (Table 12-6). -/
def openRecords (s : State) : List (Nat × List Byte) :=
  (validRecords s opJournalBase 0x00370000 16 (sealedAt 8 8)).filter (fun r => field r.2 12 16 == 0xFFFFFFFF)

/-! ### The bad-block map (R383) -/

def mapCopyBase (copy : Nat) : Nat := 0x00370000 + copy * 0x8000
def mapRecords (s : State) (copy : Nat) : List (Nat × List Byte) :=
  validRecords s (mapCopyBase copy) (mapCopyBase copy + 0x8000) 16 (sealedAt 8 8)

/-- An entry for a logical block, numbered through the banks. -/
def mapRecord (block physical seq : Nat) (weak : Bool) : List Byte :=
  let head := leBytes 2 (block % 512 + block / 512 % 4 * 512 + 0xF800) ++ leBytes 2 (physical % 512 + weak.toNat * 512 + 0xFC00) ++ leBytes 4 seq
  head ++ leBytes 4 (crc32 head)

/-- The entry that governs a logical block: the valid one with the highest sequence number in either copy. -/
def mapEntry (s : State) (block : Nat) : Option (List Byte) :=
  (newestBy 4 8 ((mapRecords s 0 ++ mapRecords s 1).filter (fun r => field r.2 0 2 % 2048 == block))).map (fun r => r.2)

/-- Physical block of the block at an address; is the block weak? -/
def physicalBlock (s : State) (a : Nat) : Nat :=
  match mapEntry s (a / 32768) with | some e => field e 2 4 % 512 | none => a / 32768 % 512
def isWeak (s : State) (block : Nat) : Bool := match mapEntry s block with | some e => field e 2 4 / 512 % 2 == 1 | none => false

/-- Write one copy of the whole map. -/
def State.rewriteMap (s : State) (copy : Nat) (entries : List (List Byte)) : State :=
  (entries.zip (List.range entries.length)).foldl (fun x r => x.program (mapCopyBase copy + r.2 * 16) r.1)
    (s.eraseRange (mapCopyBase copy) 0x8000)

/-- The governing entries of all blocks that have one. -/
def fullMap (s : State) : List (List Byte) :=
  let blocks := (mapRecords s 0 ++ mapRecords s 1).map (fun r => field r.2 0 2 % 2048)
  (dedupRising (blocks.foldl (fun m a => insertBy (fun x y => decide (x < y)) a m) [])).filterMap (mapEntry s)

/-- Append an entry to a copy. -/
def State.mapPut (s : State) (copy : Nat) (e : List Byte) : State :=
  s.program (mapCopyBase copy + nextFree s (mapCopyBase copy) (mapCopyBase (copy + 1)) 16 * 16) (e.take 12)

/-- Record a block in copy A and then in copy B; when a copy is full, copy B is rewritten first, then copy A. -/
def State.mapWrite (s : State) (block physical : Nat) (weak : Bool) : State :=
  let seq := match newestBy 4 8 (mapRecords s 0 ++ mapRecords s 1) with | some r => field r.2 4 8 + 1 | none => 1
  let r := mapRecord block physical seq weak
  let s1 := if nextFree s (mapCopyBase 0) (mapCopyBase 1) 16 < 2048 ∧ nextFree s (mapCopyBase 1) (mapCopyBase 2) 16 < 2048 then s
    else (s.rewriteMap 1 (fullMap s)).rewriteMap 0 (fullMap s)
  (s1.mapPut 0 r).mapPut 1 r

/-- At an enable each copy of the map gets the governing entries that it lacks (Table 12-7). -/
def State.repairMap (s : State) : State :=
  (fullMap s).foldl (fun x e => [0, 1].foldl (fun y c => if (mapRecords y c).any (fun r => r.2 == e) then y else y.mapPut c e) x) s

/-! ### Monotonic counters (R386, R388) -/

def counterCopy (copy : Nat) : Nat := 0x00300000 + copy * 0x20000
def counterRecords (s : State) (copy : Nat) : List (Nat × List Byte) :=
  validRecords s (counterCopy copy) (counterCopy (copy + 1)) 32 (sealedAt 12 12)

/-- The value that a copy gives a counter: the highest of its valid records. -/
def copyValue (s : State) (copy n : Nat) : Nat :=
  (counterRecords s copy).foldl (fun m r => if field r.2 0 1 = n then Nat.max m (field r.2 4 8) else m) 0

/-- A counter's value: the higher of its two copies. -/
def counterValue (s : State) (n : Nat) : Nat := Nat.max (copyValue s 0 n) (copyValue s 1 n)

/-- A record of a counter: type 0 an increment, 1 a snapshot. -/
def counterRecord (n type v seq : Nat) : List Byte :=
  let head := leBytes 1 n ++ leBytes 1 type ++ [0xFF, 0xFF] ++ leBytes 4 v ++ leBytes 4 seq
  head ++ leBytes 4 (crc32 head)

/-- The place of the next record of a copy, and its sequence number. -/
def counterNext (s : State) (copy : Nat) : Nat × Nat :=
  match newestBy 8 12 (counterRecords s copy) with | some r => ((r.1 + 1) % 4096, field r.2 8 12 + 1) | none => (0, 1)

/-- Append a record to a copy. -/
def State.counterPut (s : State) (copy n type v : Nat) : State :=
  let q := counterNext s copy
  s.program (counterCopy copy + q.1 * 32) (counterRecord n type v q.2)

/-- Program counter `n`'s value `v` into a copy.  A record that would open a block is preceded by a snapshot of all the
counters, and the next block, the oldest, is erased. -/
def State.counterWrite (s : State) (copy n v : Nat) : State :=
  let q := counterNext s copy
  if q.1 % 1024 = 0 ∧ q.2 ≠ 1 then
    let s1 := (List.range 32).foldl (fun x k => x.counterPut copy k 1 (copyValue s copy k)) s
    (s1.eraseRange (counterCopy copy + (q.1 / 1024 + 1) % 4 * 0x8000) 0x8000).counterPut copy n 0 v
  else s.counterPut copy n 0 v

/-- A counter takes a value in both copies, and FLC_CTR shows it. -/
def State.setCounter (s : State) (n v : Nat) : State :=
  ((s.counterWrite 0 n v).counterWrite 1 n v).put (F.FLC_CTR_VALUE n) v

/-- At an enable the lagging copy of each counter is programmed to match the other, and FLC_CTR shows the values (R388). -/
def State.repairCounters (s : State) : State :=
  (List.range 32).foldl (fun x n =>
    let v := counterValue s n
    let y := [0, 1].foldl (fun y c => if copyValue y c n < v then y.counterWrite c n v else y) x
    y.put (F.FLC_CTR_VALUE n) v) s

/-! ### The ESM index (R269) -/

def indexBase : Nat := 0x00380000
def indexRecords (s : State) : List (Nat × List Byte) := validRecords s indexBase 0x00400000 32 (sealedAt 28 28)

/-- The valid index record with the highest sequence number: its number and bytes. -/
def newestIndex (s : State) : Option (Nat × List Byte) := newestBy 0 4 (indexRecords s)

/-- Its type: 1 segment, 2 close, 3 open; 0 when there is none.  Its sequence number, and its log slot. -/
def newestType (s : State) : Nat := match newestIndex s with | some r => field r.2 4 5 | none => 0
def newestSeq (s : State) : Nat := match newestIndex s with | some r => field r.2 0 4 | none => 0
def newestSlot (s : State) : Nat := match newestIndex s with | some r => field r.2 6 7 | none => 55

/-- Append an index record; a block is erased when the ring enters it. -/
def State.indexWrite (s : State) (type bank slot time : Nat) : State :=
  let k := match newestIndex s with | some r => (r.1 + 1) % 16384 | none => 0
  let head := leBytes 4 (newestSeq s + 1) ++ leBytes 1 type ++ leBytes 1 bank ++ leBytes 1 slot ++ [0xFF] ++ leBytes 8 time ++
    List.replicate 12 0xFF
  let s1 := if k % 1024 = 0 then s.eraseRange (indexBase + k * 32) 32768 else s
  (s1.program (indexBase + k * 32) (head ++ leBytes 4 (crc32 head))).put F.ESM_CKPT_SEQ_SEQ (newestSeq s + 1)

/-- Base address of a log slot (R268). -/
def slotBase (k : Nat) : Nat := 0x02800000 + k * 0x00020000

/-- The log slot of a bank's valid segment (R269). -/
def validSegment (s : State) (bank : Nat) : Option Nat :=
  (newestBy 0 4 ((indexRecords s).filter (fun r => field r.2 4 5 == 1 && field r.2 5 6 == bank))).map (fun r => field r.2 6 7)

/-- HWM of an entry in the valid segment of its bank, 0 when the bank has none. -/
def segmentHwm (s : State) (n : Nat) : Nat :=
  match validSegment s (n / 32768) with | some k => leNat (flashBytes s (slotBase k + n % 32768 * 4) 4) | none => 0

/-! ### The directory, its journal and its compaction (R254, R259, R260) -/

def dirBase : Nat := 0x03000000
def dirJournalBase : Nat := 0x03C00000
/-- The image area, the last two blocks of the journal: an image, and the markers (notes/assumptions/53.md). -/
def imageBase : Nat := 0x03EF0000
def markerBase : Nat := 0x03EF8000
def dirJournalEntries : Nat := 94 * 2048

/-- The journal's entries in order, from entry `k` until one with a bad CRC. -/
def journalFrom (s : State) (k : Nat) : Nat → List (List Byte)
  | 0 => []
  | n + 1 =>
      let e := flashBytes s (dirJournalBase + k * 16) 16
      if sealedAt 12 12 e then e :: journalFrom s (k + 1) n else []
def dirJournal (s : State) : List (List Byte) :=
  journalFrom s 0 (writtenRecords s dirJournalBase imageBase 16).length

/-- The markers of the compaction in progress: block, sequence number, CRC-32 of the image, and whether it is applied.
DESIGN CHOICE: their place and layout (notes/assumptions/53.md). -/
def markers (s : State) : List (List Byte) :=
  (writtenRecords s markerBase 0x03F00000 16).map (fun k => flashBytes s (markerBase + k * 16) 16)
def markerApplied (m : List Byte) : Bool := field m 12 16 == 0

/-- The block whose valid image has no applied marker (Table 8-5). -/
def imageOpen (s : State) : Option Nat :=
  match (markers s).getLast? with
  | some m => if !markerApplied m && field m 8 12 == crc32 (flashBytes s imageBase 32768) then some (field m 0 4) else none
  | none => none

/-- Is journal entry `e` applied in the block at offset `b` of the directory: has the block's image taken it in? -/
def appliedIn (s : State) (b : Nat) (e : List Byte) : Bool :=
  (markers s).any (fun m => markerApplied m && field m 0 4 == b && decide (field e 8 12 ≤ field m 4 8))

/-- A byte of the directory area: of the image while its block is rewritten. -/
def dirByte (s : State) (a : Nat) : Byte :=
  if imageOpen s = some ((a - dirBase) / 32768) then flashByte s (imageBase + a % 32768) else flashByte s a

/-- A record's byte `k` after a journal entry that changes JOIN_DAY and the last two bytes. -/
def journalByte (s : State) (i k : Nat) (old : Byte) (e : List Byte) : Byte :=
  if field e 0 4 % 2 ^ 20 ≠ i ∨ appliedIn s ((i * 12 + k) / 32768) e then old
  else if k = 8 ∨ k = 9 then e.getD (k - 2) old
  else if k = 10 ∨ k = 11 then e.getD (k - 6) old
  else old

/-- The current record of index `i`: the programmed bytes with the journal's entries applied in order (R259). -/
def dirBytes (s : State) (i : Nat) : List Byte :=
  (List.range 12).map (fun k => (dirJournal s).foldl (journalByte s i k) (dirByte s (dirBase + i * 12 + k)))

/-- Read the fields of a record (Table 8-3), and their bytes. -/
def dirRecOf (bs : List Byte) : DirRec :=
  let w := field bs 10 12
  ⟨field bs 0 8, field bs 8 10, bits w 3 0, bits w 6 4, bits w 7 7 == 1, bits w 15 8⟩
def dirTail (r : DirRec) : List Byte := leBytes 2 (r.gen % 16 + r.dstate % 8 * 16 + r.confirm.toNat * 128 + r.rsv % 256 * 256)
def dirRecBytes (r : DirRec) : List Byte := leBytes 8 r.eui ++ leBytes 2 r.joinDay ++ dirTail r

def State.dirRec (s : State) (i : Nat) : DirRec := dirRecOf (dirBytes s i)

/-- A damaged record: DSTATE 7 with another bit 0 (R254). -/
def isDamaged (r : DirRec) : Bool := r.dstate == 7 && r != DirRec.free

/-- Indexes whose record may be other than free. -/
def dirIndexes (s : State) : List Nat :=
  let l := (listedIn s dirBase dirJournalBase).map (fun a => (a - dirBase) / 12) ++ (dirJournal s).map (fun e => field e 0 4 % 2 ^ 20) ++
    (match imageOpen s with
      | some b => (listedIn s imageBase markerBase).map (fun a => (b * 32768 + (a - imageBase)) / 12)
      | none => [])
  dedupRising (l.foldl (fun m a => insertBy (fun x y => decide (x < y)) a m) [])

/-- Append a journal entry with the record's new last bytes and JOIN_DAY (R259). -/
def State.setDirRec (s : State) (i : Nat) (r : DirRec) : State :=
  let k := (dirJournal s).length
  if dirJournalEntries ≤ k then s
  else
    let head := leBytes 4 (i % 2 ^ 20 + 0xFFF00000) ++ dirTail r ++ leBytes 2 r.joinDay ++ leBytes 4 s.esm.journalSeq
    let s1 := s.program (dirJournalBase + k * 16) (head ++ leBytes 4 (crc32 head))
    { s1 with esm := { s1.esm with journalSeq := s.esm.journalSeq + 1 } }

/-- Program a new record into its free slot: bytes 0 to 9 first, then bytes 10 and 11 (R259). -/
def State.newDirRec (s : State) (i : Nat) (r : DirRec) : State :=
  (s.program (dirBase + i * 12) (leBytes 8 r.eui ++ leBytes 2 r.joinDay)).program (dirBase + i * 12 + 10) (dirTail r)

/-! ### Distribution snapshots (R410, R412) -/

def snapLog : Nat := 0x018F0000
/-- A half of a slot's completion snapshots: four blocks of the distribution store. -/
def snapHalf (d half : Nat) : Nat := 0x02000000 + (2 + 8 * d + 4 * half) * 0x8000
def snapRecords (s : State) : List (Nat × List Byte) := validRecords s snapLog (snapLog + 0x10000) 32 (sealedAt 28 28)

/-- The newest record of a slot. -/
def newestSnap (s : State) (d : Nat) : Option (List Byte) :=
  (newestBy 4 8 ((snapRecords s).filter (fun r => field r.2 0 1 == d))).map (fun r => r.2)

/-- The half of the valid snapshot of a slot: that of the newest record whose half's CRC-32 matches (R410). -/
def validSnap (s : State) (d : Nat) : Option Nat :=
  (newestBy 4 8 ((snapRecords s).filter (fun r => field r.2 0 1 == d && decide (field r.2 1 2 ≤ 1) &&
    field r.2 16 20 == crc32 (flashBytes s (snapHalf d (field r.2 1 2)) 0x20000)))).map (fun r => field r.2 1 2)

/-- The endpoint indexes marked in the valid snapshot of a slot. -/
def snapDone (s : State) (d : Nat) : List Nat :=
  match validSnap s d with
  | none => []
  | some h => (List.range 0x20000).flatMap (fun k =>
      let b := flashByte s (snapHalf d h + k)
      ((List.range 8).filter (fun j => b.toNat.testBit j)).map (fun j => 8 * k + j))

end Sys2Proof.Machine
end

