-- ==== Sys2Proof/Machine/Assign.lean ====
section
/-! DEFINITION. Bins, scanner seats and lanes: which windows own what, who holds a seat, the assignment of detections to
lanes, and the release of lanes (R189, R192 to R201, R207, R213). -/

namespace Sys2Proof.Machine

/-! ### Parts of an item -/

/-- Change the transmission part, or the window part, of an item. -/
def Item.mapTx (f : TxInfo → TxInfo) (i : Item) : Item := match i.kind with | .tx x => { i with kind := .tx (f x) } | _ => i
def Item.mapRx (f : RxInfo → RxInfo) (i : Item) : Item := match i.kind with | .rx x => { i with kind := .rx (f x) } | _ => i
def Item.mapFlash (f : FlashInfo → FlashInfo) (i : Item) : Item :=
  match i.kind with | .flash x => { i with kind := .flash (f x) } | _ => i
def Item.mapSkein (f : SkeinInfo → SkeinInfo) (i : Item) : Item :=
  match i.kind with | .skein x => { i with kind := .skein (f x) } | _ => i

/-! ### Windows and bins -/

/-- The usable bins (R187). -/
def binUsable (b : Int) : Bool := decide (-100 ≤ b) && decide (b ≤ 99)

/-- Is a bin set inside chain 0's narrowband span (R189, R219)? -/
def inNarrowband (s : State) (first : Int) (count : Nat) : Bool :=
  let lo := binOf (s.get F.RFE_NB_FIRST)
  !s.relay || (decide (lo ≤ first) && decide (first + count ≤ lo + s.get F.RFE_NB_COUNT))

/-- Is bin `b` in the bin set of a window? -/
def rxCovers (x : RxInfo) (b : Int) : Bool := decide (x.binFirst ≤ b) && decide (b < x.binFirst + x.binCount)

/-- Is a window open now? -/
def isOpen (i : Item) : Bool := i.started && !i.decided && (match i.kind with | .rx x => !x.closed | _ => false)

/-- Does an open window cover a bin that delivers samples (R189, R193)? -/
def covered (s : State) (b : Int) : Bool :=
  inNarrowband s b 1 && s.items.any (fun i => isOpen i && (match i.kind with | .rx x => rxCovers x b | _ => false))

/-- Does a window own a frame in bin `b` with its first chip at `start`?  A span includes its opening and excludes its
close (R201). -/
def owns (b : Int) (start : Nat) (i : Item) : Bool :=
  i.started && !i.decided && (match i.kind with
    | .rx x => rxCovers x b && decide (i.startTime ≤ start) && decide (start < x.closeAt)
    | _ => false)

/-- The owner of a frame: of several windows, the one accepted first (R201). -/
def ownerOf (s : State) (b : Int) (start : Nat) : Option Nat :=
  ((s.items.filter (owns b start)).foldl (fun m i => match m with
    | none => some i
    | some (j : Item) => if i.seq < j.seq then some i else some j) none).map Item.idx

/-- Is bin `b`'s bit set in a bin map that starts at a register field (PHY_ALWAYS, MUR_CSET)? -/
def binBit (s : State) (f : Nat → Fld) (b : Int) : Bool :=
  if binUsable b then let k := (b + 100).toNat; bits (s.get (f (k / 32))) (k % 32) (k % 32) == 1 else false

/-- Is a bin always scanned (PHY_ALWAYS)? -/
def always (s : State) (b : Int) : Bool := binBit s F.PHY_ALWAYS_BINS b

/-! ### Scanner seats (R192 to R194) -/

/-- Seats present: 8 for each scanner (R192). -/
def seatCount (s : State) : Nat := 8 * s.get F.MUR_CAP_SCANNERS

def State.binState (s : State) (b : Int) : Option BinState := s.mur.bins.find? (fun x => x.bin == b)
def State.setBin (s : State) (x : BinState) : State :=
  let l := s.mur.bins
  let l' := if l.any (fun y => y.bin == x.bin) then l.map (fun y => if y.bin == x.bin then x else y) else l ++ [x]
  { s with mur := { s.mur with bins := l' } }

/-- Is a bin flagged now, by a crossing that still holds or as an always-scan bin (R174)?  Does it hold a seat? -/
def flagged (s : State) (b : Int) : Bool := always s b || (s.binState b).any (fun x => decide (0 < x.hold))
def seatOf (s : State) (b : Int) : Option Nat := (s.binState b).bind BinState.seat

/-- Give bin `b` a seat, or take it away. -/
def State.putSeat (s : State) (b : Int) (seat : Option Nat) : State :=
  match s.binState b with
  | some x => s.setBin { x with seat := seat }
  | none => if seat.isSome then s.setBin ⟨b, 0, 0, 0, 0, seat⟩ else s

/-- The lowest free seat among `n` from `k`. -/
def freeSeat (s : State) (k : Nat) : Nat → Option Nat
  | 0 => none
  | n + 1 => if s.mur.bins.any (fun x => x.seat == some k) then freeSeat s (k + 1) n else some k

/-- Record a scanner overload of a bin: MUR_CNT[4], OVERLOAD, and every window that covers it (R194). -/
def State.overload (s : State) (b : Int) : State :=
  let s1 := { s with items := s.items.map (fun i => if isOpen i then
    i.mapRx (fun x => if rxCovers x b then { x with overload := true } else x) else i) }
  (s1.count (F.MUR_CNT_COUNT 4)).irq Blk.MUR 2

/-- Length of an energy window in timestamp units (R174). -/
def energyWindowU (s : State) : Nat := chipsU (2 ^ s.get F.PHY_DET_ED_WIN_LOG2)

/-- The bins at the head of the queue take the free seats; a late one is an overload (R194). -/
def State.serveQueue (s : State) : List Int → State
  | [] => { s with mur := { s.mur with seatQueue := [] } }
  | b :: r => match freeSeat s 0 (seatCount s) with
    | none => { s with mur := { s.mur with seatQueue := b :: r } }
    | some k =>
        let late := match s.binState b with | some x => decide (x.flaggedAt + energyWindowU s < s.now) | none => false
        State.serveQueue (if late then (s.putSeat b (some k)).overload b else s.putSeat b (some k)) r

/-- An always-scan bin that becomes covered takes a free seat, or the seat of the flagged bin whose flag was raised most
recently, which goes to the head of the queue (R193). -/
def State.seatAlways (s : State) (b : Int) : State :=
  if !(covered s b && always s b) || (seatOf s b).isSome then s
  else match freeSeat s 0 (seatCount s) with
    | some k => s.putSeat b (some k)
    | none =>
        let cand := s.mur.bins.filter (fun x => x.seat.isSome && !always s x.bin)
        match cand.foldl (fun m x => match m with
            | none => some x
            | some (y : BinState) => if y.flaggedAt < x.flaggedAt then some x else some y) none with
        | none => s
        | some v =>
            let s1 := (s.putSeat v.bin none).putSeat b v.seat
            { s1 with mur := { s1.mur with seatQueue := v.bin :: s1.mur.seatQueue } }

/-- A flagged covered bin takes a free seat, or joins the queue (R193, R194). -/
def State.seatFlagged (s : State) (b : Int) : State :=
  if !(covered s b && flagged s b) || always s b || (seatOf s b).isSome || s.mur.seatQueue.contains b then s
  else match freeSeat s 0 (seatCount s) with
    | some k => s.putSeat b (some k)
    | none => { s with mur := { s.mur with seatQueue := s.mur.seatQueue ++ [b] } }

/-- A seat is given up when no open window covers its bin, or its flag has cleared (R193). -/
def State.dropSeats (s : State) : State :=
  { s with mur := { s.mur with bins := s.mur.bins.map (fun x =>
      if covered s x.bin && (always s x.bin || decide (0 < x.hold)) then x else { x with seat := none }) } }

/-- A bin whose flag clears in the queue leaves it and is counted as an overload; one that no window covers any more
leaves it (R194). -/
def State.dropQueue (s : State) : State :=
  let gone := s.mur.seatQueue.filter (fun b => covered s b && !flagged s b)
  let kept := s.mur.seatQueue.filter (fun b => covered s b && flagged s b)
  gone.foldl State.overload { s with mur := { s.mur with seatQueue := kept } }

/-- The usable bins in ascending order. -/
def usableBins : List Int := (List.range 200).map (fun (k : Nat) => (k : Int) - 100)

/-- Bring seats, queue and MUR_SEATS up to date (R193, R194). -/
def State.seats (s : State) : State :=
  let s1 := s.dropSeats.dropQueue
  let s2 := s1.serveQueue s1.mur.seatQueue
  let s3 := usableBins.foldl State.seatAlways s2
  let s4 := usableBins.foldl State.seatFlagged s3
  (s4.put F.MUR_SEATS_USED (s4.mur.bins.filter (fun x => x.seat.isSome)).length).put F.MUR_SEATS_QUEUED s4.mur.seatQueue.length

/-! ### Lanes (R195, R199) -/

/-- STATE of a lane (Table 6-8), and what a lane keeps beside its registers. -/
def laneState (s : State) (n : Nat) : Nat := s.get (F.MUR_LANE_STATE_STATE n)
def State.laneX (s : State) (n : Nat) : LaneX := s.mur.lanes.getD n LaneX.reset
def State.setLaneX (s : State) (n : Nat) (x : LaneX) : State :=
  { s with mur := { s.mur with lanes := modAt (fun _ => x) s.mur.lanes n } }

/-- Has the frame of a lane ended in this DSP cycle, so that the lane is released in the next (R199)? -/
def laneEnded (s : State) (n : Nat) : Bool := s.mur.freed.contains n

/-- Lanes from `n` upward, `k` of them, that satisfy `p`. -/
def lanesWhere (p : Nat → Bool) (n k : Nat) : List Nat := ((List.range k).map (fun i => n + i)).filter p

/-- Bring MUR_LOAD up to date. -/
def State.syncLoad (s : State) : State :=
  ((s.put F.MUR_LOAD_LIVE (lanesWhere (fun n => laneState s n == 2 || laneState s n == 3) 0 64).length).put
    F.MUR_LOAD_RESIDUE (lanesWhere (fun n => laneState s n == 4) 0 64).length).put F.MUR_LOAD_SIC_QUEUE s.mur.jobs.length

/-- Is a lane present (R195)? -/
def lanePresent (s : State) (n : Nat) : Bool :=
  let narrow := if s.relay then s.get F.MUR_CAP_LANES - s.get (F.MUR_WIDE_EN 0) else 60
  decide (n < narrow) || (decide (60 ≤ n) && decide (n < 60 + s.get F.MUR_CAP_WIDE) && s.on (F.MUR_WIDE_EN (n - 60)))

/-- A lane holds nothing any more: it is free, or absent. -/
def State.clearLane (s : State) (n : Nat) : State :=
  ((((s.setLaneX n LaneX.reset).wr (Reg.MUR_LANE_STATE n) (if lanePresent s n then 1 else 0)).wr (Reg.MUR_LANE_TRIPLE n) 0).wr (Reg.MUR_LANE_METRIC n) 0).wr64
    (Reg.MUR_LANE_START n) 0

/-- Change what a window counts. -/
def State.onWindow (s : State) (w : Option Nat) (f : RxInfo → RxInfo) : State :=
  match w with
  | some idx => s.setItem idx (fun i => i.mapRx f)
  | none => s

/-- Charge the time for which a lane has held its frame to the window that owns it (R349). -/
def State.chargeLane (s : State) (n : Nat) : State :=
  s.onWindow (s.laneX n).window (fun w => { w with laneTime := w.laneTime + (s.now - (s.laneX n).assignedAt) })

/-- Release a lane at once (R198, R207). -/
def State.releaseLane (s : State) (n : Nat) : State := ((s.chargeLane n).clearLane n).syncLoad

/-- The frame of a lane ends; the lane is released in the next DSP cycle (R199). -/
def State.endLane (s : State) (n : Nat) : State :=
  let s1 := (s.chargeLane n).setLaneX n { s.laneX n with window := none }
  { s1 with mur := { s1.mur with freed := s1.mur.freed ++ [n] } }

/-! ### Assignment (R197 to R199) -/

/-- A lane that holds a Hegal detection or frame. -/
def laneHolds (s : State) (n : Nat) : Bool := let k := laneState s n; k == 2 || k == 3 || k == 4

/-- The detection that a lane holds. -/
def laneDet (s : State) (n : Nat) : Detection :=
  ⟨binOf (s.get (F.MUR_LANE_TRIPLE_BIN n)), s.get (F.MUR_LANE_TRIPLE_SF_IDX n), s.get (F.MUR_LANE_TRIPLE_CODE n),
    s.rd64 (Reg.MUR_LANE_START n), s.get (F.MUR_LANE_METRIC_CFO n), s.get (F.MUR_LANE_METRIC_Q n)⟩

/-- Wide lane 60 + w in mode 0 or 1 (R195, R196). -/
def wideMode (s : State) (w m : Nat) : Bool := s.on (F.MUR_WIDE_EN w) && s.get (F.MUR_WIDE_MODE w) == m

/-- The lowest free narrow lane, else the lowest free wide lane in mode 0 (R197). -/
def freeLane (s : State) : Option Nat :=
  match lanesWhere (fun n => laneState s n == 1) 0 60 with
  | n :: _ => some n
  | [] => (lanesWhere (fun n => laneState s n == 1 && wideMode s (n - 60) 0) 60 4).head?

/-- Age limit of the cancellation buffer: 65 ms (R210, R213). -/
def tooOld (s : State) (d : Detection) : Bool := decide (d.start + msU 65 < s.net)

/-- Give a detection to a lane. -/
def State.giveLane (s : State) (n : Nat) (d : Detection) (w : Option Nat) (residue : Bool) (level : Nat) : State :=
  let s1 := s.setLaneX n ⟨w, residue, s.now, false, none⟩
  let s2 := ((s1.wr (Reg.MUR_LANE_STATE n) (word ((if residue then 4 else 2) + level % 8 * 16))).wr (Reg.MUR_LANE_TRIPLE n)
    (word (unsigned 8 d.bin + d.sf % 16 * 256 + d.code % 8 * 4096))).wr (Reg.MUR_LANE_METRIC n) (word (d.q % 256 + d.cfo % 65536 * 65536))
  let s3 := s2.wr64 (Reg.MUR_LANE_START n) d.start
  (if residue then s3 else s3.count (F.MUR_CNT_COUNT 0)).syncLoad

/-- Two chips in timestamp units. -/
def twoChipsU : Nat := 21845

/-- Same triple and within two chips? -/
def sameFrame (a b : Detection) : Bool :=
  a.bin == b.bin && a.sf == b.sf && a.code == b.code && decide (a.start < b.start + twoChipsU + 1) && decide (b.start < a.start + twoChipsU + 1)

/-- The lane in sync search with the lowest Q that a live detection may preempt (R197, R198). -/
def preemptLane (s : State) (d : Detection) : Option Nat :=
  let cand := lanesWhere (fun n => laneState s n == 2 && !laneEnded s n) 0 64
  match cand.foldl (fun m n => match m with
      | none => some n
      | some k => if s.get (F.MUR_LANE_METRIC_Q n) < s.get (F.MUR_LANE_METRIC_Q k) then some n else some k) none with
  | some n => if s.get (F.MUR_LANE_METRIC_Q n) + 2 * s.get F.MUR_CFG_PREEMPT_MARGIN ≤ d.q then some n else none
  | none => none

/-- Does one detection go before another: higher Q, then the lower bin, then the lower code (R199)? -/
def goesBefore (a b : Detection) : Bool :=
  decide (b.q < a.q) || (b.q == a.q && (decide (a.bin < b.bin) || (a.bin == b.bin && decide (a.code < b.code))))

/-- The detections of one DSP cycle in the order of R199. -/
def inTurn (l : List Detection) : List Detection := l.foldl (fun m d => insertBy goesBefore d m) []

/-- A residue detection that finds no lane waits in the order of R199 (R213). -/
def insertResidue (r : Residue) (l : List Residue) : List Residue := insertBy (fun a b => goesBefore a.det b.det) r l

/-- Does a lane hold a frame on a detection's triple within two chips of it, or has one been decoded there (R197)? -/
def sameHeld (s : State) (d : Detection) : Bool :=
  s.mur.recent.any (sameFrame d) || !(lanesWhere (fun n => laneHolds s n && sameFrame d (laneDet s n)) 0 64).isEmpty

/-- Remember a decoded frame for as long as a residue of it could come (R197, R210). -/
def State.noteDecoded (s : State) (d : Detection) : State :=
  { s with mur := { s.mur with recent := d :: s.mur.recent.filter (fun e => !tooOld s e) } }

/-- Record a dropped job or residue detection (R210, R213). -/
def State.sicDrop (s : State) (w : Option Nat) : State :=
  ((s.onWindow w (fun r => { r with sicLimit := true })).count (F.MUR_CNT_COUNT 8)).irq Blk.MUR 8

/-- The assignment of a qualified detection, live or residue (R197, R198). -/
def State.assign (s : State) (d : Detection) (residue : Bool) (level : Nat) : State :=
  match ownerOf s d.bin d.start with
  | none => s
  | some w =>
      if residue && sameHeld s d then s
      else if 8 ≤ (lanesWhere (fun n => laneHolds s n && (laneDet s n).bin == d.bin && (laneDet s n).sf == d.sf) 0 64).length
          ∨ 16 ≤ (lanesWhere (fun n => laneHolds s n && (laneDet s n).bin == d.bin) 0 64).length then
        (((s.onWindow (some w) (fun x => { x with limited := true, laneMiss := x.laneMiss + 1 })).count (F.MUR_CNT_COUNT 3)).irq
          Blk.MUR 4)
      else match freeLane s with
        | some n => s.giveLane n d (some w) residue level
        | none =>
            if residue then { s with mur := { s.mur with residues := insertResidue ⟨d, level, some w⟩ s.mur.residues } }
            else match (if s.on F.MUR_CFG_PREEMPT_EN then preemptLane s d else none) with
              | some n =>
                  let s1 := ((s.releaseLane n).count (F.PHY_CNT_COUNT 1)).count (F.MUR_CNT_COUNT 2)
                  s1.giveLane n d (some w) false 0
              | none =>
                  ((s.onWindow (some w) (fun x => { x with exhausted := true, laneMiss := x.laneMiss + 1 })).count
                    (F.MUR_CNT_COUNT 1)).irq Blk.MUR 1

/-- Free lanes go to the residue detections that wait, in their order; one past the age limit is dropped (R199, R213). -/
def State.serveResidues (s : State) : Nat → State
  | 0 => s
  | k + 1 => match s.mur.residues with
    | [] => s
    | r :: rest =>
        let s1 := { s with mur := { s.mur with residues := rest } }
        if tooOld s r.det then (s1.sicDrop r.window).serveResidues k
        else if (freeLane s).isSome then (s1.assign r.det true r.level).serveResidues k
        else s

/-! ### Listening lanes (R196) -/

/-- The bin nearest a carrier (R196, R201). -/
def nearestBin (s : State) (khz : Nat) : Int :=
  let d : Int := (khz : Int) * 1000 - s.get F.RFE_RXLO_FREQ
  (2 * d + 245760) / (2 * 245760)

/-- The bin of wide lane 60 + w in mode 1. -/
def wideBin (s : State) (w : Nat) : Option Int :=
  (ieee154Khz (s.get (F.MUR_WIDE_BAND w)) (s.get (F.MUR_WIDE_CHANNEL w))).map (nearestBin s)

/-- A mode 1 lane listens while an open window covers its bin (R196). -/
def State.listening (s : State) : State :=
  [0, 1, 2, 3].foldl (fun x w =>
    if wideMode x w 1 && (laneState x (60 + w) == 1 || laneState x (60 + w) == 5) then
      x.put (F.MUR_LANE_STATE_STATE (60 + w)) (if (wideBin x w).any (covered x) then 5 else 1)
    else x) s

/-- Seats and listening lanes follow the open windows. -/
def State.coverage (s : State) : State := s.seats.listening

/-! ### DSP cycles (R199) -/

/-- The DSP cycle of an AON local instant: 251.65824 MHz, 7,680 cycles a tick (Table 1-1). -/
def dspCycleOf (t : Nat) : Nat := t * 7680 / 65536

/-- The DSP cycles from now up to `t`: lanes whose frame has ended are released in the next cycle; then, after the live
detections of a cycle, the residue detections that wait take the free lanes (R199, R213). -/
def State.dspCycles (s : State) (t : Nat) : State :=
  if (s.mur.freed.isEmpty && s.mur.residues.isEmpty) || decide (dspCycleOf t ≤ dspCycleOf s.now) then s
  else
    let s1 := (s.mur.freed.foldl State.clearLane { s with mur := { s.mur with freed := [] } }).syncLoad.listening
    if s.mur.freed.isEmpty || decide (dspCycleOf s.now + 1 < dspCycleOf t) then s1.serveResidues s1.mur.residues.length else s1

/-- Time reaches AON local instant `t`: the DSP cycles up to it run, and the clocks and the lines that follow time follow. -/
def State.at (s : State) (t : Nat) : State := ((s.dspCycles t).clockAt t).syncFem

end Sys2Proof.Machine
end

