-- ==== Sys2Proof/Machine/Promise.lean ====
section
/-! DEFINITION. The promise table: its entries, the decision of a final completion, the settlement of airtime and
energy, and the ways an accepted item is voided or cut short (R4, R26, R27, R141, R349). -/

namespace Sys2Proof.Machine

/-! ### Registers that follow the table -/

/-- Completion entries of ring `n` reserved by accepted items (RSV.COUNT, R56). -/
def reservedEntries (s : State) (n : Nat) : Nat := sumBy (fun i => if i.cring == n then i.entries else 0) s.items
/-- Ring 9 buffers reserved. -/
def reservedBuffers (s : State) : Nat := sumBy (fun i => i.buffers) s.items
/-- Entries in use in the two halves of the table (R27). -/
def txUsed (s : State) : Nat := (s.items.filter (fun i => decide (i.idx < 4096))).length
def timedUsed (s : State) : Nat := (s.items.filter (fun i => !decide (i.idx < 4096))).length

/-- The messages in the hold memory: from fetch to the final completion (R330). -/
def heldMessages (s : State) : List SkeinInfo :=
  (s.chn.awaiting.filterMap (fun w => match w.kind with | .skein k => some k | _ => none)) ++
  (s.items.filterMap (fun i => match i.kind with | .skein k => if i.decided then none else some k | _ => none))
def heldBytes (s : State) : Nat := sumBy (fun k => k.payload.length) (heldMessages s)

/-- SKN_HOLD follows the hold memory. -/
def State.syncHold (s : State) : State :=
  (s.put F.SKN_HOLD_MESSAGES (heldMessages s).length).put F.SKN_HOLD_KIB ((heldBytes s + 1023) / 1024)

/-- RSV, CHN_USE, SWAP_PENDING and SKN_HOLD follow the promise table. -/
def State.syncItems (s : State) : State :=
  let s1 := ((s.put F.CHN_USE_TX_USED (txUsed s)).put F.CHN_USE_TIMED_USED (timedUsed s)).put F.CHN_STATUS_SWAP_PENDING
    (if s.items.any (fun i => i.kind == .swap && !i.decided) then 1 else 0)
  ([16, 17, 18, 19].foldl (fun x n => x.put (F.HRE_RING_RSV_COUNT n) (reservedEntries x n))
    (s1.put (F.HRE_RING_RSV_COUNT 9) (reservedBuffers s1))).syncHold

/-- The lowest free index of a half of the table (R27). -/
def freeIndex (s : State) (lo : Nat) : Nat → Option Nat
  | 0 => none
  | n + 1 => if (s.item lo).isNone then some lo else freeIndex s (lo + 1) n

/-! ### Settlement (R26, R141, R349) -/

/-- End of emission of a started transmission, in AON local time. -/
def txEndAt (x : TxInfo) : Nat := x.cutAt.getD (x.rampStart + x.femU + x.rampU + x.airU + x.rampU)

/-- Spans, AON local, over which transmissions blank the chains (R95, R227): those that have ended, the one on air, and
one in its lead-in. -/
def blankSpans (s : State) : List (Nat × Nat) :=
  s.rfe.blanks ++ s.items.filterMap (fun i => if i.decided then none else match i.kind with
    | .tx x =>
        let lead := s.localOf ((i.attempt x).time - x.rampU - x.femU)
        if i.started then some (x.rampStart, txEndAt x + usU 20)
        else if lead < s.now then some (lead, lead + x.femU + 2 * x.rampU + x.airU + usU 20)
        else none
    | _ => none)

/-- Spans over which the chains deliver zero samples: blanking, and a receive synthesiser or DSP PLL out of lock (R191,
R222, R476). -/
def zeroSpans (s : State) : List (Nat × Nat) :=
  blankSpans s ++ s.rfe.dead ++ [s.rfe.rxLostAt, s.clk.dspUnlocked].filterMap (fun o => o.map (fun since => (since, s.now + 1)))

/-- Are the samples of an instant, or some samples of [lo, hi), zeros, AON local? -/
def zeroIn (s : State) (lo hi : Nat) : Bool :=
  !s.on F.RFE_STATUS_RX_LOCK || (zeroSpans s).any (fun p => decide (p.1 < hi) && decide (lo < p.2))
def zeroAt (s : State) (u : Nat) : Bool := zeroIn s u (u + 1)

/-- An outage of samples that began at `since` ends. -/
def State.noteDead (s : State) (since : Option Nat) : State :=
  match since with
  | some u => { s with rfe := { s.rfe with dead := ((u, s.now) :: s.rfe.dead).filter (fun p => decide (s.now < p.2 + secondU)) } }
  | none => s

/-- Microseconds of an open span [lo, hi), AON local, that are blanked. -/
def blankedIn (s : State) (lo hi : Nat) : Nat :=
  usFloor (sumBy (fun p => Nat.min p.2 hi - Nat.max p.1 lo) (blankSpans s))

/-- The blanked time of a window up to its close, or to now while it is open (R205, R207). -/
def State.countBlanks (s : State) (i : Item) : Item :=
  match i.kind with
  | .rx x => if i.started then { i with kind := .rx { x with
      blankedUs := blankedIn s x.openedAt (if x.closed then x.closedAt else s.now) } } else i
  | _ => i

/-- What a transmission used: charged microseconds from the start of ramp-up to the end of its emission. -/
def txUsedUs (s : State) (x : TxInfo) : Nat := usCeil ((x.cutAt.getD s.now) - x.rampStart)

/-- Energy that an item used, by its kind, at its settlement. -/
def settledEnergy (s : State) (i : Item) : Nat :=
  if !i.started then 0
  else match i.kind with
    | .tx x => if txCostValid s x.sent then txEnergy s x.sent (txUsedUs s x) else (if i.moved then i.e2 else i.e1)
    | .rx x => if s.on (F.BLW_COST_VALID 0) && s.on (F.BLW_COST_VALID 1) then rxEnergy s x.laneTime ((if x.closed then x.closedAt else s.now) - x.openedAt)
        else i.e1
    | .flash f => if s.on (F.BLW_COST_VALID (if f.op = 2 then 5 else 4)) then flashEnergy s f else i.e1
    | .skein x => if s.on (F.BLW_COST_VALID 3) then skeinEnergy s x.bcast * (1 + x.resends) else i.e1
    | .swap => 0

/-- The airtime charge that an item leaves in its account (R141). -/
def settledCharges (s : State) (i : Item) : List Charge :=
  match i.kind with
  | .tx x => if i.started then [{ (i.attempt x).charge with start := x.rampStart, us := txUsedUs s x, fin := x.cutAt.getD s.now }] else []
  | _ => []

/-- Settle an item: what it used stays charged, everything else is credited back (R26). -/
def State.settle (s : State) (i : Item) : State :=
  let e := settledEnergy s i
  let b := s.blw
  { s with
    mac := { s.mac with history := s.mac.history ++ settledCharges s i }
    blw := { b with
      settled := if i.period = b.period then b.settled + e else b.settled
      settledNext := if i.period = b.period + 1 then b.settledNext + e else b.settledNext } }

/-! ### Windows that end (R207) -/

/-- Release at once the lanes that hold frames of a window; those frames are neither delivered nor counted, and its waiting
residue detections go (R207).  Jobs stay for the other windows. -/
def State.dropLanes (s : State) (idx : Nat) : State :=
  let s1 := (lanesWhere (fun n => (s.laneX n).window == some idx) 0 64).foldl State.releaseLane s
  let forget := fun (j : SicJob) => if j.window == some idx then { j with window := none } else j
  { s1 with mur := { s1.mur with
      jobs := s1.mur.jobs.map forget
      running := s1.mur.running.map forget
      residues := s1.mur.residues.filter (fun j => !(j.window == some idx)) } }.syncLoad

/-- Is an item a receive window? -/
def Item.isRx (i : Item) : Bool := match i.kind with | .rx _ => true | _ => false

/-! ### The final completion -/

/-- Words 4 to 7 of a final by kind of item (Tables 6-4 and 12-2; 0 for kinds whose chapters define none). -/
def finalWords (i : Item) : Word × Word × Word × Word :=
  let c := fun n => Nat.min n 0xFFFF
  match i.kind with
  | .rx x => (word (c x.delivered + c x.firmware * 65536), word (c x.overMaxf + c x.discarded * 65536),
      word (c x.laneMiss + c x.recovered * 65536), word (Nat.min x.blankedUs 0xFFFFFFFF))
  | .flash x => (word x.w4, word x.w5, 0, 0)
  | _ => (0, 0, 0, 0)

/-- The outcome of one of the device's own items, as a record of its block (R126, R132). -/
def ownerTag : Owner → Nat
  | .checkpoint => 0x0A00
  | .join _ => 0x0A00
  | .dist _ => 0x0F00
  | _ => 0x0900

/-- The completion ring of a descriptor: 16 for ring 0, else the ring that word 0 names.  Descriptors of the customer
partition are numbered 32 above their ring, and their completions go to no host ring (R517). -/
def partitionRing : Nat := 0xFE
def complRing (ring : Nat) (ws : List Word) : Nat :=
  if 32 ≤ ring then partitionRing else if ring = 0 then 16 else 16 + wbits ws 0 12 11

/-- The service requests that wait for a checkpoint complete (R274). -/
def State.ckptWaiters (s : State) (reason : Nat) : State :=
  { s with
    esm := { s.esm with waiting := [] }
    hre := { s.hre with outq := s.hre.outq ++ s.esm.waiting.map (fun (f : Fetched) =>
      (⟨complRing f.ring f.words, wbits f.words 0 31 16, 2, reason, f.ring, 0, s.net, 0, 0, 0, 0, wbits f.words 0 8 8 == 1,
        none, true⟩ : Compl)) } }

/-- What the end of one of the device's own items means to its owner: a checkpoint goes on with its next step, or ends
with a failure (R270); a JOIN_ACCEPT is reported to the join service (R265). -/
def State.ownerEnd (s : State) (o : Owner) (status reason : Nat) : State :=
  match o with
  | .checkpoint => match s.esm.ckpt with
    | none => s
    | some c =>
        if status = 2 then { s with esm := { s.esm with ckpt := some { c with step := c.step + 1, inFlight := false } } }
        else
          let s1 := { s with esm := { s.esm with ckpt := none } }
          (((s1.put F.ESM_STATUS_CKPT_RUNNING 0).put F.ESM_STATUS_CKPT_REASON reason).irq Blk.ESM 16).ckptWaiters reason
  | .join k => { s with esm := { s.esm with accepts := s.esm.accepts ++ [(k, status == 2)] } }
  | .dist d => if status = 2 then { s with upd := { s.upd with dist := modAt (fun (x : DistSlot) =>
      { x with campaign := x.campaign.map (fun (c : Campaign) => { c with sent := c.sent + 1 }) }) s.upd.dist d } } else s
  | _ => s

/-- The Chanter cycle of a timestamp: Chanter runs at 393.216 MHz, 12,000 cycles a tick (Table 1-1). -/
def chnCycle (ts : Nat) : Nat := ts * 12000 / 65536

/-- Place of a reason in the order of R7: alarm, supply, clock, quench, skein; `none` when it names no condition of
R5. -/
def conditionRank (reason : Nat) : Option Nat :=
  if reason / 256 = 0x16 then some 0
  else if reason / 256 = 0x01 then some 1
  else if reason / 256 = 0x02 then some 2
  else if 0x0406 ≤ reason ∧ reason ≤ 0x0408 then some 3
  else if reason / 256 = 0x0D then some 4
  else none

/-- Does a condition that breaks now take the place of one that broke at `since`: in the same Chanter cycle, and before it
in the order of R7, or a lower alarm code (R295)? -/
def outranks (s : State) (since reason old : Nat) : Bool :=
  chnCycle s.net == chnCycle since && (match conditionRank reason, conditionRank old with
    | some a, some b => decide (a < b) || (a == 0 && b == 0 && decide (reason < old))
    | _, _ => false)

/-- Name another condition in the final of an item that was decided in this Chanter cycle and is not yet written (R7). -/
def State.overrule (s : State) (idx status reason : Nat) : State :=
  { s with hre := { s.hre with outq := s.hre.outq.map (fun (c : Compl) =>
      if c.item == some idx && c.final && outranks s c.time reason c.reason then { c with status := status, reason := reason }
      else c) } }

/-- Decide the final completion of an accepted item: its reservations are released, its use is settled, and the
completion joins the queue of its completion ring (R4, R26).  Its TIME is the actual start of a DONE, and otherwise
`since`, when the cause was detected (Table 2-5).  Of an item that is already decided only the reason can change (R7). -/
def State.decideFinal (s : State) (idx status reason since : Nat) : State :=
  match s.item idx with
  | none => s
  | some i =>
    if i.decided then s.overrule idx status reason
    else
      let s1 := s.settle i
      let w := finalWords (s.countBlanks i)
      let time := if status = 2 then i.startTime else since
      match i.owner with
      | .host =>
          let c : Compl := ⟨i.cring, i.tag, status, reason, i.ring, if i.moved then 1 else 0, time,
            w.1, w.2.1, w.2.2.1, w.2.2.2, i.irq, some idx, true⟩
          let waiting := (s1.hre.outq.filter (fun q => q.item == some idx)).length
          let s2 := { s1 with hre := { s1.hre with outq := s1.hre.outq ++ [c] } }
          (s2.setItem idx (fun j => { j with decided := true, entries := waiting + 1, buffers := 0 })).syncItems
      | o =>
          let s2 := { s1 with items := s1.items.filter (fun j => !(j.idx == idx)) }
          let s3 := s2.ownerEnd o status reason
          (if status = 2 ∧ reason = 0 ∧ o ≠ .droneBeacon then s3 else s3.record (ownerTag o) reason (w4 := 0xFF)).syncItems

/-- The final of an item; a window gives up its lanes, and seats and lines follow the windows still open (R193, R207). -/
def State.finishAt (s : State) (idx status reason since : Nat) : State :=
  match s.item idx with
  | some i =>
      if i.isRx && !i.decided then (((s.dropLanes idx).decideFinal idx status reason since).coverage).syncFem
      else s.decideFinal idx status reason since
  | none => s

/-- Decide the final completion of an item for a cause that is detected now. -/
def State.finish (s : State) (idx status reason : Nat) : State := s.finishAt idx status reason s.net

/-- Cut a transmission on air: its emission ends after its ramp-down, or at once, and TX_END decides it so (R61, R141).
Of several causes the first decides, but for the order of R7 within one Chanter cycle. -/
def State.cut (s : State) (idx status reason : Nat) (ramped : Bool) : State :=
  s.setItem idx (fun i => i.mapTx (fun x =>
    let fin := if ramped then s.now + x.rampU else s.now
    match x.cutAt with
    | some e =>
        let y := { x with cutAt := some (Nat.min e fin) }
        if outranks s x.cutSince reason x.cutReason then { y with cutStatus := status, cutReason := reason } else y
    | none => { x with cutAt := some fin, cutStatus := status, cutReason := reason, cutSince := s.net }))

/-- End one item short of its promise: a transmission on air is cut, everything else ends at once. -/
def State.endItem (status reason : Nat) (s : State) (i : Item) : State :=
  if i.decided then s.finish i.idx status reason
  else match i.kind with
  | .tx _ => if i.started then s.cut i.idx status reason true else s.finish i.idx status reason
  | _ => s.finish i.idx status reason

/-- End every item that satisfies `p` (R6, R105, R138). -/
def State.endAll (s : State) (p : Item → Bool) (status reason : Nat) : State :=
  (s.items.filter p).foldl (State.endItem status reason) s

/-! ### Completions of descriptors that are not timed items -/

/-- A completion of a descriptor without a promise-table entry: untimed work, or a refusal (R55, R59). -/
def State.complete (s : State) (ring : Nat) (ws : List Word) (status reason : Nat)
    (w4 w5 w6 w7 : Nat := 0) (cring : Option Nat := none) : State :=
  let cr := cring.getD (complRing ring ws)
  { s with hre := { s.hre with outq := s.hre.outq ++
      [⟨cr, wbits ws 0 31 16, status, reason, ring, 0, s.net, word w4, word w5, word w6, word w7,
        wbits ws 0 8 8 == 1, none, true⟩] } }

/-- A REFUSED completion (status 3). -/
def State.refuse (s : State) (ring : Nat) (ws : List Word) (reason : Nat) (w4 w5 : Nat := 0) : State :=
  s.complete ring ws 3 reason w4 w5

/-- A DONE completion (status 2). -/
def State.done (s : State) (ring : Nat) (ws : List Word) (reason : Nat := 0) (w4 w5 w6 w7 : Nat := 0) : State :=
  s.complete ring ws 2 reason w4 w5 w6 w7

/-- Take the first descriptor that satisfies `p` and that no earlier descriptor of its own ring precedes (R54). -/
def takeTurn (p : Fetched → Bool) (seen : List Nat) : List Fetched → Option (Fetched × List Fetched)
  | [] => none
  | f :: r =>
      if p f && !seen.contains f.ring then some (f, r)
      else (takeTurn p (f.ring :: seen) r).map (fun q => (q.1, f :: q.2))

/-- Rings with a host item that still waits for its admission decision: their later descriptors wait for it (R54). -/
def busyRings (s : State) : List Nat :=
  (s.chn.awaiting.filter (fun (w : Waiting) => w.owner == .host)).map (fun (w : Waiting) => w.ring)

/-- Run `k` on the next fetched descriptor that satisfies `p`; without one, nothing happens. -/
def State.onTurn (s : State) (p : Fetched → Bool) (k : State → Fetched → State) : State :=
  match takeTurn p (busyRings s) s.hre.fetched with
  | some (f, rest) => k { s with hre := { s.hre with fetched := rest } } f
  | none => s

/-- Run `k` on the next fetched descriptor of opcode `op`. -/
def State.onFetched (s : State) (op : Nat) (k : State → Fetched → State) : State :=
  s.onTurn (fun f => wbits f.words 0 7 0 == op) k

/-- Run `k` on the next service request of a service and command (R274); in the blackout of an
activation service requests wait (R408). -/
def State.onService (s : State) (svc cmd : Nat) (k : State → Fetched → State) : State :=
  s.onTurn (fun f => wbits f.words 0 7 0 == 0x50 && wbits f.words 6 7 0 == svc && wbits f.words 6 15 8 == cmd && s.upd.aliveBy.isNone) k

end Sys2Proof.Machine
end

