-- ==== Sys2Proof/Machine/Duty.lean ====
section
/-! DEFINITION. The regulatory duty-cycle accounts: bands, buckets, the fit of a charge, and the pause between
transmissions (R140 to R146). -/

namespace Sys2Proof.Machine

/-- Lower and upper edge, in Hz, of the band that an attempt occupies (R140, R155, R169): a native or legacy frame its
bin; an 802.15.4 frame its carrier ± 300 kHz or ± 1 MHz. -/
def occupiedBand (s : State) (carrierKhz : Nat) (bin : Int) : Int × Int :=
  if carrierKhz = 0 then
    let c : Int := (s.get F.RFE_RXLO_FREQ : Int) + bin * 245760
    (c - 122880, c + 122880)
  else
    let h : Int := if carrierKhz < 900000 then 300000 else 1000000
    ((carrierKhz : Int) * 1000 - h, (carrierKhz : Int) * 1000 + h)

/-- The lowest-numbered enabled account of matching width that contains a band, from account `n` upward (R140). -/
def accountFrom (s : State) (wide : Bool) (lo hi : Int) (n : Nat) : Nat → Option Nat
  | 0 => none
  | k + 1 =>
      if s.on (F.MAC_DC_CFG_EN n) && s.on (F.MAC_DC_CFG_WIDE n) == wide
          && decide ((s.get (F.MAC_DC_FLO_KHZ n) : Int) * 1000 ≤ lo) && decide (hi ≤ (s.get (F.MAC_DC_FHI_KHZ n) : Int) * 1000)
      then some n else accountFrom s wide lo hi (n + 1) k

/-- The account that an attempt is charged to. -/
def accountOf (s : State) (wide : Bool) (carrierKhz : Nat) (bin : Int) : Option Nat :=
  let b := occupiedBand s carrierKhz bin
  accountFrom s wide b.1 b.2 0 16

/-- The bins that the occupied band overlaps: the first, and how many (R144). -/
def occupiedBins (s : State) (carrierKhz : Nat) (bin : Int) : Int × Nat :=
  let b := occupiedBand s carrierKhz bin
  let lo : Int := s.get F.RFE_RXLO_FREQ
  let first := (b.1 - lo + 122880) / 245760
  (first, (-((lo - b.2 - 122880) / 245760) - first).toNat)

/-- The listen span of an account in microseconds (R144); 0 without listen-before-talk. -/
def listenOf (s : State) (acct : Option Nat) : Nat :=
  match acct with
  | some a => if s.on (F.MAC_DC_CFG_LBT_EN a) then s.get (F.MAC_DC_LBT_LISTEN_US a) else 0
  | none => 0

/-- Every charge held: the history, and what the undecided items reserve (R100, R142). -/
def chargesHeld (s : State) : List Charge :=
  s.mac.history ++ s.items.flatMap (fun i => if i.decided then [] else match i.kind with
    | .tx x => if i.moved then [x.second.charge] else [x.first.charge, x.second.charge]
    | _ => [])

/-- Microseconds of a charge that lie in the local span of microseconds [lo, hi). -/
def chargeWithin (c : Charge) (lo hi : Nat) : Nat :=
  let a := usFloor c.start
  Nat.min (a + c.us) hi - Nat.max a lo

/-- Does a charge occupy a bin (R143)? -/
def chargeBins (c : Charge) (b : Int) : Bool := decide (c.bin ≤ b) && decide (b < c.bin + c.bins)

/-- The bins of a charge. -/
def binsOf (c : Charge) : List Int := (List.range c.bins).map (fun (k : Nat) => c.bin + k)

/-- Microseconds that a list of charges puts into [lo, hi), for one account, and for one bin when `bin` is given. -/
def chargedWithin (cs : List Charge) (acct : Nat) (bin : Option Int) (lo hi : Nat) : Nat :=
  sumBy (fun c => if c.acct == acct && (match bin with | some b => chargeBins c b | none => true) then chargeWithin c lo hi else 0) cs

/-- Does every run of N + 1 buckets ending at bucket `k`, `k` + 1, … (`n` of them) stay within the budget (R142)? -/
def runsFit (held own : List Charge) (acct : Nat) (bin : Option Int) (bucketUs nB budget k : Nat) : Nat → Bool
  | 0 => true
  | n + 1 =>
      let lo := (k - nB) * bucketUs
      let hi := (k + 1) * bucketUs
      let mine := chargedWithin own acct bin lo hi
      (mine == 0 || decide (chargedWithin held acct bin lo hi + mine ≤ budget)) &&
        runsFit held own acct bin bucketUs nB budget (k + 1) n

/-- Can account `a` hold the charges `own` (R142, R143)? -/
def accountHolds (s : State) (a : Nat) (own : List Charge) : Bool :=
  let b := s.get (F.MAC_DC_WIN_BUCKET_S a)
  let n := s.get (F.MAC_DC_WIN_NBUCKETS a)
  let bucketUs := b * 1000000
  let budget := s.get (F.MAC_DC_CFG_LIMIT a) * n * b * 1000
  let held := chargesHeld s
  own.all (fun c =>
    c.acct != a ||
    (let k0 := usFloor c.start / bucketUs
     let k1 := (usFloor c.start + c.us) / bucketUs
     let fits := fun (bin : Option Int) => runsFit held own a bin bucketUs n budget k0 (k1 - k0 + n + 1)
     if s.on (F.MAC_DC_CFG_DWELL a) then (binsOf c).all (fun b => fits (some b)) else fits none))

/-- The airtime checks of R89 for the two attempts: the refusal and its word 4, if any. -/
def dutyTest (s : State) (c1 c2 : Charge) : Option (Nat × Nat) :=
  let one := fun (c : Charge) => if 16 ≤ c.acct then some (0x0901, 0xFF)
    else if s.get (F.MAC_DC_WIN_MAXTX c.acct) * 1000 < c.us then some (0x0902, c.acct) else none
  match one c1 with
  | some r => some r
  | none => match one c2 with
    | some r => some r
    | none =>
        let lo := Nat.min c1.acct c2.acct
        let hi := Nat.max c1.acct c2.acct
        if !accountHolds s lo ([c1, c2].filter (fun c => c.acct == lo)) then some (0x0901, lo)
        else if !accountHolds s hi ([c1, c2].filter (fun c => c.acct == hi)) then some (0x0901, hi)
        else none

/-- Emission of an attempt in network time: start of ramp-up and end of ramp-down. -/
def emission (x : TxInfo) (a : Attempt) : Nat × Nat := (a.time - x.rampU - x.femU, a.time + x.airU + x.rampU)

/-- Does the pause of R145 keep an emission [lo, hi) in account `a` clear of the other accepted transmissions, ended ones
among them? -/
def pauseOk (s : State) (a lo hi : Nat) : Bool :=
  let gap := if 16 ≤ a then 0 else if s.on (F.MAC_DC_CFG_LBT_EN a) then msU (s.get (F.MAC_DC_LBT_PAUSE_MS a)) else 0
  gap == 0 || (s.mac.history.all (fun c => c.acct != a || decide (c.fin + gap ≤ s.localOf lo)) && s.items.all (fun i => i.decided || (match i.kind with
    | .tx x => (if i.moved then [x.second] else [x.first, x.second]).all (fun t =>
        t.charge.acct != a || (let e := emission x t; decide (hi + gap ≤ e.1) || decide (e.2 + gap ≤ lo)))
    | _ => true)))

/-- MAC_DC[n].USED: charged and reserved airtime in the N + 1 buckets ending with the current one; with DWELL, of the
most used bin (Table 4-14). -/
def usedNow (s : State) (a : Nat) : Nat :=
  let b := s.get (F.MAC_DC_WIN_BUCKET_S a) * 1000000
  let n := s.get (F.MAC_DC_WIN_NBUCKETS a)
  if b = 0 then 0
  else
    let k := usFloor s.now / b
    let held := chargesHeld s
    let use := fun bin => chargedWithin held a bin ((k - n) * b) ((k + 1) * b)
    if s.on (F.MAC_DC_CFG_DWELL a) then (held.flatMap binsOf).foldl (fun m b => Nat.max m (use (some b))) 0 else use none

/-- Bring the USED registers up to date. -/
def State.syncUsed (s : State) : State :=
  (List.range 16).foldl (fun x n => x.put (F.MAC_DC_USED_US n) (usedNow x n)) s

end Sys2Proof.Machine
end

