-- ==== Sys2Proof/Machine/Schedule.lean ====
section
/-! DEFINITION. The schedule: slotframes, cells, access classes, which slotframe governs a slot, the candidate
positions of an item, and the search of the admission test (R72 to R82, R86, R87, R95 to R98, Table 3-5). -/

namespace Sys2Proof.Machine

/-! ### Cells and classes -/

/-- Read a pool entry: an unlisted entry reads 0 (notes/assumptions/5.md). -/
def State.cell (s : State) (i : Nat) : Nat := (Sparse.get (fun _ => (0 : BitVec 48)) s.chn.cells i).toNat
def cellOffset (c : Nat) : Nat := bits c 15 0
def cellLink (c : Nat) : Nat := bits c 29 16
def cellKind (c : Nat) : Nat := bits c 31 30
def cellDur (c : Nat) : Nat := bits c 39 32
def cellBin (c : Nat) : Nat := bits c 47 40

/-- Slotframe length (R76). -/
def sfLen (s : State) (b n : Nat) : Nat := s.get (F.CHN_SF_CFG_LEN_M1 b n) + 1

/-- The pool entry among `n` from entry `i` whose cell covers slotframe offset `off`. -/
def cellCovering (s : State) (off i : Nat) : Nat → Option Nat
  | 0 => none
  | n + 1 =>
      let c := s.cell i
      if cellOffset c ≤ off ∧ off < cellOffset c + cellDur c then some i else cellCovering s off (i + 1) n

/-- Does class `k` of bank `b` cover an offset of slotframe `n` (R81)? -/
def classCovers (s : State) (b n off k : Nat) : Bool :=
  s.on (F.CHN_AC_CFG_EN b k) && s.get (F.CHN_AC_CFG_SF_ID b k) == n &&
  decide (s.get (F.CHN_AC_POS_FIRST_OFFSET b k) ≤ off) &&
  decide (off < s.get (F.CHN_AC_POS_FIRST_OFFSET b k) + s.get (F.CHN_AC_POS_SPAN b k) * s.get (F.CHN_AC_CFG_POS_DUR b k))

/-- What governs a slot (R78): nothing, a cell (slotframe, pool entry, first slot), or the classes of a slotframe. -/
inductive Gov where
  | open
  | cell (sf idx first : Nat)
  | cls (sf : Nat)
  deriving DecidableEq, Repr

/-- The governing element of a slot among `k` slotframes from slotframe `n` upward. -/
def governFrom (s : State) (b slot n : Nat) : Nat → Gov
  | 0 => .open
  | k + 1 =>
      if s.on (F.CHN_SF_CFG_EN b n) then
        let off := slot % sfLen s b n
        match cellCovering s off (s.get (F.CHN_SF_FIRST_FIRST_CELL b n)) (s.get (F.CHN_SF_COUNT_CELL_COUNT b n)) with
        | some i => .cell n i (slot - (off - cellOffset (s.cell i)))
        | none =>
            if (List.range 16).any (classCovers s b n off) then .cls n else governFrom s b slot (n + 1) k
      else governFrom s b slot (n + 1) k

/-- The bank in force in a slot: an accepted swap changes it from its boundary on (R85). -/
def bankAt (s : State) (slot : Nat) : Nat :=
  let a := s.get F.CHN_STATUS_ACTIVE_BANK
  if s.items.any (fun i => i.kind == .swap && !i.decided && decide (asn i.committed ≤ slot)) then 1 - a else a

/-- Position, bin and code of endpoint `e` in slotframe epoch `ep` (R82). -/
def hashR82 (e ep span binFirst binCount : Nat) : Nat × Nat × Nat :=
  let m := 2 ^ 32
  let x := (e + ep % m * 0x9E3779B1) % m
  let x := x ^^^ (x >>> 16)
  let x := x * 0x85EBCA6B % m
  let x := x ^^^ (x >>> 13)
  let x := x * 0xC2B2AE35 % m
  let x := x ^^^ (x >>> 16)
  ((bits x 15 0 * span) >>> 16, (binFirst + ((bits x 31 20 * binCount) >>> 12)) % 256, bits x 18 16)

/-! ### Requests and positions -/

/-- What the search needs of a timed item. -/
structure Req where
  pmode : Nat
  arg : Nat
  deadline : Nat
  /-- KIND of cell that accepts the opcode (R79). -/
  cellKind : Nat
  /-- A transmission; its bin and code as the descriptor gives them. -/
  isTx : Bool
  tx : TxInfo
  bin : Int
  code : Nat
  /-- A TX_BEACON or a Drone beacon: its repair changes the code and is bound to REPAIR_DELAY (R127). -/
  beacon : Bool
  /-- A receive window: length in slots for FREE and AT, and its bins. -/
  duration : Nat
  binFirst : Int
  binCount : Nat
  deriving DecidableEq, Repr

/-- A dummy charge, attempt and transmission, before placement or where there is none. -/
def noCharge : Charge := ⟨255, 0, 0, 0, 0, 0⟩
def wantAttempt (bin : Int) (code : Nat) : Attempt := ⟨0, bin, code, 0, 0, noCharge, 0, none⟩
def emptyTx : TxInfo :=
  ⟨[], false, false, 0, false, 0, 0, 0, 0, 0, wantAttempt 0 0, wantAttempt 0 0, 0, 0, none, false, 0, none, 0, 0, 0, 0, 0⟩

/-- A position: start, slots of its occupancy and of its body, bin and code, listen span, end of a window. -/
structure Pos where
  start : Nat
  slotLo : Nat
  slotHi : Nat
  bodyHi : Nat
  bin : Int
  code : Nat
  listenUs : Nat
  acct : Nat
  closeAt : Nat
  binCount : Nat
  /-- The pool entry that it lies in, in CELL mode. -/
  cell : Option Nat
  deriving DecidableEq, Repr

/-- Does a band lie within 750 MHz to 960 MHz (R220)? -/
def carrierOk (hz : Int) : Bool := decide (750000000 ≤ hz) && decide (hz ≤ 960000000)

/-- Is the carrier of a bin within 750 MHz to 960 MHz (R220)? -/
def binCarrierOk (s : State) (bin : Int) : Bool := carrierOk ((s.get F.RFE_RXLO_FREQ : Int) + bin * 245760)

/-- TX_OFFSET in timestamp units: 1/64 tick each. -/
def txOffsetU (s : State) : Nat := s.get F.CHN_CFG_TX_OFFSET * 1024

/-- The position of a transmission whose first chip is at `start` (R95). -/
def txPos (s : State) (r : Req) (start : Nat) (bin : Int) (code : Nat) : Pos :=
  let acct := accountOf s r.tx.wide r.tx.carrier bin
  let listen := listenOf s acct
  let lead := usU listen + r.tx.femU + r.tx.rampU
  let fin := start + r.tx.airU + r.tx.rampU + usU 20
  { start := start, slotLo := asn (start - lead), slotHi := asn (fin - 1) + 1, bodyHi := asn (fin - 1) + 1,
    bin := bin, code := code, listenUs := listen, acct := acct.getD 255, closeAt := fin, binCount := 1, cell := none }

/-- The position of a receive window from `start` to `close` over a bin set. -/
def rxPos (start close : Nat) (binFirst : Int) (binCount : Nat) : Pos :=
  { start := start, slotLo := asn start, slotHi := asn (close - 1) + 1, bodyHi := asn (close - 1) + 1,
    bin := binFirst, code := 0, listenUs := 0, acct := 255, closeAt := close, binCount := binCount, cell := none }

/-- Do all slots of [lo, lo + n) satisfy `p`? -/
def allSlots (p : Nat → Bool) (lo : Nat) : Nat → Bool
  | 0 => true
  | n + 1 => p lo && allSlots p (lo + 1) n

/-- The endpoint's slot, bin and code in class `k` for the epoch of slot `slot`: (first slot of the position, bin, code). -/
def classPosition (s : State) (b k e slot : Nat) : Nat × Nat × Nat :=
  let l := sfLen s b (s.get (F.CHN_AC_CFG_SF_ID b k))
  let ep := slot / l
  let h := hashR82 e ep (s.get (F.CHN_AC_POS_SPAN b k)) (s.get (F.CHN_AC_CFG_BIN_FIRST b k)) (s.get (F.CHN_AC_CFG_BIN_COUNT b k))
  (ep * l + s.get (F.CHN_AC_POS_FIRST_OFFSET b k) + h.1 * s.get (F.CHN_AC_CFG_POS_DUR b k), h.2.1, h.2.2)

/-- The candidate of a CELL-mode item that starts with slot `slot`, in bank `b` (R79, R87). -/
def cellCandidate (s : State) (b : Nat) (r : Req) (slot : Nat) : Option Pos :=
  match governFrom s b slot 0 8 with
  | .cell sf i first =>
      let c := s.cell i
      if first = slot ∧ cellLink c = r.arg ∧ cellKind c = r.cellKind ∧ !s.chn.badCells.contains i then
        let bin := if cellBin c = 0x80 then none else some (binOf (cellBin c))
        let inside := fun (n : Nat) => allSlots (fun x => governFrom s b x 0 8 == .cell sf i first) slot n
        if r.isTx then
          let p := { txPos s r (slot * slotU + txOffsetU s) (if r.tx.wide then r.bin else bin.getD r.bin) r.code with cell := some i }
          if p.bodyHi ≤ slot + cellDur c ∧ inside (p.bodyHi - slot) then some p else none
        else
          let p := match bin with
            | some b => rxPos (slot * slotU) ((slot + cellDur c) * slotU) b 1
            | none => rxPos (slot * slotU) ((slot + cellDur c) * slotU) r.binFirst r.binCount
          if inside (cellDur c) then some { p with cell := some i } else none
      else none
  | _ => none

/-- Does class `k` of bank `b` offer a slot: its slotframe governs there, and the class covers it? -/
def classOffers (s : State) (b k slot : Nat) : Bool :=
  let sf := s.get (F.CHN_AC_CFG_SF_ID b k)
  governFrom s b slot 0 8 == .cls sf && classCovers s b sf (slot % sfLen s b sf) k

/-- The candidate of a CLASS-mode item that starts with slot `slot`, in bank `b` (R87). -/
def classCandidate (s : State) (b : Nat) (r : Req) (slot : Nat) : Option Pos :=
  let k := r.arg % 16
  let sf := s.get (F.CHN_AC_CFG_SF_ID b k)
  let dur := s.get (F.CHN_AC_CFG_POS_DUR b k)
  if !s.on (F.CHN_AC_CFG_EN b k) then none
  else if r.isTx then
    if !s.on (F.CHN_AC_CFG_DIR b k) then none
    else
      let q := classPosition s b k (r.tx.dstEndpoint.getD 0) slot
      let p := txPos s r (slot * slotU + txOffsetU s) (binOf q.2.1) q.2.2
      if q.1 = slot ∧ classOffers s b k slot then some p else none
  else
    let span := s.get (F.CHN_AC_POS_SPAN b k) * dur
    if s.on (F.CHN_AC_CFG_DIR b k) then none
    else if slot % sfLen s b sf = s.get (F.CHN_AC_POS_FIRST_OFFSET b k) ∧ allSlots (classOffers s b k) slot span then
      some (rxPos (slot * slotU) ((slot + span) * slotU) (binOf (s.get (F.CHN_AC_CFG_BIN_FIRST b k)))
        (s.get (F.CHN_AC_CFG_BIN_COUNT b k)))
    else none

/-- The candidate of a FREE-mode item that starts with slot `slot`, in bank `b` (R87). -/
def freeCandidate (s : State) (b : Nat) (r : Req) (slot : Nat) : Option Pos :=
  let p := if r.isTx then txPos s r (slot * slotU + txOffsetU s) r.bin r.code
    else rxPos (slot * slotU) ((slot + r.duration) * slotU) r.binFirst r.binCount
  if allSlots (fun x => governFrom s b x 0 8 == .open) slot (p.bodyHi - slot) then some p else none

/-- The candidate of AT mode: DEADLINE exactly, whatever governs (R87). -/
def atCandidate (s : State) (r : Req) (start : Nat) : Pos :=
  if r.isTx then txPos s r start r.bin r.code else rxPos start (start + r.duration * slotU) r.binFirst r.binCount

/-- The candidate of the item's own mode that starts with slot `slot`, in bank `b`. -/
def candidateIn (s : State) (b : Nat) (r : Req) (slot : Nat) : Option Pos :=
  match r.pmode with
  | 0 => cellCandidate s b r slot
  | 1 => classCandidate s b r slot
  | 2 => freeCandidate s b r slot
  | _ => none

/-- A position that the bank in force gives; one that spans the boundary of an accepted swap must fit both banks (R85). -/
def inForce (s : State) (slot : Nat) (f : Nat → Option Pos) : Option Pos :=
  (f (bankAt s slot)).filter (fun p => f (bankAt s (p.bodyHi - 1)) == some p)

/-- The candidate of the item's own mode that starts with slot `slot`, in the bank in force there. -/
def candidate (s : State) (r : Req) (slot : Nat) : Option Pos := inForce s slot (fun b => candidateIn s b r slot)

/-! ### Free positions -/

/-- Slots that the undecided transmissions hold (R95). -/
def txSlotsTaken (s : State) (lo hi : Nat) : Bool :=
  s.items.any (fun i => !i.decided && (match i.kind with
    | .tx x => (if i.moved then [x.second] else [x.first, x.second]).any (fun a => decide (a.slotLo < hi) && decide (lo < a.slotHi))
    | _ => false))

/-- Slots that the Drone's tracking windows hold against transmissions accepted after them (R132). -/
def trackingSlotsTaken (s : State) (lo hi : Nat) : Bool :=
  s.items.any (fun i => !i.decided && (match i.owner, i.kind with
    | .tracking _, .rx x => !x.closed && decide (asn i.committed < hi) && decide (lo * slotU < x.closeAt)
    | _, _ => false))

/-- Receive windows open in a slot (RX_LIMIT). -/
def rxInSlot (s : State) (slot : Nat) : Nat :=
  (s.items.filter (fun i => !i.decided && (match i.kind with
    | .rx x => !x.closed && decide (asn i.committed ≤ slot) && decide (slot * slotU < x.closeAt)
    | _ => false))).length

/-- Is a position free for the whole occupancy of the item (R89, R132, R145)? -/
def posFree (s : State) (r : Req) (p : Pos) : Bool :=
  if r.isTx then
    !txSlotsTaken s p.slotLo p.slotHi && !trackingSlotsTaken s p.slotLo p.slotHi &&
      pauseOk s p.acct (p.start - r.tx.rampU - r.tx.femU) (p.start + r.tx.airU + r.tx.rampU)
  else allSlots (fun x => decide (rxInSlot s x < s.get F.CHN_CFG_RX_LIMIT)) p.slotLo (p.slotHi - p.slotLo)

/-! ### Repair positions (R96 to R98, R127) -/

/-- The repair candidate that starts with slot `slot`, in bank `b`, for a first attempt `c`.  In CLASS mode it lies later
in the same position of the class, or is the endpoint's position in the next epoch (R97). -/
def repairIn (s : State) (b : Nat) (r : Req) (c : Pos) (slot : Nat) : Option Pos :=
  let r' := if r.beacon then { r with code := c.code ^^^ 4 } else r
  match r.pmode with
  | 0 => cellCandidate s b r' slot
  | 1 =>
      let k := r.arg % 16
      let fin := (classPosition s b k (r.tx.dstEndpoint.getD 0) (asn c.start)).1 + s.get (F.CHN_AC_CFG_POS_DUR b k)
      let l := sfLen s b (s.get (F.CHN_AC_CFG_SF_ID b k))
      if slot < fin then
        let p := txPos s r (slot * slotU + txOffsetU s) c.bin c.code
        if p.bodyHi ≤ fin ∧ allSlots (classOffers s b k) slot (p.bodyHi - slot) then some p else none
      else if slot / l = asn c.start / l + 1 then classCandidate s b r slot
      else none
  | _ => freeCandidate s b r' slot

/-- The repair candidate that starts with slot `slot`, in the bank in force there. -/
def repairCandidate (s : State) (r : Req) (c : Pos) (slot : Nat) : Option Pos := inForce s slot (fun b => repairIn s b r c slot)

/-- The first free repair position in the slots from `slot` upward (R96). -/
def repairFrom (s : State) (r : Req) (c : Pos) (slot : Nat) : Nat → Option Pos
  | 0 => none
  | n + 1 =>
      match repairCandidate s r c slot with
      | some p =>
          if p.slotLo ≥ c.slotHi ∧ posFree s r p then some p
          else repairFrom s r c (slot + 1) n
      | none => repairFrom s r c (slot + 1) n

/-- The repair position of a first attempt: within REPAIR_HORIZON slots, after the first occupancy; a receive window
needs none (R98); a beacon's lies exactly REPAIR_DELAY slots later: sought there in CELL and FREE mode, the earliest
position tested for it in AT mode (R97, R127; notes/assumptions/12.md). -/
def repairOf (s : State) (r : Req) (c : Pos) : Option Pos :=
  if !r.isTx then some c
  else
    let h := s.get F.CHN_CFG_REPAIR_HORIZON
    if r.beacon && r.pmode != 3 then
      let k := s.get F.MAC_DRONE_REPAIR_DELAY
      if h < k then none else (repairFrom s r c (asn c.start + k) 1).filter (fun p => p.start == c.start + k * slotU)
    else
      (repairFrom s r c c.slotHi (asn c.start + h + 1 - c.slotHi)).filter
        (fun p => !r.beacon || p.start == c.start + s.get F.MAC_DRONE_REPAIR_DELAY * slotU)

/-! ### The search of R89 -/

/-- Result of a search: the pair found, and whether some candidate was free. -/
structure Found where
  pair : Option (Pos × Pos)
  someFree : Bool
  deriving DecidableEq, Repr

/-- Try one candidate. -/
def tryCandidate (s : State) (r : Req) (c : Pos) : Found :=
  if posFree s r c then
    match repairOf s r c with
    | some p => ⟨some (c, p), true⟩
    | none => ⟨none, true⟩
  else ⟨none, false⟩

/-- Search the slots from `slot` upward, `n` of them, for candidates that start in [tmin, latest], at most `left`.  DESIGN
CHOICE: what counts toward the limit of 64 is a position that the schedule offers the item; a cell that matches but is too
short, shadowed or unusable is not one (notes/assumptions/97.md). -/
def searchFrom (s : State) (r : Req) (tmin latest slot left : Nat) (free : Bool) : Nat → Found
  | 0 => ⟨none, free⟩
  | n + 1 =>
      if left = 0 ∨ latest < slot * slotU then ⟨none, free⟩
      else
        match candidate s r slot with
        | some c =>
            if c.start < tmin ∨ latest < c.start then searchFrom s r tmin latest (slot + 1) left free n
            else
              let f := tryCandidate s r c
              match f.pair with
              | some _ => f
              | none => searchFrom s r tmin latest (slot + 1) (left - 1) (free || f.someFree) n
        | none => searchFrom s r tmin latest (slot + 1) left free n

/-- T_min of a decision taken now (R86). -/
def tMin (s : State) : Nat := s.net + s.get F.CHN_CFG_MIN_LEAD * tickU
/-- The end of the admission horizon of a decision taken now (R86). -/
def horizonEnd (s : State) : Nat := (asn s.net + 16384) * slotU
/-- The latest first-attempt start (R86). -/
def latestStart (s : State) (deadline : Nat) : Nat := if deadline = 0 then horizonEnd s - 1 else deadline
/-- Is the latest start unreachable (0x0802)? -/
def unreachable (s : State) (deadline : Nat) : Bool :=
  decide (latestStart s deadline < tMin s) || decide (horizonEnd s ≤ latestStart s deadline)

/-- The search of an item placed on the schedule (R89). -/
def searchItem (s : State) (r : Req) : Found :=
  if r.pmode = 3 then tryCandidate s r (atCandidate s r r.deadline)
  else searchFrom s r (tMin s) (latestStart s r.deadline) (asn (tMin s)) 64 false 16385

/-- Slot starts tried for the hint of an AT item (R90). -/
def hintAtFrom (s : State) (r : Req) (slot : Nat) : Nat → Nat
  | 0 => 0
  | n + 1 =>
      let start := slot * slotU + (if r.isTx then txOffsetU s else 0)
      if horizonEnd s ≤ start then 0
      else if start < tMin s then hintAtFrom s r (slot + 1) n
      else match (tryCandidate s r (atCandidate s r start)).pair with
        | some p => p.1.start
        | none => hintAtFrom s r (slot + 1) n

/-- The hint of a refusal with 0x0801 or 0x0805 (R90). -/
def hintOf (s : State) (r : Req) : Nat :=
  if r.pmode = 3 then hintAtFrom s r (asn (tMin s)) 16385
  else match (searchFrom s r (tMin s) (horizonEnd s - 1) (asn (tMin s)) 16385 false 16385).pair with
    | some p => p.1.start
    | none => 0

/-! ### Flash and skein positions (Table 3-5) -/

/-- Is [lo, hi) free of accepted flash items in a bank? -/
def bankFree (s : State) (bank lo hi : Nat) : Bool :=
  s.items.all (fun i => i.decided || (match i.kind with
    | .flash f => f.bank != bank || ([i.committed] ++ i.repairAt.toList).all (fun t => decide (hi ≤ t) || decide (t + f.maxU ≤ lo))
    | _ => true))

/-- The first slot start from `slot` at which a bank is free for a span. -/
def flashSlotFrom (s : State) (bank span latest slot : Nat) : Nat → Option Nat
  | 0 => none
  | n + 1 =>
      let t := slot * slotU
      if latest < t then none
      else if bankFree s bank t (t + span) then some t
      else flashSlotFrom s bank span latest (slot + 1) n

/-- First slot start at or after a timestamp. -/
def slotAfter (t : Nat) : Nat := (t + slotU - 1) / slotU

/-- The first pair of a free candidate and a repair for it, from point `k` of a grid of `unit`, up to `latest`, among at
most `left` of the points that are candidates (R89): a free candidate without a repair is noted and passed over. -/
def pairFrom (isCandidate isFree : Nat → Bool) (repair : Nat → Option Nat) (unit span latest k left : Nat) (free : Bool) :
    Nat → Found
  | 0 => ⟨none, free⟩
  | n + 1 =>
      let t := k * unit
      if left = 0 ∨ latest < t then ⟨none, free⟩
      else if !isCandidate t then pairFrom isCandidate isFree repair unit span latest (k + 1) left free n
      else if isFree t then
        match repair t with
        | some u => ⟨some (rxPos t (t + span) 0 0, rxPos u (u + span) 0 0), true⟩
        | none => pairFrom isCandidate isFree repair unit span latest (k + 1) (left - 1) true n
      else pairFrom isCandidate isFree repair unit span latest (k + 1) (left - 1) free n

/-- First attempt and repair of a flash item, among `left` candidates: slot starts at which the bank has no accepted flash
item (Table 3-5). -/
def flashPair (s : State) (bank span latest left : Nat) : Found :=
  let h := s.get F.CHN_CFG_REPAIR_HORIZON
  pairFrom (fun t => bankFree s bank t (t + 1)) (fun t => bankFree s bank t (t + span))
    (fun t => flashSlotFrom s bank span ((asn t + h) * slotU) (slotAfter (t + span)) (h + 1))
    slotU span latest (slotAfter (tMin s)) left false 16385

/-- One skein frame in timestamp units. -/
def frameUnit : Nat := 262144

/-- Does no accepted message hold the skein frame at `t`? -/
def frameFree (s : State) (t : Nat) : Bool :=
  s.items.all (fun i => i.decided || (match i.kind with
    | .skein _ => i.committed != t && i.repairAt != some t
    | _ => true))

/-- Insert a charge in order of its frame. -/
def insertCharge (x : Nat × Nat) : List (Nat × Nat) → List (Nat × Nat)
  | [] => [x]
  | y :: r => if x.1 ≤ y.1 then x :: y :: r else y :: insertCharge x r

/-- The departures of accepted skein items that are still to come, as (frame, bytes), in order: their committed frames
and their repair reservations. -/
def skeinCharges (s : State) : List (Nat × Nat) :=
  (s.items.flatMap (fun i => match i.kind with
    | .skein k => if i.decided || k.sentAt.isSome || k.held then []
        else ([i.committed] ++ i.repairAt.toList).map (fun t => (t / frameUnit, k.payload.length + 22))
    | _ => [])).foldr insertCharge []

/-- The bucket after a gain of SHARE bytes for each frame from one frame to a later one (R331). -/
def bucketGain (s : State) (lvl fromFrame toFrame : Nat) : Nat :=
  Nat.min 4096 (lvl + s.get F.SKN_MSG_SHARE * (toFrame - fromFrame))

/-- The bucket at frame `f`, after every earlier departure has been charged (R331). -/
def bucketAt (s : State) (f : Nat) : Nat :=
  let r := ((skeinCharges s).filter (fun c => decide (c.1 < f))).foldl (fun (b : Nat × Nat) c =>
    let at_ := Nat.max b.2 c.1
    (bucketGain s b.1 b.2 at_ - c.2, at_)) (s.skn.bucket, s.skn.bucketFrame)
  bucketGain s r.1 r.2 f

/-- The first free skein frame from frame `k`, up to `latest`, for a message of `len` bytes (R331). -/
def skeinFrameFrom (s : State) (len latest k : Nat) : Nat → Option Nat
  | 0 => none
  | n + 1 => if latest < k * frameUnit then none
      else if frameFree s (k * frameUnit) && decide (len + 22 ≤ bucketAt s k) then some (k * frameUnit)
      else skeinFrameFrom s len latest (k + 1) n

/-- First attempt and repair of a skein item of `len` bytes, among `left` frame starts. -/
def skeinPair (s : State) (len latest left : Nat) : Found :=
  let h := s.get F.CHN_CFG_REPAIR_HORIZON
  pairFrom (fun _ => true) (fun t => frameFree s t && decide (len + 22 ≤ bucketAt s (t / frameUnit)))
    (fun t => skeinFrameFrom s len ((asn t + h) * slotU + slotU - 1) (t / frameUnit + 1) (16 * (h + 1)))
    frameUnit frameUnit latest ((tMin s + frameUnit - 1) / frameUnit) left false 262145

end Sys2Proof.Machine
end

