-- ==== Sys2Proof/Machine/Rings.lean ====
section
/-! DEFINITION. The ring engine's shared operations: which ring is served next, the checks before admission, the writing
of completions and records, and interrupt moderation (R40 to R58, R566). -/

namespace Sys2Proof.Machine

/-- Host-to-device and device-to-host rings (Table 2-3). -/
def isSubmission (n : Nat) : Bool := decide (n ≤ 13)
def isCompletion (n : Nat) : Bool := decide (16 ≤ n ∧ n ≤ 20)

/-- Entries of a ring (R40). -/
def ringSize (s : State) (n : Nat) : Nat := 2 ^ s.get (F.HRE_RING_CFG_SIZE_LOG2 n)
/-- Base address of a ring. -/
def ringBase (s : State) (n : Nat) : Nat :=
  s.get (F.HRE_RING_BASE_LO_ADDR n) * 4096 + s.get (F.HRE_RING_BASE_HI_ADDR n) * 2 ^ 32
/-- Enabled and not stopped on an error: a completion ring that can be named (R55, R566). -/
def ringUp (s : State) (n : Nat) : Bool := s.on (F.HRE_RING_CFG_EN n) && !s.on (F.HRE_RING_STATUS_ERR n)

/-- Completions decided, not yet written, that hold no reservation (R56). -/
def unreservedWaiting (s : State) (n : Nat) : Nat := (s.hre.outq.filter (fun c => c.cring == n && c.item.isNone)).length

/-- Free completion space of ring `n` for an item of ring `from` (R56). -/
def freeSpace (s : State) (n : Nat) (fromRing : Nat) : Nat :=
  ringSize s n - (s.ring n).unreleased - reservedEntries s n - unreservedWaiting s n
    - (if n = 16 ∧ fromRing ≠ 0 then s.get F.HRE_CFG_CTRL_RESERVE else 0)

/-- Entries of ring 16 left for a further ring 0 descriptor: what is written or reserved is gone, and every ring 0
descriptor that has not been answered holds one: fetched, waiting for its write, a FENCE_ALL, a BANK_SWAP at the crossing
(R59).  Completions of other rings never take the control reserve. -/
def controlSpace (s : State) : Nat :=
  ringSize s 16 - (s.ring 16).unreleased - reservedEntries s 16
    - (s.hre.outq.filter (fun c => c.cring == 16 && c.item.isNone && c.ring == 0)).length
    - s.hre.fences.length - s.chn.crossing.length - (s.hre.fetched.filter (fun f => f.ring == 0)).length

/-- The ring check (R39, R40, R52): the code that refuses the enable. -/
def ringCheck (s : State) (n : Nat) : Option Nat :=
  if !isSubmission n && !isCompletion n then some 0x0413
  else
    let k := s.get (F.HRE_RING_CFG_SIZE_LOG2 n)
    if k < 4 ∨ 16 < k then some 0x040F
    else if s.relay && !(decide (0x20000000 ≤ ringBase s n) && decide (ringBase s n + 2 ^ k * 32 ≤ 0x200C0000)) then some 0x040E
    else none

/-- Move a ring's HEAD to the next slot; the phase inverts at the wrap (R43). -/
def State.advanceHead (s : State) (n : Nat) : State :=
  let h := s.get (F.HRE_RING_HEAD_INDEX n) + 1
  if ringSize s n ≤ h then (s.put (F.HRE_RING_HEAD_INDEX n) 0).put (F.HRE_RING_HEAD_PHASE n) (1 - s.get (F.HRE_RING_HEAD_PHASE n))
  else s.put (F.HRE_RING_HEAD_INDEX n) h

/-! ### Arbitration (R45, R51, R53, R59) -/

/-- Is an earlier descriptor of ring `n` fetched and not yet decided (R54)? -/
def earlierUndecided (s : State) (n : Nat) : Bool :=
  s.hre.fetched.any (fun f => f.ring == n) || (busyRings s).contains n

/-- Has ring `n` a descriptor that may be fetched now? -/
def ringReady (s : State) (n : Nat) : Bool :=
  s.en Blk.HRE && ringUp s n && !(s.ring n).waitDb && (s.ring n).db != s.get (F.HRE_RING_HEAD_INDEX n)
    && (!(s.ring n).fenced || (s.ring n).openItems == 0)
    && (n == 0 || !s.on F.HRE_STATUS_DRAINING)
    && (!(s.ring n).held || !earlierUndecided s n)
    && (n != 0 || !ringUp s 16 || decide (0 < controlSpace s))
    && (n != 12 || s.upd.aliveBy.isNone)

/-- The first ready ring of a list. -/
def firstReady (s : State) : List Nat → Option Nat
  | [] => none
  | n :: r => if ringReady s n then some n else firstReady s r

/-- Rings 9 to 13 in turn, after the one served last. -/
def turnOrder (last : Nat) : List Nat := (List.range 5).map (fun i => 9 + (last - 9 + 1 + i) % 5)

/-- The ring that is served next: ring 0 first; one turn of rings 9 to 13 after four descriptors of rings 1 to 8 while
both groups have work; rings 1 to 8 in order of id (R53). -/
def nextRing (s : State) : Option Nat :=
  if ringReady s 0 then some 0
  else
    let a := firstReady s [1, 2, 3, 4, 5, 6, 7, 8]
    let b := firstReady s (turnOrder s.hre.rrLast)
    match a, b with
    | some x, some y => if 4 ≤ s.hre.rrCount then some y else some x
    | some x, none => some x
    | none, y => y

/-- Note which ring was served. -/
def State.served (s : State) (n : Nat) : State :=
  if n = 0 then s
  else if n ≤ 8 then
    { s with hre := { s.hre with rrCount := if (firstReady s [9, 10, 11, 12, 13]).isSome then s.hre.rrCount + 1 else 0 } }
  else { s with hre := { s.hre with rrCount := 0, rrLast := n } }

/-! ### The checks of R55 -/

/-- Opcodes valid on a ring (Table 2-9). -/
def opcodeOnRing (n op : Nat) : Bool :=
  if n = 0 then [1, 2, 3, 4, 5, 6].contains op
  else if n ≤ 8 then [1, 0x10, 0x11, 0x12, 0x13, 0x14, 0x20].contains op
  else if n = 9 then [1, 0x21].contains op
  else if n = 10 then [1, 0x30, 0x31, 0x32, 0x33].contains op
  else if n = 11 then [1, 0x40, 0x41, 0x42, 0x43, 0x44].contains op
  else if n = 12 then [1, 0x50, 0x51, 0x52, 0x53].contains op
  else if n = 13 then [1, 0x60, 0x61].contains op
  else false

/-- A transmit opcode, which needs a staging entry. -/
def isTxOp (op : Nat) : Bool := decide (0x10 ≤ op ∧ op ≤ 0x14)

/-- Are the reserved bits of a descriptor 0 (R15, R41; OPSPEC of rings 1 to 8 by Tables 3-4, 4-6, 6-2 and R172)? -/
def reservedClear (op : Nat) (ws : List Word) : Bool :=
  let sel := wbits ws 7 31 16
  wbits ws 0 14 13 == 0 && wbits ws 1 31 20 == 0 &&
  (if isTxOp op || op == 0x20 then
      (if sel / 2 ^ 14 = 1 then bits sel 13 4 == 0 else if 2 ≤ sel / 2 ^ 14 then bits sel 13 0 == 0 else true)
    else true) &&
  (if op == 0x10 || op == 0x14 then wbits ws 6 31 25 == 0 && wbits ws 7 15 0 == 0
   else if op == 0x12 || op == 0x13 then wbits ws 6 31 24 == 0 && wbits ws 7 15 0 == 0
   else if op == 0x11 then wbits ws 6 7 1 == 0 && wbits ws 6 31 16 == 0
   else if op == 2 then wbits ws 6 31 8 == 0 && wbits ws 7 31 16 == 0
   else if op == 0x30 then wbits ws 6 31 27 == 0 && wordAt ws 7 == 0
   else if op == 0x31 || op == 0x32 then wbits ws 6 31 26 == 0 && wordAt ws 7 == 0
   else if op == 0x33 then wbits ws 6 31 5 == 0 && wordAt ws 7 == 0
   else if op == 0x40 then wbits ws 6 15 12 == 0 && wbits ws 6 31 21 == 0
   else if op == 0x41 then wbits ws 6 31 17 == 0 && wbits ws 7 31 15 == 0
   else if op == 0x42 then wordAt ws 6 == 0 && wordAt ws 7 == 0
   else if op == 0x43 then wbits ws 6 31 3 == 0 && wbits ws 7 31 16 == 0
   else if op == 0x44 then wbits ws 6 31 16 == 0 && wordAt ws 7 == 0
   else if op == 0x50 then wbits ws 6 31 16 == 0 && wbits ws 7 31 20 == 0
   else if op == 0x51 then wbits ws 6 31 1 == 0 && wordAt ws 7 == 0
   else if op == 0x52 then wordAt ws 6 == 0 && wordAt ws 7 == 0
   else if op == 0x53 then wbits ws 6 31 9 == 0 && wordAt ws 7 == 0
   else if op == 0x60 then wbits ws 6 31 16 == 0 && wordAt ws 7 == 0
   else if op == 0x61 then wbits ws 6 31 12 == 0 && wordAt ws 7 == 0
   else if op == 4 || op == 6 then wbits ws 6 31 1 == 0 && wordAt ws 7 == 0
   else true)

/-- Is LENGTH within the opcode's limit (R55; R114, R123, R126, R131, R172, R200, R203, R370 and the chapters of rings
11 to 13)? -/
def lengthOk (op : Nat) (ws : List Word) : Bool :=
  let n := wbits ws 1 15 0
  let inRange := fun a b => decide (a ≤ n ∧ n ≤ b)
  if op == 0x10 || op == 0x14 then inRange 5 (if wbits ws 6 24 24 = 1 then 238 else 240)
  else if op == 0x11 then inRange 1 125
  else if op == 0x12 then inRange 1 222
  else if op == 0x13 then inRange 12 139
  else if op == 0x20 then n == 0
  else if op == 0x21 then inRange 256 4096
  else if op == 6 then n == 8
  else if op == 0x30 then inRange 1 65535
  else if op == 0x31 then inRange 1 4096
  else if op == 0x32 || op == 0x33 || op == 0x61 then n == 0
  else if op == 0x60 then inRange 1 2048
  else if op == 0x40 then inRange 32 65535
  else if op == 0x41 then
    (match wbits ws 6 7 6 with
     | 0 => n == (if wbits ws 6 14 14 = 0 then 24 else 40)
     | 1 => n == (if wbits ws 6 14 14 = 0 then 16 else 32)
     | _ => true)
  else if op == 0x52 then n == 264 || n == 1288 || n == 1032
  else if op == 0x53 then (match wbits ws 6 7 0 with | 1 => n == 18 | 3 => decide (20 ≤ n) | _ => n == 0)
  else if op == 0x51 then (if wbits ws 6 0 0 = 0 then decide (502 ≤ n) else decide (2048 ≤ n))
  else if op == 0x50 && wbits ws 6 7 0 == 1 then
    (if wbits ws 6 15 8 == 1 || wbits ws 6 15 8 == 2 then decide (20 ≤ n)
     else if wbits ws 6 15 8 == 8 then decide (28 ≤ n) else true)
  else true

/-- Staging entries held: by descriptors on their way to admission and by accepted transmissions (R22). -/
def stagingHeld (s : State) : Nat :=
  (s.hre.fetched.filter (fun f => isTxOp (wbits f.words 0 7 0))).length +
  (s.chn.awaiting.filter (fun w => isTxOp (wbits w.words 0 7 0))).length +
  (s.items.filter (fun i => !i.decided && decide (i.idx < 4096))).length

/-- A service request for a service or command that does not exist (R274, R304). -/
def unknownService (ws : List Word) : Option Nat :=
  let svc := wbits ws 6 7 0
  let cmd := wbits ws 6 15 8
  if svc = 1 then (if 1 ≤ cmd ∧ cmd ≤ 8 then none else some 0x0AF6)
  else if svc = 2 then (if cmd = 1 then none else some 0x0CF6)
  else some 0x0AF6

/-- The first of the checks of R55 that a descriptor fails, as its code.  DESIGN CHOICE: check 4 is not applied to a ring 0
descriptor, whose CRING is ignored; its completion waits for ring 16 (notes/assumptions/22.md). -/
def preAdmission (s : State) (n : Nat) (ws : List Word) (fail : Bool) : Option Nat :=
  let op := wbits ws 0 7 0
  if !opcodeOnRing n op then some 0x0401
  else if !reservedClear op ws then some 0x0402
  else if !lengthOk op ws then some 0x0411
  else if n != 0 && !ringUp s (16 + wbits ws 0 12 11) then some 0x0410
  else if isTxOp op && decide (4096 ≤ stagingHeld s) then some 0x0405
  else if fail then some 0x0409
  else if op == 0x50 then unknownService ws
  else if op == 0x53 && (wbits ws 6 7 0 == 0 || decide (4 < wbits ws 6 7 0)) then some 0x0FF6
  else none

/-- Stop a ring with ERR (R55, R566).  The bit of HRE_ISR.RING is set; DESIGN CHOICE: it raises no vector, since R49
names signalled entries alone as what raises one (notes/assumptions/25.md). -/
def State.stopRing (s : State) (n reason : Nat) : State :=
  ((s.put (F.HRE_RING_STATUS_ERR n) 1).put (F.HRE_RING_STATUS_REASON n) reason).irq Blk.HRE (2 ^ n)

/-- Refuse a fetched descriptor; a refusal whose completion ring is disabled goes to ring 16, and if ring 16 is down
too, the submission ring stops (R55). -/
def State.refuseFetched (s : State) (n : Nat) (ws : List Word) (code : Nat) : State :=
  let cr := if n = 0 then 16 else 16 + wbits ws 0 12 11
  let target := if ringUp s cr then cr else 16
  if ringUp s target then s.complete n ws 3 code (cring := some target)
  else (s.setRing n (fun r => { r with openItems := r.openItems - 1 })).stopRing n 0x0410

/-! ### Interrupt moderation (R49) -/

/-- Raise the vector of ring `n` if its bit of HRE_IER is set, and count its entries as signalled. -/
def State.signalRing (s : State) (n : Nat) : State :=
  let s1 := s.setRing n (fun r => { r with sigCount := 0 })
  if bits (s.get F.HRE_IER_ENABLE) n n = 1 then
    let v := s.get (F.HRE_RING_CFG_VEC n)
    s1.vector v (16 + v)
  else s1

/-- A signalled entry has been written to ring `n`. -/
def State.signalled (s : State) (n : Nat) : State :=
  let s1 := (s.setRing n (fun r => { r with sigCount := r.sigCount + 1, sigSince := if r.sigCount = 0 then s.now else r.sigSince })).irq
    Blk.HRE (2 ^ n)
  if 2 ^ s.get (F.HRE_RING_CFG_MOD_COUNT n) ≤ (s1.ring n).sigCount then s1.signalRing n else s1

/-! ### Writing entries (R42, R44) -/

/-- The eight words of a completion, with a phase. -/
def complWords (c : Compl) (phase : Nat) : List Word :=
  [word (c.tag % 65536 + c.status * 65536 + phase * 2 ^ 31), word (c.reason + c.ring * 65536 + c.attempt * 2 ^ 24),
    loWord c.time, hiWord c.time, c.w4, c.w5, c.w6, c.w7]

/-- The words of a ring 20 record. -/
def recWords (r : Rec) (phase : Nat) : List Word :=
  [word (r.tag % 65536 + phase * 2 ^ 31), word r.reason, loWord r.time, hiWord r.time, r.w4, r.w5, r.w6, r.w7]

/-- Bytes of words, little-endian (R41). -/
def wordBytes (ws : List Word) : List Byte := ws.flatMap (fun w => leBytes 4 w.toNat)

/-- Write one 32-byte entry at HEAD of a device-to-host ring. -/
def State.writeEntry (s : State) (n : Nat) (ws : List Word) : State :=
  let a := ringBase s n + 32 * s.get (F.HRE_RING_HEAD_INDEX n)
  ((s.dma a (wordBytes ws)).advanceHead n).setRing n (fun r => { r with unreleased := r.unreleased + 1 })

/-- Has ring `n` room for an entry, and may the device write to it? -/
def canWrite (s : State) (n : Nat) : Bool :=
  s.en Blk.HRE && ringUp s n && decide ((s.ring n).unreleased < ringSize s n)

/-- May a decided completion be written into a ring that has a free entry (R54, R56, R59)?  One with a reservation may, a
final after its item's ADMITTED; one without leaves the reserved entries, and off ring 0 the control reserve, alone. -/
def mayWrite (s : State) (n : Nat) (c : Compl) : Bool :=
  match c.item with
  | some idx => !c.final || !s.hre.outq.any (fun q => q.status == 1 && q.w6 == word idx && q.ring == c.ring && q.item.isNone)
  | none => decide ((s.ring n).unreleased + reservedEntries s n
      + (if n = 16 ∧ c.ring ≠ 0 then s.get F.HRE_CFG_CTRL_RESERVE else 0) < ringSize s n)

/-- A write of ring `n` has failed: the ring stops and holds the entry (R566). -/
def State.failWrite (s : State) (n : Nat) : State := (s.stopRing n 0x0409).irq Blk.HRE (2 ^ 27)

/-- Remove an entry from the DRAINING list; the last one ends the drain (R32, R51). -/
def State.drained (s : State) (idx : Nat) : State :=
  let d := s.hre.draining.filter (fun k => k != idx)
  let s1 := { s with hre := { s.hre with draining := d } }
  if d.isEmpty && s.on F.HRE_STATUS_DRAINING then (s1.put F.HRE_STATUS_DRAINING 0).irq Blk.HRE (2 ^ 25) else s1

/-- What the write of a completion frees: a reserved entry, and with the final the promise-table entry and the
descriptor (R26, R27, R56). -/
def State.afterWrite (s : State) (c : Compl) : State :=
  let s1 := match c.item with
    | some idx =>
        if c.final && c.ring != 9 then ({ s with items := s.items.filter (fun i => i.idx != idx) }).drained idx
        else s.setItem idx (fun i => { i with entries := i.entries - 1 })
    | none => s
  let s2 := if c.final then s1.setRing c.ring (fun r => { r with openItems := r.openItems - 1 }) else s1
  s2.syncItems

/-- Drop a ring 20 record (R58). -/
def State.dropRecord (s : State) : State :=
  let s1 := { s with hre := { s.hre with lossCount := Nat.min (s.hre.lossCount + 1) 0xFFFFFFFF } }
  if s.en Blk.HRE then (s1.count F.HRE_EVT_LOST_COUNT).irq Blk.HRE (2 ^ 26) else s1

/-- The loss record (R58). -/
def lossRecord (s : State) : Rec := ⟨0x0401, 0x0414, s.net, word s.hre.lossCount, 0, 0, 0, false⟩

end Sys2Proof.Machine
end

