-- ==== Sys2Proof/Machine/BankCheck.lean ====
section
/-! DEFINITION. The consistency rules of a schedule bank, in the order of R110, and whether an accepted item keeps its
position in a bank (R76 to R82, R84, R110). -/

namespace Sys2Proof.Machine

/-- A fault of a check: its local code, the address FIELD gives, and the pool entry when it is a cell. -/
structure Fault3 where
  code : Nat
  field : Nat
  cell : Option Nat
  deriving DecidableEq, Repr

/-- The first of `n` pool entries from `i` with a field outside its range (Table 3-3). -/
def cellRange (s : State) (i : Nat) : Nat → Option Nat
  | 0 => none
  | n + 1 =>
      let c := s.cell i
      if cellKind c = 3 ∨ cellDur c = 0 ∨ (cellBin c ≠ 0x80 ∧ !binUsable (binOf (cellBin c))) then some i
      else cellRange s (i + 1) n

/-- The first of `n` pool entries from `i` that breaks the order or the length rules of R77.  DESIGN CHOICE: of an
out-of-order pair the earlier cell is the failing one (notes/assumptions/35.md). -/
def cellOrder (s : State) (len i : Nat) : Nat → Option Nat
  | 0 => none
  | n + 1 =>
      let c := s.cell i
      let fin := cellOffset c + cellDur c
      let limit := if n = 0 then len else cellOffset (s.cell (i + 1))
      if limit < fin ∨ (n ≠ 0 ∧ limit ≤ cellOffset c) then some i else cellOrder s len (i + 1) n

/-- Fields of slotframe `n` outside their range (kind 3 of R568); the pool has 65,536 entries, so a range that runs past it
is walked to its end and is a conflict (R77). -/
def sfRange (s : State) (b n : Nat) : Option Fault3 :=
  if !s.on (F.CHN_SF_CFG_EN b n) then none
  else if 65536 < s.get (F.CHN_SF_COUNT_CELL_COUNT b n) then some ⟨0xF6, Reg.CHN_SF_COUNT b n, none⟩
  else (cellRange s (s.get (F.CHN_SF_FIRST_FIRST_CELL b n))
      (Nat.min (s.get (F.CHN_SF_COUNT_CELL_COUNT b n)) (65536 - s.get (F.CHN_SF_FIRST_FIRST_CELL b n)))).map
    (fun i => ⟨0xF6, Reg.CHN_CELL_IDX, some i⟩)

/-- Do the cell ranges of two slotframes overlap (R77)? -/
def sfOverlap (s : State) (b m n : Nat) : Bool :=
  let f1 := s.get (F.CHN_SF_FIRST_FIRST_CELL b m)
  let c1 := s.get (F.CHN_SF_COUNT_CELL_COUNT b m)
  let f2 := s.get (F.CHN_SF_FIRST_FIRST_CELL b n)
  let c2 := s.get (F.CHN_SF_COUNT_CELL_COUNT b n)
  s.on (F.CHN_SF_CFG_EN b m) && decide (0 < c1) && decide (0 < c2) && decide (f1 < f2 + c2) && decide (f2 < f1 + c1)

/-- Conflicts of slotframe `n` (kind 4 of R568).  DESIGN CHOICE: of two overlapping ranges FIELD names FIRST of the later
slotframe (notes/assumptions/35.md). -/
def sfConflict (s : State) (b n : Nat) : Option Fault3 :=
  let f := s.get (F.CHN_SF_FIRST_FIRST_CELL b n)
  let c := s.get (F.CHN_SF_COUNT_CELL_COUNT b n)
  if !s.on (F.CHN_SF_CFG_EN b n) then none
  else if (List.range n).any (fun m => sfOverlap s b m n) then some ⟨0xF7, Reg.CHN_SF_FIRST b n, none⟩
  else if 65536 < f + c then some ⟨0xF7, Reg.CHN_SF_COUNT b n, none⟩
  else (cellOrder s (sfLen s b n) f c).map (fun i => ⟨0xF7, Reg.CHN_CELL_IDX, some i⟩)

/-- Fields of access class `k` outside their range. -/
def acRange (s : State) (b k : Nat) : Option Fault3 :=
  if !s.on (F.CHN_AC_CFG_EN b k) then none
  else
    let n := s.get (F.CHN_AC_CFG_BIN_COUNT b k)
    if s.get (F.CHN_AC_CFG_POS_DUR b k) = 0 ∨ !binUsable (binOf (s.get (F.CHN_AC_CFG_BIN_FIRST b k))) ∨ n < 1 ∨ 200 < n
    then some ⟨0xF6, Reg.CHN_AC_CFG b k, none⟩
    else if s.get (F.CHN_AC_POS_SPAN b k) = 0 then some ⟨0xF6, Reg.CHN_AC_POS b k, none⟩
    else none

/-- Does a cell among `n` entries from `i` cover an offset of [lo, hi) (R78)? -/
def cellTouches (s : State) (lo hi i : Nat) : Nat → Bool
  | 0 => false
  | n + 1 =>
      let c := s.cell i
      (decide (cellOffset c < hi) && decide (lo < cellOffset c + cellDur c)) || cellTouches s lo hi (i + 1) n

/-- Conflicts of access class `k`: bins beyond +99, a slotframe that is not enabled, a span beyond the slotframe, and a
position that shares an offset with a cell (R78, R81, R110). -/
def acConflict (s : State) (b k : Nat) : Option Fault3 :=
  if !s.on (F.CHN_AC_CFG_EN b k) then none
  else
    let sf := s.get (F.CHN_AC_CFG_SF_ID b k)
    let lo := s.get (F.CHN_AC_POS_FIRST_OFFSET b k)
    let hi := lo + s.get (F.CHN_AC_POS_SPAN b k) * s.get (F.CHN_AC_CFG_POS_DUR b k)
    if (99 : Int) < binOf (s.get (F.CHN_AC_CFG_BIN_FIRST b k)) + s.get (F.CHN_AC_CFG_BIN_COUNT b k) - 1 then
      some ⟨0xF7, Reg.CHN_AC_CFG b k, none⟩
    else if !s.on (F.CHN_SF_CFG_EN b sf) then some ⟨0xF7, Reg.CHN_AC_CFG b k, none⟩
    else if sfLen s b sf < hi then some ⟨0xF7, Reg.CHN_AC_POS b k, none⟩
    else if cellTouches s lo hi (s.get (F.CHN_SF_FIRST_FIRST_CELL b sf)) (s.get (F.CHN_SF_COUNT_CELL_COUNT b sf)) then
      some ⟨0xF7, Reg.CHN_AC_POS b k, none⟩
    else none

/-- The first result of a list of checks. -/
def firstSome {α : Type} : List (Option α) → Option α
  | [] => none
  | some x :: _ => some x
  | none :: r => firstSome r

/-- Step 3 of BANK_SWAP and the bank's part of the CHN enable check (R84, R110): every range fault comes before every
conflict (R568). -/
def bankCheck (s : State) (b : Nat) : Option Fault3 :=
  firstSome ((List.range 8).map (sfRange s b) ++ (List.range 16).map (acRange s b)
    ++ (List.range 8).map (sfConflict s b) ++ (List.range 16).map (acConflict s b))

/-- The position that an attempt of a transmission holds. -/
def posOf (a : Attempt) : Pos :=
  { start := a.time, slotLo := a.slotLo, slotHi := a.slotHi, bodyHi := a.slotHi, bin := a.bin, code := a.code
    listenUs := a.listenUs, acct := a.charge.acct, closeAt := 0, binCount := 1, cell := a.cell }

/-- What a search would ask for an accepted item, with the bin and code that an attempt has. -/
def keptReq (i : Item) (x : TxInfo) (bin : Int) (code : Nat) : Req :=
  { pmode := x.pmode, arg := x.arg, deadline := i.deadline, cellKind := if i.opcode = 0x12 ∨ i.opcode = 0x13 then 2 else 0
    isTx := true, tx := x, bin := bin, code := code, beacon := false, duration := 0, binFirst := 0, binCount := 0 }

/-- Is an attempt of a transmission at a position that bank `b` offers it: as a candidate, or for the repair as a repair
candidate of its first attempt (R87, R97)?  AT mode takes its first attempt wherever it lies. -/
def attemptFits (s : State) (b : Nat) (i : Item) (x : TxInfo) (repair : Bool) : Bool :=
  let a := if repair then x.second else x.first
  let r := keptReq i x a.bin a.code
  let slot := asn (a.time - txOffsetU s)
  let same := fun (p : Pos) => p.start == a.time && p.bin == a.bin && p.code == a.code
  if repair then (repairIn s b r (posOf x.first) slot).any same else x.pmode == 3 || (candidateIn s b r slot).any same

/-- Does an accepted item keep a valid position in bank `b` after boundary slot `bd` (R84 step 4)?  A window's position is
its start, its end and its bins. -/
def itemFits (s : State) (b bd : Nat) (i : Item) : Bool :=
  i.decided || (match i.kind with
    | .tx x =>
        (i.moved || decide (x.first.slotHi ≤ bd) || attemptFits s b i x false) &&
          (decide (x.second.slotHi ≤ bd) || attemptFits s b i x true)
    | .rx x =>
        let slot := asn i.committed
        let r : Req := { keptReq i { emptyTx with pmode := x.pmode, arg := x.arg } 0 0 with
          cellKind := 1, isTx := false, duration := asn (x.closeAt - 1) + 1 - slot, binFirst := x.binFirst, binCount := x.binCount }
        x.closed || x.pmode == 3 || decide (asn (x.closeAt - 1) < bd) || (candidateIn s b r slot).any (fun p =>
          p.start == i.committed && p.closeAt == x.closeAt && p.bin == x.binFirst && p.binCount == x.binCount)
    | _ => true)

end Sys2Proof.Machine
end

