-- ==== Sys2Proof/Machine/Admission.lean ====
section
/-! DEFINITION. The admission test: the gate, the checks in the order of R89, the reservations, the ADMITTED notice and
the refusal (R25, R86 to R92, R138). -/

namespace Sys2Proof.Machine

/-- The code of the lowest-numbered latched alarm source, if any (R89, Table 9-5). -/
def alarmCode (s : State) : Option Nat :=
  let src := s.get F.SEC_ALARM_SRC
  ((List.range 6).find? (fun k => bits src k k == 1)).map (fun k => 0x1601 + k)

/-- Economy without its hold: VSUP has not risen above the warning level plus hysteresis (R359, R360). -/
def belowWarning (s : State) : Bool := s.on F.BLW_STATUS_ECONOMY && !s.on F.BLW_STATUS_HOLD

/-- Is a core in debug halt with DEBUG_MUTE set (R520)? -/
def debugMuted (s : State) : Bool := s.on F.CPX_DBG_DEBUG_MUTE && anyHalted s

/-- The gate of R89, in the precedence of R7; `path` says whether the skein path of a skein-bound item is lost. -/
def gate (s : State) (path : Bool) : Option Nat :=
  if s.on F.CHN_STATUS_FAULT then some 0x0807
  else match alarmCode s with
    | some c => some c
    | none =>
      if belowWarning s then some 0x0101
      else if !refValid s then some 0x0201
      else if quenchOn s then some 0x0406
      else if path then some 0x0D01
      else none

/-- Does an item depend on the parent: CELL mode with the parent's LINK (R138)? -/
def parentLink (s : State) (pmode arg : Nat) : Bool :=
  s.get F.MAC_CFG_TIME_SRC == 1 && s.on F.MAC_SYNC_STATUS_PARENT_V && pmode == 0 &&
    arg == s.get (F.MAC_NBR_ADDR_LINK (s.get F.MAC_SYNC_STATUS_PARENT))

/-- Is the parent lost (RECOVERY, ACQUIRE or ORPHAN, R138)? -/
def parentGone (s : State) : Bool := decide (5 ≤ s.get F.MAC_SYNC_STATUS_STATE)

/-- The refusal of R138 for a timed item of rings 1 to 8. -/
def parentTest (s : State) (w : Waiting) : Option Nat :=
  let dep := match w.kind with
    | .tx x => parentLink s x.pmode x.arg
    | .rx x => parentLink s x.pmode x.arg
    | _ => false
  if w.owner != .host then none
  else if decide (1 ≤ w.ring % 32) && decide (w.ring % 32 ≤ 8) && s.get F.MAC_SYNC_STATUS_STATE == 1 then some 0x0904
  else if dep && parentGone s then some 0x0904
  else none

/-- Is the item's half of the promise table full, or its priority limit reached (R92)? -/
def tableFull (s : State) (tx : Bool) (prio : Nat) : Bool :=
  let used := if tx then txUsed s else timedUsed s
  let lim := match prio with
    | 0 => 4096
    | 1 => s.get F.CHN_PRIO_LIM_LIM1 * 64
    | 2 => s.get F.CHN_PRIO_LIM_LIM2 * 64
    | _ => s.get F.CHN_PRIO_LIM_LIM3 * 64
  decide (4096 ≤ used) || decide (lim ≤ used)

/-- The request of a waiting item. -/
def reqOf (w : Waiting) : Req :=
  let dl := wordAt w.words 2 + wordAt w.words 3 * 2 ^ 32
  let op := wbits w.words 0 7 0
  match w.kind with
  | .tx x => { pmode := x.pmode, arg := x.arg, deadline := dl, cellKind := if op = 0x12 ∨ op = 0x13 then 2 else 0,
               isTx := true, tx := x, bin := x.first.bin, code := x.first.code,
               beacon := op == 0x12, duration := 0, binFirst := 0, binCount := 0 }
  | .rx x => { pmode := x.pmode, arg := x.arg, deadline := dl, cellKind := 1, isTx := false,
               tx := emptyTx,
               bin := 0, code := 0, beacon := false, duration := x.closeAt,
               binFirst := x.binFirst, binCount := x.binCount }
  | _ => { pmode := 3, arg := 0, deadline := dl, cellKind := 3, isTx := false,
           tx := emptyTx,
           bin := 0, code := 0, beacon := false, duration := 0, binFirst := 0, binCount := 0 }

/-- The placed attempt of a transmission, with its planned charge (R141). -/
def placeAttempt (s : State) (x : TxInfo) (p : Pos) : Attempt :=
  { time := p.start, bin := p.bin, code := p.code, slotLo := p.slotLo, slotHi := p.slotHi, listenUs := p.listenUs, cell := p.cell
    charge :=
      let b := occupiedBins s x.carrier p.bin
      let lo := s.localOf (p.start - x.rampU - x.femU)
      let u := x.femU + x.rampU + x.airU + x.rampU
      ⟨p.acct, b.1, b.2, lo, usCeil u, lo + u⟩ }

/-! ### Building the frame at its committed time (R124, R125) -/

/-- SOURCE and DEPTH of this device's beacons (Table 4-7). -/
def beaconSource (s : State) : Nat :=
  match s.get F.MAC_CFG_TIME_SRC with
  | 0 => 0
  | 1 => match s.get F.MAC_SYNC_STATUS_STATE with
    | 7 => 4
    | 5 => 3
    | 6 => 3
    | _ => 1
  | _ => if s.get F.SKN_HOLDOVER_MS = 0 then 2 else 3
def beaconDepth (s : State) : Nat := if s.get F.MAC_CFG_TIME_SRC = 1 then Nat.min (s.mac.parentDepth + 1) 15 else 0

/-- The smallest `n` ≤ `fuel` + `n` with 2^n at or above `v`. -/
def log2Up (v n : Nat) : Nat → Nat
  | 0 => n
  | k + 1 => if v ≤ 2 ^ n then n else log2Up v (n + 1) k

/-- ACC of this device's beacons (Table 4-7): MAC_BCN.ACC with the host as time source; in a skein the bound of R325, 12 ns
a hop where its own upstream link is at low rate, and what a holdover adds (R327).  DESIGN CHOICE: a device that tracks a
parent, whose bound the spec gives no formula for, sends 0xFF, unknown (notes/assumptions/101.md). -/
def beaconAcc (s : State) : Nat :=
  match s.get F.MAC_CFG_TIME_SRC with
  | 0 => s.get F.MAC_BCN_ACC
  | 1 => 0xFF
  | _ =>
      let up := s.get F.SKN_STATUS_UPPORT
      let hop := if up ≠ 3 && s.on (F.SKN_PORT_STATUS_LOW_RATE up) then 12 else 4
      log2Up (40 + hop * s.get F.SKN_STATUS_HOPS + s.get F.SKN_TIME_HOLD_PPB * s.get F.SKN_HOLDOVER_MS / 1000) 0 40

/-- Bytes 0 to 12 of a beacon's payload (Table 4-7). -/
def beaconHead (s : State) (committed : Nat) : List Byte :=
  leBytes 8 committed ++ leBytes 1 (s.get F.MAC_DRONE_PERIOD_LOG2) ++ leBytes 1 (beaconDepth s + beaconSource s * 16)
    ++ leBytes 1 (beaconAcc s) ++ leBytes 1 (s.get F.MAC_BCN_LEAP)
    ++ leBytes 1 (s.get F.MAC_CFG_REGION + s.get F.MAC_DRONE_REPAIR_DELAY * 4)

/-- CTIME of a committed time (R124). -/
def ctimeOf (committed : Nat) : Nat := bits committed 41 26

/-- The sealed PHY payload of a native frame. -/
def buildFrame (s : State) (committed : Nat) (z : Seal) : List Byte :=
  let body := if fctlType z.fctl = 1 then beaconHead s committed ++ z.body else z.body
  sealFrame z.key z.fctl z.dst z.src z.fcnt (if fctlCt z.fctl = 1 then some (ctimeOf committed) else none) body

/-! ### Refusal and acceptance -/

/-- The same item one slot later (R266). -/
def Waiting.later (w : Waiting) : Waiting :=
  let dl := wordAt w.words 2 + wordAt w.words 3 * 2 ^ 32 + slotU
  { w with words := w.words.take 2 ++ [loWord dl, hiWord dl] ++ w.words.drop 4 }

/-- Does a JOIN_ACCEPT moved one slot later still end within 3 s of its request (R266)? -/
def joinInTime (s : State) (k : Nat) (w : Waiting) : Bool :=
  let dl := wordAt w.words 2 + wordAt w.words 3 * 2 ^ 32 + slotU
  let air := match w.kind with | .tx x => x.airU | _ => 0
  s.esm.joins.any (fun j => j.k == k && decide (dl + air ≤ j.requestEnd + 3 * secondU))

/-- Refuse a waiting item: a REFUSED completion, or for an item of the device's own a ring 20 record (R89, R90).  A
refused JOIN_ACCEPT moves one slot later, and a refused checkpoint item is submitted again 1 s later (R266, R270). -/
def State.refuseItem (s : State) (w : Waiting) (code w4 w5 : Nat) : State :=
  let s1 := countBellows s code
  match w.owner with
  | .host => s1.refuse w.ring w.words code w4 w5
  | .join k =>
      if (code = 0x0801 ∨ code = 0x0901) ∧ joinInTime s1 k w then
        { s1 with chn := { s1.chn with awaiting := s1.chn.awaiting ++ [w.later] } }
      else (s1.ownerEnd w.owner 3 code).record (ownerTag w.owner) code (w4 := 0xFF)
  | .checkpoint =>
      let c := s1.esm.ckpt.map (fun (c : Ckpt) => { c with inFlight := false, retryAt := some (s1.now + secondU) })
      { s1 with esm := { s1.esm with ckpt := c } }.record (ownerTag w.owner) code (w4 := 0xFF)
  | .dist d =>
      -- a refused carousel frame is retried at the next turn (R412)
      { s1 with upd := { s1.upd with dist := modAt (fun (x : DistSlot) =>
        { x with campaign := x.campaign.map (fun (c : Campaign) => { c with cursor := c.cursor - 1 }) }) s1.upd.dist d } }.record
        (ownerTag w.owner) code (w4 := 0xFF)
  | o => s1.record (ownerTag o) code (w4 := 0xFF)

/-- The ADMITTED notice of an accepted item (R91). -/
def State.notice (s : State) (w : Waiting) (idx committed rep : Nat) : State :=
  if w.owner == .host && wbits w.words 0 9 9 == 1 && s.on F.HRE_CFG_NOTICE_EN then
    { s with hre := { s.hre with outq := s.hre.outq ++
        [⟨complRing w.ring w.words, wbits w.words 0 31 16, 1, 0, w.ring, 0, committed,
          loWord rep, hiWord rep, word idx, 0, false, none, false⟩] } }
  else s

/-- Take every reservation of an item at once (R25). -/
def State.accept (s : State) (w : Waiting) (idx : Nat) (k : ItemKind) (committed : Nat) (rep : Option Nat)
    (entries buffers e1 e2 : Nat) : State :=
  let i : Item := {
    idx := idx, seq := s.chn.seq, owner := w.owner, ring := if w.owner == .host then w.ring else 0xFF
    tag := wbits w.words 0 31 16, opcode := wbits w.words 0 7 0
    cring := if w.owner == .host then complRing w.ring w.words else 0xFF
    irq := wbits w.words 0 8 8 == 1, prio := wbits w.words 1 17 16, eclass := wbits w.words 1 19 18
    deadline := wordAt w.words 2 + wordAt w.words 3 * 2 ^ 32
    committed := committed, repairAt := rep, moved := false, started := false, startTime := committed, decided := false
    entries := if w.owner == .host then entries else 0, buffers := if w.owner == .host then buffers else 0
    e1 := e1, e2 := e2, period := periodOf s (s.localOf committed), kind := k }
  ({ s with items := s.items ++ [i], chn := { s.chn with seq := s.chn.seq + 1 } }).syncItems.notice w idx committed (rep.getD 0)

/-- The energy check and the acceptance of a placed item (R89, last part). -/
def State.energyAndAccept (s : State) (w : Waiting) (idx : Nat) (k : ItemKind) (committed spanU : Nat) (rep : Option Nat)
    (entries buffers : Nat) : State :=
  let ch := chargesOf s spanU k
  match bellows s (wbits w.words 1 19 18) (periodOf s (s.localOf committed)) ch.1 ch.2.1 ch.2.2 with
  | some code => s.refuseItem w code 0 0
  | none => s.accept w idx k committed rep entries buffers ch.2.1 ch.2.2

/-- The search of a waiting item; the Drone's own beacon is sought in the period that it is for (R126). -/
def searchWaiting (s : State) (w : Waiting) (r : Req) : Found :=
  match w.owner with
  | .droneBeacon =>
      let p := 2 ^ s.get F.MAC_DRONE_PERIOD_LOG2 * slotU
      let lo := Nat.max (tMin s) (s.mac.beaconFor * p)
      searchFrom s r lo (Nat.min (horizonEnd s) ((s.mac.beaconFor + 1) * p) - 1) (asn lo) 64 false 16385
  | _ => searchItem s r

/-- The schedule, airtime and energy checks of a transmission or window.  A carrier or bins that a cell or an access class
gives are tested once the position is known (R189, R220; DESIGN CHOICE, notes/assumptions/97.md). -/
def State.placeRadio (s : State) (w : Waiting) (idx : Nat) : State :=
  let r := reqOf w
  if r.pmode = 3 ∧ r.deadline = 0 then s.refuseItem w 0x08F6 0 0
  else if unreachable s r.deadline then s.refuseItem w 0x0802 0 0
  else
    let f := searchWaiting s w r
    match f.pair with
    | none =>
        let h := hintOf s r
        s.refuseItem w (if f.someFree then 0x0805 else 0x0801) (h % 2 ^ 32) (h / 2 ^ 32)
    | some (c, p) =>
        if r.isTx && !r.tx.wide && !(binCarrierOk s c.bin && binCarrierOk s p.bin) then s.refuseItem w 0x0501 0 0
        else if !r.isTx && !inNarrowband s c.bin c.binCount then s.refuseItem w 0x07F1 0 0
        else match w.kind with
        | .tx x =>
            let a := placeAttempt s x c
            let b := placeAttempt s x p
            match dutyTest s a.charge b.charge with
            | some (code, acct) => s.refuseItem w code acct 0
            | none =>
                let frame := match w.form with | some z => buildFrame s c.start z | none => x.frame
                s.energyAndAccept w idx (.tx { x with first := a, second := b, frame := frame }) c.start 0 (some p.start) 1 0
        | .rx x =>
            s.energyAndAccept w idx (.rx { x with closeAt := c.closeAt, binFirst := c.bin, binCount := c.binCount, cell := c.cell })
              c.start (c.closeAt - c.start) none (x.maxf + 1) x.maxf
        | _ => s

/-- The positions of a flash or skein item up to a latest start, among `left` candidates. -/
def otherPair (s : State) (k : ItemKind) (latest left : Nat) : Found :=
  match k with
  | .flash x => flashPair s x.bank x.maxU latest left
  | .skein x => skeinPair s x.payload.length latest left
  | _ => ⟨none, false⟩

/-- The schedule and energy checks of a flash or skein item. -/
def State.placeOther (s : State) (w : Waiting) (idx : Nat) : State :=
  let dl := wordAt w.words 2 + wordAt w.words 3 * 2 ^ 32
  if unreachable s dl then s.refuseItem w 0x0802 0 0
  else
    let f := otherPair s w.kind (latestStart s dl) 64
    match f.pair with
    | none =>
        let h := match (otherPair s w.kind (horizonEnd s - 1) 262145).pair with | some q => q.1.start | none => 0
        s.refuseItem w (if f.someFree then 0x0805 else 0x0801) (h % 2 ^ 32) (h / 2 ^ 32)
    | some (c, p) => s.energyAndAccept w idx w.kind c.start (c.closeAt - c.start) (some p.start) 1 0

/-- Decide one waiting item: the checks of R89 in their order.  `path` says whether its skein path is lost. -/
def State.bookWaiting (s : State) (w : Waiting) (path : Bool) : State :=
  let isTx := match w.kind with | .tx _ => true | _ => false
  let maxf := match w.kind with | .rx x => x.maxf | _ => 0
  let isRx := match w.kind with | .rx _ => true | _ => false
  let need := if isRx then maxf + 1 else 1
  match gate s path with
  | some c => s.refuseItem w c 0 0
  | none =>
    if isTx && debugMuted s then s.refuseItem w 0x0005 0 0
    else
    match parentTest s w with
    | some c => s.refuseItem w c 0 0
    | none =>
      if tableFull s isTx (wbits w.words 1 17 16) then s.refuseItem w (if isTx then 0x0803 else 0x0804) 0 0
      else if w.owner == .host && decide (w.ring < 32) && decide (freeSpace s (16 + wbits w.words 0 12 11) w.ring < need) then s.refuseItem w 0x0403 0 0
      else if w.owner == .host && decide (s.hre.buffers.length - reservedBuffers s < maxf) then s.refuseItem w 0x0404 0 0
      else match freeIndex s (if isTx then 0 else 4096) 4096 with
        | none => s.refuseItem w (if isTx then 0x0803 else 0x0804) 0 0
        | some idx => match w.kind with
          | .tx _ => s.placeRadio w idx
          | .rx _ => s.placeRadio w idx
          | _ => s.placeOther w idx

end Sys2Proof.Machine
end

