-- ==== Sys2Proof/Machine/HostRings.lean ====
section
/-! DEFINITION. The ring commands: ring set-up, doorbells, fetching, admission, completion and record writing,
interrupt moderation, host resets, and the control ring's plain opcodes (chapter 2). -/

namespace Sys2Proof.Machine

/-- Writing 1 to a ring's EN runs the ring check (R52); a ring that is enabled stays so.  A device-to-host ring starts
empty; what the device holds for it is written first (R566). -/
def State.ringEnable (s : State) (n : Nat) : State :=
  if s.on (F.HRE_RING_CFG_EN n) ∨ 24 ≤ n then s
  else match ringCheck s n with
    | some c => s.put (F.HRE_RING_STATUS_REASON n) c
    | none =>
        let s1 := ((((s.put (F.HRE_RING_CFG_EN n) 1).put (F.HRE_RING_STATUS_REASON n) 0).put (F.HRE_RING_STATUS_ERR n) 0).put
          (F.HRE_RING_HEAD_INDEX n) 0).put (F.HRE_RING_HEAD_PHASE n) 1
        s1.setRing n (fun r => { r with db := 0, waitDb := false, fenced := false, unreleased := 0, sigCount := 0, sigSince := 0, held := false })

/-- RING_ENABLE (R52). -/
def execRingEnable (t n : Nat) (s : State) : Out := .next ((s.at t).ringEnable n)

/-- Writing 0 to a ring's EN: a completion ring with reservations refuses with 0x040D unless it is stopped (R52). -/
def State.ringDisable (s : State) (n : Nat) : State :=
  if !s.on (F.HRE_RING_CFG_EN n) ∨ 24 ≤ n then s
  else if isCompletion n && decide (0 < s.get (F.HRE_RING_RSV_COUNT n)) && !s.on (F.HRE_RING_STATUS_ERR n) then
    s.put (F.HRE_RING_STATUS_REASON n) 0x040D
  else s.put (F.HRE_RING_CFG_EN n) 0

/-- RING_DISABLE (R52). -/
def execRingDisable (t n : Nat) (s : State) : Out := .next ((s.at t).ringDisable n)

/-- A doorbell write: the last doorbell index of a submission ring, or the host's next slot to read of a completion
ring, which frees the entries before it (R45, R56, Table 2-8).  A release index that names more entries than are
written releases nothing. -/
def State.doorbell (s : State) (n idx : Nat) : State :=
  if isSubmission n then s.setRing n (fun r => { r with db := idx % 65536, waitDb := false })
  else if isCompletion n then
    let size := ringSize s n
    let left := (s.get (F.HRE_RING_HEAD_INDEX n) + size - idx % size) % size
    s.setRing n (fun r => { r with unreleased := if left ≤ r.unreleased then left else r.unreleased })
  else s

/-- DOORBELL (R45). -/
def execDoorbell (t n idx : Nat) (s : State) : Out := .next ((s.at t).doorbell n idx)

/-- The descriptor at HEAD of a submission ring: with the internal host its words stand in application SRAM (R39),
with PCIe the host memory supplies them. -/
def slotWords (s : State) (n : Nat) (ws : List Word) : List Word :=
  if s.relay then
    let a := ringBase s n + 32 * s.get (F.HRE_RING_HEAD_INDEX n)
    (List.range 8).map (fun k => word (leNat (s.sramRead (a + 4 * k) 4)))
  else (List.range 8).map (fun k => ws.getD k 0)

/-- The buffer that a descriptor names. -/
def slotBuffer (s : State) (ws : List Word) (buf : List Byte) : List Byte :=
  if s.relay then s.sramRead (wordAt ws 4) (wbits ws 1 15 0) else fit (wbits ws 1 15 0) buf

/-- The ring engine fetches the next valid descriptor and applies the checks of R55.  A slot with FENCE is left until the
ring's earlier items have their finals, and other rings are served meanwhile (R41); so is one that will be refused, until
the ring's earlier descriptors are decided (R54). -/
def State.fetch (s : State) (ws : List Word) (buf : List Byte) (fail : Bool) : State :=
  match nextRing s with
  | none => s
  | some n =>
      let d := slotWords s n ws
      if wbits d 0 15 15 ≠ s.get (F.HRE_RING_HEAD_PHASE n) then s.setRing n (fun r => { r with waitDb := true })
      else if wbits d 0 10 10 = 1 ∧ 0 < (s.ring n).openItems then s.setRing n (fun r => { r with fenced := true })
      else
        let s1 := ((s.advanceHead n).served n).setRing n (fun r =>
          { r with openItems := r.openItems + 1, fenced := false, held := false })
        match preAdmission s n d fail with
        | some c => if earlierUndecided s n then s.setRing n (fun r => { r with held := true }) else
            let s2 := s1.refuseFetched n d c
            if c = 0x0409 then s2.irq Blk.HRE (2 ^ 27) else s2
        | none => { s1 with hre := { s1.hre with fetched := s1.hre.fetched ++ [⟨n, d, slotBuffer s d buf⟩] } }

/-- DESCRIPTOR_FETCH (R55). -/
def execDescriptorFetch (t : Nat) (ws : List Word) (buf : List Byte) (fail : Bool) (s : State) : Out :=
  .next ((s.at t).fetch ws buf fail)

/-- The host write of the first waiting completion of a ring (R44, R566). -/
def State.writeCompletion (s : State) (n : Nat) (fail : Bool) : State :=
  if !canWrite s n then s
  else match takeFirst (fun c => c.cring == n && mayWrite s n c) s.hre.outq with
    | none => s
    | some (c, rest) =>
        if fail then { s with hre := { s.hre with outq := c :: rest } }.failWrite n
        else
          let s1 := s.writeEntry n (complWords c (s.get (F.HRE_RING_HEAD_PHASE n)))
          let s2 := { s1 with hre := { s1.hre with outq := rest } }
          let s3 := s2.afterWrite c
          if c.sig then s3.signalled n else s3

/-- COMPLETION_WRITE (R44). -/
def execCompletionWrite (t ring : Nat) (fail : Bool) (s : State) : Out := .next ((s.at t).writeCompletion ring fail)

/-- 8 × MOD_TIME µs after the first entry not yet signalled, the ring's vector is raised (R49). -/
def State.modTime (s : State) (n : Nat) : State :=
  let m := s.get (F.HRE_RING_CFG_MOD_TIME n)
  if 0 < m ∧ 0 < (s.ring n).sigCount ∧ (s.ring n).sigSince + usU (8 * m) ≤ s.now then s.signalRing n else s

/-- MOD_TIME_EXPIRY (R49). -/
def execModTimeExpiry (t ring : Nat) (s : State) : Out := .next ((s.at t).modTime ring)

/-- Write one record into ring 20 (every record is a signalled entry, R49). -/
def State.putRecord (s : State) (r : Rec) : State :=
  (s.writeEntry 20 (recWords r (s.get (F.HRE_RING_HEAD_PHASE 20)))).signalled 20

/-- The record that ring 20 takes next, and the ring engine without it. -/
def nextRecord (s : State) : Option (Rec × Hre) :=
  match s.hre.failed20, s.hre.atEnable, s.hre.records with
  | some r, _, _ => some (r, { s.hre with failed20 := none })
  | none, r :: rest, _ => some (r, { s.hre with atEnable := rest })
  | none, [], [] => none
  | none, [], r :: rest =>
      if 0 < s.hre.lossCount then some (lossRecord s, { s.hre with lossCount := 0 }) else some (r, { s.hre with records := rest })

/-- The next ring 20 record is written, or dropped and counted (R58).  The records that HRE enable writes come first,
then a loss record if any record was dropped, then the oldest record raised.  On a ring stopped by an error every
record waits, until the ring is enabled again, and the one whose write failed is then the first (R566). -/
def State.eventRecord (s : State) (fail : Bool) : State :=
  if s.en Blk.HRE && s.on (F.HRE_RING_STATUS_ERR 20) then s
  else if !canWrite s 20 then
    match s.hre.records with
    | [] => s
    | r :: rest => if r.exempt then s else { s with hre := { s.hre with records := rest } }.dropRecord
  else match nextRecord s with
    | none => s
    | some (r, h) => if fail then { s with hre := { h with failed20 := some r } }.failWrite 20 else { s with hre := h }.putRecord r

/-- EVENT_RECORD_WRITE (R58). -/
def execEventRecordWrite (t : Nat) (fail : Bool) (s : State) : Out := .next ((s.at t).eventRecord fail)

/-! ### Disabling HRE (R37) -/

/-- HRE stops fetching and writing and its set-up registers return to their reset values; untimed descriptors, wherever
they wait or run, and posted buffers are gone, the promise table stays (R4, R37, R203).  DESIGN CHOICE: timed descriptors
that have been fetched and not yet decided are dropped too, with no completion (notes/assumptions/23.md). -/
def State.stopHre (s : State) : State :=
  let isr := s.rd Reg.HRE_ISR
  let lost := s.rd Reg.HRE_EVT_LOST
  let link := s.get F.HRE_STATUS_LINK_UP
  let quench := s.rd Reg.HRE_QUENCH
  let s1 := (((((s.resetRegs Blk.HRE).wr Reg.HRE_ISR isr).wr Reg.HRE_EVT_LOST lost).put F.HRE_STATUS_LINK_UP link).wr
    Reg.HRE_QUENCH quench).put F.HRE_CFG_HOST_MODE s.relay.toNat
  ({ s1 with
    hre := { s1.hre with
      rings := (List.range 24).map (fun n => { Ring.reset with openItems :=
        (s.items.filter (fun (i : Item) => i.owner == Owner.host && i.ring == n)).length })
      fetched := s.hre.fetched.filter (fun (f : Fetched) => decide (32 ≤ f.ring)), fences := [], buffers := []
      outq := s.hre.outq.filter (fun c => c.item.isSome || c.cring == partitionRing), draining := [] }
    chn := { s1.chn with awaiting := s1.chn.awaiting.filter (fun (w : Waiting) => w.owner != Owner.host || decide (32 ≤ w.ring)),
                         crossing := [] }
    cry := { s1.cry with queue := s1.cry.queue.filter (fun (q : CryReq) => decide (32 ≤ q.f.ring))
                         sigQueue := s1.cry.sigQueue.filter (fun (q : SigReq) => decide (32 ≤ q.f.ring)) }
    esm := { s1.esm with waiting := s1.esm.waiting.filter (fun (f : Fetched) => decide (32 ≤ f.ring)) } }).syncItems

/-- HOST_RESET: FLR, hot reset, PERST_N, a link down, D3hot or the loss of the PCIe reference (R37).  With the
internal host there is no PCIe endpoint (R39). -/
def State.hostReset (s : State) (linkLost : Bool) : State :=
  if s.relay then s
  else
    let s1 := s.stopHre
    if linkLost then s1.put F.HRE_STATUS_LINK_UP 0 else s1

def execHostReset (t : Nat) (linkLost : Bool) (s : State) : Out := .next ((s.at t).hostReset linkLost)

/-! ### The control ring's plain opcodes (R59, R63, R64) -/

/-- NOP completes DONE (R63, Table 2-9). -/
def execNop (t : Nat) (s : State) : Out := .next ((s.at t).onFetched 1 (fun x f => x.done f.ring f.words))

/-- CANCEL: the named item, if accepted and not started, completes ABORTED 0x040B; the CANCEL itself completes DONE,
with 0x040C when there was no such item (R64). -/
def State.cancelItem (s : State) (f : Fetched) : State :=
  let ring := wbits f.words 6 7 0
  let tag := wbits f.words 7 15 0
  match s.items.find? (fun i => i.owner == .host && i.ring == ring && i.tag == tag && !i.decided && !i.started) with
  | some i => (s.finish i.idx 5 0x040B).done f.ring f.words
  | none => s.done f.ring f.words 0x040C

def execCancel (t : Nat) (s : State) : Out := .next ((s.at t).onFetched 2 State.cancelItem)

/-- FENCE_ALL holds one entry of the control reserve until every item accepted before it has its final (R59). -/
def State.fenceAll (s : State) (f : Fetched) : State :=
  { s with hre := { s.hre with fences := s.hre.fences ++ [⟨wbits f.words 0 31 16, wbits f.words 0 8 8 == 1, s.chn.seq⟩] } }

def execFenceAll (t : Nat) (s : State) : Out := .next ((s.at t).onFetched 5 State.fenceAll)

/-- The first FENCE_ALL completes DONE once no item accepted before it is left in the promise table (R59). -/
def State.fenceDone (s : State) : State :=
  match s.hre.fences with
  | [] => s
  | f :: rest =>
      if s.items.any (fun i => i.owner == .host && decide (i.seq < f.before)) then s
      else { s with hre := { s.hre with fences := rest, outq := s.hre.outq ++
              [⟨16, f.tag, 2, 0, 0, 0, s.net, 0, 0, 0, 0, f.irq, none, true⟩] } }

def execFenceAllDone (t : Nat) (s : State) : Out := .next ((s.at t).fenceDone)

/-- RX_BUFFER posts one receive buffer (R203). -/
def State.postBuffer (s : State) (f : Fetched) : State :=
  { s with hre := { s.hre with buffers := s.hre.buffers ++
      [⟨wbits f.words 0 31 16, wbits f.words 0 8 8 == 1, wordAt f.words 4 + wordAt f.words 5 * 2 ^ 32, wbits f.words 1 15 0⟩] } }

def execRxBuffer (t : Nat) (s : State) : Out := .next ((s.at t).onFetched 0x21 State.postBuffer)

end Sys2Proof.Machine
end

