-- ==== Sys2Proof/Machine/FlashOps.lean ====
section
/-! DEFINITION. The operations of the flash controller: their run maxima and occupancies, their suspension deadlines, and
what starts when a bank is free (R371 to R379). -/

namespace Sys2Proof.Machine

/-! ### Operations and occupancies (R371, R372, R375) -/

/-- Run maximum of a program of `n` bytes at `a`, and of an erase (Table 12-3, R389). -/
def programRunU (a n : Nat) : Nat := usU (200 * pagesOf a n + 100)
def eraseRunU (a : Nat) : Nat := if fieldBase ≤ a then usU 15000 else usU 61100
def counterRunU : Nat := usU 2100
/-- Occupancy of an item: 10 µs, its run maximum and the suspension allowance, in whole slots (R371). -/
def occupancyU (s : State) (op runU : Nat) : Nat :=
  slotAfter (usU 10 + runU + (if op = 3 then 0 else msU (s.get F.FLC_CFG_SUSP_MS))) * slotU

/-- A flash item's description. -/
def flashInfo (s : State) (op a : Nat) (data : List Byte) (counter : Nat) : FlashInfo :=
  let run := match op with | 1 => programRunU a data.length | 2 => eraseRunU a | _ => counterRunU
  ⟨op, a, data, counter, if op = 3 then 0 else bankOf a, occupancyU s op run, run, 0, 0⟩

def opOf (s : State) (bank : Nat) : Option FlashOp := s.flc.ops.getD bank none
def State.setOp (s : State) (bank : Nat) (o : Option FlashOp) : State :=
  { s with flc := { s.flc with ops := modAt (fun _ => o) s.flc.ops bank } }

/-- The start of the next occupancy of a bank: the earliest item that has not been issued. -/
def nextOccupancy (s : State) (bank : Nat) : Option Nat :=
  (s.items.filterMap (fun i => match i.kind with
    | .flash f => if i.decided || i.started || f.bank != bank then none else some i.due
    | _ => none)).foldl (fun m d => match m with | none => some d | some e => some (Nat.min d e)) none

/-- Does a run maximum end before the bank's next occupancy (R372)? -/
def endsBefore (s : State) (bank runU : Nat) : Bool :=
  match nextOccupancy s bank with | none => true | some o => decide (s.net + runU ≤ o)

/-- The instant up to which running operations have run: pulses stop when economy begins (R359, R361). -/
def runClock (s : State) : Nat := if s.on F.BLW_STATUS_ECONOMY then s.blw.economyAt else s.now

/-- Run time that an operation may still need. -/
def remainingU (s : State) (o : FlashOp) : Nat := o.runU - (o.ranU + (if o.suspended then 0 else runClock s - o.since))

/-- The resume deadline of an operation, in network time; none when nothing limits it (R375). -/
def resumeDeadline (s : State) (bank : Nat) (o : FlashOp) : Option Nat :=
  match o.item with
  | some idx => match s.item idx with
    | some i => match i.kind with | .flash f => some (i.due + f.maxU - remainingU s o) | _ => none
    | none => none
  | none => (nextOccupancy s bank).map (fun d => d - remainingU s o)

/-- May an operation be suspended now (R375)?  The field bank takes its requests in order, without suspension (R389). -/
def suspendable (s : State) (bank : Nat) (o : FlashOp) : Bool :=
  decide (bank < 4) && (o.op == 1 || o.op == 2) &&
  (!s.on F.FLC_CFG_GUARD_EN || decide (o.since + usU (250 * 2 ^ s.get F.FLC_CFG_GUARD_LOG) ≤ s.now)) &&
  (match resumeDeadline s bank o with | none => true | some d => decide (s.net ≤ d))

/-- Bit `b` of a mask for each bank that satisfies `p`. -/
def bankMask (p : Nat → Bool) : Nat := (if p 0 then 1 else 0) + (if p 1 then 2 else 0) + (if p 2 then 4 else 0) + (if p 3 then 8 else 0)

/-- FLC_STATUS, FLC_DSTAT and FLC_LOCK.PENDING follow the controller. -/
def State.syncFlc (s : State) : State :=
  let isDirect := fun (o : Option FlashOp) => match o with | some x => x.direct | none => false
  let running := s.flc.ops.any isDirect
  let locked := s.get F.FLC_LOCK_EXEC_LOCK
  let work := fun b => bits locked b b == 1 && (isDirect (opOf s b) || s.items.any (fun i => !i.decided &&
    (match i.kind with | .flash f => f.bank == b && f.op != 3 | _ => false)))
  (((((((((s.put F.FLC_STATUS_BUSY (bankMask (fun b => (opOf s b).isSome))).put F.FLC_STATUS_SUSP
      (bankMask (fun b => match opOf s b with | some o => o.suspended | none => false))).put F.FLC_STATUS_NESTED
      (bankMask (fun b => match s.flc.nested with | some o => bankOf o.addr == b | none => false))).put F.FLC_STATUS_FIELD_BUSY
      (opOf s 4).isSome.toNat).put F.FLC_DSTAT_BUSY (running || s.flc.waiting.isSome || s.flc.nested.isSome).toNat).put
      F.FLC_DSTAT_WAITING s.flc.waiting.isSome.toNat).put F.FLC_DSTAT_NESTED s.flc.nested.isSome.toNat).put
      F.FLC_LOCK_PENDING (bankMask work)).put F.FLC_STATUS_REFRESH_DUE
      (if s.flc.refreshDue.any (fun b => let k := b / 512; bits locked k k == 1) then 1 else 0))

/-- A program, erase or refresh of the array writes its record of the operation journal before its first pulse (R381); the
counters and the field bank have records of their own (DEDUCED, notes/assumptions/75.md). -/
def State.journalOp (s : State) (o : FlashOp) : State × FlashOp :=
  let x := { o with since := s.now, lastAccess := s.now }
  if o.op = 3 ∨ fieldBase ≤ o.addr then (s, x)
  else
    let kind := match o.op with | 1 => 0 | 2 => 1 | _ => 2
    let source := if o.direct then 1 else if o.item.isSome then 0 else 2
    (s.openRecord o.addr kind source o.data.length, { x with record := some s.flc.journalNext })

/-- An operation begins on its bank. -/
def State.beginOp (s : State) (o : FlashOp) : State :=
  (s.journalOp o).1.setOp (if o.op = 3 then 0 else bankOf o.addr) (some (s.journalOp o).2)

/-- An operation has ended, or is stopped: its journal record is marked done. -/
def State.journalDone (s : State) (o : FlashOp) : State := match o.record with | some k => s.closeRecord k | none => s

/-- An operation of the controller's own or a direct one, before it starts. -/
def newOp (item : Option Nat) (direct : Bool) (op a : Nat) (data : List Byte) (counter runU : Nat) : FlashOp :=
  ⟨item, direct, op, a, data, counter, runU, 0, 0, 0, false, false, none⟩

/-- Economy ends: the pulses of the operations that ran when it began resume (R360, R361). -/
def State.resumePulses (s : State) : State :=
  let back := fun (o : FlashOp) => if o.suspended then o
    else { o with ranU := o.ranU + (s.blw.economyAt - o.since), since := s.now }
  { s with flc := { s.flc with ops := s.flc.ops.map (fun o => o.map back), nested := s.flc.nested.map back } }

/-- Where the model places the pages of the key store, in ring order.  DESIGN CHOICE: the spec names the region and the
content of a page, not its place or layout, and the bytes are free values (notes/assumptions/79.md). -/
def keyStoreBase : Nat := 0x00280000

/-- The oldest write of the key store, if it has not been issued: one program of one page (R294). -/
def storeWaits (s : State) : Bool := match s.cry.storing with | j :: _ => !j.issued | [] => false

/-- Issue that program. -/
def State.beginStore (s : State) : State :=
  let a := keyStoreBase + s.cry.storePage % 2048 * 256
  let p := (if s.cry.storePage % 128 = 0 then s.eraseRange a 32768 else s).freshBytes 256
  ({ p.2 with cry := { p.2.cry with
    storePage := p.2.cry.storePage + 1
    storing := modAt (fun j => { j with issued := true }) p.2.cry.storing 0 } }).beginOp (newOp none false 1 a p.1 0 (usU 300))

/-- Start what waits, where it may start now: the direct operation on its bank (R372), or nested in a suspended erase
(R378), where one aimed at the block being erased is refused; then a write of the key store (R294); then a refresh that is due
in an unlocked bank (R379, R385). -/
def State.startWaiting (s0 : State) : State :=
  if s0.on F.BLW_STATUS_ECONOMY then s0.syncFlc
  else
  let s := if storeWaits s0 && s0.on F.FLC_STATUS_READY && (opOf s0 0).isNone && s0.flc.waiting.all (fun o => bankOf o.addr != 0) && endsBefore s0 0 (usU 300)
    then s0.beginStore else s0
  let s1 := match s.flc.waiting with
    | none => s
    | some o =>
        let b := bankOf o.addr
        match opOf s b with
        | none => if endsBefore s b o.runU then { s with flc := { s.flc with waiting := none } }.beginOp o else s
        | some e =>
            if s.on F.FLC_CFG_NEST_EN && e.op == 2 && e.suspended && o.op == 1 && b != 4 &&
                (match resumeDeadline s b e with | none => true | some d => decide (s.net + o.runU ≤ d)) then
              if blockStart e.addr = blockStart o.addr then
                (({ s with flc := { s.flc with waiting := none } }).put F.FLC_DSTAT_REASON 0x0EF7).irq Blk.FLC 1
              else { (s.journalOp o).1 with flc := { (s.journalOp o).1.flc with waiting := none, nested := some (s.journalOp o).2 } }
            else s
  let locked := s1.get F.FLC_LOCK_EXEC_LOCK
  let ready := fun (blk : Nat) =>
    let b := blk / 512
    bits locked b b == 0 && (opOf s1 b).isNone && endsBefore s1 b (usU (200 * 128 + 100 + 61100))
  let s2 := match takeFirst ready s1.flc.refreshDue with
    | some (blk, rest) => ({ s1 with flc := { s1.flc with refreshDue := rest } }).beginOp
        (newOp none false 4 (blk * 32768) [] 0 (usU (200 * 128 + 100 + 61100)))
    | none => s1
  s2.syncFlc

end Sys2Proof.Machine
end

