-- ==== Sys2Proof/Machine/KeyStore.lean ====
section
/-! DEFINITION. The key store's owner keys and the steps of a persistent write (R293, R294, R303, R304). -/

namespace Sys2Proof.Machine

/-- SIG_STATUS shows the owner key set. -/
def State.syncOwners (s : State) : State :=
  let bit := fun (i : Nat) => if (s.cry.owners.getD i none).isSome then 2 ^ i else 0
  let m := bit 0 + bit 1 + bit 2 + bit 3
  (s.put F.SIG_STATUS_OWNER_VALID m).put F.SIG_STATUS_OWNED (if m = 0 then 0 else 1)

/-- Install, replace or remove an owner key; the sequence advances (R303). -/
def State.setOwner (s : State) (i : Nat) (key : Option (List Byte)) : State :=
  let s1 := { s with cry := { s.cry with owners := modAt (fun _ => key) s.cry.owners i } }.syncOwners
  (s1.put F.SIG_OWNER_SEQ_SEQ (s.get F.SIG_OWNER_SEQ_SEQ + 1)).irq Blk.SIG 2

/-- A store entry takes effect at its commit record: the entry with the highest sequence number for a slot is used
(Table 9-4), and an owner key changes (R304). -/
def State.commitStore (s : State) (e : StoreEntry) : State :=
  match e with
  | .key k => { s with cry := { s.cry with store := k :: s.cry.store.filter (fun x => x.slot != k.slot) } }
  | .owner i key => s.setOwner i key

/-- Step 4 of Table 9-4: the completion. -/
def State.storeDone (s : State) (j : StoreJob) : State :=
  match j.entry with
  | .key _ => (s.count (F.CRY_CNT_COUNT 0)).done j.f.ring j.f.words
  | .owner _ _ => s.done j.f.ring j.f.words 0 (w4 := s.get F.SIG_OWNER_SEQ_SEQ)

/-- The program of the key store's present step ends.  DESIGN CHOICE: one that does not verify is made again in the next
page (notes/assumptions/79.md). -/
def State.storeStep (s : State) (ok : Bool) : State :=
  match s.cry.storing with
  | [] => s
  | j :: rest =>
      if !j.issued then s
      else if !ok then { s with cry := { s.cry with storing := { j with issued := false } :: rest } }
      else if j.step = 2 then { s with cry := { s.cry with storing := { j with step := 3, issued := false } :: rest } }
      else (({ s with cry := { s.cry with storing := rest } }).commitStore j.entry).storeDone j

/-- A reset in a running step 3: whether the commit record was completed is open (Table 9-4). -/
def State.cutStore (s : State) : State :=
  match s.cry.storing with
  | j :: _ => if j.issued && j.step == 3 then let r := s.fresh 2; if r.1 = 0 then r.2 else r.2.commitStore j.entry else s
  | [] => s

/-- Is a program of the controller's own that of the key store? -/
def isStoreOp (o : FlashOp) : Bool := o.item.isNone && !o.direct && o.op == 1

end Sys2Proof.Machine
end

