-- ==== Sys2Proof/Machine/Reset.lean ====
section
/-! DEFINITION. Resets: the reset record, what a device reset and an application-island reset keep and clear, and how
accepted items end (R4, R19, R32, R33, R253, R289, R346, R498, R502, R503, Tables 17-6 and 17-7). -/

namespace Sys2Proof.Machine

/-! ### The reset record (R502) -/

/-- The AON bus cycle of the present instant, and whether a reset has been recorded in it. -/
def busCycle (s : State) : Nat := s.now / 2048
def recordedNow (s : State) : Bool := s.sup.resetIn == some (busCycle s)

/-- A power-on reset clears the reset record and its counts (Table 17-7). -/
def State.clearRecord (s : State) : State :=
  (List.range 14).foldl (fun x k => x.put (F.SYS_RSTCNT_COUNT k) 0)
    { s.wr Reg.SYS_RST 0 with sup := { s.sup with resetIn := none } }

/-- A reset moves SYS_RST into SYS_RST_PREV and loads the new record; TIME is 0 after a power-on reset. -/
def State.newRecord (s : State) (cause scope reason : Nat) : State :=
  let s1 := (s.wr Reg.SYS_RST_PREV (s.rd Reg.SYS_RST)).wr Reg.SYS_RST (word (cause + scope * 16 + reason * 65536))
  let s2 := (s1.wr64 Reg.SYS_RST_TIME (if cause = 1 then 0 else s.net)).count (F.SYS_RSTCNT_COUNT cause)
  { s2 with sup := { s2.sup with resetIn := some (busCycle s) } }

/-- The record that a reset of this cycle has loaded is taken back, for one of a lower CAUSE number (R498). -/
def State.takeBackRecord (s : State) : State :=
  let k := s.get F.SYS_RST_CAUSE
  (s.put (F.SYS_RSTCNT_COUNT k) (s.get (F.SYS_RSTCNT_COUNT k) - 1)).wr Reg.SYS_RST (s.rd Reg.SYS_RST_PREV)

/-- The record of a reset; of two causes in one AON bus cycle the lower number is recorded (R498, R502). -/
def State.loadRecord (s : State) (cause scope reason : Nat) : State :=
  if cause = 1 then s.clearRecord.newRecord cause scope reason
  else if recordedNow s then
    (if s.get F.SYS_RST_CAUSE ≤ cause then s else s.takeBackRecord.newRecord cause scope reason)
  else s.newRecord cause scope reason

/-- The lowest code of the latched alarm sources (R295). -/
def alarmReason (s : State) : Nat :=
  match (List.range 6).find? (fun k => bits (s.get F.SEC_ALARM_SRC) k k == 1) with
  | some k => 0x1601 + k
  | none => 0x1601

/-- REASON of a reset (Table 17-6). -/
def resetReason (s : State) (cause : Nat) : Nat :=
  match cause with
  | 1 => 0x0104
  | 2 | 3 => 0x0103
  | 4 | 11 => 0x0003
  | 5 => 0x0203
  | 6 => 0x0204
  | 7 => 0x0001
  | 8 => 0x0002
  | 9 => 0x0807
  | 10 => alarmReason s
  | 12 => 0x0004
  | _ => 0

/-- Status with which accepted items end (Table 17-6): PROMISE_VOID for supply and clock causes and alarms, else
ABORTED. -/
def resetStatus (cause : Nat) : Nat := if cause = 2 ∨ cause = 3 ∨ cause = 5 ∨ cause = 6 ∨ cause = 10 then 4 else 5

/-! ### Accepted items (R26, R32) -/

/-- Every item ends (one decided in this Chanter cycle may change its reason, R7): a host item's final joins the finals that the next HRE enable writes, the device's own
items end without a report. -/
def State.endForReset (s : State) (status reason : Nat) : State :=
  s.items.foldl (fun x (i : Item) =>
    match i.owner with
    | .host => x.finish i.idx status reason
    | _ => let y := x.settle i; { y with items := y.items.filter (fun j => j.idx != i.idx) }) s

/-- What stays of the ring engine: one final completion for each item of the promise table. -/
def finalsOnly (s : State) : Hre :=
  { Hre.reset with
    rings := (List.range 24).map (fun n => { Ring.reset with openItems :=
      (s.items.filter (fun (i : Item) => i.owner == Owner.host && i.ring == n)).length })
    outq := s.hre.outq.filter (fun c => c.final && c.item.isSome && c.ring != 9) }

/-! ### Registers (R498) -/

/-- Copy `n` words of an old register file. -/
def State.keepRun (s : State) (old : State) (a : Nat) : Nat → State
  | 0 => s
  | n + 1 => (s.wr a (old.rd a)).keepRun old (a + 4) n

/-- The committed model stands in the shadow registers (R498, R542). -/
def State.shadowFromModel (s : State) : State :=
  let m := s.blw.model
  let s1 := (((((s.put F.BLW_CAP_CAP_MW m.capMw).put F.BLW_CAP_CEIL_MW m.ceilMw).put F.BLW_SRC_AUTONOMY_H m.autonomyH).put
    F.BLW_SRC_DAY_OFS (unsigned 11 m.dayOfs))).put F.BLW_CAPACITY_MJ m.capacity
  let s2 := (List.range 4).foldl (fun x c => x.put (F.BLW_FLOOR_MJ c) (m.floors.getD c 0)) s1
  (List.range 24).foldl (fun x h => x.put (F.BLW_HARVEST_J h) (m.harvest.getD h 0)) s2

/-- IO33 and IOSEL_OPEN show the strap as it was sampled (R489). -/
def State.showStrap (s : State) : State :=
  (s.put F.SUP_STATUS_IO33 (if s.sup.iosel = 1 then 1 else 0)).put F.SUP_STATUS_IOSEL_OPEN (if s.sup.iosel = 2 then 1 else 0)

/-- The registers after a device reset: those that the AON island, the key store and the flash keep. -/
def State.resetRegisters (s : State) (full : Bool) : State :=
  let r := { s with regs := [] }
  let r1 := (((r.keepRun s Reg.SYS_RST 1).keepRun s Reg.SYS_RST_PREV 1).keepRun s Reg.SYS_RST_TIME 2).wr
    Reg.SIG_OWNER_SEQ (s.rd Reg.SIG_OWNER_SEQ)
  let r2 := if full then r1.keepRun s (Reg.SYS_RSTCNT 1) 1
    else
      let k1 := (((r1.keepRun s (Reg.SYS_RSTCNT 0) 14).keepRun s (Reg.SUP_CNT 0) 4).keepRun s (Reg.CLK_LOST 0) 10).keepRun s
        (Reg.CLK_CNT 0) 6
      let k2 := ((((k1.shadowFromModel.keepRun s Reg.BLW_STORE 1).keepRun s Reg.BLW_METER 2).keepRun s (Reg.BLW_COST 0) 7).keepRun s
        (Reg.BLW_TXCOST 0) 21).put F.BLW_STATUS_MODEL_VALID (s.get F.BLW_STATUS_MODEL_VALID)
      ((k2.put F.SEC_STATUS_ALARMS (s.get F.SEC_STATUS_ALARMS)).put F.ESM_STATUS_LOST (s.get F.ESM_STATUS_LOST))
  let r3 := if full then r2 else r2.keepRun s (Reg.RFE_FIR 0) 48
  (((((r3.wr Reg.TAG_STATUS (s.rd Reg.TAG_STATUS &&& 7)).wr64 Reg.CRY_NONCE_NEXT s.cry.nonceLimit).put F.MAC_TXFC_NEXT
    (Nat.min s.mac.txfcLimit 0xFFFFFFFF)).put F.MAC_ISR_TXFC_LOW (if 0xFFFFFFFF < s.mac.txfcLimit + 2 ^ 24 then 1 else 0)).keepRun s Reg.FLC_SPARE 1).showStrap

/-- Usage counters (R289): kept, but after a power-on or brown-out reset the counter of a persistent slot restarts
2^32 above the value recorded for its key, and a slot without a persistent key has none. -/
def State.resetUsage (s : State) (old : State) (lost : Bool) : State :=
  (List.range 64).foldl (fun x n =>
    if !lost then x.keepRun old (Reg.CRY_SLOT_USE_LO n) 2
    else match old.cry.store.find? (fun k => k.slot == n) with
      | some k => x.wr64 (Reg.CRY_SLOT_USE_LO n) (k.usage.getD 0 + 2 ^ 32)
      | none => x.wr64 (Reg.CRY_SLOT_USE_LO n) 0) s

/-! ### The blocks' other state -/

/-- ESM after a reset: lost where its supply is lost (R253). -/
def Esm.afterReset (e : Esm) (lost : Bool) : Esm :=
  { e with
    entries := if lost then [] else e.entries
    bad := if lost then [] else e.bad
    ckpt := none
    compaction := none
    startedAt := none
    waiting := []
    firmware := []
    joins := []
    accepts := []
    pairs := [] }

/-- The vault is empty until the boot chain restores it (R285). -/
def Cry.afterReset (c : Cry) : Cry :=
  { c with
    vault := List.replicate 64 0
    identity := 0
    cache := []
    imported := []
    queue := []
    storing := []
    restoreAgain := false
    nonceRefill := true
    sigQueue := []
    contexts := List.replicate 8 HashCtx.closed }

/-- Programs and erases that a reset cuts off stay open in the journal (R381, Table 12-6). -/
def Flc.afterReset (f : Flc) : Flc := { f with ops := [none, none, none, none, none], nested := none, waiting := none }

/-- What a reset cuts off beside the array: a counter step, which the spec leaves open to have been made (Table 12-8), and
an operation of the field bank, whose range is undefined. -/
def State.cutOps (s : State) : State :=
  (s.flc.ops.filterMap (fun o => o)).foldl (fun x (o : FlashOp) =>
    if o.op = 3 then let r := x.fresh 2; if r.1 = 0 then r.2 else r.2.counterWrite 0 o.counter (counterValue r.2 o.counter + 1)
    else if o.addr < fieldBase then x
    else if o.op = 1 then x.scramble o.addr o.data.length
    else x.scramble (blockStart o.addr) (blockSize o.addr)) s

/-- Update state after a reset: what flash holds stays; campaigns end, and the valid snapshots are loaded (R412). -/
def updAfterReset (s : State) : Upd :=
  { Upd.reset with
    manifests := s.upd.manifests
    config := s.upd.config
    dist := [0, 1].map (fun d => { DistSlot.reset with done := snapDone s d }) }

/-- The reset report, and after a power-on reset with an open IOSEL its record (R489, R502). -/
def resetRecords (s : State) (cause : Nat) : List Rec :=
  let at' := s.rd64 Reg.SYS_RST_TIME
  (⟨0x0001, s.get F.SYS_RST_REASON, at', s.rd Reg.SYS_RST, s.rd Reg.SYS_RST_PREV, 0, 0, true⟩ : Rec) ::
    (if cause = 1 ∧ s.sup.iosel = 2 then [(⟨0x1400, 0x1402, at', 0, 0, 0, 0, true⟩ : Rec)] else [])

/-- A device reset with CAUSE number `cause` (R498, R503).  After it the boot chain runs (R395). -/
def State.deviceReset (s0 : State) (cause : Nat) : State :=
  let reason := resetReason s0 cause
  let full := decide (cause = 1)
  let lost := decide (cause = 1 ∨ cause = 2 ∨ cause = 3)
  let esmLost := lost || cause == 13 || s0.sup.power == .hibernate || s0.sup.power == .off
  let s1 := s0.cutOps.cutStore
  let s2 := if full then { s1 with items := [], hre := Hre.reset } else s1.endForReset (resetStatus cause) reason
  let s3 := s2.loadRecord cause 0 reason
  let r := (s3.resetRegisters full).resetUsage s3 lost
  let r1 := if esmLost then r.put F.ESM_STATUS_LOST 1 else r.put F.ESM_UE_IDX_PENDING (Nat.min 255 s3.esm.bad.length)
  let r2 := r1.put F.ESM_CKPT_SEQ_SEQ (newestSeq s3)
  let final : State := { r2 with
    net := if full then 0 else s3.net
    sram := []
    hre := { (finalsOnly s3) with atEnable := resetRecords s3 cause }
    items := s3.items.map (fun i => { i with entries := 1, buffers := 0 })
    chn := { Chn.reset with seq := s3.chn.seq, lastSlot := asn s3.net }
    mac := { Mac.reset with history := if full then [] else s3.mac.history, txfcLimit := s3.mac.txfcLimit, txfcRefill := true }
    blw := if full then Blw.reset else s3.blw
    mur := Mur.reset
    rfe := Rfe.reset
    esm := s3.esm.afterReset esmLost
    cry := s3.cry.afterReset
    skn := { Skn.reset with lastReset := if full then 0 else s3.skn.lastReset }
    flc := s3.flc.afterReset
    evf := Evf.reset
    tmb := Tmb.reset
    cpx := { Cpx.reset with challenge := s3.cpx.challenge + 1, accessFaults := s3.cpx.accessFaults, loaded := s3.cpx.loaded }
    per := Per.reset
    pcie := { Pcie.reset with messages := s3.pcie.messages }
    upd := updAfterReset s3
    clk := { Clk.reset with startedAt := List.replicate 4 s3.now }
    sup := { s3.sup with power := .run, latches := [] } }
  final.syncItems

/-- Is the running image in its trial (STAGE 4, Table 13-6)? -/
def inTrial (s : State) : Bool := s.get F.UPD_STATUS_STAGE == 4

/-! ### Application-island resets (R19, R394) and the partition (R515, R516) -/

/-- Where the customer partition starts. -/
def partitionBase : Nat := 0x00C00000

def flashRead (s : State) (a n : Nat) : List Byte := Sparse.getMany (fun _ => (0xFF : Byte)) s.flc.mem a n

/-- Bytes of an ASCII context string. -/
def ascii (x : String) : List Byte := x.toList.map (fun c => BitVec.ofNat 8 c.toNat)

/-- Does a customer partition stand in flash, and is it accepted: by its form, its signer and its signature? -/
def partitionPresent (s : State) : Bool := flashRead s partitionBase 4 == [0x55, 0x43, 0x50, 0x54]
def partitionAccepted (s : State) : Bool :=
  let h := flashRead s partitionBase 256
  let len := leNat (slice h 4 4)
  let signer := (h.getD 16 0).toNat
  let owned := s.cry.owners.any Option.isSome
  decide (1 ≤ len) && decide (len ≤ 3145472) && (slice h 17 125).all (fun b => b == 0) &&
  (if owned then
    (match s.cry.owners.getD (signer - 1) none with
      | some k => decide (1 ≤ signer) && Config.ed448Verify k (ascii "UARNAREN-PARTITION")
          (slice h 0 142 ++ flashRead s (partitionBase + 256) len) (slice h 142 114)
      | none => false)
  else signer == 0)

/-- The service firmware starts an accepted partition; a rejected one is reported (R516). -/
def State.startPartition (s : State) : State :=
  if !partitionPresent s then s.put F.CPX_STATUS_PART 0
  else if partitionAccepted s then s.put F.CPX_STATUS_PART 1
  else ((s.put F.CPX_STATUS_PART 2).irq Blk.CPX 4).record 0x1300 0x1302

/-- The application cores restart, and nothing else changes (R19). -/
def State.restartCores (s : State) : State :=
  ({ s with cpx := { s.cpx with
    halted := [false, false, false, false]
    wfi := [false, false, false, false]
    stalled := []
    wait := none
    coreWdt := ⟨0, if s.get F.CPX_WDT_CFG_PERIOD_MS = 0 then none else some s.now⟩ } }.put F.CPX_STATUS_HALTED 0).put
    F.CPX_STATUS_FAULTED 0

/-- An application-island reset with CAUSE number `cause`; a core watchdog in a trial takes the reset path of the trial
instead (R19, R409). -/
def State.appReset (s : State) (cause : Nat) : State :=
  if cause = 7 ∧ inTrial s then s.deviceReset 11
  else ((s.loadRecord cause 1 (resetReason s cause)).restartCores).startPartition

end Sys2Proof.Machine
end

