-- ==== Sys2Proof/Machine/Transmit.lean ====
section
/-! DEFINITION. Transmissions from their listen span to their end: listen-before-talk, the start at the committed time,
the level, antenna faults, the end and its settlement; and the moves to a repair opportunity (R61, R93 to R101, R144,
R220, R227 to R239). -/

namespace Sys2Proof.Machine

/-! ### Due times -/

/-- Is an item due now?  Starts lie within 1 µs of their time (R94). -/
def isDue (s : State) (i : Item) : Bool := !i.decided && !i.started && decide (i.due ≤ s.net + usU 1)

/-- The R5 condition, in the precedence of R7, that voids an item falling due now: supply dip, invalid reference or a held
domain, quench (R61, R101, R361, R473, R478). -/
def dueVoid (s : State) : Option Nat :=
  if s.on F.BLW_STATUS_ECONOMY then some 0x0102
  else if !refValid s || s.on F.CLK_STATUS_HELD then some 0x0201
  else if quenchOn s then some 0x0407
  else none

/-- Void an item that falls due under a broken condition; a dip counts it for the economy-end record (Table 11-5). -/
def State.voidDue (s : State) (i : Item) (code : Nat) : State :=
  let s1 := if code = 0x0102 then { s with blw := { s.blw with voided := s.blw.voided + 1 } } else s
  s1.finish i.idx 4 code

/-- Does [lo, hi) share a slot with the slots quenched after a mismatch, or muted after a lock loss? -/
def slotQuenched (s : State) (lo hi : Nat) : Bool := decide (s.chn.muteLo < hi) && decide (lo < s.chn.muteHi)
def slotMuted (s : State) (slot : Nat) : Bool :=
  decide (s.chn.pllLo ≤ slot) && (decide (slot < s.chn.pllHi) || s.clk.sysUnlocked.isSome || s.clk.dspUnlocked.isSome)

/-! ### Repair moves (R99, R100) -/

/-- Does an attempt lie in a cell that an uncorrectable error has made unusable (R74)? -/
def badAttempt (s : State) (a : Attempt) : Bool := match a.cell with | some c => s.chn.badCells.contains c | none => false

/-- Does the repair of an item lie in an unusable cell? -/
def badRepair (s : State) (i : Item) : Bool := match i.kind with | .tx x => badAttempt s x.second | _ => false

/-- Move an item to its repair opportunity: its first-attempt airtime and energy are credited at once.  When the repair
has failed too, the item ends with `status` and `reason`, or with those of its unusable cell (R100). -/
def State.moveToRepair (s : State) (i : Item) (status reason : Nat) : State :=
  if i.moved ∨ i.repairAt.isNone then s.finish i.idx status reason
  else if badRepair s i then s.finish i.idx 5 0x0806
  else (s.setItem i.idx (fun j => Item.mapTx (fun x => { x with listened := false, doneReason := 0 }) { j with moved := true, e1 := 0 })).syncItems

/-! ### Windows in quenched or muted slots (R98) -/

/-- The next slot boundary after a slot that is not quenched. -/
def nextOpening (s : State) (slot : Nat) : Nat :=
  (if s.chn.muteLo ≤ slot + 1 ∧ slot + 1 < s.chn.muteHi then s.chn.muteHi else slot + 1) * slotU

/-- A window whose opening falls in a quenched or muted slot, or in an unusable cell, opens at the next boundary instead,
as its attempt 1; it keeps its end. -/
def State.delayOpening (s : State) (slot : Nat) (i : Item) : State :=
  s.setItem i.idx (fun j => { j with moved := true, repairAt := some (nextOpening s slot) })

/-- Delay the windows that satisfy `p`, have not opened, and would open in the slots [lo, hi). -/
def State.delayWindows (s : State) (lo hi : Nat) (p : Item → Bool) : State :=
  (s.items.filter (fun i => !i.decided && !i.started && p i && decide (lo ≤ asn i.due) && decide (asn i.due < hi) &&
    (match i.kind with | .rx _ => true | _ => false))).foldl (fun x i => x.delayOpening (asn i.due) i) s

/-! ### Listen-before-talk (R144) -/

/-- The listen span of the attempt that is due: busy moves or ends the item, clear lets it start. -/
def State.listen (s : State) (idx : Nat) (dbm : Int) : State :=
  match s.item idx with
  | none => s
  | some i => match i.kind with
    | .tx x =>
        let a := i.attempt x
        let lead := usU a.listenUs + x.femU + x.rampU
        if i.decided || i.started || a.listenUs == 0 || decide (s.net + lead < a.time) then s
        else if -(s.get (F.MAC_DC_LBT_THRESH a.charge.acct) : Int) < dbm then s.moveToRepair i 5 0x0903
        else s.setItem idx (fun j => j.mapTx (fun y => { y with listened := true }))
    | _ => s

/-- LBT_LISTEN (R144). -/
def execLbtListen (t idx : Nat) (dbm : Int) (s : State) : Out := .next ((s.at t).listen idx dbm)

/-! ### The start (R93, R94) -/

/-- FEM_LAG (R234). -/
def femLagU (s : State) : Nat := if s.on F.RFE_FEM_EN then usU (s.get F.RFE_FEM_FEM_LAG) else 0

/-- pmax as a POWER code at a supply of `mv` millivolts (R229). -/
def pmaxCode (mv : Nat) : Nat := Nat.min 80 (68 + 10 * ((mv : Int) - 1800) / 1000).toNat

/-- VSUP as SUP samples it at AON local instant `u`: the level that was last given by then; without one, the sample is
open (R229; notes/assumptions/98.md). -/
def State.vsupAt (s : State) (u : Nat) : Nat × State :=
  match s.sup.vsup.find? (fun p => decide (p.1 ≤ u)) with
  | some p => (p.2, s)
  | none => s.fresh 8192

/-- Has the transmit synthesiser been locked since 2 µs before the ramp-up of a transmission that starts now (R222)? -/
def txLocked (s : State) (x : TxInfo) : Bool :=
  s.on F.RFE_STATUS_TX_LOCK && decide (s.rfe.txLockAt + x.rampU + usU 2 ≤ s.now)

/-- The level sent and the DONE reason known at the start: pmax (R229), a fault detected in the ramp-up (R238), and the
fault latch (R239). -/
def startLevel (s : State) (x : TxInfo) (mv : Nat) : Nat × Nat :=
  let p := Nat.min x.power (pmaxCode mv)
  let p2 := if s.on F.RFE_ANT_LATCHED && s.on F.RFE_ANT_FOLD then Nat.min p 40 else p
  (p2, if x.doneReason ≠ 0 then x.doneReason else if s.on F.RFE_ANT_LATCHED then 0x0505 else if p < x.power then 0x0105 else 0)

/-- The filter taps. -/
def firTaps (s : State) : List Int := (List.range 48).map (fun k => signed 12 (s.get (F.RFE_FIR_COEF k)))

/-- Carrier of an attempt in hertz (R220). -/
def carrierHz (s : State) (x : TxInfo) (a : Attempt) : Nat :=
  if x.carrier = 0 then ((s.get F.RFE_RXLO_FREQ : Int) + a.bin * 245760).toNat else x.carrier * 1000

/-- What the attempt radiates. -/
def emissionOf (s : State) (i : Item) (x : TxInfo) (a : Attempt) (level : Nat) : Emission :=
  { item := i.idx, carrier := carrierHz s x a, level := level, sfIdx := x.sfIdx, code := a.code, legacy := x.legacy
    taps := if x.legacy then firTaps s else []
    firstChip := a.time
    symbols := if x.wide then [] else frameSymbols x.sfIdx a.code x.crc32 (fctlCt (leNat (x.frame.take 2)) == 1) x.frame
    octets := if x.wide then [0, 0, 0, 0, 0xA7, BitVec.ofNat 8 (x.frame.length + 2)] ++ x.frame ++ leBytes 2 (crc16 x.frame) else [] }

/-- The chips that the transmitter sends, chip 0 first (R157, R161). -/
def emittedChips (e : Emission) : List Int := frameChips e.sfIdx e.code e.symbols

/-- One output of the shaping filter, from the samples up to the present one, newest first: tap 0 applies to the newest. -/
def filterOut (taps recent : List Int) : Int := ((taps.zip recent).map (fun p => p.1 * p.2)).foldl (· + ·) 0

/-- The outputs of the shaping filter, for input samples in time order; `past` are the samples before them, newest first. -/
def filterRun (taps : List Int) (past : List Int) : List Int → List Int
  | [] => []
  | x :: r => let p := (x :: past).take taps.length; filterOut taps p :: filterRun taps p r

/-- The samples of a TX_LEGACY, 4 per chip, before their normalisation to the POWER level (R231).  DEDUCED: a chip is one
sample followed by three zeros (notes/assumptions/44.md). -/
def emittedSamples (e : Emission) : List Int :=
  filterRun e.taps [] ((emittedChips e).flatMap (fun c => [c, 0, 0, 0]) ++ List.replicate e.taps.length 0)

/-- A transmission starts, or its attempt fails, or the item ends under a broken condition. -/
def State.startTx (s : State) (idx : Nat) : State :=
  match s.item idx with
  | none => s
  | some i => match i.kind with
    | .tx x =>
        let a := i.attempt x
        if !isDue s i then s
        else match dueVoid s with
          | some code => s.voidDue i code
          | none =>
            if debugMuted s then s.finish idx 5 0x0005
            else if slotQuenched s a.slotLo a.slotHi then s.moveToRepair i 5 0x0806
            else if badAttempt s a then s.moveToRepair i 5 0x0806
            else if slotMuted s (asn a.time) || !txLocked s x || !s.on F.CLK_STATUS_DSP_LOCK then s.moveToRepair i 4 0x0202
            else if 0 < a.listenUs && !x.listened then s
            else
              let v := s.vsupAt (s.now - x.rampU - x.femU)
              let lv := startLevel v.2 x v.1
              let s1 := v.2.setItem idx (fun j => Item.mapTx (fun y => { y with
                rampStart := s.now - y.rampU - y.femU, sent := lv.1, doneReason := lv.2 }) { j with started := true, startTime := s.net })
              let s2 := (s1.put F.RFE_STATUS_PMAX (pmaxCode v.1)).put F.RFE_ANT_RETRY 0
              ({ s2 with rfe := { s2.rfe with
                onAir := some (emissionOf s i x a lv.1)
                faultSeen := if x.doneReason = 0 then 0 else s.rfe.faultSeen } }.syncFem).fire 33
    | _ => s

/-- TX_START (R93). -/
def execTxStart (t idx : Nat) (s : State) : Out := .next ((s.at t).startTx idx)

/-! ### Antenna faults (R237 to R239) -/

/-- Classify a reflection by its phase at the antenna: 1 open, 2 short, 3 mismatch (R237). -/
def faultClass (phase : Nat) (external : Bool) : Nat :=
  let p := phase % 256
  if external then 3
  else if p ≤ 32 ∨ 224 ≤ p then 1
  else if 96 ≤ p ∧ p ≤ 160 then 2
  else 3

/-- Reason of a fault class. -/
def faultReason (c : Nat) : Nat := 0x0502 + c

/-- RFE_ANT_MEAS of a measurement. -/
def antMeas (gamma phase fwd : Nat) : Nat := gamma % 1024 + phase % 256 * 65536 + fwd % 256 * 2 ^ 24

/-- Is |Γ| at or above 5/7?  Below 0.6?  (GAMMA is |Γ| × 1,023.) -/
def gammaFault (g : Nat) : Bool := decide (5 * 1023 ≤ 7 * g)
def gammaClear (g : Nat) : Bool := decide (10 * g < 6 * 1023)

/-- A fault latches and is reported (R238). -/
def State.latchFault (s : State) (i : Item) (c gamma ph fwd : Nat) : State :=
  let s2 := ((s.put F.RFE_ANT_LATCHED 1).put F.RFE_ANT_LAST c).wr Reg.RFE_ANT_MEAS (word (antMeas gamma ph fwd))
  let s3 := { s2 with rfe := { s2.rfe with faultSeen := c } }
  let s4 := ((s3.count (F.RFE_CNT_COUNT 3)).irq Blk.RFE 1).fire 47
  s4.record 0x0500 (faultReason c) (w4 := i.name) (w5 := antMeas gamma ph fwd)

/-- The transmission in its ramp-up, before its first chip. -/
def rampingTx (s : State) : Option Item :=
  s.items.find? (fun i => !i.decided && !i.started && (match i.kind with
    | .tx x => decide (s.net < (i.attempt x).time) && decide ((i.attempt x).time ≤ s.net + x.rampU)
    | _ => false))

/-- A fault is detected during a transmission or its ramp-up: it latches, is reported, and folds the level back; a ramp-up
is rescaled, so that the level is folded from the first chip on (R237, R238). -/
def State.antennaFault (s : State) (gamma phase fwd : Nat) (external : Bool) : State :=
  let ph := (phase + s.get F.RFE_ANT_PHASE_OFS) % 256
  let c := faultClass ph external
  if !external && (!gammaFault gamma || decide (fwd ≤ 40)) then s
  else if external && s.get F.RFE_FEM_FLT_SEL == 0 then s
  else match s.rfe.onAir with
    | none => match rampingTx s with
      | none => s
      | some i => (s.setItem i.idx (fun j => j.mapTx (fun y => { y with doneReason := faultReason c }))).latchFault i c gamma ph fwd
    | some e => match s.item e.item with
      | none => s
      | some i =>
          let level := if s.on F.RFE_ANT_FOLD then Nat.min e.level 40 else e.level
          let s1 := s.setItem e.item (fun j => j.mapTx (fun y => { y with sent := level, doneReason := faultReason c }))
          { s1 with rfe := { s1.rfe with onAir := some { e with level := level } } }.latchFault i c gamma ph fwd

/-- ANTENNA_FAULT (R238). -/
def execAntennaFault (t gamma phase fwd : Nat) (external : Bool) (s : State) : Out :=
  .next ((s.at t).antennaFault gamma phase fwd external)

/-- Writing 1 to RETRY clears the latch at the write (R239). -/
def State.antennaRetry (s : State) : State :=
  let s1 := s.put F.RFE_ANT_RETRY 1
  if s.on F.RFE_ANT_LATCHED then ((s1.put F.RFE_ANT_LATCHED 0).irq Blk.RFE 2).record 0x0500 0 (w6 := 4) else s1

/-- ANTENNA_RETRY (R239). -/
def execAntennaRetry (t : Nat) (s : State) : Out := .next ((s.at t).antennaRetry)

/-! ### The end (R26, R141, R239) -/

/-- Note the span over which an ended transmission blanked the chains, and forget those that nothing can count any more. -/
def State.noteBlank (s : State) (x : TxInfo) : State :=
  let counts := fun (p : Nat × Nat) => decide (s.now < p.2 + secondU) || s.items.any (fun i => i.started && !i.decided && (match i.kind with
    | .rx r => decide (r.openedAt < p.2)
    | _ => false))
  { s with rfe := { s.rfe with blanks := ((x.rampStart, txEndAt x + usU 20) :: s.rfe.blanks).filter counts } }

/-- Quench is settled when no transmission is left on air (R60, Table 2-10). -/
def State.settleQuench (s : State) : State :=
  if s.on F.HRE_QUENCH_QUENCH && !s.on F.HRE_QUENCH_SETTLED && s.rfe.onAir.isNone then
    (s.put F.HRE_QUENCH_SETTLED 1).irq Blk.HRE (2 ^ 24)
  else s

/-- The measurement of a whole transmission: the coupler's value is loaded, and a clean one clears the latch (R239). -/
def State.antennaMeasured (s : State) (i : Item) (x : TxInfo) (gamma phase fwd : Nat) : State :=
  let ph := (phase + s.get F.RFE_ANT_PHASE_OFS) % 256
  let s1 := s.wr Reg.RFE_ANT_MEAS (word (antMeas gamma ph fwd))
  if s.on F.RFE_ANT_LATCHED && s.rfe.faultSeen == 0 && x.cutAt.isNone && decide (40 ≤ fwd) && gammaClear gamma then
    ((s1.put F.RFE_ANT_LATCHED 0).irq Blk.RFE 2).record 0x0500 0 (w4 := i.name) (w5 := antMeas gamma ph fwd) (w6 := 3)
  else s1

/-- Ramp-down ends: the final is decided, reservations are released, airtime and energy are settled (R26). -/
def State.endTx (s : State) (idx gamma phase fwd : Nat) : State :=
  match s.item idx with
  | none => s
  | some i => match i.kind with
    | .tx x =>
        if i.decided || !i.started || decide (s.now < txEndAt x) then s
        else
          let s1 := (s.antennaMeasured i x gamma phase fwd).noteBlank x
          let s2 := { s1 with rfe := { s1.rfe with onAir := none, bandTx := false, lagUntil := s.now + femLagU s } }
          let s3 := match x.cutAt with
            | some _ => s2.finishAt idx x.cutStatus x.cutReason x.cutSince
            | none => s2.finish idx 2 x.doneReason
          ((s3.fire 34).syncFem.settleQuench).syncUsed
    | _ => s

/-- TX_END (R26). -/
def execTxEnd (t idx gamma phase fwd : Nat) (s : State) : Out := .next ((s.at t).endTx idx gamma phase fwd)

end Sys2Proof.Machine
end

