-- ==== Sys2Proof/Machine/Drone.lean ====
section
/-! DEFINITION. Setting network time, following a parent, and the regional presets (R112 to R114, R132 to R139, R147). -/

namespace Sys2Proof.Machine

/-! ### TIME_SET (R114) -/

/-- The first fetched TIME_SET of one mode whose turn it is. -/
def State.onTimeSet (s : State) (mode : Nat) (k : State → Fetched → State) : State :=
  s.onTurn (fun f => wbits f.words 0 7 0 == 6 && wbits f.words 6 0 0 == mode) k

/-- STEP loads the counter and abandons a slew; refused with 0x09F7 unless the host is the time source, and with 0x09F4
while any promise-table entry is in use. -/
def State.timeStep (s : State) (f : Fetched) : State :=
  if s.get F.MAC_CFG_TIME_SRC ≠ 0 then s.refuse f.ring f.words 0x09F7
  else if !s.items.isEmpty then s.refuse f.ring f.words 0x09F4
  else
    let v := leNat (f.buf.take 8)
    let s1 := ({ s with net := v, mac := { s.mac with slew := 0 } }).put F.MAC_SYNC_STATUS_SLEWING 0
    s1.done f.ring f.words 0 (w4 := v % 2 ^ 32) (w5 := v / 2 ^ 32)

/-- SLEW applies a signed offset at MAX_SLEW; a new slew replaces the rest of the previous one. -/
def State.timeSlew (s : State) (f : Fetched) : State :=
  if s.get F.MAC_CFG_TIME_SRC ≠ 0 then s.refuse f.ring f.words 0x09F7
  else
    let v := signed 64 (leNat (f.buf.take 8))
    let s1 := ({ s with mac := { s.mac with slew := v } }).put F.MAC_SYNC_STATUS_SLEWING (if v = 0 then 0 else 1)
    s1.done f.ring f.words 0 (w4 := s.net % 2 ^ 32) (w5 := s.net / 2 ^ 32)

/-- TIME_SET_STEP and TIME_SET_SLEW (R114). -/
def execTimeSetStep (t : Nat) (s : State) : Out := .next ((s.at t).onTimeSet 0 State.timeStep)
def execTimeSetSlew (t : Nat) (s : State) : Out := .next ((s.at t).onTimeSet 1 State.timeSlew)

/-! ### The device's own receive items (R132, R137) -/

/-- Beacon period in timestamp units: the parent's, while one is tracked. -/
def beaconPeriodU (s : State) : Nat := 2 ^ s.mac.periodLog2 * slotU

/-- One of the device's own receive windows: its owner, opening, close and bin. -/
structure OwnWindow where
  owner : Owner
  start : Nat
  close : Nat
  bin : Int
  deriving DecidableEq, Repr

def OwnWindow.info (w : OwnWindow) : RxInfo :=
  ⟨3, 0, 0, false, 1, w.bin, 1, w.close, false, 0, 0, 0, 0, 0, 0, 0, false, false, false, false, 0, 0, 0, 0, none⟩
def OwnWindow.waiting (w : OwnWindow) : Waiting :=
  ⟨w.owner, 0xFF, [0, word (1 * 2 ^ 18), loWord w.start, hiWord w.start, 0, 0, 0, 0], .rx w.info, none⟩

/-- The code that refuses one of the device's own windows: the gate, the promise table, RX_LIMIT in its slots, the bins of
the profile, Bellows (R89, R132). -/
def ownRefusal (s : State) (w : OwnWindow) : Option Nat :=
  let ch := chargesOf s (w.close - w.start) (.rx w.info)
  match gate s false with
  | some c => some c
  | none =>
      if (freeIndex s 4096 4096).isNone then some 0x0804
      else if !allSlots (fun x => decide (rxInSlot s x < s.get F.CHN_CFG_RX_LIMIT)) (asn w.start) (asn (w.close - 1) + 1 - asn w.start)
      then some 0x0801
      else if !inNarrowband s w.bin 1 then some 0x07F1
      else bellows s 1 (periodOf s (s.localOf w.start)) ch.1 ch.2.1 ch.2.2

/-- Accept one of the device's own windows that `ownRefusal` lets pass. -/
def State.takeOwn (s : State) (w : OwnWindow) : State :=
  let ch := chargesOf s (w.close - w.start) (.rx w.info)
  match freeIndex s 4096 4096 with
  | none => s
  | some idx => s.accept w.waiting idx (.rx w.info) w.start none 0 0 ch.2.1 ch.2.2

/-- Take the reservations of every window of `ws`, or of none (R25).  What refuses them is answered. -/
def State.takeAll (s : State) : List OwnWindow → State ⊕ Nat
  | [] => .inl s
  | w :: r => match ownRefusal s w with
    | some c => .inr c
    | none => State.takeAll (s.takeOwn w) r

/-- Admit one internal receive item of the Drone, with PRIO 0 and ECLASS 1: a refusal is reported on ring 20 and answered
`false` (R132). -/
def State.admitOwn (s : State) (ws : List OwnWindow) : State × Bool :=
  match s.takeAll ws with
  | .inl t => (t, true)
  | .inr code => ((countBellows s code).record 0x0900 code (w4 := 0xFF), false)

/-- End the device's own items of the kinds `p` that have not ended: what they used is settled, the rest is credited back
(R26). -/
def State.dropOwn (s : State) (p : Owner → Bool) : State :=
  (s.items.filter (fun i => p i.owner && !i.decided)).foldl (fun x i => x.finish i.idx 2 0) s

def isTracking : Owner → Bool | .tracking _ => true | _ => false
def isScan : Owner → Bool | .recoveryScan => true | .candidateScan => true | _ => false

/-- Half-width of the tracking windows before its cap (R133). -/
def guardU (s : State) : Nat :=
  s.get F.MAC_SYNC_G0 * 1024 + s.get F.MAC_SYNC_DRIFT * (s.mac.missed + 1) * beaconPeriodU s / 8000000

/-- Submit the next pair of tracking windows, one period ahead, as one item (R132, R133). -/
def State.submitTracking (s : State) : State × Bool :=
  let j := s.get F.MAC_SYNC_STATUS_PARENT
  let h0 := guardU s
  let h := Nat.min h0 (32 * tickU)
  let acq := acqU (s.get (F.MAC_NBR_RADIO_SF_IDX j))
  let bin := binOf (s.get (F.MAC_NBR_RADIO_BIN j))
  let t := s.mac.lastBeacon + (s.mac.missed + 1) * beaconPeriodU s
  let r := t + s.mac.repairDelay * slotU
  let s0 := if 32 * tickU < h0 then (s.put F.MAC_SYNC_STATUS_CAPPED 1).irq Blk.MAC 16 else s.put F.MAC_SYNC_STATUS_CAPPED 0
  let s1 := s0.dropOwn isTracking
  { s1 with mac := { s1.mac with verified := false } }.admitOwn
    [⟨.tracking false, t - h, t + h + acq, bin⟩, ⟨.tracking true, r - h, r + h + acq, bin⟩]

/-- Enter a tracking state. -/
def State.trackState (s : State) (st : Nat) : State :=
  ({ s with mac := { s.mac with stateSince := s.now } }).put F.MAC_SYNC_STATUS_STATE st

/-- The first candidate entry at or above index `j` (R137). -/
def candidateFrom (s : State) (skip : Option Nat) (j : Nat) : Nat → Option Nat
  | 0 => none
  | n + 1 => if s.on (F.MAC_NBR_ADDR_EN j) && s.on (F.MAC_NBR_ADDR_CAND j) && skip != some j then some j
      else candidateFrom s skip (j + 1) n

/-- Scan the next candidate from index `j`, or enter ORPHAN when every candidate has been tried (R137). -/
def State.scanFrom (s : State) (j : Nat) : State :=
  let s1 := s.dropOwn isScan
  match candidateFrom s s.mac.skip j (16 - j) with
  | some k =>
      let s2 := { s1 with mac := { s1.mac with candidate := k, stateSince := s1.now } }
      (s2.admitOwn [⟨.candidateScan, s.net, s.net + 2 * beaconPeriodU s, binOf (s.get (F.MAC_NBR_RADIO_BIN k))⟩]).1
  | none => (s1.trackState 7).irq Blk.MAC 8

/-- Enter ACQUIRE; the lost parent is skipped in the first ACQUIRE after a RECOVERY. -/
def State.enterAcquire (s : State) (skip : Option Nat) : State :=
  ({ (s.trackState 6) with mac := { (s.trackState 6).mac with skip := skip } }).scanFrom 0

/-- Does an accepted item depend on the parent (R138)? -/
def dependsOnParent (s : State) (i : Item) : Bool :=
  i.owner == .host && !i.started && (match i.kind with
    | .tx x => parentLink s x.pmode x.arg
    | .rx x => parentLink s x.pmode x.arg
    | _ => false)

/-- The parent is lost: dependent items abort, and the recovery scan starts (R137, R138). -/
def State.loseParent (s : State) : State :=
  let s1 := ((s.endAll (dependsOnParent s) 5 0x0904).irq Blk.MAC 2).trackState 5
  let j := s.get F.MAC_SYNC_STATUS_PARENT
  let r := s1.admitOwn [⟨.recoveryScan, s1.net, s1.net + 4 * beaconPeriodU s1, binOf (s1.get (F.MAC_NBR_RADIO_BIN j))⟩]
  if r.2 then r.1 else r.1.enterAcquire (some j)

/-- A period is missed: the tracking state advances (R134, R137).  A refused pair counts as a miss at once, so that at most
`n` periods are missed here (R132; notes/assumptions/101.md). -/
def State.missPeriods : Nat → State → State
  | 0, s => s
  | n + 1, s =>
      let s1 := (({ s with mac := { s.mac with missed := s.mac.missed + 1 } }).irq Blk.MAC 1).fire 39
      let next := fun (k : Nat) =>
        let r := (s1.trackState k).submitTracking
        if r.2 then r.1 else State.missPeriods n r.1
      match s.get F.MAC_SYNC_STATUS_STATE with
      | 2 => next 3
      | 3 => next 4
      | 4 => s1.loseParent
      | _ => s1
def State.periodMissed (s : State) : State := s.missPeriods 3

/-- Place the next pair of tracking windows; one that is refused is a missed period (R132). -/
def State.placeTracking (s : State) : State :=
  let r := s.submitTracking
  if r.2 then r.1 else r.1.periodMissed

/-- A tracking window has closed: the period is missed once neither window is left and no beacon verified (R134). -/
def State.trackingClosed (s : State) : State :=
  if s.items.any (fun i => isTracking i.owner && !i.decided) || s.mac.verified then s else s.periodMissed

/-- The phase error of a verified beacon: local first chip minus the beacon's start (R128, R136). -/
def beaconPhase (time repairDelay : Nat) (repaired : Bool) (firstChip : Nat) : Int :=
  (firstChip : Int) - ((time + (if repaired then repairDelay * slotU else 0) : Nat) : Int)

/-- A beacon of neighbour `j` verifies: drift estimate, phase slew, tracking state (R136, R137, R139).  `payload` is the
beacon's payload of Table 4-7.  DESIGN CHOICE: the filter's quotient is rounded toward minus infinity
(notes/assumptions/101.md). -/
def State.beaconVerified (s : State) (j : Nat) (payload : List Byte) (repaired : Bool) (firstChip : Nat) (eps : Int)
    (lq : Nat) : State :=
  let time := leNat (payload.take 8)
  let depth := bits (leNat (slice payload 9 1)) 3 0
  let plog := bits (leNat (slice payload 8 1)) 4 0
  let rd := bits (leNat (slice payload 12 1)) 7 2
  let phi := beaconPhase time rd repaired firstChip
  let st := s.get F.MAC_SYNC_STATUS_STATE
  let s0 := (s.put (F.MAC_NBR_QUAL_LQ j) lq).put (F.MAC_NBR_QUAL_DEPTH j) depth
  let isParent := s.on F.MAC_SYNC_STATUS_PARENT_V && s.get F.MAC_SYNC_STATUS_PARENT == j
  let acceptable := decide (depth < s.get F.MAC_DRONE_DEPTH_MAX) && decide (phi.natAbs ≤ 65536 * tickU)
  let est := signed 32 (s.get F.MAC_FREQ_EST_EST)
  let adopt := fun (x : State) => (x.put F.MAC_SYNC_STATUS_PARENT j).put F.MAC_SYNC_STATUS_PARENT_V 1
  let estimate := fun (x : State) =>
    (x.put F.MAC_FREQ_EST_EST (unsigned 32 (est + (eps - est) / (2 ^ s.get F.MAC_SYNC_ALPHA : Nat)))).put F.MAC_PHASE_PHI (unsigned 32 phi)
  let follow := fun (x : State) =>
    let y := estimate x
    let z := { y with mac := { y.mac with missed := 0, lastBeacon := time, parentDepth := depth, repairDelay := rd,
                                          periodLog2 := plog, verified := true, slew := -phi } }
    ((((z.put F.MAC_SYNC_STATUS_SLEWING (if phi = 0 then 0 else 1)).dropOwn isScan).trackState 2).fire 38).placeTracking
  if st = 1 then
    if s.on (F.MAC_NBR_ADDR_CAND j) && acceptable then
      let y := adopt (estimate { s0 with net := ((s0.net : Int) - phi).toNat })
      let z := { y with mac := { y.mac with missed := 0, lastBeacon := time, parentDepth := depth, repairDelay := rd,
                                            periodLog2 := plog, verified := true, slew := 0 } }
      (((z.dropOwn isScan).trackState 2).fire 38).placeTracking
    else s0
  else if st = 6 then
    if s.on (F.MAC_NBR_ADDR_CAND j) && acceptable then
      (follow (adopt s0)).irq Blk.MAC 4
    else s0
  else if isParent && decide (2 ≤ st) && decide (st ≤ 5) then follow s0
  else s0

/-- 4 × P elapse in RECOVERY (R137). -/
def State.recoveryTimeout (s : State) : State :=
  if s.get F.MAC_SYNC_STATUS_STATE = 5 ∧ s.mac.stateSince + 4 * beaconPeriodU s ≤ s.now then
    s.enterAcquire (some (s.get F.MAC_SYNC_STATUS_PARENT))
  else s

/-- A candidate's 2 × P scan ends: the next candidate, or ORPHAN; before a first parent the scan starts over
(R137; notes/assumptions/11.md). -/
def State.scanExpiry (s : State) : State :=
  if s.mac.stateSince + 2 * beaconPeriodU s ≤ s.now then
    match s.get F.MAC_SYNC_STATUS_STATE with
    | 6 => s.scanFrom (s.mac.candidate + 1)
    | 1 => match candidateFrom s none (s.mac.candidate + 1) (15 - s.mac.candidate) with
      | some k => s.scanFrom k
      | none => s.scanFrom 0
    | _ => s
  else s

/-- 4 × RETRY × P elapse in ORPHAN (R137). -/
def State.orphanExpiry (s : State) : State :=
  if s.get F.MAC_SYNC_STATUS_STATE = 7 ∧ s.mac.stateSince + 4 * s.get F.MAC_SYNC_RETRY * beaconPeriodU s ≤ s.now then
    s.enterAcquire none
  else s

/-- RECOVERY_TIMEOUT, ACQUIRE_SCAN_EXPIRY and ORPHAN_RETRY_EXPIRY (R137). -/
def execRecoveryTimeout (t : Nat) (s : State) : Out := .next (s.at t).recoveryTimeout
def execAcquireScanExpiry (t : Nat) (s : State) : Out := .next (s.at t).scanExpiry
def execOrphanRetryExpiry (t : Nat) (s : State) : Out := .next (s.at t).orphanExpiry

/-! ### Regional presets (R147, Table 4-11) -/

/-- One account of a preset: edges in kHz, WIDE, DWELL, LIMIT, N, B, MAXTX, listen span, threshold, pause. -/
structure Preset where
  flo : Nat
  fhi : Nat
  wide : Nat
  dwell : Nat
  limit : Nat
  n : Nat
  b : Nat
  maxtx : Nat
  listen : Nat
  thresh : Nat
  pause : Nat
  deriving DecidableEq, Repr

/-- The accounts of a region (Table 4-11). -/
def regionPresets (r : Nat) : List Preset :=
  match r with
  | 1 => [⟨863000, 865000, 0, 0, 1, 60, 60, 65535, 0, 0, 0⟩, ⟨865000, 868000, 0, 0, 10, 60, 60, 65535, 0, 0, 0⟩,
          ⟨868000, 868600, 0, 0, 10, 60, 60, 65535, 0, 0, 0⟩, ⟨868700, 869200, 0, 0, 1, 60, 60, 65535, 0, 0, 0⟩,
          ⟨869400, 869650, 0, 0, 100, 60, 60, 65535, 0, 0, 0⟩, ⟨869700, 870000, 0, 0, 10, 60, 60, 65535, 0, 0, 0⟩,
          ⟨865000, 869200, 1, 0, 1, 60, 60, 65535, 0, 0, 0⟩]
  | 2 => [⟨902000, 928000, 0, 1, 20, 20, 1, 400, 0, 0, 0⟩, ⟨902000, 928000, 1, 0, 1000, 60, 60, 65535, 0, 0, 0⟩]
  | 3 => [⟨920500, 923500, 0, 0, 100, 60, 60, 4000, 5000, 80, 50⟩, ⟨923500, 928100, 0, 0, 100, 60, 60, 400, 128, 80, 2⟩]
  | _ => []

/-- Load account `n` from a preset. -/
def State.loadPreset (s : State) (n : Nat) (p : Preset) : State :=
  ((((s.wr (Reg.MAC_DC_CFG n) (word (1 + p.wide * 2 + p.dwell * 4 + (if p.listen = 0 then 0 else 8) + p.limit * 65536))).wr
    (Reg.MAC_DC_FLO n) (word p.flo)).wr (Reg.MAC_DC_FHI n) (word p.fhi)).wr
    (Reg.MAC_DC_WIN n) (word (p.b + p.n * 256 + p.maxtx * 65536))).wr
    (Reg.MAC_DC_LBT n) (word (p.listen + p.thresh * 65536 + p.pause * 2 ^ 24))

/-- Load presets from account `n` on. -/
def State.loadPresets (s : State) (n : Nat) : List Preset → State
  | [] => s
  | p :: r => (s.loadPreset n p).loadPresets (n + 1) r

/-- Writing a nonzero REGION while the MAC is disabled loads Table 4-11 and disables every other account. -/
def State.regionLoad (s : State) (r : Nat) : State :=
  if s.en Blk.MAC || s.on (F.BLK_BUSY Blk.MAC) then s
  else
    let s1 := s.put F.MAC_CFG_REGION r
    if r % 4 = 0 then s1
    else ((List.range 16).foldl (fun x n => x.put (F.MAC_DC_CFG_EN n) 0) s1).loadPresets 0 (regionPresets (r % 4))

/-- REGION_PRESET_LOAD (R147). -/
def execRegionPresetLoad (t region : Nat) (s : State) : Out := .next ((s.at t).regionLoad region)

end Sys2Proof.Machine
end

