-- ==== Sys2Proof/Machine/Vault.lean ====
section
/-! DEFINITION. The key vault: whether a key may be used, its usage counter, and the derived-key cache
(R262, R284 to R289). -/

namespace Sys2Proof.Machine

/-- The 48-bit usage counter of a slot (R288). -/
def slotUse (s : State) (n : Nat) : Nat := s.get (F.CRY_SLOT_USE_LO_USE n) + s.get (F.CRY_SLOT_USE_HI_USE n) * 2 ^ 32

/-- The usage limit of a slot; LIMIT_LOG2 48 is none. -/
def slotLimit (s : State) (n : Nat) : Option Nat :=
  let k := s.get (F.CRY_SLOT_ATTR_LIMIT_LOG2 n)
  if k = 48 then none else some (2 ^ k)

/-- May the slot be used in a mode (R286)? -/
def slotMode (s : State) (n m : Nat) : Bool := let v := s.get (F.CRY_SLOT_ATTR_MODES n); bits v m m == 1

/-- Record a usage value in the key store, for a slot that holds the stored key (R289). -/
def State.recordUse (s : State) (n u : Nat) : State :=
  { s with cry := { s.cry with store := s.cry.store.map (fun k => if k.slot == n then { k with usage := some u } else k) } }

/-- Load a usage counter: SLOT_LOW at 15/16 of the limit, EXHAUSTED at the limit, and a record in the key store at every
multiple of 2^32 (R288, R289). -/
def State.setUse (s : State) (n u : Nat) : State :=
  let old := slotUse s n
  let s1 := (s.put (F.CRY_SLOT_USE_LO_USE n) u).put (F.CRY_SLOT_USE_HI_USE n) (u / 2 ^ 32)
  let s2 := if old / 2 ^ 32 < u / 2 ^ 32 ∧ s.on (F.CRY_SLOT_ATTR_PERSIST n) then s1.recordUse n (u / 2 ^ 32 * 2 ^ 32) else s1
  match slotLimit s n with
  | none => s2
  | some lim =>
      let s3 := if old * 16 ≤ lim * 15 ∧ lim * 15 < u * 16 then s2.irq Blk.CRY 1 else s2
      if old < lim ∧ lim ≤ u then (s3.put (F.CRY_SLOT_ATTR_EXHAUSTED n) 1).irq Blk.CRY 2 else s3

/-- The code that refuses a request for `blocks` blocks under a slot: alarm, empty, exhausted or past the limit. -/
def slotRefuses (s : State) (n blocks : Nat) : Option Nat :=
  if s.on F.SEC_ALARM_ACTIVE then some 0x0B01
  else if !s.on (F.CRY_SLOT_ATTR_VALID n) then some 0x0B03
  else if s.on (F.CRY_SLOT_ATTR_EXHAUSTED n) then some 0x0B02
  else match slotLimit s n with
    | some lim => if lim < slotUse s n + blocks then some 0x0B02 else none
    | none => none

/-- Count the blocks of an accepted request. -/
def State.useSlot (s : State) (n blocks : Nat) : State := s.setUse n (slotUse s n + blocks)

/-- Count the blocks of a received frame's check: never refused, counted up to the limit only (R288). -/
def State.useSlotRx (s : State) (n blocks : Nat) : State :=
  if s.on (F.CRY_SLOT_ATTR_EXHAUSTED n) then s
  else match slotLimit s n with
    | some lim => if lim ≤ slotUse s n then s else s.setUse n (Nat.min lim (slotUse s n + blocks))
    | none => s.useSlot n blocks

/-- A request completes, or is refused (CRY_CNT[0], CRY_CNT[1]). -/
def State.cryCompleted (s : State) : State := s.count (F.CRY_CNT_COUNT 0)
def State.cryRefused (s : State) : State := s.count (F.CRY_CNT_COUNT 1)

/-- The key that a slot holds (R284). -/
def slotKey (s : State) (n : Nat) : AesKey := ⟨s.on (F.CRY_SLOT_ATTR_TYPE n), s.cry.vault.getD n 0⟩

/-- The blocks of one CCM* frame: B0, the authenticated data with its length, the payload, and the counter blocks (R279). -/
def ccmBlocks (aad payload : Nat) (clear : Bool) : Nat :=
  let p := (payload + 15) / 16
  1 + (aad + 2 + 15) / 16 + p + 1 + (if clear then 0 else p)

/-! ### Derived keys (R262, R287) -/

/-- The KDF input of an endpoint key (R262). -/
def endpointKdfInput (eui gen : Nat) : List Byte :=
  [0x01, 0x48, 0x45, 0x47, 0x41, 0x4C, 0x45, 0x50, 0x4B, 0x00] ++ (leBytes 8 eui).reverse ++ leBytes 1 gen ++ [0x00, 0x80]

/-- The key of an EUI-64 at a generation under a master slot, and under the one of ESM_CFG. -/
def derivedKey (s : State) (master eui gen : Nat) : AesKey := kdf (slotKey s master) (endpointKdfInput eui gen)
def endpointKey (s : State) (eui gen : Nat) : AesKey := derivedKey s (s.get F.ESM_CFG_MASTER_SLOT) eui gen

/-- Is a derivation in the cache? -/
def isCached (s : State) (eui gen : Nat) : Bool :=
  s.on F.CRY_CFG_CACHE_EN &&
    s.cry.cache.any (fun d => d.master == s.get F.ESM_CFG_MASTER_SLOT && d.eui == eui && d.gen == gen)

/-- The lowest cache entry number that is not in use among `k` from `n`. -/
def freeEntry (c : List Derived) (n : Nat) : Nat → Nat
  | 0 => n
  | k + 1 => if c.any (fun d => d.entry == n) then freeEntry c (n + 1) k else n

/-- A derivation takes entry `n` of the cache, beside the entries `rest`: the entry's sequence number advances each time
it is reused (R287). -/
def State.cacheEnter (s : State) (n master eui gen : Nat) (rest : List Derived) : State :=
  let q := Sparse.get (fun _ => 0) s.cry.cacheSeq n
  { s with cry := { s.cry with
    cache := ⟨n, q % 16, master, eui, gen⟩ :: rest
    cacheSeq := Sparse.set (fun _ => 0) s.cry.cacheSeq n (q % 16 + 1) } }

/-- Note a use of the entry that satisfies `p`: it becomes the most recently used one (R287). -/
def State.cacheHit (s : State) (p : Derived → Bool) : State :=
  match takeFirst p s.cry.cache with
  | some (d, rest) => { s with cry := { s.cry with cache := d :: rest } }
  | none => s

/-- Note a use of an endpoint's key: a hit becomes the most recently used entry; a miss takes a free entry, or evicts the
least recently used one (R287). -/
def State.cacheTouch (s : State) (eui gen : Nat) : State :=
  let m := s.get F.ESM_CFG_MASTER_SLOT
  let same := fun (d : Derived) => d.master == m && d.eui == eui && d.gen == gen
  if isCached s eui gen then s.cacheHit same
  else
    let s1 := s.count (F.CRY_CNT_COUNT 2)
    let c := s.cry.cache
    match takeFirst same c with
    | some (d, rest) => s1.cacheEnter d.entry m eui gen rest
    | none =>
        if c.length < 4096 then s1.cacheEnter (freeEntry c 0 4096) m eui gen c
        else match c.getLast? with
          | some d => s1.cacheEnter d.entry m eui gen c.dropLast
          | none => s1

/-- Blocks that a use of an endpoint key costs its master slot: the frame's, and 3 for a miss (R287). -/
def derivedBlocks (s : State) (eui gen blocks : Nat) : Nat := blocks + (if isCached s eui gen then 0 else 3)

/-- The code that refuses a request under an endpoint key (R287, R288). -/
def derivedRefuses (s : State) (eui gen blocks : Nat) : Option Nat :=
  let m := s.get F.ESM_CFG_MASTER_SLOT
  match slotRefuses s m (derivedBlocks s eui gen blocks) with
  | some c => some c
  | none => if slotMode s m 7 then none else some 0x0B04

/-- Run a request under an endpoint key. -/
def State.useDerived (s : State) (eui gen blocks : Nat) (rx : Bool) : State :=
  let m := s.get F.ESM_CFG_MASTER_SLOT
  let n := derivedBlocks s eui gen blocks
  ((if rx then s.useSlotRx m n else s.useSlot m n).cacheTouch eui gen).cryCompleted

/-! ### Transmit frame counters (R121, R291, R292) -/

/-- TXFC_LOW is set; the imports that a restart needs count from here (R121, R292). -/
def State.txfcLow (s : State) : State := { s with cry := { s.cry with imported := [] } }.irq Blk.MAC 32

/-- Fewer than 2^24 values remain before 0xFFFF_FFFF (R121). -/
def isTxfcLow (n : Nat) : Bool := decide (0xFFFFFFFF < n + 2 ^ 24)

/-- Take the next transmit frame counter: refill of the reserve starts when 16,384 values remain, and TXFC_LOW is set
when fewer than 2^24 values remain. -/
def State.takeTxfc (s : State) : State :=
  let n := s.get F.MAC_TXFC_NEXT + 1
  let s1 := s.put F.MAC_TXFC_NEXT n
  let s2 := if s.mac.txfcLimit ≤ n + 16384 then { s1 with mac := { s1.mac with txfcRefill := true } } else s1
  if isTxfcLow n && !isTxfcLow (n - 1) then s2.txfcLow else s2

/-- Does the transmit frame counter refuse a descriptor (R121)? -/
def txfcOut (s : State) : Bool := decide (s.mac.txfcLimit ≤ s.get F.MAC_TXFC_NEXT) || decide (0xFFFFFFFF < s.get F.MAC_TXFC_NEXT + 1)

/-- The refill of the transmit frame counter's reserve ends: monotonic counter 0 has advanced, and the next block of
65,536 is reserved (R121, R387). -/
def State.txfcRefill (s : State) : State :=
  if s.mac.txfcRefill then
    { s with mac := { s.mac with txfcLimit := Nat.min (s.mac.txfcLimit + 65536) (2 ^ 32), txfcRefill := false } }.setCounter 0
      (counterValue s 0 + 1)
  else s

/-- TXFC_REFILL_DONE (R121). -/
def execTxfcRefillDone (t : Nat) (s : State) : Out := .next (s.at t).txfcRefill

/-- The refill of the nonce reserve ends: monotonic counter 1 has advanced by one block of 65,536 (R291, R387). -/
def State.nonceRefill (s : State) : State :=
  if s.cry.nonceRefill then
    let n := s.cry.nonceFlash + 1
    let s1 := { s with cry := { s.cry with nonceFlash := n, nonceLimit := s.cry.nonceLimit + 65536, nonceRefill := false } }.setCounter 1 n
    if 2 ^ 32 ≤ n + 2 ^ 20 then s1.irq Blk.CRY 8 else s1
  else s

/-- NONCE_REFILL_DONE (R291). -/
def execNonceRefillDone (t : Nat) (s : State) : Out := .next (s.at t).nonceRefill

end Sys2Proof.Machine
end

