-- ==== Sys2Proof/Machine/Endpoint.lean ====
section
/-! DEFINITION. Endpoint entries and directory records: layout, access, the probe sequence, and uncorrectable errors
(R245 to R257). -/

namespace Sys2Proof.Machine

/-- An ESM entry (Table 8-2). -/
structure Entry where
  hwm : Nat
  heard : Nat
  lq : Nat
  gen : Nat
  state : Nat
  dirty : Bool
  deriving DecidableEq, Repr

/-- Read the fields of an entry. -/
def entryOf (w : DWord) : Entry :=
  let n := w.toNat
  ⟨bits n 31 0, bits n 47 32, bits n 55 48, bits n 59 56, bits n 62 60, bits n 63 63 == 1⟩

/-- The 64-bit word of an entry. -/
def Entry.word (e : Entry) : DWord :=
  BitVec.ofNat 64 (e.hwm % 2 ^ 32 + e.heard % 2 ^ 16 * 2 ^ 32 + e.lq % 2 ^ 8 * 2 ^ 48 + e.gen % 16 * 2 ^ 56
    + e.state % 8 * 2 ^ 60 + e.dirty.toNat * 2 ^ 63)

def State.entryWord (s : State) (n : Nat) : DWord := Sparse.get (fun _ => (0 : DWord)) s.esm.entries n
def State.entry (s : State) (n : Nat) : Entry := entryOf (s.entryWord n)

/-- Write an entry as a whole, which ends its uncorrectable error (R251). -/
def State.setEntryWord (s : State) (n : Nat) (w : DWord) : State :=
  let was := s.esm.bad.contains n
  let s1 := { s with esm := { s.esm with
    entries := Sparse.set (fun _ => (0 : DWord)) s.esm.entries n w, bad := s.esm.bad.filter (fun k => k != n) } }
  if was then s1.put F.ESM_UE_IDX_PENDING (Nat.min 255 s1.esm.bad.length) else s1

/-- Write an entry; a change of HWM sets DIRTY (R248). -/
def State.setEntry (s : State) (n : Nat) (e : Entry) : State :=
  s.setEntryWord n ({ e with dirty := e.dirty || (s.entry n).hwm != e.hwm }).word

/-- Is an endpoint's bank powered: every bank in the anchor profile, those with ON set in the relay profile (R252)? -/
def bankOn (s : State) (n : Nat) : Bool :=
  !s.relay || (let m := s.get F.ESM_BANKS_ON; bits m (n / 32768 % 32) (n / 32768 % 32) == 1)

/-- An uncorrectable error is detected in an entry (R251). -/
def State.entryUncorrectable (s : State) (n : Nat) : State :=
  let s1 := if s.esm.bad.contains n then s else { s with esm := { s.esm with bad := s.esm.bad ++ [n] } }
  let s2 := ((s1.count F.ESM_ECC_UE_COUNT).put F.ESM_UE_IDX_INDEX n).put F.ESM_UE_IDX_PENDING (Nat.min 255 s1.esm.bad.length)
  (s2.irq Blk.ESM 1).record 0x0A00 0x0A01 (w4 := n)

/-- The code of an entry is checked at a read: `err` 1 a corrected error, 2 or more an uncorrectable one, which an entry
that holds one already does not report again (R250, R251). -/
def State.entryRead (s : State) (n err : Nat) : State :=
  if s.esm.bad.contains n || err == 0 then s
  else if err = 1 then (s.count F.ESM_ECC_CE_COUNT).irq Blk.ESM 2
  else s.entryUncorrectable n

/-- HEARD of the present network time (Table 8-2). -/
def heardNow (s : State) : Nat := s.net / tickU % 2 ^ 48 / 1966080 % 65536

/-- Clamp a number between bounds. -/
def clampTo (lo hi v : Int) : Int := if v < lo then lo else if hi < v then hi else v

/-- Compressed link quality (R247): SNR in 0.25 dB, signal strength −`rssi` dBm. -/
def compressLq (l : LinkData) : Nat :=
  (16 * clampTo 1 15 ((l.snr + 92) / 12) + clampTo 0 15 ((150 - (l.rssi : Int)) / 5)).toNat

/-! ### The directory (R254 to R257) -/

/-- Home slot and step of an EUI-64's probe sequence (R255). -/
def probeStart (u : Nat) : Nat × Nat :=
  let m := 2 ^ 32
  let x := (u / m % m) ^^^ (u % m * 0x9E3779B1 % m)
  let x := x ^^^ (x >>> 15)
  let x := x * 0x2C1B3C6D % m
  let x := x ^^^ (x >>> 12)
  (x % 2 ^ 20, 2 * (bits x 31 21) + 1)

/-- slot(k) of an EUI-64. -/
def probeSlot (u k : Nat) : Nat := ((probeStart u).1 + k * (probeStart u).2) % 2 ^ 20

/-- The first probe from `k` that matches `u`; a free record ends it in the anchor profile (R256, R257). -/
def lookupFrom (s : State) (u k : Nat) : Nat → Option Nat
  | 0 => none
  | n + 1 =>
      let i := probeSlot u k
      let r := s.dirRec i
      if r.eui = u ∧ r.dstate ≠ 7 then some i
      else if r = DirRec.free ∧ !s.relay then none
      else lookupFrom s u (k + 1) n

/-- Look up an EUI-64. -/
def lookupEui (s : State) (u : Nat) : Option Nat := lookupFrom s u 0 64

/-- The first free slot from probe `k` that an insert may take: in a bank that is on (R256, R257). -/
def insertFrom (s : State) (u k : Nat) : Nat → Option Nat
  | 0 => none
  | n + 1 =>
      let i := probeSlot u k
      if s.dirRec i = DirRec.free ∧ bankOn s i then some i else insertFrom s u (k + 1) n

/-- The key under which an endpoint's frames pass: its EUI and the generation of its entry (R120, R262). -/
def endpointEui (s : State) (n : Nat) : Nat := (s.dirRec n).eui

end Sys2Proof.Machine
end

