-- ==== Sys2Proof/Machine/Lanes.lean ====
section
/-! DEFINITION. Detection: the energy detector and the cancellation buffer, qualification, capture, sync search and the
header checks (R174 to R181, R208). -/

namespace Sys2Proof.Machine

/-! ### The energy detector (R174, R175) -/

/-- One bin's energy window ends (R174, R175).  A window that saw zero samples neither moves the floor nor crosses it. -/
def State.binWindow (s : State) (zero : Bool) (w : BinWindow) : State :=
  if !binUsable w.bin || !inNarrowband s w.bin 1 then s
  else match s.binState w.bin with
    | none => if zero then s else s.setBin ⟨w.bin, w.level, 0, 0, 0, none⟩
    | some x =>
        let crossed := !zero && decide (w.level + s.get F.PHY_DET_ED_THRESH ≤ x.floor)
        let x1 := if crossed then { x with hold := s.get F.PHY_DET_ED_HOLD + 1, flaggedAt := if x.hold = 0 then s.now else x.flaggedAt }
          else { x with hold := x.hold - 1 }
        let x2 := if zero || crossed then x1
          else if x.floor < w.level then { x1 with floor := w.level, quietWindows := 0 }
          else if w.level < x.floor then
            if 2 ^ s.get F.PHY_DET_FLOOR_RISE ≤ x.quietWindows + 1 then { x1 with floor := x.floor - 1, quietWindows := 0 }
            else { x1 with quietWindows := x.quietWindows + 1 }
          else x1
        s.setBin x2

/-! ### The cancellation buffer (R191, R208) -/

/-- The cancellation set in ascending order: entry e of the buffer serves the e-th bin (R208). -/
def cancelSet (s : State) : List Int := usableBins.filter (binBit s F.MUR_CSET_BINS)

/-- Samples per buffer entry, and the instant, AON local, at which the sample `k` places before the newest one ends: at
245.76 kS/s a sample lasts 131,072/15 timestamp units. -/
def cbDepth : Nat := 16384
def cbInstant (e : CbEntry) (k : Nat) : Nat := e.until_ - k * 131072 / 15

/-- Is a debug session open (R519)? -/
def sessionOpen (s : State) : Bool := s.cpx.session

/-- Are jobs and buffer writes frozen (MUR_CB_IDX.FREEZE, effective only in authenticated debug)? -/
def frozen (s : State) : Bool := s.on F.MUR_CB_IDX_FREEZE && sessionOpen s

/-- The samples of an energy window enter the buffer entry of their bin; zeros stand for a blanked span (R191, R208). -/
def State.bufferSamples (s : State) (w : BinWindow) : State :=
  let set := cancelSet s
  if s.relay || !s.en Blk.MUR || !s.on F.MUR_CFG_SIC_EN || frozen s || !set.contains w.bin then s
  else
    let n := w.samples.length
    let kept := (w.samples.zip (List.range n)).map (fun p => if zeroAt s (s.now - (n - p.2) * 131072 / 15) then 0 else p.1)
    let push := fun (e : CbEntry) => (⟨s.now, (kept.reverse ++ e.samples).take cbDepth⟩ : CbEntry)
    { s with mur := { s.mur with buffer := modAt push s.mur.buffer (set.idxOf w.bin) } }

/-- Insert a bin's window in ascending bin order. -/
def byBin (l : List BinWindow) : List BinWindow := l.foldl (fun m w => insertBy (fun a b => decide (a.bin < b.bin)) w m) []

/-- The energy windows of bins that end together: floors and flags follow, then seats, in ascending bin order (R174, R194),
and the cancellation buffer takes their samples (R208). -/
def State.energyWindows (s : State) (l : List BinWindow) : State :=
  if !s.en Blk.PHY then s
  else
    let zero := zeroIn s (s.now - energyWindowU s) s.now
    (byBin l).foldl State.bufferSamples ((byBin l).foldl (fun x w => x.binWindow zero w) s).seats

/-- ENERGY_WINDOW_END (R174). -/
def execEnergyWindowEnd (t : Nat) (windows : List BinWindow) (s : State) : Out := .next ((s.at t).energyWindows windows)

/-! ### Qualification, capture, sync (R177 to R180) -/

/-- A lane in sync search on a detection's triple. -/
def searchingTriple (s : State) (d : Detection) : Bool :=
  !(lanesWhere (fun n => laneState s n == 2 && !laneEnded s n && (laneDet s n).bin == d.bin && (laneDet s n).sf == d.sf
    && (laneDet s n).code == d.code) 0 64).isEmpty

/-- Does a detection pass the scanner's own tests: an enabled spreading factor and code index, a carrier offset within
±24.576 kHz, in units of 2 Hz, and a metric at or above the threshold (R177)? -/
def scannerPasses (s : State) (d : Detection) : Bool :=
  bits (s.get F.PHY_CFG_SF_EN) d.sf d.sf == 1 && bits (s.get F.PHY_CFG_CODE_EN) d.code d.code == 1 &&
  decide ((signed 16 d.cfo).natAbs ≤ 12288) && decide (s.get F.PHY_QUAL_THRESH ≤ d.q)

/-- Is `d` a cross-correlation image of `e`: the same bin, code and chip timing, another spreading factor, and more than
6 dB weaker (R177)?  DEDUCED: timings agree within a chip, and the metrics are the strengths (notes/assumptions/40.md). -/
def isImage (d e : Detection) : Bool :=
  d.bin == e.bin && d.code == e.code && d.sf != e.sf && decide (d.q + 24 < e.q) &&
  decide (d.start < e.start + chipsU 1) && decide (e.start < d.start + chipsU 1)

/-- The detections that a scan qualifies, in the order of R199. -/
def qualifiedOf (s : State) (found : List Detection) : List Detection :=
  let pass := found.filter (scannerPasses s)
  inTurn (pass.filter (fun d => !pass.any (isImage d)))

/-- A qualified detection of a bin that holds a seat (R192): while a lane searches its triple it is not handed over, and
within two chips of a locked frame it is that frame (R180). -/
def State.handOver (s : State) (d : Detection) : State :=
  if (seatOf s d.bin).isNone || searchingTriple s d then s
  else
    let s1 := (s.count (F.PHY_CNT_COUNT 0)).fire 40
    if !(lanesWhere (fun n => laneState s n == 3 && sameFrame (laneDet s n) d) 0 64).isEmpty then s1
    else s1.assign d false 0

/-- The detections that the scanners qualify in one DSP cycle (R177, R199). -/
def State.qualified (s : State) (found : List Detection) : State :=
  if !s.en Blk.PHY || !s.en Blk.MUR then s else (qualifiedOf s found).foldl State.handOver s

/-- PREAMBLE_QUALIFIED (R177). -/
def execPreambleQualified (t : Nat) (found : List Detection) (s : State) : Out := .next ((s.at t).qualified found)

/-- A new preamble on the triple captures a searching lane (R179); ownership follows the new first chip (R201). -/
def State.relock (s : State) (n q start : Nat) : State :=
  let c := s.get F.PHY_QUAL_CAPTURE
  if laneState s n ≠ 2 ∨ laneEnded s n ∨ c = 0 ∨ q < s.get (F.MUR_LANE_METRIC_Q n) + 2 * c then s
  else
    let d := laneDet s n
    let s1 := ((s.put (F.MUR_LANE_METRIC_Q n) q).wr64 (Reg.MUR_LANE_START n) start).count (F.PHY_CNT_COUNT 2)
    s1.setLaneX n { s.laneX n with window := ownerOf s d.bin start, assignedAt := s.now }

/-- CAPTURE_RELOCK (R179). -/
def execCaptureRelock (t lane q start : Nat) (s : State) : Out := .next ((s.at t).relock lane q start)

/-- Is a lane in its sync search: live, or a residue lane before its sync word? -/
def inSearch (s : State) (n : Nat) : Bool :=
  !laneEnded s n && (laneState s n == 2 || (laneState s n == 4 && !(s.laneX n).synced))

/-- End of a live lane's sync span (R178). -/
def syncEnd (s : State) (n : Nat) : Nat :=
  (s.laneX n).assignedAt + chipsU (s.get F.PHY_QUAL_SYNC_WIN * 2 ^ ((laneDet s n).sf + 4))

/-- The sync word is found with at most SYNC_ERR bit errors (R178). -/
def State.synced (s : State) (n errors : Nat) : State :=
  if !inSearch s n || decide (s.get F.PHY_QUAL_SYNC_ERR < errors) || (laneState s n == 2 && decide (syncEnd s n < s.now)) then s
  else (if laneState s n = 2 then (s.put (F.MUR_LANE_STATE_STATE n) 3).syncLoad else s).setLaneX n { s.laneX n with synced := true }

/-- SYNC_ACCEPTED (R178). -/
def execSyncAccepted (t lane errors : Nat) (s : State) : Out := .next ((s.at t).synced lane errors)

/-- The sync span ends without a sync word: SYNC_LOST (R178). -/
def State.syncLost (s : State) (n : Nat) : State :=
  if !inSearch s n || (laneState s n == 2 && decide (s.now < syncEnd s n)) then s
  else (s.count (F.PHY_CNT_COUNT 1)).endLane n

/-- SYNC_LOST (R178). -/
def execSyncLost (t lane : Nat) (s : State) : Out := .next ((s.at t).syncLost lane)

/-- The header checks of R181, steps 1 to 4: the counter that a failing header increments. -/
def headerFault (s : State) (n h : Nat) : Option Nat :=
  let d := laneDet s n
  if !headerCrcOk h then some 3
  else if bits h 3 0 ≠ d.sf ∨ bits h 6 4 ≠ d.code then some 4
  else if bits h 23 18 ≠ 0 then some 4
  else if bits h 15 15 = 0 ∧ !s.on F.PHY_CFG_ACCEPT_UNCODED then some 4
  else none

/-- A lane decodes its header (R181). -/
def State.headerDecoded (s : State) (n : Nat) (h : Word) : State :=
  let x := s.laneX n
  if laneEnded s n || !(laneState s n == 3 || laneState s n == 4) || !x.synced || x.header.isSome then s
  else match headerFault s n h.toNat with
    | some k => (s.count (F.PHY_CNT_COUNT k)).endLane n
    | none => s.setLaneX n { x with header := some h }

/-- HEADER_DECODED (R181). -/
def execHeaderDecoded (t lane : Nat) (h : Word) (s : State) : Out := .next ((s.at t).headerDecoded lane h)

end Sys2Proof.Machine
end

