-- ==== Sys2Proof/Machine/Receive.lean ====
section
/-! DEFINITION. Received frames: the header and payload checks, the MAC checks, steering, delivery into receive buffers,
IEEE 802.15.4 frames, and interference cancellation (R118 to R120, R148 to R151, R173, R181, R182, R201 to R213). -/

namespace Sys2Proof.Machine

/-! ### MAC checks (R119, R148 to R151) -/

/-- Is a TYPE steered to ring 9, or to the firmware receive queue (Table 4-5)? -/
def toRing9 (ty : Nat) : Bool := ty == 0 || ty == 2 || ty == 3 || ty == 0xA
def toFirmware (ty : Nat) : Bool := decide (4 ≤ ty) && decide (ty ≤ 9)

/-- The header check of R119 with its destination clause. -/
def headerAccepted (s : State) (f : MacFrame) : Bool :=
  let own := s.get F.MAC_CFG_DEVICE_ID
  headerForm f && (isBroadcast f.dst || (isDevice f.dst && bits f.dst 9 0 == own)
    || (isEndpoint f.dst && nonceDevice f.src f.dst == own))

/-- The endpoint index of a frame: of its endpoint-type address (R117). -/
def frameEndpoint (f : MacFrame) : Option Nat :=
  if isEndpoint f.src then some (bits f.src 19 0) else if isEndpoint f.dst then some (bits f.dst 19 0) else none

/-- Is CTIME within tolerance: two beacon periods on 2^16 values (R149)? -/
def ctimeOk (s : State) (ctime start : Nat) : Bool :=
  let d := (ctime + 65536 - bits start 41 26) % 65536
  let tol := 2 ^ s.get F.MAC_DRONE_PERIOD_LOG2 / 8
  decide (d ≤ tol) || decide (65536 - d ≤ tol)

/-- What becomes of a received frame after the MAC checks. -/
inductive Fate where
  /-- Dropped. -/
  | drop
  /-- Rejected with a code: delivered only under DELIVER_REJECTS (R148). -/
  | reject (code : Nat)
  /-- Accepted; the bytes that a buffer would get (R203). -/
  | accept (data : List Byte)
  deriving DecidableEq, Repr

/-- Count an RXCNT event. -/
def State.rxcnt (s : State) (k : Nat) : State := s.count (F.MAC_RXCNT_COUNT k)

/-- Step 2 of Table 4-12: bank, error and state of the entry; `err` is what its code finds at this read (R251). -/
def State.entryCheck (s0 : State) (n err : Nat) : State × Option Fate :=
  let s := if bankOn s0 n then s0.entryRead n err else s0
  let e := s.entry n
  if !bankOn s n then (s.count (F.ESM_CNT_COUNT 1), some (.reject 0x0A02))
  else if s.esm.bad.contains n then (s.count (F.ESM_CNT_COUNT 0), some (.reject 0x0A01))
  else if e.state = 3 then (s.rxcnt 5, some (.reject 0x0A06))
  else if e.state = 4 then (s.rxcnt 5, some (.reject 0x0A05))
  else if e.state = 2 ∨ e.state = 5 then (s, none)
  else (s.rxcnt 3, some .drop)

/-- Step 6 of Table 4-12: the entry is updated; the first frame under a new generation confirms it (R265). -/
def State.entryUpdate (s : State) (n : Nat) (f : MacFrame) (link : LinkData) : State :=
  let e := s.entry n
  let s1 := s.setEntry n { e with hwm := f.fcnt, heard := heardNow s, lq := compressLq link, state := 2 }
  let r := s1.dirRec n
  if r.dstate = 1 ∧ r.confirm then s1.setDirRec n { r with confirm := false } else s1

/-- The checks of a frame with KEYSEL 0b00 (R148, R149).  DESIGN CHOICE: one that passes between two devices has no
endpoint; it is counted as one of an unknown source (notes/assumptions/26.md). -/
def State.checkEndpoint (s : State) (f : MacFrame) (start err : Nat) (link : LinkData) : State × Fate :=
  match frameEndpoint f with
  | none => (s.rxcnt 3, .drop)
  | some n =>
    match s.entryCheck n err with
    | (s1, some v) => (s1, v)
    | (s1, none) =>
      let e := s1.entry n
      let fresh := match f.ctime with | some c => ctimeOk s1 c start | none => false
      let skew := match f.ctime with | some c => !ctimeOk s1 c start | none => false
      if f.fcnt ≤ e.hwm then (s1.rxcnt 0, .reject 0x0905)
      else if e.state = 5 ∧ !fresh then (s1.rxcnt 2, .reject 0x0907)
      else
        let s2 := if e.state = 2 && skew then s1.rxcnt 4 else s1
        let m := s2.get F.ESM_CFG_MASTER_SLOT
        let eui := endpointEui s2 n
        let can := s2.on (F.CRY_SLOT_ATTR_VALID m) && slotMode s2 m 7 && !s2.on F.SEC_ALARM_ACTIVE
        let s3 := if can then s2.useDerived eui e.gen (ccmBlocks f.header.length f.payload.length (clearPayload (fctlType f.fctl))) true
          else s2.cryRefused
        if !(can && micOk (endpointKey s2 eui e.gen) f) then (s3.rxcnt 1, .reject 0x0906)
        else if s3.on F.ESM_STATUS_CLOSED || s3.on F.ESM_CTL_CLOSE then (s3.count (F.ESM_CNT_COUNT 1), .drop)
        else (s3.entryUpdate n f link, .accept (openFrame (endpointKey s2 eui e.gen) f))

/-- The enabled neighbour entry of a device id among `n` from `j`. -/
def neighbourFrom (s : State) (d j : Nat) : Nat → Option Nat
  | 0 => none
  | n + 1 => if s.on (F.MAC_NBR_ADDR_EN j) && s.get (F.MAC_NBR_ADDR_DEVICE_ID j) == d then some j else neighbourFrom s d (j + 1) n
def neighbour (s : State) (src : Nat) : Option Nat := if isDevice src then neighbourFrom s (bits src 9 0) 0 16 else none

/-- The checks of a frame with KEYSEL 0b01 or 0b10 (R151).  DESIGN CHOICE: of the frames from a device without an enabled
entry only a BEACON is left uncounted; an ACK_BEACON counts as a data frame (notes/assumptions/26.md). -/
def State.checkDevice (s : State) (f : MacFrame) : State × Fate :=
  match neighbour s f.src with
  | none => if fctlType f.fctl = 1 then (s, .drop) else (s.rxcnt 3, .drop)
  | some j =>
      let slot := if fctlKeysel f.fctl = 1 then s.get F.MAC_DRONE_BEACON_SLOT else s.get F.MAC_CFG_LINK_SLOT
      if f.fcnt ≤ s.get (F.MAC_NBR_FC_HWM_HWM j) then (s.rxcnt 0, .reject 0x0905)
      else
        let can := s.on (F.CRY_SLOT_ATTR_VALID slot) && slotMode s slot 3 && !s.on F.SEC_ALARM_ACTIVE
        let s1 := if can then (s.useSlotRx slot (ccmBlocks f.header.length f.payload.length (clearPayload (fctlType f.fctl)))).cryCompleted
          else s.cryRefused
        if !(can && micOk (slotKey s slot) f) then (s1.rxcnt 1, .reject 0x0906)
        else (s1.put (F.MAC_NBR_FC_HWM_HWM j) f.fcnt, .accept (openFrame (slotKey s slot) f))

/-- The MAC checks of a frame. -/
def State.macCheck (s : State) (f : MacFrame) (start err : Nat) (link : LinkData) : State × Fate :=
  if !headerAccepted s f then (s.rxcnt 6, .drop)
  else match fctlKeysel f.fctl with
    | 0 => s.checkEndpoint f start err link
    | 3 => (s, .accept (f.header ++ f.payload))
    | _ => s.checkDevice f

/-! ### Delivery (R202 to R205) -/

/-- What a frame record says of its frame (Table 6-3), beside the owning window. -/
structure FrameInfo where
  det : Detection
  sfCode : Nat
  sic : Bool
  lane : Nat
  level : Nat
  fcsOk : Bool
  reason : Nat
  link : LinkData
  deriving DecidableEq, Repr

/-- May a frame of a window take a ring 9 buffer?  A host window has reserved its own; a window of the device takes one that
no window has reserved, with a free completion entry (R56, R201; DESIGN CHOICE, notes/assumptions/100.md). -/
def bufferFor (s : State) (w : Item) : Bool :=
  if w.owner == .host then !s.hre.buffers.isEmpty
  else decide (reservedBuffers s < s.hre.buffers.length) && decide (0 < freeSpace s 16 1)

/-- Ring, TAG and completion ring under which a frame record names a window: one of the device is ring 0xFF, and its record
goes to ring 16 (Table 6-3, R567; DESIGN CHOICE, notes/assumptions/100.md). -/
def windowName (w : Item) : Nat := if w.owner == .host then w.tag + w.ring % 256 * 65536 else 0xFF * 65536
def windowRing (w : Item) : Nat := if w.owner == .host then w.cring else 16

/-- Write a frame into the next posted buffer, and decide its record (R203, R204).  With HRE disabled, or with no buffer
left, it is discarded (R38); a failed host write ends the window (Table 3-7). -/
def State.deliver (s : State) (w : Item) (x : FrameInfo) (data : List Byte) (fail : Bool) : State :=
  if !s.en Blk.HRE || !bufferFor s w then s.onWindow (some w.idx) (fun r => { r with discarded := r.discarded + 1 })
  else match s.hre.buffers with
    | [] => s
    | b :: rest =>
      let s0 := { s with hre := { s.hre with buffers := rest } }
      if fail then State.endItem 5 0x0409 (s0.irq Blk.HRE (2 ^ 27)) w
      else
        let bytes := data.take b.len
        let div := if x.sic then s.get F.MUR_CFG_SIC_CHAIN else s.get F.MUR_CFG_DIV_MODE
        let w5 := unsigned 8 x.det.bin + x.sfCode % 16 * 256 + x.det.code % 8 * 4096 + x.sic.toNat * 2 ^ 15 + x.lane % 64 * 2 ^ 16
          + div % 4 * 2 ^ 22 + compressLq x.link % 256 * 2 ^ 24
        let w6 := bytes.length % 512 + x.fcsOk.toNat * 512 + x.det.cfo % 65536 * 65536
        let w7 := x.link.rssi % 256 + unsigned 8 x.link.snr * 256 + x.det.q % 256 * 65536 + x.level % 8 * 2 ^ 24
        let c : Compl := ⟨windowRing w, b.tag, 2, x.reason, 9, 0, x.det.start, word (windowName w), word w5, word w6, word w7,
          b.irq, if w.owner == .host then some w.idx else none, true⟩
        let s1 := s0.dma b.addr bytes
        let s2 := { s1 with hre := { s1.hre with outq := s1.hre.outq ++ [c] } }
        ((s2.setItem w.idx (fun i => { i with buffers := i.buffers - 1 })).onWindow (some w.idx)
          (fun r => { r with delivered := Nat.min (r.delivered + 1) 65535, records := r.records + 1 })).syncItems

/-- Has a host's window delivered MAXF frames to ring 9?  The device's own windows have no MAXF. -/
def windowFull (w : Item) : Bool := w.owner == .host && (match w.kind with | .rx x => decide (x.maxf ≤ x.records) | _ => true)

/-- Count a frame that is over MAXF (R57, R202). -/
def State.countOver (s : State) (w : Item) : State := s.onWindow (some w.idx) (fun r => { r with overMaxf := r.overMaxf + 1 })

/-- The parent's carrier offset as a part of its carrier frequency, in 1/1,024 ppm: CFO is in units of 2 Hz (R136, Table
6-3).  DESIGN CHOICE: the quotient is rounded toward minus infinity (notes/assumptions/101.md). -/
def carrierError (s : State) (d : Detection) : Int :=
  let hz : Int := (s.get F.RFE_RXLO_FREQ : Int) + d.bin * 245760
  signed 16 d.cfo * 2 * 1000000 * 1024 / hz

/-- A verified beacon under the beacon key goes to the Drone (R118, R134). -/
def State.beaconIn (s : State) (f : MacFrame) (x : FrameInfo) : State :=
  match neighbour s f.src with
  | some j =>
      if fctlKeysel f.fctl = 1 then
        s.beaconVerified j f.payload (x.det.code == (s.get (F.MAC_NBR_RADIO_CODE j) ^^^ 4)) x.det.start (carrierError s x.det)
          (compressLq x.link)
      else s
  | none => s

/-- Count a frame that is steered to the firmware or to the Drone. -/
def State.countFirmware (s : State) (w : Item) : State := s.onWindow (some w.idx) (fun r => { r with firmware := r.firmware + 1 })

/-- Note an uplink frame for the aggregation service; those older than one beacon period go (R28). -/
def State.noteUplink (s : State) (f : MacFrame) (link : LinkData) : State :=
  let period := 2 ^ s.get F.MAC_DRONE_PERIOD_LOG2 * slotU
  if fctlKeysel f.fctl = 0 && isEndpoint f.src then
    let u : Uplink := ⟨uplinkAddr f.dst f.src, f.fcnt, s.now, compressLq link⟩
    { s with skn := { s.skn with uplinks := u :: s.skn.uplinks.filter (fun v => decide (s.now ≤ v.at_ + period)) } }
  else s

/-- A native frame that has passed R181: MAXF, MAC checks, steering, delivery (R118, R202).  A rejected frame is delivered
only under DELIVER_REJECTS, whatever its type (R148). -/
def State.macFrame (s : State) (w : Item) (x : FrameInfo) (payload : List Byte) (err : Nat) (fail : Bool) : State :=
  if windowFull w then s.countOver w
  else match parseMac payload with
  | none => s.rxcnt 6
  | some f =>
    let ty := fctlType f.fctl
    match s.macCheck f x.det.start err x.link with
      | (s1, .drop) => s1
      | (s1, .reject code) => if s1.on F.MAC_CFG_DELIVER_REJECTS then s1.deliver w { x with reason := code } payload fail else s1
      | (s0, .accept data) =>
          let s1 := s0.noteUplink f x.link
          if toFirmware ty then
            let fw : FwFrame := ⟨payload, data, x.det, s1.net, x.link⟩
            (s1.frameToFirmware fw).countFirmware w
          else if ty = 1 then
            let s2 := (s1.countFirmware w).beaconIn f x
            if s2.on F.MAC_CFG_BEACON_COPY then s2.deliver w x data fail else s2
          else s1.deliver w x data fail

/-! ### Cancellation jobs (R209, R210) -/

/-- Jobs keep the order of frame ends; of those of one DSP cycle the stronger frame, of lower −RSSI, goes first (R210). -/
def jobBefore (a b : SicJob) : Bool := decide (a.ended < b.ended) || (a.ended == b.ended && decide (a.rssi < b.rssi))

/-- A frame that has passed R181 may become a cancellation job (R209, R212). -/
def State.queueJob (s : State) (d : Detection) (h : Nat) (level rssi : Nat) (w : Option Nat) : State :=
  let span := frameU d.sf (bits h 14 7) (bits h 16 16 == 1) (bits h 15 15 == 1)
  if s.relay || !s.on F.MUR_CFG_SIC_EN || !binBit s F.MUR_CSET_BINS d.bin || decide (msU 64 < span) then s
  else if s.get F.MUR_CFG_SIC_DEPTH ≤ level then s.count (F.MUR_CNT_COUNT 9)
  else if 16 ≤ s.mur.jobs.length then s.sicDrop w
  else { s with mur := { s.mur with jobs := insertBy jobBefore (⟨d, level, rssi, w, span, dspCycleOf s.now⟩ : SicJob) s.mur.jobs } }.syncLoad

/-- The payload checks of R181, steps 4 (CT) and 5: the counter that a failing frame increments. -/
def payloadFault (h : Nat) (payload : List Byte) (crc : Nat) : Option Nat :=
  if bits h 17 17 ≠ fctlCt (leNat (payload.take 2)) then some 4
  else if crc ≠ payloadCrc (bits h 16 16 == 1) payload then some 5
  else none

/-- The payload CRC check of a lane's frame ends (R181, R182). -/
def State.frameEnd (s : State) (n : Nat) (payload : List Byte) (crc err : Nat) (link : LinkData) (fail : Bool) : State :=
  let x := s.laneX n
  match x.header with
  | none => s
  | some hw =>
    let h := hw.toNat
    let p := fit (bits h 14 7) payload
    if laneEnded s n || !(laneState s n == 3 || laneState s n == 4) then s
    else match payloadFault h p crc with
      | some k => (s.count (F.PHY_CNT_COUNT k)).endLane n
      | none =>
          let d := laneDet s n
          let level := s.get (F.MUR_LANE_STATE_LEVEL n)
          let s1 := ((s.count (F.PHY_CNT_COUNT 6)).fire 41).count (F.MUR_LANE_FRAMES_COUNT n)
          let s2 := if x.residue then (s1.count (F.MUR_CNT_COUNT 7)).onWindow x.window (fun r => { r with recovered := r.recovered + 1 })
            else s1
          let s3 := ((s2.noteDecoded d).queueJob d h level link.rssi x.window).endLane n
          match x.window.bind s3.item with
          | none => s3
          | some w => if w.decided || !s3.en Blk.MAC then s3
              else s3.macFrame w ⟨d, d.sf, x.residue, n, level, true, 0, link⟩ p err fail

/-- FRAME_END (R182); `err` is what the code of the endpoint's entry finds (R251), `fail` a failed write to the host. -/
def execFrameEnd (t lane : Nat) (payload : List Byte) (crc err : Nat) (link : LinkData) (fail : Bool) (s : State) : Out :=
  .next ((s.at t).frameEnd lane payload crc err link fail)

/-! ### IEEE 802.15.4 lanes (R173, R196) -/

/-- A listening lane detects a synchronisation header (R196). -/
def State.shrDetected (s : State) (n start cfo q : Nat) : State :=
  match wideBin s (n - 60) with
  | none => s
  | some b =>
    if laneState s n ≠ 5 then s
    else match ownerOf s b start with
      | none => s
      | some w =>
          let band := s.get (F.MUR_WIDE_BAND (n - 60))
          let s1 := s.setLaneX n ⟨some w, false, s.now, true, none⟩
          let s2 := ((s1.put (F.MUR_LANE_STATE_STATE n) 6).wr (Reg.MUR_LANE_TRIPLE n) (word (unsigned 8 b + (14 + band) * 256))).wr
            (Reg.MUR_LANE_METRIC n) (word (q % 256 + cfo % 65536 * 65536))
          s2.wr64 (Reg.MUR_LANE_START n) start

/-- SHR_DETECTED (R196). -/
def execShrDetected (t lane start cfo q : Nat) (s : State) : Out := .next ((s.at t).shrDetected lane start cfo q)

/-- An IEEE 802.15.4 frame ends (R173): the PSDU without its FCS, and the FCS received. -/
def State.frameEnd154 (s : State) (n : Nat) (psdu : List Byte) (fcs : Nat) (link : LinkData) (fail : Bool) : State :=
  if laneState s n ≠ 6 || laneEnded s n then s
  else
    let x := s.laneX n
    let d := laneDet s n
    let good := decide (fcs = crc16 psdu)
    let s1 := if good then s else s.count (F.PHY_CNT_COUNT 7)
    let s2 := s1.endLane n
    match x.window.bind s2.item with
      | none => s2
      | some w => match w.kind with
        | .rx r =>
            if w.decided || (!good && !r.fcsFail) then s2
            else if windowFull w then s2.countOver w
            else s2.deliver w ⟨{ d with code := 0 }, d.sf, false, n, 0, good, 0, link⟩ (psdu ++ leBytes 2 fcs) fail
        | _ => s2

/-- IEEE154_FRAME_END (R173). -/
def execIeee154FrameEnd (t lane : Nat) (psdu : List Byte) (fcs : Nat) (link : LinkData) (fail : Bool) (s : State) : Out :=
  .next ((s.at t).frameEnd154 lane psdu fcs link fail)

/-! ### Interference cancellation (R208 to R213) -/

/-- Drop the jobs at the head of the queue that are too old, and start the first that is not (R210). -/
def State.startJob (s : State) : List SicJob → State
  | [] => { s with mur := { s.mur with jobs := [] } }
  | j :: r =>
      if tooOld s j.det then State.startJob (s.sicDrop j.window) r
      else ({ s with mur := { s.mur with jobs := r, running := some j, scanning := false } }).count (F.MUR_CNT_COUNT 5)

/-- The engine takes the next job. -/
def State.sicStart (s : State) : State :=
  if s.mur.running.isSome || frozen s then s else (s.startJob s.mur.jobs).syncLoad

/-- SIC_JOB_START (R211). -/
def execSicJobStart (t : Nat) (s : State) : Out := .next (s.at t).sicStart

/-- The subtraction rewrites the samples of the frame's span in the buffer; `residue` are the samples left, oldest first
(R211). -/
def subtractIn (lo hi : Nat) (residue : List Word) (e : CbEntry) : CbEntry :=
  let inside := fun (k : Nat) => decide (lo < cbInstant e k) && decide (cbInstant e k ≤ hi)
  let ks := (List.range e.samples.length).filter inside
  { e with samples := (e.samples.zip (List.range e.samples.length)).map (fun p =>
      if inside p.2 then residue.getD (ks.length - 1 - ks.idxOf p.2) p.1 else p.1) }

/-- May a residue scan of a job's frame find a detection: in its bin and span, under the tests of R177 (R211)? -/
def scanFinds (s : State) (j : SicJob) (d : Detection) : Bool :=
  scannerPasses s d && d.bin == j.det.bin && decide (j.det.start ≤ d.start) && decide (d.start < j.det.start + j.span)

/-- The subtraction ends, and the residue scanner finds `found`, which are assigned in the order of R199 (R211, R212). -/
def State.sicSubtracted (s : State) (residue : List Word) (found : List Detection) : State :=
  match s.mur.running with
  | none => s
  | some j =>
      if s.mur.scanning then s
      else
        let lo := s.localOf j.det.start
        let buffer := modAt (subtractIn lo (lo + j.span) residue) s.mur.buffer ((cancelSet s).idxOf j.det.bin)
        (inTurn (found.filter (scanFinds s j))).foldl (fun x d => (x.count (F.MUR_CNT_COUNT 6)).assign d true (j.level + 1))
          { s with mur := { s.mur with scanning := true, buffer := buffer } }

/-- SIC_SUBTRACTION_DONE (R211). -/
def execSicSubtractionDone (t : Nat) (residue : List Word) (found : List Detection) (s : State) : Out :=
  .next ((s.at t).sicSubtracted residue found)

/-- The residue scan ends, and the engine is idle (R211). -/
def State.sicScanned (s : State) : State :=
  if s.mur.scanning then { s with mur := { s.mur with running := none, scanning := false } } else s

/-- RESIDUE_SCAN_DONE (R211). -/
def execResidueScanDone (t : Nat) (s : State) : Out := .next (s.at t).sicScanned

/-- Waiting residue detections older than 65 ms are dropped (R213). -/
def State.residueAge (s : State) : State :=
  let old := s.mur.residues.filter (fun r => tooOld s r.det)
  old.foldl (fun x r => x.sicDrop r.window)
    { s with mur := { s.mur with residues := s.mur.residues.filter (fun r => !tooOld s r.det) } }

/-- RESIDUE_AGE_EXPIRY (R213). -/
def execResidueAgeExpiry (t : Nat) (s : State) : Out := .next (s.at t).residueAge

/-- Sample `k` of a buffer entry, 0 the oldest: the newest 16,384 samples, with zeros where none has been written. -/
def cbSample (e : CbEntry) (k : Nat) : Word := e.samples.getD (cbDepth - 1 - k) 0

/-- A read of MUR_CB_DATA: the sample in authenticated debug, otherwise 0; SAMPLE advances (Table 6-8). -/
def State.cbDataRead (s : State) : State :=
  let v := match s.mur.buffer[s.get F.MUR_CB_IDX_ENTRY]? with | some e => cbSample e (s.get F.MUR_CB_IDX_SAMPLE) | none => 0
  (s.wr Reg.MUR_CB_DATA (if sessionOpen s then v else 0)).put F.MUR_CB_IDX_SAMPLE (s.get F.MUR_CB_IDX_SAMPLE + 1)

/-- CB_DATA_READ (R537). -/
def execCbDataRead (t : Nat) (s : State) : Out := .next (s.at t).cbDataRead

end Sys2Proof.Machine
end

