-- ==== Sys2Proof/Machine/Window.lean ====
section
/-! DEFINITION. Receive windows: the RX_WINDOW descriptor, opening, closing and the final completion (R98, R189,
R200 to R207). -/

namespace Sys2Proof.Machine

/-- Are the radio blocks up: the receiver, the front end with its calibration done, Chanter (R55, R69, R240)? -/
def radioRefusal (s : State) (tx : Bool) : Option Nat :=
  if !s.en Blk.CHN then some 0x08F0
  else if !s.en Blk.RFE || !s.on F.RFE_STATUS_CAL_DONE || (tx && !s.on F.RFE_CFG_TX_EN) then some 0x05F0
  else if !tx && !s.en Blk.MUR then some 0x07F0
  else if !tx && !s.en Blk.PHY then some 0x06F0
  else none

/-- Number of lanes present (R195). -/
def lanesPresent (s : State) : Nat := (lanesWhere (lanePresent s) 0 64).length

/-- Does the bank in force give a LINK an RX cell that takes the bins of word 6: one whose BIN is 0x80 (Table 3-3, R200)? -/
def linkOwnBins (s : State) (link : Nat) : Bool :=
  let b := bankAt s (asn s.net)
  (List.range 8).any (fun n => s.on (F.CHN_SF_CFG_EN b n) && (List.range (s.get (F.CHN_SF_COUNT_CELL_COUNT b n))).any (fun j =>
    let c := s.cell (s.get (F.CHN_SF_FIRST_FIRST_CELL b n) + j)
    cellLink c == link && cellKind c == 1 && cellBin c == 0x80))

/-- The checks of R200, with the bin fields only where the placement uses them (DESIGN CHOICE, notes/assumptions/97.md):
ranges, mode, lanes present, and the relay's bins. -/
def rxRefusal (s : State) (ws : List Word) : Option Nat :=
  let pm := wbits ws 7 31 30
  let dur := wbits ws 7 15 0
  let exp := wbits ws 6 15 9
  let first := binOf (wbits ws 6 23 16)
  let count := wbits ws 6 31 24
  let uses := decide (2 ≤ pm) || (pm == 0 && linkOwnBins s (wbits ws 7 29 16))
  if exp < 1 ∨ 64 < exp then some 0x07F6
  else if uses && (!binUsable first || decide (count < 1) || decide (200 < count) || decide ((99 : Int) < first + count - 1)) then some 0x07F6
  else if (2 ≤ pm ∧ (dur < 1 ∨ 16384 < dur)) ∨ (pm < 2 ∧ dur ≠ 0) then some 0x07F6
  else if lanesPresent s < exp then some 0x07F1
  else if uses && !inNarrowband s first count then some 0x07F1
  else if pm = 3 ∧ wordAt ws 2 + wordAt ws 3 * 2 ^ 32 = 0 then some 0x08F6
  else none

/-- A window as it waits for admission. -/
def rxWaiting (f : Fetched) : Waiting :=
  let ws := f.words
  let x : RxInfo := ⟨wbits ws 7 31 30, wbits ws 7 29 16, wbits ws 6 7 0 + 1, wbits ws 6 8 8 == 1, wbits ws 6 15 9,
    binOf (wbits ws 6 23 16), wbits ws 6 31 24, wbits ws 7 15 0, false, 0, 0, 0, 0, 0, 0, 0, false, false, false, false, 0, 0, 0, 0, none⟩
  ⟨.host, f.ring, ws, .rx x, none⟩

/-- Queue an item for its admission decision (R88). -/
def State.await (s : State) (w : Waiting) : State := { s with chn := { s.chn with awaiting := s.chn.awaiting ++ [w] } }

/-- RX_WINDOW (R200). -/
def State.rxWindow (s : State) (f : Fetched) : State :=
  match radioRefusal s false with
  | some c => s.refuse f.ring f.words c
  | none => match rxRefusal s f.words with
    | some c => s.refuse f.ring f.words c
    | none => s.await (rxWaiting f)

def execRxWindow (t : Nat) (s : State) : Out := .next ((s.at t).onFetched 0x20 State.rxWindow)

/-! ### Opening and closing -/

/-- The window opens: reception covers its bins, and the FEM lines follow (R94, R193, R234). -/
def State.openWindow (s : State) (i : Item) : State :=
  let s1 := s.setItem i.idx (fun j => Item.mapRx (fun x => { x with openedAt := s.now }) { j with started := true, startTime := s.net })
  ((s1.coverage).syncFem).fire 35

/-- A window falls due: a broken condition ends it (R6), a quenched or muted slot moves its opening to the next boundary
that is not quenched (R98), otherwise it opens. -/
def State.rxOpen (s : State) (idx : Nat) : State :=
  match s.item idx with
  | none => s
  | some i => match i.kind with
    | .rx _ =>
        if !isDue s i || s.on F.CHN_STATUS_FAULT then s
        else match dueVoid s with
          | some code => s.voidDue i code
          | none =>
            let slot := asn i.due
            let shut := slotQuenched s slot (slot + 1) || (!i.moved && slotMuted s slot)
            if shut then
              if s.net + usU 1 < nextOpening s slot then s.delayOpening slot i
              else s.delayOpening slot i |>.openWindow i
            else s.openWindow i
    | _ => s

/-- RX_WINDOW_OPEN (R94). -/
def execRxWindowOpen (t idx : Nat) (s : State) : Out := .next ((s.at t).rxOpen idx)

/-- Could the residue of a job's frame hold a frame of a window: in its bins, with its first chip in both spans (R206,
R211)? -/
def mayYield (j : SicJob) (i : Item) : Bool :=
  match i.kind with
  | .rx x => rxCovers x j.det.bin && decide (j.det.start < x.closeAt) && decide (i.startTime < j.det.start + j.span)
  | _ => false

/-- Can a frame of a window still come (R206)? -/
def frameStillComing (s : State) (idx : Nat) : Bool :=
  !(lanesWhere (fun n => (s.laneX n).window == some idx) 0 64).isEmpty ||
  s.mur.residues.any (fun r => r.window == some idx) ||
  (s.mur.running.toList ++ s.mur.jobs).any (fun j => j.window == some idx || (s.item idx).any (mayYield j))

/-- REASON of a window's DONE final (R205). -/
def windowReason (x : RxInfo) : Nat :=
  if 0 < x.discarded then 0x040A
  else if 0 < x.overMaxf then 0x0412
  else if x.exhausted then 0x0701
  else if x.limited then 0x0703
  else if x.overload then 0x0702
  else if x.sicLimit then 0x0704
  else 0

/-- Decide the final of a closed window once no frame of it can come (R206).  A tracking window that was blanked without
a verified beacon is reported (R132). -/
def State.rxFinal (s : State) (idx : Nat) : State :=
  match s.item idx with
  | none => s
  | some i => match i.kind with
    | .rx x =>
        if !x.closed || i.decided || frameStillComing s idx then s
        else
          let s1 := s.finish idx 2 (windowReason x)
          let blanked := blankedIn s x.openedAt x.closedAt
          if isTracking i.owner then
            (if 0 < blanked ∧ !s.mac.verified then s1.record 0x0900 0 (w4 := 0xFF) (w7 := blanked) else s1).trackingClosed
          else s1
    | _ => s

/-- RX_WINDOW_FINAL (R206). -/
def execRxWindowFinal (t idx : Nat) (s : State) : Out := .next ((s.at t).rxFinal idx)

/-- The window reaches the end of its span and closes (R201).  A window that never opened closes too. -/
def State.rxClose (s : State) (idx : Nat) : State :=
  match s.item idx with
  | none => s
  | some i => match i.kind with
    | .rx x =>
        if i.decided || x.closed || decide (s.net < x.closeAt) then s
        else
          let s1 := s.setItem idx (fun j => Item.mapRx (fun y => { y with
            closed := true
            closedAt := s.now
            openedAt := if j.started then y.openedAt else s.now }) { j with started := true })
          let s2 := ((s1.coverage).syncFem).fire 36
          if i.owner == .host then s2 else s2.rxFinal idx
    | _ => s

/-- RX_WINDOW_CLOSE (R206). -/
def execRxWindowClose (t idx : Nat) (s : State) : Out := .next ((s.at t).rxClose idx)

end Sys2Proof.Machine
end

