-- ==== Sys2Proof/Machine/Chanter.lean ====
section
/-! DEFINITION. Chanter's own events: slot boundaries, lockstep mismatches and faults, schedule-memory errors, lock
losses, bank swaps and cell writes (R73, R74, R80, R84, R85, R102 to R107). -/

namespace Sys2Proof.Machine

/-! ### Muting -/

/-- The transmitter is muted without a ramp: the transmission on air ends at once (R102). -/
def State.muteNow (s : State) (status reason : Nat) : State :=
  match s.rfe.onAir with
  | none => { s with rfe := { s.rfe with lagUntil := 0 } }.syncFem
  | some e => ({ s.cut e.item status reason false with rfe := { s.rfe with onAir := none, lagUntil := 0 } }).syncFem

/-- Ramp down the transmission on air (R61, R107). -/
def State.rampDown (s : State) (status reason : Nat) : State :=
  match s.rfe.onAir with
  | none => s
  | some e => s.cut e.item status reason true

/-- Items that have not started and whose attempt falls in the slots [lo, hi) move to their repair (R99). -/
def State.moveSlotItems (s : State) (lo hi : Nat) (p : Item → Bool) (status reason : Nat) : State :=
  let hit := fun (i : Item) => !i.decided && !i.started && p i && (match i.kind with
    | .tx x => let a := i.attempt x; decide (a.slotLo < hi) && decide (lo < a.slotHi)
    | .flash _ => decide (lo ≤ asn i.due) && decide (asn i.due < hi)
    | .skein _ => decide (lo ≤ asn i.due) && decide (asn i.due < hi)
    | _ => false)
  (s.items.filter hit).foldl (fun x i => x.moveToRepair i status reason) s

/-- The system PLL, or a synthesiser, loses lock (R107, R222): transmission is muted for the rest of the slot, the slot
is marked degraded, and its transmissions move to repair. -/
def State.lockLoss (s : State) : State :=
  let slot := asn s.net
  let s1 := { s.rampDown 4 0x0202 with chn := { s.chn with pllLo := slot, pllHi := slot + 1 } }
  let isTx := fun (i : Item) => match i.kind with | .tx x => asn (i.attempt x).time == slot | _ => false
  ((s1.moveSlotItems slot (slot + 1) isTx 4 0x0202).delayWindows slot (slot + 1) (fun i => !i.moved)).record 0x0800 0x0202 (w4 := slot % 2 ^ 32)

/-! ### Faults (R102 to R106) -/

/-- Mismatches within the last 32,768 ticks (R104). -/
def recentMismatches (s : State) : List Nat := s.chn.mismatches.filter (fun m => decide (s.now < m + secondU))

/-- A Chanter fault: every accepted item aborts, windows close, admission refuses (R105); a second one within 60 s of a
re-enable is fatal (R106). -/
def State.chanterFault (s : State) : State :=
  let s1 := (s.muteNow 5 0x0806).endAll (fun _ => true) 5 0x0807
  let s2 := { s1 with chn := { s1.chn with restoring := false, waitingBoundary := false } }
  let s3 := (((s2.put F.CHN_STATUS_FAULT 1).irq Blk.CHN 2).coverage).syncFem
  match s.chn.refaultFrom with
  | some t => if s.now < t + 60 * secondU then s3.deviceReset 9 else s3
  | none => s3

/-- A lockstep mismatch (R102, R103). -/
def State.mismatch (s : State) : State :=
  if !s.en Blk.CHN || s.on F.CHN_STATUS_FAULT then s
  else if s.chn.restoring then s.deviceReset 9
  else
    let slot := asn s.net
    let two := decide ((slot + 1) * slotU < s.net + (417 * secondU + 9999999) / 10000000)
    let hi := slot + (if two then 2 else 1)
    let recent := s.now :: recentMismatches s
    let s1 := s.muteNow 5 0x0806
    let s2 := { s1 with chn := { s1.chn with muteLo := slot, muteHi := hi, mismatches := recent, restoring := true } }
    let s3 := (s2.count F.CHN_MISMATCH_COUNT).put F.CHN_MISMATCH_RECENT (Nat.min 3 recent.length)
    let s4 := ((s3.irq Blk.CHN 1).fire 37).record 0x0800 0x0806 (w4 := slot % 2 ^ 32) (w5 := (s3.rd Reg.CHN_MISMATCH).toNat)
      (w6 := if two then 1 else 0)
    let s5 := ((s4.moveSlotItems slot hi (fun _ => true) 5 0x0806).delayWindows slot hi (fun _ => true)).syncFem
    if 3 ≤ recent.length then s5.chanterFault else s5

/-- LOCKSTEP_MISMATCH (R102). -/
def execLockstepMismatch (t : Nat) (s : State) : Out := .next (s.at t).mismatch

/-- The restore from the slot's checkpoint is complete; operation resumes at the next boundary (Table 3-6). -/
def State.restored (s : State) : State :=
  if s.chn.restoring then { s with chn := { s.chn with restoring := false, waitingBoundary := true } } else s

/-- RESTORE_COMPLETE (R102). -/
def execRestoreComplete (t : Nat) (s : State) : Out := .next (s.at t).restored

/-- Is an item placed in pool entry `c`: its present attempt, or its window? -/
def placedInCell (c : Nat) (i : Item) : Bool :=
  match i.kind with
  | .tx x => (i.attempt x).cell == some c
  | .rx x => x.cell == some c && !i.moved
  | _ => false

/-- A cell becomes unusable: what is placed in it and has not started moves to its repair opportunity, a window to what is
left of its own span after the slot of its opening (R74, R98, Table 3-5). -/
def State.loseCell (s : State) (c : Nat) : State :=
  (s.items.filter (fun (i : Item) => !i.decided && !i.started && placedInCell c i)).foldl (fun x i => match i.kind with
    | .rx _ => x.delayOpening (asn i.due) i
    | _ => x.moveToRepair i 5 0x0806) { s with chn := { s.chn with badCells := c :: s.chn.badCells.filter (fun k => k != c) } }

/-- A schedule-memory error: corrected in place, or an uncorrectable one, which also makes a cell unusable (R74). -/
def State.eccError (s : State) (corrected : Bool) (cell : Option Nat) : State :=
  if corrected then (s.count F.CHN_ECC_CE_COUNT).irq Blk.CHN 4
  else
    let s1 := (s.count F.CHN_ECC_UE_COUNT).irq Blk.CHN 8
    (match cell with | none => s1 | some c => s1.loseCell c).mismatch

/-- SCHEDULE_ECC_ERROR (R74). -/
def execScheduleEccError (t : Nat) (corrected : Bool) (cell : Option Nat) (s : State) : Out :=
  .next ((s.at t).eccError corrected cell)

/-! ### Slot boundaries (R73, R102) -/

/-- A slot boundary passes: operation that waited for it resumes, a receive synthesiser that waits for one selects its
band (R241), and the registers that follow time are brought up to date. -/
def State.slotBoundary (s : State) : State :=
  if asn s.net ≤ s.chn.lastSlot && !(s.chn.lastSlot == 0) then s
  else
    let s1 := { s with chn := { s.chn with lastSlot := asn s.net, waitingBoundary := false, mismatches := recentMismatches s } }
    let s2 := s1.put F.CHN_MISMATCH_RECENT (Nat.min 3 s1.chn.mismatches.length)
    let s3 := if s2.mac.slew = 0 then s2.put F.MAC_SYNC_STATUS_SLEWING 0 else s2
    let s4 := if s3.rfe.bandRx && !windowOpen s3 then
        { s3.put F.RFE_STATUS_RECAL_DUE 0 with rfe := { s3.rfe with bandRx := false } } else s3
    (((s4.syncFem).syncUsed).fire 32).startWaiting

/-- SLOT_BOUNDARY (R73). -/
def execSlotBoundary (t : Nat) (s : State) : Out := .next (s.at t).slotBoundary

/-! ### Bank swaps and cell writes (R80, R84, R85) -/

/-- The first item, in order of acceptance, that would lose its position (R84 step 4). -/
def strandedItem (s : State) (b bd : Nat) : Option Item := s.items.find? (fun i => !itemFits s b bd i)

/-- The admission of BANK_SWAP (R84). -/
def State.bankSwap (s : State) (f : Fetched) : State :=
  let ws := f.words
  let dl := wordAt ws 2 + wordAt ws 3 * 2 ^ 32
  let b := 1 - s.get F.CHN_STATUS_ACTIVE_BANK
  if !s.en Blk.CHN then s.refuse f.ring ws 0x08F0
  else if s.on F.CHN_STATUS_FAULT then s.refuse f.ring ws 0x0807
  else if dl % slotU ≠ 0 ∨ dl < tMin s ∨ horizonEnd s ≤ dl then s.refuse f.ring ws 0x0802
  else if s.on F.CHN_STATUS_SWAP_PENDING then s.refuse f.ring ws 0x0808
  else match bankCheck s b with
    | some x =>
        let s1 := match x.cell with | some i => s.put F.CHN_CELL_IDX_IDX i | none => s
        s1.refuse f.ring ws (0x0800 + x.code) x.field 0
    | none => match strandedItem s b (asn dl) with
      | some i => s.refuse f.ring ws 0x0801 i.name 0
      | none => if tableFull s false (wbits ws 1 17 16) then s.refuse f.ring ws 0x0804 else match freeIndex s 4096 4096 with
        | none => s.refuse f.ring ws 0x0804
        | some idx => s.accept ⟨.host, 0, ws, .swap, none⟩ idx .swap dl none 1 0 0 0

/-- Is the crossing to Chanter held: the system PLL has lost lock, or a domain waits for its fallback (R475, R478)? -/
def chnHeld (s : State) : Bool := s.clk.sysUnlocked.isSome || s.on F.CLK_STATUS_HELD

/-- A BANK_SWAP reaches Chanter, or waits at the crossing, where it holds up no later ring 0 descriptor (R59); one that
waited goes first. -/
def State.swapReaches (s : State) : State :=
  if chnHeld s then s.onFetched 3 (fun x f => { x with chn := { x.chn with crossing := x.chn.crossing ++ [f] } })
  else match s.chn.crossing with
    | f :: rest => { s with chn := { s.chn with crossing := rest } }.bankSwap f
    | [] => s.onFetched 3 State.bankSwap

/-- BANK_SWAP (R84). -/
def execBankSwap (t : Nat) (s : State) : Out := .next (s.at t).swapReaches

/-- At the named boundary the inactive bank becomes active; only a Chanter fault prevents it (R85). -/
def State.swapEffect (s : State) : State :=
  match s.items.find? (fun i => i.kind == .swap && !i.decided && decide (i.committed ≤ s.net)) with
  | none => s
  | some i =>
      let s1 := s.put F.CHN_STATUS_ACTIVE_BANK (1 - s.get F.CHN_STATUS_ACTIVE_BANK)
      (s1.finish i.idx 2 0).irq Blk.CHN 32

/-- BANK_SWAP_EFFECT (R85). -/
def execBankSwapEffect (t : Nat) (s : State) : Out := .next (s.at t).swapEffect

/-- Does a pool entry lie in the cell range of an enabled slotframe of a bank? -/
def cellInBank (s : State) (b c : Nat) : Bool :=
  (List.range 8).any (fun n => s.on (F.CHN_SF_CFG_EN b n) && decide (s.get (F.CHN_SF_FIRST_FIRST_CELL b n) ≤ c)
    && decide (c < s.get (F.CHN_SF_FIRST_FIRST_CELL b n) + s.get (F.CHN_SF_COUNT_CELL_COUNT b n)))

/-- A write to CHN_CELL_HI commits the cell, or is ignored (R80). -/
def State.cellWrite (s : State) (v : Word) : State :=
  let i := s.get F.CHN_CELL_IDX_IDX
  if s.en Blk.CHN && (cellInBank s (s.get F.CHN_STATUS_ACTIVE_BANK) i || s.on F.CHN_STATUS_SWAP_PENDING) then s.irq Blk.CHN 16
  else
    let c : BitVec 48 := BitVec.ofNat 48 ((s.rd Reg.CHN_CELL_LO).toNat + v.toNat % 65536 * 2 ^ 32)
    let cells := Sparse.set (fun _ => (0 : BitVec 48)) s.chn.cells i c
    let s1 := { s with chn := { s.chn with cells := cells, badCells := s.chn.badCells.filter (fun k => k != i) } }
    (s1.put F.CHN_CELL_HI_CELL (v.toNat % 65536)).put F.CHN_CELL_IDX_IDX ((i + 1) % 65536)

/-- CELL_WRITE (R80). -/
def execCellWrite (t : Nat) (v : Word) (s : State) : Out := .next ((s.at t).cellWrite v)

end Sys2Proof.Machine
end

