-- ==== Sys2Proof/Machine/Front.lean ====
section
/-! DEFINITION. The RF front end: gain steps, captures, the shaping filter's mask check, synthesiser lock, band
selection and calibration (R222 to R226, R232, R233, R239 to R241). -/

namespace Sys2Proof.Machine

/-! ### Gain control (R223, R224) -/

/-- Present gain state field of a chain. -/
def gainField (c : Nat) : Fld := if c = 0 then F.RFE_STATUS_GAIN0 else F.RFE_STATUS_GAIN1

/-- A chain in MODE 1, 2 or 3 stands in HIGH, MID or LOW (R223). -/
def State.fixedGains (s : State) : State :=
  [0, 1].foldl (fun x c => if x.on (F.RFE_RX_MODE c) then x.put (gainField c) (x.get (F.RFE_RX_MODE c) - 1) else x) s

/-- The AGC steps a chain: one state at a time, at most once in 10 µs, only in MODE 0; up only when the samples that made
the last step down lie HOLD_MS back (R223). -/
def State.gainStep (s : State) (c : Nat) (down : Bool) : State :=
  let g := s.get (gainField c)
  let last := if c = 0 then s.rfe.gainAt0 else s.rfe.gainAt1
  let loud := if c = 0 then s.rfe.downAt0 else s.rfe.downAt1
  if !s.en Blk.RFE || decide (1 < c) || s.get (F.RFE_RX_MODE c) != 0 || bits (s.get F.RFE_CFG_CHAIN_EN) c c == 0
      || (decide (0 < last) && decide (s.now < last + usU 10))
      || (!down && decide (0 < loud) && decide (s.now < loud + msU (s.get (F.RFE_RX_HOLD_MS c)))) || (down && decide (2 ≤ g)) || (!down && g == 0) then s
  else
    let s1 := (s.put (gainField c) (if down then g + 1 else g - 1)).count (F.RFE_CNT_COUNT (if down then 0 else 1))
    let keep := fun (old : Nat) => if down then s.now else old
    { s1 with rfe := if c = 0 then { s1.rfe with gainAt0 := s.now, downAt0 := keep s.rfe.downAt0 }
        else { s1.rfe with gainAt1 := s.now, downAt1 := keep s.rfe.downAt1 } }

/-- AGC_GAIN_STEP (R223). -/
def execAgcGainStep (t chain : Nat) (down : Bool) (s : State) : Out := .next ((s.at t).gainStep chain down)

/-! ### Captures (R226) -/

/-- Writing START, or the trigger channel, starts a capture. -/
def State.captureStart (s : State) : State :=
  if s.en Blk.RFE then
    { (s.put F.RFE_CAP_CTL_START 1).put F.RFE_CAP_CTL_DONE 0 with rfe := { s.rfe with capturing := true, capture := [], capNext := 0 } }
  else s

/-- CAPTURE_START (R226). -/
def execCaptureStart (t : Nat) (s : State) : Out := .next (s.at t).captureStart

/-- Is a 14-bit ADC value at the clip level, +8,191 or −8,192 (R225)? -/
def atClip (v : Nat) : Bool := v % 16384 == 0x1FFF || v % 16384 == 0x2000

/-- Is an ADC sample, I in bits [15:0] and Q in bits [31:16], at the clip level? -/
def clipped (w : Word) : Bool := atClip w.toNat || atClip (w.toNat / 65536)

/-- One value of a sample as a register presents it: sign-extended from bit 13, and compensated for the gain state: in
HIGH as it is, in the other states scaled by the inverse of the steps, whose rounding the spec does not give (R224, R225;
notes/assumptions/44.md). -/
def presented (gain v : Nat) : Nat :=
  if gain = 0 then unsigned 16 (signed 14 v) else (Config.gainScale gain (BitVec.ofNat 14 v)).toNat

/-- A capture whose last sample was taken at AON local instant `u`, from ADC samples of a chain.  Samples that a
transmission, a synthesiser out of lock or the 0.5 µs after a gain step replace are zeros (R222, R224, R227). -/
def capturedWords (s : State) (chain u : Nat) (samples : List Word) : List Word :=
  let gain := s.get (gainField chain)
  let step := if chain = 0 then s.rfe.gainAt0 else s.rfe.gainAt1
  let n := samples.length
  (samples.zip (List.range n)).map (fun p =>
    let at_ := u - (n - 1 - p.2) * 65536 / 1920
    if zeroAt s at_ || (decide (0 < step) && decide (step ≤ at_) && decide (2 * at_ < 2 * step + usU 1)) then 0
    else word (presented gain (p.1.toNat % 65536) + 65536 * presented gain (p.1.toNat / 65536)))

/-- The capture of 4,096 samples is complete; ADC samples at the clip level count (R225; notes/assumptions/44.md). -/
def State.captureDone (s : State) (samples : List Word) : State :=
  if s.rfe.capturing && samples.length == 4096 then
    let s0 := s.count (F.RFE_CNT_COUNT 2) (samples.filter clipped).length
    let s1 := ((s0.put F.RFE_CAP_CTL_START 0).put F.RFE_CAP_CTL_DONE 1).irq Blk.RFE 8
    { s1 with rfe := { s1.rfe with
      capturing := false, capNext := 0, capture := capturedWords s (s.get F.RFE_CAP_CTL_CHAIN) s.now samples } }
  else s

/-- CAPTURE_DONE (R226). -/
def execCaptureDone (t : Nat) (samples : List Word) (s : State) : Out := .next ((s.at t).captureDone samples)

/-- A read of RFE_CAP_DATA presents the next sample; what a read past the last one presents is open. -/
def State.capDataRead (s : State) : State :=
  match s.rfe.capture[s.rfe.capNext]? with
  | some v => { s.wr Reg.RFE_CAP_DATA v with rfe := { s.rfe with capNext := s.rfe.capNext + 1 } }
  | none => let r := s.fresh (2 ^ 32); r.2.wr Reg.RFE_CAP_DATA (word r.1)

/-- CAP_DATA_READ (R226). -/
def execCapDataRead (t : Nat) (s : State) : Out := .next (s.at t).capDataRead

/-! ### The mask check (R231, R232) -/

/-- Fixed-point scale of the evaluation, and cos and sin of 2π/1024 in it. -/
def fixOne : Int := 2 ^ 64
def cos1024 : Int := 18446396818965434987
def sin1024 : Int := 113187093788755730

/-- A complex number in fixed point. -/
structure Fix2 where
  re : Int
  im : Int
  deriving DecidableEq, Repr

/-- Product of two fixed-point complex numbers. -/
def Fix2.mul (a b : Fix2) : Fix2 := ⟨(a.re * b.re - a.im * b.im) / fixOne, (a.re * b.im + a.im * b.re) / fixOne⟩

/-- The `n`-th power of a unit complex number. -/
def Fix2.pow (a : Fix2) : Nat → Fix2
  | 0 => ⟨fixOne, 0⟩
  | n + 1 => (a.pow n).mul a

/-- Frequency step of the check: 3.84 kHz of 786.432 kHz is 5/1024 of a turn. -/
def stepTurn : Fix2 := Fix2.pow ⟨cos1024, sin1024⟩ 5

/-- The filter's response at a unit complex number, by Horner's rule over the taps. -/
def response (w : Fix2) : List Int → Fix2
  | [] => ⟨0, 0⟩
  | c :: r => let z := (response w r).mul w; ⟨z.re + c * fixOne, z.im⟩

/-- Squared magnitude. -/
def Fix2.sq (a : Fix2) : Int := a.re * a.re + a.im * a.im

/-- |H(f)|² at `n` frequencies, from unit complex number `w` on. -/
def responses (taps : List Int) (w : Fix2) : Nat → List Int
  | 0 => []
  | n + 1 => (response w taps).sq :: responses taps (w.mul stepTurn) n

/-- 10^(d/10), d = 0 to 9, in units of 2^-32. -/
def tenths : List Nat := [4294967296, 5407043472, 6807064429, 8569586390, 10788470075, 13581879131, 17098572778,
  21525827776, 27099411597, 34116137904]

/-- Does a frequency's response lie at or below −`att` dB relative to `h0`? -/
def belowMask (h0 h : Int) (att : Nat) : Bool :=
  decide (h * (tenths.getD (att % 10) 0 * 10 ^ (att / 10) : Nat) ≤ h0 * 4294967296)

/-- Does every frequency at or above `khz` meet an attenuation?  The list starts with frequency `n` × 3.84 kHz. -/
def meetsMask (h0 : Int) (khz att n : Nat) : List Int → Bool
  | [] => true
  | h :: r => (decide (384 * n < 100 * khz) || belowMask h0 h att) && meetsMask h0 khz att (n + 1) r

/-- The first mask point that fails among `k` points from `m`; `last` is the frequency of the last point in use. -/
def firstFail (s : State) (h0 : Int) (hs : List Int) (m last : Nat) : Nat → Option Nat
  | 0 => none
  | k + 1 =>
      let f := s.get (F.RFE_MASK_F_KHZ m)
      let a := s.get (F.RFE_MASK_ATT_DB m)
      if a = 0 then firstFail s h0 hs (m + 1) last k
      else if f < last ∨ !meetsMask h0 f a 0 hs then some m
      else firstFail s h0 hs (m + 1) f k

/-- Writing CHECK runs the mask check. -/
def State.firCheck (s : State) : State := s.put F.RFE_FIR_CTL_CHECK 1

/-- FIR_CHECK (R232). -/
def execFirCheck (t : Nat) (s : State) : Out := .next (s.at t).firCheck

/-- The mask check ends: PASS and LOCK, or the first mask point that failed (R232, R233).  A filter without response at
0 Hz has no relative response: the outcome is open. -/
def State.firCheckDone (s : State) : State :=
  if !s.on F.RFE_FIR_CTL_CHECK then s
  else
    let hs := responses (firTaps s) ⟨fixOne, 0⟩ 256
    let h0 := hs.headD 0
    let r := if h0 = 0 then let q := s.fresh 9; (if q.1 = 8 then none else some q.1, q.2) else (firstFail s h0 hs 0 0 8, s)
    let s1 := r.2.put F.RFE_FIR_CTL_CHECK 0
    match r.1 with
    | none => (s1.put F.RFE_FIR_CTL_PASS 1).put F.RFE_FIR_CTL_LOCK 1
    | some m => (s1.put F.RFE_FIR_CTL_PASS 0).put F.RFE_FIR_CTL_FAIL_PT m

/-- FIR_CHECK_DONE (R232). -/
def execFirCheckDone (t : Nat) (s : State) : Out := .next (s.at t).firCheckDone

/-- Writing 0 to LOCK clears LOCK and PASS, unless an accepted TX_LEGACY has no final (R233). -/
def State.firUnlock (s : State) : State :=
  if s.items.any (fun i => i.opcode == 0x14 && !i.decided) then s.put F.RFE_FIR_CTL_REASON 0x05F4
  else (s.put F.RFE_FIR_CTL_LOCK 0).put F.RFE_FIR_CTL_PASS 0

/-- FIR_UNLOCK (R233). -/
def execFirUnlock (t : Nat) (s : State) : Out := .next (s.at t).firUnlock

/-! ### Synthesisers (R222, R241) -/

/-- The lock bit of a synthesiser. -/
def lockField (tx : Bool) : Fld := if tx then F.RFE_STATUS_TX_LOCK else F.RFE_STATUS_RX_LOCK

/-- A synthesiser loses lock: it is handled as a lock loss of the system PLL (R107, R222). -/
def State.synthUnlock (s : State) (tx : Bool) : State :=
  if !s.on (lockField tx) then s
  else
    let s1 := if tx then s else { s with rfe := { s.rfe with rxLostAt := some s.now } }
    (((s1.put (lockField tx) 0).count (F.RFE_CNT_COUNT 4)).irq Blk.RFE 4).lockLoss.record 0x0500 0x0502 (w6 := if tx then 6 else 5)

/-- SYNTH_UNLOCK (R222). -/
def execSynthUnlock (t : Nat) (tx : Bool) (s : State) : Out := .next ((s.at t).synthUnlock tx)

/-- A synthesiser locks again. -/
def State.synthRelock (s : State) (tx : Bool) : State :=
  if !s.en Blk.RFE || s.on (lockField tx) then s
  else
    let s1 := s.put (lockField tx) 1
    if tx then { s1 with rfe := { s1.rfe with txLockAt := s.now } }
    else let s2 := s1.noteDead s.rfe.rxLostAt; { s2 with rfe := { s2.rfe with rxLostAt := none } }

/-- SYNTH_RELOCK (R222). -/
def execSynthRelock (t : Nat) (tx : Bool) (s : State) : Out := .next ((s.at t).synthRelock tx)

/-- The die temperature has moved 10 °C: the band selection is repeated, for the transmit synthesiser within a retune,
for the receive synthesiser at a slot boundary with no window open (R241). -/
def State.bandReselect (s : State) (tx : Bool) : State :=
  if tx then
    if s.rfe.onAir.isSome then { s with rfe := { s.rfe with bandTx := true } } else { s with rfe := { s.rfe with bandTx := false } }
  else if windowOpen s || s.net % slotU != 0 then
    { s with rfe := { s.rfe with bandRx := true, bandSince := if s.rfe.bandRx then s.rfe.bandSince else s.now } }
  else { s.put F.RFE_STATUS_RECAL_DUE 0 with rfe := { s.rfe with bandRx := false } }

/-- BAND_RESELECT (R241). -/
def execBandReselect (t : Nat) (tx : Bool) (s : State) : Out := .next ((s.at t).bandReselect tx)

/-- The receive synthesiser has found no slot for an hour (R241). -/
def State.recalDue (s : State) : State :=
  if s.rfe.bandRx && decide (s.rfe.bandSince + 3600 * secondU ≤ s.now) then s.put F.RFE_STATUS_RECAL_DUE 1 else s

/-- RECAL_DUE_EXPIRY (R241). -/
def execRecalDueExpiry (t : Nat) (s : State) : Out := .next (s.at t).recalDue

/-! ### Initial calibration (R239, R240) -/

/-- One receive port's check: a finding is recorded (R239). -/
def State.portCheck (s : State) (port finding : Nat) : State :=
  let f := finding % 3
  let s1 := s.put (if port = 0 then F.RFE_ANT_RX0 else F.RFE_ANT_RX1) f
  if f = 0 then s1 else s1.record 0x0500 (0x0502 + f) (w6 := port + 1)

/-- The initial calibration ends: both synthesisers have selected their bands, the ports are checked, CAL_DONE is set. -/
def State.calibrated (s : State) (rx0 rx1 : Nat) : State :=
  if !s.rfe.calibrating then s
  else
    let s1 := (s.portCheck 0 rx0).portCheck 1 rx1
    let s2 := ((s1.put F.RFE_STATUS_CAL_DONE 1).put F.RFE_STATUS_RX_LOCK 1).put F.RFE_STATUS_TX_LOCK 1
    ({ s2 with rfe := { s2.rfe with calibrating := false, txLockAt := s.now } }.irq Blk.RFE 16).syncFem

/-- CALIBRATION_DONE (R240). -/
def execCalibrationDone (t rx0 rx1 : Nat) (s : State) : Out := .next ((s.at t).calibrated rx0 rx1)

end Sys2Proof.Machine
end

