-- ==== Sys2Proof/Machine/Clocks.lean ====
section
/-! DEFINITION. Clock sources, the reference, the PLLs, monitors and trimming (R464 to R478). -/

namespace Sys2Proof.Machine

/-! ### The reference (R467, R473, R474) -/

/-- Monitor bit of a source: 0 XOSC, 1 LFXO, 2 HFRC, 3 LFRC (CLK_STATUS [8:5]). -/
def sourceOk (s : State) (src : Nat) : Bool := bits (s.get F.CLK_STATUS_OK) src src == 1
def State.setOk (s : State) (src : Nat) (v : Bool) : State :=
  let m := s.get F.CLK_STATUS_OK
  s.put F.CLK_STATUS_OK (m - bits m src src * 2 ^ src + v.toNat * 2 ^ src)

/-- REF_VALID follows the reference, and its edges set CLK_ISR (R473). -/
def State.syncRef (s : State) : State :=
  let src := s.get F.CLK_STATUS_REF_SRC
  let v := s.clk.lockedTo && (src == 1 || (src == 0 && sourceOk s 0))
  if v == s.on F.CLK_STATUS_REF_VALID then s
  else (s.put F.CLK_STATUS_REF_VALID v.toNat).irq Blk.CLK (if v then 512 else 256)

/-- A domain switch of an island loses 6 cycles (R474). -/
def State.switchDomain (s : State) (island : Nat) : State := s.count (F.CLK_LOST_CYCLES island) 6
/-- The islands that the system PLL feeds (Table 16-4). -/
def pllIslands : List Nat := [3, 4, 5, 6, 7, 9]
def State.switchIslands (s : State) : State := pllIslands.foldl State.switchDomain s

/-- The system PLL trips its monitor: the islands fall back and Chanter mutes (R475). -/
def State.pllUnlock (s : State) : State :=
  if !s.on F.CLK_STATUS_SYS_LOCK then s
  else
    let s1 := (((s.put F.CLK_STATUS_SYS_LOCK 0).irq Blk.CLK 32).count (F.CLK_CNT_COUNT 2)).switchIslands
    let s2 := { s1 with clk := { s1.clk with sysUnlocked := some s.now } }
    if s.en Blk.CHN then s2.lockLoss else s2

/-- PLL_UNLOCK (R475). -/
def execPllUnlock (t : Nat) (s : State) : Out := .next (s.at t).pllUnlock

/-- The DSP PLL trips its monitor (R476). -/
def State.dspUnlock (s : State) : State :=
  if !s.on F.CLK_STATUS_DSP_LOCK then s
  else
    let s1 := ((s.put F.CLK_STATUS_DSP_LOCK 0).irq Blk.CLK 64).count (F.CLK_CNT_COUNT 3)
    let s2 := { s1 with clk := { s1.clk with dspUnlocked := some s.now } }
    if s.en Blk.CHN then s2.lockLoss else s2

/-- DSP_PLL_UNLOCK (R476). -/
def execDspPllUnlock (t : Nat) (s : State) : Out := .next (s.at t).dspUnlock

/-- Slots that began while a PLL was unlocked stay muted to their end (R475). -/
def State.endMute (s : State) : State := { s with chn := { s.chn with pllHi := asn s.net + 1 } }

/-- A PLL locks: its islands switch back, and after a lock loss RELOCK is set (R475, R476). -/
def State.pllRelock (s : State) (dsp : Bool) : State :=
  if s.get F.CLK_STATUS_REF_SRC = 3 then s
  else if dsp then
    if s.on F.CLK_STATUS_DSP_LOCK then s
    else
      let s1 := s.put F.CLK_STATUS_DSP_LOCK 1
      if s.clk.dspUnlocked.isSome then ({ s1.noteDead s.clk.dspUnlocked with clk := { s1.clk with dspUnlocked := none } }.irq Blk.CLK 128).endMute else s1
  else if s.on F.CLK_STATUS_SYS_LOCK then s
  else
    let s1 := (s.put F.CLK_STATUS_SYS_LOCK 1).switchIslands
    let s2 := if s.clk.sysUnlocked.isSome then (s1.irq Blk.CLK 128).endMute else s1
    { s2 with clk := { s2.clk with sysUnlocked := none, lockedTo := true } }.syncRef

/-- PLL_RELOCK: the system PLL, or the DSP PLL (R475, R476). -/
def execPllRelock (t : Nat) (dsp : Bool) (s : State) : Out := .next ((s.at t).pllRelock dsp)

/-- No relock within 200 µs (R475, R476). -/
def State.relockTimeout (s : State) : State :=
  let late := fun (u : Option Nat) => match u with | some a => decide (a + usU 200 ≤ s.now) | none => false
  if late s.clk.sysUnlocked || late s.clk.dspUnlocked then s.deviceReset 6 else s

/-- RELOCK_TIMEOUT (R475). -/
def execRelockTimeout (t : Nat) (s : State) : Out := .next (s.at t).relockTimeout

/-- Select a reference; a switch that is not hitless is a lock loss (R467, R474). -/
def State.selectRef (s : State) (src : Nat) (hitless : Bool) : State :=
  if s.get F.CLK_STATUS_REF_SRC = src then s
  else
    let s1 := (s.put F.CLK_STATUS_REF_SRC src).count (F.CLK_CNT_COUNT 4)
    let s2 := if hitless then s1 else s1.pllUnlock
    { s2 with clk := { s2.clk with lockedTo := s2.on F.CLK_STATUS_SYS_LOCK } }.syncRef

/-- Do the skein frequency and XOSC differ by 20 ppm at most (R474)? -/
def skeinNear (s : State) : Bool := decide ((signed 32 (s.get F.SKN_XO_PPB)).natAbs ≤ 20000)

/-- The recovered clock becomes the reference (R326). -/
def State.takeSkeinRef (s : State) : State := s.selectRef 1 (skeinNear s)

/-! ### Failures (R477, R478) -/

/-- XO_DELAY and LF_DELAY in microseconds (R465). -/
def xoDelayUs (s : State) : Nat :=
  [500, 750, 1000, 1500, 2000, 2500, 3000, 4000, 5000, 6000, 7000, 8000, 10000, 12000, 14000, 16000].getD (s.get F.CLK_CFG_XO_DELAY) 16000
def lfDelayMs (s : State) : Nat := [125, 250, 500, 750, 1000, 1250, 1500, 2000].getD (s.get F.CLK_CFG_LF_DELAY) 2000
/-- Start delay of a source (Table 16-2). -/
def startDelayU (s : State) (src : Nat) : Nat :=
  match src with
  | 0 => usU (xoDelayUs s)
  | 1 => msU (lfDelayMs s)
  | 2 => usU 10
  | _ => usU 2000

/-- Is a source still within its start delay? -/
def starting (s : State) (src : Nat) : Bool :=
  s.clk.running.getD src false && !sourceOk s src && decide (s.now < s.clk.startedAt.getD src 0 + startDelayU s src)

/-- Fall back to a source: at once when it is valid, held while it starts, else a clock-loss reset (R477, R478). -/
def State.fallBack (s : State) (src : Nat) (go : State → State) : State :=
  if sourceOk s src then go s
  else if starting s src then s.put F.CLK_STATUS_HELD 1
  else s.deviceReset 5

/-- The recovered skein clock ceases to be the reference (R326, R477). -/
def State.dropSkeinRef (s : State) : State :=
  if s.get F.CLK_STATUS_REF_SRC ≠ 1 then s
  else
    let s1 := s.irq Blk.CLK 16
    if sourceOk s 0 then s1.selectRef 0 (skeinNear s)
    else s1.fallBack 2 (fun x => x.selectRef 2 false)

/-- The upstream's clock is lost as the reference: SKN_XO is applied to the counter's rate from that instant (R326). -/
def State.loseSkeinRef (s : State) : State :=
  if s.get F.CLK_STATUS_REF_SRC = 1 then
    (s.put F.MAC_FREQ_EST_EST (unsigned 32 (signed 32 (s.get F.SKN_XO_PPB) * 1024 / 1000))).dropSkeinRef
  else s

/-- The AON FLL moves to a low-frequency source: LFXO (0) or LFRC (1) (R477). -/
def State.moveLf (s : State) (lfrc : Nat) : State :=
  if s.get F.CLK_STATUS_LF_ACT = lfrc then s else (s.put F.CLK_STATUS_LF_ACT lfrc).switchDomain 0

/-- The failure of a source, by Table 16-5. -/
def State.sourceFailed (s : State) (src : Nat) : State :=
  let ref := s.get F.CLK_STATUS_REF_SRC
  match src with
  | 0 => if ref = 0 then (s.fallBack 2 (fun x => x.selectRef 2 false)).syncRef else s.syncRef
  | 1 => if s.on F.CLK_STATUS_LF_ACT then s else s.fallBack 3 (fun x => x.moveLf 1)
  | 2 =>
      if ref = 2 ∨ !s.on F.CLK_STATUS_SYS_LOCK then s.fallBack 0 (fun x => x.selectRef 0 false)
      else s
  | _ => if s.on F.CLK_STATUS_LF_ACT then s.fallBack 1 (fun x => x.moveLf 0) else s

/-- An armed monitor trips: source 0 to 3, or 4 for the skein word clock (R472, R477). -/
def State.clockTrip (s : State) (src : Nat) : State :=
  if src = 4 then s.loseSkeinRef
  else if 4 < src ∨ !sourceOk s src then s
  else
    let s1 := (s.setOk src false).irq Blk.CLK (2 ^ src)
    let s2 := if src < 2 then s1.count (F.CLK_CNT_COUNT src) else s1
    { s2 with clk := { s2.clk with running := modAt (fun _ => false) s2.clk.running src } }.sourceFailed src

/-- CLOCK_MONITOR_TRIP (R477). -/
def execClockMonitorTrip (t src : Nat) (s : State) : Out := .next ((s.at t).clockTrip src)

/-- A source has started: its monitor is armed, and it enters service by its place in the plan (R465, R467, R478). -/
def State.enterService (s : State) (src : Nat) : State :=
  let s1 := (s.setOk src true).put F.CLK_STATUS_HELD 0
  match src with
  | 0 => (if s1.get F.CLK_STATUS_REF_SRC = 1 then s1 else s1.selectRef 0 (!s1.on F.CLK_STATUS_SYS_LOCK)).syncRef
  | 1 => if s1.on F.CLK_CFG_LF_SRC then s1 else s1.moveLf 0
  | 2 => if s.on F.CLK_STATUS_HELD && s1.get F.CLK_STATUS_REF_SRC == 0 then s1.selectRef 2 false else s1
  | _ => if sourceOk s1 1 then s1 else s1.moveLf 1

/-- The start delay of a source ends (R465, R478).  `meas` is its measured start, in µs for XOSC and ms for LFXO. -/
def State.startDelayEnd (s : State) (src : Nat) (valid : Bool) (meas : Nat) : State :=
  if 3 < src ∨ !s.clk.running.getD src false ∨ sourceOk s src ∨ s.now < s.clk.startedAt.getD src 0 + startDelayU s src then s
  else
    let s1 := if src = 0 then s.put F.CLK_XO_MEAS_XO_US (Nat.min meas 65535)
      else if src = 1 then s.put F.CLK_XO_MEAS_LF_MS (Nat.min meas 65535) else s
    let s2 := { s1 with clk := { s1.clk with measured := modAt (fun _ => true) s1.clk.measured src } }
    if valid then s2.enterService src
    else if s2.on F.CLK_STATUS_HELD then s2.deviceReset 5
    else
      let s3 := s2.irq Blk.CLK (2 ^ src)
      let s4 := if src < 2 then s3.count (F.CLK_CNT_COUNT src) else s3
      { s4 with clk := { s4.clk with running := modAt (fun _ => false) s4.clk.running src } }.sourceFailed src

/-- OSC_START_DELAY_END (R465). -/
def execOscStartDelayEnd (t src : Nat) (valid : Bool) (meas : Nat) (s : State) : Out :=
  .next ((s.at t).startDelayEnd src valid meas)

/-! ### Trimming (R471) -/

/-- The first valid trim reference of a list: 0 XOSC, 1 LFXO, 2 skein frame marks, 3 none. -/
def trimRef (s : State) (order : List Nat) : Nat :=
  let ok := fun (r : Nat) => if r = 2 then s.en Blk.SKN && s.get F.SKN_STATUS_STATE == 3 && s.get F.SKN_STATUS_UPPORT != 3
    else sourceOk s r
  (order.find? ok).getD 3

/-- HFRC and LFRC are trimmed while they run, against the first valid reference (R471). -/
def State.trim (s : State) (hf lf : Nat) : State :=
  let h := if s.clk.running.getD 2 false then trimRef s [0, 1, 2] else 3
  let l := if s.clk.running.getD 3 false then trimRef s [1, 0, 2] else 3
  let s1 := if h = 3 then s else s.put F.CLK_TRIM_HF_CODE hf
  let s2 := if l = 3 then s1 else s1.put F.CLK_TRIM_LF_CODE lf
  let s3 := (s2.put F.CLK_TRIM_HF_REF h).put F.CLK_TRIM_LF_REF l
  if h = 3 ∧ l = 3 then s3 else s3.count (F.CLK_CNT_COUNT 5)

/-- RC_TRIM, with the codes that the trim finds (R471). -/
def execRcTrim (t hf lf : Nat) (s : State) : Out := .next ((s.at t).trim hf lf)

end Sys2Proof.Machine
end

