-- ==== Sys2Proof/Machine/TxOps.lean ====
section
/-! DEFINITION. The transmit descriptors and the Drone's own beacon: the opcodes' checks before admission, the frame
counter, and the frame that waits for its committed time (R122 to R131, R169 to R172, R220, R251, R252, R267, R289). -/

namespace Sys2Proof.Machine

/-- Ramp time in timestamp units (R230), and the FEM lead (R227, R235). -/
def rampTimeU (s : State) : Nat := usU (2 ^ (s.get F.RFE_TX_RAMP + 1))
def femLeadU (s : State) : Nat := if s.on F.RFE_FEM_EN then usU (s.get F.RFE_FEM_FEM_LEAD) else 0

/-- A transmission before its placement. -/
def txInfo (s : State) (frame : List Byte) (sfIdx : Nat) (c32 legacy : Bool) (power pmode arg len : Nat) (bin : Int) (code : Nat)
    (dst : Option Nat) : TxInfo :=
  ⟨frame, false, legacy, sfIdx, c32, power, 0, frameU sfIdx len c32 true, rampTimeU s, femLeadU s, wantAttempt bin code,
    wantAttempt 0 0, pmode, arg, dst, false, 0, none, 0, 0, 0, 0, 0⟩

/-- A native frame as its descriptor asks for it. -/
structure NativeReq where
  fctl : Nat
  dst : Nat
  body : List Byte
  /-- Payload bytes that the device adds in front (a beacon's head). -/
  prefixLen : Nat
  legacy : Bool
  deriving DecidableEq, Repr

def NativeReq.payloadLen (r : NativeReq) : Nat := r.prefixLen + r.body.length
def NativeReq.headerLen (r : NativeReq) : Nat := if fctlCt r.fctl = 1 then 14 else 12
/-- PHY payload: header, payload and MIC. -/
def NativeReq.phyLen (r : NativeReq) : Nat := r.headerLen + r.payloadLen + 8
def NativeReq.blocks (r : NativeReq) : Nat := ccmBlocks r.headerLen r.payloadLen (clearPayload (fctlType r.fctl))

/-- TX_FRAME and TX_LEGACY: the host gives FCTL, DST and the payload (R123); a code when FCTL is not allowed. -/
def frameRequest (f : Fetched) (legacy : Bool) : NativeReq ⊕ Nat :=
  let raw := leNat (f.buf.take 2)
  let ty := fctlType raw
  if fctlCt raw = 1 ∨ bits raw 7 7 = 1 ∨ bits raw 15 12 ≠ 0 ∨ !(ty = 0 ∨ ty = 3 ∨ ty = 0xA ∨ (4 ≤ ty ∧ ty ≤ 9)) then .inr 0x0402
  else .inl ⟨raw - bits raw 11 10 * 2 ^ 10 + 2 ^ 10 + wbits f.words 6 24 24 * 16, leNat (slice f.buf 2 3), f.buf.drop 5, 0, legacy⟩

/-- TX_BEACON: the host gives bytes 13 onward of the payload (R126). -/
def beaconRequest (f : Fetched) : NativeReq ⊕ Nat := .inl ⟨1 + 0x100 + 0x400, 0xBFFFFF, f.buf, 13, false⟩

/-- TX_ACK_BEACON: the host gives the payload, whose COUNT must equal LENGTH − 11 (R131). -/
def ackBeaconRequest (f : Fetched) : NativeReq ⊕ Nat :=
  if leNat (slice f.buf 10 1) + 11 ≠ f.buf.length then .inr 0x0411
  else .inl ⟨2 + 0x100 + 0x400, 0xBFFFFF, f.buf, 0, false⟩

/-- The opcode's own checks before admission (R87, R122, R170, R220). -/
def nativeRefusal (s : State) (ws : List Word) (r : NativeReq) : Option Nat :=
  let sf := wbits ws 6 3 0
  let bin := binOf (wbits ws 6 23 16)
  let pm := wbits ws 7 31 30
  if (if r.legacy then 5 else 8) < sf then some 0x0601
  else if r.legacy && !s.on F.RFE_FIR_CTL_PASS then some 0x0506
  else if 80 < wbits ws 6 15 8 ∨ wbits ws 6 23 16 = 0x80 then some 0x09F6
  else if 2 ≤ pm ∧ !carrierOk ((s.get F.RFE_RXLO_FREQ : Int) + bin * 245760) then some 0x0501
  else if pm = 1 ∧ !isEndpoint r.dst then some 0x08F7
  else if pm = 3 ∧ wordAt ws 2 + wordAt ws 3 * 2 ^ 32 = 0 then some 0x08F6
  else none

/-- The MAC's check of the destination's entry (R251, R252, R267). -/
def entryRefusal (s : State) (r : NativeReq) : Option Nat :=
  if fctlKeysel r.fctl ≠ 0 then none
  else if !isEndpoint r.dst then some 0x0A05
  else
    let n := bits r.dst 19 0
    let st := (s.entry n).state
    if !bankOn s n then some 0x0A02
    else if s.esm.bad.contains n then some 0x0A01
    else if st = 3 then some 0x0A06
    else if st = 2 ∨ st = 5 then none
    else some 0x0A05

/-- The MAC reads the destination's entry, whose code finds `err` (R251). -/
def State.readDst (s : State) (r : NativeReq) (err : Nat) : State :=
  let n := bits r.dst 19 0
  if fctlKeysel r.fctl = 0 && isEndpoint r.dst && bankOn s n then s.entryRead n err else s

/-- The key slot's check (R289): the master slot for an endpoint key, the beacon or link slot; KEYSEL 0b11 uses the join
service's handle. -/
def keyRefusal (s : State) (r : NativeReq) : Option Nat :=
  match fctlKeysel r.fctl with
  | 0 => let n := bits r.dst 19 0; derivedRefuses s (endpointEui s n) (s.entry n).gen r.blocks
  | 3 => none
  | k =>
      let slot := if k = 1 then s.get F.MAC_DRONE_BEACON_SLOT else s.get F.MAC_CFG_LINK_SLOT
      match slotRefuses s slot r.blocks with
      | some c => some c
      | none => if slotMode s slot 2 then none else some 0x0B04

/-- The frame counter's check: a reserved value, and after a restart a join that is not older than it (R121, R292). -/
def counterRefusal (s : State) (r : NativeReq) : Option Nat :=
  let old := match s.cry.restartDay with
    | some d => fctlKeysel r.fctl == 0 && isEndpoint r.dst && decide ((s.dirRec (bits r.dst 19 0)).joinDay < d)
    | none => false
  if txfcOut s || old then some 0x0908 else none

/-- The key that a frame is sealed under.  DESIGN CHOICE: a host's frame with KEYSEL 0b11, for which the join service
supplies no handle, is sealed under the endpoint key of DST (notes/assumptions/26.md). -/
def nativeKey (s : State) (r : NativeReq) : AesKey :=
  match fctlKeysel r.fctl with
  | 0 => let n := bits r.dst 19 0; endpointKey s (endpointEui s n) (s.entry n).gen
  | 1 => slotKey s (s.get F.MAC_DRONE_BEACON_SLOT)
  | 2 => slotKey s (s.get F.MAC_CFG_LINK_SLOT)
  | _ => let n := bits r.dst 19 0; endpointKey s (endpointEui s n) (s.entry n).gen

/-- Count the blocks of a frame under its key. -/
def State.useNative (s : State) (r : NativeReq) : State :=
  match fctlKeysel r.fctl with
  | 0 => let n := bits r.dst 19 0; s.useDerived (endpointEui s n) (s.entry n).gen r.blocks false
  | 1 => (s.useSlot (s.get F.MAC_DRONE_BEACON_SLOT) r.blocks).cryCompleted
  | 2 => (s.useSlot (s.get F.MAC_CFG_LINK_SLOT) r.blocks).cryCompleted
  | _ => s

/-- Assign a frame counter to a native frame and let it wait for admission (R20, R21). -/
def State.awaitNative (s : State) (o : Owner) (ring : Nat) (ws : List Word) (r : NativeReq) (key : AesKey) : State :=
  let z : Seal := ⟨key, r.fctl, r.dst, deviceAddr (s.get F.MAC_CFG_DEVICE_ID), s.get F.MAC_TXFC_NEXT, r.body⟩
  let x := txInfo s [] (wbits ws 6 3 0) (wbits ws 6 7 7 == 1) r.legacy (wbits ws 6 15 8) (wbits ws 7 31 30) (wbits ws 7 29 16) r.phyLen
    (binOf (wbits ws 6 23 16)) (wbits ws 6 6 4) (if isEndpoint r.dst then some (bits r.dst 19 0) else none)
  ((s.useNative r).takeTxfc).await ⟨o, ring, ws, .tx x, some z⟩

/-- Is the MAC up, after the radio blocks? -/
def nativeUp (s : State) : Option Nat :=
  match radioRefusal s true with
  | some c => some c
  | none => if s.en Blk.MAC then none else some 0x09F0

/-- A native transmit descriptor: every check before admission in its order, then the frame counter (R55); `err` is what the
code of the destination's entry finds. -/
def State.nativeTx (s0 : State) (f : Fetched) (req : NativeReq ⊕ Nat) (err : Nat := 0) : State :=
  match nativeUp s0 with
  | some c => s0.refuse f.ring f.words c
  | none => match req with
    | .inr c => s0.refuse f.ring f.words c
    | .inl r => match nativeRefusal s0 f.words r with
      | some c => s0.refuse f.ring f.words c
      | none =>
      let s := s0.readDst r err
      match entryRefusal s r with
        | some c => (if c = 0x0A01 then s.count (F.ESM_CNT_COUNT 0) else s).refuse f.ring f.words c
        | none => match keyRefusal s r with
          | some c => s.cryRefused.refuse f.ring f.words c
          | none => match counterRefusal s r with
            | some c => s.refuse f.ring f.words c
            | none => s.awaitNative .host f.ring f.words r (nativeKey s r)

/-- TX_FRAME (R123). -/
def execTxFrame (t err : Nat) (s : State) : Out :=
  .next ((s.at t).onFetched 0x10 (fun x f => x.nativeTx f (frameRequest f false) err))
/-- TX_BEACON (R126). -/
def execTxBeacon (t : Nat) (s : State) : Out := .next ((s.at t).onFetched 0x12 (fun x f => x.nativeTx f (beaconRequest f)))
/-- TX_ACK_BEACON (R131). -/
def execTxAckBeacon (t : Nat) (s : State) : Out := .next ((s.at t).onFetched 0x13 (fun x f => x.nativeTx f (ackBeaconRequest f)))
/-- TX_LEGACY (R170). -/
def execTxLegacy (t err : Nat) (s : State) : Out :=
  .next ((s.at t).onFetched 0x14 (fun x f => x.nativeTx f (frameRequest f true) err))

/-! ### IEEE 802.15.4 (R172, R173) -/

/-- The first bin and the number of bins of a wide-lane channel (R173). -/
def wideSpan (s : State) (band khz : Nat) : Int × Nat :=
  let d : Int := (khz : Int) * 1000 - s.get F.RFE_RXLO_FREQ
  if band = 0 then (d / 245760 - 1, 4) else ((2 * d + 245760) / 491520 - 4, 9)

/-- Are the wide-lane bins of a channel all usable (R172, R173)? -/
def wideBinsOk (s : State) (band khz : Nat) : Bool :=
  let w := wideSpan s band khz
  decide (-100 ≤ w.1) && decide (w.1 + w.2 - 1 ≤ 99)

/-- TX_154's checks; it has no place in CLASS mode (R87, R172). -/
def refusal154 (s : State) (ws : List Word) : Option Nat :=
  let band := wbits ws 6 0 0
  if 80 < wbits ws 6 15 8 then some 0x09F6
  else if wbits ws 7 31 30 = 1 then some 0x08F7
  else if wbits ws 7 31 30 = 3 ∧ wordAt ws 2 + wordAt ws 3 * 2 ^ 32 = 0 then some 0x08F6
  else match ieee154Khz band (wbits ws 7 15 0) with
    | none => some 0x0501
    | some k => if wideBinsOk s band k && carrierOk ((k : Int) * 1000) then none else some 0x0501

/-- TX_154 (R172): the PSDU goes out as it is, with its FCS. -/
def State.tx154 (s : State) (f : Fetched) : State :=
  match radioRefusal s true with
  | some c => s.refuse f.ring f.words c
  | none => match refusal154 s f.words with
    | some c => s.refuse f.ring f.words c
    | none =>
        let ws := f.words
        let band := wbits ws 6 0 0
        let x : TxInfo := ⟨f.buf, true, false, 0, false, wbits ws 6 15 8, (ieee154Khz band (wbits ws 7 15 0)).getD 0,
          ieee154U band f.buf.length, rampTimeU s, femLeadU s, wantAttempt 0 0, wantAttempt 0 0, wbits ws 7 31 30, wbits ws 7 29 16,
          none, false, 0, none, 0, 0, 0, 0, 0⟩
        s.await ⟨.host, f.ring, ws, .tx x, none⟩

def execTx154 (t : Nat) (s : State) : Out := .next ((s.at t).onFetched 0x11 State.tx154)

/-! ### The Drone's own beacon (R125 to R127) -/

/-- A class advert (Table 4-8) of class `k` of bank `b`. -/
def classAdvert (s : State) (b k : Nat) : List Byte :=
  leBytes 1 (k + s.get (F.CHN_AC_CFG_DIR b k) * 128) ++ leBytes 2 (s.get (F.CHN_SF_CFG_LEN_M1 b (s.get (F.CHN_AC_CFG_SF_ID b k))))
    ++ leBytes 2 (s.get (F.CHN_AC_POS_FIRST_OFFSET b k)) ++ leBytes 2 (s.get (F.CHN_AC_POS_SPAN b k))
    ++ leBytes 1 (s.get (F.CHN_AC_CFG_POS_DUR b k)) ++ leBytes 1 (s.get (F.CHN_AC_CFG_BIN_FIRST b k))
    ++ leBytes 1 (s.get (F.CHN_AC_CFG_BIN_COUNT b k))

/-- NCLASS and the adverts of the lowest-numbered four enabled classes of the active bank (R126). -/
def classAdverts (s : State) : List Byte :=
  let b := s.get F.CHN_STATUS_ACTIVE_BANK
  let ks := ((List.range 16).filter (fun k => s.on (F.CHN_AC_CFG_EN b k))).take 4
  leBytes 1 ks.length ++ ks.flatMap (classAdvert s b)

/-- The beacon's request, and the descriptor words it would have: CELL mode with MAC_BCN.LINK, PRIO 0, ECLASS 1, and the
radio settings of MAC_BCN_RADIO and MAC_DRONE.CODE. -/
def droneRequest (s : State) : NativeReq := ⟨1 + 0x100 + 0x400, 0xBFFFFF, classAdverts s, 13, false⟩
def droneWords (s : State) : List Word :=
  [word 0x12, word (2 ^ 18), 0, 0, 0, 0,
    word (s.get F.MAC_BCN_RADIO_SF_IDX + s.get F.MAC_DRONE_CODE * 16 + s.get F.MAC_BCN_RADIO_CRC32 * 128
      + s.get F.MAC_BCN_RADIO_POWER * 256 + s.get F.MAC_BCN_RADIO_BIN * 65536),
    word (s.get F.MAC_BCN_LINK * 65536)]

/-- With AUTO set, the Drone submits its beacon for the next period, once (R126); a check that fails before admission is
reported as a refusal. -/
def State.droneBeacon (s : State) : State :=
  let p := 2 ^ s.get F.MAC_DRONE_PERIOD_LOG2
  let period := asn s.net / p + 1
  if !s.en Blk.MAC || !s.on F.MAC_DRONE_AUTO || s.get F.MAC_SYNC_STATUS_STATE == 1 || decide (period ≤ s.mac.beaconFor) then s
  else
    let s1 := { s with mac := { s.mac with beaconFor := period } }
    let r := droneRequest s
    let no := fun (c : Nat) => s1.record 0x0900 c (w4 := 0xFF)
    match nativeUp s with
    | some c => no c
    | none => match keyRefusal s r with
      | some c => (no c).cryRefused
      | none => match counterRefusal s r with
        | some c => no c
        | none => s1.awaitNative .droneBeacon 0xFF (droneWords s) r (nativeKey s r)

/-- DRONE_BEACON_SUBMIT (R126). -/
def execDroneBeaconSubmit (t : Nat) (s : State) : Out := .next (s.at t).droneBeacon

end Sys2Proof.Machine
end

