-- ==== Sys2Proof/Machine/Skein.lean ====
section
/-! DEFINITION. The skein's shared operations: ports, views and elections, attaching, the member table, path notices and
the skein quench (R310 to R329, R338, R339). -/

namespace Sys2Proof.Machine

/-! ### Ports -/

def State.port (s : State) (p : Nat) : Port := s.skn.ports.getD p Port.reset
def State.setPort (s : State) (p : Nat) (f : Port → Port) : State :=
  { s with skn := { s.skn with ports := modAt f s.skn.ports p } }

/-- STATE of Table 10-9, and this device's id and priority. -/
def sknState (s : State) : Nat := s.get F.SKN_STATUS_STATE
def sknId (s : State) : Nat := s.get F.MAC_CFG_DEVICE_ID
def sknPrio (s : State) : Nat := s.get F.SKN_CFG_PRIORITY
/-- The upstream port, 3 for none. -/
def upPort (s : State) : Nat := s.get F.SKN_STATUS_UPPORT
/-- Is a port enabled and powered while SKN is enabled (R308)? -/
def portOn (s : State) (p : Nat) : Bool := s.en Blk.SKN && decide (p < 3) && s.on (F.SKN_PORT_CFG_EN p)
def linkOf (s : State) (p : Nat) : Nat := s.get (F.SKN_PORT_STATUS_LINK p)
/-- Is the link of a port up: upstream, downstream or standby (R318)? -/
def linkUp (s : State) (p : Nat) : Bool := portOn s p && decide (2 ≤ linkOf s p) && decide (linkOf s p ≤ 4)
/-- Up ports, and tree ports: those that carry messages, or did so when the upstream was lost (R315, R339). -/
def upPorts (s : State) : List Nat := [0, 1, 2].filter (linkUp s)
def treePorts (s : State) : List Nat := (upPorts s).filter (fun p => (s.port p).tree)
/-- Downstream ports. -/
def downPorts (s : State) : List Nat := (upPorts s).filter (fun p => linkOf s p == 3)

/-- Queue a control record on a port (R316). -/
def State.sendRec (s : State) (r : SknRec) (p : Nat) : State := s.setPort p (fun x => { x with recs := x.recs ++ [r] })
/-- Spacing of the event cells of a port, half a tick or four ticks, and the number of its next cell: a cell starts 16
bytes into its part of the frame (R313, Table 10-3). -/
def cellUnit (s : State) (p : Nat) : Nat := if s.on (F.SKN_PORT_STATUS_LOW_RATE p) then 4 * tickU else tickU / 2
def nextCell (s : State) (p : Nat) : Nat :=
  let start := if s.on (F.SKN_PORT_STATUS_LOW_RATE p) then 16 * frameUnit / 400 else 16 * frameUnit / 3200
  if s.net < start then 0 else (s.net - start) / cellUnit s p + 1
/-- SKC bits join cell `n`: two firings of a channel between two cells leave as one (R315). -/
def cellSkc (n : Nat) (v : Word) : List EvCell → List EvCell
  | [] => [⟨n, v, none⟩]
  | c :: r =>
      if c.n = n then { c with skc := c.skc ||| v } :: r
      else if n < c.n then ⟨n, v, none⟩ :: c :: r
      else c :: cellSkc n v r
/-- A path notice takes the first cell from `n` on that carries none. -/
def cellNotice (x : Notice) : Nat → List EvCell → List EvCell
  | n, [] => [⟨n, 0, some x⟩]
  | n, c :: r =>
      if c.n < n then c :: cellNotice x n r
      else if n < c.n then ⟨n, 0, some x⟩ :: c :: r
      else if c.notice.isNone then { c with notice := some x } :: r
      else c :: cellNotice x (n + 1) r
/-- SKC bits go into the next cell of the tree ports other than `except` (R315). -/
def State.forwardSkc (s : State) (v : Word) (except : Nat) : State :=
  ((treePorts s).filter (fun p => p != except)).foldl (fun x p =>
    x.setPort p (fun y => { y with cells := cellSkc (nextCell s p) v y.cells })) s
/-- A path notice goes out on the tree ports other than `except` (R315). -/
def State.spreadNotice (s : State) (n : Notice) (except : Nat) : State :=
  ((treePorts s).filter (fun p => p != except)).foldl (fun x p =>
    x.setPort p (fun y => { y with cells := cellNotice n (nextCell s p) y.cells })) s
/-- Raise a path notice of this device's own. -/
def State.raiseNotice (s : State) (kind except : Nat) : State :=
  let n : Notice := ⟨kind, sknId s, s.skn.noticeSeq⟩
  ({ s with skn := { s.skn with
      noticeSeq := (s.skn.noticeSeq + 1) % 256
      seen := (n.origin, n.seq) :: s.skn.seen.filter (fun x => x.1 != n.origin) } }).spreadNotice n except

/-! ### Views (R319) -/

/-- Does candidate `a` stand before `b`: an incumbent first, then the higher PRIORITY, then the lower id? -/
def keyBefore (a b : Cand) : Bool := decide (b.prio < a.prio) || (a.prio == b.prio && decide (a.id < b.id))
def standsBefore (a b : Cand) : Bool := (a.inc && !b.inc) || (a.inc == b.inc && keyBefore a b)
/-- The best of a list by an order. -/
def bestBy (f : Cand → Cand → Bool) : List Cand → Option Cand
  | [] => none
  | c :: r => match bestBy f r with
    | none => some c
    | some d => if f d c then some d else some c

/-- Does a port's time mark offer a path (R320)? -/
def offers (s : State) (p : Nat) : Bool :=
  linkUp s p && (match (s.port p).peer with | some m => !m.headless && decide (m.hops < 1023) | none => false)
def offersTo (s : State) (p head : Nat) : Bool :=
  offers s p && (match (s.port p).peer with | some m => m.head == head | none => false)

/-- The eligible candidates that this device knows: itself, and the heads and deputies of the views that its up ports
have received.  A head that was lost counts only where a mark offers a path to it (notes/assumptions/60.md). -/
def candidates (s : State) : List Cand :=
  let own : List Cand := if 0 < sknPrio s then [⟨sknId s, sknPrio s, s.skn.incumbent⟩] else []
  let heard := (upPorts s).flatMap (fun p => (s.port p).viewHead.toList ++ (s.port p).viewDep.toList)
  own ++ heard.filter (fun c => decide (0 < c.prio) && c.id != sknId s &&
    (s.skn.lostHead != some c.id || [0, 1, 2].any (fun p => offersTo s p c.id)))

def headOf (s : State) : Option Cand := bestBy standsBefore (candidates s)
def deputyOf (s : State) (head : Option Cand) : Option Cand :=
  bestBy keyBefore ((candidates s).filter (fun c => match head with | some h => c.id != h.id | none => true))

/-- Recompute the view; a change restarts the settling time, and the deputy registers follow. -/
def State.updateView (s : State) : State :=
  let h := headOf s
  let d := deputyOf s h
  let s1 := if h == s.skn.viewHead && d == s.skn.viewDep then s
    else { s with skn := { s.skn with viewHead := h, viewDep := d, viewAt := s.now } }
  match d with
  | some c => (((s1.put F.SKN_DEPUTY_ID c.id).put F.SKN_DEPUTY_V 1).put F.SKN_STATUS_DEPUTY (if c.id = sknId s then 1 else 0))
  | none => ((s1.wr Reg.SKN_DEPUTY 0).put F.SKN_STATUS_DEPUTY 0)

/-! ### Holdover (R327, R328) -/

/-- Is this device's time not steered from a head? -/
def inHoldover (s : State) : Bool :=
  let st := sknState s
  if st = 3 then s.get F.MAC_CFG_TIME_SRC != 2 || upPort s == 3 ||
      (match (s.port (upPort s)).peer with | some m => m.holdover | none => true)
  else if st = 4 then s.get F.MAC_CFG_TIME_SRC == 2
  else st != 0

/-- SKN_HOLDOVER follows the holdover state. -/
def State.syncHoldover (s : State) : State :=
  if inHoldover s then
    let since := s.skn.holdSince.getD s.now
    { s.put F.SKN_HOLDOVER_MS (Nat.min ((s.now - since) * 1000 / secondU) 0xFFFFFFFF) with
      skn := { s.skn with holdSince := some since } }
  else { s.put F.SKN_HOLDOVER_MS 0 with skn := { s.skn with holdSince := none } }

/-! ### The member table (R321) -/

def memberOf (s : State) (id : Nat) : Option Member := s.skn.members.find? (fun m => m.e.id == id)

/-- Does the chain of parents of device `id` pass through port `port` of device `via`? -/
def chainPasses (s : State) (via port id : Nat) : Nat → Bool
  | 0 => false
  | n + 1 => match memberOf s id with
    | none => false
    | some m => (m.e.parent == via && m.e.pport == port) || chainPasses s via port m.e.parent n

/-- Steps from this device down to a member. -/
def depthOf (s : State) (id : Nat) : Nat → Nat
  | 0 => 0
  | n + 1 => match memberOf s id with
    | none => 0
    | some m => 1 + depthOf s m.e.parent n

/-- Remove the members that satisfy `p`; at the head a removal sets PATH_LOST (Table 10-9). -/
def State.dropMembers (s : State) (p : Member → Bool) : State :=
  if s.skn.members.any p then
    let s1 := { s with skn := { s.skn with members := s.skn.members.filter (fun m => !p m), removed := true } }
    if sknState s = 4 then (s1.irq Blk.SKN 1).count (F.SKN_CNT_COUNT 6) else s1
  else s

/-- SKN_MEMBER_DATA of the id that SKN_MEMBER_IDX names. -/
def memberData (s : State) : Word :=
  match memberOf s (s.get F.SKN_MEMBER_IDX_ID) with
  | none => 0
  | some m => word (1 + m.e.parent % 1024 * 2 + m.e.pport % 4 * 2 ^ 11
      + (s.get F.SKN_STATUS_HOPS + depthOf s m.e.id s.skn.members.length) % 2048 * 2 ^ 13 + m.e.prio % 256 * 2 ^ 24)

/-! ### Attaching and losing the path (R320, R339) -/

/-- LINK and the tree flag of every up port follow the upstream choice and what the peers offer: a peer that sends
HOPS 0x7FF uses this device, or no one, as upstream (R320; notes/assumptions/61.md). -/
def State.classify (s : State) : State :=
  let attached := sknState s == 3 || sknState s == 4
  (upPorts s).foldl (fun x p =>
    let down := match (x.port p).peer with | some m => m.hops == 0x7FF && !m.headless | none => false
    let k := if attached && upPort x == p then 2 else if down then 3 else 4
    let y := x.put (F.SKN_PORT_STATUS_LINK p) k
    if attached then y.setPort p (fun z => { z with tree := k != 4 }) else y) s

/-- Set HEAD_ID; a change to another head sets HEAD_CHANGED (event 44). -/
def State.setHead (s : State) (id : Nat) : State :=
  if s.get F.SKN_STATUS_HEAD_ID = id ∧ (sknState s = 3 ∨ sknState s = 4 ∨ sknState s = 5 ∨ s.skn.fromOrphan) then s
  else ((s.put F.SKN_STATUS_HEAD_ID id).irq Blk.SKN 4).fire 44

/-- Send this device's ENUM record upstream (R321). -/
def State.sendEnum (s : State) : State :=
  let u := upPort s
  if u = 3 then s
  else
    let m := (s.port u).peer
    let e : Enum := ⟨sknId s, (m.map (fun x => x.sport)).getD 0, (m.map (fun x => x.sender)).getD 0, u, sknPrio s, s.relay⟩
    ({ s with skn := { s.skn with enumAt := s.now + secondU } }).sendRec (.enum e) u

/-- Take port `p` as upstream.  Members reached through it are no longer this device's subtree. -/
def State.takeUpstream (s : State) (p : Nat) : State :=
  let h := match (s.port p).peer with | some m => if m.hops < 1023 then m.hops + 1 else 0x7FF | none => 0x7FF
  let head := match (s.port p).peer with | some m => if m.hops < 1023 then some m.head else none | none => none
  let s1 := if upPort s = p then s else { s with skn := { s.skn with members := s.skn.members.filter (fun m => m.port != p) } }
  let s2 := (s1.put F.SKN_STATUS_UPPORT p).put F.SKN_STATUS_HOPS h
  match head with
  | some id => s2.setHead id
  | none => s2

/-- Does port `p`'s peer rank before port `q`'s as an upstream: fewer HOPS, then the lower peer id, then the port? -/
def upBefore (s : State) (p q : Nat) : Bool :=
  match (s.port p).peer, (s.port q).peer with
  | some a, some b => decide (a.hops < b.hops) ||
      (a.hops == b.hops && (decide (a.sender < b.sender) || (a.sender == b.sender && decide (p < q))))
  | some _, none => true
  | _, _ => false

/-- The best upstream among the ports of a list. -/
def bestUp (s : State) : List Nat → Option Nat
  | [] => none
  | p :: r => match bestUp s r with
    | none => some p
    | some q => if upBefore s p q then some p else some q

/-- A member chooses its upstream afresh among the ports that offer a path to the head it holds (R320). -/
def State.reroute (s : State) : State :=
  if sknState s ≠ 3 then s
  else
    let head := match s.skn.viewHead with | some c => c.id | none => s.get F.SKN_STATUS_HEAD_ID
    match bestUp s ([0, 1, 2].filter (fun p => offersTo s p head)) with
    | some p =>
        let was := upPort s
        let s1 := s.takeUpstream p
        (if was = p then s1 else s1.sendEnum).classify
    | none => s.classify

/-- Become a member, with port `p` as upstream if one is known; `again` after the path was lost (Table 10-4). -/
def State.attach (s : State) (p : Option Nat) (again : Bool) : State :=
  let s1 := match p with
    | some q => (s.takeUpstream q).sendEnum
    | none => (s.put F.SKN_STATUS_UPPORT 3).put F.SKN_STATUS_HOPS 0x7FF
  let s2 := { s1.put F.SKN_STATUS_STATE 3 with skn := { s1.skn with fromOrphan := false, lostHead := none, incumbent := false } }
  let s3 := s2.classify
  (if again then (s3.irq Blk.SKN 2).raiseNotice 2 (p.getD 3) else s3).syncHoldover

/-- Send the head's quench state down the tree with a new sequence number (R338). -/
def State.sendQuench (s : State) : State :=
  if sknState s = 4 ∧ s.on F.SKN_CFG_QUENCH_SKEIN then
    let n := (s.skn.quenchOut + 1) % 65536
    (downPorts s).foldl (fun x p => x.sendRec (.quench (sknId s) (s.on F.HRE_QUENCH_QUENCH) n) p)
      { s with skn := { s.skn with quenchOut := n } }
  else s

/-- Become head: HOPS 0, and a new head sends its own quench state at once (R338, R339). -/
def State.becomeHead (s : State) : State :=
  let s0 := ((s.setHead (sknId s)).put F.SKN_STATUS_STATE 4).put F.SKN_STATUS_UPPORT 3
  let s1 := { s0.put F.SKN_STATUS_HOPS 0 with skn := { s0.skn with headSince := s.now, fromOrphan := false } }
  (s1.classify.sendQuench).syncHoldover

/-- Start an election (R319). -/
def State.elect (s : State) (fromOrphan : Bool) : State :=
  let s1 := (((s.put F.SKN_STATUS_STATE 2).put F.SKN_STATUS_UPPORT 3).put F.SKN_STATUS_HOPS 0x7FF)
  let ports := if fromOrphan then s1.skn.ports.map (fun (p : Port) => { p with viewHead := none, viewDep := none }) else s1.skn.ports
  let lost := if fromOrphan then some (s.get F.SKN_STATUS_HEAD_ID) else none
  let s2 := { s1 with skn := { s1.skn with
    viewAt := s.now, incumbent := false, fromOrphan := fromOrphan, lostHead := lost, ports := ports } }
  (s2.updateView).syncHoldover

/-- No link is up: ALONE (R318). -/
def State.alone (s : State) : State :=
  if (upPorts s).isEmpty ∧ sknState s ≠ 0 then
    let s1 := (((s.put F.SKN_STATUS_STATE 1).put F.SKN_STATUS_UPPORT 3).put F.SKN_STATUS_HOPS 0x7FF).put F.SKN_STATUS_HEAD_ID 0
    ({ s1 with skn := { s1.skn with incumbent := false, fromOrphan := false, lostHead := none } }.updateView).syncHoldover
  else s

/-- With PLL_DISC set and an upstream at full rate, the upstream's clock is the reference; otherwise it is not (R326). -/
def State.steerRef (s : State) : State :=
  let up := upPort s
  if s.on F.SKN_CFG_PLL_DISC && sknState s == 3 && up != 3 && !s.on (F.SKN_PORT_STATUS_LOW_RATE up) then s.takeSkeinRef
  else s.loseSkeinRef

/-- The upstream is lost: ORPHAN (Table 10-4).  `own` says that this device raises the TREE_LOST notice itself. -/
def State.orphan (s : State) (own : Bool) : State :=
  if sknState s ≠ 3 then s
  else
    let u := upPort s
    let s1 := (((s.loseSkeinRef.put F.SKN_STATUS_STATE 5).put F.SKN_STATUS_UPPORT 3).put F.SKN_STATUS_HOPS 0x7FF)
    let s2 := { s1 with skn := { s1.skn with orphanSince := s.now } }
    let s3 := (s2.irq Blk.SKN 1).count (F.SKN_CNT_COUNT 6)
    ((if own then s3.raiseNotice 1 u else s3).classify).syncHoldover

/-- What follows from a changed view, or a changed offer, in each state (Table 10-4). -/
def State.follow (s : State) : State :=
  let s1 := s.updateView
  let st := sknState s1
  if st = 3 then s1.reroute
  else if st = 4 then
    match s1.skn.viewHead with
    | some c => if c.id ≠ sknId s1 ∧ c.inc then
        s1.attach (bestUp s1 ([0, 1, 2].filter (fun p => offersTo s1 p c.id))) false
      else s1.classify
    | none => s1.classify
  else if st = 5 ∨ st = 6 ∨ (st = 2 ∧ s1.skn.fromOrphan) then
    match bestUp s1 ([0, 1, 2].filter (offers s1)) with
    | some p => s1.attach (some p) true
    | none => s1.classify
  else s1.classify

/-! ### Link changes (R318, R321, R322) -/

/-- The rate of a port that has no lock: its set rate, and full rate in automatic mode (R309, R310). -/
def ownRate (s : State) (p : Nat) : Nat := if s.get (F.SKN_PORT_CFG_RATE p) = 1 then 1 else 0

/-- A link that was up is gone: LINK takes the value `k`; the upstream's loss orphans, a downstream's loss prunes. -/
def State.dropLink (s : State) (p k : Nat) : State :=
  let was := linkOf s p
  let up := linkUp s p
  let s1 := ((s.put (F.SKN_PORT_STATUS_LINK p) k).put (F.SKN_PORT_PEER_V p) 0).put (F.SKN_PORT_STATUS_LOW_RATE p) (ownRate s p)
  let s2 := s1.setPort p (fun x => { x with
    marks := 0, misses := 0, peer := none, t21 := none, viewHead := none, viewDep := none
    tree := false, locked := false, unlockedAt := s.now })
  if !up then s2
  else
    let s3 := s2.fire 43
    let s4 := if was = 2 then s3.orphan true else s3
    let s5 := if was = 3 then
        let x := s4.dropMembers (fun m => m.port == p)
        if sknState x = 3 ∧ upPort x ≠ 3 then x.sendRec (.prune (sknId s) p) (upPort x) else x
      else s4
    (s5.alone).follow

/-- A fault of Table 10-2 is detected: the port is down; a new fault is reported (R312).  A
blocked port stays blocked (R322). -/
def State.lineFault (s : State) (p fault pair dist : Nat) : State :=
  let old := s.get (F.SKN_PORT_STATUS_FAULT p)
  let s1 := ((s.put (F.SKN_PORT_STATUS_FAULT p) fault).put (F.SKN_PORT_STATUS_FAULT_PAIR p) pair).put
    (F.SKN_PORT_STATUS_FAULT_DIST p) (Nat.min dist 511)
  let s2 := s1.dropLink p (if linkOf s p = 5 then 5 else 0)
  if old = fault then s2 else (s2.irq Blk.SKN 16).record 0x0D00 0x0D04 (w4 := p % 4 + fault % 8 * 256)

/-- Members whose chain of parents passes through a port of a device are pruned, and the record goes on upstream. -/
def State.prune (s : State) (id port : Nat) : State :=
  let n := s.skn.members.length + 1
  let s1 := s.dropMembers (fun m => chainPasses s id port m.e.id n)
  if sknState s = 3 ∧ upPort s ≠ 3 then s1.sendRec (.prune id port) (upPort s) else s1

/-- An id conflict: the port is blocked and reported (R322). -/
def State.idConflict (s : State) (p id : Nat) : State :=
  ((s.dropLink p 5).irq Blk.SKN 32).record 0x0D00 0x0D05 (w4 := id % 1024)

/-- An ENUM record arrives on port `p` (R321, R322). -/
def State.enumIn (s : State) (p : Nat) (e : Enum) : State :=
  if e.id = sknId s then s.idConflict p e.id
  else match memberOf s e.id with
    | some m =>
        if m.port ≠ p then s.idConflict p e.id
        else
          let ms := s.skn.members.map (fun (x : Member) => if x.e.id == e.id then (⟨e, p, s.now⟩ : Member) else x)
          let s1 := { s with skn := { s.skn with members := ms } }
          if sknState s = 3 ∧ upPort s ≠ 3 ∧ upPort s ≠ p then s1.sendRec (.enum e) (upPort s) else s1
    | none =>
        let s1 := { s with skn := { s.skn with members := s.skn.members ++ [⟨e, p, s.now⟩] } }
        let s2 := if sknState s = 4 ∧ s.skn.removed then s1.irq Blk.SKN 2 else s1
        if sknState s = 3 ∧ upPort s ≠ 3 ∧ upPort s ≠ p then s2.sendRec (.enum e) (upPort s) else s2

/-! ### The skein quench (R338) -/

/-- Set or clear SQUENCH; setting it ramps down the transmission on air (R61). -/
def State.setSquench (s : State) (on : Bool) : State :=
  if s.on F.SKN_STATUS_SQUENCH = on then s
  else
    let s1 := (s.put F.SKN_STATUS_SQUENCH on.toNat).irq Blk.SKN 128
    if on then s1.rampDown 4 0x0408 else s1

/-- Is sequence `a` later than `b` (16 bits)? -/
def seqLater (a b : Nat) : Bool := let d := (a + 65536 - b) % 65536; decide (1 ≤ d ∧ d < 32768)

/-- A QUENCH record from the head: the first one of a new head ends the quench in force; one with a later sequence
number applies; records travel on down the tree. -/
def State.quenchIn (s : State) (p head : Nat) (set : Bool) (n : Nat) : State :=
  if sknState s = 4 ∨ head ≠ s.get F.SKN_STATUS_HEAD_ID then s
  else
    let fresh := s.skn.quenchHead != some head
    if !fresh && !seqLater n s.skn.quenchSeq then s
    else
      let s1 := { s with skn := { s.skn with quenchHead := some head, quenchSeq := n } }
      let s2 := ((downPorts s1).filter (fun q => q != p)).foldl (fun x q => x.sendRec (.quench head set n) q) s1
      s2.setSquench set

end Sys2Proof.Machine
end

