-- ==== Sys2Proof/Machine/SkeinLinks.lean ====
section
/-! DEFINITION. The skein's link commands: line tests, line rates, frame boundaries, time marks, control records, elections
and their timeouts (R310 to R328, R338, R339). -/

namespace Sys2Proof.Machine

/-! ### Lines (R310 to R312) -/

/-- A line test ends: a fault is reported, a pass starts training (R311, R312). -/
def State.lineTest (s : State) (p fault pair dist : Nat) : State :=
  if !portOn s p || decide (2 ≤ linkOf s p) || decide (s.now < (s.port p).testAt) then s
  else
    let s1 := s.setPort p (fun x => { x with testAt := s.now + msU 100 })
    if fault = 0 then
      let s2 := (s1.put (F.SKN_PORT_STATUS_FAULT p) 0).put (F.SKN_PORT_STATUS_FAULT_PAIR p) 0
      if linkOf s p = 0 then s2.put (F.SKN_PORT_STATUS_LINK p) 1 else s2
    else s1.lineFault p fault pair dist

/-- LINE_TEST (R311). -/
def execLineTest (t p fault pair dist : Nat) (s : State) : Out := .next ((s.at t).lineTest p (fault % 6) pair dist)

/-- A DC monitor sees a short to ground (3) or to VSUP (4): the driver is disabled at once (Table 10-2). -/
def State.lineShort (s : State) (p : Nat) (toVsup : Bool) (pair : Nat) : State :=
  if !portOn s p then s
  else (s.setPort p (fun x => { x with testAt := s.now + msU 100 })).lineFault p (if toVsup then 4 else 3) pair
    (s.get (F.SKN_PORT_STATUS_FAULT_DIST p))

/-- LINE_SHORT_DETECT (R311). -/
def execLineShortDetect (t p : Nat) (toVsup : Bool) (pair : Nat) (s : State) : Out := .next ((s.at t).lineShort p toVsup pair)

/-- An automatic port without lock for 8,192 frames transmits at the low rate (R310). -/
def State.rateFallback (s : State) (p : Nat) : State :=
  let x := s.port p
  if portOn s p && s.get (F.SKN_PORT_CFG_RATE p) == 2 && !x.locked && decide (x.unlockedAt + secondU ≤ s.now) && linkOf s p != 5 then
    s.put (F.SKN_PORT_STATUS_LOW_RATE p) 1
  else s

/-- RATE_FALLBACK (R310). -/
def execRateFallback (t p : Nat) (s : State) : Out := .next ((s.at t).rateFallback p)

/-- A port's receiver locks at a line rate: an automatic port's transmitter takes that rate; a port of a set rate locks
at that rate only.  Reversed polarity is corrected and shown (R309, R310, Table 10-2). -/
def State.lockAtRate (s : State) (p : Nat) (low inverted : Bool) : State :=
  let rate := s.get (F.SKN_PORT_CFG_RATE p)
  if !portOn s p || linkOf s p != 1 || !(rate == 2 || rate == low.toNat) then s
  else ((s.put (F.SKN_PORT_STATUS_LOW_RATE p) low.toNat).put (F.SKN_PORT_STATUS_POL_INV p) inverted.toNat).setPort p
    (fun x => { x with locked := true, marks := 0, misses := 0 })

/-- LOCK_AT_RATE (R310). -/
def execLockAtRate (t p : Nat) (low inverted : Bool) (s : State) : Out := .next ((s.at t).lockAtRate p low inverted)

/-! ### Frames (R313 to R316) -/

/-- The time mark that this device sends on a port (R314, R320, R327). -/
def markOf (s : State) (p : Nat) : Mark :=
  let st := sknState s
  let headless := st != 3 && st != 4 && st != 5
  let up := (s.port (upPort s)).peer
  { low := s.on (F.SKN_PORT_STATUS_LOW_RATE p), headless := headless, holdover := inHoldover s
    incumbent := if st = 4 then s.skn.incumbent else if st = 3 then (up.map (fun m => m.incumbent)).getD false else false
    ticks := s.net / frameUnit * 4 % 2 ^ 48, head := if headless then 0 else s.get F.SKN_STATUS_HEAD_ID
    prio := if st = 4 then sknPrio s else (up.map (fun m => m.prio)).getD 0
    sender := sknId s, sport := p
    hops := if p = upPort s ∨ st = 5 ∨ st = 2 ∨ st = 6 ∨ st = 1 then 0x7FF else s.get F.SKN_STATUS_HOPS }

/-- Order in which record positions are filled (R316). -/
def recRank : SknRec → Nat
  | .delay _ => 0
  | .quench _ _ _ => 1
  | .elect _ _ => 2
  | .prune _ _ => 3
  | .enum _ => 4
def recsBy (l : List SknRec) : List SknRec :=
  [0, 1, 2, 3, 4].flatMap (fun k => l.filter (fun r => recRank r == k))

/-! Characters of the line code: K28.5, K28.0, K27.7 and K29.7, by their 8-bit values. -/
def K28_5 : Byte := 0xBC
def K28_0 : Byte := 0x1C
def K27_7 : Byte := 0xFB
def K29_7 : Byte := 0xFD

/-- Bytes 1 to 14 of a mark or cell between its comma and its CRC-8 (R314, R315). -/
def sealCell (k : Byte) (bs : List Byte) : List Byte := k :: bs ++ [BitVec.ofNat 8 (crc8 bs)]
/-- The bytes of a time mark (R314). -/
def markBytes (m : Mark) : List Byte :=
  sealCell K28_5 (leBytes 1 (m.low.toNat + 2 * m.headless.toNat + 4 * m.holdover.toNat + 8 * m.incumbent.toNat) ++
    leBytes 6 m.ticks ++ leBytes 2 (m.head % 1024) ++ leBytes 1 m.prio ++ leBytes 2 (m.sender % 1024 + m.sport % 4 * 1024) ++
    leBytes 2 (m.hops % 2048))
/-- The bytes of an event cell (R315). -/
def cellBytes (low : Bool) (c : EvCell) : List Byte :=
  let path := match c.notice with | some x => x.kind % 4 + x.origin % 1024 * 4 + x.seq % 256 * 4096 | none => 0
  sealCell K28_0 (leBytes 1 (if low then 0 else c.n % 8) ++ leBytes 4 c.skc.toNat ++ leBytes 4 path ++ List.replicate 5 0)
/-- What a port sends as event cell `n` of its present frame. -/
def sentCell (s : State) (p n : Nat) : List Byte :=
  cellBytes (s.on (F.SKN_PORT_STATUS_LOW_RATE p)) (((s.port p).cells.find? (fun c => c.n == n)).getD ⟨n, 0, none⟩)
/-- The bytes of a control record (R316). -/
def recBytes : SknRec → List Byte
  | .delay d => 0x01 :: leBytes 4 (unsigned 32 d) ++ List.replicate 3 0
  | .elect h d =>
      0x02 :: leBytes 2 (match h with | some c => c.id % 1024 + 1024 * c.inc.toNat | none => 0) ++
        leBytes 1 (match h with | some c => c.prio | none => 0) ++
        leBytes 2 (match d with | some c => c.id % 1024 + 1024 | none => 0) ++
        leBytes 1 (match d with | some c => c.prio | none => 0) ++ [0]
  | .enum e =>
      0x03 :: leBytes 2 (e.id % 1024 + e.pport % 4 * 1024) ++ leBytes 2 (e.parent % 1024 + e.upport % 4 * 1024) ++
        leBytes 1 e.prio ++ leBytes 1 e.relay.toNat ++ [0]
  | .prune id port => 0x04 :: leBytes 2 (id % 1024 + port % 4 * 1024) ++ List.replicate 5 0
  | .quench h set n => 0x05 :: leBytes 2 (h % 1024) ++ leBytes 1 set.toNat ++ leBytes 2 n ++ List.replicate 2 0
/-- The control slice of a frame but for event cell 0: the mark, and 36 records, 5 at the low rate, EMPTY where there is
none (Table 10-3). -/
def sliceBytes (low : Bool) (m : Mark) (rs : List SknRec) : List Byte :=
  markBytes m ++ fit (8 * if low then 5 else 36) (rs.flatMap recBytes)

/-- Bytes 1 to 16 of a message (R317). -/
def msgHeader (m : SknMsg) : List Byte :=
  leBytes 2 (m.dest % 1024 + m.bcast.toNat * 1024 + m.kind % 8 * 2048 + m.prio % 4 * 16384) ++
  leBytes 2 (m.origin % 1024 + m.channel % 16 * 1024) ++ leBytes 2 m.seq ++ leBytes 2 m.payload.length ++ leBytes 8 m.time
/-- The bytes of a message, and how many they are (R317). -/
def msgBytes (m : SknMsg) : List Byte :=
  K27_7 :: msgHeader m ++ m.payload ++ leBytes 4 (crc32 (msgHeader m ++ m.payload)) ++ [K29_7]
def msgSize (m : SknMsg) : Nat := m.payload.length + 22
/-- Data-region bytes of a frame on a port (Table 10-3). -/
def dataRegion (s : State) (p : Nat) : Nat := if s.on (F.SKN_PORT_STATUS_LOW_RATE p) then 328 else 2768

/-- Send queued messages while the frame has room; a message may go on into the next frame (R317, R331). -/
def drainQueue (cap : Nat) : List SknMsg → Nat → List SknMsg × List SknMsg × Nat
  | [], used => ([], [], used)
  | m :: r, used =>
      if used < cap then let x := drainQueue cap r (used + msgSize m); (m :: x.1, x.2.1, x.2.2)
      else ([], m :: r, used)

/-- The frame of one port: DELAY first, then the records in their order, 36 positions at full rate and 5 at low rate; the
event cells of earlier frames have gone. -/
def framePort (s : State) (p : Nat) (x : Port) : Port :=
  let low := s.on (F.SKN_PORT_STATUS_LOW_RATE p)
  let up := linkUp s p
  let all := recsBy (x.recs ++ (if up then [SknRec.elect s.skn.viewHead s.skn.viewDep] else []))
  let room := if low then 4 else 35
  let d := drainQueue (dataRegion s p) x.queue (x.used - dataRegion s p)
  { x with
    sentMark := some (markOf s p)
    sentRecs := SknRec.delay (x.t21.getD 0) :: all.take room
    recs := (all.drop room).filter (fun r => recRank r != 2)
    cells := x.cells.filter (fun c => decide (s.net / cellUnit s p ≤ c.n))
    sent := d.1
    slice := sliceBytes low (markOf s p) (SknRec.delay (x.t21.getD 0) :: all.take room)
    data := d.1.flatMap msgBytes
    queue := d.2.1
    used := d.2.2 }

/-- The mean of the θ of 16 frames is shown and steered out: a step only with TIME_SRC 0b10, no item accepted and more
than one tick, otherwise a slew; without disciplining the rate is corrected too (R324, R326). -/
def State.steer (s : State) : State :=
  let n := s.skn.thetas.length
  if n = 0 then s
  else
    let theta : Int := s.skn.thetas.foldl (fun (a : Int) (b : Int) => a + b) 0 / (2 * n)
    let s1 := { s.put F.SKN_OFFSET_THETA (unsigned 32 theta) with skn := { s.skn with thetas := [] } }
    if inHoldover s ∨ sknState s ≠ 3 then s1
    else if s.get F.MAC_CFG_TIME_SRC = 2 ∧ s.items.isEmpty ∧ tickU < theta.natAbs then
      { s1 with net := ((s1.net : Int) - theta).toNat % 2 ^ 64, mac := { s1.mac with slew := 0 } }
    else
      let full := !s.on (F.SKN_PORT_STATUS_LOW_RATE (upPort s))
      let est := signed 32 (s.get F.MAC_FREQ_EST_EST)
      let err : Int := -(theta + s.mac.slew) * (1024 * 1000000) / (slotU : Int)
      let s2 := if s.on F.SKN_CFG_PLL_DISC && full then s1
        else s1.put F.MAC_FREQ_EST_EST (unsigned 32 (est + err / (2 ^ s.get F.MAC_SYNC_ALPHA : Nat)))
      { s2 with mac := { s2.mac with slew := -theta } }.put F.MAC_SYNC_STATUS_SLEWING (if theta = 0 then 0 else 1)

/-- A frame boundary (R313): a frame starts on every port whose transmitter runs. -/
def State.frameBoundary (s : State) (xo : Int) : State :=
  let f := s.net / frameUnit
  if !s.en Blk.SKN || f == s.skn.lastFrame then s
  else
    let s1 := { s with skn := { s.skn with lastFrame := f } }
    let live := [0, 1, 2].filter (fun p => portOn s1 p && decide (1 ≤ linkOf s1 p) && decide (linkOf s1 p ≤ 4))
    let s2 := live.foldl (fun x p => x.setPort p (framePort s1 p)) s1
    let s3 := (s2.fire 42).put F.SKN_XO_PPB (unsigned 32 xo)
    ((if f % 16 = 0 then s3.steer else s3).steerRef).syncHoldover

/-- SKEIN_FRAME_BOUNDARY (R313); `xo` is XOSC's frequency against the skein in ppb, as SKN measures it (R326). -/
def execSkeinFrameBoundary (t : Nat) (xo : Int) (s : State) : Out := .next ((s.at t).frameBoundary xo)

/-- A time mark arrives (R314, R318, R320, R323). -/
def State.timeMark (s : State) (p : Nat) (m : Mark) (valid : Bool) (violations : Nat) : State :=
  let k := linkOf s p
  if !portOn s p || k == 0 || k == 5 || !(s.port p).locked then s
  else
    let s1 := s.count (F.SKN_PORT_ERR_COUNT p) violations
    if !valid then s1.setPort p (fun x => { x with marks := 0, misses := x.misses + 1 })
    else
      let d : Int := (s.net : Int) - (m.ticks * tickU : Nat)
      let s2 := s1.setPort p (fun x => { x with
        marks := x.marks + 1, misses := 0, lastMark := s.now, peer := some m, t21 := some d })
      if linkUp s2 p then (s2.follow).syncHoldover else s2

/-- TIME_MARK_RECEIVED (R323). -/
def execTimeMarkReceived (t p : Nat) (m : Mark) (valid : Bool) (violations : Nat) (s : State) : Out :=
  .next ((s.at t).timeMark p m valid violations)

/-- 16 consecutive valid marks after training bring a link up; a device without a link starts an election (R318). -/
def State.bringUp (s : State) (p : Nat) : State :=
  let x := s.port p
  match x.peer with
  | none => s
  | some m =>
    if !portOn s p || linkOf s p != 1 || decide (x.marks < 16) then s
    else
      let s1 := (((s.put (F.SKN_PORT_STATUS_LINK p) 4).put (F.SKN_PORT_PEER_ID p) m.sender).put (F.SKN_PORT_PEER_PORT p) m.sport).put
        (F.SKN_PORT_PEER_V p) 1
      (if sknState s1 = 1 then (s1.elect false).classify else s1).follow

/-- LINK_UP (R318). -/
def execLinkUp (t p : Nat) (s : State) : Out := .next ((s.at t).bringUp p)

/-- Two missing or invalid marks, or 40 bit times without transitions (`quiet`), take a link down (R318). -/
def State.linkDown (s : State) (p : Nat) (quiet : Bool) : State :=
  let x := s.port p
  if linkUp s p && (quiet || decide (2 ≤ x.misses) || decide (x.lastMark + 2 * frameUnit ≤ s.now)) then
    (s.setPort p (fun y => { y with testAt := s.now + msU 100 })).dropLink p 0
  else s

/-- LINK_DOWN (R318). -/
def execLinkDown (t p : Nat) (quiet : Bool) (s : State) : Out := .next ((s.at t).linkDown p quiet)

/-! ### Control records (R316) -/

/-- A DELAY record: the delay from the peer, and on the upstream port the offset of this frame (R323). -/
def State.delayRecord (s : State) (p : Nat) (r : Int) : State :=
  match (s.port p).t21 with
  | none => s
  | some d =>
    if !linkUp s p then s
    else
      let a := signed 32 (s.get (F.SKN_PORT_ASYM_ASYM p))
      let s1 := s.put (F.SKN_PORT_DELAY_D_F p) (unsigned 32 ((d + r + a) / 2))
      if sknState s = 3 ∧ upPort s = p ∧ s1.skn.thetas.length < 16 then
        { s1 with skn := { s1.skn with thetas := s1.skn.thetas ++ [d - r - a] } }
      else s1

/-- DELAY_RECORD (R323). -/
def execDelayRecord (t p : Nat) (d : Int) (s : State) : Out := .next ((s.at t).delayRecord p d)

/-- An ELECT record updates what this device knows of the peer's view (R319). -/
def State.electRecord (s : State) (p : Nat) (head : Cand) (dep : Option Cand) : State :=
  if !linkUp s p then s
  else (s.setPort p (fun x => { x with viewHead := some head, viewDep := dep })).follow

/-- ELECT_RECORD (R319). -/
def execElectRecord (t p : Nat) (head : Cand) (dep : Option Cand) (s : State) : Out := .next ((s.at t).electRecord p head dep)

/-- ENUM_RECORD (R321). -/
def execEnumRecord (t p : Nat) (e : Enum) (s : State) : Out :=
  let x := s.at t
  .next (if linkUp x p then x.enumIn p e else x)

/-- PRUNE_RECORD (R321). -/
def execPruneRecord (t p id port : Nat) (s : State) : Out :=
  let x := s.at t
  .next (if linkUp x p then x.prune id port else x)

/-- QUENCH_RECORD (R338). -/
def execQuenchRecord (t p head : Nat) (set : Bool) (seq : Nat) (s : State) : Out :=
  let x := s.at t
  .next (if linkUp x p then x.quenchIn p head set seq else x)

/-- Every 8,192 frames the device sends its ENUM record upstream (R321). -/
def State.enumRefresh (s : State) : State :=
  if s.en Blk.SKN && sknState s == 3 && upPort s != 3 && decide (s.skn.enumAt ≤ s.now) then s.sendEnum else s

/-- ENUM_REFRESH (R321). -/
def execEnumRefresh (t : Nat) (s : State) : Out := .next (s.at t).enumRefresh

/-- An entry not refreshed for 3 s is removed (R321). -/
def State.memberTimeout (s : State) (id : Nat) : State :=
  s.dropMembers (fun m => m.e.id == id && decide (m.seen + 3 * secondU ≤ s.now))

/-- MEMBER_TIMEOUT (R321). -/
def execMemberTimeout (t id : Nat) (s : State) : Out := .next ((s.at t).memberTimeout id)

/-! ### Elections (R319, R339) -/

/-- A head becomes incumbent once it has been head for 1,024 frames (R319). -/
def State.incumbency (s : State) : State :=
  if sknState s = 4 ∧ !s.skn.incumbent ∧ s.skn.headSince + 1024 * frameUnit ≤ s.now then
    { s with skn := { s.skn with incumbent := true } }.updateView
  else s

/-- INCUMBENCY (R319). -/
def execIncumbency (t : Nat) (s : State) : Out := .next (s.at t).incumbency

/-- A view unchanged for 1,024 frames settles the election (R319, Table 10-4). -/
def State.settleElection (s : State) : State :=
  if sknState s ≠ 2 ∨ s.now < s.skn.viewAt + 1024 * frameUnit then s
  else match s.skn.viewHead with
    | none =>
        let s1 := { s.put F.SKN_STATUS_STATE 6 with skn := { s.skn with fromOrphan := false } }
        ((s1.irq Blk.SKN 8).record 0x0D00 0x0D03).syncHoldover
    | some c =>
        if c.id = sknId s then s.becomeHead
        else (s.setHead c.id).attach (bestUp s ([0, 1, 2].filter (fun p => offersTo s p c.id))) false

/-- ELECTION_SETTLED (R339). -/
def execElectionSettled (t : Nat) (s : State) : Out := .next (s.at t).settleElection

/-- 16 frames in ORPHAN make the deputy head, with its own counter, or start an election (Table 10-4). -/
def State.orphanTimeout (s : State) : State :=
  if sknState s ≠ 5 ∨ s.now < s.skn.orphanSince + 16 * frameUnit then s
  else if s.on F.SKN_STATUS_DEPUTY then
    let ports := s.skn.ports.map (fun (p : Port) => { p with viewHead := none, viewDep := none })
    let s1 := { s with skn := { s.skn with lostHead := some (s.get F.SKN_STATUS_HEAD_ID), ports := ports } }
    (s1.becomeHead.updateView).raiseNotice 2 3
  else s.elect true

/-- ORPHAN_TIMEOUT (R339). -/
def execOrphanTimeout (t : Nat) (s : State) : Out := .next (s.at t).orphanTimeout

/-! ### Software (R322, R338) -/

/-- UNBLOCK releases every blocked port to training (R322). -/
def State.unblock (s : State) : State :=
  [0, 1, 2].foldl (fun x p => if linkOf x p = 5 then
    (x.put (F.SKN_PORT_STATUS_LINK p) 1).setPort p (fun y => { y with unlockedAt := s.now }) else x) s

/-- UNBLOCK (R322). -/
def execUnblock (t : Nat) (s : State) : Out := .next (s.at t).unblock

/-- QUENCH_RELEASE ends the skein quench locally (R338). -/
def execQuenchRelease (t : Nat) (s : State) : Out := .next ((s.at t).setSquench false)

end Sys2Proof.Machine
end

