-- ==== Sys2Proof/Machine/SkeinMsg.lean ====
section
/-! DEFINITION. Skein messages: their descriptors, the path test, departures, forwarding, delivery, acknowledgments, hold
and expiry; remote resets; merged uplink frames (R28, R329 to R337). -/

namespace Sys2Proof.Machine

/-! ### Routes (R329, R331) -/

/-- The port towards a device: the one its subtree is behind, or else the upstream. -/
def routeTo (s : State) (dest : Nat) : Option Nat :=
  match memberOf s dest with
  | some m => some m.port
  | none => if sknState s = 3 ∧ upPort s ≠ 3 then some (upPort s) else none

/-- The destination of an item: the present head for an item addressed to the head. -/
def destOf (s : State) (k : SkeinInfo) : Nat := if k.toHead then s.get F.SKN_STATUS_HEAD_ID else k.dest

/-- Is the path of a skein-bound item lost (R329)? -/
def pathLost (s : State) (k : SkeinInfo) : Bool :=
  let st := sknState s
  if k.bcast then !(st == 3 || st == 4)
  else if st == 3 then (memberOf s (destOf s k)).isNone && upPort s == 3
  else if st == 4 then (memberOf s (destOf s k)).isNone
  else true

/-! ### Messages on their way (R317, R331, R333) -/

/-- Precedence in a forward queue of device `own`: ACKs and PRIO 0 first, then by PRIO; at one PRIO the device's own
messages come last (R331). -/
def msgRank (own : Nat) (m : SknMsg) : Nat :=
  if m.kind = 1 then 0 else 2 * m.prio + (if m.origin = own then 1 else 0)

/-- Put a message behind those of its rank or before. -/
def insertMsg (own : Nat) (m : SknMsg) : List SknMsg → List SknMsg
  | [] => [m]
  | x :: r => if msgRank own x ≤ msgRank own m then x :: insertMsg own m r else m :: x :: r

/-- A message leaves by a port in the present frame. -/
def State.sendNow (s : State) (p : Nat) (m : SknMsg) : State :=
  s.setPort p (fun x => { x with sent := x.sent ++ [m], data := x.data ++ msgBytes m, used := x.used + msgSize m })

/-- Would a message overflow the port's 64 KiB forward queue? -/
def queueFull (s : State) (p : Nat) (m : SknMsg) : Bool :=
  let x := s.port p
  let waits := decide (dataRegion s p ≤ x.used) || !x.queue.isEmpty
  waits && decide (65536 < sumBy msgSize x.queue + msgSize m)

/-- Forward a message by a port: at once if the frame's data region has room and nothing waits, else by the queue. -/
def State.forward (s : State) (p : Nat) (m : SknMsg) : State :=
  let x := s.port p
  if x.used < dataRegion s p ∧ x.queue.isEmpty then s.sendNow p m
  else s.setPort p (fun y => { y with queue := insertMsg (sknId s) m y.queue })

/-- One of this device's own messages leaves in the present frame, unless messages that leave before it wait (R331). -/
def State.sendOwn (s : State) (p : Nat) (m : SknMsg) : State :=
  if (s.port p).queue.any (fun x => decide (msgRank (sknId s) x ≤ msgRank (sknId s) m)) then
    s.setPort p (fun y => { y with queue := insertMsg (sknId s) m y.queue })
  else s.sendNow p m

/-- The next message sequence number of this device. -/
def State.nextSeq (s : State) : Nat × State :=
  (s.skn.seq, { s with skn := { s.skn with seq := (s.skn.seq + 1) % 65536 } })

/-- Answer a message with an ACK (R333). -/
def State.sendAck (s : State) (m : SknMsg) (result : Nat) : State :=
  if m.bcast then s
  else match routeTo s m.origin with
    | none => s
    | some p =>
        let (n, s1) := s.nextSeq
        s1.forward p ⟨m.origin, false, 1, 0, sknId s, 0, n, s.net, leBytes 2 m.seq ++ [BitVec.ofNat 8 result, 0]⟩

/-! ### The descriptors (R330, R336) -/

/-- A skein item as it waits for admission. -/
def skeinWaiting (f : Fetched) (k : SkeinInfo) : Waiting := ⟨.host, f.ring, f.words, .skein k, none⟩

/-- Queue a skein item for admission: its message is copied into the hold memory, which must hold it (R330). -/
def State.hold (s : State) (f : Fetched) (k : SkeinInfo) : State :=
  if 1024 < (heldMessages s).length + 1 ∨ 524288 < heldBytes s + k.payload.length then s.refuse f.ring f.words 0x0D02
  else (s.await (skeinWaiting f k)).syncHold

/-- SKN_SEND (R330). -/
def State.sknSend (s : State) (f : Fetched) : State :=
  let ws := f.words
  let bcast := wbits ws 6 10 10 == 1
  let toHead := wbits ws 6 11 11 == 1
  if !s.en Blk.SKN then s.refuse f.ring ws 0x0DF0
  else if (!bcast && !toHead && wbits ws 6 9 0 == sknId s) || (toHead && sknState s == 4) || (bcast && toHead) then
    s.refuse f.ring ws 0x0DF6
  else
    let (n, s1) := s.nextSeq
    s1.hold f ⟨wbits ws 6 9 0, toHead, bcast, wbits ws 6 15 12, 0, f.buf, n, none, 0, none, none, 0, false, 0⟩

def execSknSend (t : Nat) (s : State) : Out := .next ((s.at t).onFetched 0x60 State.sknSend)

/-- SKN_REMOTE_RESET (R336). -/
def State.sknRemoteReset (s : State) (f : Fetched) : State :=
  let ws := f.words
  let slot := s.get F.SKN_CFG_RESET_SLOT
  if !s.en Blk.SKN then s.refuse f.ring ws 0x0DF0
  else if 2 ≤ wbits ws 6 11 10 then s.refuse f.ring ws 0x0DF6
  else if sknState s ≠ 4 ∨ wbits ws 6 9 0 = sknId s then s.refuse f.ring ws 0x0D06
  else match slotRefuses s slot 2 with
    | some c => s.cryRefused.refuse f.ring ws c
    | none =>
        if !slotMode s slot 6 then s.cryRefused.refuse f.ring ws 0x0B04
        else
          let (n, s1) := s.nextSeq
          s1.hold f ⟨wbits ws 6 9 0, false, false, 0, 2, leBytes 8 (wbits ws 6 11 10) ++ List.replicate 8 0, n, none, 0, none,
            none, 0, false, 0⟩

def execSknRemoteReset (t : Nat) (s : State) : Out := .next ((s.at t).onFetched 0x61 State.sknRemoteReset)

/-! ### Departures (R331, R333, R335) -/

/-- The first 8 bytes of a remote reset's CMAC, over message bytes 1 to 16 and payload bytes 0 to 7 (R336). -/
def resetTag (s : State) (m : SknMsg) (head : List Byte) : List Byte :=
  (cmac (slotKey s (s.get F.SKN_CFG_RESET_SLOT)) (msgHeader m ++ head)).take 8

/-- The message of an item that departs now; a remote reset carries the first 8 bytes of its CMAC (R336). -/
def departing (s : State) (i : Item) (k : SkeinInfo) : SknMsg :=
  let m : SknMsg := ⟨destOf s k, k.bcast, k.kind, i.prio, sknId s, k.channel, k.seq, s.net, k.payload⟩
  if k.kind = 2 then
    let head := k.payload.take 8
    { m with payload := head ++ (resetTag s m head) }
  else m

/-- An item departs: the bucket is charged, and a broadcast is done when it has left on every tree port. -/
def State.depart (s : State) (i : Item) (k : SkeinInfo) : State :=
  let f := s.net / frameUnit
  let m := departing s i k
  let again := i.started
  let level := bucketAt s f
  let s1 := { s with skn := { s.skn with bucket := level - msgSize m, bucketFrame := f } }
  let s2 := s1.count (F.SKN_CNT_COUNT (if again then 3 else 0))
  let s3 := if k.kind = 2 then (s2.useSlotRx (s.get F.SKN_CFG_RESET_SLOT) 2).cryCompleted else s2
  let ports := if k.bcast then treePorts s else (routeTo s m.dest).toList
  let s4 := ports.foldl (fun x p => x.sendOwn p m) s3
  let s5 := s4.setItem i.idx (fun j => Item.mapSkein (fun y => { y with
    sentAt := some s.net, port := (ports.head?).getD 0, resendAt := none
    resends := if again then y.resends + 1 else y.resends
    lastSlot := if again then some (asn s.net) else y.lastSlot }) { j with started := true, startTime := s.net })
  if k.bcast then s5.finish i.idx 2 (if k.held then 0x0D01 else 0) else s5

/-- Does the bucket hold a message of an item at the present frame (R331)? -/
def bucketHolds (s : State) (k : SkeinInfo) : Bool := decide (k.payload.length + 22 ≤ bucketAt s (s.net / frameUnit))

/-- An item's departure, first, held or repeated; the first lies in its committed skein frame (R94, R331, R333, R335). -/
def State.skeinDepart (s : State) (idx : Nat) : State :=
  match s.item idx with
  | none => s
  | some i => match i.kind with
    | .skein k =>
        if i.decided then s
        else if i.started then
          match k.resendAt with
          | none => s
          | some at_ =>
              if s.net < at_ || k.lastSlot == some (asn s.net) || pathLost s k || !bucketHolds s k then s else s.depart i k
        else if k.held then
          if pathLost s k || !bucketHolds s k then s else s.depart i k
        else if !isDue s i then s
        else if s.net / frameUnit ≠ i.due / frameUnit then s
        else match dueVoid s with
          | some code => s.voidDue i code
          | none =>
              if slotQuenched s (asn i.due) (asn i.due + 1) then s.moveToRepair i 5 0x0806
              else if pathLost s k then s.setItem idx (fun j => j.mapSkein (fun y => { y with held := true, lastFail := 0 }))
              else s.depart i k
    | _ => s

/-- SKEIN_DEPART (R331). -/
def execSkeinDepart (t idx : Nat) (s : State) : Out := .next ((s.at t).skeinDepart idx)

/-! ### Acknowledgments and expiry (R333, R334) -/

/-- A failed departure: the item is sent again at the next frame boundary. -/
def State.resendLater (s : State) (idx fail : Nat) : State :=
  s.setItem idx (fun j => j.mapSkein (fun y => { y with
    resendAt := some ((s.net / frameUnit + 1) * frameUnit), lastFail := fail }))

/-- An ACK ends the item or causes a resend. -/
def State.ackIn (s : State) (seq result : Nat) : State :=
  let hit := fun (i : Item) => !i.decided && i.started && (match i.kind with | .skein k => k.seq == seq && !k.bcast | _ => false)
  match s.items.find? hit with
  | none => s
  | some i => match i.kind with
    | .skein k =>
        if result = 0 then s.finish i.idx 2 (if 0 < k.resends || k.held then 0x0D01 else 0)
        else if result = 4 ∧ k.kind = 2 then s.finish i.idx 2 0
        else if result = 5 ∧ k.kind = 2 then s.finish i.idx 2 0x0D06
        else if result = 1 ∨ result = 3 then s.resendLater i.idx 1
        else if result = 2 then s.resendLater i.idx 0
        else s
    | _ => s

/-- SKEIN_ACK_RECEIVED (R334). -/
def execSkeinAckReceived (t seq result : Nat) (s : State) : Out := .next ((s.at t).ackIn seq result)

/-- No ACK within 64 frames, or 512 at the low rate: the origin sends again (R333). -/
def State.ackTimeout (s : State) (idx : Nat) : State :=
  match s.item idx with
  | none => s
  | some i => match i.kind with
    | .skein k => match k.sentAt with
      | none => s
      | some d =>
          let frames := if s.on (F.SKN_PORT_STATUS_LOW_RATE k.port) then 512 else 64
          if i.decided || k.resendAt.isSome || decide (s.net < d + frames * frameUnit) then s else s.resendLater idx 0
    | _ => s

/-- ACK_TIMEOUT (R333). -/
def execAckTimeout (t idx : Nat) (s : State) : Out := .next ((s.at t).ackTimeout idx)

/-- HOLD_MS after the committed time an undelivered item is voided (R334). -/
def State.holdExpiry (s : State) (idx : Nat) : State :=
  match s.item idx with
  | none => s
  | some i => match i.kind with
    | .skein k =>
        if i.decided || decide (s.net < i.committed + msU (s.get F.SKN_MSG_HOLD_MS)) then s
        else (s.count (F.SKN_CNT_COUNT 7)).finish idx 4 (if k.lastFail = 1 then 0x0D02 else 0x0D01)
    | _ => s

/-- HOLD_EXPIRY (R334). -/
def execHoldExpiry (t idx : Nat) (s : State) : Out := .next ((s.at t).holdExpiry idx)

/-! ### Arrivals (R331, R332, R333) -/

/-- Has this device delivered a message within its last 1,024 from that origin? -/
def wasDelivered (s : State) (m : SknMsg) : Bool :=
  ((s.skn.delivered.filter (fun x => x.1 == m.origin)).take 1024).contains (m.origin, m.seq)

/-- Note a delivery; an origin's older ones beyond 1,024 are forgotten. -/
def State.noteDelivered (s : State) (m : SknMsg) : State :=
  let mine := (s.skn.delivered.filter (fun x => x.1 == m.origin)).take 1023
  let rest := s.skn.delivered.filter (fun x => x.1 != m.origin)
  { s with skn := { s.skn with delivered := (m.origin, m.seq) :: mine ++ rest } }

/-- Write data into the next unreserved ring 9 buffer, with a record in completion ring `cr`; nothing if the next buffer
is too short, or if there is no buffer or completion entry that is not reserved (R332). -/
def State.toRing9 (s : State) (cr : Nat) (data : List Byte) (w4 w5 w6 w7 : Nat) : Option State :=
  match s.hre.buffers with
  | [] => none
  | b :: rest =>
      if !s.en Blk.HRE || decide (s.hre.buffers.length ≤ reservedBuffers s) || decide (b.len < data.length)
          || !ringUp s cr || decide (freeSpace s cr 9 < 1) then none
      else
        let c : Compl := ⟨cr, b.tag, 2, 0, 9, 0, s.net, word w4, word w5, word w6, word w7, b.irq, none, true⟩
        let s1 := s.dma b.addr data
        some { s1 with hre := { s1.hre with buffers := rest, outq := s1.hre.outq ++ [c] } }

/-- Deliver a message at this device: to the firmware for CHANNEL 0, else to ring 9 (R332). -/
def State.deliverMsg (s : State) (m : SknMsg) (fail : Bool) : State :=
  if wasDelivered s m then s.sendAck m 0
  else if m.channel = 0 then
    (((s.messageToFirmware m).noteDelivered m).count (F.SKN_CNT_COUNT 1)).sendAck m 0
  else if fail then (s.irq Blk.HRE (2 ^ 27)).sendAck m 1
  else match s.toRing9 (16 + s.get F.SKN_CFG_CRING) m.payload (0xFFFF + 13 * 65536)
      (m.origin % 1024 + m.channel % 16 * 1024 + m.payload.length % 4096 * 2 ^ 14) (m.time % 2 ^ 32) (m.time / 2 ^ 32) with
    | some s1 => ((s1.noteDelivered m).count (F.SKN_CNT_COUNT 1)).sendAck m 0
    | none => s.sendAck m 1

/-- Can the target check a CMAC under its own RESET_SLOT? -/
def resetKeyOk (s : State) : Bool :=
  (slotRefuses s (s.get F.SKN_CFG_RESET_SLOT) 2).isNone && slotMode s (s.get F.SKN_CFG_RESET_SLOT) 6

/-- Does the target accept a remote reset, whose CMAC verifies under RESET_SLOT? -/
def resetAccepted (s : State) (m : SknMsg) : Bool :=
  s.on F.SKN_CFG_RESET_EN && m.origin == s.get F.SKN_STATUS_HEAD_ID && (sknState s == 3) &&
  decide (m.time ≤ s.net + secondU) && decide (s.net ≤ m.time + secondU) && decide (s.skn.lastReset < m.time) &&
  slice m.payload 8 8 == resetTag s m (m.payload.take 8) && resetKeyOk s && decide ((m.payload.getD 0 0).toNat < 2)

/-- The target answers RESULT 4 and will reset at the first slot boundary at least 1 ms later, or RESULT 5. -/
def State.resetIn (s : State) (m : SknMsg) : State :=
  if !s.en Blk.SKN then s
  else if wasDelivered s m then s.sendAck m 4
  else if resetAccepted s m then
    let at_ := (s.net + msU 1 + slotU - 1) / slotU * slotU
    let s0 := (s.useSlot (s.get F.SKN_CFG_RESET_SLOT) 2).cryCompleted
    let s1 := { s0 with skn := { s0.skn with lastReset := m.time, resetPending := some (at_, (m.payload.getD 0 0).toNat) } }
    (s1.noteDelivered m).sendAck m 4
  else ((s.sendAck m 5).irq Blk.SKN 64).record 0x0D00 0x0D06

/-- Forward a message by a port, or drop it on overflow with an ACK of RESULT 3 (R331). -/
def State.passOn (s : State) (p : Nat) (m : SknMsg) : State :=
  if queueFull s p m then (s.count (F.SKN_CNT_COUNT 4)).sendAck m 3
  else (s.forward p m).count (F.SKN_CNT_COUNT 2)

/-- A message arrives on port `p`.  DESIGN CHOICE: one of a reserved KIND for this device is dropped
(notes/assumptions/64.md). -/
def State.messageIn (s : State) (p : Nat) (m : SknMsg) (crcOk fail : Bool) : State :=
  if !linkUp s p || linkOf s p == 4 then s
  else if !crcOk then s.count (F.SKN_CNT_COUNT 5)
  else if m.bcast then
    if m.origin = sknId s then s
    else
      let s1 := ((treePorts s).filter (fun q => q != p)).foldl (fun x q => x.passOn q m) s
      s1.deliverMsg m fail
  else if m.dest = sknId s then
    if m.kind = 1 then s.ackIn (leNat (m.payload.take 2)) ((m.payload.getD 2 0).toNat)
    else if m.kind = 2 then s.resetIn m
    else if m.kind = 0 then s.deliverMsg m fail
    else s
  else match routeTo s m.dest with
    | none => (s.count (F.SKN_CNT_COUNT 4)).sendAck m 2
    | some q => if q = p then (s.count (F.SKN_CNT_COUNT 4)).sendAck m 2 else s.passOn q m

/-- SKEIN_MESSAGE_RECEIVED (R332). -/
def execSkeinMessageReceived (t p : Nat) (m : SknMsg) (crcOk fail : Bool) (s : State) : Out :=
  .next ((s.at t).messageIn p m crcOk fail)

/-! ### Remote reset (R337) -/

/-- REMOTE_RESET_RECEIVED (R337). -/
def execRemoteResetReceived (t : Nat) (m : SknMsg) (s : State) : Out := .next ((s.at t).resetIn m)

/-- The reset is carried out at its slot boundary. -/
def State.resetExecute (s : State) : State :=
  match s.skn.resetPending with
  | none => s
  | some (at_, kind) =>
      if s.net < at_ then s
      else
        let s1 := { s with skn := { s.skn with resetPending := none } }
        if kind = 0 then s1.deviceReset 12 else s1.appReset 12

/-- REMOTE_RESET_EXECUTE (R337). -/
def execRemoteResetExecute (t : Nat) (s : State) : Out := .next (s.at t).resetExecute

/-! ### Admission and aggregation (R28, R88) -/

/-- Decide the item that waits first; the path of a skein-bound item is tested now (R329).  While Chanter's domain is held,
descriptors wait at the crossing to it (R17, R475, R478). -/
def State.admitNext (s : State) : State :=
  if chnHeld s then s
  else
  match s.chn.awaiting with
  | [] => s
  | w :: rest =>
      let s1 := { s with chn := { s.chn with awaiting := rest } }
      let lost := match w.kind with | .skein k => pathLost s k | _ => false
      (s1.bookWaiting w lost).syncHold

/-- ADMISSION (R89). -/
def execAdmission (t : Nat) (s : State) : Out := .next (s.at t).admitNext

/-- The receiving devices and their link quality that a merged copy carries: this device's own reception, if it holds one,
and those that other members reported (R28). -/
def copyList (s : State) (addr fcnt : Nat) (others : List (Nat × Nat)) : List (Nat × Nat) :=
  ((s.skn.uplinks.filter (fun u => u.addr == addr && u.fcnt == fcnt)).take 1).map (fun u => (sknId s, u.lq)) ++ others

/-- The first reception of a frame at this device or at another. -/
def firstReception (s : State) (addr fcnt other : Nat) : Nat :=
  (s.skn.uplinks.filter (fun u => u.addr == addr && u.fcnt == fcnt)).foldl (fun m u => Nat.min m u.at_) other

/-- At the head, one merged copy of an uplink frame goes to the host within one beacon period of its first reception, once
for each network address and frame counter, with a list of at most 16 receiving devices (R28).  `others` are the devices
that reported the frame, and `first` their first reception; the layout of the list and the words of the record are not
stated (notes/assumptions/3.md). -/
def State.mergedCopy (s : State) (first : Nat) (frame : List Byte) (others : List (Nat × Nat)) (fail : Bool) : State :=
  let addr := uplinkAddr (leNat (slice frame 2 3)) (leNat (slice frame 5 3))
  let fcnt := leNat (slice frame 8 4)
  let list := copyList s addr fcnt others
  let since := firstReception s addr fcnt first
  let period := 2 ^ s.get F.MAC_DRONE_PERIOD_LOG2 * slotU
  if sknState s ≠ 4 ∨ list.isEmpty ∨ s.now < since ∨ since + period < s.now
      ∨ s.skn.merged.any (fun x => x.1 == addr && x.2.1 == fcnt) then s
  else if fail then s.irq Blk.HRE (2 ^ 27)
  else
    let (a, s1) := s.fresh (2 ^ 32)
    let (b, s2) := s1.fresh (2 ^ 32)
    let (c, s3) := s2.fresh (2 ^ 32)
    let (d, s4) := s3.fresh (2 ^ 32)
    match s4.toRing9 (16 + s.get F.SKN_CFG_CRING) (Config.mergedCopy frame (list.take 16)) a b c d with
    | some x => { x with skn := { x.skn with merged := (addr, fcnt, s.now) :: x.skn.merged } }
    | none => s

/-- AGGREGATED_COPY_DELIVERY (R28). -/
def execAggregatedCopyDelivery (t first : Nat) (frame : List Byte) (others : List (Nat × Nat)) (fail : Bool) (s : State) : Out :=
  .next ((s.at t).mergedCopy first frame others fail)

/-! ### Quench (R60 to R62, R338) -/

/-- Set or clear the quench of HRE_QUENCH; a change at the head goes out over the skein. -/
def State.setQuench (s : State) (on : Bool) : State :=
  if s.on F.HRE_QUENCH_QUENCH = on then s
  else if on then
    let s1 := (s.put F.HRE_QUENCH_QUENCH 1).put F.HRE_QUENCH_SETTLED 0
    ((s1.rampDown 4 0x0408).settleQuench).sendQuench
  else
    ((s.put F.HRE_QUENCH_QUENCH 0).put F.HRE_QUENCH_SETTLED 0).sendQuench

/-- QUENCH_SET (R60). -/
def execQuenchSet (t : Nat) (s : State) : Out := .next ((s.at t).setQuench true)

/-- QUENCH_CLEAR (R62). -/
def execQuenchClear (t : Nat) (s : State) : Out := .next ((s.at t).setQuench false)

/-- The QUENCH control descriptor: word 6 [0] sets or clears, and it completes DONE (R60, Table 2-9). -/
def State.quenchItem (s : State) (f : Fetched) : State :=
  (s.setQuench (wbits f.words 6 0 0 == 1)).done f.ring f.words

def execQuench (t : Nat) (s : State) : Out := .next ((s.at t).onFetched 4 State.quenchItem)

end Sys2Proof.Machine
end

