-- ==== Sys2Proof/Machine/Flash.lean ====
section
/-! DEFINITION. The flash controller: contents, operations, suspension, spares, counters, and the ring 10 and direct
commands (R366 to R391). -/

namespace Sys2Proof.Machine

/-! ### Ring 10 (R370) -/

/-- May a program or erase at an address range run?  `own` for the security core, ESM and the controller (R369, R370),
the only ones that may write the field bank (R422). -/
def rangeRefusal (s : State) (a n : Nat) (own : Bool) : Option Nat :=
  let b := bankOf a
  if b = 4 then
    (if fieldBase + 0x4000 < a + n ∨ blockStart a ≠ blockStart (a + n - 1) then some 0x0EF6
    else if own then none else some 0x0E01)
  else if 0x4000000 < a + n ∨ 0xF00000 ≤ a % 0x1000000 ∨ blockStart a ≠ blockStart (a + n - 1) then some 0x0EF6
  else if a < 0x200000 ∨ (a < 0x400000 ∧ !own) then some 0x0E01
  else if bits (s.get F.FLC_LOCK_EXEC_LOCK) b b = 1 then some 0x0E01
  else none

/-- A failed host access of an untimed descriptor's own data (R566, Table 3-7). -/
def State.abortDma (s : State) (f : Fetched) : State := (s.irq Blk.HRE (2 ^ 27)).complete f.ring f.words 5 0x0409

/-- Queue a flash item for admission. -/
def State.awaitFlash (s : State) (f : Fetched) (x : FlashInfo) : State := s.await ⟨.host, f.ring, f.words, .flash x, none⟩

/-- FL_PROGRAM (R370, R374). -/
def State.flProgram (s : State) (f : Fetched) : State :=
  let a := wbits f.words 6 25 0
  match rangeRefusal s a f.buf.length false with
  | some c => s.refuse f.ring f.words c
  | none =>
      if !s.on F.FLC_STATUS_READY then s.refuse f.ring f.words 0x0EF0
      else s.awaitFlash f (flashInfo s 1 a f.buf 0)

def execFlProgram (t : Nat) (s : State) : Out := .next ((s.at t).onFetched 0x31 State.flProgram)

/-- FL_ERASE (R370). -/
def State.flErase (s : State) (f : Fetched) : State :=
  let a := wbits f.words 6 25 0
  if a % 32768 ≠ 0 then s.refuse f.ring f.words 0x0EF6
  else match rangeRefusal s a 32768 false with
    | some c => s.refuse f.ring f.words c
    | none =>
        if !s.on F.FLC_STATUS_READY then s.refuse f.ring f.words 0x0EF0
        else s.awaitFlash f (flashInfo s 2 a [] 0)

def execFlErase (t : Nat) (s : State) : Out := .next ((s.at t).onFetched 0x32 State.flErase)

/-- FL_COUNTER (R387, R388). -/
def State.flCounter (s : State) (f : Fetched) : State :=
  let n := wbits f.words 6 4 0
  if n < 8 then s.refuse f.ring f.words 0x0EF6
  else if !s.on F.FLC_STATUS_READY then s.refuse f.ring f.words 0x0EF0
  else if s.get (F.FLC_CTR_VALUE n) = 0xFFFFFFFF then s.refuse f.ring f.words 0x0E07
  else s.awaitFlash f (flashInfo s 3 0 [] n)

def execFlCounter (t : Nat) (s : State) : Out := .next ((s.at t).onFetched 0x33 State.flCounter)

/-! ### Accesses to a busy bank (R375 to R377) -/

/-- An access reaches a block whose erase is suspended (R377). -/
def State.suspendedRead (s : State) (a : Nat) : State :=
  (((s.count (F.FLC_CNT_COUNT 2)).irq Blk.FLC 32).put F.FLC_FAULT_ADDR_ADDR (a % 0x4000000)).put F.FLC_FAULT_ADDR_FIELD
    (if fieldBase ≤ a then 1 else 0)

/-- Does an address lie in the block of a suspended erase? -/
def inSuspendedBlock (s : State) (a : Nat) : Bool :=
  match opOf s (bankOf a) with
  | some o => o.suspended && o.op == 2 && blockStart o.addr == blockStart a
  | none => false

/-- A read counts its corrected and uncorrectable words. -/
def State.countEcc (s : State) (corrected : Nat) (bad : List Nat) : State :=
  let s1 := s.count (F.FLC_CNT_COUNT 0) corrected
  match bad.getLast? with
  | none => s1
  | some w => (((s1.count (F.FLC_CNT_COUNT 1) bad.length).irq Blk.FLC 16).put F.FLC_FAULT_ADDR_ADDR (w % 0x4000000)).put
      F.FLC_FAULT_ADDR_FIELD (if fieldBase ≤ w then 1 else 0)

/-- Does an access to a bank have to wait: for an operation that is not suspended, or for a nested program (R376, R378)? -/
def bankBlocked (s : State) (b : Nat) : Bool :=
  (match opOf s b with | some o => !o.suspended | none => false) ||
    (match s.flc.nested with | some n => bankOf n.addr == b | none => false)

/-- Where an application core's address of the flash window lies: while bobbin B runs, the two bobbin ranges are
exchanged (R393). -/
def coreFlash (s : State) (a : Nat) : Nat :=
  if s.get F.UPD_STATUS_RUN_BOBBIN = 0 then a
  else if 0x00400000 ≤ a ∧ a < 0x00C00000 then a + 0x00C00000
  else if 0x01000000 ≤ a ∧ a < 0x01800000 then a - 0x00C00000
  else a

/-- A core's instruction cache: 256 sets of 4 ways of 32 bytes (R508). -/
def cachedLine (s : State) (c line : Nat) : Option (List Byte) :=
  ((s.cpx.icache.getD c []).find? (fun x => x.1 == line)).map (fun x => x.2)
def State.setCache (s : State) (c : Nat) (l : List (Nat × List Byte)) : State :=
  { s with cpx := { s.cpx with icache := modAt (fun _ => l) s.cpx.icache c } }

/-- A line enters its set; a full set gives up a line of which the spec does not say which (notes/assumptions/89.md). -/
def State.fillLine (s : State) (c line : Nat) (bs : List Byte) : State :=
  let all := s.cpx.icache.getD c []
  let same := all.filter (fun x => x.1 % 256 == line % 256)
  if same.length < 4 then s.setCache c ((line, bs) :: all)
  else
    let r := s.fresh same.length
    let gone := (same.getD r.1 (0, [])).1
    r.2.setCache c ((line, bs) :: all.filter (fun x => x.1 != gone))

/-- A core's read of flash ends: the top 1 MiB of a bank and a block whose erase is suspended read all ones with an access
fault, and an uncorrectable word faults (R366, R368, R377); a fetch that faults fills no line (R508). -/
def State.coreReads (s : State) (c a : Nat) (fetch : Bool) : State :=
  let p := coreFlash s a
  let w := p / 32 * 32
  if 0xF00000 ≤ p % 0x1000000 then (s.accessFault c).deliverLoad c 0xFFFFFFFF
  else if inSuspendedBlock s p then ((s.suspendedRead p).accessFault c).deliverLoad c 0xFFFFFFFF
  else if s.flc.ue.contains w then (s.countEcc 0 [w]).accessFault c
  else
    let s1 := s.deliverLoad c (word (leNat (flashBytes s p 4)))
    if fetch then s1.fillLine c (a / 32) (flashBytes s w 32) else s1

/-- The stalled reads of a bank that need wait no longer end, oldest first (R376). -/
def State.serveStalled (s : State) (bank : Nat) : State :=
  let mine := fun (x : Nat × FlashReader) => bankOf (coreFlash s x.1) == bank
  if bankBlocked s bank then s
  else (s.cpx.stalled.filter mine).foldl (fun x r => match r.2 with
      | .other => x
      | .load c => x.coreReads c r.1 false
      | .fetch c _ => x.coreReads c r.1 true)
    { s with cpx := { s.cpx with stalled := s.cpx.stalled.filter (fun x => !mine x) } }

/-- Suspend the operation of a bank; the accesses that wait for it are served (R376). -/
def State.suspendOp (s : State) (bank : Nat) (o : FlashOp) : State :=
  let x := { o with ranU := o.ranU + (runClock s - o.since), suspended := true, waiting := false, lastAccess := s.now }
  (((s.setOp bank (some x)).count (F.FLC_CNT_COUNT 3)).serveStalled bank).startWaiting

/-- A read or fetch of a bank: a running operation is suspended where that is allowed, and otherwise the access stalls. -/
def State.flashAccess (s : State) (a : Nat) : State :=
  let b := bankOf a
  match opOf s b with
  | none => s
  | some o =>
      let nested := match s.flc.nested with | some n => bankOf n.addr == b | none => false
      if nested then s.count (F.FLC_CNT_COUNT 4)
      else if o.suspended then s.setOp b (some { o with lastAccess := s.now })
      else if suspendable s b o then s.suspendOp b o
      else (s.setOp b (some { o with waiting := true })).count (F.FLC_CNT_COUNT 4)

/-- A core's read of flash begins: it ends at once, or stalls until its bank lets it (R375, R376). -/
def State.coreAccess (s : State) (c a : Nat) (r : FlashReader) (fetch : Bool) : State :=
  let p := coreFlash s a
  if 0xF00000 ≤ p % 0x1000000 then s.coreReads c a fetch
  else
    let s1 := s.flashAccess p
    if bankBlocked s1 (bankOf p) then { s1 with cpx := { s1.cpx with stalled := s1.cpx.stalled ++ [(a, r)] } }
    else s1.coreReads c a fetch

/-- A read or fetch of flash.  A fetch is served from its core's instruction cache where that holds the line; FENCE.I has
emptied it (R508). -/
def State.flashSuspend (s : State) (a : Nat) (r : FlashReader) : State :=
  match r with
  | .other =>
      let s1 := s.flashAccess a
      if inSuspendedBlock s1 a then s1.suspendedRead a else s1
  | .load c => s.coreAccess c a r false
  | .fetch c fence =>
      let s0 := if fence then s.setCache c [] else s
      match cachedLine s0 c (a / 32) with
      | some bs => s0.deliverLoad c (word (leNat (slice bs (a % 32) 4)))
      | none => s0.coreAccess c a r true

/-- FLASH_SUSPEND (R375). -/
def execFlashSuspend (t a : Nat) (r : FlashReader) (s : State) : Out := .next ((s.at t).flashSuspend a r)

/-- The guard time ends while an access waits (R375). -/
def State.guardMet (s : State) (bank : Nat) : State :=
  match opOf s bank with
  | some o => if o.waiting && !o.suspended && suspendable s bank o then s.suspendOp bank o else s
  | none => s

/-- GUARD_TIME_MET (R375). -/
def execGuardTimeMet (t bank : Nat) (s : State) : Out := .next ((s.at t).guardMet bank)

/-- After IDLE_US without an access, or at the resume deadline, an operation resumes (R376). -/
def State.flashResume (s : State) (bank : Nat) : State :=
  match opOf s bank with
  | none => s
  | some o =>
      let idle := decide (o.lastAccess + usU (s.get F.FLC_CFG_IDLE_US) ≤ s.now)
      let late := match resumeDeadline s bank o with | some d => decide (d ≤ s.net) | none => false
      let nested := match s.flc.nested with | some n => bankOf n.addr == bank | none => false
      if o.suspended && (idle || late) && !nested && !s.on F.BLW_STATUS_ECONOMY then
        (s.setOp bank (some { o with suspended := false, since := s.now })).syncFlc
      else s

/-- FLASH_RESUME (R376). -/
def execFlashResume (t bank : Nat) (s : State) : Out := .next ((s.at t).flashResume bank)

/-! ### FL_READ (R368, R370, R377) -/

/-- The uncorrectable words of a range: those that the store marks, and those that the read finds. -/
def badWords (s : State) (a n : Nat) (found : List Nat) : List Nat :=
  ((wordsOf a n).map (fun w => w * 32)).filter (fun w => s.flc.ue.contains w || found.contains w)

/-- FL_READ on a descriptor whose turn it is: `s0` still holds it; a bank whose operation cannot be suspended makes the
read wait. -/
def State.flRead (s0 s : State) (f : Fetched) (corrected : Nat) (found : List Nat) (fail : Bool) : State :=
  let field := wbits f.words 6 26 26 == 1
  let n := wbits f.words 1 15 0
  let a := wbits f.words 6 25 0 + (if field then fieldBase else 0)
  if !s.en Blk.FLC then s.refuse f.ring f.words 0x0EF0
  else if (field && decide (fieldBase + 0x4000 < a + n)) ||
      (!field && (decide (0x4000000 < a + n) || decide (0xF00000 < a % 0x1000000 + n))) then s.refuse f.ring f.words 0x0EF6
  else
    let s1 := s.flashAccess a
    if bankBlocked s1 (bankOf a) then s0.flashAccess a
    else
      let bad := badWords s1 a n found
      let hidden := ((List.range n).map (fun k => a + k)).filter (inSuspendedBlock s1)
      let data := ((List.range n).map (fun k => a + k)).map (fun x => if inSuspendedBlock s1 x then 0xFF else flashByte s1 x)
      let s2 := s1.countEcc corrected bad
      let s3 := match hidden.head? with | some x => s2.suspendedRead x | none => s2
      if fail then s3.abortDma f
      else
        let s4 := s3.bufWrite f.ring (wordAt f.words 4 + wordAt f.words 5 * 2 ^ 32) data
        let rel := fun (x : Nat) => if field then x - fieldBase else x
        match bad.head? with
        | some w => s4.done f.ring f.words 0x0E02 (w4 := corrected) (w5 := rel (Nat.max w a))
        | none => match hidden.head? with
          | some x => s4.done f.ring f.words 0x0E03 (w4 := corrected) (w5 := rel x)
          | none => s4.done f.ring f.words 0 (w4 := corrected)

/-- FL_READ (R370). -/
def execFlRead (t corrected : Nat) (bad : List Nat) (fail : Bool) (s : State) : Out :=
  let x := s.at t
  .next (x.onFetched 0x30 (fun y f => x.flRead y f corrected bad fail))

/-! ### Issue, end and stop (R372, R374, R380 to R388) -/

/-- An item's operation is issued within 10 µs of its committed time, or the item is void. -/
def State.flashIssue (s : State) (idx : Nat) : State :=
  match s.item idx with
  | none => s
  | some i => match i.kind with
    | .flash x =>
        if i.decided || i.started || decide (s.net < i.due) then s
        else match dueVoid s with
          | some code => s.voidDue i code
          | none =>
              if slotQuenched s (asn i.due) (asn i.due + 1) then s.moveToRepair i 5 0x0806
              else if (opOf s x.bank).isSome then s.finish idx 4 0x0102
              else
                let s1 := s.setItem idx (fun j => { j with started := true, startTime := s.net })
                (s1.beginOp (newOp (some idx) false x.op x.addr x.data x.counter x.runU)).syncFlc
    | _ => s

/-- Remap a block to a free spare, whose choice the spec leaves open; none when the bank has no free spare (R384). -/
def State.remap (s : State) (a : Nat) (keepOld : Bool) : Option (Nat × State) :=
  let b := bankOf a
  let pool := s.flc.spares.getD b []
  if pool.isEmpty then none
  else
    let (k, s1) := s.fresh pool.length
    let p := pool.getD k 0
    let left := (pool.filter (fun x => x != p)) ++ (if keepOld then [physicalBlock s a] else [])
    let s2 := { s1 with flc := { s1.flc with spares := modAt (fun _ => left) s1.flc.spares b } }.mapWrite (a / 32768) p false
    let v := s2.get F.FLC_SPARE_FREE
    let s3 := s2.put F.FLC_SPARE_FREE (v - bits v (8 * b + 7) (8 * b) * 2 ^ (8 * b) + left.length * 2 ^ (8 * b))
    some (p, if left.length < 4 then s3.irq Blk.FLC 8 else s3)

/-- What ends an operation: status, reason and words 4 and 5. -/
structure OpEnd where
  status : Nat
  reason : Nat
  w4 : Nat
  w5 : Nat
  deriving DecidableEq, Repr

/-- A program ends (R374, R384). -/
def State.endProgram (s : State) (o : FlashOp) (badWord : Option Nat) : State × OpEnd :=
  let pages := pagesOf o.addr o.data.length
  match (wordsOf o.addr o.data.length).find? (wordConflict s o.addr o.data) with
  | some w => (s, ⟨5, 0x0E04, pages, w * 32⟩)
  | none =>
      let s1 := s.program o.addr o.data
      match badWord with
      | none => (s1, ⟨2, 0, pages, 0⟩)
      | some w =>
          let s2 := (s1.scramble (w / 32 * 32) 32).count (F.FLC_CNT_COUNT 5)
          (if bankOf o.addr = 4 then s2 else s2.mapWrite (o.addr / 32768) (physicalBlock s2 o.addr) true, ⟨5, 0x0E04, pages, w⟩)

/-- An erase ends (R384). -/
def State.endErase (s : State) (o : FlashOp) (failed : Bool) : State × OpEnd :=
  let s1 := s.eraseRange (blockStart o.addr) (blockSize o.addr)
  if !(failed || isWeak s (o.addr / 32768)) || bankOf o.addr = 4 then (s1, ⟨2, 0, physicalBlock s o.addr, 0⟩)
  else
    let s2 := s1.count (F.FLC_CNT_COUNT 6)
    match s2.remap o.addr false with
    | some (p, s3) => (s3.irq Blk.FLC 4, ⟨2, 0x0E05, p, 0⟩)
    | none => (s2.scramble (blockStart o.addr) (blockSize o.addr), ⟨5, 0x0E05, 0, 0⟩)

/-- A counter step ends: `fail` bit 0 the main record, bit 1 the backup record (R388).  A step that an earlier one has
brought past 0xFFFF_FFFF fails (R387). -/
def State.endCounter (s : State) (n fail : Nat) : State × OpEnd :=
  let v := counterValue s n + 1
  if 0xFFFFFFFF < v then (s, ⟨5, 0x0E07, counterValue s n, 0⟩)
  else if bits fail 1 0 = 3 then (s.irq Blk.FLC 128, ⟨5, 0x0E07, counterValue s n, 0⟩)
  else
    let s0 := if bits fail 0 0 = 0 then s.counterWrite 0 n v else s
    let s1 := if bits fail 1 1 = 0 then s0.counterWrite 1 n v else s0
    let s2 := s1.put (F.FLC_CTR_VALUE n) v
    (if bits fail 1 0 = 0 then s2 else s2.irq Blk.FLC 128, ⟨2, 0, v, 0⟩)

/-- A refresh ends: the block has moved to a spare and its old block returns to the pool (R384, R385). -/
def State.endRefresh (s : State) (o : FlashOp) : State × OpEnd :=
  match s.remap o.addr true with
  | some (p, s1) => (((s1.oneSlot o.addr).count (F.FLC_CNT_COUNT 7)).irq Blk.FLC 64, ⟨2, 0, p, 0⟩)
  | none => (s, ⟨5, 0x0E05, 0, 0⟩)

/-- The end of one operation, by its kind. -/
def State.endOp (s : State) (o : FlashOp) (badWord : Option Nat) (fail : Nat) : State × OpEnd :=
  match o.op with
  | 1 => s.endProgram o badWord
  | 2 => s.endErase o badWord.isSome
  | 3 => s.endCounter o.counter fail
  | _ => s.endRefresh o

/-- Report an ended operation: a final completion for an item, DSTAT for a direct operation. -/
def State.reportOp (s : State) (o : FlashOp) (e : OpEnd) : State :=
  let s1 := match o.item with
    | some idx => (s.setItem idx (fun i => i.mapFlash (fun x => { x with w4 := e.w4, w5 := e.w5 }))).finish idx e.status e.reason
    | none => if isStoreOp o then s.storeStep (e.status == 2) else s
  if o.direct then (s1.put F.FLC_DSTAT_REASON e.reason).irq Blk.FLC 1 else s1

/-- In economy only a pulse that was running can still end an operation: a program pulse within 10 µs, an erase
sub-pulse within 2 ms (R359). -/
def pulseEnds (s : State) (o : FlashOp) : Bool :=
  !s.on F.BLW_STATUS_ECONOMY || decide (s.now ≤ s.blw.economyAt + usU (if o.op = 2 then 2000 else 10))

/-- A program, erase, counter step or refresh of a bank ends; a nested program ends before the erase it is in. -/
def State.flashOpEnd (s : State) (bank : Nat) (badWord : Option Nat) (fail : Nat) : State :=
  let nested := match s.flc.nested with | some n => if bankOf n.addr = bank then some n else none | none => none
  match nested with
  | some n =>
      if !pulseEnds s n then s
      else
      let r := ({ s with flc := { s.flc with nested := none } }).endOp n badWord fail
      (((r.1.journalDone n).reportOp n r.2).serveStalled bank).startWaiting
  | none => match opOf s bank with
    | none => s
    | some o =>
        if o.suspended || !pulseEnds s o then s
        else
          let r := (s.setOp bank none).endOp o badWord fail
          (((r.1.journalDone o).reportOp o r.2).serveStalled bank).startWaiting

/-- A direct or housekeeping operation that still runs when the bank's next occupancy starts is stopped (R380). -/
def State.occupancyStop (s : State) (bank : Nat) : State :=
  match opOf s bank with
  | none => s
  | some o =>
      let due := match nextOccupancy s bank with | some d => decide (d ≤ s.net) | none => false
      if o.item.isSome || !due then s
      else
        let s1 := s.setOp bank none
        let s2 := match o.op with
          | 1 => s1.scramble o.addr o.data.length
          | 2 => s1.scramble (blockStart o.addr) (blockSize o.addr)
          | _ => { s1 with flc := { s1.flc with refreshDue := o.addr / 32768 :: s1.flc.refreshDue } }
        let s3 := s2.journalDone o
        let s4 := if o.direct then (s3.put F.FLC_DSTAT_REASON 0x0E06).irq Blk.FLC 1 else if isStoreOp o then s3.storeStep false else s3
        (s4.serveStalled bank).startWaiting

/-- FLASH_OCCUPANCY_STOP (R380). -/
def execFlashOccupancyStop (t bank : Nat) (s : State) : Out := .next ((s.at t).occupancyStop bank)

/-! ### Direct operations (R373, R378) -/

/-- Is a requester the security core? -/
def isSecurity : Requester → Bool | .security => true | _ => false

/-- GO: the operation that FLC_DCMD, FLC_DADDR and FLC_DSRC describe is checked and started, or waits. -/
def State.directGo (s : State) (req : Requester) (v : Word) (op : Nat) : State :=
  if s.on F.FLC_DSTAT_BUSY then s.put F.FLC_DSTAT_REASON 0x0EF4
  else
    let w := v.toNat
    let s1 := s.wr Reg.FLC_DCMD (word (bits w 2 0 + bits w 28 16 * 65536))
    let field := bits w 2 2 == 1
    let a := s1.get F.FLC_DADDR_ADDR + (if field then fieldBase else 0)
    let len := bits w 28 16
    let src := (s1.rd Reg.FLC_DSRC).toNat
    let n := if op = 1 then len else blockSize a
    let bad := (op != 1 && op != 2) || (op == 1 && (decide (len < 1) || decide (4096 < len) || src % 4 != 0)) || (op == 2 && a % blockSize a != 0)
    let nestedBlock := match opOf s1 (bankOf a) with
      | some e => e.op == 2 && e.suspended && op == 1 && s1.on F.FLC_CFG_NEST_EN && blockStart e.addr == blockStart a
      | none => false
    let code := if bad then some 0x0EF6 else match rangeRefusal s1 a n (isSecurity req) with
      | some c => some c
      | none => if !s1.on F.FLC_STATUS_READY then some 0x0EF0 else if nestedBlock then some 0x0EF7 else none
    match code with
    | some c => s1.put F.FLC_DSTAT_REASON c
    | none =>
        let data := if op = 1 then s1.sramRead src len else []
        let run := if op = 1 then programRunU a len else eraseRunU a
        ({ s1 with flc := { s1.flc with waiting := some (newOp none true op a data 0 run) } }).startWaiting

/-- DIRECT_PROGRAM (R373). -/
def execDirectProgram (t : Nat) (req : Requester) (v : Word) (s : State) : Out := .next ((s.at t).directGo req v 1)

/-- DIRECT_ERASE (R373). -/
def execDirectErase (t : Nat) (req : Requester) (v : Word) (s : State) : Out := .next ((s.at t).directGo req v 2)

/-! ### Scrubbing, locks and readiness (R379, R382, R385) -/

/-- The scrubber reads a word with `errors` bit errors (3 for uncorrectable): THRESH + 1 trigger a refresh of its block, unless
one of the block's words is uncorrectable. -/
def State.scrub (s : State) (a errors : Nat) : State :=
  if !s.en Blk.FLC || !s.on F.FLC_SCRUB_SCRUB_EN || errors = 0 then s
  else
    let w := a / 32 * 32
    if 3 ≤ errors ∨ s.flc.ue.contains w then
      let ue := if s.flc.ue.contains w then s.flc.ue else w :: s.flc.ue
      let s1 := { s with flc := { s.flc with ue := ue, refreshDue := s.flc.refreshDue.filter (fun b => b != a / 32768) } }
      (s1.countEcc 0 [w]).record 0x0E00 0x0E02 (w4 := w % 0x4000000)
    else
      let s1 := s.countEcc 1 []
      if errors < s.get F.FLC_SCRUB_THRESH + 1 ∨ bankOf a = 4 ∨ s.flc.refreshDue.contains (a / 32768) ∨
          s.flc.ue.any (fun x => x / 32768 == a / 32768) then s1
      else ({ s1 with flc := { s1.flc with refreshDue := s1.flc.refreshDue ++ [a / 32768] } }).startWaiting

/-- SCRUB_REFRESH (R385). -/
def execScrubRefresh (t a errors : Nat) (s : State) : Out := .next ((s.at t).scrub a errors)

/-- A write of EXEC_LOCK (R379). -/
def execExecLockWrite (t : Nat) (v : Word) (s : State) : Out :=
  .next ((s.at t).put F.FLC_LOCK_EXEC_LOCK v.toNat).startWaiting

/-- An operation whose journal record is still open is dealt with at the enable, and its record is closed (Table 12-6). -/
def State.repairInterrupted (s : State) (r : Nat × List Byte) : State :=
  let head := field r.2 0 4
  let a := head % 2 ^ 26
  let kind := head / 2 ^ 26 % 4
  let len := field r.2 4 6
  let s1 := (if kind = 0 then s.scramble a len else if kind = 1 then s.eraseRange (blockStart a) (blockSize a) else s).closeRecord r.1
  if 2 ≤ kind then s1 else (s1.irq Blk.FLC 2).record 0x0E00 0x0E06 (w4 := a) (w5 := len + kind * 65536)

/-- The controller has rebuilt its state: the map and the counters are read and repaired, interrupted operations reported,
and READY is set (R382). -/
def State.flcReady (s : State) : State :=
  if !s.en Blk.FLC || s.on F.FLC_STATUS_READY then s
  else
    let s1 := s.repairMap.repairCounters
    (((openRecords s1).foldl State.repairInterrupted s1).put F.FLC_STATUS_READY 1).startWaiting

/-- FLC_READY (R382). -/
def execFlcReady (t : Nat) (s : State) : Out := .next (s.at t).flcReady

end Sys2Proof.Machine
end

