-- ==== Sys2Proof/Machine/Bellows.lean ====
section
/-! DEFINITION. Bellows: the source model, the stored energy, budget periods, the meter and what it learns, and
economy while the supply is low (R345 to R364, R492, R493). -/

namespace Sys2Proof.Machine

/-! ### The stored energy and the source model (R352 to R354) -/

/-- Set S, in microjoules; a fall below the last reserve sets RESERVE (Table 11-7). -/
def State.setStore (s : State) (uj : Nat) : State :=
  let floor := s.blw.model.floors.getD 0 0 * 1000
  let s1 := ({ s with blw := { s.blw with store := uj } }).put F.BLW_STORE_MJ (uj / 1000)
  if s.on F.BLW_CFG_MODE && decide (floor ≤ s.blw.store) && decide (uj < floor) then s1.irq Blk.BLW 8 else s1

/-- STORE_WRITE: the estimate is replaced at once (R353). -/
def execStoreWrite (t : Nat) (v : Word) (s : State) : Out := .next ((s.at t).setStore (v.toNat * 1000))

/-- The shadow copy in the model registers. -/
def shadowModel (s : State) : Model :=
  ⟨s.get F.BLW_CAP_CAP_MW, s.get F.BLW_CAP_CEIL_MW, s.get F.BLW_SRC_AUTONOMY_H, signed 11 (s.get F.BLW_SRC_DAY_OFS),
    s.get F.BLW_CAPACITY_MJ, (List.range 4).map (fun c => s.get (F.BLW_FLOOR_MJ c)),
    (List.range 24).map (fun h => s.get (F.BLW_HARVEST_J h))⟩

/-- The register that breaks the floor rules, the first in their order (R364). -/
def floorConflict (s : State) (m : Model) : Option Nat :=
  let f := fun c => m.floors.getD c 0
  if f 1 < f 0 then some (Reg.BLW_FLOOR 1)
  else if f 2 < f 1 then some (Reg.BLW_FLOOR 2)
  else if f 3 < f 2 then some (Reg.BLW_FLOOR 3)
  else if s.on F.BLW_CFG_MODE && decide (m.capacity < f 3) then some (Reg.BLW_FLOOR 3)
  else none

/-- BLK_CHK of block `b` reports a refusing rule and the offending register (R65, R66). -/
def State.checkRefused (s : State) (b code field : Nat) : State :=
  ((s.put (F.CHK_REASON b) code).put (F.CHK_STATUS b) 3).wr (Reg.BLK_CHK_FIELD b) (word field)

/-! ### Local hours and budgets (R352, R355) -/

/-- Local time at a network time, in timestamp units: UTC offset by DAY_OFS (R112, R352). -/
def localTime (s : State) (net : Nat) : Int :=
  (net : Int) - signed 8 (s.get F.MAC_BCN_LEAP) * (secondU : Nat) + s.blw.model.dayOfs * (60 * secondU : Nat)
/-- One hour. -/
def hourU : Nat := 3600 * secondU
/-- The local hour, counted from the epoch, at a network time. -/
def localHour (s : State) (net : Nat) : Nat := (localTime s net / (hourU : Int)).toNat

/-- The harvest forecast, in microjoules, of the `n` units from network time `a` (R355). -/
def forecast (s : State) (a n : Nat) : Nat :=
  let lo := (localTime s a).toNat
  let h0 := lo / hourU
  sumBy (fun k =>
    let b := (h0 + k) * hourU
    let overlap := Nat.min (lo + n) (b + hourU) - Nat.max lo b
    s.blw.model.harvest.getD ((h0 + k) % 24) 0 * 1000000 * overlap) (List.range (n / hourU + 2)) / hourU

/-- The budget of the period that starts at network time `a` with S at `store`; an AUTONOMY_H of 0 leaves its share of S
open (R355). -/
def budgetAt (s : State) (a store : Nat) : Nat × State :=
  let pm := s.get F.BLW_CFG_PERIOD_MIN
  if s.on F.BLW_CFG_MODE then
    let above := store - s.blw.model.floors.getD 0 0 * 1000
    if s.blw.model.autonomyH = 0 then
      let r := s.fresh (above + 1)
      (forecast s a (periodU s) + r.1, r.2)
    else (forecast s a (periodU s) + above * pm / (60 * s.blw.model.autonomyH), s)
  else (s.blw.model.capMw * pm * 60 * 1000, s)

/-- The background reserve G: the mean of the last ended periods, or BASE over a period (R355). -/
def reserveG (s : State) : Nat :=
  match s.blw.ended with
  | [] => s.get (F.BLW_COST_VALUE 6) * s.get F.BLW_CFG_PERIOD_MIN * 60 * 10
  | l => sumBy (fun e => e) l / l.length

/-- The provisional budget of the next period: S less B and less the reservations held (R355). -/
def State.setNext (s : State) : State :=
  let start := s.net + (s.blw.periodStart + periodU s - s.now)
  let r := budgetAt s start (s.blw.store - s.blw.budget - reservedAll s)
  syncBellows { r.2 with blw := { r.2.blw with nextBudget := r.1, nextG := reserveG s } }

/-- Report the first debit of a period (R356). -/
def State.checkOverdraw (s : State) : State :=
  if debitNow s = 0 ∨ s.on F.BLW_STATUS_OVERDRAW then s
  else
    let s1 := (s.put F.BLW_STATUS_OVERDRAW 1).irq Blk.BLW 4
    if bits (s.get F.BLW_CFG_REPORT) 3 3 = 1 then s1.record 0x0304 0x0301 (w4 := debitNow s / 1000) else s1

/-- B and G of the period that starts now; what its charges and G lack of the budget is a debit (R355, R356). -/
def State.startPeriod (s : State) (start : Nat) : State :=
  let s0 := { s with blw := { s.blw with periodStart := start, metered := 0, debit := 0 } }
  let r := budgetAt s0 (s.net - (s.now - start)) s.blw.store
  let g := reserveG s
  let held := chargedIn r.2 r.2.blw.period + g
  let s1 := { r.2 with blw := { r.2.blw with budget := r.1, reserveG := g, debit := held - r.1 } }
  (((s1.put F.BLW_STATUS_OVERDRAW 0).irq Blk.BLW 16).setNext.put F.BLW_STATUS_HOUR (localHour s s.net % 24)).checkOverdraw

/-- A budget period ends and the next begins (R355, R362). -/
def State.budgetPeriod (s : State) : State :=
  if !s.en Blk.BLW || decide (s.now < s.blw.periodStart + periodU s) then s
  else
    let s1 := if bits (s.get F.BLW_CFG_REPORT) 0 0 = 1 then
        s.record 0x0301 0 (w4 := s.blw.budget / 1000) (w5 := s.blw.settled / 1000) (w6 := background s / 1000)
          (w7 := s.blw.store / 1000)
      else s
    let b := s1.blw
    let next := { b with
      period := b.period + 1
      settled := b.settledNext
      settledNext := 0
      ended := (background s :: b.ended).take 4 }
    { s1 with blw := next }.startPeriod (b.periodStart + periodU s)

/-- BUDGET_PERIOD_START (R355). -/
def execBudgetPeriodStart (t : Nat) (s : State) : Out := .next (s.at t).budgetPeriod

/-- Bellows is enabled: periods are counted from here, and accepted items fall into the new current or next period
(R355, R356).  With an external amplifier the transmit costs become unknown (R351). -/
def State.bellowsEnabled (s : State) : State :=
  let s1 := if s.on F.RFE_FEM_EXT_PA then (List.range 21).foldl (fun x k => x.put (F.BLW_TXCOST_VALID k) 0) s else s
  let s2 := s1.clearRun (Reg.BLW_CNT 0) 8
  let p := s2.blw.period + 1
  let s3 := { s2 with blw := { s2.blw with
    period := p, periodStart := s.now, settled := 0, settledNext := 0, ended := []
    sampledAt := s.now, hour := localHour s s.net } }
  let place := fun (i : Item) => { i with period := periodOf s3 (s3.localOf i.committed) }
  { s3 with items := s3.items.map place }.startPeriod s.now

/-- A commit of the shadow model (R353, R364). -/
def State.commitModel (s : State) : State :=
  let m := shadowModel s
  match floorConflict s m with
  | some f => s.checkRefused Blk.BLW 0x03F7 f
  | none =>
      let s1 := ({ s with blw := { s.blw with model := m } }).put F.BLW_STATUS_MODEL_VALID 1
      s1.setNext.put F.BLW_STATUS_HOUR (localHour s1 s.net % 24)

/-- COMMIT (R353). -/
def execCommit (t : Nat) (s : State) : Out := .next (s.at t).commitModel

/-- A local hour has ended: S is credited with its forecast, up to the capacity (R354). -/
def State.harvestHour (s : State) : State :=
  let h := localHour s s.net
  if h = s.blw.hour then s
  else
    let s1 := ({ s with blw := { s.blw with hour := h } }).put F.BLW_STATUS_HOUR (h % 24)
    if !s.on F.BLW_CFG_MODE ∨ h < s.blw.hour then s1
    else
      let cap := s.blw.model.capacity * 1000
      let gain := s.blw.model.harvest.getD (s.blw.hour % 24) 0 * 1000000
      if cap ≤ s.blw.store then s1 else s1.setStore (Nat.min (s.blw.store + gain) cap)

/-- HARVEST_HOUR_END (R354). -/
def execHarvestHourEnd (t : Nat) (s : State) : Out := .next (s.at t).harvestHour

/-! ### The meter and what it learns (R345, R350) -/

/-- Application cores that execute: released, and neither faulted, nor halted, nor in WFI. -/
def coresRunning (s : State) : Nat :=
  if !s.cpx.released then 0
  else ((List.range 4).filter (fun c => !s.cpx.halted.getD c false && !s.cpx.wfi.getD c false &&
    bits (s.get F.CPX_STATUS_FAULTED) c c == 0)).length
/-- Skein ports in use. -/
def portsActive (s : State) : Nat := ([0, 1, 2].filter (portOn s)).length
/-- Lanes that hold a detection. -/
def lanesHeld (s : State) : Nat := ((List.range 64).filter (fun n => decide (2 ≤ laneState s n))).length

/-- One running activity: its cost register, how many of it run, and its table cost over the span, in microjoules × 10^9;
`unit` turns an energy of the same scale into the register's unit. -/
structure Activity where
  reg : Nat
  cost : Nat
  unit : Nat
  deriving DecidableEq, Repr

/-- Activities of Table 11-2 that run, over a span of `u` units.  Costs are in units of 1/1,000,000 µJ. -/
def activities (s : State) (u : Nat) : List Activity :=
  let us := u * 1000000 / secondU
  let mw100 := fun (reg n : Nat) => if n = 0 then [] else [(⟨reg, (s.rd reg).toNat % 65536 * n * us * 10, n * us * 10⟩ : Activity)]
  let tx := match s.rfe.onAir with
    | none => []
    | some e =>
        let k := Nat.min (e.level / 4) 20
        if e.level % 4 = 0 ∨ 80 ≤ e.level then [(⟨Reg.BLW_TXCOST k, s.get (F.BLW_TXCOST_VALUE k) * us * 100, us * 100⟩ : Activity)]
        else [(⟨0, txPower40 s e.level * us * 25, us * 25⟩ : Activity)]
  let rx := if windowOpen s then mw100 (Reg.BLW_COST 0) (lanesHeld s) ++ mw100 (Reg.BLW_COST 1) (chainsOn s) else []
  let step := fun (o : FlashOp) =>
    let j := if o.op = 2 then 5 else 4
    let stepU := if o.op = 2 then eraseRunU o.addr else usU 200
    (⟨Reg.BLW_COST j, s.get (F.BLW_COST_VALUE j) * 1000000 * u / stepU, 1000000 * u / stepU⟩ : Activity)
  let flash := (s.flc.ops.filterMap (fun o => match o with
    | some x => if x.suspended then none else some (step x)
    | none => none)) ++ (s.flc.nested.map step).toList
  tx ++ rx ++ flash ++ mw100 (Reg.BLW_COST 2) (coresRunning s) ++ mw100 (Reg.BLW_COST 3) (portsActive s)

/-- Move a cost entry towards a sample, unless it is locked; the entry becomes valid (R350, R351). -/
def State.learn (s : State) (reg : Nat) (sample : Int) : State :=
  let old := (s.rd reg).toNat % 65536
  let new : Int := (old : Int) + (sample - old) / ((2 ^ s.get F.BLW_CFG_LEARN_SHIFT : Nat) : Int)
  if reg = 0 ∨ bits (s.rd reg).toNat 17 17 = 1 then s
  else s.wr reg (word (Nat.min new.toNat 65535 + 65536))

/-- Learn from one span of `u` units that drew `uj` microjoules (R350; notes/assumptions/70.md). -/
def State.learnSpan (s : State) (uj u : Nat) : State :=
  let acts := activities s u
  let us := u * 1000000 / secondU
  let base := s.get (F.BLW_COST_VALUE 6) * us * 10
  let drawn : Int := (uj * 1000000 : Nat)
  if !s.on F.BLW_CFG_LEARN_EN ∨ us = 0 then s
  else match acts with
    | [] => if us < 1000 then s else s.learn (Reg.BLW_COST 6) (drawn / ((us * 10 : Nat) : Int))
    | l =>
        let total := sumBy (fun (a : Activity) => a.cost) l
        l.foldl (fun x a =>
          if total ≤ 2 * a.cost ∧ 0 < a.unit then
            x.learn a.reg ((drawn - (base : Nat) - ((total - a.cost : Nat) : Int)) / (a.unit : Int))
          else x) s

/-- SUP_VSUP shows a measurement; the last two are kept with their instants, for the ramp-up that began before the newest
(R229). -/
def State.measured (s : State) (mv : Nat) : State :=
  { s with sup := { s.sup with vsup := ((s.now, mv) :: s.sup.vsup).take 2 } }.put F.SUP_VSUP_MV mv

/-- Bellows integrates the energy drawn since the last sample (R345, R354, R356). -/
def State.meterSample (s : State) (uj mv : Nat) : State :=
  let b := s.blw
  let span := s.now - b.sampledAt
  let s1 := ({ s with blw := { b with
    meter := (b.meter + uj) % 2 ^ 48, metered := b.metered + uj, sampledAt := s.now } }).wr64 Reg.BLW_METER
      ((b.meter + uj) % 2 ^ 48)
  let s2 := if s.on F.BLW_CFG_MODE then s1.setStore (b.store - uj) else s1
  let s3 := s2.measured mv
  (if s.en Blk.BLW then syncBellows ((s3.learnSpan uj span).checkOverdraw) else s3)

/-- METER_SAMPLE: `uj` microjoules drawn since the last sample, and VSUP in millivolts (R345). -/
def execMeterSample (t uj mv : Nat) (s : State) : Out := .next ((s.at t).meterSample uj mv)

/-! ### Economy (R359 to R361, R491 to R493) -/

/-- The warning level in millivolts (Table 17-3). -/
def warnLevel (s : State) : Nat := 1800 + 50 * s.get F.SUP_CFG_WARN

/-- Transmissions on air whose last chip is more than 2 ms away ramp down (R359). -/
def State.economyCut (s : State) : State :=
  let late := fun (i : Item) => match i.kind with
    | .tx x => i.started && !i.decided && decide (s.now + usU 2000 < x.rampStart + x.femU + x.rampU + x.airU)
    | _ => false
  (s.items.filter late).foldl (fun x i => x.cut i.idx 4 0x0102 true) s

/-- VSUP is reported below the warning level (R493): economy begins, or a running hold is abandoned (R360). -/
def State.supplyWarning (s : State) (mv : Nat) : State :=
  let s0 := s.measured mv
  if s.on F.SUP_STATUS_WARN || decide (warnLevel s ≤ mv) then s0
  else
    let s1 := (((s0.put F.SUP_STATUS_WARN 1).irq Blk.SUP 1).count (F.SUP_CNT_COUNT 0)).fire 45
    if s.on F.BLW_STATUS_ECONOMY then s1.put F.BLW_STATUS_HOLD 0
    else
      let s2 := ({ s1 with blw := { s1.blw with economyAt := s.now, voided := 0 } }.put F.BLW_STATUS_ECONOMY 1).irq Blk.BLW 1
      let s3 := s2.count (F.BLW_CNT_COUNT 7)
      (if bits (s.get F.BLW_CFG_REPORT) 1 1 = 1 then s3.record 0x0302 0x0101 (w4 := mv) else s3).economyCut

/-- SUPPLY_WARNING (R493). -/
def execSupplyWarning (t mv : Nat) (s : State) : Out := .next ((s.at t).supplyWarning mv)

/-- VSUP rises above the warning level and its hysteresis: the hold starts (R360, R493). -/
def State.warningClear (s : State) (mv : Nat) : State :=
  let s0 := s.measured mv
  if !s.on F.SUP_STATUS_WARN || decide (mv ≤ warnLevel s + 50) then s0
  else
    let s1 := (s0.put F.SUP_STATUS_WARN 0).irq Blk.SUP 2
    if s.on F.BLW_STATUS_ECONOMY then { s1 with blw := { s1.blw with holdAt := s.now } }.put F.BLW_STATUS_HOLD 1 else s1

/-- WARNING_CLEAR (R360). -/
def execWarningClear (t mv : Nat) (s : State) : Out := .next ((s.at t).warningClear mv)

/-- The hold ends, and with it economy: items committed in the dip are void, and pulses resume (R360, R361). -/
def State.holdEnd (s : State) : State :=
  if !s.on F.BLW_STATUS_HOLD || decide (s.now < s.blw.holdAt + usU (100 * s.get F.BLW_ECON_HOLD)) then s
  else
    let inDip := fun (i : Item) => !i.decided && !i.started && decide (i.due < s.net)
    let s1 := (s.items.filter inDip).foldl (fun x i => x.voidDue i 0x0102) s
    let s2 := (((s1.put F.BLW_STATUS_HOLD 0).put F.BLW_STATUS_ECONOMY 0).irq Blk.BLW 2).fire 46
    let s3 := if bits (s.get F.BLW_CFG_REPORT) 2 2 = 1 then
        s2.record 0x0303 0 (w4 := usFloor (s.now - s.blw.economyAt)) (w5 := s2.blw.voided) else s2
    s3.resumePulses.startWaiting

/-- ECONOMY_HOLD_END (R360). -/
def execEconomyHoldEnd (t : Nat) (s : State) : Out := .next (s.at t).holdEnd

end Sys2Proof.Machine
end

