-- ==== Sys2Proof/Machine/Esm.lean ====
section
/-! DEFINITION. Endpoint state memory: access pairs, scrubbing, checkpoints, restore, the join service and the directory's
service requests; and the two flash commands that checkpoints go on from (R245 to R274, R372, R381). -/

namespace Sys2Proof.Machine

/-! ### Access pairs and scrubbing (R245, R248, R250, R251, R510) -/

/-- An access of a core to one half of an entry.  `err` is what the entry's code finds: 0 nothing, 1 a corrected error,
2 an uncorrectable one.  An access of another size, alignment or sequence faults, and a held store is discarded. -/
def State.esmAccess (s : State) (core a size : Nat) (write : Bool) (v : Word) (err : Nat) : State :=
  let off := a - 0x30000000
  let n := off / 8
  let high := off % 8 == 4
  let held := s.esm.pairs.find? (fun p => p.1 == core)
  let s0 := { s with esm := { s.esm with pairs := s.esm.pairs.filter (fun p => p.1 != core) } }
  if a < 0x30000000 ∨ 0x30800000 ≤ a ∨ size ≠ 4 ∨ a % 4 ≠ 0 ∨ !bankOn s n then s0.accessFault core
  else if !high then
    if held.isSome then s0.accessFault core
    else if write then { s0 with esm := { s0.esm with pairs := (core, n, true, v) :: s0.esm.pairs } }
    else
      let s1 := s0.entryRead n err
      let w := (s1.entryWord n).toNat
      if s1.esm.bad.contains n then s1.accessFault core
      else { s1 with esm := { s1.esm with pairs := (core, n, false, hiWord w) :: s1.esm.pairs } }.deliverLoad core (loWord w)
  else match held with
    | some (_, m, w, x) =>
        if m ≠ n ∨ w ≠ write then s0.accessFault core
        else if write then
          let new := entryOf (BitVec.ofNat 64 (x.toNat + v.toNat * 2 ^ 32))
          s0.setEntry n { new with dirty := (s.entry n).dirty }
        else s0.deliverLoad core x
    | none => s0.accessFault core

/-- ESM_ACCESS (R510). -/
def execEsmAccess (t core a size : Nat) (write : Bool) (v : Word) (err : Nat) (s : State) : Out :=
  .next ((s.at t).esmAccess core a size write v err)

/-- The scrubber reads an entry of a powered bank (R250). -/
def State.esmScrub (s : State) (n err : Nat) : State :=
  if !s.en Blk.ESM || !s.on F.ESM_CFG_SCRUB_EN || !bankOn s n || decide (1048576 ≤ n) then s
  else s.entryRead n err

/-- ESM_SCRUB (R250). -/
def execEsmScrub (t n err : Nat) (s : State) : Out := .next ((s.at t).esmScrub n err)

/-! ### Checkpoints (R268 to R272) -/

/-- Banks with ON set, in ascending order. -/
def banksOn (s : State) : List Nat := let m := s.get F.ESM_BANKS_ON; (List.range 32).filter (fun b => bits m b b == 1)

/-- The slot that the next segment takes (R268). -/
def nextLogSlot (s : State) : Nat := (newestSlot s + 1) % 56

/-- The HWMs of `n` entries from entry `lo` of bank `b`. -/
def hwmRun (s : State) (b lo n : Nat) : List Nat :=
  (List.range n).map (fun k => (s.entry (b * 32768 + lo + k)).hwm)

/-- Clear DIRTY of the entries of a run (R268). -/
def State.clearDirty (s : State) (lo n : Nat) : State :=
  let f := fun (x : Nat × DWord) => if lo ≤ x.1 ∧ x.1 < lo + n then (x.1, x.2 &&& 0x7FFFFFFFFFFFFFFF) else x
  let e := (s.esm.entries.map f).filter (fun x => x.2 != 0)
  { s with esm := { s.esm with entries := e } }

/-- Submit the next flash item of the running checkpoint: each bank takes 4 block erases, then 32 programs of 4,096
bytes, whose pages are read from the ESM now (R268, R270; notes/assumptions/21.md). -/
def State.ckptSubmit (s : State) : State :=
  match s.esm.ckpt with
  | none => s
  | some c =>
    if c.inFlight then s
    else match c.banks with
      | [] => s
      | b :: _ =>
          let base := slotBase (nextLogSlot s)
          let go := fun (x : State) (c2 : Ckpt) (i : FlashInfo) =>
            let ws : List Word := [word (if i.op = 1 then 0x31 else 0x32), word (3 * 65536 + 2 * 262144), 0, 0, 0, 0, 0, 0]
            { x with esm := { x.esm with ckpt := some { c2 with inFlight := true, retryAt := none } } }.await
              ⟨.checkpoint, 0xFF, ws, .flash i, none⟩
          if c.step < 4 then go s c (flashInfo s 2 (base + c.step * 32768) [] 0)
          else
            let lo := (c.step - 4) * 1024
            let run := hwmRun s b lo 1024
            let s1 := s.clearDirty (b * 32768 + lo) 1024
            go s1 { c with start := if c.step = 4 then s.net else c.start }
              (flashInfo s1 1 (base + lo * 4) (run.flatMap (leBytes 4)) 0)

/-- A bank's segment is written: its index record makes it the valid one (R269). -/
def State.ckptBank (s : State) : State :=
  match s.esm.ckpt with
  | none => s
  | some c => match c.banks with
    | [] => s
    | b :: rest =>
        if c.step < 36 then s
        else
          { s with esm := { s.esm with ckpt := some { c with banks := rest, step := 0 } } }.indexWrite 1 b (nextLogSlot s) c.start

/-- The running checkpoint goes on after one of its items has ended. -/
def State.ckptNext (s : State) : State :=
  match s.esm.ckpt with
  | some c => if c.inFlight || c.retryAt.isSome then s else s.ckptBank.ckptSubmit
  | none => s

/-- Start a checkpoint. -/
def State.ckptStart (s : State) (closing : Bool) : State :=
  let c : Ckpt := ⟨banksOn s, 0, closing, s.net, false, none⟩
  ({ s with esm := { s.esm with ckpt := some c, startedAt := some s.now } }.put F.ESM_STATUS_CKPT_RUNNING 1).ckptSubmit

/-- Is any entry DIRTY? -/
def anyDirty (s : State) : Bool := s.esm.entries.any (fun x => (entryOf x.2).dirty)

/-- INTERVAL_MIN expires: the checkpoint starts, is skipped when nothing is dirty, or waits for the one that runs (R270). -/
def State.ckptTimer (s : State) : State :=
  if !s.en Blk.ESM || decide (s.now < s.esm.dueAt) then s
  else if s.esm.ckpt.isSome then s.irq Blk.ESM 8
  else
    let s1 := { s with esm := { s.esm with dueAt := s.esm.dueAt + s.get F.ESM_CKPT_INTERVAL_MIN * 60 * secondU } }
    if anyDirty s then s1.ckptStart false else s1.count (F.ESM_CNT_COUNT 3)

/-- CHECKPOINT_TIMER (R270). -/
def execCheckpointTimer (t : Nat) (s : State) : Out := .next (s.at t).ckptTimer

/-- Smallest interval that the enable check accepts (R271). -/
def ckptMinutes (banks life : Nat) : Nat := (4 * banks * life * 525960 + 2239999) / 2240000

/-- CKPT_NOW starts a checkpoint, or is refused with 0x0A04 within ESM_CKPT_MIN minutes of the last start (R271). -/
def State.ckptNow (s : State) : State :=
  let soon := match s.esm.startedAt with
    | some a => decide (s.now < a + s.get F.ESM_CKPT_MIN_MINUTES * 60 * secondU)
    | none => false
  if !s.en Blk.ESM then s
  else if soon || s.esm.ckpt.isSome then s.put F.ESM_STATUS_CKPT_REASON 0x0A04
  else s.ckptStart false

/-- CKPT_NOW (R271). -/
def execCkptNow (t : Nat) (s : State) : Out := .next (s.at t).ckptNow

/-- CLOSE stops entry updates and takes a closing checkpoint, after the one that runs (R272). -/
def State.close (s : State) : State :=
  if !s.en Blk.ESM || s.on F.ESM_STATUS_CLOSED then s
  else
    let s1 := s.put F.ESM_CTL_CLOSE 1
    if s.esm.ckpt.isSome then s1 else s1.ckptStart true

/-- CLOSE (R272). -/
def execClose (t : Nat) (s : State) : Out := .next (s.at t).close

/-- The checkpoint's segments and index records are written (R269, R272). -/
def State.ckptDone (s : State) : State :=
  match s.esm.ckpt with
  | none => s
  | some c =>
    if !c.banks.isEmpty then s
    else
      let s1 := { s with esm := { s.esm with ckpt := none } }
      let s2 := (((s1.put F.ESM_STATUS_CKPT_RUNNING 0).irq Blk.ESM 4).count (F.ESM_CNT_COUNT 2)).ckptWaiters 0
      if c.closing then
        ((s2.indexWrite 2 0xFF (newestSlot s2) s2.net).put F.ESM_STATUS_CLOSED 1).put F.ESM_CTL_CLOSE 0
      else if s2.on F.ESM_CTL_CLOSE then s2.ckptStart true
      else s2

/-- CHECKPOINT_DONE (R269). -/
def execCheckpointDone (t : Nat) (s : State) : Out := .next (s.at t).ckptDone

/-- 1 s after a refusal a checkpoint item is submitted again (R270).  The pages of a program are read afresh. -/
def State.ckptRetry (s : State) : State :=
  match s.esm.ckpt with
  | some c => match c.retryAt with
    | some at_ => if s.now < at_ then s else { s with esm := { s.esm with ckpt := some { c with retryAt := none } } }.ckptSubmit
    | none => s
  | none => s

/-- CHECKPOINT_RETRY (R270). -/
def execCheckpointRetry (t : Nat) (s : State) : Out := .next (s.at t).ckptRetry

/-- FLASH_ITEM_ISSUE (R372). -/
def execFlashItemIssue (t idx : Nat) (s : State) : Out := .next ((s.at t).flashIssue idx).ckptNext

/-- FLASH_OP_DONE (R381); `badWord` is a word that did not verify, `failMask` the records of a counter that failed. -/
def execFlashOpDone (t bank : Nat) (badWord : Option Nat) (failMask : Nat) (s : State) : Out :=
  .next ((s.at t).flashOpEnd bank badWord failMask).ckptNext

/-! ### Restore (R273) -/

/-- The entry that a record is rebuilt to: GEN of the record and HWM of the segment, with a STATE by the record (R273). -/
def rebuiltEntry (s : State) (n : Nat) (closed : Bool) : Entry :=
  let r := s.dirRec n
  let full := fun (st : Nat) => (⟨segmentHwm s n, 0, 0, r.gen, st, false⟩ : Entry)
  match r.dstate with
  | 0 => full 0
  | 1 => full (if closed then 2 else 5)
  | 2 => full 3
  | 3 => full 4
  | _ => ⟨0, 0, 0, 0, 0, false⟩

/-- Rebuild one entry as a whole. -/
def State.restoreEntry (s : State) (closed : Bool) (n : Nat) : State := s.setEntryWord n (rebuiltEntry s n closed).word

/-- The service rebuilds every entry after a loss, and then clears LOST; otherwise it rebuilds the entries that hold an
uncorrectable error (R251, R273). -/
def State.esmRestore (s : State) : State :=
  if s.on F.ESM_STATUS_LOST then
    let idx := (dirIndexes s).filter (bankOn s)
    (idx.foldl (State.restoreEntry · (newestType s == 2)) s).put F.ESM_STATUS_LOST 0
  else s.esm.bad.foldl (State.restoreEntry · false) s

/-- ESM_RESTORE (R273). -/
def execEsmRestore (t : Nat) (s : State) : Out := .next (s.at t).esmRestore

/-! ### Joins (R263 to R266) -/

/-- A refused request writes a record with its reason and EUI (R264). -/
def State.joinRefused (s : State) (eui code : Nat) : State := s.record 0x0A00 code (w4 := eui % 2 ^ 32) (w5 := eui / 2 ^ 32)

/-- Network day (Table 8-3). -/
def networkDay (s : State) : Nat := s.net / tickU / 2831155200 % 65536

/-- The new generation for a request with generation `g` against a record, or the code that refuses it (R263 to R265). -/
def joinGeneration (r : Option DirRec) (g : Nat) : Nat ⊕ Nat :=
  let up := fun (n : Nat) => if n = 15 then Sum.inr 0x0A05 else Sum.inl (n + 1)
  match r with
  | none => if g = 0 then .inl 1 else .inr 0x0A05
  | some x =>
      if x.dstate = 2 then .inr 0x0A06
      else if x.dstate = 3 then .inr 0x0A05
      else if x.dstate = 4 then (if g = x.gen then up g else .inr 0x0A05)
      else if x.dstate = 0 ∨ x.confirm then (if g = x.gen ∨ g + 1 = x.gen then .inl x.gen else .inr 0x0A05)
      else if g = x.gen then up g
      else .inr 0x0A05

/-- The first slot start plus TX_OFFSET that lies 1 s or more after the request's end (R266). -/
def joinStart (s : State) (requestEnd : Nat) : Nat :=
  slotAfter (requestEnd + secondU - txOffsetU s) * slotU + txOffsetU s

/-- Submit JOIN_ACCEPT: the request's bin, spreading factor and code; the priority, energy class and level are not stated
(R266; notes/assumptions/3.md). -/
def State.joinAccept (s : State) (fr : FwFrame) (idx eui g newGen : Nat) : State :=
  let k := s.esm.joinCount
  let body := leBytes 3 idx ++ leBytes 1 newGen ++ beBytes 16 (endpointKey s eui newGen).value
  let req : NativeReq := ⟨5 + 0x300 + 0x400, idx, body, 0, false⟩
  let (prio, s1) := s.fresh 4
  let (eclass, s2) := s1.fresh 4
  let (power, s3) := s2.fresh 81
  let at_ := joinStart s fr.endAt
  let ws : List Word := [word 0x10, word (prio * 65536 + eclass * 262144), loWord at_, hiWord at_, 0, 0,
    word (fr.det.sf + fr.det.code * 16 + power * 256 + unsigned 8 fr.det.bin * 65536), word (3 * 2 ^ 30)]
  let no := fun (x : State) (c : Nat) => (x.ownerEnd (.join k) 3 c).record 0x0A00 c (w4 := 0xFF)
  let s4 := { s3 with esm := { s3.esm with joinCount := k + 1, joins := s3.esm.joins ++ [(⟨k, idx, eui, fr.endAt⟩ : Join)] } }
  match nativeUp s4 with
  | some c => no s4 c
  | none => match derivedRefuses s4 eui g req.blocks with
    | some c => no s4 c
    | none =>
        if txfcOut s4 then no s4 0x0908
        else (s4.useDerived eui g req.blocks false).awaitNative (.join k) 0xFF ws req (endpointKey s4 eui g)

/-- Does a JOIN_REQUEST verify under the key of (EUI, g), and carry them as its payload (R263, R264)? -/
def joinVerified (s : State) (f : MacFrame) (eui g : Nat) : Bool :=
  let k := endpointKey s eui g
  micOk k f && ((openFrame k f).drop f.header.length == leBytes 8 eui ++ leBytes 1 g)

/-- The service takes the first JOIN_REQUEST of the firmware queue through the steps of Table 8-6; `eui` and `g` are its
payload as the service finds them, which it must be under the key of (EUI, g) (notes/assumptions/52.md).
An EUI of all ones never joins (notes/assumptions/52.md). -/
def State.joinRequest (s0 : State) (eui g : Nat) : State :=
  let ty := fun (b : FwFrame) => match parseMac b.bytes with | some f => fctlType f.fctl == 4 | none => false
  match takeFirst ty s0.esm.firmware with
  | none => s0
  | some (fr, rest) =>
    let s := { s0 with esm := { s0.esm with firmware := rest } }
    match parseMac fr.bytes with
    | none => s
    | some f =>
      let fresh := match f.ctime with | some c => ctimeOk s c fr.det.start | none => false
      let can := (derivedRefuses s eui g (ccmBlocks f.header.length f.payload.length false)).isNone
      let s1 := if can then s.useDerived eui g (ccmBlocks f.header.length f.payload.length false) true else s
      if !fresh then s.joinRefused eui 0x0907
      else if !(can && joinVerified s f eui g) || decide (15 < g) then s1.joinRefused eui 0x0906
      else if eui % 2 ^ 64 = 2 ^ 64 - 1 then
        -- never joinable (Table 8-3), with a reason that the spec does not name
        (s1.fresh 65535).2.joinRefused eui ((s1.fresh 65535).1 + 1)
      else
        let found := lookupEui s eui
        match joinGeneration (found.map s.dirRec) g with
        | .inr c => s1.joinRefused eui c
        | .inl new =>
          let old := match found with | some i => (s.entry i).state != 0 && decide (f.fcnt ≤ (s.entry i).hwm) | none => false
          if old then s1.joinRefused eui 0x0905
          else match (match found with | some i => some i | none => insertFrom s eui 0 64) with
            | none => s1.joinRefused eui 0x0A03
            | some i =>
                if !bankOn s i then s1.joinRefused eui 0x0A02
                else
                  let r : DirRec := ⟨eui, networkDay s, new, 0, true, 255⟩
                  let s2 := if found.isSome then s1.setDirRec i r else s1.newDirRec i r
                  let s3 := s2.setEntry i ⟨f.fcnt, heardNow s2, compressLq fr.link, new, 1, (s2.entry i).dirty⟩
                  s3.joinAccept fr i eui g new

/-- JOIN_REQUEST (R264). -/
def execJoinRequest (t eui g : Nat) (s : State) : Out := .next ((s.at t).joinRequest eui g)

/-- A JOIN_ACCEPT has ended: after DONE the record and the entry become active, otherwise they stay joining (R265). -/
def State.joinEnd (s : State) : State :=
  match s.esm.accepts with
  | [] => s
  | (k, ok) :: rest =>
    let s1 := { s with esm := { s.esm with accepts := rest, joins := s.esm.joins.filter (fun j => j.k != k) } }
    match s.esm.joins.find? (fun j => j.k == k) with
    | none => s1
    | some j =>
        let r := s.dirRec j.idx
        if ok && r.dstate == 0 && r.eui == j.eui then
          (s1.setDirRec j.idx { r with dstate := 1 }).setEntry j.idx { s.entry j.idx with state := 2 }
        else s1

/-- JOIN_ACCEPT_DONE (R265). -/
def execJoinAcceptDone (t : Nat) (s : State) : Out := .next (s.at t).joinEnd

/-! ### Compaction (R260) -/

/-- Directory blocks whose records a journal entry changes and whose image has not taken it in. -/
def pendingBlocks (s : State) : List Nat :=
  (dirJournal s).flatMap (fun e =>
    let a := field e 0 4 % 2 ^ 20 * 12
    [(a + 8) / 32768, (a + 11) / 32768].filter (fun b => !appliedIn s b e))

/-- The lowest of them. -/
def nextBlock (s : State) : Option Nat :=
  (pendingBlocks s).foldl (fun m b => match m with | none => some b | some c => some (Nat.min b c)) none

/-- Has the journal filled to 75 %? -/
def journalFull (s : State) : Bool := decide (dirJournalEntries * 3 ≤ (dirJournal s).length * 4)

/-- Step 1: the image of a block is programmed into the image area, with damaged records as free. -/
def State.writeImage (s : State) (b : Nat) : State :=
  let inside := fun (a : Nat) => a / 32768 == b
  let copy := fun (x : State) (i : Nat) =>
    let bs := if isDamaged (s.dirRec i) then List.replicate 12 0xFF else dirBytes s i
    (List.range 12).foldl (fun y k => if inside (i * 12 + k) then
      y.flashStore (imageBase + (i * 12 + k) % 32768) [bs.getD k 0xFF] else y) x
  (((dirIndexes s).filter (fun i => inside (i * 12) || inside (i * 12 + 11))).foldl copy (s.eraseRange imageBase 32768)).oneSlot imageBase

/-- Step 2: the marker that makes the image valid, with the last journal entry that the image has taken in. -/
def State.writeMarker (s : State) (b seq : Nat) : State :=
  s.program (markerBase + nextFree s markerBase 0x03F00000 16 * 16) (leBytes 4 b ++ leBytes 4 seq ++
    leBytes 4 (crc32 (flashBytes s imageBase 32768)))

/-- Step 4: the block is programmed from the image. -/
def State.copyImage (s : State) (b : Nat) : State :=
  ((listedIn s imageBase markerBase).foldl (fun x a =>
    x.flashStore (dirBase + b * 32768 + (a - imageBase)) [flashByte s a]) s).oneSlot (dirBase + b * 32768)

/-- Step 5: the marker that says the image is applied. -/
def State.writeApplied (s : State) : State :=
  s.program (markerBase + (nextFree s markerBase 0x03F00000 16 - 1) * 16 + 12) [0, 0, 0, 0]

def State.atStep (s : State) (c : Option (Nat × Nat × Nat)) : State := { s with esm := { s.esm with compaction := c } }

/-- The next step of the compaction (Table 8-5): of the block in progress, or, after a reset, of the block whose valid image
is not applied; else of the lowest block that the journal changes; when there is none, the journal is erased.  DESIGN CHOICE:
one command runs one step (notes/assumptions/53.md). -/
def State.compact (s : State) : State :=
  match s.esm.compaction, imageOpen s with
  | some (b, 2, q), _ => (s.writeMarker b q).atStep (some (b, 3, q))
  | some (b, 4, q), _ => (s.copyImage b).atStep (some (b, 5, q))
  | some (_, 5, _), _ => s.writeApplied.atStep none
  | some (b, _, q), _ => (s.eraseRange (dirBase + b * 32768) 32768).atStep (some (b, 4, q))
  | none, some b => (s.eraseRange (dirBase + b * 32768) 32768).atStep (some (b, 4, 0))
  | none, none =>
      if !journalFull s then s
      else match nextBlock s with
        | some b => (s.writeImage b).atStep (some (b, 2, s.esm.journalSeq - 1))
        | none => (s.eraseRange dirJournalBase (imageBase - dirJournalBase)).eraseRange markerBase 32768

/-- DIRECTORY_COMPACTION (R260). -/
def execDirectoryCompaction (t : Nat) (s : State) : Out := .next (s.at t).compact

/-! ### Service requests (R267, R274) -/

/-- The answer to a lookup: the record and the entry of an index, or FOUND 0. -/
def State.answerLookup (s : State) (f : Fetched) (found : Option Nat) (fail : Bool) : State :=
  match found with
  | none => s.done f.ring f.words
  | some i =>
      if fail then s.abortDma f
      else
        let reply := dirBytes s i ++ leBytes 8 (s.entryWord i).toNat
        (s.bufWrite f.ring (wordAt f.words 4 + wordAt f.words 5 * 2 ^ 32) reply).done f.ring f.words 0
          (w4 := i % 2 ^ 20 + (s.entry i).state * 2 ^ 20 + 2 ^ 31) (w5 := reply.length)

/-- LOOKUP_EUI (R274). -/
def State.svcLookupEui (s : State) (f : Fetched) (fail : Bool) : State :=
  if !s.en Blk.ESM then s.refuse f.ring f.words 0x0AF0 else s.answerLookup f (lookupEui s (leNat (f.buf.take 8))) fail

def execLookupEui (t : Nat) (fail : Bool) (s : State) : Out :=
  .next ((s.at t).onService 1 1 (fun x f => x.svcLookupEui f fail))

/-- LOOKUP_INDEX (R274). -/
def State.svcLookupIndex (s : State) (f : Fetched) (fail : Bool) : State :=
  let i := wbits f.words 7 19 0
  if !s.en Blk.ESM then s.refuse f.ring f.words 0x0AF0
  else s.answerLookup f (if (s.dirRec i).dstate = 7 then none else some i) fail

def execLookupIndex (t : Nat) (fail : Bool) (s : State) : Out :=
  .next ((s.at t).onService 1 2 (fun x f => x.svcLookupIndex f fail))

/-- A command that changes an endpoint's state: the directory change is journalled before the entry is written (R267). -/
def State.svcChange (s : State) (f : Fetched) (allowed : Nat → Bool) (dstate state : Nat) : State :=
  let i := wbits f.words 7 19 0
  let e := s.entry i
  if !s.en Blk.ESM then s.refuse f.ring f.words 0x0AF0
  else if !bankOn s i then s.refuse f.ring f.words 0x0A02
  else if s.esm.bad.contains i then s.refuse f.ring f.words 0x0A01
  else if !allowed e.state then s.refuse f.ring f.words (if e.state = 4 then 0x0A05 else 0x0AF7)
  else
    let s1 := (s.setDirRec i { s.dirRec i with dstate := dstate }).setEntry i { e with state := state }
    s1.done f.ring f.words 0 (w4 := i + state * 2 ^ 20 + 2 ^ 31)

/-- SUSPEND, RESUME, REVOKE and DELETE (R267). -/
def execSuspend (t : Nat) (s : State) : Out :=
  .next ((s.at t).onService 1 3 (fun x f => x.svcChange f (fun n => n == 2 || n == 5) 2 3))
def execResume (t : Nat) (s : State) : Out := .next ((s.at t).onService 1 4 (fun x f => x.svcChange f (fun n => n == 3) 1 5))
def execRevoke (t : Nat) (s : State) : Out :=
  .next ((s.at t).onService 1 5 (fun x f => x.svcChange f (fun n => decide (1 ≤ n) && decide (n ≤ 5)) 3 4))
def execDelete (t : Nat) (s : State) : Out := .next ((s.at t).onService 1 6 (fun x f => x.svcChange f (fun n => n == 4) 4 0))

/-- CHECKPOINT runs a checkpoint, or waits for the one that runs, and completes when it ends (R274). -/
def State.svcCheckpoint (s : State) (f : Fetched) : State :=
  if !s.en Blk.ESM then s.refuse f.ring f.words 0x0AF0
  else
    let s1 := { s with esm := { s.esm with waiting := s.esm.waiting ++ [f] } }
    if s.esm.ckpt.isSome then s1 else s1.ckptStart false

/-- CHECKPOINT (R274). -/
def execCheckpoint (t : Nat) (s : State) : Out := .next ((s.at t).onService 1 7 State.svcCheckpoint)

/-- The seven counts of STATS: occupied and deleted of the directory, the others of the entries' STATE. -/
def statsOf (s : State) : List Nat :=
  let d := fun (p : DirRec → Bool) => ((dirIndexes s).filter (fun i => p (s.dirRec i))).length
  let e := fun (k : Nat) => (s.esm.entries.filter (fun x => (entryOf x.2).state == k)).length
  [d (fun r => r != DirRec.free), d (fun r => r.dstate == 4), e 1, e 2, e 3, e 4, e 5]

/-- STATS (R274). -/
def State.svcStats (s : State) (f : Fetched) (fail : Bool) : State :=
  if !s.en Blk.ESM then s.refuse f.ring f.words 0x0AF0
  else if fail then s.abortDma f
  else (s.bufWrite f.ring (wordAt f.words 4 + wordAt f.words 5 * 2 ^ 32) ((statsOf s).flatMap (leBytes 4))).done f.ring f.words 0 (w5 := 28)

def execStats (t : Nat) (fail : Bool) (s : State) : Out := .next ((s.at t).onService 1 8 (fun x f => x.svcStats f fail))

end Sys2Proof.Machine
end

