-- ==== Sys2Proof/Machine/Access.lean ====
section
/-! DEFINITION. Register writes by access code (Table 0-4, R14, R66, R533). -/

namespace Sys2Proof.Machine

/-- The block of an internal register address. -/
def blockOf (a : Nat) : Nat := (a - 0x40000000) / 0x10000

/-- May the set-up (RWE) fields of a block be written: while it is disabled and its check does not run (Table 0-4, R66)? -/
def setupOpen (s : State) (b : Nat) : Bool := !s.en b && !s.on (F.BLK_BUSY b)

/-- The word of a register after a write of `v`: RW and open RWE bits take it, 1s clear W1C bits, every other bit keeps
its value. -/
def codedWord (d : RegDesc) (openRwe : Bool) (old v : Word) : Word :=
  let m := BitVec.ofNat 32 (if openRwe then d.rw ||| d.rwe else d.rw)
  ((old &&& ~~~m) ||| (v &&& m)) &&& ~~~(v &&& BitVec.ofNat 32 d.w1c)

/-- Write a register by its access code; an address that Table 19-2 does not list ignores the write (R533). -/
def State.writeByCode (s : State) (a : Nat) (v : Word) : State :=
  match regFind a with
  | none => s
  | some (d, _) => s.wr a (codedWord d (setupOpen s (blockOf a)) (s.rd a) v)

end Sys2Proof.Machine
end

