-- ==== Sys2Proof/Machine/Crypto.lean ====
section
/-! DEFINITION. The cipher engine's and the signature engine's requests, key import, owner keys, the restart of the frame
counter, and security alarms (R278 to R304). -/

namespace Sys2Proof.Machine

/-! ### Cipher requests (R280 to R291) -/

/-- CRY_STATUS.QPEND, bit q while queue q holds requests, and SIG_STATUS.BUSY follow the queues (R281, Table 9-9). -/
def State.syncCry (s : State) : State :=
  (s.put F.CRY_STATUS_QPEND (sumBy (fun q => if s.cry.queue.any (fun r => r.queue == q) then 2 ^ q else 0)
    (List.range 8))).put F.SIG_STATUS_BUSY (if s.cry.sigQueue.isEmpty then 0 else 1)

/-- A refused ring 11 cipher request, counted (CRY_CNT[1]). -/
def State.refuseCry (s : State) (f : Fetched) (code : Nat) : State := (s.count (F.CRY_CNT_COUNT 1)).refuse f.ring f.words code

/-- Fields of CRY_OP (Table 9-3). -/
def cryMode (f : Fetched) : Nat := wbits f.words 6 3 0
def cryTagLen (f : Fetched) : Nat := wbits f.words 6 20 16
def cryAad (f : Fetched) : Nat := wbits f.words 7 15 0
/-- Bytes of the data section: LENGTH less IV, authenticated data and tag. -/
def cryData (f : Fetched) : Nat := f.buf.length - 32 - cryAad f
/-- Blocks that a request runs through the pipeline, by mode (R279, R288). -/
def cryBlocks (f : Fetched) : Nat :=
  let n := cryData f
  match cryMode f with
  | 0 => ceil16 n
  | 1 => n / 16 + 1
  | 2 => ccmBlocks (cryAad f) n false
  | 3 => ccmBlocks (cryAad f) n false
  | 4 => 2 + ceil16 n
  | 5 => 2 + ceil16 n
  | _ => 1 + Nat.max 1 (ceil16 n)

/-- The entry of the derived-key cache that a handle names (R287). -/
def handleEntry (s : State) (h : Nat) : Option Derived :=
  s.cry.cache.find? (fun d => d.entry == h % 4096 && d.seq == h / 4096 % 16)

/-- The checks of a CRY_OP in order: block, alarm, mode, fields, key, usage, nonce. -/
def cryRefusal (s : State) (f : Fetched) : Option Nat :=
  let m := cryMode f
  let n := cryBlocks f
  let tag := cryTagLen f
  if !s.en Blk.CRY then some 0x0BF0
  else if s.on F.SEC_ALARM_ACTIVE then some 0x0B01
  else if 8 ≤ m then some 0x0B04
  else if f.buf.length < 32 + cryAad f then some 0x0BF6
  else if (m = 1 ∨ m = 3 ∨ m = 5 ∨ m = 6) ∧ (tag < 4 ∨ 16 < tag) then some 0x0BF6
  else if wbits f.words 6 11 11 = 1 ∧ m ≠ 4 then some 0x0BF7
  else
    let key := if wbits f.words 6 4 4 = 1 then
        match handleEntry s (wbits f.words 7 31 16) with
        | none => some 0x0B03
        | some d => match slotRefuses s d.master n with
          | some c => some c
          | none => if slotMode s d.master 7 then none else some 0x0B04
      else
        let k := wbits f.words 6 10 5
        if !s.on (F.CRY_SLOT_ATTR_VALID k) then some 0x0B03
        else if !slotMode s k m then some 0x0B04
        else slotRefuses s k n
    match key with
    | some c => some c
    | none => if wbits f.words 6 11 11 = 1 ∧ s.cry.nonceLimit ≤ s.rd64 Reg.CRY_NONCE_NEXT then some 0x0B06 else none

/-- Take the next device nonce; the refill begins when 16,384 values remain (R291). -/
def State.takeNonce (s : State) : Nat × State :=
  let n := s.rd64 Reg.CRY_NONCE_NEXT
  let s1 := s.wr64 Reg.CRY_NONCE_NEXT (n + 1)
  (s.get F.CRY_NONCE_INSTANCE * 2 ^ 64 + n,
    if s.cry.nonceLimit ≤ n + 1 + 16384 then { s1 with cry := { s1.cry with nonceRefill := true } } else s1)

/-- The key that a request names, as the vault holds it now. -/
def keyNow (s : State) : KeyName → AesKey
  | .slot n => slotKey s n
  | .derived m eui gen => derivedKey s m eui gen

/-- The first request of a queue enters the pipeline: its key is fixed (R282). -/
def startHead (s : State) (q : Nat) : List CryReq → List CryReq
  | [] => []
  | r :: l => if r.queue == q then { r with key := r.key.or (some (keyNow s r.name)) } :: l else r :: startHead s q l

/-- The queue of a ring 11 request (R281). -/
def hostQueue : Nat := 6

/-- CRY_OP queues a request (R282, R283). -/
def State.cryOp (s : State) (f : Fetched) : State :=
  match cryRefusal s f with
  | some c => s.refuseCry f c
  | none =>
      let h := wbits f.words 7 31 16
      let name := match handleEntry s h with
        | some d => if wbits f.words 6 4 4 = 1 then KeyName.derived d.master d.eui d.gen else .slot (wbits f.words 6 10 5)
        | none => .slot (wbits f.words 6 10 5)
      let slot := match name with | .slot n => n | .derived m _ _ => m
      let s1 := s.useSlot slot (cryBlocks f)
      let s2 := if wbits f.words 6 4 4 = 1 then s1.cacheHit (fun d => d.entry == h % 4096) else s1
      let p := if wbits f.words 6 11 11 = 1 then (some s2.takeNonce.1, s2.takeNonce.2) else (none, s2)
      let q := p.2.cry.queue ++ [(⟨hostQueue, f, name, none, p.1⟩ : CryReq)]
      { p.2 with cry := { p.2.cry with queue := startHead p.2 hostQueue q } }.syncCry

/-- CRY_OP (R283). -/
def execCryOp (t : Nat) (s : State) : Out := .next ((s.at t).onFetched 0x40 State.cryOp)

/-- The 12 nonce bytes, big-endian (R290). -/
def nonceBytes (n : Nat) : List Byte := (leBytes 12 n).reverse

/-- What a request yields for its data section and its tag field, and the number of output bytes; `none` when a decryption's
tag fails (Table 9-2, R283; notes/assumptions/102.md). -/
def cipherOutput (mode tagLen : Nat) (key : AesKey) (iv aad data tag : List Byte) : Option (List Byte × Nat) :=
  let mac := fun (t : List Byte) => some (data ++ t.take tagLen ++ tag.drop tagLen, tagLen)
  let opened := fun (p t : List Byte) => if t.take tagLen == tag.take tagLen then some (p ++ tag, data.length) else none
  match mode with
  | 0 => some (streamXor key inc128 (beNat (fit 16 iv)) data ++ tag, data.length)
  | 1 => mac (cbcMac key data)
  | 2 => let c := ccmCrypt key (iv.take 13) data; some (c ++ ccmTag key 16 (iv.take 13) aad data, data.length + 16)
  | 3 => let p := ccmCrypt key (iv.take 13) data; opened p (ccmTag key tagLen (iv.take 13) aad p)
  | 4 => let c := gcmCrypt key (iv.take 12) data; some (c ++ gcmTag key (iv.take 12) aad c, data.length + 16)
  | 5 => opened (gcmCrypt key (iv.take 12) data) (gcmTag key (iv.take 12) aad data)
  | 6 => mac (cmac key data)
  | _ => some (data ++ cmac key data, 16)

/-- The oldest cipher request leaves the pipeline: its output overwrites the data and the tag field (R283). -/
def State.cipherDone (s : State) (fail : Bool) : State :=
  match s.cry.queue with
  | [] => s
  | q :: rest =>
      let s1 := ({ s with cry := { s.cry with queue := startHead s q.queue rest } }.syncCry).count (F.CRY_CNT_COUNT 0)
      let f := q.f
      let n := cryData f
      let aad := cryAad f
      let base := wordAt f.words 4 + wordAt f.words 5 * 2 ^ 32
      let iv := match q.nonce with | some x => nonceBytes x ++ slice f.buf 12 4 | none => f.buf.take 16
      if fail then s1.abortDma f
      else match cipherOutput (cryMode f) (cryTagLen f) (q.key.getD (keyNow s q.name)) iv (slice f.buf 16 aad)
          (slice f.buf (16 + aad) n) (slice f.buf (16 + aad + n) 16) with
        | none => (s1.bufWrite f.ring (base + 16 + aad) (List.replicate n 0)).done f.ring f.words 0x0B05
        | some (out, len) =>
            let s2 := s1.bufWrite f.ring (base + 16 + aad) out
            match q.nonce with
            | some x => (s2.bufWrite f.ring base (nonceBytes x)).done f.ring f.words 0 (w4 := len % 65536) (w5 := x % 2 ^ 32)
                (w6 := x / 2 ^ 32 % 2 ^ 32) (w7 := x / 2 ^ 64)
            | none => s2.done f.ring f.words 0 (w4 := len % 65536)

/-- CIPHER_REQUEST_DONE (R282). -/
def execCipherRequestDone (t : Nat) (fail : Bool) (s : State) : Out := .next ((s.at t).cipherDone fail)

/-! ### Key import (R286, R294) -/

/-- The key bytes of a KEY_IMPORT: the plaintext, or the unwrap under the key-encryption slot (R286). -/
def importedKey (s : State) (f : Fetched) : Option (List Byte) :=
  if wbits f.words 6 7 6 = 1 then some f.buf
  else keyUnwrap (slotKey s (wbits f.words 6 13 8)) (if wbits f.words 6 14 14 = 0 then 2 else 4) f.buf

/-- The checks of KEY_IMPORT in order. -/
def importRefusal (s : State) (f : Fetched) : Option Nat :=
  let form := wbits f.words 6 7 6
  let kek := wbits f.words 6 13 8
  let limit := wbits f.words 7 14 9
  if !s.en Blk.CRY then some 0x0BF0
  else if s.on F.SEC_ALARM_ACTIVE then some 0x0B01
  else if limit < 16 ∨ 48 < limit ∨ 2 ≤ form then some 0x0BF6
  else if form = 1 then (if s.on F.SEC_CFG_PLAIN_IMPORT then none else some 0x0BF7)
  else if !s.on (F.CRY_SLOT_ATTR_VALID kek) then some 0x0B03
  else if !s.on (F.CRY_SLOT_ATTR_KEK kek) || !slotMode s kek 8 then some 0x0B04
  else match slotRefuses s kek (if wbits f.words 6 14 14 = 0 then 12 else 24) with
    | some c => some c
    | none => if (importedKey s f).isSome then none else some 0x0B05

/-- ATTR word of an imported key. -/
def importAttr (f : Fetched) : Nat :=
  1 + wbits f.words 6 14 14 * 2 + wbits f.words 6 15 15 * 4 + wbits f.words 6 16 16 * 8 + wbits f.words 7 8 0 * 256
    + wbits f.words 7 14 9 * 2 ^ 17

/-- Load a slot: its usage counter restarts, and cached keys derived from it go (R286). -/
def State.loadSlot (s : State) (n attr key : Nat) : State :=
  let s1 := ((s.wr (Reg.CRY_SLOT_ATTR n) (word attr)).wr (Reg.CRY_SLOT_USE_LO n) 0).wr (Reg.CRY_SLOT_USE_HI n) 0
  { s1 with cry := { s1.cry with
    vault := modAt (fun _ => key) s1.cry.vault n
    cache := s1.cry.cache.filter (fun d => d.master != n) } }

/-- A persistent write joins the writes of the key store (R294, R304). -/
def State.storeQueue (s : State) (f : Fetched) (e : StoreEntry) : State :=
  ({ s with cry := { s.cry with storing := s.cry.storing ++ [(⟨f, e, 2, false⟩ : StoreJob)] } }).startWaiting

/-- KEY_IMPORT (R286): the slot is loaded; with PERSIST the entry and then its commit record are programmed before the
completion (R294, Table 9-4). -/
def State.keyImport (s : State) (f : Fetched) : State :=
  match importRefusal s f with
  | some c => s.refuseCry f c
  | none =>
      let n := wbits f.words 6 5 0
      let kek := wbits f.words 6 13 8
      let wrapped := wbits f.words 6 7 6 == 0
      let key := beNat ((importedKey s f).getD [])
      let s1 := if wrapped then s.useSlot kek (if wbits f.words 6 14 14 = 0 then 12 else 24) else s
      let s2 := s1.loadSlot n (importAttr f) key
      let s3 := { s2 with cry := { s2.cry with imported := n :: s2.cry.imported } }
      if wbits f.words 6 15 15 = 1 then s3.storeQueue f (.key ⟨n, word (importAttr f), key, none⟩)
      else (s3.count (F.CRY_CNT_COUNT 0)).done f.ring f.words

/-- KEY_IMPORT (R286). -/
def execKeyImport (t : Nat) (s : State) : Out := .next ((s.at t).onFetched 0x41 State.keyImport)

/-- TXFC_RESTART: accepted once both slots have been imported since TXFC_LOW was last set (R292). -/
def State.txfcRestart (s : State) : State :=
  if s.cry.imported.contains (s.get F.MAC_DRONE_BEACON_SLOT) && s.cry.imported.contains (s.get F.MAC_CFG_LINK_SLOT) then
    let s1 := { s with
      cry := { s.cry with restartBase := s.cry.restartBase + s.mac.txfcLimit, restartDay := some (networkDay s) }
      mac := { s.mac with txfcLimit := 0, txfcRefill := true } }
    s1.put F.MAC_TXFC_NEXT 0
  else s.put F.CRY_STATUS_REASON 0x0BF7

/-- TXFC_RESTART (R292). -/
def execTxfcRestart (t : Nat) (s : State) : Out := .next (s.at t).txfcRestart

/-! ### Signatures and hashes (R299, R300) -/

/-- Queue an accepted SIG operation. -/
def State.sigQueueUp (s : State) (f : Fetched) (key : Nat) : State :=
  { s with cry := { s.cry with sigQueue := s.cry.sigQueue ++ [(⟨f, key⟩ : SigReq)] } }.syncCry

/-- What refuses every SIG request: the block disabled, or an alarm (R296). -/
def sigRefusal (s : State) : Option Nat :=
  if !s.en Blk.SIG then some 0x0CF0 else if s.on F.SEC_ALARM_ACTIVE then some 0x0B01 else none

/-- SIG_SIGN: the identity key must have been restored (R297, R300). -/
def State.sigSign (s : State) (f : Fetched) : State :=
  match sigRefusal s with
  | some c => s.refuse f.ring f.words c
  | none => if s.cry.identity = 0 then s.refuse f.ring f.words 0x0B03 else s.sigQueueUp f s.cry.identity

def execSigSign (t : Nat) (s : State) : Out := .next ((s.at t).onFetched 0x42 State.sigSign)

/-- SIG_VERIFY: a missing owner key is refused with 0x0C02. -/
def State.sigVerify (s : State) (f : Fetched) : State :=
  let k := wbits f.words 6 2 0
  let need := (if k = 7 then 57 else 0) + wbits f.words 7 15 0 + 114
  match sigRefusal s with
  | some c => s.refuse f.ring f.words c
  | none =>
      if k = 5 ∨ k = 6 ∨ f.buf.length ≠ need then s.refuse f.ring f.words 0x0CF6
      else if 1 ≤ k ∧ k ≤ 4 ∧ (s.cry.owners.getD (k - 1) none).isNone then s.refuse f.ring f.words 0x0C02
      else s.sigQueueUp f 0

def execSigVerify (t : Nat) (s : State) : Out := .next ((s.at t).onFetched 0x43 State.sigVerify)

/-- HASH: FIRST opens a context, LAST closes it. -/
def State.hashOp (s : State) (f : Fetched) : State :=
  let n := wbits f.words 6 10 0
  let c := wbits f.words 6 13 11
  let first := wbits f.words 6 14 14 == 1
  let last := wbits f.words 6 15 15 == 1
  match sigRefusal s with
  | some e => s.refuse f.ring f.words e
  | none =>
      if n < 1 ∨ 1024 < n then s.refuse f.ring f.words 0x0CF6
      else if (s.cry.contexts.getD c HashCtx.closed).isOpen == first then s.refuse f.ring f.words 0x0CF7
      else
        let ctx := modAt (fun x => { x with isOpen := !last }) s.cry.contexts c
        { s with cry := { s.cry with contexts := ctx } }.sigQueueUp f 0

def execHash (t : Nat) (s : State) : Out := .next ((s.at t).onFetched 0x44 State.hashOp)

/-- Where SIG_SIGN and HASH write their output: BUFFER + LENGTH rounded up to 4. -/
def sigOutAt (f : Fetched) : Nat := wordAt f.words 4 + wordAt f.words 5 * 2 ^ 32 + (f.buf.length + 3) / 4 * 4

/-- The bytes of an ASCII context string. -/
def asciiBytes (s : String) : List Byte := s.toList.map (fun c => BitVec.ofNat 8 c.toNat)

/-- The public key that a SIG_VERIFY names: the vendor's, an owner's, or the first 57 bytes of the buffer (R300). -/
def verifyKey (s : State) (f : Fetched) : List Byte :=
  let k := wbits f.words 6 2 0
  if k = 0 then Config.vendorKey else if k = 7 then f.buf.take 57 else (s.cry.owners.getD (k - 1) none).getD []

/-- Does a SIG_VERIFY's signature verify over its message?  DESIGN CHOICE: under the context of SIG_SIGN, as the spec names no
other (notes/assumptions/102.md). -/
def verifyOk (s : State) (f : Fetched) : Bool :=
  let b := if wbits f.words 6 2 0 = 7 then f.buf.drop 57 else f.buf
  let n := wbits f.words 7 15 0
  Config.ed448Verify (verifyKey s f) (asciiBytes "UARNAREN-HOST") (b.take n) (b.drop n)

/-- The running SIG operation ends. -/
def State.sigDone (s : State) (fail : Bool) : State :=
  match s.cry.sigQueue with
  | [] => s
  | q :: rest =>
      let s1 := { s with cry := { s.cry with sigQueue := rest } }.syncCry
      let f := q.f
      match wbits f.words 0 7 0 with
      | 0x42 =>
          if fail then s1.abortDma f
          else ((s1.count (F.SIG_CNT_COUNT 0)).bufWrite f.ring (sigOutAt f)
            (fit 114 (Config.ed448Sign q.key (asciiBytes "UARNAREN-HOST" ++ f.buf)))).done f.ring f.words
      | 0x43 =>
          let s2 := s1.count (F.SIG_CNT_COUNT 1)
          if verifyOk s f then s2.done f.ring f.words
          else ((s2.count (F.SIG_CNT_COUNT 2)).irq Blk.SIG 1).done f.ring f.words 0x0C01
      | _ =>
          let c := wbits f.words 6 13 11
          let input := (s.cry.contexts.getD c HashCtx.closed).input ++ f.buf
          let last := wbits f.words 6 15 15 == 1
          let ctx := modAt (fun x => { x with input := if last then [] else input }) s1.cry.contexts c
          let s2 := { s1 with cry := { s1.cry with contexts := ctx } }
          if !last then s2.done f.ring f.words
          else if fail then s2.abortDma f
          else ((s2.count (F.SIG_CNT_COUNT 3)).bufWrite f.ring (sigOutAt f)
            (fit (wbits f.words 6 10 0) (Config.shake256 input (wbits f.words 6 10 0)))).done f.ring f.words

/-- SIG_OPERATION_DONE (R299). -/
def execSigOperationDone (t : Nat) (fail : Bool) (s : State) : Out := .next ((s.at t).sigDone fail)

/-! ### Owner keys (R303, R304) -/

/-- Does the signature of an owner record verify under the present owner key that it names (R303)? -/
def ownerSigned (s : State) (r : List Byte) : Bool :=
  match s.cry.owners.getD (r.getD 1 0).toNat none with
  | some k => Config.ed448Verify k (asciiBytes "UARNAREN-OWNER") (r.take 68) (slice r 68 114)
  | none => false

/-- The checks of an owner record (R304). -/
def ownerRefusal (s : State) (r : List Byte) : Option Nat :=
  let i := (r.getD 0 0).toNat
  let signer := (r.getD 1 0).toNat
  let owned := s.on F.SIG_STATUS_OWNED
  let removal := (slice r 4 57).all (fun b => b == 0)
  if r.length ≠ 182 ∨ 3 < i ∨ (if owned then 3 < signer else signer ≠ 0xFF) ∨ leNat (slice r 2 2) ≠ 0 ∨ leNat (slice r 61 3) ≠ 0
      ∨ leNat (slice r 64 4) ≠ s.get F.SIG_OWNER_SEQ_SEQ + 1 then some 0x0CF6
  else if !removal && !Config.ed448Valid (slice r 4 57) then some 0x0C02
  else if owned then (if ownerSigned s r then none else some 0x0C03)
  else if removal then some 0x0C03
  else none

/-- The checks of OWNER_SET; an accepted change is written to the key store as for a persistent import (R304). -/
def State.ownerSet (s : State) (f : Fetched) : State :=
  match sigRefusal s with
  | some c => s.refuse f.ring f.words c
  | none => match ownerRefusal s f.buf with
    | some c => s.refuse f.ring f.words c
    | none =>
        let k := slice f.buf 4 57
        s.storeQueue f (.owner (f.buf.getD 0 0).toNat (if k.all (fun b => b == 0) then none else some k))

/-- Is an owner key being written? -/
def ownerPending (s : State) : Bool :=
  s.cry.storing.any (fun j => match j.entry with | .owner _ _ => true | .key _ => false)

/-- OWNER_SET; while an accepted change is being written, the next request waits for it (R299, R304). -/
def execOwnerSet (t : Nat) (s : State) : Out :=
  .next (if ownerPending (s.at t) then s.at t else (s.at t).onService 2 1 State.ownerSet)

/-! ### Alarms (R295 to R298) -/

/-- The debug session ends: the cores that were halted resume, and DEBUG_MUTE clears (R519, R520). -/
def State.endSession (s : State) : State :=
  if !s.cpx.session then s
  else
    let s1 := { s with cpx := { s.cpx with session := false, scope := 0, halted := [false, false, false, false] } }
    ((((s1.put F.CPX_STATUS_SESSION 0).put F.CPX_STATUS_HALTED 0).put F.CPX_DBG_DEBUG_MUTE 0).irq Blk.CPX 2).syncWatchdogs

/-- Every key, and every hash context, is zeroised; requests in flight abort, and so does a persistent write whose commit
record is not yet under way (Tables 9-4 and 9-6). -/
def State.zeroise (s : State) : State :=
  let s1 := (List.range 64).foldl (fun x n => x.wr (Reg.CRY_SLOT_ATTR n) 0) s
  let early := s.cry.storing.filter (fun j => j.step == 2)
  let inFlight := s.cry.queue.map (fun q => q.f) ++ s.cry.sigQueue.map (fun q => q.f) ++ early.map (fun j => j.f)
  let s2 := { s1 with cry := { s1.cry with
    vault := List.replicate 64 0, identity := 0, cache := [], queue := [], sigQueue := []
    storing := s1.cry.storing.filter (fun j => j.step != 2)
    restoreAgain := s1.cry.restoreAgain || s1.on F.SEC_STATUS_RESTORING
    contexts := List.replicate 8 HashCtx.closed } }
  let s3 := inFlight.foldl (fun x f => x.complete f.ring f.words 5 0x0B01) (s2.count (F.CRY_CNT_COUNT 3)
    (s.cry.queue.length + (early.filter (fun j => match j.entry with | .key _ => true | .owner _ _ => false)).length))
  (((s3.put F.CRY_STATUS_ERASED 1).put F.SEC_STATUS_RESTORING 0).irq Blk.CRY 4).syncCry

/-- May a source latch: a tamper input only while it is enabled (R295)? -/
def alarmEnabled (s : State) (src : Nat) : Bool :=
  match src with
  | 3 => s.on F.SEC_CFG_TAMP0_EN
  | 4 => s.on F.SEC_CFG_TAMP1_EN
  | n => decide (n ≤ 5)

/-- An alarm source latches (R295, R296). -/
def State.alarm (s : State) (src : Nat) : State :=
  if !alarmEnabled s src then s
  else
    let old := s.get F.SEC_ALARM_SRC
    let s1 := ((s.put F.SEC_ALARM_SRC (old ||| 2 ^ src)).put F.SEC_ALARM_ACTIVE 1).count F.SEC_STATUS_ALARMS
    let s2 := { s1 with cry := { s1.cry with alarmsEver := Nat.min 255 (s1.cry.alarmsEver + 1) } }
    let s3 := ((s2.irq Blk.SEC 1).fire 51).zeroise.endSession
    let s4 := s3.endAll (fun _ => true) 4 (0x1601 + src)
    if s.on F.SEC_CFG_ALARM_RESET then s4.deviceReset 10 else s4

/-- ALARM (R296). -/
def execAlarm (t src : Nat) (s : State) : Out := .next ((s.at t).alarm src)

/-- A restore starts (R297). -/
def State.startRestore (s : State) : State :=
  { s with cry := { s.cry with restoreAgain := false } }.put F.SEC_STATUS_RESTORING 1

/-- Writing 1 to alarm bits clears those whose condition has ended; when none is left the restore starts, with AUTO_RESTORE
or when an alarm has abandoned one (R297, R298). -/
def State.alarmClear (s : State) (mask present : Nat) : State :=
  let old := s.get F.SEC_ALARM_SRC
  let new := old &&& (63 - (mask &&& 63) ||| present)
  let s1 := s.put F.SEC_ALARM_SRC new
  if new ≠ 0 ∨ !s.on F.SEC_ALARM_ACTIVE then s1
  else
    let s2 := s1.put F.SEC_ALARM_ACTIVE 0
    if s.on F.SEC_CFG_AUTO_RESTORE || s.cry.restoreAgain then s2.startRestore else s2

/-- ALARM_CLEAR (R297); `present` has the bits of the sources whose condition still holds. -/
def execAlarmClear (t mask present : Nat) (s : State) : Out := .next ((s.at t).alarmClear mask (present % 64))

/-- KEY_RESTORE is ignored while an alarm is active (R297). -/
def State.keyRestore (s : State) : State := if s.on F.SEC_ALARM_ACTIVE then s else s.startRestore

def execKeyRestore (t : Nat) (s : State) : Out := .next (s.at t).keyRestore

/-- Load the persistent slots and the identity key from the key store; usage counters stay (R285, R289, R293). -/
def State.loadStore (s : State) : State :=
  let s1 := s.cry.store.foldl (fun (x : State) (k : StoreKey) =>
    { x.wr (Reg.CRY_SLOT_ATTR k.slot) (k.attr ||| (if (slotLimit (x.wr (Reg.CRY_SLOT_ATTR k.slot) k.attr) k.slot).any (fun l =>
        decide (l ≤ slotUse x k.slot)) then 16 else 0)) with
      cry := { x.cry with vault := modAt (fun _ => k.key) x.cry.vault k.slot } }) s
  { s1 with cry := { s1.cry with identity := s1.cry.storeIdentity } }

/-- The restore ends (R297, R298). -/
def State.restoreDone (s : State) : State :=
  if !s.on F.SEC_STATUS_RESTORING then s
  else ((s.loadStore.put F.SEC_STATUS_RESTORING 0).put F.CRY_STATUS_ERASED 0).irq Blk.SEC 2

def execKeyRestoreDone (t : Nat) (s : State) : Out := .next (s.at t).restoreDone

end Sys2Proof.Machine
end

