-- ==== Sys2Proof/Machine/Peripherals.lean ====
section
/-! DEFINITION. GPIO, serial interfaces, tamper inputs and the housekeeping ADC (R504, R521 to R529). -/

namespace Sys2Proof.Machine

/-! ### GPIO (R504, R521, R522) -/

def pinMask (pin : Nat) : Word := BitVec.ofNat 32 (2 ^ (pin % 32))

/-- Pins of word `k` that the latches drive: outputs without FUNC 1, by their level; an open-drain output drives low
only (R521, Table 18-3). -/
def drivenPins (s : State) (k : Nat) (level : Bool) : Word :=
  ((List.range 32).filter (fun i => let n := 32 * k + i
    decide (n < 40) && s.on (F.PER_PIN_DIR n) && !s.on (F.PER_PIN_FUNC n) &&
      (bits (s.rd (Reg.PER_GPIO_OUT k)).toNat i i == 1) == level && !(level && s.on (F.PER_PIN_OD n)))).foldl
    (fun w i => w ||| pinMask i) 0

/-- The pads of driven outputs show their latches while PER is enabled. -/
def State.drivePads (s : State) (k : Nat) : State :=
  if s.en Blk.PER then
    s.wr (Reg.PER_GPIO_IN k) ((s.rd (Reg.PER_GPIO_IN k) ||| drivenPins s k true) &&& ~~~drivenPins s k false)
  else s

/-- The output latches of word `k`, and the latch of a pin. -/
def State.writeLatches (s : State) (k : Nat) (w : Word) : State := (s.wr (Reg.PER_GPIO_OUT k) w).drivePads k
def State.setLatch (s : State) (pin : Nat) (f : Word → Word) : State :=
  s.writeLatches (pin / 32) (f (s.rd (Reg.PER_GPIO_OUT (pin / 32))))

/-- The ACTION of a task unit on the latch of its pin (R522). -/
def State.gpioAction (s : State) (u : Nat) : State :=
  let p := s.get (F.PER_GTSK_PIN u)
  let m := pinMask p
  if 39 < p ∨ !s.en Blk.PER then s
  else match s.get (F.PER_GTSK_ACTION u) with
    | 1 => s.setLatch p (fun w => w ||| m)
    | 2 => s.setLatch p (fun w => w &&& ~~~m)
    | 3 => s.setLatch p (fun w => w ^^^ m)
    | _ => s

/-- The task units that trigger in one cycle: of two on one pin, the lower-numbered applies (R522). -/
def State.gpioActions (s : State) (units : List Nat) : State :=
  (units.foldl (fun (x : State × List Nat) u =>
    let p := s.get (F.PER_GTSK_PIN u)
    if x.2.contains p then x else (x.1.gpioAction u, p :: x.2)) (s, [])).1

/-- A filtered edge on the pin of an event unit: the pad level changes, and the selected edge publishes (R522). -/
def State.gpioEdge (s : State) (u : Nat) (rising : Bool) : State :=
  let p := s.get (F.PER_GEVT_PIN u)
  let e := s.get (F.PER_GEVT_EDGE u)
  if 7 < u ∨ 39 < p then s
  else
    let w := s.rd (Reg.PER_GPIO_IN (p / 32))
    let s1 := s.wr (Reg.PER_GPIO_IN (p / 32)) (if rising then w ||| pinMask p else w &&& ~~~pinMask p)
    if s.en Blk.PER && ((rising && e % 2 == 1) || (!rising && decide (2 ≤ e))) then s1.fire (52 + u) else s1

/-- GPIO_EDGE (R522). -/
def execGpioEdge (t u : Nat) (rising : Bool) (s : State) : Out := .next ((s.at t).gpioEdge u rising)

/-- A mismatch between pad and driven level has persisted for 10 µs on an output (R504): pins 0 to 39 are the GPIO; for
FEM0 to FEM3, PA_EN and NFC_FD (40 to 45) the pin number of the record is open. -/
def State.outputShort (s : State) (pin : Nat) : State :=
  let r := if pin < 40 then (pin, s) else s.fresh (2 ^ 32)
  (r.2.irq Blk.PER 1).record 0x1400 0x1401 (w4 := r.1)

/-- OUTPUT_SHORT (R504). -/
def execOutputShort (t pin : Nat) (s : State) : Out := .next ((s.at t).outputShort pin)

/-! ### UART (R523) -/

def uartOf (s : State) (i : Nat) : Uart := s.per.uart.getD i ⟨[], []⟩
/-- Replace a UART's FIFOs; its counts follow. -/
def State.setUart (s : State) (i : Nat) (u : Uart) : State :=
  (({ s with per := { s.per with uart := modAt (fun _ => u) s.per.uart i } }).put (F.PER_UART_STATUS_RXN i) u.rx.length).put
    (F.PER_UART_STATUS_TXN i) u.tx.length
/-- Is a serial interface number present, and PER enabled? -/
def serialOn (s : State) (i : Nat) : Bool := s.en Blk.PER && decide (i < 2)

/-- A byte is queued; a full FIFO takes none (notes/assumptions/74.md). -/
def State.uartWrite (s : State) (i : Nat) (b : Byte) : State :=
  let u := uartOf s i
  if !serialOn s i || decide (32 ≤ u.tx.length) then s else s.setUart i { u with tx := u.tx ++ [b] }

/-- UART_DATA_WRITE (R523). -/
def execUartDataWrite (t i : Nat) (b : Byte) (s : State) : Out := .next ((s.at t).uartWrite i b)

/-- A read removes the next byte; what an empty FIFO presents is open. -/
def State.uartRead (s : State) (i : Nat) : State :=
  if !serialOn s i then s
  else match (uartOf s i).rx with
    | b :: r => (s.setUart i { uartOf s i with rx := r }).put (F.PER_UART_DATA_BYTE i) b.toNat
    | [] => let r := s.fresh 256; r.2.put (F.PER_UART_DATA_BYTE i) r.1

/-- UART_DATA_READ (R537). -/
def execUartDataRead (t i : Nat) (s : State) : Out := .next ((s.at t).uartRead i)

/-- A received byte enters the FIFO, or sets OVR; `bad` is a parity or framing error. -/
def State.uartReceive (s : State) (i : Nat) (b : Byte) (bad : Bool) : State :=
  if !serialOn s i then s
  else
    let s1 := if bad then s.put (F.PER_UART_STATUS_ERR i) 1 else s
    let v := if s.on (F.PER_UART_CFG_BITS7 i) then b &&& 0x7F else b
    let u := uartOf s i
    if 32 ≤ u.rx.length then s1.put (F.PER_UART_STATUS_OVR i) 1 else s1.setUart i { u with rx := u.rx ++ [v] }

/-- UART_RECEIVE (R523). -/
def execUartReceive (t i : Nat) (b : Byte) (bad : Bool) (s : State) : Out := .next ((s.at t).uartReceive i b bad)

/-- A byte has left. -/
def State.uartSent (s : State) (i : Nat) : State :=
  if !serialOn s i then s else s.setUart i { uartOf s i with tx := (uartOf s i).tx.drop 1 }

/-- UART_BYTE_SENT (R523). -/
def execUartByteSent (t i : Nat) (s : State) : Out := .next ((s.at t).uartSent i)

/-! ### SPI (R524) -/

def spiOf (s : State) (i : Nat) : Spi := s.per.spi.getD i ⟨[], [], none, false⟩
/-- Bytes of a frame, and frames that a 64-byte FIFO holds. -/
def spiWidth (s : State) (i : Nat) : Nat := match s.get (F.PER_SPI_CFG_WIDTH i) with | 0 => 1 | 1 => 2 | _ => 4
def State.setSpi (s : State) (i : Nat) (x : Spi) : State :=
  let w := spiWidth s i
  ((({ s with per := { s.per with spi := modAt (fun _ => x) s.per.spi i } }).put (F.PER_SPI_STATUS_RXN i) (x.rx.length * w)).put
    (F.PER_SPI_STATUS_TXN i) (x.tx.length * w)).put (F.PER_SPI_STATUS_BUSY i) x.shifting.isSome.toNat

/-- Start the next frame, or release the chip select when the FIFO is empty. -/
def Spi.next (x : Spi) : Spi :=
  match x.tx with
  | f :: r => { x with shifting := some f, tx := r, selected := true }
  | [] => { x with shifting := none, selected := false }

/-- Queue a frame; a full FIFO takes none (notes/assumptions/74.md). -/
def State.spiWrite (s : State) (i : Nat) (v : Word) : State :=
  let x := spiOf s i
  let w := spiWidth s i
  let f := BitVec.ofNat 32 (v.toNat % 256 ^ w)
  if !serialOn s i || decide (64 < (x.tx.length + 1) * w) then s
  else
    let y := { x with tx := x.tx ++ [f] }
    s.setSpi i (if x.shifting.isSome then y else y.next)

/-- SPI_DATA_WRITE (R524). -/
def execSpiDataWrite (t i : Nat) (v : Word) (s : State) : Out := .next ((s.at t).spiWrite i v)

/-- A read removes the next frame; what an empty FIFO presents is open. -/
def State.spiRead (s : State) (i : Nat) : State :=
  if !serialOn s i then s
  else match (spiOf s i).rx with
    | f :: r => (s.setSpi i { spiOf s i with rx := r }).wr (Reg.PER_SPI_DATA i) f
    | [] => let r := s.fresh (2 ^ 32); r.2.wr (Reg.PER_SPI_DATA i) (word r.1)

/-- SPI_DATA_READ (R537). -/
def execSpiDataRead (t i : Nat) (s : State) : Out := .next ((s.at t).spiRead i)

/-- A frame has shifted: the received one enters its FIFO while there is room, and the next starts. -/
def State.spiEnd (s : State) (i : Nat) (v : Word) : State :=
  let x := spiOf s i
  let w := spiWidth s i
  if x.shifting.isNone ∨ 2 ≤ i then s
  else
    let y := if 64 < (x.rx.length + 1) * w then x else { x with rx := x.rx ++ [BitVec.ofNat 32 (v.toNat % 256 ^ w)] }
    s.setSpi i y.next

/-- SPI_FRAME_END (R524). -/
def execSpiFrameEnd (t i : Nat) (v : Word) (s : State) : Out := .next ((s.at t).spiEnd i v)

/-! ### I2C (R525) -/

def i2cOf (s : State) (i : Nat) : I2c := s.per.i2c.getD i ⟨[], []⟩
def State.setI2c (s : State) (i : Nat) (x : I2c) : State :=
  { s with per := { s.per with i2c := modAt (fun _ => x) s.per.i2c i } }

/-- Writing CMD with GO starts a command; while one runs GO has no effect. -/
def State.i2cGo (s : State) (i : Nat) (v : Word) : State :=
  if 2 ≤ i then s
  else
    let s1 := s.wr (Reg.PER_I2C_CMD i) (v &&& 0x001FFFFF)
    if !serialOn s i || s.on (F.PER_I2C_STATUS_BUSY i) || bits v.toNat 31 31 == 0 then s1 else s1.put (F.PER_I2C_STATUS_BUSY i) 1

/-- I2C_GO (R525). -/
def execI2cGo (t i : Nat) (v : Word) (s : State) : Out := .next ((s.at t).i2cGo i v)

/-- An access to DATA moves a byte through its FIFO; what an empty FIFO presents is open. -/
def State.i2cData (s : State) (i : Nat) (write : Bool) (b : Byte) : State :=
  let x := i2cOf s i
  if !serialOn s i then s
  else if write then
    (if 16 ≤ x.tx.length && !s.on (F.PER_I2C_STATUS_BUSY i) then s else s.setI2c i { x with tx := x.tx ++ [b] })
  else match x.rx with
    | d :: r => (s.setI2c i { x with rx := r }).put (F.PER_I2C_DATA_BYTE i) d.toNat
    | [] => let r := s.fresh 256; r.2.put (F.PER_I2C_DATA_BYTE i) r.1

/-- I2C_DATA_ACCESS (R537). -/
def execI2cDataAccess (t i : Nat) (write : Bool) (b : Byte) (s : State) : Out := .next ((s.at t).i2cData i write b)

/-- A command ends: a read brings its bytes, a write has sent its COUNT bytes; NACK and ARB where they apply. -/
def State.i2cEnd (s : State) (i : Nat) (nack arb : Bool) (bytes : List Byte) : State :=
  if !serialOn s i || !s.on (F.PER_I2C_STATUS_BUSY i) then s
  else
    let n := s.get (F.PER_I2C_CMD_COUNT i)
    let x := i2cOf s i
    let y : I2c := if s.on (F.PER_I2C_CMD_READ i) then { x with rx := x.rx ++ bytes.take n } else { x with tx := x.tx.drop n }
    let s1 := (s.setI2c i y).put (F.PER_I2C_STATUS_BUSY i) 0
    let s2 := if nack then s1.put (F.PER_I2C_STATUS_NACK i) 1 else s1
    if arb then s2.put (F.PER_I2C_STATUS_ARB i) 1 else s2

/-- I2C_COMMAND_END (R525). -/
def execI2cCommandEnd (t i : Nat) (nack arb : Bool) (bytes : List Byte) (s : State) : Out :=
  .next ((s.at t).i2cEnd i nack arb bytes)

/-! ### Tamper inputs (R526) -/

/-- A tamper line has been tested: `line` as in R526, and the filtered input level.  With its alarm enabled an active
level or a line fault is an alarm; without it, each change is reported. -/
def State.tamperTest (s : State) (n line : Nat) (level : Bool) : State :=
  if 1 < n then s
  else
    let new := line % 4 + level.toNat * 4
    let old := bits (s.rd Reg.PER_TAMP).toNat (4 * n + 2) (4 * n)
    let s1 := s.wr Reg.PER_TAMP (word ((s.rd Reg.PER_TAMP).toNat - old * 16 ^ n + new * 16 ^ n))
    let enabled := s.on (if n = 0 then F.SEC_CFG_TAMP0_EN else F.SEC_CFG_TAMP1_EN)
    let pol := s.on (if n = 0 then F.SEC_CFG_TAMP0_POL else F.SEC_CFG_TAMP1_POL)
    if enabled then (if line % 4 != 0 || level == pol then s1.alarm (3 + n) else s1)
    else if new = old then s1
    else (s1.irq Blk.PER 2).record 0x1400 0x1403 (w4 := n) (w5 := (s1.rd Reg.PER_TAMP).toNat)

/-- TAMPER_TEST (R526). -/
def execTamperTest (t n line : Nat) (level : Bool) (s : State) : Out := .next ((s.at t).tamperTest n line level)

/-! ### Housekeeping ADC (R527 to R529) -/

/-- A conversion sequence starts, by HKA_CTL.START or task 108; a start during one is an overrun. -/
def State.hkaStart (s : State) : State :=
  if !s.en Blk.HKA then s
  else if s.on F.HKA_STATUS_BUSY then (s.irq Blk.HKA 4).put F.HKA_STATUS_REASON 0x1502
  else (s.put F.HKA_STATUS_BUSY 1).put F.HKA_STATUS_ENTRY 0

/-- HKA_START (R528). -/
def execHkaStart (t : Nat) (s : State) : Out := .next (s.at t).hkaStart

/-- LINE of a checked entry from its three conversions: plain, with 1 µA, with 100 µA (R529). -/
def lineOf (plain weak strong : Nat) : Nat :=
  let diff := if plain ≤ strong then strong - plain else plain - strong
  if 5 * 16384 < (weak - plain) * 12 then 1
  else if diff * 1200 < 5 * 16384 then (if plain * 12 < 16384 then 2 else 3)
  else 0

/-- Is a result outside the limits of its channel?  Channel 12 compares as signed (R528). -/
def outOfLimits (s : State) (ch v : Nat) : Bool :=
  let lo := s.get (F.HKA_LIMIT_LO ch)
  let hi := s.get (F.HKA_LIMIT_HI ch)
  if ch = 12 then decide (signed 16 v < signed 16 lo) || decide (signed 16 hi < signed 16 v)
  else decide (v < lo) || decide (hi < v)

/-- One entry of the sequence ends with its conversions. -/
def State.hkaEntry (s : State) (j : Nat) (r : Nat × Nat × Nat) : State :=
  let ch := s.get (F.HKA_SEQ_CH j)
  let v := r.1 % 65536
  let check := s.on (F.HKA_SEQ_CHECK j) && decide (ch < 8)
  let line := if check then lineOf v r.2.1 r.2.2 else s.get (F.HKA_RESULT_LINE ch)
  if 12 < ch then s
  else
    let s1 := (s.put (F.HKA_RESULT_VALUE ch) v).put (F.HKA_RESULT_LINE ch) line
    let s2 := if outOfLimits s ch v then (s1.irq Blk.HKA 2).fire 49 else s1
    if check && line != 0 then (s2.irq Blk.HKA 8).record 0x1500 0x1501 (w4 := ch + line * 256) else s2

/-- The entries of a sequence from `j` on. -/
def State.hkaEntries (s : State) (j : Nat) : List (Nat × Nat × Nat) → State
  | [] => s
  | r :: rest => if j < s.get F.HKA_CFG_LEN then (s.hkaEntry j r).hkaEntries (j + 1) rest else s

/-- The sequence ends; `results` holds the mean conversions of its entries (R528). -/
def State.hkaDone (s : State) (results : List (Nat × Nat × Nat)) : State :=
  if !s.on F.HKA_STATUS_BUSY then s
  else (((s.hkaEntries 0 results).put F.HKA_STATUS_BUSY 0).irq Blk.HKA 1).fire 48

/-- HKA_SEQUENCE_DONE (R528). -/
def execHkaSequenceDone (t : Nat) (results : List (Nat × Nat × Nat)) (s : State) : Out := .next ((s.at t).hkaDone results)

end Sys2Proof.Machine
end

