-- ==== Sys2Proof/Machine/Events.lean ====
section
/-! DEFINITION. The event fabric: channels, groups, tasks, coincidence, skein-wide channels and the loop monitor; and the
timer bank (R440 to R460). -/

namespace Sys2Proof.Machine

/-! ### Timer bank (R454 to R459) -/

/-- One AON bus cycle in timestamp units (Table 15-1), and the cycle of an instant. -/
def aonU : Nat := 2048
def aonCycle (u : Nat) : Nat := u / aonU

def tmbRun (s : State) (n : Nat) : Bool := s.on (F.TMB_CH_STATUS_RUN n)

/-- The count and the RUN bit with which channel `n` entered this cycle. -/
def snapOf (s : State) (n : Nat) : TmbSnap :=
  match s.tmb.snaps.getD n none with
  | some x => if x.cycle = aonCycle s.now then x else ⟨aonCycle s.now, s.get (F.TMB_CH_COUNT_COUNT n), tmbRun s n, false⟩
  | none => ⟨aonCycle s.now, s.get (F.TMB_CH_COUNT_COUNT n), tmbRun s n, false⟩

/-- Keep what channel `n` held before the first input of this AON bus cycle. -/
def State.snapTimer (s : State) (n : Nat) : State :=
  { s with tmb := { s.tmb with snaps := modAt (fun _ => some (snapOf s n)) s.tmb.snaps n } }

/-- COUNT = PHASE, and the prescaler restarts: the first tick comes 2^PRESC AON bus cycles later (R454). -/
def State.loadTimer (s : State) (n : Nat) : State :=
  let s1 := s.put (F.TMB_CH_COUNT_COUNT n) (s.get (F.TMB_CH_PHASE_PHASE n))
  { s1 with tmb := { s1.tmb with
    tickAt := modAt (fun _ => (aonCycle s1.now + 2 ^ s1.get (F.TMB_CH_CTL_PRESC n)) * aonU) s1.tmb.tickAt n } }

/-- CAPTURE comes first in its cycle: it copies the count with which the cycle began. -/
def State.timerCapture (s : State) (n : Nat) : State := s.put (F.TMB_CH_CAPTURE_VALUE n) (snapOf s n).count
/-- RELOAD. -/
def State.timerReload (s : State) (n : Nat) : State := (s.snapTimer n).loadTimer n
/-- START: no effect if RUN was 1 as the cycle began; a STOP of the same cycle comes after it. -/
def State.timerStart (s : State) (n : Nat) : State :=
  let x := snapOf s n
  if x.run then s
  else
    let s1 := (s.snapTimer n).loadTimer n
    if x.stopped then s1 else s1.put (F.TMB_CH_STATUS_RUN n) 1
/-- STOP: RUN is 0 and COUNT holds. -/
def State.timerStop (s : State) (n : Nat) : State :=
  let s1 := (s.snapTimer n).put (F.TMB_CH_STATUS_RUN n) 0
  { s1 with tmb := { s1.tmb with snaps := modAt (fun x => x.map (fun (y : TmbSnap) => { y with stopped := true })) s1.tmb.snaps n } }

/-- The channels of a mask. -/
def maskChannels (v : Word) : List Nat := (List.range 16).filter (fun n => bits v.toNat n n == 1)

/-- The group registers act on every channel of their mask while TMB is enabled (R454). -/
def State.timerGroup (s : State) (v : Word) (f : State → Nat → State) : State :=
  if s.en Blk.TMB then (maskChannels v).foldl f s else s

/-- GSTART (R454). -/
def execGstart (t : Nat) (v : Word) (s : State) : Out := .next ((s.at t).timerGroup v State.timerStart)
/-- GSTOP (R454). -/
def execGstop (t : Nat) (v : Word) (s : State) : Out := .next ((s.at t).timerGroup v State.timerStop)
/-- GRELOAD (R454). -/
def execGreload (t : Nat) (v : Word) (s : State) : Out := .next ((s.at t).timerGroup v State.timerReload)

/-- The k-th channel of the mask takes PHASE floor(k × (PERIOD + 1) ÷ m) (R459). -/
def State.stagger (s : State) (v : Word) : State :=
  let l := maskChannels v
  ((List.range l.length).zip l).foldl (fun x p =>
    x.put (F.TMB_CH_PHASE_PHASE p.2) (p.1 * (s.get (F.TMB_CH_PERIOD_PERIOD p.2) + 1) / l.length)) s

/-- STAGGER (R459). -/
def execStagger (t : Nat) (v : Word) (s : State) : Out := .next ((s.at t).stagger v)

/-- One tick of channel `n` (R454, R456, R457, R458). -/
def State.timerTick (s : State) (n : Nat) : State :=
  if !s.en Blk.TMB || !tmbRun s n || decide (s.now < s.tmb.tickAt.getD n 0) then s
  else
    let c := s.get (F.TMB_CH_COUNT_COUNT n)
    let p := s.get (F.TMB_CH_PERIOD_PERIOD n)
    let next := if c < p then c + 1 else 0
    let s1 := { s.put (F.TMB_CH_COUNT_COUNT n) next with tmb := { s.tmb with
      tickAt := modAt (fun a => a + aonU * 2 ^ s.get (F.TMB_CH_CTL_PRESC n)) s.tmb.tickAt n } }
    let s2 := if next = s.get (F.TMB_CH_COMPARE_COMPARE n) then s1.fire n else s1
    let s3 := if c < p then s2 else s2.fire (16 + n)
    let s4 := if p < c then (s3.irq Blk.TMB (2 ^ n)).put (F.TMB_CH_STATUS_REASON n) 0x1201 else s3
    if decide (p ≤ c) && s.on (F.TMB_CH_CTL_ONESHOT n) then s4.put (F.TMB_CH_STATUS_RUN n) 0 else s4

/-- TIMER_TICK (R454). -/
def execTimerTick (t n : Nat) (s : State) : Out := .next (if 16 ≤ n then s.at t else (s.at t).timerTick n)

/-- A write of CTL: PRESC is ignored while RUN is 1, with 0x1202 (R458). -/
def State.timerCtl (s : State) (n : Nat) (v : Word) : State :=
  let s1 := s.put (F.TMB_CH_CTL_ONESHOT n) (bits v.toNat 4 4)
  if tmbRun s n then (s1.irq Blk.TMB (2 ^ (16 + n))).put (F.TMB_CH_STATUS_REASON n) 0x1202
  else s1.put (F.TMB_CH_CTL_PRESC n) (bits v.toNat 3 0)

/-- TIMER_CTL_WRITE (R458). -/
def execTimerCtlWrite (t n : Nat) (v : Word) (s : State) : Out :=
  .next (if 16 ≤ n then s.at t else (s.at t).timerCtl n v)

/-! ### Groups (R441, R442) -/

/-- The fabric cycle of an AON local instant: 49.152 MHz in RUN and DOZE, the AON bus clock otherwise (R443).  The last
bit tells the two clocks apart. -/
def fabricCycle (s : State) (u : Nat) : Nat :=
  if s.on F.EVF_STATUS_FAST then 2 * (u * 1500 / 65536) + 1 else 2 * (u / aonU)

/-- The group of a channel. -/
def groupOf (ch : Nat) : Nat := if ch < 128 then ch / 8 else (ch - 128) / 2

/-- Is a group enabled as cycle `c` begins (R441)? -/
def groupEnabled (s : State) (c g : Nat) : Bool :=
  bits (if c = s.evf.groupCycle then s.evf.groupOld else s.get F.EVF_GROUPS_EN) g g == 1

/-- A change in cycle `c`: of an enable and a disable of one group in one cycle, the disable wins (R442). -/
def State.groupChange (s : State) (c enable disable : Nat) : State :=
  let s1 := if c = s.evf.groupCycle then s
    else { s with evf := { s.evf with groupCycle := c, groupOld := s.get F.EVF_GROUPS_EN, disabled := 0 } }
  let off := s1.evf.disabled ||| disable
  let s2 := { s1 with evf := { s1.evf with disabled := off } }
  s2.put F.EVF_GROUPS_EN ((s.get F.EVF_GROUPS_EN ||| enable) &&& (0xFFFF - off % 65536))

/-- GRP_SET enables groups and clears their LATCH (R442). -/
def State.grpSet (s : State) (v : Word) : State :=
  let m := v.toNat % 65536
  (s.groupChange (fabricCycle s s.now) m 0).put F.EVF_LOOP_LATCH (s.get F.EVF_LOOP_LATCH &&& (65535 - m))

def execGrpSet (t : Nat) (v : Word) (s : State) : Out := .next ((s.at t).grpSet v)

/-- GRP_CLR disables groups (R442). -/
def State.grpClr (s : State) (v : Word) : State := s.groupChange (fabricCycle s s.now) 0 (v.toNat % 65536)

def execGrpClr (t : Nat) (v : Word) (s : State) : Out := .next ((s.at t).grpClr v)

/-! ### Tasks (R446, R449) -/

/-- The network time at an AON local instant near the present one. -/
def netAt (s : State) (u : Nat) : Nat := ((s.net : Int) + ((u : Int) - s.now)).toNat % 2 ^ 64

/-- The AON local instant at which fabric cycle `c + 2` begins. -/
def capAt (c : Nat) : Nat :=
  if c % 2 = 1 then ((c / 2 + 2) * 65536 + 1499) / 1500 else (c / 2 + 2) * aonU

/-- The number by which the RFE capture trigger is kept among the tasks (R226, R446). -/
def rfeTask : Nat := 128

/-- The effect of task `t` (Table 15-3), triggered in fabric cycle `c`.  The GPIO task units act together. -/
def State.taskEffect (c : Nat) (s : State) (t : Nat) : State :=
  if t < 16 then (if s.en Blk.TMB then s.timerStart t else s)
  else if t < 32 then (if s.en Blk.TMB then s.timerStop (t - 16) else s)
  else if t < 48 then (if s.en Blk.TMB then s.timerReload (t - 32) else s)
  else if t < 64 then (if s.en Blk.TMB then s.timerCapture (t - 48) else s)
  else if t < 80 then
    (if bits (s.get F.EVF_LOOP_LATCH) (t - 64) (t - 64) = 1 then s else s.groupChange c (2 ^ (t - 64)) 0)
  else if t < 96 then s.groupChange c 0 (2 ^ (t - 80))
  else if t < 100 then s.wr64 (Reg.EVF_TSCAP (t - 96)) (netAt s (capAt c))
  else if t < 108 then (s.irq Blk.EVF (2 ^ (t - 100))).plic (56 + (t - 100))
  else if t = 108 then s.hkaStart
  else if t = rfeTask then s.captureStart
  else s

/-- The GPIO task units of a list of tasks. -/
def gpioUnits (ts : List Nat) : List Nat := (ts.filter (fun t => decide (109 ≤ t) && decide (t ≤ 116))).map (fun t => t - 109)

/-- The effects of the tasks that trigger together, in the order CAPTURE, RELOAD, START, STOP for the timers (R454). -/
def State.effects (s : State) (c : Nat) (ts : List Nat) : State :=
  let band := fun lo hi => ts.filter (fun t => decide (lo ≤ t) && decide (t < hi))
  let ordered := band 48 64 ++ band 32 48 ++ band 0 16 ++ band 16 32 ++ band 64 109 ++ ts.filter (fun t => t == rfeTask)
  (ordered.foldl (State.taskEffect c) s).gpioActions (gpioUnits ts)

/-- Do the islands outside AON take events: they run, and their domains are not held (R17, R478)? -/
def islandsRun (s : State) : Bool := awake s && !s.on F.CLK_STATUS_HELD

/-- Is the island of a task's consumer running?  The timer bank and the fabric are in the AON island. -/
def consumerRuns (s : State) (t : Nat) : Bool := decide (t < 108) || islandsRun s

/-- The cycle of a task's consumer: the AON bus clock for timers, the fabric's or the peripheral clock for others. -/
def consumerCycle (s : State) (c u t : Nat) : Nat := if t < 64 then aonCycle u else if t < 108 then c else fabricCycle s u

/-- Tasks subscribed to a channel, the RFE capture trigger among them. -/
def subscribers (s : State) (ch : Nat) : List Nat :=
  (List.range 117).filter (fun t => s.on (F.EVF_SUB_EN t) && s.get (F.EVF_SUB_CHANNEL t) == ch) ++
  (if s.on F.RFE_CAP_CTL_TRIG_EN && s.get F.RFE_CAP_CTL_EVC == ch then [rfeTask] else [])

/-- Merge a firing into the trigger of a task's present consumer cycle, or make a trigger of it (R449). -/
def State.reach (c u : Nat) (x : State × List Nat) (t : Nat) : State × List Nat :=
  let s := x.1
  let k := consumerCycle s c u t
  if s.evf.lastTrigger.any (fun p => p.1 == t && p.2 == k) || s.evf.waiting.contains t then
    (if t < 117 then s.count (F.EVF_COINC_COUNT t) else s, x.2)
  else
    let s1 := { s with evf := { s.evf with lastTrigger := (t, k) :: s.evf.lastTrigger.filter (fun p => p.1 != t) } }
    let s2 := s1.count (F.EVF_CNT_COUNT 5)
    if consumerRuns s t then (s2, x.2 ++ [t]) else ({ s2 with evf := { s2.evf with waiting := s2.evf.waiting ++ [t] } }, x.2)

/-- The subscribed tasks of a channel that fires in cycle `c` at instant `u`. -/
def State.trigger (s : State) (ch c u : Nat) : State :=
  let r := (subscribers s ch).foldl (State.reach c u) (s, [])
  r.1.effects c r.2

/-! ### Loops (R453) -/

/-- A channel trips the loop monitor: its group is disabled and latched. -/
def State.trip (s : State) (ch c : Nat) : State :=
  let g := groupOf ch
  let s1 := ((s.groupChange c 0 (2 ^ g)).put F.EVF_LOOP_LATCH (s.get F.EVF_LOOP_LATCH ||| 2 ^ g)).put F.EVF_LOOP_CHANNEL ch
  ((s1.irq Blk.EVF (2 ^ 8)).count (F.EVF_CNT_COUNT 2)).record 0x1100 0x1101 (ch + g * 65536)

/-- Is `a` within the monitor window that ends at `u`? -/
def inMonitor (s : State) (u a : Nat) : Bool := decide ((u - a) * 1000000 < s.get F.EVF_MON_WIN_US * secondU)

/-- The spacing of event cells: half a tick, or four ticks while the tree ports run at the low rate (R315). -/
def cellU (s : State) : Nat :=
  if !(treePorts s).isEmpty && (treePorts s).all (fun p => s.on (F.SKN_PORT_STATUS_LOW_RATE p)) then 4 * tickU else tickU / 2

/-- Consecutive event cells in which skein channel `n` has fired, this firing included. -/
def skRun (s : State) (n cell : Nat) : Nat :=
  match s.evf.skRuns.find? (fun x => x.1 == n) with
  | some x => if x.2.1 = cell then x.2.2 else if x.2.1 + 1 = cell then x.2.2 + 1 else 1
  | none => 1

/-! ### Firings -/

/-- Two publishes onto one channel in one cycle make one firing; none while the channel's group is disabled. -/
def State.arrive (s : State) (ch c : Nat) : Option State × State :=
  if s.evf.lastFire.any (fun p => p.1 == ch && p.2 == c) then (none, s.count (F.EVF_CNT_COUNT 0))
  else
    let s1 := { s with evf := { s.evf with lastFire := (ch, c) :: s.evf.lastFire.filter (fun p => p.1 != ch) } }
    if !groupEnabled s c (groupOf ch) then (none, s1.count (F.EVF_CNT_COUNT 1)) else (some s1, s1)

/-- SKCn fires at this device (R451, R452). -/
def State.fireSkein (c u : Nat) (s : State) (n : Nat) : State :=
  match s.arrive (128 + n) c with
  | (none, s1) => s1
  | (some s1, _) =>
      let cell := netAt s1 u / cellU s1
      let run := skRun s1 n cell
      let s2 := { s1 with evf := { s1.evf with skRuns := (n, cell, run) :: s1.evf.skRuns.filter (fun x => x.1 != n) } }
      let s3 := s2.trigger (128 + n) c u
      let lim := s3.get F.EVF_MON_SK_CELLS
      if lim ≠ 0 ∧ lim ≤ run then s3.trip (128 + n) c else s3

/-- The skein channels that a local channel is bound to while their groups are enabled (R451). -/
def boundTo (s : State) (c ch : Nat) : List Nat :=
  (List.range 32).filter (fun n => s.on (F.EVF_SKPUB_EN n) && s.get (F.EVF_SKPUB_SOURCE n) == ch && groupEnabled s c (n / 2))

/-- Bit `n` of the next event cell on every tree port, while SKN is enabled (R451). -/
def State.originate (s : State) (n : Nat) : State :=
  if !s.en Blk.SKN then s
  else s.forwardSkc (BitVec.ofNat 32 (2 ^ n)) 3

/-- A publish onto local channel `ch` in cycle `c` at instant `u`. -/
def State.publish (s : State) (ch c u : Nat) : State :=
  match s.arrive ch c with
  | (none, s1) => s1
  | (some s1, _) =>
      let kept := s1.evf.recent.filter (fun x => inMonitor s1 u x.2)
      let s2 := { s1 with evf := { s1.evf with recent := (ch, u) :: kept } }
      if s.get F.EVF_MON_LIMIT ≤ (kept.filter (fun x => x.1 == ch)).length + 1 then s2.trip ch c
      else
        let l := boundTo s2 c ch
        l.foldl (fun x n => (State.fireSkein c u x n).originate n) (s2.trigger ch c u)

/-- The oldest event publishes on its channel; triggers that waited for a stopped island come first, and events that
occur while EVF is disabled are lost (R444 to R446). -/
def State.eventFire (s : State) : State :=
  if !s.evf.waiting.isEmpty && islandsRun s then
    { s with evf := { s.evf with waiting := [] } }.effects (fabricCycle s s.now) s.evf.waiting
  else match s.evf.raised with
    | [] => s
    | (e, u) :: rest =>
        let s1 := { s with evf := { s.evf with raised := rest } }
        if s.en Blk.EVF && decide (e < 60) && s.on (F.EVF_PUB_EN e) then
          s1.publish (s.get (F.EVF_PUB_CHANNEL e)) (fabricCycle s u) u
        else s1

/-- EVENT_FIRE (R446). -/
def execEventFire (t : Nat) (s : State) : Out := .next (s.at t).eventFire

/-- One bit of a SWFIRE write: a channel bound to a skein channel is ignored (R450). -/
def State.swBit (c : Nat) (s : State) (ch : Nat) : State :=
  if (List.range 32).any (fun n => s.on (F.EVF_SKPUB_EN n) && s.get (F.EVF_SKPUB_SOURCE n) == ch) then
    ((s.count (F.EVF_CNT_COUNT 4)).irq Blk.EVF (2 ^ 9)).put F.EVF_STATUS_LAST_REASON 0x1102
  else s.publish ch c s.now

/-- SWFIRE fires its channels in the next fabric cycle (R450). -/
def State.swfire (s : State) (k : Nat) (v : Word) : State :=
  if !s.en Blk.EVF ∨ 4 ≤ k then s
  else (((List.range 32).filter (fun i => bits v.toNat i i == 1)).map (fun i => 32 * k + i)).foldl
    (State.swBit (fabricCycle s s.now + 2)) s

def execSwfire (t k : Nat) (v : Word) (s : State) : Out := .next ((s.at t).swfire k v)

/-! ### Writes of EVF_PUB and EVF_SUB (R448) -/

/-- Would a write of a PUB or SUB register be invalid: a channel above 159, or a reserved event or task enabled? -/
def pubSubBad (a : Nat) (v : Word) : Bool :=
  let o := a % 0x10000
  let en := bits v.toNat 31 31 == 1
  if 0x200 ≤ o ∧ o < 0x300 then en && decide (60 ≤ (o - 0x200) / 4)
  else if 0x400 ≤ o ∧ o < 0x600 then decide (159 < bits v.toNat 7 0) || (en && decide (117 ≤ (o - 0x400) / 4))
  else false

/-- Is an address one of EVF_PUB or EVF_SUB? -/
def isPubSub (a : Nat) : Bool :=
  decide (blockOf a = 0x11) && a % 4 == 0 &&
    (let o := a % 0x10000; (decide (0x200 ≤ o) && decide (o < 0x300)) || (decide (0x400 ≤ o) && decide (o < 0x600)))

/-- An invalid write is ignored while EVF is enabled (R448). -/
def State.pubSubWrite (s : State) (a : Nat) (v : Word) : State :=
  if !isPubSub a then s
  else if s.en Blk.EVF && pubSubBad a v then s.put F.EVF_STATUS_LAST_REASON 0x11F6
  else s.writeByCode a v

/-- PUB_SUB_WRITE (R448). -/
def execPubSubWrite (t a : Nat) (v : Word) (s : State) : Out := .next ((s.at t).pubSubWrite a v)

/-! ### Event cells (R315, R452) -/

/-- A new path notice is noted and forwarded; TREE_LOST from the upstream orphans, and ATTACH gives a device without a
path its upstream back (R315, Table 10-4). -/
def State.pathNotice (s : State) (p kind origin seq : Nat) : State :=
  if kind ≠ 1 ∧ kind ≠ 2 ∨ s.skn.seen.any (fun x => x.1 == origin && x.2 == seq) then s
  else
    let s1 := ({ s with skn := { s.skn with seen := (origin, seq) :: s.skn.seen.filter (fun x => x.1 != origin) } }).spreadNotice
      ⟨kind, origin, seq⟩ p
    if kind = 1 then (if sknState s1 = 3 ∧ upPort s1 = p then s1.orphan false else s1)
    else if sknState s1 = 5 ∨ sknState s1 = 6 ∨ (sknState s1 = 2 ∧ s1.skn.fromOrphan) then s1.attach (some p) true
    else s1

/-- An event cell arrives on port `p` (R452). -/
def State.eventCell (s : State) (p : Nat) (valid : Bool) (skc : Word) (kind origin seq : Nat) : State :=
  if !(treePorts s).contains p then s
  else if !valid then (if s.en Blk.EVF then s.count (F.EVF_CNT_COUNT 3) else s)
  else
    let s1 := (s.forwardSkc skc p).pathNotice p kind (origin % 1024) (seq % 256)
    if !s.en Blk.EVF then s1
    else ((List.range 32).filter (fun n => bits skc.toNat n n == 1)).foldl
      (State.fireSkein (fabricCycle s s.now) s.now) s1

/-- EVENT_CELL_RECEIVED (R452). -/
def execEventCellReceived (t p : Nat) (valid : Bool) (skc : Word) (kind origin seq : Nat) (s : State) : Out :=
  .next ((s.at t).eventCell p valid skc kind origin seq)

end Sys2Proof.Machine
end

