-- ==== Sys2Proof/Machine/Supply.lean ====
section
/-! DEFINITION. Supply events, power states, wake sources, reset triggers and the watchdogs (R479, R485 to R501, R514). -/

namespace Sys2Proof.Machine

/-! ### Watchdogs (R500, R514) -/

/-- A write of SYS_WDT_CFG: PERIOD_S unless LOCK is set; LOCK once set stays (R500). -/
def State.sysWdtWrite (s : State) (v : Word) : State :=
  let p := bits v.toNat 7 0
  let s1 := if s.on F.SYS_WDT_CFG_LOCK then s else s.put F.SYS_WDT_CFG_PERIOD_S p
  let s2 := if bits v.toNat 8 8 = 1 then s1.put F.SYS_WDT_CFG_LOCK 1 else s1
  let s3 := if s2.on F.SYS_WDT_CFG_PERIOD_S then s2 else { s2 with cpx := { s2.cpx with sysWdt := Watchdog.reset } }
  s3.syncWatchdogs

/-- WDT_LOCK: a write of SYS_WDT_CFG with LOCK (R500). -/
def execWdtLock (t : Nat) (v : Word) (s : State) : Out :=
  .next (if bits v.toNat 8 8 = 1 then (s.at t).sysWdtWrite v else s.at t)

/-- A write of CPX_WDT_CFG, in the same way (R514). -/
def State.coreWdtWrite (s : State) (v : Word) : State :=
  let p := bits v.toNat 15 0
  let s1 := if s.on F.CPX_WDT_CFG_LOCK then s else s.put F.CPX_WDT_CFG_PERIOD_MS p
  let s2 := if bits v.toNat 16 16 = 1 then s1.put F.CPX_WDT_CFG_LOCK 1 else s1
  let s3 := if s2.on F.CPX_WDT_CFG_PERIOD_MS then s2 else { s2 with cpx := { s2.cpx with coreWdt := Watchdog.reset } }
  s3.syncWatchdogs

/-- A write to SYS_WDT_KICK: the key restarts the count, any other value counts as expiry (R500). -/
def State.wdtKick (s : State) (v : Word) : State :=
  if v = 0x4B1C then ({ s with cpx := { s.cpx with sysWdt := Watchdog.reset } }).syncWatchdogs else s.deviceReset 8

/-- WDT_KICK (R500). -/
def execWdtKick (t : Nat) (v : Word) (s : State) : Out := .next ((s.at t).wdtKick v)

/-- Half of the period has passed (R500). -/
def State.wdtHalf (s : State) : State :=
  let p := s.get F.SYS_WDT_CFG_PERIOD_S
  if p ≠ 0 ∧ p * secondU ≤ 2 * s.cpx.sysWdt.elapsed s.now then s.irq Blk.SYS 1 else s

/-- WDT_HALF (R500). -/
def execWdtHalf (t : Nat) (s : State) : Out := .next (s.at t).wdtHalf

/-- The system watchdog expires (R500). -/
def State.wdtSystem (s : State) : State :=
  let p := s.get F.SYS_WDT_CFG_PERIOD_S
  if p ≠ 0 ∧ p * secondU ≤ s.cpx.sysWdt.elapsed s.now then s.deviceReset 8 else s

/-- WDT_SYSTEM (R500). -/
def execWdtSystem (t : Nat) (s : State) : Out := .next (s.at t).wdtSystem

/-- A write to CPX_WDT_KICK (R514). -/
def State.coreKick (s : State) (v : Word) : State :=
  if v = 0x6C3E then ({ s with cpx := { s.cpx with coreWdt := Watchdog.reset } }).syncWatchdogs else s.appReset 7

/-- CORE_WDT_KICK (R514). -/
def execCoreWdtKick (t : Nat) (v : Word) (s : State) : Out := .next ((s.at t).coreKick v)

/-- The core watchdog expires (R514). -/
def State.wdtCore (s : State) : State :=
  let p := s.get F.CPX_WDT_CFG_PERIOD_MS
  if p ≠ 0 ∧ msU p ≤ s.cpx.coreWdt.elapsed s.now then s.appReset 7 else s

/-- WDT_CORE (R514). -/
def execWdtCore (t : Nat) (s : State) : Out := .next (s.at t).wdtCore

/-! ### Software resets (R501) -/

/-- A write to SYS_CTL takes effect only with its key; RESET goes before APP_RESET. -/
def State.sysCtlWrite (s : State) (v : Word) : State :=
  let w := v.toNat
  if bits w 31 16 ≠ 0xD1A6 then s
  else if bits w 0 0 = 1 then s.deviceReset 11
  else if bits w 1 1 = 1 then s.appReset 11
  else s

/-- SOFT_RESET (R501): a write of SYS_CTL with RESET. -/
def execSoftReset (t : Nat) (v : Word) (s : State) : Out := .next ((s.at t).sysCtlWrite v)

/-- SOFT_APP_RESET (R501): a write of SYS_CTL with APP_RESET. -/
def execSoftAppReset (t : Nat) (v : Word) (s : State) : Out := .next ((s.at t).sysCtlWrite v)

/-- DEVICE_RESET: a device reset with a CAUSE of Table 17-6 (R498). -/
def execDeviceReset (t cause : Nat) (s : State) : Out :=
  .next (if cause = 0 ∨ 13 < cause ∨ cause = 7 then s.at t else (s.at t).deviceReset cause)

/-- APPLICATION_RESET: an application-island reset, by the core watchdog, software or the skein head (R19). -/
def execApplicationReset (t cause : Nat) (s : State) : Out :=
  .next (if cause = 7 ∨ cause = 11 ∨ cause = 12 then (s.at t).appReset cause else s.at t)

/-! ### RESET_N (R499) -/

/-- RESET_N has been low for 2 µs, or rises: a low level resets the device and holds it in reset. -/
def State.resetPin (s : State) (low : Bool) : State :=
  if !low then { s with sup := { s.sup with pinLow := none } }
  else if s.sup.pinLow.isSome ∨ s.sup.power = .off then s
  else { (s.deviceReset 4) with sup := { (s.deviceReset 4).sup with pinLow := some s.now } }

/-- RESET_PIN (R499). -/
def execResetPin (t : Nat) (low : Bool) (s : State) : Out := .next ((s.at t).resetPin low)

/-- A power-on reset; IOSEL is sampled (R489, R491). -/
def State.powerOnReset (s : State) (iosel : Nat) (long : Bool) : State :=
  let s1 := ({ s with sup := { s.sup with iosel := iosel % 3 } }.deviceReset 1).put F.SYS_RST_PIN_LONG long.toNat
  { s1 with hre := { s1.hre with atEnable := resetRecords s1 1 } }

/-- RESET_N has been low for 8 s: a power-on reset with PIN_LONG (R499). -/
def State.resetPinLong (s : State) (iosel : Nat) : State :=
  match s.sup.pinLow with
  | some a => if a + 8 * secondU ≤ s.now ∧ !s.on F.SYS_RST_PIN_LONG then s.powerOnReset iosel true else s
  | none => s

/-- RESET_PIN_LONG (R499). -/
def execResetPinLong (t iosel : Nat) (s : State) : Out := .next ((s.at t).resetPinLong iosel)

/-! ### Supply levels (R485, R486, R490, R491) -/

/-- VSUP rises through the release level: a power-on reset after the loss of AON, else the end of the reset that a
brown-out has caused (R486, R491). -/
def State.releaseSupply (s : State) (iosel : Nat) : State :=
  let s1 := { s with sup := { s.sup with brown := false } }
  if s.sup.power = .off then s1.powerOnReset iosel false else s1

/-- POWER_ON (R491). -/
def execPowerOn (t iosel : Nat) (s : State) : Out := .next ((s.at t).releaseSupply iosel)

/-- The VBUCK hold runs out: everything is lost, and the device is OFF until its power-on reset (R486, Table 17-5). -/
def State.aonLost (s : State) : State :=
  if s.sup.power = .off then s
  else { (s.deviceReset 1) with sup := { (s.deviceReset 1).sup with power := .off } }

/-- AON_LOSS (R486). -/
def execAonLoss (t : Nat) (s : State) : Out := .next (s.at t).aonLost

/-- VSUP falls below 1.62 V: the reset lasts until VSUP is above 1.70 V (R491). -/
def State.brownOut (s : State) (mv : Nat) : State :=
  if s.sup.power = .off ∨ 1620 ≤ mv ∨ s.sup.brown then s
  else { (s.deviceReset 2) with sup := { (s.deviceReset 2).sup with brown := true } }

/-- BROWN_OUT (R491). -/
def execBrownOut (t mv : Nat) (s : State) : Out := .next ((s.at t).brownOut mv)

/-- The input switch opens above 5.80 V, which is a loss of supply, and closes below 5.60 V (R485). -/
def State.overvoltage (s : State) (mv : Nat) : State :=
  if s.sup.power = .off then s
  else if 5800 < mv ∧ !s.sup.switchOpen then
    { (s.deviceReset 3) with sup := { (s.deviceReset 3).sup with switchOpen := true } }
  else if mv < 5600 then { s with sup := { s.sup with switchOpen := false } }
  else s

/-- OVERVOLTAGE (R485). -/
def execOvervoltage (t mv : Nat) (s : State) : Out := .next ((s.at t).overvoltage mv)

/-- VIOOUT_FAULT: the switch opens (R490). -/
def State.vioFault (s : State) : State :=
  let s1 := ((s.put F.SUP_STATUS_VIO_FAULT 1).irq Blk.SUP 4).count (F.SUP_CNT_COUNT 1)
  { s1 with sup := { s1.sup with vioAt := s.now } }

def execVioFault (t : Nat) (s : State) : Out := .next (s.at t).vioFault

/-- VIOOUT_RETRY: every 100 ms the switch closes again (R490). -/
def State.vioRetry (s : State) : State :=
  if s.on F.SUP_STATUS_VIO_FAULT && decide (s.sup.vioAt + msU 100 ≤ s.now) then s.put F.SUP_STATUS_VIO_FAULT 0 else s

def execVioRetry (t : Nat) (s : State) : Out := .next (s.at t).vioRetry

/-- WARN_WRITE: a write of SUP_CFG; WARN is ignored above 54, and the next supervisor sample, of `mv`, applies it (R492). -/
def State.supCfgWrite (s : State) (v : Word) (mv : Nat) : State :=
  let old := s.get F.SUP_CFG_WARN
  let w := bits v.toNat 5 0
  let s1 := s.writeByCode Reg.SUP_CFG v
  if 54 < w then s1.put F.SUP_CFG_WARN old else s1.supplyWarning mv

def execWarnWrite (t : Nat) (v : Word) (mv : Nat) (s : State) : Out := .next ((s.at t).supCfgWrite v mv)

/-! ### Power states (R494 to R497) -/

/-- Refuse a power request. -/
def State.refusePower (s : State) (code : Nat) : State :=
  (((s.put F.SUP_PWR_REQ 0).put F.SUP_PWR_PENDING 0).put F.SUP_PWR_REASON code).irq Blk.SUP 32

/-- A write of SUP_PWR.REQ (R495): 2 SLEEP, 3 HIBERNATE, 0 cancels; 1 is reserved and ignored. -/
def State.powerRequest (s : State) (req : Nat) : State :=
  let hostOn := !s.relay && s.en Blk.HRE
  if req = 0 then (s.put F.SUP_PWR_REQ 0).put F.SUP_PWR_PENDING 0
  else if req = 1 then s
  else if req = 3 ∧ (s.on F.CHN_USE_TX_USED ∨ s.on F.CHN_USE_TIMED_USED) then s.refusePower 0x01F4
  else if (req = 3 ∧ s.en Blk.SKN) ∨ hostOn then s.refusePower 0x01F7
  else (s.put F.SUP_PWR_REQ req).put F.SUP_PWR_PENDING 1

/-- SLEEP_REQUEST, HIBERNATE_REQUEST and POWER_REQUEST_CANCEL (R495). -/
def execSleepRequest (t : Nat) (s : State) : Out := .next ((s.at t).powerRequest 2)
def execHibernateRequest (t : Nat) (s : State) : Out := .next ((s.at t).powerRequest 3)
def execPowerRequestCancel (t : Nat) (s : State) : Out := .next ((s.at t).powerRequest 0)

/-- When an item's occupancy begins (network time). -/
def occupancyStart (i : Item) : Nat := match i.kind with
  | .tx x => (i.attempt x).slotLo * slotU
  | _ => i.due

/-- Do the conditions of entry hold (R495)? -/
def mayEnter (s : State) : Bool :=
  let soon := s.net + usU (xoDelayUs s) + msU 3
  let busyItem := fun (i : Item) => !i.decided && (match i.kind with
    | .tx _ => i.started || decide (occupancyStart i < soon)
    | .rx x => (i.started && !x.closed) || (!i.started && decide (occupancyStart i < soon))
    | _ => !i.started && decide (occupancyStart i < soon))
  let queued := fun (f : Fetched) => f.ring == 10 || f.ring == 11
  s.cpx.wfi.all (fun w => w) && !s.on F.SEC_STATUS_RESTORING && !s.upd.bootPending &&
  s.flc.ops.all Option.isNone && s.flc.nested.isNone && s.flc.waiting.isNone && s.cry.queue.isEmpty &&
  s.cry.sigQueue.isEmpty && s.cry.storing.isEmpty && !s.hre.fetched.any queued && (s.relay || !s.en Blk.HRE) && !s.items.any busyItem

/-- Application SRAM segments without their SUP_RET bit read 0 after the sleep (Table 17-5). -/
def State.dropSegments (s : State) : State :=
  { s with sram := s.sram.filter (fun c => bits (s.get F.SUP_RET_SEG) ((c.1 - 0x20000000) / 0x10000)
      ((c.1 - 0x20000000) / 0x10000) == 1) }

/-- Sources and PLLs stop on purpose in SLEEP, unless SKN keeps them (R472, R496). -/
def State.stopClocks (s : State) : State :=
  if s.en Blk.SKN then s
  else
    let s1 := (((s.setOk 0 false).setOk 2 false).put F.CLK_STATUS_SYS_LOCK 0).put F.CLK_STATUS_DSP_LOCK 0
    { s1 with clk := { s1.clk with
      running := modAt (fun _ => false) (modAt (fun _ => false) s1.clk.running 0) 2
      lockedTo := false, sysUnlocked := none, dspUnlocked := none } }.syncRef

/-- The device enters SLEEP: lane state, the cancellation buffer and the unretained SRAM are lost (Table
17-5). -/
def State.enterSleep (s : State) : State :=
  let s1 := ((s.dropSegments.count (F.SUP_CNT_COUNT 2)).put F.SUP_PWR_REQ 0).put F.SUP_PWR_PENDING 0
  let s2 := (List.range 64).foldl (fun x n => if decide (2 ≤ laneState x n) then x.releaseLane n else x) s1
  let s3 := (s2.put F.EVF_STATUS_FAST 0).stopClocks
  { s3 with
    sup := { s3.sup with power := .sleep }
    mur := { s3.mur with
      jobs := [], running := none, scanning := false, residues := [], freed := [], buffer := Mur.reset.buffer } }.syncWatchdogs

/-- The device enters HIBERNATE: only the AON island keeps its contents (Table 17-5). -/
def State.enterHibernate (s : State) : State :=
  let s1 := ((s.count (F.SUP_CNT_COUNT 3)).put F.SUP_PWR_REQ 0).put F.SUP_PWR_PENDING 0
  { (s1.put F.EVF_STATUS_FAST 0) with
    sup := { s1.sup with power := .hibernate }
    sram := [] }.syncWatchdogs.syncFem

/-- POWER_STATE_ENTRY (R495). -/
def State.enterPower (s : State) : State :=
  if !s.on F.SUP_PWR_PENDING || !mayEnter s || !awake s then s
  else if s.get F.SUP_PWR_REQ = 2 then s.enterSleep
  else if s.get F.SUP_PWR_REQ = 3 then s.enterHibernate
  else s

def execPowerStateEntry (t : Nat) (s : State) : Out := .next (s.at t).enterPower

/-- Is a wake source enabled (R497)?  Sources are numbered as SUP_WAKE_SRC numbers them. -/
def wakeEnabled (s : State) (src : Nat) : Bool :=
  if src = 0 then false
  else if src ≤ 16 then bits (s.get F.SUP_WAKE_TMB) (src - 1) (src - 1) == 1
  else if src ≤ 24 then bits (s.get F.SUP_WAKE_GPIO) (src - 17) (src - 17) == 1
  else if src = 25 then s.on F.SUP_WAKE_TAG && s.on F.TAG_CFG_FD_WAKE
  else src == 26 && s.sup.power != .hibernate

/-- HFRC and XOSC start after SLEEP (R479). -/
def State.startClocks (s : State) : State :=
  let start := fun (x : State) (src : Nat) => if x.clk.running.getD src false then x
    else { x with clk := { x.clk with
      running := modAt (fun _ => true) x.clk.running src
      startedAt := modAt (fun _ => x.now) x.clk.startedAt src
      measured := modAt (fun _ => false) x.clk.measured src } }
  start (start s 2) 0

/-- A wake source fires: it leaves SLEEP or HIBERNATE, or abandons a pending entry (R496, R497). -/
def State.wake (s : State) (src : Nat) : State :=
  if !wakeEnabled s src then s
  else match s.sup.power with
    | .sleep =>
        let wfi := if src = 26 then s.cpx.wfi else [false, false, false, false]
        let s1 := { s with
          sup := { s.sup with power := if src = 26 then .doze else .run }
          cpx := { s.cpx with wfi := wfi } }
        let s2 := ((s1.startClocks.put F.EVF_STATUS_FAST 1).put F.SUP_WAKE_SRC_SRC src).irq Blk.SUP 8
        (s2.put F.SUP_STATUS_STATE (if src = 26 then 1 else 0)).syncWatchdogs
    | .hibernate => (s.deviceReset 13).put F.SUP_WAKE_SRC_SRC src
    | .off => s
    | _ =>
        if s.on F.SUP_PWR_PENDING then
          (((s.put F.SUP_PWR_REQ 0).put F.SUP_PWR_PENDING 0).put F.SUP_WAKE_SRC_SRC src).irq Blk.SUP 16
        else s

/-- WAKE (R497). -/
def execWake (t src : Nat) (s : State) : Out := .next ((s.at t).wake src)

/-- XO_DELAY + 1 ms before an accepted item's committed time, Chanter wakes the device from SLEEP (R479). -/
def State.chanterWake (s : State) : State :=
  let soon := s.net + usU (xoDelayUs s) + msU 1
  if s.sup.power = .sleep ∧ s.items.any (fun i => !i.decided && !i.started && decide (i.due ≤ soon)) then s.wake 26 else s

/-- CHANTER_WAKE (R479). -/
def execChanterWake (t : Nat) (s : State) : Out := .next (s.at t).chanterWake

/-- An application core executes WFI; with all four in WFI the device is in DOZE (R494). -/
def State.waitForInterrupt (s : State) (core : Nat) : State :=
  if !s.cpx.released ∨ !awake s then s
  else
    let s1 := { s with cpx := { s.cpx with wfi := modAt (fun _ => true) s.cpx.wfi core } }
    if s1.cpx.wfi.all (fun w => w) then
      { s1 with sup := { s1.sup with power := .doze } }.put F.SUP_STATUS_STATE 1
    else s1

/-- WFI (R494). -/
def execWfi (t core : Nat) (s : State) : Out := .next ((s.at t).waitForInterrupt core)

end Sys2Proof.Machine
end

