-- ==== Sys2Proof/Machine/Cores.lean ====
section
/-! DEFINITION. The processor complex: core faults, the customer partition's calls, the debug port and the interrupt
controller's claims (R511, R513, R515 to R520, R537). -/

namespace Sys2Proof.Machine

/-! ### Core faults (R513) -/

/-- A double fault: the core halts; the running image's trial takes the reset path of the trial (R409, R513). -/
def State.doubleFault (s : State) (c mepc : Nat) : State :=
  if 4 ≤ c then s
  else if inTrial s then s.deviceReset 11
  else ((s.put F.CPX_STATUS_FAULTED (s.get F.CPX_STATUS_FAULTED ||| 2 ^ c)).irq Blk.CPX 1).record 0x1300 0x1301 c mepc

/-- DOUBLE_FAULT (R513). -/
def execDoubleFault (t c mepc : Nat) (s : State) : Out := .next ((s.at t).doubleFault c mepc)

/-! ### The customer partition (R516, R517) -/

/-- The partition runs. -/
def partitionRuns (s : State) : Bool := s.get F.CPX_STATUS_PART == 1

/-- A fault or an illegal instruction stops the partition (R516). -/
def State.partitionFault (s : State) (mcause : Nat) : State :=
  if !partitionRuns s then s
  else (({ s with cpx := { s.cpx with wait := none } }.put F.CPX_STATUS_PART 3).irq Blk.CPX 4).record 0x1300 0x1302 mcause

/-- PARTITION_FAULT (R516). -/
def execPartitionFault (t mcause : Nat) (s : State) : Out := .next ((s.at t).partitionFault mcause)

/-- 32 bytes that lie in the partition's window. -/
def inWindow (a : Nat) : Bool := decide (0x20080000 ≤ a) && decide (a + 32 ≤ 0x200C0000)

/-- The rings whose opcodes the partition may use (R517). -/
def partitionMay (s : State) (ring : Nat) : Bool :=
  if s.relay then decide (1 ≤ ring) && decide (ring ≤ 13) else ring == 10 || ring == 11 || ring == 13

/-- A call of the partition returns `r` in a0. -/
def State.callResult (s : State) (r : Nat) : State := { s with cpx := { s.cpx with results := s.cpx.results ++ [r] } }

/-- SUBMIT: a descriptor of the partition takes the firmware's own submission path, with every check of R55; its
completions go to the partition (R517). -/
def State.submit (s : State) (ring addr : Nat) : State :=
  if !partitionRuns s then s
  else
    let d := (List.range 8).map (fun k => word (leNat (s.sramRead (addr + 4 * k) 4)))
    if !inWindow addr || !partitionMay s ring || !opcodeOnRing ring (wbits d 0 7 0) then s.callResult 0x0401
    else
      let len := wbits d 1 15 0
      let base := wordAt d 4 + wordAt d 5 * 2 ^ 32
      let s1 := match preAdmission s ring d (decide (0 < len) && !inSram base len) with
        | some c => s.complete (ring + 32) d 3 c
        | none => { s with hre := { s.hre with fetched := s.hre.fetched ++ [(⟨ring + 32, d, s.sramRead base len⟩ : Fetched)] } }
      s1.callResult 0

/-- SUBMIT (R517). -/
def execSubmit (t ring addr : Nat) (s : State) : Out := .next ((s.at t).submit ring addr)

/-- The first completion of the partition's own descriptors is copied to its buffer; PHASE means nothing there and is
left open. -/
def State.serveWait (s : State) (addr : Nat) : Option State :=
  match takeFirst (fun (c : Compl) => c.cring == partitionRing) s.hre.outq with
  | none => none
  | some (c, rest) =>
      let p := s.fresh 2
      let s1 := p.2.sramWrite addr (wordBytes (complWords { c with ring := c.ring % 32 } p.1))
      some (({ s1 with hre := { s1.hre with outq := rest }, cpx := { s1.cpx with wait := none } }.afterWrite c).callResult 1)

/-- WAIT: a completion at once, or the call waits for one until its timeout (R517). -/
def State.waitCall (s : State) (addr ms : Nat) : State :=
  if !partitionRuns s then s
  else if !inWindow addr then s.callResult 0
  else match s.serveWait addr with
    | some s1 => s1
    | none => { s with cpx := { s.cpx with wait := some ⟨addr, s.now + msU ms⟩ } }

/-- WAIT (R517). -/
def execWait (t addr ms : Nat) (s : State) : Out := .next ((s.at t).waitCall addr ms)

/-- A waiting call ends: with 1 when a completion has come, with 0 at its timeout (R517). -/
def State.waitEnd (s : State) : State :=
  match s.cpx.wait with
  | none => s
  | some w => match s.serveWait w.addr with
    | some s1 => s1
    | none => if s.now < w.deadline then s else { s with cpx := { s.cpx with wait := none } }.callResult 0

/-- WAIT_TIMEOUT (R517). -/
def execWaitTimeout (t : Nat) (s : State) : Out := .next (s.at t).waitEnd

/-- YIELD returns 0 (R517). -/
def execYield (t : Nat) (s : State) : Out :=
  let x := s.at t
  .next (if partitionRuns x then x.callResult 0 else x)

/-! ### Debug (R518 to R520) -/

/-- The present challenge: 32 bytes of the random source. -/
def challengeBytes (n : Nat) : List Byte := leBytes 32 (Config.random n)

/-- IR 0x18 shifts out the status byte and the present challenge, which no attempt has used (R519). -/
def State.debugChallenge (s : State) : State :=
  let status := (if s.cpx.verifying.isSome then 1 else 0) + (if s.cpx.session then 2 else 0)
  let b := challengeBytes s.cpx.challenge
  s.deliverWords (word status :: (List.range 8).map (fun k => word (leNat (slice b (4 * k) 4))))

/-- DEBUG_CHALLENGE (R519). -/
def execDebugChallenge (t : Nat) (s : State) : Out := .next (s.at t).debugChallenge

/-- IR 0x19 starts a verification over the present challenge, and the attempt replaces it; while one runs, a further
attempt has no effect (R519). -/
def State.debugAuth (s : State) (scope : Nat) (sig : List Byte) : State :=
  if s.cpx.verifying.isSome then s
  else { s with cpx := { s.cpx with
    verifying := some ⟨scope, fit 114 sig, s.cpx.challenge, s.now⟩
    challenge := s.cpx.challenge + 1 } }

/-- DEBUG_AUTH (R519). -/
def execDebugAuth (t scope : Nat) (sig : List Byte) (s : State) : Out := .next ((s.at t).debugAuth scope sig)

/-- Does an authentication hold: its scope, a permitted key, and the signature under it (R519)? -/
def authHolds (s : State) (a : DebugAuth) : Bool :=
  let msg := challengeBytes a.challenge ++ leBytes 8 Config.serial ++ [BitVec.ofNat 8 a.scope]
  let ok := fun (k : List Byte) => Config.ed448Verify k (ascii "UARNAREN-DEBUG") msg a.sig
  if s.on F.SIG_STATUS_OWNED then a.scope == 1 && (s.cry.owners.filterMap (fun k => k)).any ok
  else (a.scope == 1 || a.scope == 2) && ok Config.vendorKey

/-- A debug challenge fails: a record, and at the third failure within 60 s the alarm (R295, R519). -/
def State.debugFailed (s : State) : State :=
  let near := s.now :: s.cpx.failures.filter (fun f => decide (s.now ≤ f + 60 * secondU))
  let s1 := ({ s with cpx := { s.cpx with failures := near } }.record 0x1600 0x1607).irq Blk.SEC 4
  if 3 ≤ near.length then s1.alarm 5 else s1

/-- The verification ends, 8 ms after it began (R519). -/
def State.debugAuthDone (s : State) : State :=
  match s.cpx.verifying with
  | none => s
  | some a =>
      if s.now < a.start + msU 8 then s
      else
        let s1 := { s with cpx := { s.cpx with verifying := none } }
        if authHolds s a then
          ({ s1 with cpx := { s1.cpx with session := true, scope := a.scope } }.put F.CPX_STATUS_SESSION 1).irq Blk.CPX 2
        else s1.debugFailed

/-- DEBUG_AUTH_DONE (R519). -/
def execDebugAuthDone (t : Nat) (s : State) : Out := .next (s.at t).debugAuthDone

/-- A dmi access outside a session: a read returns 0, a write raises the alarm (R518).  Within a session the debug
module serves it, which changes nothing here. -/
def State.dmiAccess (s : State) (write : Bool) : State :=
  if s.cpx.session then s else if write then s.alarm 5 else s.deliverWords [0]

/-- DMI_ACCESS (R518). -/
def execDmiAccess (t : Nat) (write : Bool) (s : State) : Out := .next ((s.at t).dmiAccess write)

/-- HALTED shows the cores in debug halt. -/
def State.syncHalted (s : State) : State :=
  let bit := fun (c : Nat) => if s.cpx.halted.getD c false then 2 ^ c else 0
  (s.put F.CPX_STATUS_HALTED (bit 0 + bit 1 + bit 2 + bit 3)).syncWatchdogs

/-- While the transmitter is muted, a transmission on air ramps down and completes ABORTED with 0x0005 (R520). -/
def State.muteOnAir (s : State) : State :=
  if !debugMuted s then s
  else s.endAll (fun i => i.started && (match i.kind with | .tx _ => true | _ => false)) 5 0x0005

/-- A core enters debug halt, from within a session (R518, R520). -/
def State.debugHalt (s : State) (c : Nat) : State :=
  if !s.cpx.session ∨ 4 ≤ c then s
  else ({ s with cpx := { s.cpx with halted := modAt (fun _ => true) s.cpx.halted c } }).syncHalted.muteOnAir

/-- DEBUG_HALT (R520). -/
def execDebugHalt (t c : Nat) (s : State) : Out := .next ((s.at t).debugHalt c)

/-- A halted core resumes (R520). -/
def State.debugResume (s : State) (c : Nat) : State :=
  if !s.cpx.session ∨ 4 ≤ c then s
  else ({ s with cpx := { s.cpx with halted := modAt (fun _ => false) s.cpx.halted c } }).syncHalted

/-- DEBUG_RESUME (R520). -/
def execDebugResume (t c : Nat) (s : State) : Out := .next ((s.at t).debugResume c)

/-- A write of DEBUG_MUTE, which only an open session allows (R520). -/
def State.debugMuteWrite (s : State) (v : Bool) : State :=
  if !s.cpx.session then s else (s.put F.CPX_DBG_DEBUG_MUTE v.toNat).muteOnAir

/-- DEBUG_MUTE_WRITE (R520). -/
def execDebugMuteWrite (t : Nat) (v : Bool) (s : State) : Out := .next ((s.at t).debugMuteWrite v)

/-- END: CPX_DBG.END ends the session (R519). -/
def execEnd (t : Nat) (s : State) : Out := .next (s.at t).endSession

/-! ### Interrupt claims (R511, R537) -/

/-- Sources that are pending and enabled for a context, with a priority other than 0. -/
def claimable (s : State) (ctx : Nat) : List Nat :=
  (List.range 256).filter (fun n => decide (1 ≤ n) &&
    bits (s.rd (Reg.CPX_PLIC_PEND (n / 32))).toNat (n % 32) (n % 32) == 1 &&
    bits (s.rd (Reg.CPX_PLIC_EN ctx (n / 32))).toNat (n % 32) (n % 32) == 1 &&
    decide (0 < s.get (F.CPX_PLIC_PRIO_PRIO (n - 1))))

/-- The source of the highest priority, and of equal ones the lowest number; 0 for none. -/
def bestSource (s : State) (l : List Nat) : Nat :=
  l.foldl (fun b n => if b = 0 ∨ s.get (F.CPX_PLIC_PRIO_PRIO (b - 1)) < s.get (F.CPX_PLIC_PRIO_PRIO (n - 1)) then n else b) 0

/-- A claim returns the best source, clears its pending bit and holds further requests of it back (R511). -/
def State.plicClaim (s : State) (ctx : Nat) : State :=
  if 5 ≤ ctx then s
  else
    let n := bestSource s (claimable s ctx)
    if n = 0 then s.deliverWords [0]
    else
      let a := Reg.CPX_PLIC_PEND (n / 32)
      let s1 := s.wr a (s.rd a &&& ~~~(BitVec.ofNat 32 (2 ^ (n % 32))))
      { s1 with cpx := { s1.cpx with servicing := (n, ctx) :: s1.cpx.servicing } }.deliverWords [word n]

/-- PLIC_CLAIM (R537). -/
def execPlicClaim (t ctx : Nat) (s : State) : Out := .next ((s.at t).plicClaim ctx)

/-- A completion; one whose source is not enabled for the context is ignored.  A source that was requested while served, or
whose level still holds (69), is pending again (R511, R512). -/
def State.plicComplete (s : State) (ctx id : Nat) : State :=
  if 5 ≤ ctx ∨ 256 ≤ id ∨ bits (s.rd (Reg.CPX_PLIC_EN ctx (id / 32))).toNat (id % 32) (id % 32) = 0 then s
  else
    let s1 := { s with cpx := { s.cpx with
      servicing := s.cpx.servicing.filter (fun x => x.1 != id)
      deferred := s.cpx.deferred.filter (fun d => d != id) } }
    let again := s.cpx.deferred.contains id || (id == 69 && firmwareWaits s)
    if s.cpx.servicing.any (fun x => x.1 == id) && again then s1.plic id else s1

/-- PLIC_COMPLETE (R511). -/
def execPlicComplete (t ctx id : Nat) (s : State) : Out := .next ((s.at t).plicComplete ctx id)

end Sys2Proof.Machine
end

