-- ==== Sys2Proof/Machine/Update.lean ====
section
/-! DEFINITION. Staging, activation, trial and reversion of device images; the distribution slots' images; attestation
(R302, R393 to R410, R413). -/

namespace Sys2Proof.Machine

/-! ### Manifests and the hash tree (R397 to R399) -/

/-- Fields of a manifest (Table 13-3). -/
def manKind (m : List Byte) : Nat := leNat (slice m 8 1)
def manSigner (m : List Byte) : Nat := leNat (slice m 9 1)
def manPart (m : List Byte) : Nat := leNat (slice m 10 2)
def manMinRev (m : List Byte) : Nat := leNat (slice m 12 1)
def manHandover (m : List Byte) : Nat := leNat (slice m 13 1)
def manEpoch (m : List Byte) : Nat := leNat (slice m 16 4)
def manVersion (m : List Byte) : Nat := leNat (slice m 20 4)
def manLen (m : List Byte) : Nat := leNat (slice m 24 4)
def manPieces (m : List Byte) : Nat := leNat (slice m 28 2)
def manTrial (m : List Byte) : Nat := let t := leNat (slice m 36 4); if t = 0 then 600 else t
def manRoot (m : List Byte) : List Byte := slice m 40 32
def manDistId (m : List Byte) : List Byte := slice m 72 4
/-- Hash pieces of an image of `p` pieces (R398). -/
def hashPieces (p : Nat) : Nat := (p + 31) / 32

/-- Silicon revision B (R421). -/
def siliconRev : Nat := 0x42

def zeros (n : Nat) : List Byte := List.replicate n 0

/-- leaf, top and node hashes (R398). -/
def leafHash (k : Nat) (piece : List Byte) : List Byte := fit 32 (Config.shake256 (0 :: (leBytes 4 k ++ piece)) 32)
def topHash (j : Nat) (piece : List Byte) : List Byte := fit 32 (Config.shake256 (1 :: (leBytes 2 j ++ piece)) 32)
def nodeHash (l r : List Byte) : List Byte := fit 32 (Config.shake256 (2 :: (l ++ r)) 32)

/-- One level of the tree above a list of nodes. -/
def levelUp : List (List Byte) → List (List Byte)
  | a :: b :: r => nodeHash a b :: levelUp r
  | [a] => [a]
  | [] => []

/-- The node reached from `h` at index `j` with a path of siblings, from the lowest level up. -/
def walkPath (h : List Byte) (j : Nat) : List (List Byte) → List Byte
  | [] => h
  | p :: r => walkPath (if j % 2 = 0 then nodeHash h p else nodeHash p h) (j / 2) r

/-- The siblings of index `j` over the levels of a tree. -/
def siblings (l : List (List Byte)) (j : Nat) : Nat → List (List Byte)
  | 0 => []
  | n + 1 => l.getD (if j % 2 = 0 then j + 1 else j - 1) [] :: siblings (levelUp l) (j / 2) n

/-- The tops of an image from its pieces. -/
def topsOf (pieces : List (List Byte)) : List (List Byte) :=
  (List.range 256).map (fun j => if j < hashPieces pieces.length then
      topHash j ((List.range 32).flatMap (fun i => match pieces[32 * j + i]? with
        | some p => leafHash (32 * j + i) p
        | none => zeros 32))
    else zeros 32)

/-- ROOT of an image. -/
def rootOf (pieces : List (List Byte)) : List Byte := ((List.range 8).foldl (fun l _ => levelUp l) (topsOf pieces)).getD 0 []

/-- The pieces of an image that stands at `a` in flash. -/
def imagePieces (s : State) (a n : Nat) : List (List Byte) := (List.range n).map (fun k => flashBytes s (a + 1024 * k) 1024)

/-- Bytes 4 to 7 of MAGIC, FORMAT and LENGTH, and the zero bytes. -/
def manForm (m : List Byte) : Bool :=
  m.length == 256 && slice m 0 4 == [0x55, 0x4D, 0x46, 0x54] && leNat (slice m 4 2) == 1 && leNat (slice m 6 2) == 256 &&
  (slice m 14 2 ++ slice m 30 2 ++ slice m 80 62).all (fun b => b == 0)

/-- Step 1 of R399 (0x0FF6). -/
def manConsistent (m : List Byte) : Bool :=
  let t := leNat (slice m 36 4)
  manForm m && decide (manKind m ≤ 1) && decide (1 ≤ manLen m) &&
  decide (manLen m ≤ if manKind m = 0 then 8388608 else 4030464) && manPieces m == (manLen m + 1023) / 1024 &&
  (t == 0 || (decide (60 ≤ t) && decide (t ≤ 86400))) &&
  (if manKind m = 0 then decide (1 ≤ manHandover m) && (slice m 72 8).all (fun b => b == 0) else manHandover m == 0)

/-- Step 3 of R399: the signer is permitted and the signature verifies (0x0F01). -/
def manSigned (s : State) (m : List Byte) : Bool :=
  let ok := fun (k : List Byte) => Config.ed448Verify k (ascii "UARNAREN-IMAGE") (slice m 0 142) (slice m 142 114)
  if s.cry.owners.any Option.isSome then
    match s.cry.owners.getD (manSigner m - 1) none with
    | some k => decide (1 ≤ manSigner m) && ok k
    | none => false
  else manSigner m == 0 && ok Config.vendorKey

/-- Is a pair (EPOCH, VERSION) above another, EPOCH first? -/
def pairAbove (e v e' v' : Nat) : Bool := decide (e' < e) || (e == e' && decide (v' < v))

/-- The verification of a manifest in its order (R399). -/
def manRefusal (s : State) (m : List Byte) : Option Nat :=
  if !manConsistent m then some 0x0FF6
  else if manKind m = 0 ∧ (manPart m ≠ 0x9440 ∨ siliconRev < manMinRev m) then some 0x0FF7
  else if !manSigned s m then some 0x0F01
  else if manKind m = 0 ∧ manEpoch m < counterValue s 2 then some 0x0F06
  else if manKind m = 0 ∧ counterValue s 2 + 64 < manEpoch m then some 0x0FF6
  else if manKind m = 0 ∧ !pairAbove (manEpoch m) (manVersion m) (s.get F.UPD_RUN_EPOCH_EPOCH) (s.get F.UPD_RUN_VERSION_VERSION) then
    some 0x0F02
  else none

/-! ### Where a session's parts lie in flash (R393, R402, R410) -/

/-- Bobbin A or B. -/
def bobbinBase (b : Nat) : Nat := if b = 0 then 0x00400000 else 0x01000000
/-- The bobbin that staging writes: the inactive one; under recovery A, which has failed (R396). -/
def targetBobbin (s : State) : Nat := if s.on F.UPD_STATUS_RECOVERY then 0 else 1 - s.get F.UPD_STATUS_RUN_BOBBIN

/-- The places of a staging target: header, hash marks, data marks, hash store, image. -/
structure Place where
  header : Nat
  hashMark : Nat
  dataMark : Nat
  store : Nat
  image : Nat
  deriving DecidableEq, Repr

def slotPlace (s : State) (k : Nat) : Place :=
  let b := 0x01800000 + k * 0x50000
  ⟨b, b + 0x4000, b + 0x8000, b + 0x10000, bobbinBase (targetBobbin s)⟩
/-- Distribution slot `d`. -/
def distPlace (d : Nat) : Place :=
  let b := 0x02000000 + d * 0x8000
  ⟨b, b + 0x2000, b + 0x4000, 0x018A0000 + d * 0x20000, 0x02000000 + (if d = 0 then 18 else 141) * 0x8000⟩

/-- A header: the manifest, the source at byte 256, the sequence number at 260 and the CRC-32 at 264 (R402; the layout is
this model's, notes/assumptions/80.md). -/
def headerBytes (m : List Byte) (src seq : Nat) : List Byte :=
  let h := fit 256 m ++ leBytes 4 src ++ leBytes 4 seq
  h ++ leBytes 4 (crc32 h)

/-- The header at an address, if its CRC is right: manifest, source and sequence number. -/
def readHeader (s : State) (a : Nat) : Option (List Byte × Nat × Nat) :=
  let h := flashBytes s a 268
  if leNat (slice h 264 4) = crc32 (h.take 264) then some (h.take 256, leNat (slice h 256 4), leNat (slice h 260 4)) else none

/-- Is the mark of piece `k` programmed: its four bytes are 0x00 (R402)? -/
def marked (s : State) (base k : Nat) : Bool := flashBytes s (base + 4 * k) 4 == [0, 0, 0, 0]
def State.mark (s : State) (base k : Nat) : State := s.program (base + 4 * k) [0, 0, 0, 0]
/-- How many of `n` marks are programmed, and the lowest that is not. -/
def heldCount (s : State) (base n : Nat) : Nat := ((List.range n).filter (marked s base)).length
def lowestMissing (s : State) (base n : Nat) : Nat :=
  match (List.range n).find? (fun k => !marked s base k) with | some k => k | none => 0x3FFF

/-- The session that continues: the slot with the highest valid sequence number (R402). -/
def sessionSlot (s : State) : Option Nat :=
  match readHeader s (slotPlace s 0).header, readHeader s (slotPlace s 1).header with
  | some a, some b => some (if a.2.2 < b.2.2 then 1 else 0)
  | some _, none => some 0
  | none, some _ => some 1
  | none, none => none

/-- The place and header of a target: the running session, or a distribution slot. -/
def targetOf (s : State) (target : Nat) : Option (Place × List Byte × Nat) :=
  let p := if target = 0 then (sessionSlot s).map (slotPlace s) else if target ≤ 2 then some (distPlace (target - 1)) else none
  match p with
  | none => none
  | some q => (readHeader s q.header).map (fun h => (q, h.1, h.2.1))

/-! ### UPD registers that follow the session -/

/-- Has the image of a target been checked (R403)?  The manifest of a checked image is kept with its bobbin or slot. -/
def checkedManifest (s : State) (target : Nat) : List Byte :=
  s.upd.manifests.getD (if target = 0 then targetBobbin s else target + 1) []
def isChecked (s : State) (target : Nat) : Bool :=
  match targetOf s target with | some x => checkedManifest s target == x.2.1 | none => false

/-- STAGE, SOURCE, UPD_HELD and the staged version follow the session (Table 13-6). -/
def State.syncUpd (s : State) : State :=
  let stage := s.get F.UPD_STATUS_STAGE
  match targetOf s 0 with
  | none => ((((s.put F.UPD_STATUS_STAGE (if 3 ≤ stage then stage else 0)).put F.UPD_STATUS_SOURCE 0).wr Reg.UPD_HELD 0).put
      F.UPD_STG_EPOCH_EPOCH 0).put F.UPD_STG_VERSION_VERSION 0
  | some (q, m, src) =>
      let st := if 3 ≤ stage then stage else if isChecked s 0 then 2 else 1
      (((((s.put F.UPD_STATUS_STAGE st).put F.UPD_STATUS_SOURCE src).put F.UPD_HELD_DATA (heldCount s q.dataMark (manPieces m))).put
        F.UPD_HELD_HASH (heldCount s q.hashMark (hashPieces (manPieces m)))).put F.UPD_STG_EPOCH_EPOCH (manEpoch m)).put
        F.UPD_STG_VERSION_VERSION (manVersion m)

/-- UPD_TRIAL_LEFT: the seconds of the trial that are left (Table 13-6). -/
def trialLeft (s : State) : Nat := match s.upd.trialEnd with | some e => (e - s.now + secondU - 1) / secondU | none => 0

/-! ### The activation log (R406) -/

def logBase : Nat := 0x018E0000

/-- One record: kind, bobbin, reason, sequence number, EPOCH, VERSION, and its bytes. -/
structure ActRec where
  kind : Nat
  bobbin : Nat
  seq : Nat
  bytes : List Byte
  deriving DecidableEq, Repr

/-- The entries of the log whose CRC is right. -/
def actRecs (s : State) : List ActRec :=
  (validRecords s logBase (logBase + 0x10000) 32 (sealedAt 28 28)).map (fun r =>
    ⟨field r.2 0 1, field r.2 1 2, field r.2 4 8, r.2⟩)

/-- The newest of the records that satisfy `p`. -/
def newestRec (p : ActRec → Bool) (l : List ActRec) : Option ActRec :=
  (l.filter p).foldl (fun b r => match b with | none => some r | some x => if x.seq < r.seq then some r else some x) none

/-- Append a 32-byte entry to a log of two blocks; when the block in use is full, the entries `keep` and the new one go
to the erased block, and the full block is erased (R402, R406, R410). -/
def State.appendLog (s : State) (base : Nat) (keep : List (List Byte)) (e : List Byte) : State :=
  let used := fun b => nextFree s b (b + 0x8000) 32
  let b := if used base = 0 then (if used (base + 0x8000) = 0 then base else base + 0x8000)
    else if used (base + 0x8000) = 0 then base else (if used base < used (base + 0x8000) then base else base + 0x8000)
  if used b < 1024 then s.program (b + 32 * used b) e
  else
    let other := base + base + 0x8000 - b
    let s1 := (s.eraseRange other 0x8000).program other ((keep ++ [e]).flatMap (fun x => x))
    s1.eraseRange b 0x8000

/-- The records that a full activation log carries over: the newest of each bobbin, and the newest CONFIRMED. -/
def keepRecs (s : State) : List (List Byte) :=
  let l := actRecs s
  ([newestRec (fun r => r.bobbin == 0) l, newestRec (fun r => r.bobbin == 1) l, newestRec (fun r => r.kind == 5) l].filterMap
    (fun r => r.map (fun x => x.bytes))).eraseDups

/-- Append an activation record. -/
def State.actRecord (s : State) (kind bobbin reason epoch version trial : Nat) : State :=
  let seq := (match newestRec (fun _ => true) (actRecs s) with | some r => r.seq | none => 0) + 1
  let b := leBytes 1 kind ++ leBytes 1 bobbin ++ leBytes 2 reason ++ leBytes 4 seq ++ leBytes 8 s.net ++ leBytes 4 epoch ++
    leBytes 4 version ++ leBytes 4 trial
  s.appendLog logBase (keepRecs s) (b ++ leBytes 4 (crc32 b))

/-- Append a record about an image with a manifest. -/
def State.actFor (s : State) (kind bobbin reason : Nat) (m : List Byte) (trial : Nat := 0) : State :=
  s.actRecord kind bobbin reason (manEpoch m) (manVersion m) trial

/-! ### IMAGE_PIECE (R400, R401, R404, R405) -/

/-- Record header fields. -/
def recType (b : List Byte) : Nat := leNat (slice b 0 1)
def recTarget (b : List Byte) : Nat := leNat (slice b 1 1)
def recIndex (b : List Byte) : Nat := leNat (slice b 2 2)
def recRoot (b : List Byte) : List Byte := slice b 4 4

/-- The final words of a piece record: pieces held, and the lowest data piece not held (R400). -/
def pieceWords (s : State) (target : Nat) : Nat × Nat :=
  match targetOf s target with
  | none => (0, 0x3FFF)
  | some (q, m, _) => (heldCount s q.dataMark (manPieces m) + heldCount s q.hashMark (hashPieces (manPieces m)) * 65536,
      lowestMissing s q.dataMark (manPieces m))

/-- The outcome of a piece record, for the ring 12 descriptor that carried it, if any: a code that refuses it, or DONE. -/
def State.pieceEnd (s : State) (f : Option Fetched) (target : Nat) (code : Option Nat) : State :=
  let s1 := s.syncUpd
  match f with
  | none => s1
  | some f => match code with
    | some c => s1.refuse f.ring f.words c
    | none => s1.done f.ring f.words 0 (w4 := (pieceWords s1 target).1) (w5 := (pieceWords s1 target).2)

/-- Erase a session slot, header first to last block (R402). -/
def State.eraseSlot (s : State) (k : Nat) : State := s.eraseRange (slotPlace s k).header 0x50000
/-- Discard the session: both slots, so that no older session comes back. -/
def State.eraseSessions (s : State) : State := (s.eraseSlot 0).eraseSlot 1

/-- A new session takes slot `k`, with its header programmed last. -/
def State.newSession (s : State) (k : Nat) (m : List Byte) (src : Nat) : State :=
  let seq := 1 + Nat.max (match readHeader s (slotPlace s 0).header with | some h => h.2.2 | none => 0)
    (match readHeader s (slotPlace s 1).header with | some h => h.2.2 | none => 0)
  let s1 := { s with upd := { s.upd with manifests := modAt (fun _ => []) s.upd.manifests (targetBobbin s) } }
  ((s1.eraseSlot k).program (slotPlace s k).header (headerBytes m src seq)).put F.UPD_STATUS_STAGE 0

/-- A verified manifest for TARGET 0 against the running session (R404); 0x0F04 refuses it. -/
def State.offer (s : State) (m : List Byte) (src : Nat) : Option State :=
  match sessionSlot s, targetOf s 0 with
  | some k, some (_, old, oldSrc) =>
      if manRoot m = manRoot old then some s
      else if pairAbove (manEpoch m) (manVersion m) (manEpoch old) (manVersion old) ||
          (manEpoch m == manEpoch old && manVersion m == manVersion old && decide (src < oldSrc)) then
        let w := fun i => leNat (slice (manRoot old) (4 * i) 4)
        some ((((s.newSession (1 - k) m src).irq Blk.UPD 2).count (F.UPD_CNT_COUNT 2)).record 0x0F00 0x0F04 (w 0) (w 1) (w 2) (w 3))
      else none
  | _, _ => some ((s.eraseRange (bobbinBase (targetBobbin s)) 0x800000).newSession 0 m src)

/-- The check of a manifest record for its target (R399, R404, R410). -/
def manifestRefusal (s : State) (target : Nat) (m : List Byte) : Option Nat :=
  if target = 0 then
    if 3 ≤ s.get F.UPD_STATUS_STAGE then some 0x0F09
    else match manRefusal s m with
      | some c => some c
      | none => if manKind m = 0 then none else some 0x0FF6
  else if 2 < target then some 0x0FF6
  else match manRefusal s m with
    | some c => some c
    | none =>
        if manKind m ≠ 1 ∨ (if target = 1 then 3936 else 3680) * 1024 < manPieces m * 1024 then some 0x0FF6
        else match readHeader s (distPlace (target - 1)).header with
          | some h => if manRoot h.1 = manRoot m then none else some 0x0F09
          | none => none

/-- Is the block up, and may the source submit (Table 13-6)? -/
def sourceRefusal (s : State) (src : Nat) : Option Nat :=
  if !s.en Blk.UPD then some 0x0FF0
  else if src = 1 ∧ !s.on F.UPD_CFG_SKEIN_SRC then some 0x0FF6
  else if src = 2 ∧ !s.on F.UPD_CFG_RADIO_SRC then some 0x0FF6
  else none

/-- A manifest record. -/
def State.pieceManifest (s : State) (f : Option Fetched) (src : Nat) (b : List Byte) : State :=
  let t := recTarget b
  let m := b.drop 8
  match sourceRefusal s src with
  | some c => s.pieceEnd f t (some c)
  | none =>
    if b.length ≠ 264 ∨ recType b ≠ 0 then s.pieceEnd f t (some 0x0411)
    else match manifestRefusal s t m with
      | some c => s.pieceEnd f t (some c)
      | none =>
        if t = 0 then
          match s.offer m src with
          | some s1 => s1.pieceEnd f t none
          | none => s.pieceEnd f t (some 0x0F04)
        else
          let q := distPlace (t - 1)
          let s1 := match readHeader s q.header with
            | some _ => s
            | none => ((((s.eraseRange q.header 0x8000).eraseRange q.store 0x20000).eraseRange q.image
                (if t = 1 then 3936 * 1024 else 3680 * 1024)).program q.header (headerBytes m src 1))
          s1.pieceEnd f t none

/-- The checks that every hash and data record shares: length, session, ROOT (R400, R401). -/
def pieceRefusal (s : State) (src : Nat) (b : List Byte) (n : Nat) : Option Nat :=
  match sourceRefusal s src with
  | some c => some c
  | none =>
    if b.length ≠ n then some 0x0411
    else if 2 < recTarget b then some 0x0FF6
    else match targetOf s (recTarget b) with
      | none => some 0x0F08
      | some (_, m, _) => if recRoot b = (manRoot m).take 4 then none else some 0x0F04

/-- Pages that a pre-empted session has left behind hash piece `j` of the new session are reused, or their block is
erased (R405). -/
def State.reusePages (s : State) (q : Place) (m : List Byte) (j : Nat) (leaves : List Byte) : State :=
  let other := if q.header = (slotPlace s 0).header then 1 else 0
  let oldHeld := fun k => match readHeader s (slotPlace s other).header with
    | some _ => marked s (slotPlace s other).dataMark k
    | none => false
  let ks := ((List.range 32).map (fun i => 32 * j + i)).filter (fun k =>
    oldHeld k || (flashBytes s (q.image + 1024 * k) 1024).any (fun b => b != 0xFF))
  let good := fun k => decide (k < manPieces m) && leafHash k (flashBytes s (q.image + 1024 * k) 1024) == slice leaves (32 * (k % 32)) 32
  if ks.all good then ks.foldl (fun x k => x.mark q.dataMark k) s
  else s.eraseRange (q.image + 0x8000 * j) 0x8000

/-- A hash record (R398, R401). -/
def State.pieceHash (s : State) (f : Option Fetched) (src : Nat) (b : List Byte) : State :=
  let t := recTarget b
  let j := recIndex b
  match pieceRefusal s src b 1288 with
  | some c => s.pieceEnd f t (some c)
  | none => match targetOf s t with
    | none => s.pieceEnd f t (some 0x0F08)
    | some (q, m, _) =>
      let p := slice b 8 1024
      let path := (List.range 8).map (fun i => slice b (1032 + 32 * i) 32)
      if j < 256 ∧ marked s q.hashMark j then s.pieceEnd f t none
      else if 256 ≤ j ∨ hashPieces (manPieces m) ≤ j ∨ walkPath (topHash j p) j path ≠ manRoot m then
        (s.count (F.UPD_CNT_COUNT 1)).pieceEnd f t (some 0x0F03)
      else
        let s1 := ((s.program (q.store + 1024 * j) p).mark q.hashMark j).count (F.UPD_CNT_COUNT 0)
        (if t = 0 then s1.reusePages q m j p else s1).pieceEnd f t none

/-- A data record (R398, R401). -/
def State.pieceData (s : State) (f : Option Fetched) (src : Nat) (b : List Byte) : State :=
  let t := recTarget b
  let k := recIndex b
  match pieceRefusal s src b 1032 with
  | some c => s.pieceEnd f t (some c)
  | none => match targetOf s t with
    | none => s.pieceEnd f t (some 0x0F08)
    | some (q, m, _) =>
      let p := slice b 8 1024
      if 8192 ≤ k then (s.count (F.UPD_CNT_COUNT 1)).pieceEnd f t (some 0x0F03)
      else if marked s q.dataMark k then s.pieceEnd f t none
      else if !marked s q.hashMark (k / 32) then s.pieceEnd f t (some 0x0F07)
      else if manPieces m ≤ k ∨ leafHash k p ≠ flashBytes s (q.store + 1024 * (k / 32) + 32 * (k % 32)) 32 then
        (s.count (F.UPD_CNT_COUNT 1)).pieceEnd f t (some 0x0F03)
      else (((s.program (q.image + 1024 * k) p).mark q.dataMark k).count (F.UPD_CNT_COUNT 0)).pieceEnd f t none

/-- Run a piece record: the host's next IMAGE_PIECE descriptor of a record type, or a record that the service firmware
submits with its source (R400). -/
def State.onPiece (s : State) (src : Nat) (bytes : List Byte) (ty : Nat → Bool)
    (k : State → Option Fetched → Nat → List Byte → State) : State :=
  if src = 0 then s.onTurn (fun f => wbits f.words 0 7 0 == 0x52 && ty (recType f.buf)) (fun x f => k x (some f) 0 f.buf)
  else if ty (recType bytes) then k s none src bytes else s

/-- IMAGE_PIECE_MANIFEST (R399). -/
def execImagePieceManifest (t src : Nat) (bytes : List Byte) (s : State) : Out :=
  .next ((s.at t).onPiece src bytes (fun y => y == 0 || decide (2 < y)) State.pieceManifest)
/-- IMAGE_PIECE_HASH (R401). -/
def execImagePieceHash (t src : Nat) (bytes : List Byte) (s : State) : Out :=
  .next ((s.at t).onPiece src bytes (fun y => y == 1) State.pieceHash)
/-- IMAGE_PIECE_DATA (R401). -/
def execImagePieceData (t src : Nat) (bytes : List Byte) (s : State) : Out :=
  .next ((s.at t).onPiece src bytes (fun y => y == 2) State.pieceData)

/-- Are every hash piece and every data piece of a target held (R403)? -/
def allHeld (s : State) (target : Nat) : Bool :=
  match targetOf s target with
  | none => false
  | some (q, m, _) => heldCount s q.dataMark (manPieces m) == manPieces m &&
      heldCount s q.hashMark (hashPieces (manPieces m)) == hashPieces (manPieces m)

/-- The whole-image hash ends (R403). -/
def State.stagingCheck (s : State) (target : Nat) : State :=
  if !s.en Blk.UPD || !allHeld s target || isChecked s target then s
  else match targetOf s target with
    | none => s
    | some (q, m, _) =>
      if rootOf (imagePieces s q.image (manPieces m)) = manRoot m then
        let at_ := if target = 0 then targetBobbin s else target + 1
        let s1 := { s with upd := { s.upd with manifests := modAt (fun _ => m) s.upd.manifests at_ } }
        ((if target = 0 then s1.actFor 1 (targetBobbin s) 0 m else s1).irq Blk.UPD 1).syncUpd
      else
        let s1 := if target = 0 then s.eraseSessions else s.eraseRange q.header 0x8000
        (s1.record 0x0F00 0x0F03).syncUpd

/-- STAGING_CHECK_DONE (R403). -/
def execStagingCheckDone (t target : Nat) (s : State) : Out := .next ((s.at t).stagingCheck target)

/-! ### Activation (R407 to R409) -/

def manifestOf (s : State) (b : Nat) : List Byte := s.upd.manifests.getD b []
def quiesceU (s : State) : Nat := msU (s.get F.UPD_CFG_QUIESCE_MS)

/-- ACTIVATE, ignored unless STAGE is 2: ARMED, and QUIESCE to the running image (Table 13-4 step 2). -/
def State.activate (s : State) : State :=
  if !s.en Blk.UPD || s.get F.UPD_STATUS_STAGE != 2 then s
  else
    let b := targetBobbin s
    let s1 := ((s.put F.UPD_STATUS_STAGE 3).actFor 2 b 0 (manifestOf s b)).irq Blk.UPD 4
    { s1 with upd := { s1.upd with quiesceBy := some (s1.now + quiesceU s1) } }

/-- ACTIVATE (R408). -/
def execActivate (t : Nat) (s : State) : Out := .next (s.at t).activate

/-- The forward half of the handover area holds: its CRCs, PASS 1, and the FORMAT that the new image reads (R407). -/
def forwardGood (s : State) (format : Nat) : Bool :=
  let h := s.sramRead 0x200C0000 64
  let len := leNat (slice h 8 4)
  slice h 0 4 == [0x48, 0x4F, 0x56, 0x52] && leNat (slice h 4 1) == format && leNat (slice h 5 1) == 1 && decide (len ≤ 131008) &&
  leNat (slice h 60 4) == crc32 (h.take 60) && leNat (slice h 32 4) == crc32 (s.sramRead 0x200C0040 len)

/-- Bytes of the customer partition that M4 covers (R515). -/
def partitionBytes (s : State) : List Byte :=
  flashBytes s partitionBase (256 + leNat (flashBytes s (partitionBase + 4) 4))
/-- M1 and M4 are taken (R302, R395). -/
def State.measureImage (s : State) (m : List Byte) : State :=
  let m4 := if partitionPresent s then fit 64 (Config.shake256 (partitionBytes s) 64) else zeros 64
  { s with upd := { s.upd with measured := modAt (fun _ => fit 64 (Config.shake256 m 64)) (modAt (fun _ => m4) s.upd.measured 4) 1 } }

/-- The instruction window shows bobbin `b`; the four instruction caches are invalidated, and the application cores restart in
it; application SRAM stays (R393, R394, R508). -/
def State.window (s : State) (b : Nat) : State :=
  let m := manifestOf s b
  let s1 := (((s.measureImage m).put F.UPD_STATUS_RUN_BOBBIN b).put F.UPD_RUN_EPOCH_EPOCH (manEpoch m)).put F.UPD_RUN_VERSION_VERSION
    (manVersion m)
  { s1 with cpx := { s1.cpx with icache := [[], [], [], []] } }.restartCores.startPartition

/-- An activation ends without a switch: ABANDONED, the image stays staged (R408). -/
def State.abandonArmed (s : State) (code : Nat) : State :=
  let b := targetBobbin s
  let s1 := ((s.actFor 7 b code (manifestOf s b)).put F.UPD_STATUS_STAGE 2).put F.UPD_STATUS_REASON code
  { s1 with upd := { s1.upd with quiesceBy := none } }

/-- The switch of Table 13-4 steps 4 and 5. -/
def State.switchOver (s : State) : State :=
  let b := targetBobbin s
  let m := manifestOf s b
  if !forwardGood s (manHandover m) then s.abandonArmed 0x0FF7
  else
    let s1 := (((s.actFor 3 b 0 m (manTrial m)).window b).put F.UPD_STATUS_STAGE 4).irq Blk.UPD 8
    { s1 with upd := { s1.upd with
      quiesceBy := none
      aliveBy := some (s1.now + msU 50)
      trialEnd := some (s1.now + manTrial m * secondU)
      handoverAt := s1.now } }.syncUpd

/-- The hitless reversion: the old window is restored, and the old image restarts (R409). -/
def State.revertOver (s : State) : State :=
  let b := s.get F.UPD_STATUS_RUN_BOBBIN
  let s1 := (((s.actFor 6 b 0x0F05 (manifestOf s b)).window (1 - b)).put F.UPD_STATUS_STAGE 2).put F.UPD_STATUS_REASON 0x0F05
  { ((s1.irq Blk.UPD 64).count (F.UPD_CNT_COUNT 3)) with
    upd := { s1.upd with revertBy := none, trialEnd := none, aliveBy := none } }.syncUpd

/-- May a requester write HANDOVER, ALIVE and CONFIRM: an application core only (R413)? -/
def isCore : Requester → Bool | .core _ => true | _ => false

/-- HANDOVER: the switch while armed, the reversion while one is requested. -/
def State.handover (s : State) (req : Requester) : State :=
  if !s.en Blk.UPD || !isCore req then s
  else if s.get F.UPD_STATUS_STAGE = 3 then s.switchOver
  else if s.get F.UPD_STATUS_STAGE = 4 ∧ s.upd.revertBy.isSome then s.revertOver
  else s

/-- HANDOVER (R408). -/
def execHandover (t : Nat) (req : Requester) (s : State) : Out := .next ((s.at t).handover req)

/-- ALIVE: the new image runs; the blackout is shown in 10 µs units (R408). -/
def State.alive (s : State) (req : Requester) : State :=
  if !s.en Blk.UPD || !isCore req || s.get F.UPD_STATUS_STAGE != 4 || s.upd.aliveBy.isNone then s
  else
    let b := s.get F.UPD_STATUS_RUN_BOBBIN
    let s1 := (s.actFor 4 b 0 (manifestOf s b)).put F.UPD_BLACKOUT_US (Nat.min ((s.now - s.upd.handoverAt) * 100000 / secondU) 65535)
    { s1 with upd := { s1.upd with aliveBy := none } }.syncUpd

/-- ALIVE (R408). -/
def execAlive (t : Nat) (req : Requester) (s : State) : Out := .next ((s.at t).alive req)

/-- Counter 2 is raised to a value (Table 13-4 step 7). -/
def State.raiseCounter2 (s : State) (v : Nat) : State :=
  if v ≤ counterValue s 2 then s
  else s.setCounter 2 v

/-- CONFIRM, ignored before ALIVE: the trial ends well, and the old bobbin becomes inactive (Table 13-4 steps 7 and 8). -/
def State.confirm (s : State) (req : Requester) : State :=
  if !s.en Blk.UPD || !isCore req || s.get F.UPD_STATUS_STAGE != 4 || s.upd.aliveBy.isSome || s.upd.revertBy.isSome then s
  else
    let b := s.get F.UPD_STATUS_RUN_BOBBIN
    let m := manifestOf s b
    let s1 := (((s.actFor 5 b 0 m).raiseCounter2 (manEpoch m)).eraseSessions.put F.UPD_STATUS_STAGE 0).irq Blk.UPD 32
    { s1 with upd := { s1.upd with trialEnd := none } }.syncUpd

/-- CONFIRM (R408). -/
def execConfirm (t : Nat) (req : Requester) (s : State) : Out := .next ((s.at t).confirm req)

/-- A reversion is requested of the image in trial (R409). -/
def State.requestRevert (s : State) : State :=
  if s.get F.UPD_STATUS_STAGE ≠ 4 ∨ s.upd.revertBy.isSome then s
  else { (s.irq Blk.UPD 16) with upd := { s.upd with revertBy := some (s.now + quiesceU s) } }

/-- REVERT, ignored unless STAGE is 4 (R409). -/
def execRevert (t : Nat) (s : State) : Out :=
  let x := s.at t
  .next (if x.en Blk.UPD then x.requestRevert else x)

/-- ABANDON discards the session, in STAGE 1 or 2 (Table 13-6). -/
def State.abandon (s : State) : State :=
  let st := s.get F.UPD_STATUS_STAGE
  if !s.en Blk.UPD || !(st == 1 || st == 2) then s else (s.eraseSessions.put F.UPD_STATUS_STAGE 0).syncUpd

/-- ABANDON (R413). -/
def execAbandon (t : Nat) (s : State) : Out := .next (s.at t).abandon

/-- Has a deadline passed? -/
def passed (s : State) (d : Option Nat) : Bool := match d with | some x => decide (x ≤ s.now) | none => false

/-- QUIESCE_MS passes without HANDOVER: the activation is abandoned, or the reset path is taken (R408, R409). -/
def State.quiesceTimeout (s : State) : State :=
  if s.get F.UPD_STATUS_STAGE = 3 ∧ passed s s.upd.quiesceBy then s.abandonArmed 0x0F05
  else if s.get F.UPD_STATUS_STAGE = 4 ∧ passed s s.upd.revertBy then s.deviceReset 11
  else s

/-- QUIESCE_TIMEOUT (R408). -/
def execQuiesceTimeout (t : Nat) (s : State) : Out := .next (s.at t).quiesceTimeout

/-- No ALIVE within 50 ms of HANDOVER (R409). -/
def execAliveTimeout (t : Nat) (s : State) : Out :=
  .next (if passed (s.at t) s.upd.aliveBy then (s.at t).deviceReset 11 else s.at t)

/-- The trial window ends without CONFIRM (R409). -/
def execTrialExpiry (t : Nat) (s : State) : Out :=
  .next (if passed (s.at t) s.upd.trialEnd then (s.at t).requestRevert.syncUpd else s.at t)

/-! ### Attestation (R302) -/

/-- The attestation report without its signature (Table 9-7). -/
def reportBody (s : State) (challenge : List Byte) : List Byte :=
  leBytes 2 1 ++ leBytes 2 502 ++ leBytes 8 Config.serial ++ leBytes 4 (s.get F.CRY_NONCE_INSTANCE) ++ fit 32 challenge ++
  leBytes 8 s.net ++ leBytes 4 (s.get F.UPD_RUN_EPOCH_EPOCH) ++ leBytes 4 (counterValue s 2) ++
  leBytes 1 (s.get F.UPD_STATUS_RUN_BOBBIN) ++ leBytes 1 (if s.on F.SIG_STATUS_OWNED then 1 else 0) ++
  leBytes 1 (if inTrial s then 1 else 0) ++ leBytes 1 s.cry.alarmsEver ++
  (List.range 5).flatMap (fun k => fit 64 (s.upd.measured.getD k []))

/-- ATTEST in report form (0) and in chain form (1). -/
def State.attest (s : State) (fail : Bool) (f : Fetched) : State :=
  match sigRefusal s with
  | some c => s.refuse f.ring f.words c
  | none =>
    let a := wordAt f.words 4 + wordAt f.words 5 * 2 ^ 32
    if fail then s.abortDma f
    else if wbits f.words 6 0 0 = 0 then
      if s.cry.identity = 0 then s.refuse f.ring f.words 0x0B03
      else
      let b := reportBody s (f.buf.take 32)
      let sig := fit 114 (Config.ed448Sign s.cry.identity (ascii "UARNAREN-ATTEST" ++ b))
      ((s.count (F.SIG_CNT_COUNT 0)).bufWrite f.ring a (b ++ sig)).done f.ring f.words
    else (s.bufWrite f.ring a s.cry.chain).done f.ring f.words 0 (w4 := s.cry.chain.length)

/-- The next ATTEST descriptor of a form. -/
def State.onAttest (s : State) (form : Nat) (fail : Bool) : State :=
  s.onTurn (fun f => wbits f.words 0 7 0 == 0x51 && wbits f.words 6 0 0 == form) (fun x f => x.attest fail f)

/-- ATTEST_REPORT (R302). -/
def execAttestReport (t : Nat) (fail : Bool) (s : State) : Out := .next ((s.at t).onAttest 0 fail)
/-- ATTEST_CHAIN (R302). -/
def execAttestChain (t : Nat) (fail : Bool) (s : State) : Out := .next ((s.at t).onAttest 1 fail)

end Sys2Proof.Machine
end

