-- ==== Sys2Proof/Machine/Tag.lean ====
section
/-! DEFINITION. The contactless tag: anticollision, sessions, NDEF identity, commissioning writes, quiet time, field and
coil (R416 to R436). -/

namespace Sys2Proof.Machine

/-! ### The field bank (R422, R425 to R427) -/

/-- A 32-byte word of the field bank; none where it is uncorrectable. -/
def tagWord (s : State) (a : Nat) : Option (List Byte) :=
  if s.flc.ue.contains (fieldBase + a) then none else some (flashBytes s (fieldBase + a) 32)

/-- The valid entries of the mode log, in order: mode, QUIET_S, WRITE_EN. -/
def modeEntries (s : State) : List (Nat × Nat × Bool) :=
  (List.range 64).filterMap (fun k => match tagWord s (0x800 + 32 * k) with
    | some e => if leNat (slice e 28 4) = crc32 (e.take 28) then
        some (leNat (slice e 0 1), leNat (slice e 1 1), bits (leNat (slice e 2 1)) 0 0 == 1) else none
    | none => none)
/-- The governing entry; an empty log means start-up mode, 10 s and writes enabled (R427). -/
def tagMode (s : State) : Nat × Nat × Bool := (modeEntries s).getLastD (2, 10, true)

/-- Append a mode log entry; a full log is erased first (R427). -/
def State.modeLog (s : State) (mode quiet : Nat) (wr : Bool) : State :=
  let e := leBytes 1 mode ++ leBytes 1 quiet ++ leBytes 1 wr.toNat ++ List.replicate 25 0xFF
  let b := e ++ leBytes 4 (crc32 e)
  match (List.range 64).find? (fun k => (flashBytes s (fieldBase + 0x800 + 32 * k) 32).all (fun x => x == 0xFF)) with
  | some k => s.program (fieldBase + 0x800 + 32 * k) b
  | none => (s.eraseRange (fieldBase + 0x800) 2048).program (fieldBase + 0x800) b

/-- The values of the valid records of a counter sector (R426). -/
def tagRecords (s : State) (sector : Nat) : List Nat :=
  (List.range 64).filterMap (fun k => match tagWord s (sector + 32 * k) with
    | some e => if leNat (slice e 8 4) = crc32 (e.take 8) ∧ leNat (slice e 0 4) + leNat (slice e 4 4) = 0xFFFFFFFF then
        some (leNat (slice e 0 4)) else none
    | none => none)
/-- The counter value C (R426). -/
def tagCounter (s : State) : Nat := (tagRecords s 0x3000 ++ tagRecords s 0x3800).foldl Nat.max 0

/-- A record slot's header (R425). -/
structure TagHeader where
  len : Nat
  applied : Nat
  version : Nat
  crc : Nat
  flag : Nat
  deriving DecidableEq, Repr

def slotPayload (k : Nat) : Nat := 0x1000 + 0x1000 * k
def slotHeader (k : Nat) : Nat := 0x1FE0 + 0x1000 * k

/-- The header of slot `k` (0 X, 1 Y), if its CRC is right. -/
def tagHeader (s : State) (k : Nat) : Option TagHeader :=
  match tagWord s (slotHeader k) with
  | none => none
  | some e => if leNat (slice e 28 4) = crc32 (e.take 3 ++ slice e 4 8) ∧ leNat (slice e 2 1) = 1 then
      some ⟨leNat (slice e 0 2), leNat (slice e 3 1), leNat (slice e 4 4), leNat (slice e 8 4), leNat (slice e 12 1)⟩
    else none

/-- The header of a valid slot (R426). -/
def validSlot (s : State) (k : Nat) : Option TagHeader :=
  match tagHeader s k with
  | none => none
  | some h => if h.flag ≠ 0xFF ∧ h.len ≤ 4064 ∧ crc32 (flashBytes s (fieldBase + slotPayload k) h.len) = h.crc ∧
      h.version ≤ tagCounter s then some h else none

/-- The active slot and its header (R426). -/
def activeSlot (s : State) : Option (Nat × TagHeader) :=
  match validSlot s 0, validSlot s 1 with
  | none, none => none
  | some x, none => some (0, x)
  | none, some y => some (1, y)
  | some x, some y =>
      if x.version ≠ y.version then (if y.version < x.version then some (0, x) else some (1, y))
      else if y.flag = (x.flag + 1) % 3 then some (1, y)
      else some (0, x)

/-- Does VSUP supply the device? -/
def vsupOn (s : State) : Bool := s.sup.power != .off

/-- TAG_STATUS, TAG_VERSION and the UID registers follow the field bank. -/
def State.syncTag (s : State) : State :=
  let a := activeSlot s
  let uid := fun (k : Nat) => bits Config.serial (47 - 8 * (k - 1)) (40 - 8 * (k - 1))
  ((((((s.put F.TAG_STATUS_MODE (tagMode s).1).put F.TAG_STATUS_SLOT (match a with | some x => x.1 | none => 0)).put
    F.TAG_STATUS_PENDING (match a with | some x => if x.2.applied = 0xFF then 1 else 0 | none => 0)).put F.TAG_VERSION_C (tagCounter s)).wr
    Reg.TAG_UID_LO (word (0x5D + uid 1 * 2 ^ 8 + uid 2 * 2 ^ 16 + uid 3 * 2 ^ 24))).wr
    Reg.TAG_UID_HI (word (uid 4 + uid 5 * 2 ^ 8 + uid 6 * 2 ^ 16)))

/-! ### Reports -/

/-- A counter, an interrupt or a record of TAG, which exist while the device is supplied (and the block enabled). -/
def State.tagCount (s : State) (k : Nat) : State := if vsupOn s then s.count (F.TAG_CNT_COUNT k) else s
def State.tagIrq (s : State) (m : Nat) : State := if vsupOn s && s.en Blk.TAG then s.irq Blk.TAG m else s

/-- The tag answers. -/
def State.answer (s : State) (bs : List Byte) : State := { s with tag := { s.tag with answer := bs } }
def State.tagState (s : State) (x : TagState) : State := { s with tag := { s.tag with st := x } }

/-- Is the quiet time in force (R432)? -/
def quiet (s : State) : Bool := decide (s.now < s.tag.quietUntil)

/-! ### ISO/IEC 14443-3 (R416 to R418) -/

/-- UID bytes and the bytes of a cascade level with BCC (R417). -/
def uidByte (k : Nat) : Byte := if k = 0 then 0x5D else BitVec.ofNat 8 (bits Config.serial (47 - 8 * (k - 1)) (40 - 8 * (k - 1)))
def withBcc (l : List Byte) : List Byte := l ++ [l.foldl (fun a b => a ^^^ b) 0]
def cascade (level : Nat) : List Byte :=
  if level = 1 then withBcc [0x88, uidByte 0, uidByte 1, uidByte 2] else withBcc [uidByte 3, uidByte 4, uidByte 5, uidByte 6]
/-- Bits of bytes, least significant first. -/
def uidBits (l : List Byte) : List Bool := l.flatMap (fun b => (List.range 8).map (fun i => bits b.toNat i i == 1))

/-- The cascade level that a state is in, if it is in anticollision. -/
def levelOf : TagState → Option Nat
  | .ready => some 1
  | .level2 => some 2
  | _ => none

/-- Is a field present? -/
def inField (s : State) : Bool := s.on F.TAG_STATUS_FIELD

/-- REQA, or WUPA, which a halted tag answers too; while quiet neither is answered (R432). -/
def State.reqa (s : State) (wupa : Bool) : State :=
  if !inField s then s
  else if quiet s then (s.tagCount 5).answer []
  else match s.tag.st with
    | .idle => (s.tagState .ready).answer [0x44, 0x00]
    | .halted => if wupa then (s.tagState .ready).answer [0x44, 0x00] else s.answer []
    | .session => s.answer []
    | _ => (s.tagState .idle).answer []

/-- REQA (R416). -/
def execReqa (t : Nat) (wupa : Bool) (s : State) : Out := .next ((s.at t).reqa wupa)

/-- The tag answers with the bits of its level that follow the known ones, if those are its own (R417, R418). -/
def State.anticollision (s : State) (level : Nat) (known : List Bool) : State :=
  if inField s && levelOf s.tag.st == some level then
    let own := uidBits (cascade level)
    if own.take known.length = known then s.answer ((own.drop known.length).map (fun b => if b then 1 else 0)) else s.answer []
  else s

/-- ANTICOLLISION (R417). -/
def execAnticollision (t level : Nat) (known : List Bool) (s : State) : Out := .next ((s.at t).anticollision level known)

/-- SELECT: SAK 0x04 at level 1, 0x20 at level 2; a SELECT for another UID returns the tag to IDLE (R417, R418). -/
def State.selectUid (s : State) (level : Nat) (uid : List Byte) : State :=
  if inField s && levelOf s.tag.st == some level then
    if uid = cascade level then
      (if level = 1 then (s.tagState .level2).answer [0x04] else (s.tagState .active).answer [0x20])
    else (s.tagState .idle).answer []
  else s

/-- SELECT (R418). -/
def execSelect (t level : Nat) (uid : List Byte) (s : State) : Out := .next ((s.at t).selectUid level uid)

/-! ### Sessions (R419, R432) -/

/-- RATS opens a session and returns the ATS. -/
def State.rats (s : State) : State :=
  if inField s && s.tag.st == .active then
    let s1 := { s with tag := { s.tag with st := .session, file := .none, selected := false, buffer := none } }
    ((s1.put F.TAG_STATUS_SESSION 1).tagCount 0).answer [0x05, 0x78, 0x00, 0x80, 0x00]
  else s

/-- RATS (R419). -/
def execRats (t : Nat) (s : State) : Out := .next (s.at t).rats

/-- A PPS request is answered with PPSS; the rate stays 106 kbit/s, the only one that is accepted (R419). -/
def State.pps (s : State) (_rate : Nat) : State := if inField s && s.tag.st == .session then s.answer [0xD0] else s

/-- PPS (R419). -/
def execPps (t rate : Nat) (s : State) : Out := .next ((s.at t).pps rate)

/-- The session is over, and with it the record buffer. -/
def State.endTagSession (s : State) (x : TagState) : State :=
  { s with tag := { s.tag with st := x, file := .none, selected := false, buffer := none } }.put F.TAG_STATUS_SESSION 0

/-- The tag has been handled: it is quiet for QUIET_S of the mode log, and with TAG enabled reports it (R432). -/
def State.startQuiet (s : State) : State :=
  let s1 := { s with tag := { s.tag with quietUntil := s.now + (tagMode s).2.1 * secondU } }.put F.TAG_STATUS_QUIET 1
  if vsupOn s && s.en Blk.TAG then (s1.irq Blk.TAG 4).record 0x1000 0x1004 else s1

/-- S(DESELECT) in a session, or HLTA of a selected tag; after a successful application select it starts the quiet
time. -/
def State.deselect (s : State) (hlta : Bool) : State :=
  if !inField s then s
  else if hlta then
    match s.tag.st with
    | .active => (s.tagState .halted).answer []
    | .ready => (s.tagState .idle).answer []
    | .level2 => (s.tagState .idle).answer []
    | .session => if s.tag.selected then (s.endTagSession .halted).startQuiet.answer [] else (s.endTagSession .halted).answer []
    | _ => s
  else if s.tag.st == .session then
    let s1 := (s.endTagSession .halted).answer [0xC2]
    if s.tag.selected then s1.startQuiet else s1
  else s

/-- DESELECT (R432). -/
def execDeselect (t : Nat) (hlta : Bool) (s : State) : Out := .next ((s.at t).deselect hlta)

/-! ### APDUs (R420, R423, R424) -/

/-- A response: data and status word.  A refusal is counted, with its reason. -/
def State.respond (s : State) (data : List Byte) (sw : Nat) : State :=
  let s1 := (s.tagCount 1).answer (data ++ [BitVec.ofNat 8 (sw / 256), BitVec.ofNat 8 sw])
  if sw = 0x9000 then s1
  else
    let s2 := s1.tagCount 2
    if vsupOn s then s2.put F.TAG_STATUS_LAST_REASON (if sw = 0x6A84 then 0x1003 else 0x1002) else s2

/-- A response whose status word the spec does not state: some word other than 0x9000. -/
def State.respondOpen (s : State) : State :=
  let r := s.fresh 65535
  r.2.respond [] (if r.1 < 0x9000 then r.1 else r.1 + 1)

/-- Application identifiers (R420, R423). -/
def ndefAid : List Byte := [0xD2, 0x76, 0x00, 0x00, 0x85, 0x01, 0x01]
def vendorAid : List Byte := [0xF0, 0x55, 0x41, 0x52, 0x4E, 0x43, 0x4D]

/-- Select an application by its name, or a file of the NDEF application by its identifier. -/
def State.ndefSelect (s : State) (byName : Bool) (name : List Byte) : State :=
  let set := fun (x : State) (f : TagFile) (sel : Bool) =>
    { x with tag := { x.tag with file := f, selected := x.tag.selected || sel } }.respond [] 0x9000
  let inNdef := s.tag.file == .ndefApp || s.tag.file == .capability || s.tag.file == .ndef
  if !inField s || s.tag.st != .session then s
  else if byName then
    (if name = ndefAid then set s .ndefApp true else if name = vendorAid then set s .vendor true else s.respondOpen)
  else if inNdef && name == [0xE1, 0x03] then set s .capability false
  else if inNdef && name == [0xE1, 0x04] then set s .ndef false
  else s.respondOpen

/-- NDEF_SELECT (R420). -/
def execNdefSelect (t : Nat) (byName : Bool) (name : List Byte) (s : State) : Out := .next ((s.at t).ndefSelect byName name)

/-- The capability container (R420). -/
def capabilityFile : List Byte := [0x00, 0x0F, 0x20, 0x00, 0xF8, 0x00, 0xF8, 0x04, 0x06, 0xE1, 0x04, 0x00, 0xDD, 0x00, 0xFF]

/-- The identity payload (R421); the public key and the origin signature are what sector 0 holds. -/
def identityPayload : List Byte :=
  leBytes 2 1 ++ (List.range 7).map uidByte ++ leBytes 2 0x9440 ++ [0x42] ++ leBytes 8 Config.serial ++
  fit 171 Config.identityTail

/-- The NDEF file: NLEN and one short record (R420). -/
def ndefFile : List Byte :=
  [0x00, 0xDB, 0xD2, 0x19, 0xBF] ++ ascii "application/x.uarnaren.id" ++ identityPayload

/-- READ BINARY of the selected file; what is answered past its end, or without a file, is open. -/
def State.readBinary (s : State) (offset n : Nat) : State :=
  if !inField s || s.tag.st != .session then s
  else
    let file := match s.tag.file with | .capability => capabilityFile | .ndef => ndefFile | _ => []
    if offset < file.length ∧ n ≤ 248 ∧ offset + n ≤ file.length then s.respond (slice file offset n) 0x9000 else s.respondOpen

/-- READ_BINARY (R420). -/
def execReadBinary (t offset n : Nat) (s : State) : Out := .next ((s.at t).readBinary offset n)

/-- UPDATE_BINARY is answered 0x6982 (R420). -/
def execUpdateBinary (t : Nat) (s : State) : Out :=
  .next (if inField (s.at t) && (s.at t).tag.st == .session then (s.at t).respond [] 0x6982 else s.at t)

/-- A command of the vendor application: outside it its CLA is unknown (R424). -/
def State.vendorApdu (s : State) (cla : Nat) (k : State → State) : State :=
  if !inField s || s.tag.st != .session then s
  else if cla ≠ 0x80 ∨ s.tag.file ≠ .vendor then s.respond [] 0x6E00
  else k s

/-- WRITE_BEGIN opens a record buffer; what its bytes hold before they are written is open. -/
def State.writeBegin (data : List Byte) (s : State) : State :=
  let len := leNat data
  if data.length ≠ 2 ∨ len = 0 then s.respond [] 0x6700
  else if !(tagMode s).2.2 then s.respond [] 0x6982
  else if 4064 < len then s.respond [] 0x6A84
  else
    let r := s.freshBytes len
    { r.2 with tag := { r.2.tag with buffer := some ⟨len, r.1⟩ } }.respond [] 0x9000

/-- WRITE_BEGIN (R423). -/
def execWriteBegin (t cla : Nat) (data : List Byte) (s : State) : Out := .next ((s.at t).vendorApdu cla (State.writeBegin data))

/-- WRITE_DATA places bytes in the buffer. -/
def State.writeData (offset : Nat) (data : List Byte) (s : State) : State :=
  match s.tag.buffer with
  | none => s.respond [] 0x6985
  | some b =>
      if data.length = 0 ∨ 240 < data.length then s.respond [] 0x6700
      else if b.len < offset + data.length then s.respond [] 0x6985
      else
        let bytes := b.bytes.take offset ++ data ++ b.bytes.drop (offset + data.length)
        { s with tag := { s.tag with buffer := some { b with bytes := bytes } } }.respond [] 0x9000

/-- WRITE_DATA (R423). -/
def execWriteData (t cla offset : Nat) (data : List Byte) (s : State) : Out :=
  .next ((s.at t).vendorApdu cla (State.writeData offset data))

/-- WRITE_ABORT discards the buffer. -/
def State.writeAbort (s : State) : State := { s with tag := { s.tag with buffer := none } }.respond [] 0x9000

/-- WRITE_ABORT (R423). -/
def execWriteAbort (t cla : Nat) (s : State) : Out := .next ((s.at t).vendorApdu cla State.writeAbort)

/-- The 16 bytes of the STATUS response; without an active record its fields are open (R423). -/
def statusBytes (s : State) : List Byte × State :=
  match activeSlot s with
  | some (k, h) => (leBytes 1 (tagMode s).1 ++ leBytes 1 k ++ leBytes 4 h.version ++ leBytes 1 h.flag ++ leBytes 1 h.applied ++
      leBytes 4 h.crc ++ leBytes 2 h.len ++ leBytes 2 s.tag.lastCommit, s)
  | none => let r := s.freshBytes 13; (leBytes 1 (tagMode s).1 ++ r.1 ++ leBytes 2 s.tag.lastCommit, r.2)

/-- The STATUS APDU. -/
def State.statusApdu (s : State) : State := let r := statusBytes s; r.2.respond r.1 0x9000

/-- TAG_STATUS (R423). -/
def execTagStatus (t cla : Nat) (s : State) : Out := .next ((s.at t).vendorApdu cla State.statusApdu)

/-! ### A commit (R428, R429) -/

/-- The first record place of a counter sector after which all is erased; none in a full sector. -/
def counterSpot (s : State) (sector : Nat) : Option Nat :=
  let blank := fun k => match tagWord s (sector + 32 * k) with | some e => e.all (fun x => x == 0xFF) | none => false
  (List.range 64).find? (fun k => (List.range (64 - k)).all (fun j => blank (k + j)))

/-- One counter record in a sector; a full sector is erased first.  `twice` writes the first backup value twice. -/
def State.counterRecord (s : State) (sector v : Nat) (twice : Bool) : State :=
  let e := leBytes 4 v ++ leBytes 4 (0xFFFFFFFF - v)
  let b := e ++ leBytes 4 (crc32 e) ++ List.replicate 20 0xFF
  match counterSpot s sector with
  | none => (s.eraseRange (fieldBase + sector) 2048).program (fieldBase + sector) b
  | some k =>
      let s1 := s.program (fieldBase + sector + 32 * k) b
      if twice && k == 0 then s1.program (fieldBase + sector + 32) b else s1

/-- A counter record that the field's collapse cuts off: its word reads its old value, its new value or uncorrectable, and
in a full sector the erase before it leaves no word readable (R428, Table 14-1). -/
def State.cutRecord (s : State) (sector v cut : Nat) (twice : Bool) : State :=
  if cut = 0 then s
  else if cut = 1 then s.counterRecord sector v twice
  else
    let words := match counterSpot s sector with | none => List.range 64 | some k => [k]
    { s with flc := { s.flc with ue := words.map (fun k => fieldBase + sector + 32 * k) ++ s.flc.ue } }

/-- The program of a word that the field's collapse cuts off: old value, new value, or uncorrectable (R428). -/
def State.cutWord (s : State) (a cut : Nat) (bs : List Byte) : State :=
  if cut = 0 then s
  else if cut = 1 then s.program (fieldBase + a) bs
  else { s with flc := { s.flc with ue := (fieldBase + a) :: s.flc.ue } }

/-- The header of a new record, without FLAG (R425). -/
def newHeader (len version crc : Nat) : List Byte :=
  let a := leBytes 2 len ++ [0x01]
  let b := leBytes 4 version ++ leBytes 4 crc
  a ++ [0xFF] ++ b ++ List.replicate 16 0xFF ++ leBytes 4 (crc32 (a ++ b))

/-- What a commit does, as a list of steps: their numbers in Table 14-1, the whole step, and the step cut off. -/
structure TagStep where
  num : Nat
  whole : State → State
  cutOff : Nat → State → State

/-- The steps of a commit of `bs` (R428); the shadow-and-flag scheme leaves out the first two. -/
def commitSteps (s : State) (bs : List Byte) : List TagStep :=
  let counter := (tagMode s).1 == 3
  let c := tagCounter s
  let v := if counter then c + 1 else c
  let a := activeSlot s
  let k := match a with | some x => 1 - x.1 | none => 0
  let flag := match a with | some x => (x.2.flag + 1) % 3 | none => 0
  let base := fieldBase + slotPayload k
  let head := newHeader bs.length v (crc32 bs)
  let spoil := fun (x : State) => { x with flc := { x.flc with ue := (fieldBase + slotHeader k) :: x.flc.ue } }
  let flagged := head.take 12 ++ leBytes 1 flag ++ head.drop 13
  (if counter then [
    ⟨1, fun x => x.counterRecord 0x3000 (c + 1) false, fun cut x => x.cutRecord 0x3000 (c + 1) cut false⟩,
    ⟨2, fun x => x.counterRecord 0x3800 (c + 1) true, fun cut x => x.cutRecord 0x3800 (c + 1) cut true⟩] else []) ++
  [⟨3, fun x => x.eraseRange base 0x1000, fun _ x => spoil (x.scramble base 0x1000)⟩,
   ⟨4, fun x => x.program base bs, fun _ x => x.scramble base bs.length⟩,
   ⟨5, fun x => x.program (fieldBase + slotHeader k) head, fun cut x => x.cutWord (slotHeader k) cut head⟩,
   ⟨6, fun x => x.program (fieldBase + slotHeader k) flagged, fun cut x => x.cutWord (slotHeader k) cut flagged⟩]

/-- Run steps up to the one at which the field collapses, if it does: the state, and whether all ran. -/
def runSteps (s : State) (collapse : Option (Nat × Nat)) : List TagStep → State × Bool
  | [] => (s, true)
  | x :: r => match collapse with
    | some (n, cut) => if x.num = n then (x.cutOff cut s, false) else runSteps (x.whole s) collapse r
    | none => runSteps (x.whole s) collapse r

/-- A flash step of a commit fails to verify, and the previous record stays active (R424): which step it is, and whether
its word then reads as before or as uncorrectable, is free; the steps before it have run. -/
def State.failedCommit (s : State) (steps : List TagStep) : State :=
  let k := s.fresh steps.length
  let c := k.2.fresh 2
  let x := (runSteps c.2 none (steps.take k.1)).1
  let y := match steps[k.1]? with | some st => st.cutOff (2 * c.1) x | none => x
  if vsupOn s then y.syncTag else y

/-- The field is lost: the tag loses its session and its record buffer (R423, R434). -/
def State.fieldLost (s : State) : State :=
  let left := s.tag.quietUntil - s.now
  let s1 := (s.endTagSession .idle).put F.TAG_STATUS_FIELD 0
  { s1 with tag := { s1.tag with quietLeft := left, lostAt := s.now } }.tagIrq 2

/-- WRITE_COMMIT: `collapse` gives the step at which the field collapses and how its word reads then, which matters
only without VSUP (R429); `verifyFail` says that a flash step fails to verify. -/
def State.writeCommit (data : List Byte) (collapse : Option (Nat × Nat)) (verifyFail : Bool) (s : State) : State :=
  match s.tag.buffer with
  | none => s.respond [] 0x6985
  | some b =>
      if data.length ≠ 4 then s.respond [] 0x6700
      else if !(tagMode s).2.2 then s.respond [] 0x6982
      else if leNat data ≠ crc32 b.bytes then s.respond [] 0x6A80
      else if verifyFail then
        let x := s.failedCommit (commitSteps s b.bytes)
        ({ x with tag := { x.tag with lastCommit := 0x6581 } }).respond [] 0x6581
      else
        let r := runSteps s (if vsupOn s then none else collapse) (commitSteps s b.bytes)
        if !r.2 then r.1.fieldLost
        else
          let s1 := { r.1 with tag := { r.1.tag with lastCommit := 0x9000 } }
          let s2 := ((if vsupOn s then s1.syncTag else s1).tagCount 3).tagIrq 8
          let st := statusBytes s2
          let s3 := st.2.respond st.1 0x9000
          if collapse.isSome then (s3.answer []).fieldLost else s3

/-- WRITE_COMMIT (R428). -/
def execWriteCommit (t cla : Nat) (data : List Byte) (collapse : Option (Nat × Nat)) (verifyFail : Bool) (s : State) : Out :=
  .next ((s.at t).vendorApdu cla (State.writeCommit data collapse verifyFail))

/-! ### Field, quiet time and coil (R432 to R436) -/

/-- A field is detected.  Without VSUP the quiet flag outlasts a dropout of up to 500 ms, not one above 700 ms, and is
open between them; quiet time then goes on (R433). -/
def State.fieldOn (s : State) : State :=
  if inField s then s
  else
    let s1 := (s.put F.TAG_STATUS_FIELD 1).tagIrq 1
    let s2 := { s1 with tag := { s1.tag with st := .idle } }
    if vsupOn s then (if s.en Blk.TAG then s2.fire 50 else s2)
    else
      let gap := s.now - s.tag.lostAt
      let r := s2.fresh 2
      let keep := decide (gap ≤ msU 500) || (decide (gap ≤ msU 700) && r.1 == 1)
      let s3 := if msU 500 < gap ∧ gap ≤ msU 700 then r.2 else s2
      { s3 with tag := { s3.tag with quietUntil := if keep then s.now + s.tag.quietLeft else s.now } }

/-- Is NFC_FD driven, and at which level: high while a field is detected, with FD_PIN set, while VSUP is present (R434)? -/
def nfcFd (s : State) : Option Bool :=
  if vsupOn s && s.on F.TAG_CFG_FD_PIN then some (inField s) else none

/-- FIELD_ON (R434). -/
def execFieldOn (t : Nat) (s : State) : Out := .next (s.at t).fieldOn

/-- FIELD_OFF (R434). -/
def execFieldOff (t : Nat) (s : State) : Out := .next (if inField (s.at t) then (s.at t).fieldLost else s.at t)

/-- QUIET_EXPIRY (R432). -/
def execQuietExpiry (t : Nat) (s : State) : Out :=
  .next (if quiet (s.at t) then s.at t else (s.at t).put F.TAG_STATUS_QUIET 0)

/-- UNQUIET ends the quiet at once (R433). -/
def State.unquiet (s : State) : State :=
  if !s.en Blk.TAG then s
  else { s with tag := { s.tag with quietUntil := s.now, quietLeft := 0 } }.put F.TAG_STATUS_QUIET 0

def execUnquiet (t : Nat) (s : State) : Out := .next (s.at t).unquiet

/-- A coil test: 0 good, 1 open, 2 short, 3 detuned; and the ball (R436). -/
def State.coilTest (s : State) (result ball : Nat) : State :=
  if !s.en Blk.TAG || !vsupOn s then s
  else
    let s1 := s.put F.TAG_STATUS_COIL result
    if result = 0 then s1
    else (s1.irq Blk.TAG 32).record 0x1000 (if result = 2 then 0x1401 else 0x1402) ball

/-- COIL_TEST (R436). -/
def execCoilTest (t result ball : Nat) (s : State) : Out := .next ((s.at t).coilTest (result % 4) ball)

/-! ### TAG enable (R430, R437) and a record at boot (R431) -/

/-- At TAG enable, a target that is neither valid nor fully erased, or a C above the active VERSION by 1 with no valid
slot at C, shows a lost commit (R430). -/
def State.lostCommit (s : State) : State :=
  let a := activeSlot s
  let k := match a with | some x => 1 - x.1 | none => 0
  let erased := (flashBytes s (fieldBase + slotPayload k) 0x1000).all (fun b => b == 0xFF) &&
    !s.flc.ue.contains (fieldBase + slotHeader k)
  let damaged := (validSlot s k).isNone && !erased
  let c := tagCounter s
  let ahead : Bool := match a with | some x => c == x.2.version + 1 | none => c == 1
  if damaged || ahead then
    ((s.record 0x1000 0x1001 (if damaged then 5 else 2)).irq Blk.TAG 16).count (F.TAG_CNT_COUNT 4)
  else s

/-- A change of QUIET_S or WRITE_EN appends a mode log entry (R437). -/
def State.tagEnabled (s : State) : State :=
  let m := tagMode s
  let q := s.get F.TAG_CFG_QUIET_S
  let w := s.on F.TAG_CFG_WRITE_EN
  let s1 := if q ≠ m.2.1 ∨ w ≠ m.2.2 then s.modeLog m.1 q w else s
  (s1.lostCommit).syncTag

/-- APPLIED of slot `k` is programmed. -/
def State.setApplied (s : State) (k v : Nat) : State := s.program (fieldBase + slotHeader k + 3) (leBytes 1 v)

/-- Does a record carry a valid signature of an owner key (R431)? -/
def recordSigned (s : State) (p : List Byte) : Bool :=
  let n := p.length - 115
  match s.cry.owners.getD (leNat (slice p n 1)) none with
  | some k => decide (115 ≤ p.length) && Config.ed448Verify k (ascii "UARNAREN-CONFIG") (p.take (n + 1)) (p.drop (n + 1))
  | none => false

/-- The boot loader reads the active record, and imports it if it has not been read yet; `formOk` is the verdict on its
form, and `ownerKey` a first owner key that it carries (R431).  Answers whether a record was applied. -/
def State.applyRecord (s : State) (formOk : Bool) (ownerKey : Option (List Byte)) : State × Bool :=
  match activeSlot s with
  | none => (s, false)
  | some (k, h) =>
      let p := flashBytes s (fieldBase + slotPayload k) h.len
      let owned := s.cry.owners.any Option.isSome
      if h.applied ≠ 0xFF then (s, false)
      else if owned && !recordSigned s p then ((s.setApplied k 0x5A).record 0x1000 0x0C03, false)
      else if !formOk then ((s.setApplied k 0x5A).record 0x1000 0x1002, false)
      else
        let s1 := { s with upd := { s.upd with config := p } }
        let s2 := match ownerKey with
          | some key => if owned then s1 else s1.setOwner 0 (some key)
          | none => s1
        ((s2.setApplied k 0x00).irq Blk.TAG 8, true)

end Sys2Proof.Machine
end

