-- ==== Sys2Proof/Machine/Enable.lean ====
section
/-! DEFINITION. Enabling and disabling blocks: the enable check of every block, its result, an abandoned check, and a
disable (R65 to R69, R541, R568, Table 2-11, and each chapter's enable check). -/

namespace Sys2Proof.Machine

/-! ### Dependencies (Table 2-11) -/

/-- Blocks that must be enabled first, in the order of their row. -/
def dependencies (b : Nat) : List Nat :=
  if b = Blk.SUP ∨ b = Blk.CLK then [Blk.SYS]
  else if [Blk.TMB, Blk.EVF, Blk.HRE, Blk.CRY, Blk.SIG, Blk.ESM, Blk.CPX, Blk.PER].contains b then [Blk.CLK]
  else if b = Blk.BLW then [Blk.SUP]
  else if b = Blk.RFE ∨ b = Blk.FLC then [Blk.CLK, Blk.SUP]
  else if b = Blk.PHY then [Blk.RFE]
  else if b = Blk.MUR then [Blk.PHY]
  else if b = Blk.SEC then [Blk.CRY, Blk.SIG]
  else if b = Blk.MAC then [Blk.CRY, Blk.ESM]
  else if b = Blk.CHN then [Blk.MAC, Blk.BLW, Blk.HRE, Blk.RFE, Blk.TMB]
  else if b = Blk.SKN then [Blk.CLK, Blk.EVF]
  else if b = Blk.UPD then [Blk.FLC, Blk.SIG]
  else if b = Blk.TAG ∨ b = Blk.HKA then [Blk.PER]
  else []

/-- The first enabled block, by its number, that depends on `b` (R68). -/
def enabledDependent (s : State) (b : Nat) : Option Nat :=
  (List.range 23).find? (fun x => s.en x && (dependencies x).contains b)

/-- Does a check wait: for a dependency's own check (R67), and Chanter's for the initial calibration (R240)? -/
def checkWaits (s : State) (b : Nat) : Bool :=
  (dependencies b).any (fun d => s.on (F.BLK_BUSY d)) ||
    (b == Blk.CHN && s.en Blk.RFE && !s.on F.RFE_STATUS_CAL_DONE)

/-! ### Faults that a check finds (R568) -/

/-- A fault, when a condition holds: its code and the register that FIELD names. -/
def faultIf (bad : Bool) (code field : Nat) : Option Fault3 := if bad then some ⟨code, field, none⟩ else none
/-- A field outside its stated range (0xF6). -/
def outside (s : State) (f : Fld) (lo hi : Nat) : Option Fault3 :=
  faultIf (decide (s.get f < lo) || decide (hi < s.get f)) 0xF6 f.addr
/-- The same for a field that is checked only while `on` (R568). -/
def outsideIf (on : Bool) (s : State) (f : Fld) (lo hi : Nat) : Option Fault3 := if on then outside s f lo hi else none
/-- A bin field outside −100 to +99. -/
def badBin (on : Bool) (s : State) (f : Fld) : Option Fault3 := faultIf (on && !binUsable (binOf (s.get f))) 0xF6 f.addr

def checkClk (s : State) : List (Option Fault3) :=
  let meas := fun (src n : Nat) => bits (s.clk.measured.getD src false).toNat 0 0 * n
  [faultIf (decide (4 * xoDelayUs s < 5 * meas 0 (s.get F.CLK_XO_MEAS_XO_US)) ||
      (!s.on F.CLK_CFG_LF_SRC && decide (4 * lfDelayMs s < 5 * meas 1 (s.get F.CLK_XO_MEAS_LF_MS)))) 0x05 Reg.CLK_CFG]

def checkBlw (s : State) : List (Option Fault3) :=
  let stored := s.on F.BLW_CFG_MODE
  let ofs := signed 11 (s.get F.BLW_SRC_DAY_OFS)
  [outsideIf (s.on F.BLW_CFG_LEARN_EN) s F.BLW_CFG_LEARN_SHIFT 1 12, outside s F.BLW_CFG_PERIOD_MIN 1 1440,
   outside s F.BLW_ECON_HOLD 1 1000, outsideIf (!stored) s F.BLW_CAP_CAP_MW 1 65535,
   outsideIf (s.on F.BLW_CFG_CEIL_EN) s F.BLW_CAP_CEIL_MW 1 65535, outsideIf stored s F.BLW_SRC_AUTONOMY_H 1 65535,
   faultIf (stored && (decide (ofs < -840) || decide (840 < ofs))) 0xF6 Reg.BLW_SRC,
   (floorConflict s (shadowModel s)).map (fun f => ⟨0xF7, f, none⟩)]

def checkRfe (s : State) : List (Option Fault3) :=
  let lo := s.get F.RFE_RXLO_FREQ
  let first := binOf (s.get F.RFE_NB_FIRST)
  let low : Int := (lo : Int) + first * 245760 - 122880
  let high : Int := (lo : Int) + (first + s.get F.RFE_NB_COUNT - 1) * 245760 + 122880
  let fem := s.on F.RFE_FEM_EN
  let agc := fun (c : Nat) => bits (s.get F.RFE_CFG_CHAIN_EN) c c == 1 && s.get (F.RFE_RX_MODE c) == 0
  [faultIf (s.relay && decide (2 ≤ s.get F.RFE_CFG_CHAIN_EN)) 0xF1 Reg.RFE_CFG,
   faultIf (s.relay && s.on F.RFE_FEM_EXT_PA) 0xF1 Reg.RFE_FEM,
   outsideIf s.relay s F.RFE_NB_COUNT 1 9, outside s F.RFE_TX_RAMP 0 5,
   outside s F.RFE_FEM_FLT_SEL 0 4, outsideIf fem s F.RFE_FEM_FEM_LEAD 0 20, outsideIf fem s F.RFE_FEM_FEM_LAG 0 20,
   outsideIf (agc 0) s (F.RFE_RX_CLIP_N 0) 1 63, outsideIf (agc 0) s (F.RFE_RX_HOLD_MS 0) 1 255,
   outsideIf (agc 1) s (F.RFE_RX_CLIP_N 1) 1 63, outsideIf (agc 1) s (F.RFE_RX_HOLD_MS 1) 1 255]
  ++ (List.range 8).flatMap (fun m => [outsideIf (s.on (F.RFE_MASK_ATT_DB m)) s (F.RFE_MASK_F_KHZ m) 0 979, outside s (F.RFE_MASK_ATT_DB m) 0 80])
  ++ [faultIf (if s.relay then decide (lo < 750000000) || decide (960000000 < lo)
        else decide (lo < 774698880) || decide (935546880 < lo)) 0x01 Reg.RFE_RXLO,
      faultIf (s.relay && (decide (low < 750000000) || decide (960000000 < high))) 0x01 Reg.RFE_NB,
      faultIf (s.on F.RFE_FEM_EXT_PA && !s.on F.RFE_FEM_FLT_SEL) 0x07 Reg.RFE_FEM,
      faultIf (fem && s.get F.RFE_FEM_TX_PAT == s.get F.RFE_FEM_RX_PAT) 0x07 Reg.RFE_FEM]

/-- The bins set in word `k` of a bin map. -/
def mapBins (w : Word) (k : Nat) : List Int :=
  ((List.range 32).filter (fun i => bits w.toNat i i == 1)).map (fun i => (k * 32 + i : Nat) - (100 : Int))

/-- The register of a seven-word bin map that holds the bin after the first `n`. -/
def nthBin (s : State) (reg : Nat → Nat) (n : Nat) : Option Nat :=
  (List.range 7).find? (fun k => decide (n < sumBy (fun j => (mapBins (s.rd (reg j)) j).length) (List.range (k + 1))))
    |>.map reg

def checkPhy (s : State) : List (Option Fault3) :=
  ((List.range 7).map (fun k => faultIf ((mapBins (s.rd (Reg.PHY_ALWAYS k)) k).any (fun b => !inNarrowband s b 1)) 0xF1
    (Reg.PHY_ALWAYS k)))
  ++ [outside s F.PHY_DET_ED_WIN_LOG2 6 12, outside s F.PHY_DET_ED_THRESH 1 63, outside s F.PHY_QUAL_NPRE 4 14,
      outside s F.PHY_QUAL_THRESH 16 128, outside s F.PHY_QUAL_SYNC_WIN 16 63,
      faultIf (!s.on F.PHY_CFG_SF_EN) 0xF7 Reg.PHY_CFG, faultIf (!s.on F.PHY_CFG_CODE_EN) 0xF7 Reg.PHY_CFG,
      faultIf (decide (s.get F.PHY_QUAL_SYNC_WIN + s.get F.PHY_QUAL_NPRE < 34)) 0xF7 Reg.PHY_QUAL]

/-- Wide lanes present, and those in mode 1 with the carrier of their channel, in kHz. -/
def wideEnabled (s : State) : List Nat := (List.range 4).filter (fun w => s.on (F.MUR_WIDE_EN w))
def wideKhz (s : State) (w : Nat) : Option Nat :=
  if s.on (F.MUR_WIDE_EN w) && s.on (F.MUR_WIDE_MODE w) then ieee154Khz (s.get (F.MUR_WIDE_BAND w)) (s.get (F.MUR_WIDE_CHANNEL w))
  else none

def checkMur (s : State) : List (Option Fault3) :=
  let inSpan := fun (w : Nat) => match wideKhz s w with
    | some k => let x := wideSpan s (s.get (F.MUR_WIDE_BAND w)) k; inNarrowband s x.1 x.2
    | none => true
  let usable := fun (w : Nat) => match wideKhz s w with
    | some k => wideBinsOk s (s.get (F.MUR_WIDE_BAND w)) k
    | none => true
  [faultIf (s.relay && (s.on F.MUR_CFG_DIV_MODE || s.on F.MUR_CFG_SIC_EN)) 0xF1 Reg.MUR_CFG]
  ++ (List.range 7).map (fun k => faultIf (s.relay && s.rd (Reg.MUR_CSET k) != 0) 0xF1 (Reg.MUR_CSET k))
  ++ (List.range 4).map (fun w => faultIf (s.relay && s.on (F.MUR_WIDE_EN w) && (decide (1 ≤ w) || !inSpan w)) 0xF1 (Reg.MUR_WIDE w))
  ++ [outside s F.MUR_CFG_DIV_MODE 0 2, outsideIf (s.on F.MUR_CFG_PREEMPT_EN) s F.MUR_CFG_PREEMPT_MARGIN 1 63,
      outsideIf (s.on F.MUR_CFG_SIC_EN) s F.MUR_CFG_SIC_DEPTH 1 7]
  ++ (wideEnabled s).map (fun w => faultIf (s.on (F.MUR_WIDE_MODE w) && (wideKhz s w).isNone) 0xF6 (Reg.MUR_WIDE w))
  ++ [(nthBin s Reg.MUR_CSET 32).map (fun a => ⟨0x05, a, none⟩),
      if s.relay then none else (nthBin s Reg.PHY_ALWAYS 112).map (fun a => ⟨0xF7, a, none⟩)]
  ++ (wideEnabled s).map (fun w => faultIf (!s.relay && (wideKhz s w).isSome &&
      ((List.range 4).drop (w + 1)).any (fun v => wideKhz s v == wideKhz s w)) 0xF7 (Reg.MUR_WIDE w))
  ++ (wideEnabled s).map (fun w => faultIf (!s.relay && !usable w) 0xF7 (Reg.MUR_WIDE w))

def checkChn (s : State) : List (Option Fault3) :=
  let bank := bankCheck s (s.get F.CHN_STATUS_ACTIVE_BANK)
  [outside s F.CHN_CFG_REPAIR_HORIZON 1 255, outside s F.CHN_CFG_MIN_LEAD 1 15, outside s F.CHN_CFG_RX_LIMIT 1 16,
   outside s F.CHN_PRIO_LIM_LIM1 0 64, outside s F.CHN_PRIO_LIM_LIM2 0 64, outside s F.CHN_PRIO_LIM_LIM3 0 64,
   bank.filter (fun f => f.code == 0xF6),
   faultIf (decide (s.get F.CHN_PRIO_LIM_LIM1 < s.get F.CHN_PRIO_LIM_LIM2) ||
     decide (s.get F.CHN_PRIO_LIM_LIM2 < s.get F.CHN_PRIO_LIM_LIM3)) 0xF7 Reg.CHN_PRIO_LIM,
   bank]

/-- Ranges of a neighbour entry, and of a duty-cycle account; the account's edges are conflicts (R153). -/
def nbrRange (s : State) (j : Nat) : List (Option Fault3) :=
  let on := s.on (F.MAC_NBR_ADDR_EN j)
  [badBin on s (F.MAC_NBR_RADIO_BIN j), outsideIf on s (F.MAC_NBR_RADIO_SF_IDX j) 0 8]
def dcRange (s : State) (n : Nat) : List (Option Fault3) :=
  let on := s.on (F.MAC_DC_CFG_EN n)
  [outsideIf on s (F.MAC_DC_CFG_LIMIT n) 1 1000, outsideIf on s (F.MAC_DC_WIN_BUCKET_S n) 1 255,
   outsideIf on s (F.MAC_DC_WIN_NBUCKETS n) 1 (if s.on (F.MAC_DC_CFG_DWELL n) then 32 else 120),
   outsideIf (on && s.on (F.MAC_DC_CFG_LBT_EN n)) s (F.MAC_DC_LBT_LISTEN_US n) 128 65535]
def dcOrder (s : State) (n : Nat) : Option Fault3 :=
  faultIf (s.on (F.MAC_DC_CFG_EN n) && decide (s.get (F.MAC_DC_FHI_KHZ n) ≤ s.get (F.MAC_DC_FLO_KHZ n))) 0xF7 (Reg.MAC_DC_FLO n)
def dcBand (s : State) (n : Nat) : List (Option Fault3) :=
  let off := fun (k : Nat) => decide (k < 750000) || decide (960000 < k)
  let on := s.on (F.MAC_DC_CFG_EN n)
  [faultIf (on && off (s.get (F.MAC_DC_FLO_KHZ n))) 0xF7 (Reg.MAC_DC_FLO n),
   faultIf (on && off (s.get (F.MAC_DC_FHI_KHZ n))) 0xF7 (Reg.MAC_DC_FHI n)]

def checkMac (s : State) : List (Option Fault3) :=
  let auto := s.on F.MAC_DRONE_AUTO
  let follows := s.get F.MAC_CFG_TIME_SRC == 1
  [outside s F.MAC_CFG_TIME_SRC 0 2, outside s F.MAC_DRONE_PERIOD_LOG2 6 16, outsideIf follows s F.MAC_DRONE_DEPTH_MAX 1 15,
   outside s F.MAC_DRONE_REPAIR_DELAY 1 63, outside s F.MAC_SYNC_MAX_SLEW 1 125, outsideIf follows s F.MAC_SYNC_RETRY 1 15,
   outsideIf auto s F.MAC_BCN_RADIO_SF_IDX 0 8, outsideIf auto s F.MAC_BCN_RADIO_POWER 0 80, badBin auto s F.MAC_BCN_RADIO_BIN]
  ++ (List.range 16).flatMap (nbrRange s) ++ (List.range 16).flatMap (dcRange s)
  ++ (List.range 16).map (dcOrder s) ++ (List.range 16).flatMap (dcBand s)
  ++ [faultIf (follows && (candidateFrom s none 0 16).isNone) 0xF7 Reg.MAC_CFG,
      faultIf (decide (s.get F.CHN_CFG_REPAIR_HORIZON < s.get F.MAC_DRONE_REPAIR_DELAY)) 0xF7 Reg.MAC_DRONE]

def checkEsm (s : State) : List (Option Fault3) :=
  let on := s.get F.ESM_BANKS_ON
  [faultIf (!s.relay && on != 0xFFFFFFFF) 0xF1 Reg.ESM_BANKS,
   outside s F.ESM_CKPT_INTERVAL_MIN 1 65535, outside s F.ESM_CKPT_LIFE_Y 1 60,
   faultIf (decide (s.get F.ESM_CKPT_INTERVAL_MIN * 2240000 < 4 * (banksOn s).length * s.get F.ESM_CKPT_LIFE_Y * 525960)) 0x04
     Reg.ESM_CKPT,
   faultIf (s.relay && (dirIndexes s).any (fun i => s.dirRec i != DirRec.free && !bankOn s i)) 0xF7 Reg.ESM_BANKS]

/-- The SEC check: a tamper input enabled while its line shows open or short (R306, R526). -/
def checkSec (s : State) : List (Option Fault3) :=
  [faultIf ((s.on F.SEC_CFG_TAMP0_EN && s.on F.PER_TAMP_LINE0) || (s.on F.SEC_CFG_TAMP1_EN && s.on F.PER_TAMP_LINE1)) 0xF7
    Reg.SEC_CFG]

def checkSkn (s : State) : List (Option Fault3) :=
  let fast := fun (p : Nat) => s.on (F.SKN_PORT_CFG_EN p) && s.get (F.SKN_PORT_CFG_RATE p) % 2 == 0
  [outside s F.SKN_MSG_SHARE 0 2768, outside s F.SKN_MSG_HOLD_MS 1 10000, outside s F.SKN_TIME_HOLD_PPB 1 65535]
  ++ [0, 1, 2].map (fun p => outsideIf (s.on (F.SKN_PORT_CFG_EN p)) s (F.SKN_PORT_CFG_RATE p) 0 2)
  ++ [faultIf (s.on F.SKN_CFG_PLL_DISC && !([0, 1, 2].any fast)) 0xF7 Reg.SKN_CFG,
      faultIf (s.on F.SKN_CFG_QUENCH_SKEIN && !s.on F.SKN_CFG_PRIORITY) 0xF7 Reg.SKN_CFG]

def checkFlc (s : State) : List (Option Fault3) :=
  [outsideIf (s.on F.FLC_CFG_GUARD_EN) s F.FLC_CFG_GUARD_LOG 0 6, outside s F.FLC_CFG_IDLE_US 1 255,
   outside s F.FLC_CFG_SUSP_MS 0 64, outsideIf (s.on F.FLC_SCRUB_SCRUB_EN) s F.FLC_SCRUB_PERIOD_D 1 255]

def checkEvf (s : State) : List (Option Fault3) :=
  let bad := fun (a : Nat) => faultIf (pubSubBad a (s.rd a)) 0xF6 a
  [outside s F.EVF_MON_LIMIT 2 255, outside s F.EVF_MON_WIN_US 1 255]
  ++ (List.range 64).map (fun e => bad (Reg.EVF_PUB e)) ++ (List.range 128).map (fun k => bad (Reg.EVF_SUB k))
  ++ [faultIf (decide (49 * s.get F.EVF_MON_WIN_US < s.get F.EVF_MON_LIMIT)) 0xF7 Reg.EVF_MON]

def checkPer (s : State) : List (Option Fault3) :=
  (List.range 40).flatMap (fun n => [faultIf (decide (24 ≤ n) && s.on (F.PER_PIN_FUNC n)) 0xF6 (Reg.PER_PIN n),
      outside s (F.PER_PIN_PULL n) 0 2])
  ++ (List.range 8).map (fun u => outsideIf (s.on (F.PER_GEVT_EDGE u)) s (F.PER_GEVT_PIN u) 0 39)
  ++ (List.range 8).map (fun u => outsideIf (s.on (F.PER_GTSK_ACTION u)) s (F.PER_GTSK_PIN u) 0 39)
  ++ [0, 1].flatMap (fun i => [outside s (F.PER_UART_CFG_DIV i) 16 65535, outside s (F.PER_UART_CFG_PARITY i) 0 2])
  ++ [0, 1].flatMap (fun i => [outside s (F.PER_SPI_CFG_WIDTH i) 0 2, outsideIf (i == 1) s (F.PER_SPI_CFG_CS i) 0 1])
  ++ [0, 1].map (fun i => outside s (F.PER_I2C_CFG_SPEED i) 0 2)

def checkHka (s : State) : List (Option Fault3) :=
  let used := (List.range 16).filter (fun j => decide (j < s.get F.HKA_CFG_LEN))
  [outside s F.HKA_CFG_LEN 1 16]
  ++ used.flatMap (fun j => [outside s (F.HKA_SEQ_AVG j) 0 8,
      faultIf (s.on (F.HKA_SEQ_CHECK j) && decide (8 ≤ s.get (F.HKA_SEQ_CH j)) && decide (s.get (F.HKA_SEQ_CH j) ≤ 12)) 0xF6 (Reg.HKA_SEQ j)])
  ++ used.map (fun j => faultIf (decide (13 ≤ s.get (F.HKA_SEQ_CH j))) 0x01 (Reg.HKA_SEQ j))

/-- What the check of a block finds beside its dependencies, in the order of R568. -/
def blockFaults (s : State) (b : Nat) : List (Option Fault3) :=
  if b = Blk.CLK then checkClk s
  else if b = Blk.BLW then checkBlw s
  else if b = Blk.HRE then [outside s F.HRE_CFG_CTRL_RESERVE 4 64]
  else if b = Blk.RFE then checkRfe s
  else if b = Blk.PHY then checkPhy s
  else if b = Blk.MUR then checkMur s
  else if b = Blk.CHN then checkChn s
  else if b = Blk.MAC then checkMac s
  else if b = Blk.ESM then checkEsm s
  else if b = Blk.SKN then checkSkn s
  else if b = Blk.FLC then checkFlc s
  else if b = Blk.UPD then [outside s F.UPD_CFG_QUIESCE_MS 10 1000]
  else if b = Blk.TAG then [outside s F.TAG_CFG_QUIET_S 2 60]
  else if b = Blk.EVF then checkEvf s
  else if b = Blk.PER then checkPer s
  else if b = Blk.HKA then checkHka s
  else if b = Blk.SEC then checkSec s
  else []

/-- The fault that a check reports: a missing dependency before every other (R67, R568). -/
def checkFault (s : State) (b : Nat) : Option Fault3 :=
  match (dependencies b).find? (fun d => !s.en d) with
  | some d => some ⟨0xF2, Reg.BLK_CTL d, none⟩
  | none => firstSome (blockFaults s b)

/-! ### What an enable does -/

/-- Clear the counters whose field maps say "cleared at enable" (R541). -/
def State.clearCounters (s : State) (b : Nat) : State :=
  if b = Blk.HRE then s.put F.HRE_EVT_LOST_COUNT 0
  else if b = Blk.RFE then s.clearRun (Reg.RFE_CNT 0) 5
  else if b = Blk.PHY then s.clearRun (Reg.PHY_CNT 0) 8
  else if b = Blk.MUR then (List.range 64).foldl (fun x n => x.put (F.MUR_LANE_FRAMES_COUNT n) 0) (s.clearRun (Reg.MUR_CNT 0) 10)
  else if b = Blk.MAC then s.clearRun (Reg.MAC_RXCNT 0) 7
  else if b = Blk.ESM then s.clearRun (Reg.ESM_CNT 0) 4
  else if b = Blk.CRY then s.clearRun (Reg.CRY_CNT 0) 4
  else if b = Blk.SIG then s.clearRun (Reg.SIG_CNT 0) 4
  else if b = Blk.SKN then [0, 1, 2].foldl (fun x p => x.put (F.SKN_PORT_ERR_COUNT p) 0) (s.clearRun (Reg.SKN_CNT 0) 8)
  else if b = Blk.FLC then s.clearRun (Reg.FLC_CNT 0) 8
  else if b = Blk.UPD then s.clearRun (Reg.UPD_CNT 0) 4
  else if b = Blk.TAG then s.clearRun (Reg.TAG_CNT 0) 6
  else if b = Blk.EVF then (s.clearRun (Reg.EVF_CNT 0) 6).clearRun (Reg.EVF_COINC 0) 128
  else s

/-- HRE drains: the finals of the host items in the promise table are written first (R32, R51). -/
def State.hreEnabled (s : State) : State :=
  let held := (s.items.filter (fun (i : Item) => i.owner == Owner.host && i.decided)).map (fun i => i.idx)
  { s.put F.HRE_STATUS_DRAINING (if held.isEmpty then 0 else 1) with hre := { s.hre with draining := held } }

/-- The initial calibration starts (R240), and chains with a fixed gain take its state (R223). -/
def State.rfeEnabled (s : State) : State :=
  let s1 := s.fixedGains.put F.RFE_STATUS_CAL_DONE 0
  { s1 with rfe := { s1.rfe with calibrating := true } }.syncFem

/-- Lanes present are free, and wide lanes in mode 1 listen (R195, R196). -/
def State.murEnabled (s : State) : State :=
  let s1 := (List.range 64).foldl State.clearLane s
  ({ s1 with mur := { Mur.reset with bins := s1.mur.bins, seatQueue := s1.mur.seatQueue, buffer := s1.mur.buffer } }).syncLoad.coverage

/-- A Chanter fault is left, and the mismatch window is clear (R106). -/
def State.chnEnabled (s : State) : State :=
  let s1 := { s with chn := { s.chn with
    mismatches := []
    restoring := false
    waitingBoundary := false
    lastSlot := asn s.net
    refaultFrom := if s.on F.CHN_STATUS_FAULT then some s.now else s.chn.refaultFrom } }
  ((s1.put F.CHN_STATUS_FAULT 0).put F.CHN_MISMATCH_RECENT 0).coverage

/-- The tracking state follows TIME_SRC: UNACQUIRED with a parent Drone as source, and its scan starts (R113, R137). -/
def State.macEnabled (s : State) : State :=
  let s1 := (s.dropOwn (fun o => isTracking o || isScan o)).put F.MAC_SYNC_STATUS_PARENT_V 0
  let s2 := { s1 with mac := { s1.mac with missed := 0, skip := none, periodLog2 := s.get F.MAC_DRONE_PERIOD_LOG2, candidate := 0 } }
  if s.get F.MAC_CFG_TIME_SRC = 1 then (s2.trackState 1).scanFrom 0 else s2.trackState 0

/-- Banks powered on hold unused entries, checkpoints are counted from here, and when the newest index record is a
close record an open record is appended (R253, R270, R272). -/
def State.esmEnabled (s : State) : State :=
  let interval := s.get F.ESM_CKPT_INTERVAL_MIN * 60 * secondU
  let s1 := { s with esm := { s.esm with
    entries := s.esm.entries.filter (fun x => bankOn s x.1)
    bad := s.esm.bad.filter (bankOn s)
    dueAt := s.now + interval } }
  let s2 := ((s1.put F.ESM_UE_IDX_PENDING (Nat.min 255 s1.esm.bad.length)).put F.ESM_STATUS_CLOSED 0).put F.ESM_CTL_CLOSE 0
  if newestType s = 2 then s2.indexWrite 3 0xFF (newestSlot s) s.net else s2

/-- The ports test their lines, and the device is ALONE (R311, R318). -/
def State.sknEnabled (s : State) : State :=
  let ports := s.skn.ports.map (fun (_ : Port) => { Port.reset with testAt := s.now, unlockedAt := s.now })
  let s1 := { s with skn := { s.skn with
    ports := ports, viewHead := none, viewDep := none, viewAt := s.now, incumbent := false, fromOrphan := false
    lostHead := none, members := [], removed := false, thetas := [], holdSince := none, lastFrame := s.net / frameUnit } }
  let s2 := [0, 1, 2].foldl (fun x p => ((x.wr (Reg.SKN_PORT_STATUS p) 0).put (F.SKN_PORT_STATUS_LOW_RATE p) (ownRate s p)).wr
    (Reg.SKN_PORT_PEER p) 0) s1
  (s2.put F.SKN_STATUS_STATE 1).alone

/-- The rebuild starts: READY is set by FLC_READY (R382). -/
def State.flcEnabled (s : State) : State := s.put F.FLC_STATUS_READY 0

/-- The loop monitor and the merge bookkeeping start afresh (R449, R453). -/
def State.evfEnabled (s : State) : State := { s with evf := { s.evf with recent := [], skRuns := [], lastFire := [], lastTrigger := [] } }

/-- What follows the PASS of a block. -/
def State.onEnabled (s : State) (b : Nat) : State :=
  if b = Blk.HRE then s.hreEnabled
  else if b = Blk.BLW then s.bellowsEnabled
  else if b = Blk.RFE then s.rfeEnabled
  else if b = Blk.PHY then { s with mur := { s.mur with bins := [], seatQueue := [] } }.seats
  else if b = Blk.MUR then s.murEnabled
  else if b = Blk.CHN then s.chnEnabled
  else if b = Blk.MAC then s.macEnabled
  else if b = Blk.ESM then s.esmEnabled
  else if b = Blk.SKN then s.sknEnabled
  else if b = Blk.FLC then s.flcEnabled
  else if b = Blk.TAG then s.tagEnabled
  else if b = Blk.PER then (s.drivePads 0).drivePads 1
  else if b = Blk.EVF then s.evfEnabled
  else s

/-! ### The commands -/

/-- Writing 1 to EN while EN is 0 starts the check (R66); otherwise it has no effect (R67). -/
def State.enable (s : State) (b : Nat) : State :=
  if 23 ≤ b ∨ s.en b ∨ s.on (F.BLK_BUSY b) then s
  else (((s.put (F.BLK_BUSY b) 1).put (F.CHK_STATUS b) 1).put (F.CHK_REASON b) 0).wr (Reg.BLK_CHK_FIELD b) 0

/-- BLOCK_ENABLE (R66). -/
def execBlockEnable (t b : Nat) (s : State) : Out := .next ((s.at t).enable b)

/-- The check ends: PASS or REFUSED (R66, R67, R568). -/
def State.checkDone (s : State) (b : Nat) : State :=
  if 23 ≤ b ∨ !s.on (F.BLK_BUSY b) ∨ checkWaits s b then s
  else
    let s1 := s.put (F.BLK_BUSY b) 0
    match checkFault s b with
    | some f =>
        let s2 := match f.cell with | some i => s1.put F.CHN_CELL_IDX_IDX i | none => s1
        s2.checkRefused b (b * 256 + f.code) f.field
    | none =>
        let s2 := (((s1.put (F.BLK_EN b) 1).put (F.CHK_STATUS b) 2).put (F.CHK_REASON b) 0).wr (Reg.BLK_CHK_FIELD b) 0
        (s2.clearCounters b).onEnabled b

/-- ENABLE_CHECK_DONE (R66). -/
def execEnableCheckDone (t b : Nat) (s : State) : Out := .next ((s.at t).checkDone b)

/-- Writing 0 to EN during the check abandons it (R66). -/
def State.abandonCheck (s : State) (b : Nat) : State :=
  if 23 ≤ b ∨ !s.on (F.BLK_BUSY b) then s
  else ((s.put (F.BLK_BUSY b) 0).put (F.CHK_STATUS b) 0).put (F.CHK_REASON b) (b * 256 + 0xF5)

/-- CHECK_ABANDONED (R66). -/
def execCheckAbandoned (t b : Nat) (s : State) : Out := .next ((s.at t).abandonCheck b)

/-- Does an item use a block (R68)? -/
def usesBlock (b : Nat) (i : Item) : Bool :=
  if b = Blk.HRE then i.owner == .host
  else if i.decided then false
  else if b = Blk.CHN ∨ b = Blk.BLW then true
  else match i.kind with
    | .tx _ => b == Blk.RFE || b == Blk.MAC || (b == Blk.ESM && (match i.owner with | .join _ => true | _ => false)) ||
        (b == Blk.UPD && (match i.owner with | .dist _ => true | _ => false))
    | .rx _ => b == Blk.RFE || b == Blk.PHY || b == Blk.MUR || (b == Blk.MAC && i.owner != .host)
    | .flash _ => b == Blk.FLC || (b == Blk.ESM && i.owner == .checkpoint)
    | .skein _ => b == Blk.SKN
    | .swap => false

/-- What a disable does beyond clearing EN: HRE stops (R37), timers stop (R455), the skein's ports go dark (R308). -/
def State.onDisabled (s : State) (b : Nat) : State :=
  if b = Blk.HRE then s.stopHre
  else if b = Blk.TMB then (List.range 16).foldl (fun x n => x.put (F.TMB_CH_STATUS_RUN n) 0) s
  else if b = Blk.SKN then
    let s1 := [0, 1, 2].foldl (fun x p => (x.put (F.SKN_PORT_STATUS_LINK p) 0).put (F.SKN_PORT_PEER_V p) 0) s.loseSkeinRef
    (((((s1.put F.SKN_STATUS_STATE 0).put F.SKN_STATUS_UPPORT 3).put F.SKN_STATUS_HOPS 0x7FF).put F.SKN_STATUS_HEAD_ID 0).put
      F.SKN_STATUS_DEPUTY 0).syncHoldover
  else if b = Blk.ESM then { s.put F.ESM_STATUS_CKPT_RUNNING 0 with esm := { s.esm with ckpt := none } }
  else if b = Blk.MUR then ((List.range 64).foldl State.clearLane { s with mur := { s.mur with freed := [], jobs := [], running := none, scanning := false, residues := [] } }).syncLoad
  else s

/-- Writing 0 to EN while EN is 1 disables the block, or is refused with 0xF3 or 0xF4 (R68).  Every accepted item counts,
the device's own too; which blocks an item uses is said in notes/assumptions/85.md. -/
def State.disable (s : State) (b : Nat) : State :=
  if 23 ≤ b ∨ !s.en b then s
  else match enabledDependent s b with
    | some d => s.checkRefused b (b * 256 + 0xF3) (Reg.BLK_CTL d)
    | none =>
        if s.items.any (usesBlock b) then s.checkRefused b (b * 256 + 0xF4) 0
        else ((s.put (F.BLK_EN b) 0).onDisabled b).syncFem

/-- BLOCK_DISABLE (R68). -/
def execBlockDisable (t b : Nat) (s : State) : Out := .next ((s.at t).disable b)

end Sys2Proof.Machine
end

