-- ==== Sys2Proof/Machine/Boot.lean ====
section
/-! DEFINITION. The boot chain after a device reset, and the PCIe link (R1, R50, R195, R393 to R396, R427, R431, R465,
R466, R555). -/

namespace Sys2Proof.Machine

/-! ### Steps 1 and 2: the boot loader and the configuration record -/

def State.measure (s : State) (k : Nat) (bs : List Byte) : State :=
  { s with upd := { s.upd with measured := modAt (fun _ => fit 64 (Config.shake256 bs 64)) s.upd.measured k } }

/-- The owner key set as it is measured: the four keys in order, a missing one as zeros. -/
def ownerBytes (s : State) : List Byte := s.cry.owners.flatMap (fun (o : Option (List Byte)) => o.getD (zeros 57))

/-- What an absent record sets: the anchor profile, zeros, and the longest delays (R465; notes/assumptions/2.md). -/
def BootConfig.absent : BootConfig := ⟨false, 0, 0, 0xFFFFFFFF, 1, none, none, false, false, false⟩

/-- The factory costs that differ in the relay profile, LANE, CHAIN and BASE (Table 11-3): after a power-on reset the cost
table holds factory values, and after another reset what it held (R346, R351). -/
def State.factoryCosts (s : State) : State :=
  if s.relay ∧ s.get F.SYS_RST_CAUSE = 1 then
    ((s.put (F.BLW_COST_VALUE 0) 310).put (F.BLW_COST_VALUE 1) 270).put (F.BLW_COST_VALUE 6) 320
  else s

/-- Registers that take their values from the profile and the record (Table 19-2, codes prof and cfg). -/
def State.applyConfig (s : State) (c : BootConfig) : State :=
  let r := c.relay
  let lanes := Nat.max 1 (Nat.min 4 c.lanes)
  let s1 := ((({ s with relay := r }.put F.MAC_CFG_DEVICE_ID c.deviceId).put F.CRY_NONCE_INSTANCE c.nonceInstance).put
    F.HRE_CFG_HOST_MODE r.toNat).put F.HRE_STATUS_LINK_UP r.toNat
  let s2 := (((s1.put F.MUR_CFG_DIV_MODE (if r then 0 else 2)).wr Reg.MUR_CAP (if r then word (0x10200 + lanes) else 0x00041040)).put
    F.RFE_CFG_CHAIN_EN (if r then 1 else 3)).put F.BLW_CFG_MODE r.toNat
  let banks := if r then c.banks % 2 ^ 32 else 0xFFFFFFFF
  let s3 := s2.put F.ESM_BANKS_ON banks
  let s4 := s3.put F.ESM_CKPT_MIN_MINUTES (ckptMinutes (banksOn s3).length (s3.get F.ESM_CKPT_LIFE_Y))
  let s5 := (s4.put F.CLK_CFG_XO_DELAY (c.xoDelay.getD 15)).put F.CLK_CFG_LF_DELAY (c.lfDelay.getD 7)
  let s6 := ((s5.put F.CLK_CFG_XO_MODE c.tcxo.toNat).put F.CLK_CFG_LF_SRC c.noLfxo.toNat).put F.CLK_CFG_PCIE_REF c.sris.toNat
  { s6 with clk := { s6.clk with running := modAt (fun _ => !c.noLfxo) s6.clk.running 1 } }.factoryCosts

/-- The boot loader enables a block whose check passes. -/
def State.bootEnable (s : State) (b : Nat) : State := (s.put (F.BLK_EN b) 1).put (F.CHK_STATUS b) 2

/-- SYS, SUP and CLK are enabled; a refusal of CLK for a start delay is answered with the longest delays (R466). -/
def State.bootEnables (s : State) : State :=
  let s1 := (s.bootEnable Blk.SYS).bootEnable Blk.SUP
  match firstSome (checkClk s1) with
  | none => s1.bootEnable Blk.CLK
  | some _ => (((s1.put F.CLK_CFG_XO_DELAY 15).put F.CLK_CFG_LF_DELAY 7).put F.CLK_STATUS_DELAY_FORCED 1).bootEnable Blk.CLK

/-! ### Step 3: the choice of the bobbin (R396) -/

/-- Is a bobbin in trial: its newest record is SWITCH or ALIVE? -/
def bootTrial (s : State) (b : Nat) : Bool :=
  match newestRec (fun r => r.bobbin == b) (actRecs s) with | some r => r.kind == 3 || r.kind == 4 | none => false

/-- The newest bobbin with a CONFIRMED record; A when there is none (notes/assumptions/86.md). -/
def confirmedBobbin (s : State) : Nat :=
  match newestRec (fun r => r.kind == 5) (actRecs s) with | some r => r.bobbin % 2 | none => 0

/-- A reset in trial boots the other bobbin and appends REVERTED (R396, R409). -/
def State.bootRevert (s : State) (b : Nat) : State :=
  (((s.actFor 6 b 0x0F05 (manifestOf s b)).put F.UPD_STATUS_REASON 0x0F05).irq Blk.UPD 64).count (F.UPD_CNT_COUNT 3)

/-- Does a bobbin pass step 3: its manifest, its epoch, and its whole image against ROOT? -/
def bootable (s : State) (b : Nat) : Bool :=
  let m := manifestOf s b
  manConsistent m && manKind m == 0 && manPart m == 0x9440 && decide (manMinRev m ≤ siliconRev) && manSigned s m &&
  decide (counterValue s 2 ≤ manEpoch m) && rootOf (imagePieces s (bobbinBase b) (manPieces m)) == manRoot m

/-! ### Steps 4 to 6 -/

/-- A mode log entry, when the mode differs from the last one (R427). -/
def State.bootMode (s : State) (mode : Nat) : State :=
  let m := tagMode s
  if m.1 = mode then s else s.modeLog mode m.2.1 m.2.2

/-- The vault, unless an alarm is active, the owner keys, the import rule and the tag's settings come back (R285, R286, R297,
R427). -/
def State.bootRestore (s : State) : State :=
  let s1 := (if s.on F.SEC_ALARM_ACTIVE then { s with cry := { s.cry with restoreAgain := true } } else s.loadStore).syncOwners
  let s2 := if s1.on F.SIG_STATUS_OWNED then s1.put F.SEC_CFG_PLAIN_IMPORT 0 else s1
  let m := tagMode s2
  ((s2.put F.TAG_CFG_QUIET_S m.2.1).put F.TAG_CFG_WRITE_EN m.2.2.toNat).syncTag

/-- The application cores are released. -/
def State.release (s : State) : State :=
  ({ s with cpx := { s.cpx with released := true } }.restartCores).startPartition

/-- The recovery image runs, and enables HRE, FLC, SIG and UPD (R396). -/
def State.bootRecovery (s : State) : State :=
  [Blk.HRE, Blk.FLC, Blk.SIG, Blk.UPD].foldl State.enable (((((s.bootMode 4).bootRestore).put F.UPD_STATUS_RECOVERY 1).release).syncUpd)

/-- Bobbin `b` runs; an anti-rollback counter that the CONFIRMED record of its image has not yet raised is raised. -/
def State.bootImage (s : State) (b : Nat) (applied : Bool) : State :=
  let m := manifestOf s b
  let s1 := if bootTrial s b || confirmedBobbin s != b then s else s.raiseCounter2 (manEpoch m)
  let s2 := if applied || (tagMode s1).1 == 4 then s1.bootMode 3 else s1
  let s3 := (((s2.measureImage m).bootRestore.put F.UPD_STATUS_RUN_BOBBIN b).put F.UPD_RUN_EPOCH_EPOCH (manEpoch m)).put
    F.UPD_RUN_VERSION_VERSION (manVersion m)
  s3.release.syncUpd

/-- The choice of R396: the preferred bobbin, the other one, or recovery. -/
def State.bootChoose (s : State) (applied : Bool) : State :=
  let trial := [0, 1].find? (bootTrial s)
  let s1 := match trial with | some b => s.bootRevert b | none => s
  let p := match trial with | some b => 1 - b | none => confirmedBobbin s
  if bootable s1 p then s1.bootImage p applied
  else if bootable s1 (1 - p) then (s1.put F.UPD_STATUS_FALLBACK 1).bootImage (1 - p) applied
  else s1.bootRecovery

/-- May the boot chain run: a device reset has ended, and the pin and the supply allow it? -/
def bootReady (s : State) : Bool :=
  s.upd.bootPending && s.sup.pinLow.isNone && !s.sup.switchOpen && !s.sup.brown && s.sup.power != .off

/-- The boot chain of Table 13-2.  `loaderOk` is step 1's verdict on the boot loader, `cfg` what the active configuration
record says, `recordOk` and `ownerKey` belong to a record that waits in the tag (R431), and `step2Ok` says whether step 2
succeeds. -/
def State.boot (s : State) (loaderOk : Bool) (cfg : Option BootConfig) (recordOk : Bool) (ownerKey : Option (List Byte))
    (step2Ok : Bool) : State :=
  if !bootReady s then s
  else
    let s0 := { s.measure 0 (flashBytes s 0 0x200000) with upd := { (s.measure 0 (flashBytes s 0 0x200000)).upd with bootPending := false } }
    if !loaderOk then s0
    else
      let r := s0.applyRecord recordOk ownerKey
      let s1 := (r.1.applyConfig (cfg.getD BootConfig.absent)).bootEnables
      let s2 := (s1.measure 2 s1.upd.config).measure 3 (ownerBytes s1)
      if step2Ok then s2.bootChoose r.2 else s2.bootRecovery

/-- BOOT (R395). -/
def execBoot (t : Nat) (loaderOk : Bool) (cfg : Option BootConfig) (recordOk : Bool) (ownerKey : Option (List Byte))
    (step2Ok : Bool) (s : State) : Out := .next ((s.at t).boot loaderOk cfg recordOk ownerKey step2Ok)

/-! ### The PCIe link (R555) -/

/-- The link trains once boot step 2 is complete; in the relay profile the endpoint is powered down (R39). -/
def State.linkTrained (s : State) : State :=
  if s.relay || s.upd.bootPending || !s.en Blk.CLK then s else s.put F.HRE_STATUS_LINK_UP 1

/-- PCIE_LINK_UP (R555). -/
def execPcieLinkUp (t : Nat) (s : State) : Out := .next (s.at t).linkTrained

end Sys2Proof.Machine
end

