-- ==== Sys2Proof/Machine/Dist.lean ====
section
/-! DEFINITION. Distribution of endpoint images: DIST_CONTROL, the carousel, reports and snapshots (R410 to R412). -/

namespace Sys2Proof.Machine

def State.distSlot (s : State) (d : Nat) : DistSlot := s.upd.dist.getD d DistSlot.reset
def State.setDist (s : State) (d : Nat) (f : DistSlot → DistSlot) : State :=
  { s with upd := { s.upd with dist := modAt f s.upd.dist d } }

/-- The endpoints that a campaign targets: the active directory records of its index range.  The directory holds no
endpoint model (notes/assumptions/82.md). -/
def targeted (s : State) (c : Campaign) : List Nat :=
  (dirIndexes s).filter (fun i => decide (c.first ≤ i) && decide (i ≤ c.last) && (s.dirRec i).dstate == 1)

/-- Frames of one carousel cycle: two for the manifest, six for a hash piece, five for a data piece. -/
def cycleFrames (m : List Byte) : Nat := 2 + 6 * hashPieces (manPieces m) + 5 * manPieces m

/-- The STATUS values: targeted, done, failed, frames sent, cycles completed. -/
def distStatus (s : State) (d : Nat) : List Nat :=
  let x := s.distSlot d
  let m := checkedManifest s (d + 1)
  match x.campaign with
  | some c => let l := targeted s c
      [l.length, (l.filter x.done.contains).length, (l.filter x.failed.contains).length, c.sent, c.cursor / cycleFrames m]
  | none => [0, x.done.length, x.failed.length, 0, 0]

/-! ### Reports (R412) -/

/-- One endpoint report: its index, DIST_ID and result. -/
def readReport (f : FwFrame) : Option (Nat × List Byte × Nat) :=
  match parseMac f.bytes with
  | none => none
  | some m =>
      let p := f.plain.drop m.header.length
      if fctlKeysel m.fctl = 0 ∧ isEndpoint m.src ∧ leNat (slice p 0 1) = 3 ∧ 6 ≤ p.length then
        some (bits m.src 19 0, slice p 1 4, leNat (slice p 5 1))
      else none

/-- A report marks its endpoint in every slot whose image it names. -/
def State.takeReport (s : State) (f : FwFrame) : State :=
  match readReport f with
  | none => s
  | some (i, id, result) => [0, 1].foldl (fun (x : State) d =>
      if isChecked x (d + 1) && manDistId (checkedManifest x (d + 1)) == id then
        x.setDist d (fun y =>
          if result = 0 then { y with done := i :: y.done.filter (fun k => k != i), failed := y.failed.filter (fun k => k != i), changed := true }
          else { y with failed := i :: y.failed.filter (fun k => k != i) })
      else x) s

/-- The service takes the DIST frames of the firmware receive queue. -/
def State.takeReports (s : State) : State :=
  let is7 := fun (f : FwFrame) => match parseMac f.bytes with | some m => fctlType m.fctl == 7 | none => false
  (s.esm.firmware.filter is7).foldl State.takeReport
    { s with esm := { s.esm with firmware := s.esm.firmware.filter (fun f => !is7 f) } }

/-! ### Snapshots (R410, R412) -/

/-- The completion bitmap. -/
def bitmapBytes (done : List Nat) : List Byte :=
  (List.range 131072).map (fun k => BitVec.ofNat 8 (((done.filter (fun i => i / 8 == k)).eraseDups.map (fun i => 2 ^ (i % 8))).foldl (· + ·) 0))

/-- The newest snapshot record of each slot. -/
def keepSnaps (s : State) : List (List Byte) := [newestSnap s 0, newestSnap s 1].filterMap (fun r => r)

/-- Half, and sequence number, of the next snapshot of a slot: the half that does not hold the valid one. -/
def nextHalf (s : State) (d : Nat) : Nat := match validSnap s d with | some h => 1 - h | none => 0
def nextSnap (s : State) (d : Nat) : Nat := match newestSnap s d with | some r => field r 4 8 + 1 | none => 1

/-- Take a snapshot: the half that is not valid is erased and programmed, and then its record is appended. -/
def State.snapshot (s : State) (d : Nat) : State :=
  let half := nextHalf s d
  let bm := bitmapBytes (s.distSlot d).done
  let s1 := (s.eraseRange (snapHalf d half) 0x20000).program (snapHalf d half) bm
  let seq := nextSnap s d
  let b := leBytes 1 d ++ leBytes 1 half ++ [0xFF, 0xFF] ++ leBytes 4 seq ++ leBytes 8 s.net ++ leBytes 4 (crc32 bm) ++ List.replicate 8 0xFF
  (s1.appendLog snapLog (keepSnaps s1) (b ++ leBytes 4 (crc32 b))).setDist d (fun y =>
    { y with changed := false, snapAt := s.now })

/-- At the end of 60 minutes in which the bitmap has changed (R412). -/
def State.distSnapshot (s0 : State) (d : Nat) : State :=
  let s := s0.takeReports
  let x := s.distSlot d
  if x.campaign.isNone ∨ s.now < x.snapAt + 3600 * secondU then s
  else if x.changed then s.snapshot d
  else s.setDist d (fun y => { y with snapAt := s.now })

/-- DIST_SNAPSHOT (R412). -/
def execDistSnapshot (t d : Nat) (s : State) : Out := .next (if d < 2 then (s.at t).distSnapshot d else s.at t)

/-! ### DIST_CONTROL (R411) -/

def distIdx (f : Fetched) : Nat := wbits f.words 6 8 8

/-- The next DIST_CONTROL descriptor of a command; with UPD disabled it is refused (R67). -/
def State.onDist (s : State) (cmd : Nat) (k : State → Nat → Fetched → State) : State :=
  s.onTurn (fun f => wbits f.words 0 7 0 == 0x53 && wbits f.words 6 7 0 == cmd) (fun x f =>
    if x.en Blk.UPD then k x (distIdx f) f else x.refuse f.ring f.words 0x0FF0)

/-- START: the slot must be staged. -/
def State.distStart (s : State) (d : Nat) (f : Fetched) : State :=
  if !isChecked s (d + 1) then s.refuse f.ring f.words 0x0F08
  else
    let n := fun lo k => leNat (slice f.buf lo k)
    let c : Campaign := ⟨binOf (n 0 1), n 1 1, n 2 1, n 3 1, n 4 2, s.net + n 6 2 * 86400 * secondU, n 8 4, n 12 4, n 16 2, 0, 0,
      s.net, false⟩
    (s.setDist d (fun x => { x with campaign := some c, failed := [], snapAt := s.now })).done f.ring f.words

/-- DIST_START (R411). -/
def execDistStart (t : Nat) (s : State) : Out := .next ((s.at t).onDist 1 State.distStart)

/-- STOP: the campaign ends at its next frame. -/
def State.distStop (s : State) (d : Nat) (f : Fetched) : State :=
  (s.setDist d (fun x => { x with campaign := x.campaign.map (fun (c : Campaign) => { c with stopping := true }) })).done f.ring f.words

/-- DIST_STOP (R411). -/
def execDistStop (t : Nat) (s : State) : Out := .next ((s.at t).onDist 2 State.distStop)

/-- STATUS: five 32-bit values. -/
def State.distReply (fail : Bool) (s0 : State) (d : Nat) (f : Fetched) : State :=
  let s := s0.takeReports
  if fail then s.abortDma f
  else (s.bufWrite f.ring (wordAt f.words 4 + wordAt f.words 5 * 2 ^ 32) ((distStatus s d).flatMap (leBytes 4))).done f.ring f.words

/-- DIST_STATUS (R411). -/
def execDistStatus (t : Nat) (fail : Bool) (s : State) : Out := .next ((s.at t).onDist 3 (State.distReply fail))

/-- CLEAR frees the slot: its header, its marks and its snapshots. -/
def State.distClear (s : State) (d : Nat) (f : Fetched) : State :=
  if (s.distSlot d).campaign.isSome then s.refuse f.ring f.words 0x0F09
  else
    let s1 := (s.eraseRange (distPlace d).header 0x8000).eraseRange (snapHalf d 0) 0x40000
    let s2 := { s1 with upd := { s1.upd with manifests := modAt (fun _ => []) s1.upd.manifests (2 + d) } }
    (s2.setDist d (fun _ => DistSlot.reset)).done f.ring f.words

/-- DIST_CLEAR (R411). -/
def execDistClear (t : Nat) (s : State) : Out := .next ((s.at t).onDist 4 State.distClear)

/-! ### The carousel (R412) -/

/-- The record of a piece without its header, and the piece index and subtype, by the position in a cycle; and the
fragment. -/
def carouselAt (s : State) (d : Nat) (m : List Byte) (pos : Nat) : Nat × Nat × Nat × List Byte :=
  let q := distPlace d
  let h := hashPieces (manPieces m)
  if pos < 2 then (0, 0, pos, m)
  else if pos < 2 + 6 * h then
    let j := (pos - 2) / 6
    let piece := flashBytes s (q.store + 1024 * j) 1024
    let tops := (List.range 256).map (fun k => if k < h then topHash k (flashBytes s (q.store + 1024 * k) 1024) else zeros 32)
    (1, j, (pos - 2) % 6, piece ++ (siblings tops j 8).flatMap (fun x => x))
  else
    let k := (pos - 2 - 6 * h) / 5
    (2, k, (pos - 2 - 6 * h) % 5, flashBytes s (q.image + 1024 * k) 1024)

/-- The PAYLOAD of the DIST frame at a position. -/
def carouselPayload (s : State) (d : Nat) (m : List Byte) (pos : Nat) : List Byte :=
  let x := carouselAt s d m pos
  leBytes 1 x.1 ++ manDistId m ++ leBytes 2 x.2.1 ++ leBytes 1 x.2.2.1 ++ slice x.2.2.2 (217 * x.2.2.1) 217

/-- The campaign ends; a record carries the first four STATUS values (notes/assumptions/82.md). -/
def State.distEnd (s : State) (d : Nat) : State :=
  let v := distStatus s d
  (s.record 0x0F00 0 (v.getD 0 0) (v.getD 1 0) (v.getD 2 0) (v.getD 3 0)).setDist d (fun x => { x with campaign := none })

/-- Is a frame of this campaign still under way? -/
def frameUnderWay (s : State) (d : Nat) : Bool :=
  s.chn.awaiting.any (fun w => w.owner == Owner.dist d) || s.items.any (fun i => i.owner == Owner.dist d && !i.decided)

/-- Submit the frame at the cursor, if nothing refuses it before admission; a refused one is retried at the next turn. -/
def State.distSubmit (s : State) (d : Nat) (c : Campaign) (m : List Byte) : State :=
  let req : NativeReq := ⟨7 + 0x100 + 0x400, 0xBFFFFF, carouselPayload s d m (c.cursor % cycleFrames m), 0, false⟩
  let ws : List Word := [word 0x10, word (3 * 65536 + 3 * 262144), 0, 0, 0, 0,
    word (c.sfIdx % 16 + c.code % 8 * 16 + c.power % 256 * 256 + unsigned 8 c.bin * 65536), word (2 * 2 ^ 30)]
  let key := s.get F.MAC_DRONE_BEACON_SLOT
  match nativeUp s, nativeRefusal s ws req, keyRefusal s req, counterRefusal s req with
  | none, none, none, none =>
      (s.setDist d (fun x => { x with campaign := x.campaign.map (fun (y : Campaign) => { y with cursor := y.cursor + 1 }) })).awaitNative
        (.dist d) 0xFF ws req (slotKey s key)
  | _, _, _, _ => s

/-- The next turn of a campaign. -/
def State.carousel (s0 : State) (d : Nat) : State :=
  let s := s0.takeReports
  match (s.distSlot d).campaign with
  | none => s
  | some c =>
      let x := s.distSlot d
      if s.net < c.nextAt ∨ frameUnderWay s d then s
      else if c.stopping then (s.snapshot d).distEnd d
      else if c.deadline ≤ s.net || (targeted s c).all (fun i => x.done.contains i || x.failed.contains i) then s.distEnd d
      else if c.perHour = 0 then s
      else
        let s1 := s.setDist d (fun x => { x with campaign := x.campaign.map (fun (y : Campaign) =>
          { y with nextAt := c.nextAt + 3600 * secondU / c.perHour }) })
        s1.distSubmit d c (checkedManifest s1 (d + 1))

/-- DIST_CAROUSEL_FRAME (R412). -/
def execDistCarouselFrame (t d : Nat) (s : State) : Out := .next (if d < 2 then (s.at t).carousel d else s.at t)

end Sys2Proof.Machine
end

