-- ==== Sys2Proof/Machine/Pcie.lean ====
section
/-! DEFINITION. The PCIe function of the anchor profile (R35, R37, Table 2-1): its configuration space, the MSI-X table and
pending-bit array of BAR2, and the power states D0 and D3hot.

The spec names these registers and not where they lie in configuration space: offsets and reset values are those of the
PCI Express standard (PRESUMED; notes/assumptions/99.md). -/

namespace Sys2Proof.Machine

/-- The subsystem IDs: from the configuration record, 0x0000 while there is none (Table 2-1). -/
def subsystemIds (s : State) : Word := if s.upd.config.isEmpty then 0 else Config.subsystemIds s.upd.config

/-- Bits of a configuration word that the host writes: BAR0 (2 MiB), BAR2 (4 KiB), the MSI-X control, and the mask and
severity words of Advanced Error Reporting. -/
def configMask (off : Nat) : Nat :=
  match off with
  | 0x10 => 0xFFE00000
  | 0x14 => 0xFFFFFFFF
  | 0x18 => 0xFFFFF000
  | 0x1C => 0xFFFFFFFF
  | 0x50 => 0xC0000000
  | 0x108 => 0xFFFFFFFF
  | 0x10C => 0xFFFFFFFF
  | 0x114 => 0xFFFFFFFF
  | _ => 0

/-- The fixed bits of a configuration word: vendor and device, class code, 64-bit non-prefetchable BARs, the subsystem IDs,
the MSI-X capability (32 vectors, table at BAR2 + 0x800, pending bits at BAR2 + 0xC00). -/
def configFixed (s : State) (off : Nat) : Word :=
  match off with
  | 0x00 => 0x94401F2E
  | 0x08 => 0x0D800000
  | 0x10 => 4
  | 0x18 => 4
  | 0x2C => subsystemIds s
  | 0x44 => if s.pcie.d3hot then 3 else 0
  | 0x50 => 0x001F0011
  | 0x54 => 0x00000802
  | 0x58 => 0x00000C02
  | _ => 0

/-- A word of configuration space. -/
def configWord (s : State) (off : Nat) : Word := configFixed s off ||| Sparse.get (fun _ => (0 : Word)) s.pcie.config off

/-- Send the messages that a change of the masks has freed. -/
def State.flushMsix (s : State) : State :=
  (List.range 32).foldl (fun x v => if bits x.pcie.pendingBits v v = 1 && msixOpen x v then x.sendMsix v else x) s

/-- A write of a configuration word: D3hot is entered and left by the power state of offset 0x44, and entering it has the
effect of R37. -/
def State.configWrite (s : State) (off : Nat) (v : Word) : State :=
  if off = 0x44 then
    let d3 := v.toNat % 4 == 3
    let s1 := if d3 && !s.pcie.d3hot then s.hostReset false else s
    { s1 with pcie := { s1.pcie with d3hot := d3 } }
  else
    { s with pcie := { s.pcie with
      config := Sparse.set (fun _ => (0 : Word)) s.pcie.config off (v &&& BitVec.ofNat 32 (configMask off)) } }.flushMsix

/-- A word of BAR2: the MSI-X table, the pending-bit array; doorbells are write only. -/
def bar2Word (s : State) (off : Nat) : Word :=
  if 0x800 ≤ off ∧ off < 0xA00 then msixWord s ((off - 0x800) / 4)
  else if off = 0xC00 then BitVec.ofNat 32 s.pcie.pendingBits
  else 0

/-- A write to BAR2: a doorbell, or a word of the MSI-X table. -/
def State.bar2Write (s : State) (off : Nat) (v : Word) : State :=
  if off < 24 * 8 ∧ off % 8 = 0 then s.doorbell (off / 8) (v.toNat % 65536)
  else if 0x800 ≤ off ∧ off < 0xA00 then
    let k := (off - 0x800) / 4
    let w := if k % 4 = 0 then v &&& 0xFFFFFFFC else if k % 4 = 3 then v &&& 1 else v
    { s with pcie := { s.pcie with table := Sparse.set msixReset s.pcie.table k w } }.flushMsix
  else s

/-- The windows of the host: BAR0 reaches the registers at their internal address (R30); the model numbers the bytes of BAR2
from 2^32, and those of configuration space from 2^33 (DESIGN CHOICE; notes/assumptions/99.md). -/
def bar2Base : Nat := 2 ^ 32
def configBase : Nat := 2 ^ 33
/-- The offset of an address in BAR2, or in configuration space. -/
def inBar2 (a : Nat) : Option Nat := if bar2Base ≤ a ∧ a < bar2Base + 4096 then some (a - bar2Base) else none
def inConfig (a : Nat) : Option Nat := if configBase ≤ a ∧ a < configBase + 4096 then some (a - configBase) else none

/-- A whole-word write by the host outside BAR0: in D3hot only configuration space answers. -/
def State.hostWindow (s : State) (a : Nat) (v : Word) : State :=
  match inConfig a, inBar2 a with
  | some off, _ => s.configWrite off v
  | none, some off => if s.pcie.d3hot then s else s.bar2Write off v
  | none, none => s

/-- What a read by the host outside BAR0 returns. -/
def hostWindowWord (s : State) (a : Nat) : Option Word :=
  match inConfig a, inBar2 a with
  | some off, _ => some (configWord s off)
  | none, some off => if s.pcie.d3hot then none else some (bar2Word s off)
  | none, none => none

end Sys2Proof.Machine
end

