-- ==== Sys2Proof/Machine/Registers.lean ====
section
/-! DEFINITION. Register accesses by the host, the cores and the debug module: reads of 64-bit registers, and writes,
which go to the effect of the register written (R14, R29, R30, R83, R533 to R537).  A register that has commands of
its own in the table takes the same effect through them. -/

namespace Sys2Proof.Machine

/-! ### Reads -/

/-- The calendar record of a slot (Table 3-2). -/
def calendarWord (s : State) (slot : Nat) : Word :=
  let inSlot := fun (a : Attempt) => decide (a.slotLo ≤ slot) && decide (slot < a.slotHi)
  let live := s.items.filter (fun (i : Item) => !i.decided)
  let owner := live.findSome? (fun (i : Item) => match i.kind with
    | .tx x =>
        if !i.moved && inSlot x.first then some (i.idx, false)
        else if i.repairAt.isSome && inSlot x.second then some (i.idx, true) else none
    | _ => none)
  let tx := match owner with | some (k, rep) => k % 8192 + 8192 + (if rep then 16384 else 0) | none => 0
  let holdsBank := fun (b : Nat) => live.any (fun (i : Item) => match i.kind with
    | .flash f => f.bank == b && ([i.committed] ++ i.repairAt.toList).any (fun c =>
        decide (c < (slot + 1) * slotU) && decide (slot * slotU < c + f.maxU))
    | _ => false)
  let flb := sumBy (fun b => if holdsBank b then 2 ^ b else 0) [0, 1, 2, 3]
  let frames := ((skeinCharges s).map (fun c => c.1)).filter (fun f => decide (f * frameUnit / slotU = slot))
  word (tx + Nat.min (rxInSlot s slot) 16 * 2 ^ 15 + flb * 2 ^ 20 + Nat.min frames.eraseDups.length 16 * 2 ^ 24)

/-- The element of a register array at an address: base, stride and count. -/
def elementOf (a base stride n : Nat) : Option Nat :=
  if base ≤ a ∧ (a - base) % stride = 0 ∧ (a - base) / stride < n then some ((a - base) / stride) else none

/-- What a read of a register returns: 0 for a write-only field (R14), and for the read windows what their index
register selects (R75, R80, R321). -/
def readWord (s : State) (a : Nat) : Word :=
  if a = Reg.CHN_CAL_DATA then if sessionOpen s then calendarWord s (asn s.net + s.get F.CHN_CAL_IDX_IDX) else 0
  else if a = Reg.CHN_CELL_LO then word (s.cell (s.get F.CHN_CELL_IDX_IDX))
  else if a = Reg.CHN_CELL_HI then word (s.cell (s.get F.CHN_CELL_IDX_IDX) / 2 ^ 32)
  else if a = Reg.SKN_MEMBER_DATA then memberData s
  else if a = Reg.PHY_FLOOR_DATA then
    match s.binState (binOf (s.get F.PHY_FLOOR_IDX_BIN)) with
    | some x => word (x.floor % 1024 + (if flagged s x.bin then 1024 else 0))
    | none => if flagged s (binOf (s.get F.PHY_FLOOR_IDX_BIN)) then 1024 else 0
  else if (elementOf a (Reg.MUR_LANE_STATE 0) 0x20 64).any (fun n => !lanePresent s n) then 0
  else if a = Reg.UPD_TRIAL_LEFT then word (trialLeft s % 2 ^ 17)
  else if a = Reg.MAC_SYNC_STATUS then
    F.MAC_SYNC_STATUS_SLEWING.insert (s.rd a) (if s.mac.slew = 0 then 0 else 1)
  else match regFind a with
    | some (d, _) => s.rd a &&& ~~~(BitVec.ofNat 32 d.wo)
    | none => 0

/-- Is a word the lower word of a 64-bit register (R535)? -/
def isLower64 (a : Nat) : Bool := match regFind a with | some (d, _) => d.low64 | none => false

/-- Does an address lie in one of the ranges of Table 1-4? -/
def mapped (a : Nat) : Bool :=
  decide (a < 0x04000000) || (decide (0x20000000 ≤ a) && decide (a < 0x20100000)) ||
    (decide (0x30000000 ≤ a) && decide (a < 0x30800000)) || (decide (0x40000000 ≤ a) && decide (a < 0x40170000))

/-- Is an address that of a register word? -/
def isRegister (a : Nat) : Bool := decide (0x40000000 ≤ a) && decide (a < 0x40170000)

/-- Record an access fault on an application core or the security core (R29); the host and the debug module have no such
record. -/
def State.faultOn (s : State) (req : Requester) : State :=
  match req with
  | .core c => s.accessFault c
  | .security => s.securityFault
  | _ => s

/-- An access to the ESM window: a core's takes its place in the pairs of R510, and finds no error of the entry's code here;
the other requesters make no pairs, and their access faults (R245). -/
def State.esmWindow (s : State) (req : Requester) (a size : Nat) (write : Bool) (v : Word) : State :=
  match req with | .core c => s.esmAccess c a size write v 0 | _ => s.faultOn req

/-- Whether a requester's accesses reach the registers: the device runs (Table 17-5), and the host comes over PCIe, in the
anchor profile only (R30). -/
def reaches (s : State) (req : Requester) : Bool := awake s && (match req with | .host => !s.relay | _ => true)

/-- A read of a lower word delivers it and latches the upper word for its requester (R535).  A core's read outside the map,
or of a register other than as an aligned word, takes an access fault (R29, R533). -/
def State.lowerWordRead (s : State) (req : Requester) (a : Nat) : State :=
  if !reaches s req then s
  else if req = .host ∧ s.pcie.d3hot ∧ (inConfig a).isNone then s
  else match (if req = .host then hostWindowWord s a else none) with
  | some w => s.deliverWords [w]
  | none =>
  if !mapped a || (isRegister a && a % 4 != 0) then s.faultOn req
  else if 0x30000000 ≤ a && a < 0x30800000 then s.esmWindow req a 4 false 0
  else if !isLower64 a then s
  else
    let upper := if a = Reg.CHN_CAL_DATA then 0 else s.rd (a + 4)
    let kept := s.sup.latches.filter (fun x => !(x.1 == req && x.2.1 == a))
    ({ s with sup := { s.sup with latches := (req, a, upper) :: kept } }).deliverWords [readWord s a]

/-- LOWER_WORD_READ (R535). -/
def execLowerWordRead (t : Nat) (req : Requester) (a : Nat) (s : State) : Out := .next ((s.at t).lowerWordRead req a)

/-- What a read of an upper word returns to a requester: the value latched by its last read of the lower word (R535). -/
def upperWord (s : State) (req : Requester) (a : Nat) : Word :=
  match s.sup.latches.find? (fun x => x.1 == req && x.2.1 + 4 == a) with | some x => x.2.2 | none => 0

/-! ### Writes, block by block -/

/-- Apply `f` when bit `b` of the word written is 1 (W1S fields). -/
def State.ifBit (s : State) (v : Word) (b : Nat) (f : State → State) : State := if bits v.toNat b b = 1 then f s else s

/-- SYS and SUP registers (R492, R495, R500, R501). -/
def State.writeSys (s : State) (a : Nat) (v : Word) : State :=
  if a = Reg.SYS_CTL then s.sysCtlWrite v
  else if a = Reg.SYS_WDT_CFG then s.sysWdtWrite v
  else if a = Reg.SYS_WDT_KICK then s.wdtKick v
  else if a = Reg.SUP_CFG then s.supCfgWrite v (s.rd Reg.SUP_VSUP).toNat
  else if a = Reg.SUP_PWR then s.powerRequest (bits v.toNat 1 0)
  else s.writeByCode a v

/-- BLW registers: COMMIT, the stored energy, and the cost entries, whose write makes them valid (R346, R353); COST[6]
ignores writes. -/
def State.writeBlw (s : State) (a : Nat) (v : Word) : State :=
  if a = Reg.BLW_CTL then s.ifBit v 0 State.commitModel
  else if a = Reg.BLW_STORE then s.setStore (v.toNat * 1000)
  else match elementOf a (Reg.BLW_COST 0) 4 7, elementOf a (Reg.BLW_TXCOST 0) 4 21 with
    | some 6, _ => s
    | some j, _ => (s.writeByCode a v).put (F.BLW_COST_VALID j) 1
    | none, some k => (s.writeByCode a v).put (F.BLW_TXCOST_VALID k) 1
    | none, none => s.writeByCode a v

/-- One register of a ring group: a reserved ring ignores writes, but a write of 1 to its EN runs the check, which refuses
it (R40, R52); BASE and SIZE are ignored while EN is 1, and a
write of EN runs the ring check or stops the ring (R52). -/
def State.writeRing (s : State) (n a : Nat) (v : Word) : State :=
  let enabled := s.on (F.HRE_RING_CFG_EN n)
  if !(isSubmission n || isCompletion n) then (if a = Reg.HRE_RING_CFG n ∧ bits v.toNat 8 8 = 1 then s.ringEnable n else s)
  else if a = Reg.HRE_RING_CFG n then
    let size := if enabled then s.get (F.HRE_RING_CFG_SIZE_LOG2 n) else bits v.toNat 4 0
    let s1 := ((((s.put (F.HRE_RING_CFG_SIZE_LOG2 n) size).put (F.HRE_RING_CFG_VEC n) (bits v.toNat 20 16)).put
      (F.HRE_RING_CFG_MOD_COUNT n) (bits v.toNat 24 21)).put (F.HRE_RING_CFG_MOD_TIME n) (bits v.toNat 28 25))
    if bits v.toNat 8 8 = 1 then s1.ringEnable n else s1.ringDisable n
  else if enabled then s
  else s.writeByCode a v

/-- HRE registers. -/
def State.writeHre (s : State) (a : Nat) (v : Word) : State :=
  if a = Reg.HRE_QUENCH then s.setQuench (bits v.toNat 0 0 == 1)
  else match elementOf a (Reg.HRE_DB 0) 8 24 with
    | some n => s.doorbell n (bits v.toNat 15 0)
    | none =>
        if Reg.HRE_RING_BASE_LO 0 ≤ a ∧ a < Reg.HRE_RING_BASE_LO 24 then s.writeRing ((a - Reg.HRE_RING_BASE_LO 0) / 0x20) a v
        else s.writeByCode a v

/-- RFE registers: fixed gains, the antenna latch, the shaping filter and its lock, captures (R226, R232, R233, R239). -/
def State.writeRfe (s : State) (a : Nat) (v : Word) : State :=
  if a = Reg.RFE_ANT then (s.writeByCode a v).ifBit v 1 State.antennaRetry
  else if a = Reg.RFE_FIR_CTL then
    (if bits v.toNat 2 2 = 0 ∧ s.on F.RFE_FIR_CTL_LOCK then s.firUnlock else s).ifBit v 0 State.firCheck
  else if (elementOf a (Reg.RFE_RX 0) 4 2).isSome then (s.writeByCode a v).fixedGains
  else if a = Reg.RFE_CAP_CTL then (s.writeByCode a v).ifBit v 0 State.captureStart
  else if (elementOf a (Reg.RFE_FIR 0) 4 48).isSome && s.on F.RFE_FIR_CTL_LOCK then s
  else s.writeByCode a v

/-- The bank whose slotframe or access-class registers an address lies in (Table 3-8). -/
def bankOfRegister (a : Nat) : Option Nat :=
  if Reg.CHN_SF_CFG 0 0 ≤ a ∧ a < Reg.CHN_SF_CFG 2 0 then some ((a - Reg.CHN_SF_CFG 0 0) / 0x80)
  else if Reg.CHN_AC_CFG 0 0 ≤ a ∧ a < Reg.CHN_AC_CFG 2 0 then some ((a - Reg.CHN_AC_CFG 0 0) / 0x100)
  else none

/-- CHN registers: cell writes (R80); SF and AC of the active bank are closed while CHN is enabled, and those of both
banks while a swap is pending (R83). -/
def State.writeChn (s : State) (a : Nat) (v : Word) : State :=
  if a = Reg.CHN_CELL_HI then s.cellWrite v
  else match bankOfRegister a with
    | some b =>
        if s.en Blk.CHN && (b == s.get F.CHN_STATUS_ACTIVE_BANK || s.on F.CHN_STATUS_SWAP_PENDING) then s else s.writeByCode a v
    | none => s.writeByCode a v

/-- Is an address in the MAC_NBR entry of the parent (R152)? -/
def isParentEntry (s : State) (a : Nat) : Bool :=
  s.on F.MAC_SYNC_STATUS_PARENT_V && (let b := Reg.MAC_NBR_ADDR (s.get F.MAC_SYNC_STATUS_PARENT)
    decide (b ≤ a) && decide (a < b + 0x10))

/-- MAC registers: a nonzero REGION loads its presets (R147), and the parent's entry is closed while it is valid (R152). -/
def State.writeMac (s : State) (a : Nat) (v : Word) : State :=
  if isParentEntry s a then s
  else
    let s1 := s.writeByCode a v
    if a = Reg.MAC_CFG then s1.regionLoad (bits v.toNat 1 0) else s1

/-- ESM registers: checkpoints and closing, and the smallest interval that ESM_CKPT_MIN shows (R271, R272). -/
def State.writeEsm (s : State) (a : Nat) (v : Word) : State :=
  if a = Reg.ESM_CTL then (s.ifBit v 0 State.ckptNow).ifBit v 1 State.close
  else
    let s1 := s.writeByCode a v
    if a = Reg.ESM_BANKS ∨ a = Reg.ESM_CKPT then
      s1.put F.ESM_CKPT_MIN_MINUTES (ckptMinutes (banksOn s1).length (s1.get F.ESM_CKPT_LIFE_Y))
    else s1

/-- SEC registers: alarms are cleared as their conditions end, which a plain write does not say (free), and PLAIN_IMPORT
takes no 1 while the device is owned (R286, R297). -/
def State.writeSec (s : State) (a : Nat) (v : Word) : State :=
  if a = Reg.SEC_ALARM then let r := s.fresh 64; r.2.alarmClear (bits v.toNat 5 0) r.1
  else if a = Reg.SEC_CTL then s.ifBit v 0 State.keyRestore
  else
    let s1 := s.writeByCode a v
    if a = Reg.SEC_CFG && s.cry.owners.any Option.isSome && !s.on F.SEC_CFG_PLAIN_IMPORT then s1.put F.SEC_CFG_PLAIN_IMPORT 0
    else s1

/-- FLC registers: EXEC_LOCK and direct operations (R373, R379). -/
def State.writeFlc (s : State) (req : Requester) (a : Nat) (v : Word) : State :=
  if a = Reg.FLC_LOCK then (s.put F.FLC_LOCK_EXEC_LOCK v.toNat).startWaiting
  else if a = Reg.FLC_DCMD ∧ bits v.toNat 31 31 = 1 then s.directGo req v (bits v.toNat 1 0)
  else s.writeByCode a v

/-- UPD_CTL (R408, R409, R413). -/
def State.writeUpdCtl (s : State) (req : Requester) (v : Word) : State :=
  (((((s.ifBit v 0 State.activate).ifBit v 1 (fun x => x.handover req)).ifBit v 2 (fun x => x.alive req)).ifBit v 3
    (fun x => x.confirm req)).ifBit v 4 (fun x => if x.en Blk.UPD then x.requestRevert else x)).ifBit v 5 State.abandon

/-- EVF registers: groups, software firings, PUB and SUB (R442, R448, R450). -/
def State.writeEvf (s : State) (a : Nat) (v : Word) : State :=
  if a = Reg.EVF_GRP_SET then s.grpSet v
  else if a = Reg.EVF_GRP_CLR then s.grpClr v
  else match elementOf a (Reg.EVF_SWFIRE 0) 4 4 with
    | some k => s.swfire k v
    | none => if isPubSub a then s.pubSubWrite a v else s.writeByCode a v

/-- TMB registers: the group registers and CTL (R454, R458, R459). -/
def State.writeTmb (s : State) (a : Nat) (v : Word) : State :=
  if a = Reg.TMB_GSTART then s.timerGroup v State.timerStart
  else if a = Reg.TMB_GSTOP then s.timerGroup v State.timerStop
  else if a = Reg.TMB_GRELOAD then s.timerGroup v State.timerReload
  else if a = Reg.TMB_STAGGER then s.stagger v
  else match elementOf a (Reg.TMB_CH_CTL 0) 0x20 16 with
    | some n => s.timerCtl n v
    | none => s.writeByCode a v

/-- Does any pending source interrupt a context (R511)? -/
def anyReady (s : State) (ctx : Nat) : Bool :=
  (List.range 8).any (fun k => s.rd (Reg.CPX_PLIC_PEND k) != 0 && (List.range 32).any (fun j =>
    0 < 32 * k + j && bits (s.rd (Reg.CPX_PLIC_PEND k)).toNat j j == 1 && plicReady s ctx (32 * k + j)))

/-- The registers of the interrupt controller: the enables of context 4 belong to the security core, a write to a claim
register completes, and a pending source that becomes ready ends its core's WFI (R494, R511). -/
def State.writePlic (s : State) (req : Requester) (a : Nat) (v : Word) : State :=
  match elementOf a (Reg.CPX_PLIC_CLAIM 0) 0x10 5 with
  | some ctx => s.plicComplete ctx v.toNat
  | none =>
      if Reg.CPX_PLIC_EN 4 0 ≤ a ∧ a < Reg.CPX_PLIC_EN 5 0 ∧ !isSecurity req then s
      else
        let s1 := s.writeByCode a v
        ([0, 1, 2, 3].filter (fun c => anyReady s1 c)).foldl State.wakeCore s1

/-- CPX registers (R507, R511, R514, R519, R520). -/
def State.writeCpx (s : State) (req : Requester) (a : Nat) (v : Word) : State :=
  if a = Reg.CPX_DBG then (s.debugMuteWrite (bits v.toNat 0 0 == 1)).ifBit v 1 State.endSession
  else if a = Reg.CPX_MSIP then
    let s1 := s.writeByCode a v
    ([0, 1, 2, 3].filter (fun c => bits v.toNat c c == 1)).foldl State.wakeCore s1
  else if a = Reg.CPX_WDT_CFG then s.coreWdtWrite v
  else if a = Reg.CPX_WDT_KICK then s.coreKick v
  else if blockBase Blk.CPX + 0x8000 ≤ a then s.writePlic req a v
  else s.writeByCode a v

/-- PER registers: output latches and the data and command registers of the serial interfaces (R521 to R525). -/
def State.writePer (s : State) (a : Nat) (v : Word) : State :=
  match elementOf a (Reg.PER_GPIO_SET 0) 4 2, elementOf a (Reg.PER_GPIO_CLR 0) 4 2 with
  | some k, _ => s.writeLatches k (s.rd (Reg.PER_GPIO_OUT k) ||| v)
  | none, some k => s.writeLatches k (s.rd (Reg.PER_GPIO_OUT k) &&& ~~~v)
  | none, none =>
    match elementOf a (Reg.PER_GPIO_OUT 0) 4 2 with
    | some k => s.writeLatches k v
    | none =>
      match elementOf a (Reg.PER_UART_DATA 0) 0x20 2, elementOf a (Reg.PER_SPI_DATA 0) 0x20 2,
        elementOf a (Reg.PER_I2C_DATA 0) 0x20 2, elementOf a (Reg.PER_I2C_CMD 0) 0x20 2 with
      | some i, _, _, _ => s.uartWrite i (v.setWidth 8)
      | _, some i, _, _ => s.spiWrite i v
      | _, _, some i, _ => s.i2cData i true (v.setWidth 8)
      | _, _, _, some i => s.i2cGo i v
      | _, _, _, _ => s.writeByCode a v

/-- A write of BLK_CTL: EN 1 starts the check, EN 0 abandons it or disables the block (R66, R68). -/
def State.writeBlkCtl (s : State) (b : Nat) (v : Word) : State :=
  if bits v.toNat 0 0 = 1 then s.enable b
  else if s.on (F.BLK_BUSY b) then s.abandonCheck b
  else s.disable b

/-- A whole-word write to a register takes its effect. -/
def State.writeReg (s : State) (req : Requester) (a : Nat) (v : Word) : State :=
  let b := blockOf a
  if a = Reg.BLK_CTL b then s.writeBlkCtl b v
  else match b with
    | 0x00 => s.writeSys a v
    | 0x01 => s.writeSys a v
    | 0x03 => s.writeBlw a v
    | 0x04 => s.writeHre a v
    | 0x05 => s.writeRfe a v
    | 0x08 => s.writeChn a v
    | 0x09 => s.writeMac a v
    | 0x0A => s.writeEsm a v
    | 0x0B => if a = Reg.CRY_CTL then s.ifBit v 0 State.txfcRestart else s.writeByCode a v
    | 0x0D => if a = Reg.SKN_CTL then (s.ifBit v 0 (fun x => x.setSquench false)).ifBit v 1 State.unblock else s.writeByCode a v
    | 0x0E => s.writeFlc req a v
    | 0x0F => if a = Reg.UPD_CTL then s.writeUpdCtl req v else s.writeByCode a v
    | 0x10 => if a = Reg.TAG_CTL then s.ifBit v 0 State.unquiet else s.writeByCode a v
    | 0x11 => s.writeEvf a v
    | 0x12 => s.writeTmb a v
    | 0x13 => s.writeCpx req a v
    | 0x14 => s.writePer a v
    | 0x15 => if a = Reg.HKA_CTL then s.ifBit v 0 State.hkaStart else s.writeByCode a v
    | 0x16 => s.writeSec a v
    | _ => s.writeByCode a v

/-- A write by a requester (R29, R30, R518, R533, R534): `whole` says that it is one aligned 32-bit word.  A core's
write to application SRAM stores its word. -/
def State.access (s : State) (req : Requester) (a : Nat) (v : Word) (whole : Bool) : State :=
  if !reaches s req then s
  else if req = .host then
    (if !whole || a % 4 != 0 then s else if isRegister a then (if s.pcie.d3hot then s else s.writeReg req a v) else s.hostWindow a v)
  else if req = .debug && !sessionOpen s then s.dmiAccess true
  else if !mapped a then s.faultOn req
  else if isRegister a then (if whole && a % 4 == 0 then s.writeReg req a v else s.faultOn req)
  else if whole && 0x20000000 ≤ a && a < 0x20100000 then s.sramWrite a (leBytes 4 v.toNat)
  else if 0x30000000 ≤ a then s.esmWindow req a (if whole then 4 else 1) true v
  else s

/-- REGISTER_WRITE (R14). -/
def execRegisterWrite (t : Nat) (req : Requester) (a : Nat) (v : Word) (whole : Bool) (s : State) : Out :=
  .next ((s.at t).access req a v whole)

end Sys2Proof.Machine
end

