-- ==== Sys2Proof/Machine/Dispatch.lean ====
section
/-! DEFINITION. The dispatch: one arm for each constructor of Instr, one meaning for each arm. -/

namespace Sys2Proof.Machine

/-- The effect of a command on everything but the queue. -/
def exec (i : Instr) (s : State) : Host.Outcome State Fault Refusal :=
  match i with
  | .registerWrite t req a v whole => Sys2Proof.Machine.execRegisterWrite t req a v whole s
  | .blockEnable t b => Sys2Proof.Machine.execBlockEnable t b s
  | .enableCheckDone t b => Sys2Proof.Machine.execEnableCheckDone t b s
  | .checkAbandoned t b => Sys2Proof.Machine.execCheckAbandoned t b s
  | .blockDisable t b => Sys2Proof.Machine.execBlockDisable t b s
  | .flcReady t => Sys2Proof.Machine.execFlcReady t s
  | .calibrationDone t rx0 rx1 => Sys2Proof.Machine.execCalibrationDone t rx0 rx1 s
  | .ringEnable t n => Sys2Proof.Machine.execRingEnable t n s
  | .ringDisable t n => Sys2Proof.Machine.execRingDisable t n s
  | .doorbell t n idx => Sys2Proof.Machine.execDoorbell t n idx s
  | .descriptorFetch t words buf fail => Sys2Proof.Machine.execDescriptorFetch t words buf fail s
  | .admission t => Sys2Proof.Machine.execAdmission t s
  | .completionWrite t ring fail => Sys2Proof.Machine.execCompletionWrite t ring fail s
  | .modTimeExpiry t ring => Sys2Proof.Machine.execModTimeExpiry t ring s
  | .eventRecordWrite t fail => Sys2Proof.Machine.execEventRecordWrite t fail s
  | .hostReset t linkLost => Sys2Proof.Machine.execHostReset t linkLost s
  | .quenchSet t => Sys2Proof.Machine.execQuenchSet t s
  | .quenchClear t => Sys2Proof.Machine.execQuenchClear t s
  | .nop t => Sys2Proof.Machine.execNop t s
  | .cancel t => Sys2Proof.Machine.execCancel t s
  | .quench t => Sys2Proof.Machine.execQuench t s
  | .fenceAll t => Sys2Proof.Machine.execFenceAll t s
  | .fenceAllDone t => Sys2Proof.Machine.execFenceAllDone t s
  | .bankSwap t => Sys2Proof.Machine.execBankSwap t s
  | .bankSwapEffect t => Sys2Proof.Machine.execBankSwapEffect t s
  | .timeSetStep t => Sys2Proof.Machine.execTimeSetStep t s
  | .timeSetSlew t => Sys2Proof.Machine.execTimeSetSlew t s
  | .txFrame t err => Sys2Proof.Machine.execTxFrame t err s
  | .tx154 t => Sys2Proof.Machine.execTx154 t s
  | .txBeacon t => Sys2Proof.Machine.execTxBeacon t s
  | .txAckBeacon t => Sys2Proof.Machine.execTxAckBeacon t s
  | .txLegacy t err => Sys2Proof.Machine.execTxLegacy t err s
  | .rxWindow t => Sys2Proof.Machine.execRxWindow t s
  | .rxBuffer t => Sys2Proof.Machine.execRxBuffer t s
  | .lbtListen t idx dbm => Sys2Proof.Machine.execLbtListen t idx dbm s
  | .txStart t idx => Sys2Proof.Machine.execTxStart t idx s
  | .txEnd t idx gamma phase fwd => Sys2Proof.Machine.execTxEnd t idx gamma phase fwd s
  | .rxWindowOpen t idx => Sys2Proof.Machine.execRxWindowOpen t idx s
  | .rxWindowClose t idx => Sys2Proof.Machine.execRxWindowClose t idx s
  | .rxWindowFinal t idx => Sys2Proof.Machine.execRxWindowFinal t idx s
  | .flashItemIssue t idx => Sys2Proof.Machine.execFlashItemIssue t idx s
  | .slotBoundary t => Sys2Proof.Machine.execSlotBoundary t s
  | .lockstepMismatch t => Sys2Proof.Machine.execLockstepMismatch t s
  | .restoreComplete t => Sys2Proof.Machine.execRestoreComplete t s
  | .scheduleEccError t corrected cell => Sys2Proof.Machine.execScheduleEccError t corrected cell s
  | .cellWrite t v => Sys2Proof.Machine.execCellWrite t v s
  | .regionPresetLoad t region => Sys2Proof.Machine.execRegionPresetLoad t region s
  | .droneBeaconSubmit t => Sys2Proof.Machine.execDroneBeaconSubmit t s
  | .recoveryTimeout t => Sys2Proof.Machine.execRecoveryTimeout t s
  | .acquireScanExpiry t => Sys2Proof.Machine.execAcquireScanExpiry t s
  | .orphanRetryExpiry t => Sys2Proof.Machine.execOrphanRetryExpiry t s
  | .txfcRefillDone t => Sys2Proof.Machine.execTxfcRefillDone t s
  | .nonceRefillDone t => Sys2Proof.Machine.execNonceRefillDone t s
  | .energyWindowEnd t windows => Sys2Proof.Machine.execEnergyWindowEnd t windows s
  | .preambleQualified t found => Sys2Proof.Machine.execPreambleQualified t found s
  | .captureRelock t lane q start => Sys2Proof.Machine.execCaptureRelock t lane q start s
  | .syncAccepted t lane errors => Sys2Proof.Machine.execSyncAccepted t lane errors s
  | .syncLost t lane => Sys2Proof.Machine.execSyncLost t lane s
  | .headerDecoded t lane header => Sys2Proof.Machine.execHeaderDecoded t lane header s
  | .frameEnd t lane payload crc err link fail => Sys2Proof.Machine.execFrameEnd t lane payload crc err link fail s
  | .ieee154FrameEnd t lane psdu fcs link fail => Sys2Proof.Machine.execIeee154FrameEnd t lane psdu fcs link fail s
  | .sicJobStart t => Sys2Proof.Machine.execSicJobStart t s
  | .sicSubtractionDone t residue found => Sys2Proof.Machine.execSicSubtractionDone t residue found s
  | .residueScanDone t => Sys2Proof.Machine.execResidueScanDone t s
  | .residueAgeExpiry t => Sys2Proof.Machine.execResidueAgeExpiry t s
  | .agcGainStep t chain down => Sys2Proof.Machine.execAgcGainStep t chain down s
  | .captureStart t => Sys2Proof.Machine.execCaptureStart t s
  | .captureDone t samples => Sys2Proof.Machine.execCaptureDone t samples s
  | .capDataRead t => Sys2Proof.Machine.execCapDataRead t s
  | .firCheck t => Sys2Proof.Machine.execFirCheck t s
  | .firCheckDone t => Sys2Proof.Machine.execFirCheckDone t s
  | .firUnlock t => Sys2Proof.Machine.execFirUnlock t s
  | .antennaFault t gamma phase fwd external => Sys2Proof.Machine.execAntennaFault t gamma phase fwd external s
  | .antennaRetry t => Sys2Proof.Machine.execAntennaRetry t s
  | .synthUnlock t tx => Sys2Proof.Machine.execSynthUnlock t tx s
  | .bandReselect t tx => Sys2Proof.Machine.execBandReselect t tx s
  | .recalDueExpiry t => Sys2Proof.Machine.execRecalDueExpiry t s
  | .esmAccess t core a size write v err => Sys2Proof.Machine.execEsmAccess t core a size write v err s
  | .esmScrub t n err => Sys2Proof.Machine.execEsmScrub t n err s
  | .checkpointTimer t => Sys2Proof.Machine.execCheckpointTimer t s
  | .ckptNow t => Sys2Proof.Machine.execCkptNow t s
  | .close t => Sys2Proof.Machine.execClose t s
  | .checkpointDone t => Sys2Proof.Machine.execCheckpointDone t s
  | .checkpointRetry t => Sys2Proof.Machine.execCheckpointRetry t s
  | .esmRestore t => Sys2Proof.Machine.execEsmRestore t s
  | .joinRequest t eui g => Sys2Proof.Machine.execJoinRequest t eui g s
  | .joinAcceptDone t => Sys2Proof.Machine.execJoinAcceptDone t s
  | .directoryCompaction t => Sys2Proof.Machine.execDirectoryCompaction t s
  | .lookupEui t fail => Sys2Proof.Machine.execLookupEui t fail s
  | .lookupIndex t fail => Sys2Proof.Machine.execLookupIndex t fail s
  | .suspend t => Sys2Proof.Machine.execSuspend t s
  | .resume t => Sys2Proof.Machine.execResume t s
  | .revoke t => Sys2Proof.Machine.execRevoke t s
  | .delete t => Sys2Proof.Machine.execDelete t s
  | .checkpoint t => Sys2Proof.Machine.execCheckpoint t s
  | .stats t fail => Sys2Proof.Machine.execStats t fail s
  | .ownerSet t => Sys2Proof.Machine.execOwnerSet t s
  | .cryOp t => Sys2Proof.Machine.execCryOp t s
  | .cipherRequestDone t fail => Sys2Proof.Machine.execCipherRequestDone t fail s
  | .keyImport t => Sys2Proof.Machine.execKeyImport t s
  | .sigSign t => Sys2Proof.Machine.execSigSign t s
  | .sigVerify t => Sys2Proof.Machine.execSigVerify t s
  | .hash t => Sys2Proof.Machine.execHash t s
  | .sigOperationDone t fail => Sys2Proof.Machine.execSigOperationDone t fail s
  | .attestReport t fail => Sys2Proof.Machine.execAttestReport t fail s
  | .attestChain t fail => Sys2Proof.Machine.execAttestChain t fail s
  | .txfcRestart t => Sys2Proof.Machine.execTxfcRestart t s
  | .alarm t src => Sys2Proof.Machine.execAlarm t src s
  | .alarmClear t mask present => Sys2Proof.Machine.execAlarmClear t mask present s
  | .keyRestore t => Sys2Proof.Machine.execKeyRestore t s
  | .keyRestoreDone t => Sys2Proof.Machine.execKeyRestoreDone t s
  | .lineTest t p fault pair dist => Sys2Proof.Machine.execLineTest t p fault pair dist s
  | .lineShortDetect t p toVsup pair => Sys2Proof.Machine.execLineShortDetect t p toVsup pair s
  | .rateFallback t p => Sys2Proof.Machine.execRateFallback t p s
  | .skeinFrameBoundary t xo => Sys2Proof.Machine.execSkeinFrameBoundary t xo s
  | .timeMarkReceived t p m valid violations => Sys2Proof.Machine.execTimeMarkReceived t p m valid violations s
  | .linkUp t p => Sys2Proof.Machine.execLinkUp t p s
  | .linkDown t p quiet => Sys2Proof.Machine.execLinkDown t p quiet s
  | .eventCellReceived t p valid skc kind origin seq => Sys2Proof.Machine.execEventCellReceived t p valid skc kind origin seq s
  | .delayRecord t p d => Sys2Proof.Machine.execDelayRecord t p d s
  | .electRecord t p head dep => Sys2Proof.Machine.execElectRecord t p head dep s
  | .enumRecord t p e => Sys2Proof.Machine.execEnumRecord t p e s
  | .pruneRecord t p id port => Sys2Proof.Machine.execPruneRecord t p id port s
  | .quenchRecord t p head set seq => Sys2Proof.Machine.execQuenchRecord t p head set seq s
  | .enumRefresh t => Sys2Proof.Machine.execEnumRefresh t s
  | .memberTimeout t id => Sys2Proof.Machine.execMemberTimeout t id s
  | .incumbency t => Sys2Proof.Machine.execIncumbency t s
  | .electionSettled t => Sys2Proof.Machine.execElectionSettled t s
  | .orphanTimeout t => Sys2Proof.Machine.execOrphanTimeout t s
  | .sknSend t => Sys2Proof.Machine.execSknSend t s
  | .sknRemoteReset t => Sys2Proof.Machine.execSknRemoteReset t s
  | .skeinDepart t idx => Sys2Proof.Machine.execSkeinDepart t idx s
  | .skeinMessageReceived t p m crcOk fail => Sys2Proof.Machine.execSkeinMessageReceived t p m crcOk fail s
  | .skeinAckReceived t seq result => Sys2Proof.Machine.execSkeinAckReceived t seq result s
  | .ackTimeout t idx => Sys2Proof.Machine.execAckTimeout t idx s
  | .holdExpiry t idx => Sys2Proof.Machine.execHoldExpiry t idx s
  | .remoteResetReceived t m => Sys2Proof.Machine.execRemoteResetReceived t m s
  | .remoteResetExecute t => Sys2Proof.Machine.execRemoteResetExecute t s
  | .unblock t => Sys2Proof.Machine.execUnblock t s
  | .quenchRelease t => Sys2Proof.Machine.execQuenchRelease t s
  | .commit t => Sys2Proof.Machine.execCommit t s
  | .storeWrite t v => Sys2Proof.Machine.execStoreWrite t v s
  | .budgetPeriodStart t => Sys2Proof.Machine.execBudgetPeriodStart t s
  | .harvestHourEnd t => Sys2Proof.Machine.execHarvestHourEnd t s
  | .supplyWarning t mv => Sys2Proof.Machine.execSupplyWarning t mv s
  | .warningClear t mv => Sys2Proof.Machine.execWarningClear t mv s
  | .economyHoldEnd t => Sys2Proof.Machine.execEconomyHoldEnd t s
  | .flRead t corrected bad fail => Sys2Proof.Machine.execFlRead t corrected bad fail s
  | .flProgram t => Sys2Proof.Machine.execFlProgram t s
  | .flErase t => Sys2Proof.Machine.execFlErase t s
  | .flCounter t => Sys2Proof.Machine.execFlCounter t s
  | .directProgram t req v => Sys2Proof.Machine.execDirectProgram t req v s
  | .directErase t req v => Sys2Proof.Machine.execDirectErase t req v s
  | .flashOpDone t bank badWord failMask => Sys2Proof.Machine.execFlashOpDone t bank badWord failMask s
  | .flashSuspend t a r => Sys2Proof.Machine.execFlashSuspend t a r s
  | .flashResume t bank => Sys2Proof.Machine.execFlashResume t bank s
  | .flashOccupancyStop t bank => Sys2Proof.Machine.execFlashOccupancyStop t bank s
  | .scrubRefresh t a errors => Sys2Proof.Machine.execScrubRefresh t a errors s
  | .execLockWrite t v => Sys2Proof.Machine.execExecLockWrite t v s
  | .boot t loaderOk cfg recordOk ownerKey step2Ok => Sys2Proof.Machine.execBoot t loaderOk cfg recordOk ownerKey step2Ok s
  | .imagePieceManifest t src bytes => Sys2Proof.Machine.execImagePieceManifest t src bytes s
  | .imagePieceHash t src bytes => Sys2Proof.Machine.execImagePieceHash t src bytes s
  | .imagePieceData t src bytes => Sys2Proof.Machine.execImagePieceData t src bytes s
  | .stagingCheckDone t target => Sys2Proof.Machine.execStagingCheckDone t target s
  | .activate t => Sys2Proof.Machine.execActivate t s
  | .handover t req => Sys2Proof.Machine.execHandover t req s
  | .alive t req => Sys2Proof.Machine.execAlive t req s
  | .confirm t req => Sys2Proof.Machine.execConfirm t req s
  | .revert t => Sys2Proof.Machine.execRevert t s
  | .abandon t => Sys2Proof.Machine.execAbandon t s
  | .quiesceTimeout t => Sys2Proof.Machine.execQuiesceTimeout t s
  | .aliveTimeout t => Sys2Proof.Machine.execAliveTimeout t s
  | .trialExpiry t => Sys2Proof.Machine.execTrialExpiry t s
  | .distStart t => Sys2Proof.Machine.execDistStart t s
  | .distStop t => Sys2Proof.Machine.execDistStop t s
  | .distStatus t fail => Sys2Proof.Machine.execDistStatus t fail s
  | .distClear t => Sys2Proof.Machine.execDistClear t s
  | .distCarouselFrame t d => Sys2Proof.Machine.execDistCarouselFrame t d s
  | .distSnapshot t d => Sys2Proof.Machine.execDistSnapshot t d s
  | .reqa t wupa => Sys2Proof.Machine.execReqa t wupa s
  | .anticollision t level known => Sys2Proof.Machine.execAnticollision t level known s
  | .select t level uid => Sys2Proof.Machine.execSelect t level uid s
  | .rats t => Sys2Proof.Machine.execRats t s
  | .pps t rate => Sys2Proof.Machine.execPps t rate s
  | .deselect t hlta => Sys2Proof.Machine.execDeselect t hlta s
  | .ndefSelect t byName name => Sys2Proof.Machine.execNdefSelect t byName name s
  | .readBinary t offset n => Sys2Proof.Machine.execReadBinary t offset n s
  | .updateBinary t => Sys2Proof.Machine.execUpdateBinary t s
  | .writeBegin t cla data => Sys2Proof.Machine.execWriteBegin t cla data s
  | .writeData t cla offset data => Sys2Proof.Machine.execWriteData t cla offset data s
  | .writeCommit t cla data collapse verifyFail => Sys2Proof.Machine.execWriteCommit t cla data collapse verifyFail s
  | .writeAbort t cla => Sys2Proof.Machine.execWriteAbort t cla s
  | .tagStatus t cla => Sys2Proof.Machine.execTagStatus t cla s
  | .fieldOn t => Sys2Proof.Machine.execFieldOn t s
  | .fieldOff t => Sys2Proof.Machine.execFieldOff t s
  | .quietExpiry t => Sys2Proof.Machine.execQuietExpiry t s
  | .unquiet t => Sys2Proof.Machine.execUnquiet t s
  | .coilTest t result ball => Sys2Proof.Machine.execCoilTest t result ball s
  | .eventFire t => Sys2Proof.Machine.execEventFire t s
  | .swfire t k v => Sys2Proof.Machine.execSwfire t k v s
  | .grpSet t v => Sys2Proof.Machine.execGrpSet t v s
  | .grpClr t v => Sys2Proof.Machine.execGrpClr t v s
  | .pubSubWrite t a v => Sys2Proof.Machine.execPubSubWrite t a v s
  | .timerTick t n => Sys2Proof.Machine.execTimerTick t n s
  | .gstart t v => Sys2Proof.Machine.execGstart t v s
  | .gstop t v => Sys2Proof.Machine.execGstop t v s
  | .greload t v => Sys2Proof.Machine.execGreload t v s
  | .stagger t v => Sys2Proof.Machine.execStagger t v s
  | .timerCtlWrite t n v => Sys2Proof.Machine.execTimerCtlWrite t n v s
  | .oscStartDelayEnd t src valid meas => Sys2Proof.Machine.execOscStartDelayEnd t src valid meas s
  | .clockMonitorTrip t src => Sys2Proof.Machine.execClockMonitorTrip t src s
  | .rcTrim t hf lf => Sys2Proof.Machine.execRcTrim t hf lf s
  | .pllUnlock t => Sys2Proof.Machine.execPllUnlock t s
  | .dspPllUnlock t => Sys2Proof.Machine.execDspPllUnlock t s
  | .pllRelock t dsp => Sys2Proof.Machine.execPllRelock t dsp s
  | .relockTimeout t => Sys2Proof.Machine.execRelockTimeout t s
  | .chanterWake t => Sys2Proof.Machine.execChanterWake t s
  | .brownOut t mv => Sys2Proof.Machine.execBrownOut t mv s
  | .overvoltage t mv => Sys2Proof.Machine.execOvervoltage t mv s
  | .powerOn t iosel => Sys2Proof.Machine.execPowerOn t iosel s
  | .vioFault t => Sys2Proof.Machine.execVioFault t s
  | .vioRetry t => Sys2Proof.Machine.execVioRetry t s
  | .warnWrite t v mv => Sys2Proof.Machine.execWarnWrite t v mv s
  | .sleepRequest t => Sys2Proof.Machine.execSleepRequest t s
  | .hibernateRequest t => Sys2Proof.Machine.execHibernateRequest t s
  | .powerRequestCancel t => Sys2Proof.Machine.execPowerRequestCancel t s
  | .powerStateEntry t => Sys2Proof.Machine.execPowerStateEntry t s
  | .wake t src => Sys2Proof.Machine.execWake t src s
  | .resetPin t low => Sys2Proof.Machine.execResetPin t low s
  | .resetPinLong t iosel => Sys2Proof.Machine.execResetPinLong t iosel s
  | .deviceReset t cause => Sys2Proof.Machine.execDeviceReset t cause s
  | .applicationReset t cause => Sys2Proof.Machine.execApplicationReset t cause s
  | .softReset t v => Sys2Proof.Machine.execSoftReset t v s
  | .softAppReset t v => Sys2Proof.Machine.execSoftAppReset t v s
  | .wdtKick t v => Sys2Proof.Machine.execWdtKick t v s
  | .wdtHalf t => Sys2Proof.Machine.execWdtHalf t s
  | .wdtSystem t => Sys2Proof.Machine.execWdtSystem t s
  | .wdtLock t v => Sys2Proof.Machine.execWdtLock t v s
  | .coreWdtKick t v => Sys2Proof.Machine.execCoreWdtKick t v s
  | .wdtCore t => Sys2Proof.Machine.execWdtCore t s
  | .outputShort t pin => Sys2Proof.Machine.execOutputShort t pin s
  | .doubleFault t c mepc => Sys2Proof.Machine.execDoubleFault t c mepc s
  | .submit t ring addr => Sys2Proof.Machine.execSubmit t ring addr s
  | .wait t addr ms => Sys2Proof.Machine.execWait t addr ms s
  | .yield t => Sys2Proof.Machine.execYield t s
  | .partitionFault t mcause => Sys2Proof.Machine.execPartitionFault t mcause s
  | .debugChallenge t => Sys2Proof.Machine.execDebugChallenge t s
  | .debugAuth t scope sig => Sys2Proof.Machine.execDebugAuth t scope sig s
  | .debugAuthDone t => Sys2Proof.Machine.execDebugAuthDone t s
  | .dmiAccess t write => Sys2Proof.Machine.execDmiAccess t write s
  | .debugHalt t c => Sys2Proof.Machine.execDebugHalt t c s
  | .debugMuteWrite t v => Sys2Proof.Machine.execDebugMuteWrite t v s
  | .endSession t => Sys2Proof.Machine.execEnd t s
  | .plicClaim t ctx => Sys2Proof.Machine.execPlicClaim t ctx s
  | .plicComplete t ctx id => Sys2Proof.Machine.execPlicComplete t ctx id s
  | .gpioEdge t u rising => Sys2Proof.Machine.execGpioEdge t u rising s
  | .uartDataWrite t k b => Sys2Proof.Machine.execUartDataWrite t k b s
  | .uartDataRead t k => Sys2Proof.Machine.execUartDataRead t k s
  | .uartReceive t k b bad => Sys2Proof.Machine.execUartReceive t k b bad s
  | .spiDataWrite t k v => Sys2Proof.Machine.execSpiDataWrite t k v s
  | .spiDataRead t k => Sys2Proof.Machine.execSpiDataRead t k s
  | .i2cGo t k v => Sys2Proof.Machine.execI2cGo t k v s
  | .i2cDataAccess t k write b => Sys2Proof.Machine.execI2cDataAccess t k write b s
  | .i2cCommandEnd t k nack arb bytes => Sys2Proof.Machine.execI2cCommandEnd t k nack arb bytes s
  | .tamperTest t n line level => Sys2Proof.Machine.execTamperTest t n line level s
  | .hkaStart t => Sys2Proof.Machine.execHkaStart t s
  | .hkaSequenceDone t results => Sys2Proof.Machine.execHkaSequenceDone t results s
  | .cbDataRead t => Sys2Proof.Machine.execCbDataRead t s
  | .pcieLinkUp t => Sys2Proof.Machine.execPcieLinkUp t s
  | .wfi t core => Sys2Proof.Machine.execWfi t core s
  | .meterSample t uj mv => Sys2Proof.Machine.execMeterSample t uj mv s
  | .guardTimeMet t bank => Sys2Proof.Machine.execGuardTimeMet t bank s
  | .shrDetected t lane start cfo q => Sys2Proof.Machine.execShrDetected t lane start cfo q s
  | .synthRelock t tx => Sys2Proof.Machine.execSynthRelock t tx s
  | .debugResume t c => Sys2Proof.Machine.execDebugResume t c s
  | .waitTimeout t => Sys2Proof.Machine.execWaitTimeout t s
  | .spiFrameEnd t k v => Sys2Proof.Machine.execSpiFrameEnd t k v s
  | .uartByteSent t k => Sys2Proof.Machine.execUartByteSent t k s
  | .aonLoss t => Sys2Proof.Machine.execAonLoss t s
  | .lockAtRate t p low inverted => Sys2Proof.Machine.execLockAtRate t p low inverted s
  | .aggregatedCopyDelivery t first frame others fail => Sys2Proof.Machine.execAggregatedCopyDelivery t first frame others fail s
  | .lowerWordRead t req a => Sys2Proof.Machine.execLowerWordRead t req a s

end Sys2Proof.Machine
end

