-- ==== Sys2Proof/Safety.lean ====
section
/-! DEFINITION. What every state of a run keeps: the register file and every memory stand in their canonical form
(Machine/Sparse.lean), and the tables of the block keep their fixed sizes. -/

namespace Sys2Proof.Machine

/-- Is the register file in its canonical form? -/
def regsWf (s : State) : Prop := Sparse.wf resetWord s.regs = true

/-- Are the memories in their canonical form: the host's memory as the device writes it, application SRAM, the
schedule's cell pool, the flash array and its program counts, the ESM entries, the sequence numbers of the key cache, and
the MSI-X table and the configuration space of the PCIe function? -/
def memoriesWf (s : State) : Prop :=
  Sparse.wf (fun _ => (0 : Byte)) s.hostMem = true ∧ Sparse.wf (fun _ => (0 : Byte)) s.sram = true ∧
  Sparse.wf (fun _ => (0 : BitVec 48)) s.chn.cells = true ∧ Sparse.wf (fun _ => (0xFF : Byte)) s.flc.mem = true ∧
  Sparse.wf (fun _ => 0) s.flc.slots = true ∧ Sparse.wf (fun _ => (0 : DWord)) s.esm.entries = true ∧
  Sparse.wf (fun _ => 0) s.cry.cacheSeq = true ∧ Sparse.wf msixReset s.pcie.table = true ∧
  Sparse.wf (fun _ => (0 : Word)) s.pcie.config = true

/-- The invariant of every run. -/
def State.canonical (s : State) : Prop := regsWf s ∧ memoriesWf s

end Sys2Proof.Machine
end

