-- ==== Sys2Proof/Certificates/Slice0/Obligations.lean ====
section
/-! DEFINITION. The statements about this model, for the provers.  Where a statement names `x` with `x = s.at t`, `x` is the
machine when its time has come to the command's instant t: the clocks have moved, and the lanes that were waiting to be
released or given a residue have been served (State.at); the statement's `State.at` itself is what `TimePasses` is about. -/

open Sys2Proof Sys2Proof.Machine

/-- A step of a state with command `c` at the front of its queue is `exec c` on the state with the queue's rest, and a
step on an empty queue changes nothing. That the queue is first in, first out, and that an empty queue idles, is the
model's choice (notes/assumptions/6.md). -/
def Obligations.StepRunsFrontCommand : Prop :=
  (∀ (s : State) (c : Instr) (rest : List Instr), s.pending = c :: rest → step s = exec c { s with pending := rest }) ∧
  (∀ s : State, s.pending = [] → step s = .next s)

/-- A step of any state answers a next state, never a fault or a refusal, and leaves in the queue exactly the commands
behind the front one: the spec gives an effect to every command in every state (a command that does not apply changes
nothing). The queue is the model's choice (notes/assumptions/6.md). -/
def Obligations.EveryStepCompletes : Prop :=
  ∀ s : State, ∃ t, step s = .next t ∧ t.pending = s.pending.tail

/-- From every state whose register file and memories are in canonical form (Safety.lean), whatever command is in
front, a step gives such a state: equal contents of the registers and of each memory are equal data. -/
def Obligations.StepKeepsCanonical : Prop :=
  ∀ s t : State, s.canonical → step s = .next t → t.canonical

/-- Whatever command is executed in whatever state, the queue of the commands that wait behind it is unchanged. That
there is such a queue is the model's choice (notes/assumptions/6.md). -/
def Obligations.CommandsKeepQueue : Prop :=
  ∀ (c : Instr) (s r : State), exec c s = .next r → r.pending = s.pending

/-- After a power-on reset the state is canonical, every register reads the reset word of its row (resetWord; five
rows are written out), the promise table, the queue of commands and the fetched descriptors are empty, no block is
enabled, and network time is 0. Where Table 19-2 gives a row no reset value, its word is the model's choice
(notes/assumptions/). -/
def Obligations.ResetState : Prop :=
  State.reset.canonical ∧ (∀ a, State.reset.rd a = resetWord a) ∧ State.reset.items = [] ∧ State.reset.pending = [] ∧
  State.reset.hre.fetched = [] ∧ State.reset.net = 0 ∧ (∀ b < 23, State.reset.en b = false) ∧
  State.reset.rd Reg.SUP_CFG = 0x00000100 ∧ State.reset.rd Reg.CHN_CFG = 0x10400440 ∧ State.reset.rd Reg.PHY_DET = 0x00021049 ∧
  State.reset.rd Reg.SUP_RET = 0x0000FFFF ∧ (∀ n < 24, State.reset.rd (Reg.HRE_RING_CFG n) = BitVec.ofNat 32 (n * 0x10000))

/-- Every command carries its AON local instant `t` and takes effect on `s.at t`. The AON local clock of `s.at t` is
the later of t and its own, and the queue, the host's memory, HRE, Chanter, Bellows, ESM, the cipher, skein, flash,
update, tag, event, timer, clock and peripheral state are as before. While no lane waits to be released and no residue
waits for a lane, registers, promise table and receiver state are unchanged too; with no slew in progress and a
frequency estimate of 0, network time then advances exactly as much as the local clock, modulo 2^64; with an estimate,
by the estimate's part more. When a lane's frame has ended and time passes into another DSP cycle with no residue
waiting, that lane, a narrow one that is present, is free. That a release waits for the next DSP cycle (R199) is read
from the rules' order within a cycle (notes/assumptions/103.md). -/
def Obligations.TimePasses : Prop :=
  (∀ (s : State) (t : Nat), (s.at t).now = Nat.max s.now t ∧ (s.at t).pending = s.pending ∧ (s.at t).hostMem = s.hostMem ∧
      (s.at t).hre = s.hre ∧ (s.at t).chn = s.chn ∧ (s.at t).blw = s.blw ∧ (s.at t).esm = s.esm ∧ (s.at t).cry = s.cry ∧
      (s.at t).skn = s.skn ∧ (s.at t).flc = s.flc ∧ (s.at t).upd = s.upd ∧ (s.at t).tag = s.tag ∧ (s.at t).evf = s.evf ∧
      (s.at t).tmb = s.tmb ∧ (s.at t).clk = s.clk ∧ (s.at t).per = s.per) ∧
  (∀ (s : State) (t : Nat), s.mur.freed = [] → s.mur.residues = [] →
    (s.at t).regs = s.regs ∧ (s.at t).items = s.items ∧ (s.at t).mur = s.mur ∧ (s.at t).msix = s.msix) ∧
  (∀ (s : State) (t : Nat), s.mur.freed = [] → s.mur.residues = [] → s.mac.slew = 0 → s.get F.MAC_FREQ_EST_EST = 0 →
    s.mac.driftRest < 1024000000 → s.now ≤ t → (s.at t).net = (s.net + (t - s.now)) % 2 ^ 64) ∧
  (∀ (s : State) (t e : Nat), s.mur.freed = [] → s.mur.residues = [] → s.mac.slew = 0 → s.get F.MAC_FREQ_EST_EST = e → e < 2 ^ 31 →
    s.now ≤ t → (s.at t).net = (s.net + (t - s.now) + ((t - s.now) * e + s.mac.driftRest) / 1024000000) % 2 ^ 64) ∧
  (∀ (s : State) (t n : Nat), n < 60 → lanePresent s n = true → s.mur.freed = [n] → s.mur.residues = [] → dspCycleOf s.now < dspCycleOf t →
    laneState (s.at t) n = 1 ∧ (s.at t).mur.freed = [] ∧ (s.at t).items = s.items)

/-- Each bit of a register after a write: a W1C bit clears on a 1 and keeps its value on a 0; an RW bit takes the bit
written; an RWE bit takes it while the block may be set up and keeps its value otherwise; every other bit keeps its
value (Table 0-4). A core that is awake writes a register of a block whose registers have no effects of their own
(CLK, PHY, MUR, SIG), BLK_CTL apart: the register takes the word that its access code gives (codedWord) and nothing
else changes. A core's write to a register other than as one aligned word, and one beyond the last block's registers,
is an access fault on that core (State.accessFault). A host write without all its byte enables changes nothing. A read
of the lower word of a 64-bit register delivers it, and the upper word is latched for its requester; registers and
promise table are unchanged. -/
def Obligations.RegisterAccess : Prop :=
  (∀ (d : RegDesc) (openRwe : Bool) (old v : Word) (k : Nat), k < 32 →
    (codedWord d openRwe old v).getLsbD k =
      (if d.w1c.testBit k && v.getLsbD k then false
       else if d.rw.testBit k || (openRwe && d.rwe.testBit k) then v.getLsbD k
       else old.getLsbD k)) ∧
  (∀ (s x : State) (t c a i : Nat) (v : Word) (d : RegDesc), x = s.at t → reaches x (.core c) = true → 0x40000000 ≤ a → a < 0x40170000 → a % 4 = 0 →
    blockOf a ∈ [0x02, 0x06, 0x07, 0x0C] → a ≠ Reg.BLK_CTL (blockOf a) → regFind a = some (d, i) →
    exec (.registerWrite t (.core c) a v true) s =
      .next (x.wr a (codedWord d (setupOpen x (blockOf a)) (x.rd a) v))) ∧
  (∀ (s x : State) (t c a : Nat) (v : Word), x = s.at t → reaches x (.core c) = true → 0x40000000 ≤ a → a < 0x40170000 →
    exec (.registerWrite t (.core c) a v false) s = .next (x.accessFault c)) ∧
  (∀ (s x : State) (t c a : Nat) (v : Word) (whole : Bool), x = s.at t → reaches x (.core c) = true → 0x40170000 ≤ a →
    exec (.registerWrite t (.core c) a v whole) s = .next (x.accessFault c)) ∧
  (∀ (s x : State) (t a : Nat) (v : Word), x = s.at t → exec (.registerWrite t .host a v false) s = .next x) ∧
  (∀ (s x : State) (t a : Nat) (req : Requester), x = s.at t → isLower64 a = true → reaches x req = true → a ≠ Reg.CHN_CAL_DATA →
    ∃ r, exec (.lowerWordRead t req a) s = .next r ∧ upperWord r req (a + 4) = x.rd (a + 4) ∧
      r.sup.delivered = x.sup.delivered ++ [readWord x a] ∧ r.regs = x.regs ∧ r.items = x.items) ∧
  (∀ (s x : State) (t a : Nat) (v : Word), x = s.at t → reaches x .host = true → x.pcie.d3hot = false → 0x40000000 ≤ a → a < 0x40170000 → a % 4 = 0 →
    blockOf a ∈ [0x02, 0x06, 0x07, 0x0C] → a ≠ Reg.BLK_CTL (blockOf a) → regFind a = none →
    exec (.registerWrite t .host a v true) s = .next x)

/-- Writing 1 to EN of a disabled block whose check does not run starts its check: BUSY 1, STATUS running (1), REASON
0, FIELD 0, EN still 0, and no register outside the block's BLK_CTL and BLK_CHK changes, nor the promise table.
Writing 0 during the check abandons it: BUSY 0, EN as it was, the reason is local code 0xF5, and no other register
changes. The end of a check that waits for nothing and finds a fault leaves EN at 0 and BUSY 0; STATUS is REFUSED (3),
and REASON and FIELD show the fault's code and register. -/
def Obligations.EnableCheck : Prop :=
  (∀ (s x : State) (t b : Nat), x = s.at t → b < 23 → x.en b = false → x.on (F.BLK_BUSY b) = false →
    ∃ r, exec (.blockEnable t b) s = .next r ∧ r.on (F.BLK_BUSY b) = true ∧ r.en b = false ∧ r.get (F.CHK_STATUS b) = 1 ∧
      r.get (F.CHK_REASON b) = 0 ∧ r.rd (Reg.BLK_CHK_FIELD b) = 0 ∧
      (∀ a, a ≠ Reg.BLK_CTL b → a ≠ Reg.BLK_CHK b → a ≠ Reg.BLK_CHK_FIELD b → r.rd a = x.rd a) ∧ r.items = x.items) ∧
  (∀ (s x : State) (t b : Nat), x = s.at t → b < 23 → x.on (F.BLK_BUSY b) = true →
    ∃ r, exec (.checkAbandoned t b) s = .next r ∧ r.on (F.BLK_BUSY b) = false ∧ r.en b = x.en b ∧
      r.get (F.CHK_STATUS b) = 0 ∧ r.get (F.CHK_REASON b) = b * 256 + 0xF5 ∧
      (∀ a, a ≠ Reg.BLK_CTL b → a ≠ Reg.BLK_CHK b → r.rd a = x.rd a) ∧ r.items = x.items) ∧
  (∀ (s x : State) (t b : Nat) (f : Fault3), x = s.at t → b < 23 → x.en b = false → x.on (F.BLK_BUSY b) = true →
    checkWaits x b = false → checkFault x b = some f → f.code < 256 →
    ∃ r, exec (.enableCheckDone t b) s = .next r ∧ r.en b = false ∧ r.on (F.BLK_BUSY b) = false ∧
      r.get (F.CHK_STATUS b) = 3 ∧ r.get (F.CHK_REASON b) = b * 256 + f.code ∧ r.rd (Reg.BLK_CHK_FIELD b) = word f.field)

/-- The end of a check that waits for nothing and finds no fault clears BUSY, sets EN, STATUS PASS (2), REASON 0 and
FIELD 0, clears the block's counters that are cleared at enable (State.clearCounters), and gives the state
State.onEnabled of that block. Writing 0 to EN of an enabled block that no enabled block depends on and no accepted
item uses clears EN and gives State.onDisabled of the block, and the front end's lines follow; with TMB every channel
stops, with SKN the skein state is DISABLED (0) and the port states are down, with ESM a checkpoint is given up. While
an enabled block depends on it, the write is refused with local code 0xF3, EN stays, STATUS is REFUSED (3), and FIELD
names that block's BLK_CTL; while an accepted item uses it, with 0xF4 and FIELD 0. FLC_READY on an enabled flash
controller that is not READY repairs the map and the counters, deals with every operation whose journal record is open
(State.repairInterrupted), sets READY and starts what waits; with no open record it leaves the promise table alone.
CALIBRATION_DONE sets CAL_DONE, RX_LOCK and TX_LOCK, holds the finding of each receive port modulo 3 in RFE_ANT, and
ends the calibration; the promise table is unchanged. -/
def Obligations.EnableAndReady : Prop :=
  (∀ (s x : State) (t b : Nat), x = s.at t → b < 23 → x.on (F.BLK_BUSY b) = true → checkWaits x b = false →
    checkFault x b = none →
    exec (.enableCheckDone t b) s = .next (((((((x.put (F.BLK_BUSY b) 0).put (F.BLK_EN b) 1).put (F.CHK_STATUS b) 2).put
      (F.CHK_REASON b) 0).wr (Reg.BLK_CHK_FIELD b) 0).clearCounters b).onEnabled b)) ∧
  (∀ (s x : State) (t b : Nat), x = s.at t → b < 23 → x.en b = true → enabledDependent x b = none →
    (∀ i ∈ x.items, usesBlock b i = false) →
    exec (.blockDisable t b) s = .next (((x.put (F.BLK_EN b) 0).onDisabled b).syncFem)) ∧
  (∀ (s x : State) (t b d : Nat), x = s.at t → b < 23 → x.en b = true → enabledDependent x b = some d →
    ∃ r, exec (.blockDisable t b) s = .next r ∧ r.en b = true ∧ r.get (F.CHK_REASON b) = b * 256 + 0xF3 ∧
      r.get (F.CHK_STATUS b) = 3 ∧ r.rd (Reg.BLK_CHK_FIELD b) = word (Reg.BLK_CTL d)) ∧
  (∀ (s x : State) (t b : Nat), x = s.at t → b < 23 → x.en b = true → enabledDependent x b = none →
    x.items.any (usesBlock b) = true →
    ∃ r, exec (.blockDisable t b) s = .next r ∧ r.en b = true ∧ r.get (F.CHK_REASON b) = b * 256 + 0xF4 ∧
      r.get (F.CHK_STATUS b) = 3 ∧ r.rd (Reg.BLK_CHK_FIELD b) = 0 ∧ r.items = x.items) ∧
  (∀ (s x : State) (t : Nat), x = s.at t → x.en Blk.FLC = true → x.on F.FLC_STATUS_READY = false →
    exec (.flcReady t) s = .next ((((openRecords x.repairMap.repairCounters).foldl State.repairInterrupted
      x.repairMap.repairCounters).put F.FLC_STATUS_READY 1).startWaiting)) ∧
  (∀ (s x : State) (t rx0 rx1 : Nat), x = s.at t → x.rfe.calibrating = true →
    ∃ r, exec (.calibrationDone t rx0 rx1) s = .next r ∧ r.rfe.calibrating = false ∧ r.get F.RFE_STATUS_CAL_DONE = 1 ∧
      r.get F.RFE_STATUS_RX_LOCK = 1 ∧ r.get F.RFE_STATUS_TX_LOCK = 1 ∧ r.get F.RFE_ANT_RX0 = rx0 % 3 ∧
      r.get F.RFE_ANT_RX1 = rx1 % 3 ∧ r.items = x.items) ∧
  (∀ (s x : State) (t n : Nat), x = s.at t → n < 16 → x.en Blk.TMB = true → enabledDependent x Blk.TMB = none →
    (∀ i ∈ x.items, usesBlock Blk.TMB i = false) →
    ∃ r, exec (.blockDisable t Blk.TMB) s = .next r ∧ r.en Blk.TMB = false ∧ r.get (F.TMB_CH_STATUS_RUN n) = 0 ∧ r.items = x.items) ∧
  (∀ (s x : State) (t p : Nat), x = s.at t → p < 3 → x.en Blk.SKN = true → enabledDependent x Blk.SKN = none →
    (∀ i ∈ x.items, usesBlock Blk.SKN i = false) →
    ∃ r, exec (.blockDisable t Blk.SKN) s = .next r ∧ r.en Blk.SKN = false ∧ r.get F.SKN_STATUS_STATE = 0 ∧
      r.get (F.SKN_PORT_STATUS_LINK p) = 0 ∧ r.items = x.items) ∧
  (∀ (s x : State) (t : Nat), x = s.at t → x.en Blk.ESM = true → enabledDependent x Blk.ESM = none →
    (∀ i ∈ x.items, usesBlock Blk.ESM i = false) →
    ∃ r, exec (.blockDisable t Blk.ESM) s = .next r ∧ r.en Blk.ESM = false ∧ r.esm.ckpt = none ∧
      r.get F.ESM_STATUS_CKPT_RUNNING = 0 ∧ r.esm.entries = x.esm.entries ∧ r.items = x.items) ∧
  (∀ (s x : State) (t : Nat), x = s.at t → x.en Blk.FLC = true → x.on F.FLC_STATUS_READY = false → openRecords x.repairMap.repairCounters = [] →
    ∃ r, exec (.flcReady t) s = .next r ∧ r.get F.FLC_STATUS_READY = 1 ∧ r.items = x.items)

/-- RING_ENABLE of a disabled ring that passes the ring check sets EN, HEAD 0 and phase 1, REASON 0 and ERR 0; of one
that fails, REASON shows the code and EN stays 0. RING_DISABLE of an enabled ring without reservations clears EN and
changes no other register; of a completion ring with reservations and without ERR it is refused: EN stays and REASON
is 0x040D. A doorbell of a submission ring stores its index and ends the ring's wait for one, leaving its count of
unfinished descriptors; a doorbell of a completion ring leaves the entries from its index to HEAD unreleased, when no
more than that were. Once 8 × MOD_TIME µs have passed since the first entry not yet signalled, MOD_TIME_EXPIRY raises
the ring's vector, where its HRE_IER bit is set and interrupts are not mirrored to the cores, and the count of entries
not signalled is 0 again. The promise table is unchanged in all of them. -/
def Obligations.RingSetUp : Prop :=
  (∀ (s x : State) (t n : Nat), x = s.at t → n < 24 → x.on (F.HRE_RING_CFG_EN n) = false → ringCheck x n = none →
    ∃ r, exec (.ringEnable t n) s = .next r ∧ r.get (F.HRE_RING_CFG_EN n) = 1 ∧ r.get (F.HRE_RING_HEAD_INDEX n) = 0 ∧
      r.get (F.HRE_RING_HEAD_PHASE n) = 1 ∧ r.get (F.HRE_RING_STATUS_REASON n) = 0 ∧ r.get (F.HRE_RING_STATUS_ERR n) = 0 ∧
      r.items = x.items) ∧
  (∀ (s x : State) (t n c : Nat), x = s.at t → n < 24 → x.on (F.HRE_RING_CFG_EN n) = false → ringCheck x n = some c →
    ∃ r, exec (.ringEnable t n) s = .next r ∧ r.on (F.HRE_RING_CFG_EN n) = false ∧
      r.get (F.HRE_RING_STATUS_REASON n) = c % 65536 ∧ r.items = x.items) ∧
  (∀ (s x : State) (t n : Nat), x = s.at t → n < 24 → x.on (F.HRE_RING_CFG_EN n) = true →
    x.get (F.HRE_RING_RSV_COUNT n) = 0 →
    ∃ r, exec (.ringDisable t n) s = .next r ∧ r.on (F.HRE_RING_CFG_EN n) = false ∧
      (∀ a, a ≠ Reg.HRE_RING_CFG n → r.rd a = x.rd a) ∧ r.items = x.items) ∧
  (∀ (s x : State) (t n : Nat), x = s.at t → 16 ≤ n → n ≤ 20 → x.on (F.HRE_RING_CFG_EN n) = true →
    0 < x.get (F.HRE_RING_RSV_COUNT n) → x.on (F.HRE_RING_STATUS_ERR n) = false →
    ∃ r, exec (.ringDisable t n) s = .next r ∧ r.on (F.HRE_RING_CFG_EN n) = true ∧
      r.get (F.HRE_RING_STATUS_REASON n) = 0x040D ∧ r.items = x.items) ∧
  (∀ (s x : State) (t n idx : Nat), x = s.at t → n ≤ 13 → n < x.hre.rings.length → idx < 65536 →
    ∃ r, exec (.doorbell t n idx) s = .next r ∧ (r.ring n).db = idx ∧ (r.ring n).waitDb = false ∧
      (r.ring n).openItems = (x.ring n).openItems ∧ r.regs = x.regs ∧ r.items = x.items) ∧
  (∀ (s x : State) (t n idx left : Nat), x = s.at t → 16 ≤ n → n ≤ 20 → n < x.hre.rings.length →
    left = (x.get (F.HRE_RING_HEAD_INDEX n) + ringSize x n - idx % ringSize x n) % ringSize x n →
    left ≤ (x.ring n).unreleased →
    ∃ r, exec (.doorbell t n idx) s = .next r ∧ (r.ring n).unreleased = left ∧ r.regs = x.regs ∧ r.items = x.items) ∧
  (∀ (s x : State) (t n m : Nat), x = s.at t → m = x.get (F.HRE_RING_CFG_MOD_TIME n) → 0 < m → 0 < (x.ring n).sigCount →
    (x.ring n).sigSince + usU (8 * m) ≤ x.now → bits (x.get F.HRE_IER_ENABLE) n n = 1 → x.relay = false →
    x.on F.CPX_CFG_MIRROR = false →
    ∃ r, exec (.modTimeExpiry t n) s = .next r ∧ (r.ring n).sigCount = 0 ∧ r.msix = x.msix ++ [x.get (F.HRE_RING_CFG_VEC n)] ∧
      r.regs = x.regs ∧ r.items = x.items)

/-- DESCRIPTOR_FETCH takes the ring that nextRing names. When the slot's phase is HEAD's, its FENCE bit is clear or
the ring has no unfinished descriptor, and the checks of R55 pass, the descriptor joins the fetched ones, HEAD
advances, and the ring has one more unfinished descriptor; a slot with the other phase makes the ring wait for its
next doorbell; a slot that FENCE holds marks the ring fenced, and HEAD stays. COMPLETION_WRITE for a ring that can be
written takes the first waiting completion for it that may be written (mayWrite): its eight words stand in memory at
HEAD, HEAD advances, and the ring has one more unreleased entry; an unsignalled one without a reservation changes no
promise-table entry, and the final of an item on a ring other than 9 removes the item's entry. A failed write stops
the ring with ERR and reason 0x0409 and keeps the completion first. EVENT_RECORD_WRITE writes the record that
nextRecord names in the same way into ring 20; while ring 20 is not enabled, the oldest record not exempt is dropped
and counted. A host reset of the PCIe host disables HRE and empties its fetched host descriptors, fences and posted
buffers; the quench and the promise table stay, and a lost link clears LINK_UP. -/
def Obligations.RingTraffic : Prop :=
  (∀ (s x : State) (t n : Nat) (ws d : List Word) (buf : List Byte), x = s.at t → nextRing x = some n → n < x.hre.rings.length →
    d = slotWords x n ws → wbits d 0 15 15 = x.get (F.HRE_RING_HEAD_PHASE n) → (wbits d 0 10 10 = 0 ∨ (x.ring n).openItems = 0) →
    preAdmission x n d false = none →
    ∃ r, exec (.descriptorFetch t ws buf false) s = .next r ∧
      r.hre.fetched = x.hre.fetched ++ [⟨n, d, slotBuffer x d buf⟩] ∧ (r.ring n).openItems = (x.ring n).openItems + 1 ∧
      r.regs = (x.advanceHead n).regs ∧ r.hre.outq = x.hre.outq ∧ r.items = x.items) ∧
  (∀ (s x : State) (t n : Nat) (ws : List Word) (buf : List Byte) (fail : Bool), x = s.at t → nextRing x = some n →
    wbits (slotWords x n ws) 0 15 15 ≠ x.get (F.HRE_RING_HEAD_PHASE n) →
    exec (.descriptorFetch t ws buf fail) s = .next (x.setRing n (fun r => { r with waitDb := true }))) ∧
  (∀ (s x : State) (t n : Nat) (ws : List Word) (buf : List Byte) (fail : Bool), x = s.at t → nextRing x = some n →
    wbits (slotWords x n ws) 0 15 15 = x.get (F.HRE_RING_HEAD_PHASE n) → wbits (slotWords x n ws) 0 10 10 = 1 → 0 < (x.ring n).openItems →
    exec (.descriptorFetch t ws buf fail) s = .next (x.setRing n (fun r => { r with fenced := true }))) ∧
  (∀ (s x : State) (t n : Nat) (c : Compl) (rest : List Compl), x = s.at t → canWrite x n = true → n < x.hre.rings.length →
    takeFirst (fun q => q.cring == n && mayWrite x n q) x.hre.outq = some (c, rest) → c.sig = false → c.item = none → c.final = false →
    ∃ r, exec (.completionWrite t n false) s = .next r ∧ r.hre.outq = rest ∧ r.items = x.items ∧
      (r.ring n).unreleased = (x.ring n).unreleased + 1 ∧
      r.get (F.HRE_RING_HEAD_INDEX n) = (x.advanceHead n).get (F.HRE_RING_HEAD_INDEX n) ∧
      r.hostMem = ((x.dma (ringBase x n + 32 * x.get (F.HRE_RING_HEAD_INDEX n))
        (wordBytes (complWords c (x.get (F.HRE_RING_HEAD_PHASE n)))))).hostMem) ∧
  (∀ (s x : State) (t n k : Nat) (c : Compl) (rest : List Compl), x = s.at t → canWrite x n = true → n < x.hre.rings.length →
    takeFirst (fun q => q.cring == n && mayWrite x n q) x.hre.outq = some (c, rest) → c.item = some k → c.final = true → c.ring ≠ 9 → c.ring ≠ n →
    ∃ r, exec (.completionWrite t n false) s = .next r ∧ r.hre.outq = rest ∧ r.items = x.items.filter (fun i => i.idx != k) ∧
      (r.ring n).unreleased = (x.ring n).unreleased + 1 ∧
      r.hostMem = ((x.dma (ringBase x n + 32 * x.get (F.HRE_RING_HEAD_INDEX n))
        (wordBytes (complWords c (x.get (F.HRE_RING_HEAD_PHASE n)))))).hostMem) ∧
  (∀ (s x : State) (t n : Nat) (c : Compl) (rest : List Compl), x = s.at t → canWrite x n = true →
    takeFirst (fun q => q.cring == n && mayWrite x n q) x.hre.outq = some (c, rest) →
    ∃ r, exec (.completionWrite t n true) s = .next r ∧ r.hre.outq = c :: rest ∧ r.items = x.items ∧ r.hostMem = x.hostMem ∧
      r.on (F.HRE_RING_STATUS_ERR n) = true ∧ r.get (F.HRE_RING_STATUS_REASON n) = 0x0409) ∧
  (∀ (s x : State) (t : Nat) (q : Rec) (h : Hre), x = s.at t → canWrite x 20 = true → 20 < x.hre.rings.length → nextRecord x = some (q, h) →
    h.rings = x.hre.rings →
    ∃ r, exec (.eventRecordWrite t false) s = .next r ∧ r.hre.records = h.records ∧ r.hre.atEnable = h.atEnable ∧
      (r.ring 20).unreleased = (x.ring 20).unreleased + 1 ∧ r.items = x.items ∧
      r.hostMem = ((x.dma (ringBase x 20 + 32 * x.get (F.HRE_RING_HEAD_INDEX 20))
        (wordBytes (recWords q (x.get (F.HRE_RING_HEAD_PHASE 20)))))).hostMem) ∧
  (∀ (s x : State) (t : Nat) (q : Rec) (rest : List Rec), x = s.at t → x.on (F.HRE_RING_CFG_EN 20) = false → x.hre.records = q :: rest →
    q.exempt = false →
    ∃ r, exec (.eventRecordWrite t false) s = .next r ∧ r.hre.records = rest ∧
      r.hre.lossCount = Nat.min (x.hre.lossCount + 1) 0xFFFFFFFF ∧ r.items = x.items) ∧
  (∀ (s x : State) (t : Nat) (linkLost : Bool), x = s.at t → x.relay = false →
    ∃ r, exec (.hostReset t linkLost) s = .next r ∧ r.en Blk.HRE = false ∧ r.items = x.items ∧
      r.hre.fetched = x.hre.fetched.filter (fun f => decide (32 ≤ f.ring)) ∧ r.hre.fences = [] ∧ r.hre.buffers = [] ∧
      r.rd Reg.HRE_QUENCH = x.rd Reg.HRE_QUENCH ∧ (linkLost = true → r.get F.HRE_STATUS_LINK_UP = 0))

/-- For the next fetched descriptor of the opcode that no undecided descriptor of its ring precedes (takeTurn): NOP
completes DONE. CANCEL completes the named item, a host item neither started nor decided, as ABORTED (5) with 0x040B,
and itself DONE; with no such item it completes DONE with 0x040C. FENCE_ALL joins the waiting fences with the sequence
number of the next item and completes nothing yet. FENCE_ALL_DONE removes the first fence, once no host item accepted
before it is left, and decides its completion on ring 16, DONE with reason 0. RX_BUFFER posts its tag, address and
length behind the posted buffers. QUENCH acts as a write of HRE_QUENCH and completes DONE. Setting HRE_QUENCH.QUENCH
while it is 0 sets it, clears SETTLED, ramps running transmissions down with final status 4 and reason 0x0408, settles
when nothing runs, and sends the skein quench; clearing it while it is 1 clears both bits and sends the skein quench.
-/
def Obligations.ControlCommands : Prop :=
  (∀ (s x : State) (t : Nat) (f : Fetched) (rest : List Fetched), x = s.at t → takeTurn (fun g => wbits g.words 0 7 0 == 1) (busyRings x) x.hre.fetched = some (f, rest) →
    exec (.nop t) s = .next (({ x with hre := { x.hre with fetched := rest } }).done f.ring f.words)) ∧
  (∀ (s x : State) (t : Nat) (f : Fetched) (rest : List Fetched) (i : Item), x = s.at t → takeTurn (fun g => wbits g.words 0 7 0 == 2) (busyRings x) x.hre.fetched = some (f, rest) →
    x.items.find? (fun i => i.owner == .host && i.ring == wbits f.words 6 7 0 && i.tag == wbits f.words 7 15 0 &&
      !i.decided && !i.started) = some i →
    exec (.cancel t) s = .next ((({ x with hre := { x.hre with fetched := rest } }).finish i.idx 5 0x040B).done
      f.ring f.words)) ∧
  (∀ (s x : State) (t : Nat) (f : Fetched) (rest : List Fetched), x = s.at t → takeTurn (fun g => wbits g.words 0 7 0 == 2) (busyRings x) x.hre.fetched = some (f, rest) →
    x.items.find? (fun i => i.owner == .host && i.ring == wbits f.words 6 7 0 && i.tag == wbits f.words 7 15 0 &&
      !i.decided && !i.started) = none →
    exec (.cancel t) s = .next (({ x with hre := { x.hre with fetched := rest } }).done f.ring f.words 0x040C)) ∧
  (∀ (s x : State) (t : Nat) (f : Fetched) (rest : List Fetched), x = s.at t → takeTurn (fun g => wbits g.words 0 7 0 == 5) (busyRings x) x.hre.fetched = some (f, rest) →
    ∃ r, exec (.fenceAll t) s = .next r ∧ r.hre.fetched = rest ∧ r.hre.outq = x.hre.outq ∧ r.items = x.items ∧
      r.hre.fences = x.hre.fences ++ [⟨wbits f.words 0 31 16, wbits f.words 0 8 8 == 1, x.chn.seq⟩] ∧ r.regs = x.regs) ∧
  (∀ (s x : State) (t : Nat) (f : Fence) (rest : List Fence), x = s.at t → x.hre.fences = f :: rest →
    (∀ i ∈ x.items, i.owner = .host → f.before ≤ i.seq) →
    ∃ r, exec (.fenceAllDone t) s = .next r ∧ r.hre.fences = rest ∧ ∃ c, r.hre.outq = x.hre.outq ++ [c] ∧ c.cring = 16 ∧
      c.tag = f.tag ∧ c.status = 2 ∧ c.reason = 0 ∧ r.items = x.items ∧ r.regs = x.regs) ∧
  (∀ (s x : State) (t : Nat) (f : Fetched) (rest : List Fetched), x = s.at t → takeTurn (fun g => wbits g.words 0 7 0 == 0x21) (busyRings x) x.hre.fetched = some (f, rest) →
    ∃ r, exec (.rxBuffer t) s = .next r ∧ r.hre.fetched = rest ∧ r.items = x.items ∧ r.regs = x.regs ∧
      r.hre.buffers = x.hre.buffers ++ [⟨wbits f.words 0 31 16, wbits f.words 0 8 8 == 1,
        wordAt f.words 4 + wordAt f.words 5 * 2 ^ 32, wbits f.words 1 15 0⟩]) ∧
  (∀ (s x : State) (t : Nat) (f : Fetched) (rest : List Fetched), x = s.at t → takeTurn (fun g => wbits g.words 0 7 0 == 4) (busyRings x) x.hre.fetched = some (f, rest) →
    exec (.quench t) s = .next ((({ x with hre := { x.hre with fetched := rest } }).setQuench
      (wbits f.words 6 0 0 == 1)).done f.ring f.words)) ∧
  (∀ (s x : State) (t : Nat), x = s.at t → x.on F.HRE_QUENCH_QUENCH = false →
    exec (.quenchSet t) s = .next ((((x.put F.HRE_QUENCH_QUENCH 1).put F.HRE_QUENCH_SETTLED 0).rampDown 4 0x0408).settleQuench.sendQuench)) ∧
  (∀ (s x : State) (t : Nat), x = s.at t → x.on F.HRE_QUENCH_QUENCH = true →
    exec (.quenchClear t) s = .next ((x.put F.HRE_QUENCH_QUENCH 0).put F.HRE_QUENCH_SETTLED 0).sendQuench)

/-- ADMISSION decides the item that waits first, while the system PLL is locked. A host item other than a skein item,
while a condition of the gate holds: it leaves the waiting items, a completion REFUSED (3) with the gate's code is
decided under its ring and tag, and the promise table is unchanged. A host transmission without NOTICE that passes the
gate, the debug mute, its parent's state, the table limit, the completion space, a free index and its deadline, whose
search (searchItem) finds a first position `c` and a repair `p`, and which its duty-cycle account (dutyTest) and the
budget (bellows) allow, joins the promise table at the lowest free index, committed to c's time with p's time as its
repair, with one completion entry, not started, decided or moved; nothing is completed. A host receive window without
NOTICE that passes in the same way, with buffers enough for MAXF frames, joins it without a repair, with MAXF + 1
entries and MAXF buffers, its close time and bins from the position. -/
def Obligations.AdmissionDecides : Prop :=
  (∀ (s x : State) (t c : Nat) (w : Waiting) (rest : List Waiting), x = s.at t → x.clk.sysUnlocked = none → x.chn.awaiting = w :: rest →
    w.owner = .host → (∀ k, w.kind ≠ .skein k) → gate x false = some c →
    ∃ r, exec (.admission t) s = .next r ∧ r.chn.awaiting = rest ∧ r.items = x.items ∧ ∃ q, r.hre.outq = x.hre.outq ++ [q] ∧
      q.status = 3 ∧ q.reason = c ∧ q.tag = wbits w.words 0 31 16 ∧ q.ring = w.ring ∧ q.item = none) ∧
  (∀ (s x y : State) (t idx : Nat) (w : Waiting) (rest : List Waiting) (z : TxInfo) (c p : Pos) (e : Bool × Nat × Nat), x = s.at t → x.clk.sysUnlocked = none → x.chn.awaiting = w :: rest →
    y = { x with chn := { x.chn with awaiting := rest } } → w.owner = .host → w.kind = .tx z →
    gate y false = none → debugMuted y = false → parentTest y w = none → tableFull y true (wbits w.words 1 17 16) = false →
    w.ring < 32 → wbits w.words 0 9 9 = 0 → 1 ≤ freeSpace y (16 + wbits w.words 0 12 11) w.ring →
    freeIndex y 0 4096 = some idx → ((reqOf w).pmode = 3 → (reqOf w).deadline ≠ 0) → unreachable y (reqOf w).deadline = false →
    (searchItem y (reqOf w)).pair = some (c, p) →
    dutyTest y (placeAttempt y z c).charge (placeAttempt y z p).charge = none →
    e = chargesOf y 0 (.tx { z with first := placeAttempt y z c, second := placeAttempt y z p }) →
    bellows y (wbits w.words 1 19 18) (periodOf y (y.localOf c.start)) e.1 e.2.1 e.2.2 = none →
    ∃ r, exec (.admission t) s = .next r ∧ r.chn.awaiting = rest ∧ r.hre.outq = x.hre.outq ∧ ∃ i z1, r.items = x.items ++ [i] ∧
      i.idx = idx ∧ i.committed = c.start ∧ i.repairAt = some p.start ∧ i.entries = 1 ∧ i.started = false ∧ i.decided = false ∧
      i.moved = false ∧ i.kind = .tx z1 ∧ z1.first = placeAttempt y z c ∧ z1.second = placeAttempt y z p) ∧
  (∀ (s x y : State) (t idx : Nat) (w : Waiting) (rest : List Waiting) (z : RxInfo) (c p : Pos) (e : Bool × Nat × Nat), x = s.at t → x.clk.sysUnlocked = none → x.chn.awaiting = w :: rest →
    y = { x with chn := { x.chn with awaiting := rest } } → w.owner = .host → w.kind = .rx z →
    gate y false = none → parentTest y w = none → tableFull y false (wbits w.words 1 17 16) = false →
    w.ring < 32 → wbits w.words 0 9 9 = 0 → z.maxf + 1 ≤ freeSpace y (16 + wbits w.words 0 12 11) w.ring →
    z.maxf ≤ y.hre.buffers.length - reservedBuffers y →
    freeIndex y 4096 4096 = some idx → ((reqOf w).pmode = 3 → (reqOf w).deadline ≠ 0) → unreachable y (reqOf w).deadline = false →
    (searchItem y (reqOf w)).pair = some (c, p) →
    e = chargesOf y (c.closeAt - c.start) (.rx z) →
    bellows y (wbits w.words 1 19 18) (periodOf y (y.localOf c.start)) e.1 e.2.1 e.2.2 = none →
    ∃ r, exec (.admission t) s = .next r ∧ r.chn.awaiting = rest ∧ ∃ i z1, r.items = x.items ++ [i] ∧
      i.idx = idx ∧ i.committed = c.start ∧ i.repairAt = none ∧ i.entries = z.maxf + 1 ∧ i.buffers = z.maxf ∧
      i.kind = .rx z1 ∧ z1.closeAt = c.closeAt ∧ z1.binFirst = c.bin ∧ z1.binCount = c.binCount)

/-- BANK_SWAP at a boundary within the horizon, with Chanter up and free of faults, no swap pending, an inactive bank
that passes the bank check and strands no item, room under the item's priority limit and a free index, is accepted as
a swap item committed to that boundary; SWAP_PENDING is set and the active bank stays. While a swap is pending it is
refused with 0x0808. BANK_SWAP_EFFECT on a host's swap whose boundary has come makes the other bank active and decides
DONE with reason 0 and its start time. A cell write while CHN is disabled commits the 48 bits of CHN_CELL_LO and the
word to the pool entry that CHN_CELL_IDX names, changes no other entry, and advances the index; one to an entry of the
active bank's ranges while CHN is enabled changes no cell and sets CHN_ISR bit 4. -/
def Obligations.BankSwaps : Prop :=
  (∀ (s x y : State) (t dl idx : Nat) (f : Fetched) (rest : List Fetched), x = s.at t → takeTurn (fun g => wbits g.words 0 7 0 == 3) (busyRings x) x.hre.fetched = some (f, rest) →
    y = { x with hre := { x.hre with fetched := rest } } → dl = wordAt f.words 2 + wordAt f.words 3 * 2 ^ 32 →
    chnHeld x = false → x.chn.crossing = [] → y.en Blk.CHN = true → y.on F.CHN_STATUS_FAULT = false → dl % slotU = 0 → tMin y ≤ dl → dl < horizonEnd y →
    y.on F.CHN_STATUS_SWAP_PENDING = false → bankCheck y (1 - y.get F.CHN_STATUS_ACTIVE_BANK) = none →
    strandedItem y (1 - y.get F.CHN_STATUS_ACTIVE_BANK) (asn dl) = none → tableFull y false (wbits f.words 1 17 16) = false → freeIndex y 4096 4096 = some idx →
    ∃ r, exec (.bankSwap t) s = .next r ∧ r.on F.CHN_STATUS_SWAP_PENDING = true ∧
      r.get F.CHN_STATUS_ACTIVE_BANK = x.get F.CHN_STATUS_ACTIVE_BANK ∧
      ∃ i, r.items = x.items ++ [i] ∧ i.idx = idx ∧ i.kind = .swap ∧ i.committed = dl ∧ i.owner = .host) ∧
  (∀ (s x y : State) (t dl : Nat) (f : Fetched) (rest : List Fetched), x = s.at t → takeTurn (fun g => wbits g.words 0 7 0 == 3) (busyRings x) x.hre.fetched = some (f, rest) →
    y = { x with hre := { x.hre with fetched := rest } } → dl = wordAt f.words 2 + wordAt f.words 3 * 2 ^ 32 →
    chnHeld x = false → x.chn.crossing = [] → y.en Blk.CHN = true → y.on F.CHN_STATUS_FAULT = false → dl % slotU = 0 → tMin y ≤ dl → dl < horizonEnd y →
    y.on F.CHN_STATUS_SWAP_PENDING = true →
    exec (.bankSwap t) s = .next (y.refuse f.ring f.words 0x0808)) ∧
  (∀ (s x : State) (t : Nat) (i : Item), x = s.at t → x.items.find? (fun i => i.kind == .swap && !i.decided && decide (i.committed ≤ x.net)) = some i →
    x.item i.idx = some i → i.owner = .host →
    ∃ r, exec (.bankSwapEffect t) s = .next r ∧ r.get F.CHN_STATUS_ACTIVE_BANK = 1 - x.get F.CHN_STATUS_ACTIVE_BANK ∧
      ∃ q, r.hre.outq = x.hre.outq ++ [q] ∧ q.status = 2 ∧ q.reason = 0 ∧ q.tag = i.tag ∧ q.time = i.startTime) ∧
  (∀ (s x : State) (t : Nat) (v : Word), x = s.at t → x.en Blk.CHN = false →
    ∃ r, exec (.cellWrite t v) s = .next r ∧
      r.cell (x.get F.CHN_CELL_IDX_IDX) = (x.rd Reg.CHN_CELL_LO).toNat + v.toNat % 65536 * 2 ^ 32 ∧
      (∀ k, k ≠ x.get F.CHN_CELL_IDX_IDX → r.cell k = x.cell k) ∧
      r.get F.CHN_CELL_IDX_IDX = (x.get F.CHN_CELL_IDX_IDX + 1) % 65536 ∧ r.items = x.items ∧ r.hre = x.hre) ∧
  (∀ (s x : State) (t : Nat) (v : Word), x = s.at t → x.en Blk.CHN = true →
    cellInBank x (x.get F.CHN_STATUS_ACTIVE_BANK) (x.get F.CHN_CELL_IDX_IDX) = true →
    ∃ r, exec (.cellWrite t v) s = .next r ∧ r.chn = x.chn ∧ bits (r.rd Reg.CHN_ISR).toNat 4 4 = 1)

/-- A slot boundary that is new ends the wait for one, raises event 32, and leaves the promise table and HRE. A
lockstep mismatch with nothing accepted or on air and fewer than two recent ones starts the restore, mutes the slot
(and the next where less than 41.7 ms of it is left: here, at most two slots), counts, and leaves Chanter without a
fault; one during a restore is a device reset of cause 9. RESTORE_COMPLETE ends the restore, and operation waits for
the next boundary; no register changes. A corrected schedule error counts in CE_COUNT and sets CHN_ISR bit 2; the cell
pool and the rest of Chanter's state and the promise table are unchanged. An uncorrectable one outside the cells
counts in UE_COUNT, sets CHN_ISR bit 3, and is a lockstep mismatch. -/
def Obligations.ScheduleEvents : Prop :=
  (∀ (s x : State) (t : Nat), x = s.at t → x.chn.lastSlot < asn x.net → x.rfe.bandRx = false →
    ∃ r, exec (.slotBoundary t) s = .next r ∧ r.chn.lastSlot = asn x.net ∧ r.chn.waitingBoundary = false ∧
      r.evf.raised = x.evf.raised ++ [(32, x.now)] ∧ r.items = x.items ∧ r.hre = x.hre) ∧
  (∀ (s x : State) (t : Nat), x = s.at t → x.en Blk.CHN = true → x.on F.CHN_STATUS_FAULT = false → x.chn.restoring = false →
    x.items = [] → x.rfe.onAir = none → (recentMismatches x).length < 2 → x.get F.CHN_MISMATCH_COUNT < 65535 →
    ∃ r, exec (.lockstepMismatch t) s = .next r ∧ r.chn.restoring = true ∧ r.chn.muteLo = asn x.net ∧
      asn x.net < r.chn.muteHi ∧ r.chn.muteHi ≤ asn x.net + 2 ∧
      r.get F.CHN_MISMATCH_COUNT = x.get F.CHN_MISMATCH_COUNT + 1 ∧
      r.on F.CHN_STATUS_FAULT = false ∧ r.rfe.onAir = none ∧ r.items = []) ∧
  (∀ (s x : State) (t : Nat), x = s.at t → x.en Blk.CHN = true → x.on F.CHN_STATUS_FAULT = false → x.chn.restoring = true →
    exec (.lockstepMismatch t) s = .next (x.deviceReset 9)) ∧
  (∀ (s x : State) (t : Nat), x = s.at t → x.chn.restoring = true →
    ∃ r, exec (.restoreComplete t) s = .next r ∧ r.chn.restoring = false ∧ r.chn.waitingBoundary = true ∧ r.regs = x.regs ∧
      r.items = x.items) ∧
  (∀ (s x : State) (t : Nat) (cell : Option Nat), x = s.at t → ∃ r, exec (.scheduleEccError t true cell) s = .next r ∧
      r.get F.CHN_ECC_CE_COUNT = Nat.min (x.get F.CHN_ECC_CE_COUNT + 1) 65535 ∧ bits (r.rd Reg.CHN_ISR).toNat 2 2 = 1 ∧
      r.chn = x.chn ∧ r.items = x.items) ∧
  (∀ (s x : State) (t : Nat), x = s.at t → exec (.scheduleEccError t false none) s =
      .next (((x.count F.CHN_ECC_UE_COUNT).irq Blk.CHN 8).mismatch))

/-- TIME_SET STEP, while the host is the time source and the promise table is empty, loads the time that it carries,
abandons a slew, clears SLEWING, and completes DONE with the new time in words 4 and 5; while an entry is in use it is
refused with 0x09F4. TIME_SET SLEW, while the host is the time source, makes its signed offset the slew in progress,
leaves network time and the promise table, and completes DONE with reason 0; from another time source it is refused
with 0x09F7. REGION_PRESET_LOAD of region 2, while the MAC is disabled and not in its check, sets REGION 2, account 0
to 902 MHz to 928 MHz, and enables accounts 0 and 1 and neither 2 nor 15. -/
def Obligations.TimeAndRegion : Prop :=
  (∀ (s x : State) (t v : Nat) (f : Fetched) (rest : List Fetched), x = s.at t → takeTurn (fun g => wbits g.words 0 7 0 == 6 && wbits g.words 6 0 0 == 0) (busyRings x) x.hre.fetched = some (f, rest) →
    x.get F.MAC_CFG_TIME_SRC = 0 → x.items = [] → v = leNat (f.buf.take 8) →
    ∃ r, exec (.timeSetStep t) s = .next r ∧ r.net = v ∧ r.mac.slew = 0 ∧ r.on F.MAC_SYNC_STATUS_SLEWING = false ∧
      r.hre.fetched = rest ∧ ∃ q, r.hre.outq = x.hre.outq ++ [q] ∧ q.status = 2 ∧ q.reason = 0 ∧
      q.w4.toNat + q.w5.toNat * 2 ^ 32 = v % 2 ^ 64) ∧
  (∀ (s x : State) (t : Nat) (f : Fetched) (rest : List Fetched), x = s.at t → takeTurn (fun g => wbits g.words 0 7 0 == 6 && wbits g.words 6 0 0 == 0) (busyRings x) x.hre.fetched = some (f, rest) →
    x.get F.MAC_CFG_TIME_SRC = 0 → x.items ≠ [] →
    exec (.timeSetStep t) s =
      .next (({ x with hre := { x.hre with fetched := rest } }).refuse f.ring f.words 0x09F4)) ∧
  (∀ (s x : State) (t : Nat) (f : Fetched) (rest : List Fetched), x = s.at t → takeTurn (fun g => wbits g.words 0 7 0 == 6 && wbits g.words 6 0 0 == 1) (busyRings x) x.hre.fetched = some (f, rest) →
    x.get F.MAC_CFG_TIME_SRC = 0 →
    ∃ r, exec (.timeSetSlew t) s = .next r ∧ r.net = x.net ∧ r.mac.slew = signed 64 (leNat (f.buf.take 8)) ∧
      r.hre.fetched = rest ∧ r.items = x.items ∧ ∃ q, r.hre.outq = x.hre.outq ++ [q] ∧ q.status = 2 ∧ q.reason = 0) ∧
  (∀ (s x : State) (t : Nat) (f : Fetched) (rest : List Fetched), x = s.at t → takeTurn (fun g => wbits g.words 0 7 0 == 6 && wbits g.words 6 0 0 == 1) (busyRings x) x.hre.fetched = some (f, rest) →
    x.get F.MAC_CFG_TIME_SRC ≠ 0 →
    exec (.timeSetSlew t) s =
      .next (({ x with hre := { x.hre with fetched := rest } }).refuse f.ring f.words 0x09F7)) ∧
  (∀ (s x : State) (t : Nat), x = s.at t → x.en Blk.MAC = false → x.on (F.BLK_BUSY Blk.MAC) = false →
    ∃ r, exec (.regionPresetLoad t 2) s = .next r ∧ r.get F.MAC_CFG_REGION = 2 ∧
      r.rd (Reg.MAC_DC_FLO 0) = word 902000 ∧ r.rd (Reg.MAC_DC_FHI 0) = word 928000 ∧
      r.on (F.MAC_DC_CFG_EN 0) = true ∧ r.on (F.MAC_DC_CFG_EN 1) = true ∧ r.on (F.MAC_DC_CFG_EN 2) = false ∧
      r.on (F.MAC_DC_CFG_EN 15) = false ∧ r.items = x.items)

/-- TX_FRAME, TX_BEACON, TX_ACK_BEACON and TX_LEGACY: with the radio blocks and the MAC up, and the descriptor's own
checks passed (its request, nativeRefusal), then, after the entry of its destination has been read (readDst; TX_FRAME
and TX_LEGACY say what the entry's code finds), those of the entry, of the key slot and of the frame counter, the
frame takes the next transmit frame counter and joins the items that wait for admission, with the FCTL, DST and
payload of its request; nothing is completed and the promise table is unchanged. -/
def Obligations.NativeTransmit : Prop :=
  (∀ (s x y y2 : State) (t err : Nat) (f : Fetched) (rest : List Fetched) (n : NativeReq), x = s.at t → takeTurn (fun g => wbits g.words 0 7 0 == 0x10) (busyRings x) x.hre.fetched = some (f, rest) →
    y = { x with hre := { x.hre with fetched := rest } } → frameRequest f false = .inl n → nativeUp y = none →
    nativeRefusal y f.words n = none → y2 = y.readDst n err → entryRefusal y2 n = none → keyRefusal y2 n = none →
    counterRefusal y2 n = none →
    ∃ r, exec (.txFrame t err) s = .next r ∧ r.hre.fetched = rest ∧ r.hre.outq = x.hre.outq ∧ r.items = x.items ∧
      r.get F.MAC_TXFC_NEXT = x.get F.MAC_TXFC_NEXT + 1 ∧
      ∃ w z, r.chn.awaiting = x.chn.awaiting ++ [w] ∧ w.owner = .host ∧ w.ring = f.ring ∧ w.words = f.words ∧
        w.form = some z ∧ z.fctl = n.fctl ∧ z.dst = n.dst ∧ z.body = n.body ∧ z.fcnt = x.get F.MAC_TXFC_NEXT) ∧
  (∀ (s x y : State) (t : Nat) (f : Fetched) (rest : List Fetched) (n : NativeReq), x = s.at t → takeTurn (fun g => wbits g.words 0 7 0 == 0x12) (busyRings x) x.hre.fetched = some (f, rest) →
    y = { x with hre := { x.hre with fetched := rest } } → beaconRequest f = .inl n → nativeUp y = none →
    nativeRefusal y f.words n = none → entryRefusal y n = none → keyRefusal y n = none → counterRefusal y n = none →
    ∃ r, exec (.txBeacon t) s = .next r ∧ r.hre.fetched = rest ∧ r.hre.outq = x.hre.outq ∧ r.items = x.items ∧
      r.get F.MAC_TXFC_NEXT = x.get F.MAC_TXFC_NEXT + 1 ∧
      ∃ w z, r.chn.awaiting = x.chn.awaiting ++ [w] ∧ w.owner = .host ∧ w.ring = f.ring ∧ w.words = f.words ∧
        w.form = some z ∧ z.fctl = n.fctl ∧ z.dst = n.dst ∧ z.body = n.body ∧ z.fcnt = x.get F.MAC_TXFC_NEXT) ∧
  (∀ (s x y : State) (t : Nat) (f : Fetched) (rest : List Fetched) (n : NativeReq), x = s.at t → takeTurn (fun g => wbits g.words 0 7 0 == 0x13) (busyRings x) x.hre.fetched = some (f, rest) →
    y = { x with hre := { x.hre with fetched := rest } } → ackBeaconRequest f = .inl n → nativeUp y = none →
    nativeRefusal y f.words n = none → entryRefusal y n = none → keyRefusal y n = none → counterRefusal y n = none →
    ∃ r, exec (.txAckBeacon t) s = .next r ∧ r.hre.fetched = rest ∧ r.hre.outq = x.hre.outq ∧ r.items = x.items ∧
      r.get F.MAC_TXFC_NEXT = x.get F.MAC_TXFC_NEXT + 1 ∧
      ∃ w z, r.chn.awaiting = x.chn.awaiting ++ [w] ∧ w.owner = .host ∧ w.ring = f.ring ∧ w.words = f.words ∧
        w.form = some z ∧ z.fctl = n.fctl ∧ z.dst = n.dst ∧ z.body = n.body ∧ z.fcnt = x.get F.MAC_TXFC_NEXT) ∧
  (∀ (s x y y2 : State) (t err : Nat) (f : Fetched) (rest : List Fetched) (n : NativeReq), x = s.at t → takeTurn (fun g => wbits g.words 0 7 0 == 0x14) (busyRings x) x.hre.fetched = some (f, rest) →
    y = { x with hre := { x.hre with fetched := rest } } → frameRequest f true = .inl n → nativeUp y = none →
    nativeRefusal y f.words n = none → y2 = y.readDst n err → entryRefusal y2 n = none → keyRefusal y2 n = none →
    counterRefusal y2 n = none →
    ∃ r, exec (.txLegacy t err) s = .next r ∧ r.hre.fetched = rest ∧ r.hre.outq = x.hre.outq ∧ r.items = x.items ∧
      r.get F.MAC_TXFC_NEXT = x.get F.MAC_TXFC_NEXT + 1 ∧
      ∃ w z, r.chn.awaiting = x.chn.awaiting ++ [w] ∧ w.owner = .host ∧ w.ring = f.ring ∧ w.words = f.words ∧
        w.form = some z ∧ z.fctl = n.fctl ∧ z.dst = n.dst ∧ z.body = n.body ∧ z.fcnt = x.get F.MAC_TXFC_NEXT)

/-- TX_FRAME is refused with the code of the first block that is not up (nativeUp). TX_154 that passes its checks
joins the items that wait for admission with its PSDU and power; RX_WINDOW that passes its checks with its MAXF,
EXP_LANES and BIN_COUNT; neither completes anything or changes a register or the promise table. With AUTO set, the MAC
enabled and the tracking state not UNACQUIRED, DRONE_BEACON_SUBMIT of a period not yet submitted, where nothing
refuses the frame, takes a transmit frame counter and the beacon waits for admission; for a period already submitted
it changes nothing. -/
def Obligations.RadioDescriptors : Prop :=
  (∀ (s x y : State) (t c err : Nat) (f : Fetched) (rest : List Fetched), x = s.at t → takeTurn (fun g => wbits g.words 0 7 0 == 0x10) (busyRings x) x.hre.fetched = some (f, rest) →
    y = { x with hre := { x.hre with fetched := rest } } → nativeUp y = some c →
    exec (.txFrame t err) s = .next (y.refuse f.ring f.words c)) ∧
  (∀ (s x y : State) (t : Nat) (f : Fetched) (rest : List Fetched), x = s.at t → takeTurn (fun g => wbits g.words 0 7 0 == 0x11) (busyRings x) x.hre.fetched = some (f, rest) →
    y = { x with hre := { x.hre with fetched := rest } } → radioRefusal y true = none → refusal154 y f.words = none →
    ∃ r, exec (.tx154 t) s = .next r ∧ r.hre.fetched = rest ∧ r.hre.outq = x.hre.outq ∧ r.regs = x.regs ∧ r.items = x.items ∧
      ∃ w z, r.chn.awaiting = x.chn.awaiting ++ [w] ∧ w.owner = .host ∧ w.words = f.words ∧ w.form = none ∧ w.kind = .tx z ∧
        z.frame = f.buf ∧ z.wide = true ∧ z.power = wbits f.words 6 15 8) ∧
  (∀ (s x y : State) (t : Nat) (f : Fetched) (rest : List Fetched), x = s.at t → takeTurn (fun g => wbits g.words 0 7 0 == 0x20) (busyRings x) x.hre.fetched = some (f, rest) →
    y = { x with hre := { x.hre with fetched := rest } } → radioRefusal y false = none → rxRefusal y f.words = none →
    ∃ r, exec (.rxWindow t) s = .next r ∧ r.hre.fetched = rest ∧ r.hre.outq = x.hre.outq ∧ r.regs = x.regs ∧ r.items = x.items ∧
      ∃ w z, r.chn.awaiting = x.chn.awaiting ++ [w] ∧ w.owner = .host ∧ w.words = f.words ∧ w.kind = .rx z ∧
        z.maxf = wbits f.words 6 7 0 + 1 ∧ z.expLanes = wbits f.words 6 15 9 ∧ z.binCount = wbits f.words 6 31 24) ∧
  (∀ (s x : State) (t p : Nat), x = s.at t → x.en Blk.MAC = true → x.on F.MAC_DRONE_AUTO = true → x.get F.MAC_SYNC_STATUS_STATE ≠ 1 →
    p = asn x.net / 2 ^ x.get F.MAC_DRONE_PERIOD_LOG2 + 1 → x.mac.beaconFor < p → nativeUp x = none →
    keyRefusal x (droneRequest x) = none → counterRefusal x (droneRequest x) = none →
    ∃ r, exec (.droneBeaconSubmit t) s = .next r ∧ r.mac.beaconFor = p ∧ r.get F.MAC_TXFC_NEXT = x.get F.MAC_TXFC_NEXT + 1 ∧
      r.items = x.items ∧ ∃ w, r.chn.awaiting = x.chn.awaiting ++ [w] ∧ w.owner = .droneBeacon) ∧
  (∀ (s x : State) (t : Nat), x = s.at t → x.en Blk.MAC = true → asn x.net / 2 ^ x.get F.MAC_DRONE_PERIOD_LOG2 + 1 ≤ x.mac.beaconFor →
    exec (.droneBeaconSubmit t) s = .next x)

/-- LBT_LISTEN that finds a busy carrier moves an attempt with its repair left to its repair, and completes nothing;
one that finds it clear marks the attempt listened. TX_START on a due transmission that no broken condition, debug
mute, quenched or muted slot, unusable cell, unlocked synthesiser or missing listening stands against starts it: it is
on air with its first chip at the attempt's time, at no more than its POWER and than pmax of the supply voltage
sampled before its ramp-up. Under quench (with neither economy nor a lost reference) it is voided with 4, 0x0407.
TX_END, at the end of its ramp-down, takes it off the air and decides its final: DONE, with the reason noted so far
and the time it started at; for a transmission cut short, the cut's status and reason, and the time at which the cause
was detected. -/
def Obligations.TransmitRuns : Prop :=
  (∀ (s x : State) (t idx : Nat) (dbm : Int) (i : Item) (y : TxInfo), x = s.at t → x.item idx = some i → i.kind = .tx y → i.decided = false →
    i.started = false → (i.attempt y).listenUs ≠ 0 →
    (i.attempt y).time ≤ x.net + (usU (i.attempt y).listenUs + y.femU + y.rampU) →
    -(x.get (F.MAC_DC_LBT_THRESH (i.attempt y).charge.acct) : Int) < dbm → i.moved = false → i.repairAt.isSome = true →
    ∃ r, exec (.lbtListen t idx dbm) s = .next r ∧ r.hre.outq = x.hre.outq ∧
      ∃ j, r.item idx = some j ∧ j.moved = true ∧ j.decided = false ∧ j.e1 = 0 ∧ j.e2 = i.e2 ∧ j.repairAt = i.repairAt) ∧
  (∀ (s x : State) (t idx : Nat) (dbm : Int) (i : Item) (y : TxInfo), x = s.at t → x.item idx = some i → i.kind = .tx y → i.decided = false →
    i.started = false → (i.attempt y).listenUs ≠ 0 →
    (i.attempt y).time ≤ x.net + (usU (i.attempt y).listenUs + y.femU + y.rampU) →
    dbm ≤ -(x.get (F.MAC_DC_LBT_THRESH (i.attempt y).charge.acct) : Int) →
    ∃ r, exec (.lbtListen t idx dbm) s = .next r ∧ r.regs = x.regs ∧ r.hre = x.hre ∧
      ∃ j, r.item idx = some j ∧ j.kind = .tx { y with listened := true } ∧ j.moved = i.moved) ∧
  (∀ (s x : State) (t idx : Nat) (i : Item) (y : TxInfo), x = s.at t → x.item idx = some i → i.kind = .tx y → isDue x i = true →
    dueVoid x = none → debugMuted x = false → slotQuenched x (i.attempt y).slotLo (i.attempt y).slotHi = false →
    slotMuted x (asn (i.attempt y).time) = false → badAttempt x (i.attempt y) = false → txLocked x y = true → x.on F.CLK_STATUS_DSP_LOCK = true →
    ((i.attempt y).listenUs = 0 ∨ y.listened = true) →
    ∃ r, exec (.txStart t idx) s = .next r ∧ r.hre = x.hre ∧
      (∃ j, r.item idx = some j ∧ j.started = true ∧ j.decided = false ∧ j.startTime = x.net) ∧
      ∃ e, r.rfe.onAir = some e ∧ e.item = idx ∧ e.firstChip = (i.attempt y).time ∧
        e.level ≤ pmaxCode (x.vsupAt (x.now - y.rampU - y.femU)).1 ∧ e.level ≤ y.power) ∧
  (∀ (s x : State) (t idx : Nat) (i : Item) (y : TxInfo), x = s.at t → x.item idx = some i → i.kind = .tx y → isDue x i = true →
    x.on F.BLW_STATUS_ECONOMY = false → refValid x = true → quenchOn x = true →
    exec (.txStart t idx) s = .next (x.finish idx 4 0x0407)) ∧
  (∀ (s x : State) (t idx gamma phase fwd : Nat) (i : Item) (y : TxInfo), x = s.at t → x.item idx = some i → i.kind = .tx y →
    i.decided = false → i.started = true → txEndAt y ≤ x.now → y.cutAt = none → i.owner = .host →
    ∃ r, exec (.txEnd t idx gamma phase fwd) s = .next r ∧ r.rfe.onAir = none ∧
      (∃ j, r.item idx = some j ∧ j.decided = true) ∧
      ∃ q, r.hre.outq = x.hre.outq ++ [q] ∧ q.status = 2 ∧ q.reason = y.doneReason ∧ q.tag = i.tag ∧ q.time = i.startTime ∧
        q.item = some idx) ∧
  (∀ (s x : State) (t idx gamma phase fwd c : Nat) (i : Item) (y : TxInfo), x = s.at t → x.item idx = some i → i.kind = .tx y →
    i.decided = false → i.started = true → txEndAt y ≤ x.now → y.cutAt = some c → i.owner = .host →
    ∃ r, exec (.txEnd t idx gamma phase fwd) s = .next r ∧ r.rfe.onAir = none ∧
      (∃ j, r.item idx = some j ∧ j.decided = true) ∧
      ∃ q, r.hre.outq = x.hre.outq ++ [q] ∧ q.status = y.cutStatus ∧ q.reason = y.cutReason ∧ q.tag = i.tag ∧ q.time = y.cutSince ∧
        q.item = some idx)

/-- A due window that no Chanter fault, broken condition or quenched or muted slot stands against opens: it is started
at the present network time, and event 35 is raised; a due host window in economy is voided: its completion is
PROMISE_VOID (4) with 0x0102. A host window whose close time has come closes: the time is noted, event 36 is raised,
and it stays undecided. A closed host window of which no frame is still to come gets its final: DONE with the reason
of R205 (windowReason) and in word 4 the frames delivered and sent to the firmware, each at most 65,535; its unused
buffers are released. While a frame of it is still to come, RX_WINDOW_FINAL changes nothing. -/
def Obligations.WindowsRun : Prop :=
  (∀ (s x : State) (t idx : Nat) (i : Item) (y : RxInfo), x = s.at t → x.item idx = some i → i.kind = .rx y → isDue x i = true →
    x.on F.CHN_STATUS_FAULT = false → dueVoid x = none →
    slotQuenched x (asn (x.net + usU 1)) (asn (x.net + usU 1) + 1) = false →
    slotMuted x (asn (x.net + usU 1)) = false →
    ∃ r, exec (.rxWindowOpen t idx) s = .next r ∧ r.hre = x.hre ∧ (35, x.now) ∈ r.evf.raised ∧
      ∃ j, r.item idx = some j ∧ j.started = true ∧ j.decided = false ∧ j.startTime = x.net) ∧
  (∀ (s x : State) (t idx : Nat) (i : Item) (y : RxInfo), x = s.at t → x.item idx = some i → i.kind = .rx y → isDue x i = true →
    x.on F.CHN_STATUS_FAULT = false → x.on F.BLW_STATUS_ECONOMY = true → i.owner = .host →
    ∃ r, exec (.rxWindowOpen t idx) s = .next r ∧ r.blw.voided = x.blw.voided + 1 ∧
      ∃ q, r.hre.outq = x.hre.outq ++ [q] ∧ q.status = 4 ∧ q.reason = 0x0102 ∧ q.tag = i.tag) ∧
  (∀ (s x : State) (t idx : Nat) (i : Item) (y : RxInfo), x = s.at t → x.item idx = some i → i.kind = .rx y → i.decided = false →
    y.closed = false → y.closeAt ≤ x.net → i.owner = .host →
    ∃ r, exec (.rxWindowClose t idx) s = .next r ∧ r.hre = x.hre ∧ (36, x.now) ∈ r.evf.raised ∧
      ∃ j z, r.item idx = some j ∧ j.kind = .rx z ∧ z.closed = true ∧ z.closedAt = x.now ∧ j.decided = false) ∧
  (∀ (s x : State) (t idx : Nat) (i : Item) (y : RxInfo), x = s.at t → x.item idx = some i → i.kind = .rx y → y.closed = true →
    i.decided = false → frameStillComing x idx = false → i.owner = .host →
    ∃ r, exec (.rxWindowFinal t idx) s = .next r ∧ (∃ j, r.item idx = some j ∧ j.decided = true ∧ j.buffers = 0) ∧
      ∃ q, r.hre.outq = x.hre.outq ++ [q] ∧ q.status = 2 ∧ q.reason = windowReason y ∧ q.tag = i.tag ∧
        q.w4 = word (Nat.min y.delivered 0xFFFF + Nat.min y.firmware 0xFFFF * 65536)) ∧
  (∀ (s x : State) (t idx : Nat) (i : Item) (y : RxInfo), x = s.at t → x.item idx = some i → i.kind = .rx y →
    frameStillComing x idx = true → exec (.rxWindowFinal t idx) s = .next x)

/-- RECOVERY_TIMEOUT after 4 beacon periods in RECOVERY (5): without another candidate the state is ORPHAN (7) and
MAC_ISR bit 3 is set; with one it is ACQUIRE (6), with that candidate and the lost parent skipped. ACQUIRE_SCAN_EXPIRY
after 2 periods of a candidate's scan: the next candidate is scanned, or without one the state is ORPHAN.
ORPHAN_RETRY_EXPIRY after 4 × RETRY periods with a candidate leads back to ACQUIRE with it, none skipped.
TXFC_REFILL_DONE while a refill runs reserves 65,536 transmit frame counters more, at most 2^32, and advances
monotonic counter 0 by one; NONCE_REFILL_DONE reserves 65,536 nonces more and advances monotonic counter 1 to the
number of blocks reserved; neither changes the promise table. -/
def Obligations.TrackingTimers : Prop :=
  (∀ (s x : State) (t j : Nat), x = s.at t → x.get F.MAC_SYNC_STATUS_STATE = 5 → x.mac.stateSince + 4 * beaconPeriodU x ≤ x.now →
    j = x.get F.MAC_SYNC_STATUS_PARENT → candidateFrom x (some j) 0 16 = none →
    ∃ r, exec (.recoveryTimeout t) s = .next r ∧ r.get F.MAC_SYNC_STATUS_STATE = 7 ∧ r.mac.stateSince = x.now ∧
      bits (r.rd Reg.MAC_ISR).toNat 3 3 = 1) ∧
  (∀ (s x : State) (t j k : Nat), x = s.at t → x.get F.MAC_SYNC_STATUS_STATE = 5 → x.mac.stateSince + 4 * beaconPeriodU x ≤ x.now →
    j = x.get F.MAC_SYNC_STATUS_PARENT → candidateFrom x (some j) 0 16 = some k →
    ∃ r, exec (.recoveryTimeout t) s = .next r ∧ r.get F.MAC_SYNC_STATUS_STATE = 6 ∧ r.mac.candidate = k ∧ r.mac.skip = some j) ∧
  (∀ (s x : State) (t k : Nat), x = s.at t → x.get F.MAC_SYNC_STATUS_STATE = 6 → x.mac.stateSince + 2 * beaconPeriodU x ≤ x.now →
    candidateFrom x x.mac.skip (x.mac.candidate + 1) (16 - (x.mac.candidate + 1)) = some k →
    ∃ r, exec (.acquireScanExpiry t) s = .next r ∧ r.get F.MAC_SYNC_STATUS_STATE = 6 ∧ r.mac.candidate = k ∧
      r.mac.stateSince = x.now) ∧
  (∀ (s x : State) (t : Nat), x = s.at t → x.get F.MAC_SYNC_STATUS_STATE = 6 → x.mac.stateSince + 2 * beaconPeriodU x ≤ x.now →
    candidateFrom x x.mac.skip (x.mac.candidate + 1) (16 - (x.mac.candidate + 1)) = none →
    ∃ r, exec (.acquireScanExpiry t) s = .next r ∧ r.get F.MAC_SYNC_STATUS_STATE = 7) ∧
  (∀ (s x : State) (t k : Nat), x = s.at t → x.get F.MAC_SYNC_STATUS_STATE = 7 →
    x.mac.stateSince + 4 * x.get F.MAC_SYNC_RETRY * beaconPeriodU x ≤ x.now → candidateFrom x none 0 16 = some k →
    ∃ r, exec (.orphanRetryExpiry t) s = .next r ∧ r.get F.MAC_SYNC_STATUS_STATE = 6 ∧ r.mac.candidate = k ∧ r.mac.skip = none) ∧
  (∀ (s x : State) (t : Nat), x = s.at t → x.mac.txfcRefill = true →
    exec (.txfcRefillDone t) s = .next ({ x with
      mac := { x.mac with txfcLimit := Nat.min (x.mac.txfcLimit + 65536) (2 ^ 32), txfcRefill := false } }.setCounter 0
        (counterValue x 0 + 1))) ∧
  (∀ (s x : State) (t : Nat), x = s.at t → x.cry.nonceRefill = true →
    ∃ r, exec (.nonceRefillDone t) s = .next r ∧ r.cry.nonceFlash = x.cry.nonceFlash + 1 ∧
      r.cry.nonceLimit = x.cry.nonceLimit + 65536 ∧ r.cry.nonceRefill = false ∧
      r.flc = (x.setCounter 1 (x.cry.nonceFlash + 1)).flc ∧ r.items = x.items)

/-- ENERGY_WINDOW_END with one bin's window, free of zero samples: the first window of a usable bin sets its floor;
one that crosses the threshold flags the bin for ED_HOLD + 1 windows and leaves the floor; one above the floor raises
the floor to it. PREAMBLE_QUALIFIED with one detection that passes the scanner's tests, in a bin with a seat, of a
triple that no lane searches and of no locked frame, owned by an open window, with fewer than 8 lanes on its bin and
spreading factor and fewer than 16 on its bin, goes to the free lane that freeLane names: the lane searches, shows the
detection's triple and start, and PHY_CNT[0] counts. A stronger preamble on a searching lane's triple replaces its
metric and start (CAPTURE_RELOCK). SYNC_ACCEPTED within the sync span with at most SYNC_ERR errors makes the lane live
and synced. SYNC_LOST after the span ends the lane's frame and counts PHY_CNT[1]; HEADER_DECODED with a header that
fails a check ends it and counts the check's counter; the lane is then among those to be released in the next DSP
cycle; a header without fault is kept. -/
def Obligations.DetectionAndLanes : Prop :=
  (∀ (s x : State) (t : Nat) (w : BinWindow), x = s.at t → x.en Blk.PHY = true → binUsable w.bin = true → inNarrowband x w.bin 1 = true →
    zeroIn x (x.now - energyWindowU x) x.now = false → x.binState w.bin = none →
    ∃ r, exec (.energyWindowEnd t [w]) s = .next r ∧ r.hre = x.hre ∧
      ∃ y, r.binState w.bin = some y ∧ y.floor = w.level ∧ y.hold = 0) ∧
  (∀ (s x : State) (t : Nat) (w : BinWindow) (y : BinState), x = s.at t → x.en Blk.PHY = true → binUsable w.bin = true → inNarrowband x w.bin 1 = true →
    zeroIn x (x.now - energyWindowU x) x.now = false → x.binState w.bin = some y → w.level + x.get F.PHY_DET_ED_THRESH ≤ y.floor →
    ∃ r, exec (.energyWindowEnd t [w]) s = .next r ∧
      ∃ z, r.binState w.bin = some z ∧ z.floor = y.floor ∧ z.hold = x.get F.PHY_DET_ED_HOLD + 1) ∧
  (∀ (s x : State) (t : Nat) (w : BinWindow) (y : BinState), x = s.at t → x.en Blk.PHY = true → binUsable w.bin = true → inNarrowband x w.bin 1 = true →
    zeroIn x (x.now - energyWindowU x) x.now = false → x.binState w.bin = some y → y.floor < w.level →
    ∃ r, exec (.energyWindowEnd t [w]) s = .next r ∧
      ∃ z, r.binState w.bin = some z ∧ z.floor = w.level ∧ z.hold = y.hold - 1) ∧
  (∀ (s x : State) (t n w : Nat) (d : Detection), x = s.at t → x.en Blk.PHY = true → x.en Blk.MUR = true →
    scannerPasses x d = true → (seatOf x d.bin).isSome = true → searchingTriple x d = false →
    lanesWhere (fun k => laneState x k == 3 && sameFrame (laneDet x k) d) 0 64 = [] → ownerOf x d.bin d.start = some w →
    (lanesWhere (fun k => laneHolds x k && (laneDet x k).bin == d.bin && (laneDet x k).sf == d.sf) 0 64).length < 8 →
    (lanesWhere (fun k => laneHolds x k && (laneDet x k).bin == d.bin) 0 64).length < 16 → freeLane x = some n →
    x.mur.lanes.length = 64 →
    ∃ r, exec (.preambleQualified t [d]) s = .next r ∧ laneState r n = 2 ∧ (r.laneX n).window = some w ∧
      (r.laneX n).synced = false ∧ r.rd64 (Reg.MUR_LANE_START n) = d.start % 2 ^ 64 ∧
      r.rd (Reg.MUR_LANE_TRIPLE n) = word (unsigned 8 d.bin + d.sf % 16 * 256 + d.code % 8 * 4096) ∧
      r.get (F.PHY_CNT_COUNT 0) = Nat.min (x.get (F.PHY_CNT_COUNT 0) + 1) 0xFFFFFFFF ∧
      r.items = x.items) ∧
  (∀ (s x : State) (t n q start : Nat), x = s.at t → n < 64 → laneState x n = 2 → laneEnded x n = false → x.get F.PHY_QUAL_CAPTURE ≠ 0 →
    x.get (F.MUR_LANE_METRIC_Q n) + 2 * x.get F.PHY_QUAL_CAPTURE ≤ q → q < 256 →
    ∃ r, exec (.captureRelock t n q start) s = .next r ∧ r.get (F.MUR_LANE_METRIC_Q n) = q ∧
      r.rd64 (Reg.MUR_LANE_START n) = start % 2 ^ 64 ∧ laneState r n = 2 ∧ r.items = x.items) ∧
  (∀ (s x : State) (t n errors : Nat), x = s.at t → n < 64 → x.mur.lanes.length = 64 → laneState x n = 2 → laneEnded x n = false →
    errors ≤ x.get F.PHY_QUAL_SYNC_ERR → x.now ≤ syncEnd x n →
    ∃ r, exec (.syncAccepted t n errors) s = .next r ∧ laneState r n = 3 ∧ (r.laneX n).synced = true ∧ r.items = x.items) ∧
  (∀ (s x : State) (t n : Nat), x = s.at t → n < 64 → x.mur.lanes.length = 64 → laneState x n = 2 → laneEnded x n = false → syncEnd x n ≤ x.now →
    ∃ r, exec (.syncLost t n) s = .next r ∧ r.mur.freed = x.mur.freed ++ [n] ∧ (r.laneX n).window = none ∧
      r.get (F.PHY_CNT_COUNT 1) = Nat.min (x.get (F.PHY_CNT_COUNT 1) + 1) 0xFFFFFFFF) ∧
  (∀ (s x : State) (t n k : Nat) (h : Word), x = s.at t → n < 64 → x.mur.lanes.length = 64 → laneState x n = 3 → (x.laneX n).synced = true → (x.laneX n).header = none →
    headerFault x n h.toNat = some k → laneEnded x n = false →
    ∃ r, exec (.headerDecoded t n h) s = .next r ∧ r.mur.freed = x.mur.freed ++ [n] ∧ (r.laneX n).window = none ∧
      r.get (F.PHY_CNT_COUNT k) = Nat.min (x.get (F.PHY_CNT_COUNT k) + 1) 0xFFFFFFFF) ∧
  (∀ (s x : State) (t n : Nat) (h : Word), x = s.at t → n < 64 → x.mur.lanes.length = 64 → laneState x n = 3 → (x.laneX n).synced = true →
    (x.laneX n).header = none → headerFault x n h.toNat = none → laneEnded x n = false →
    ∃ r, exec (.headerDecoded t n h) s = .next r ∧ (r.laneX n).header = some h ∧ r.regs = x.regs ∧ r.items = x.items)

/-- FRAME_END on a lane that holds a frame with its header: one whose payload fails its check counts the check's
counter, changes nothing of HRE, and the lane is to be released. One of an undecided window that is not full and in
which no MAC frame stands is dropped and counts MAC_RXCNT[6]. One that the header check accepts under KEYSEL 0b11, of
a type steered to ring 9, to an undecided host window that is not full, takes the next posted buffer, and its record
is decided with the buffer's tag, ring 9, DONE with reason 0 and the window's tag and ring in word 4. A wide lane in
mode 1 that listens takes a synchronisation header of its bin for the window that owns it (SHR_DETECTED).
IEEE154_FRAME_END with the right FCS, for an undecided host window that is not full, takes the next buffer and its
record is decided DONE; with a wrong FCS and a window that does not ask for such frames it counts PHY_CNT[7] and
changes nothing of HRE. -/
def Obligations.ReceivedFrames : Prop :=
  (∀ (s x : State) (t n k crc : Nat) (payload : List Byte) (err : Nat) (fail : Bool) (link : LinkData) (h : Word), x = s.at t → n < 64 →
    laneState x n = 3 → (x.laneX n).header = some h →
    payloadFault h.toNat (fit (bits h.toNat 14 7) payload) crc = some k → laneEnded x n = false →
    ∃ r, exec (.frameEnd t n payload crc err link fail) s = .next r ∧ n ∈ r.mur.freed ∧ r.hre = x.hre ∧
      r.get (F.PHY_CNT_COUNT k) = Nat.min (x.get (F.PHY_CNT_COUNT k) + 1) 0xFFFFFFFF) ∧
  (∀ (s x : State) (t n crc idx : Nat) (payload : List Byte) (err : Nat) (fail : Bool) (link : LinkData) (h : Word) (w : Item), x = s.at t → n < 64 →
    laneState x n = 3 → (x.laneX n).header = some h → (x.laneX n).residue = false →
    payloadFault h.toNat (fit (bits h.toNat 14 7) payload) crc = none → laneEnded x n = false →
    x.on F.MUR_CFG_SIC_EN = false → x.en Blk.MAC = true → (x.laneX n).window = some idx → x.item idx = some w →
    w.decided = false → windowFull w = false → parseMac (fit (bits h.toNat 14 7) payload) = none →
    ∃ r, exec (.frameEnd t n payload crc err link fail) s = .next r ∧ n ∈ r.mur.freed ∧ r.hre = x.hre ∧
      r.get (F.MAC_RXCNT_COUNT 6) = Nat.min (x.get (F.MAC_RXCNT_COUNT 6) + 1) 0xFFFFFFFF) ∧
  (∀ (s x : State) (t n crc idx : Nat) (payload : List Byte) (err : Nat) (link : LinkData) (h : Word) (w : Item) (y : RxInfo)
    (f : MacFrame) (b : RxBuf) (rest : List RxBuf), x = s.at t → n < 64 →
    laneState x n = 3 → (x.laneX n).header = some h → (x.laneX n).residue = false →
    payloadFault h.toNat (fit (bits h.toNat 14 7) payload) crc = none → laneEnded x n = false →
    x.on F.MUR_CFG_SIC_EN = false → x.en Blk.MAC = true → x.en Blk.HRE = true → (x.laneX n).window = some idx →
    x.item idx = some w → w.decided = false → w.owner = .host → w.kind = .rx y → y.records < y.maxf →
    parseMac (fit (bits h.toNat 14 7) payload) = some f → headerAccepted x f = true → fctlKeysel f.fctl = 3 →
    toRing9 (fctlType f.fctl) = true → x.hre.buffers = b :: rest →
    ∃ r, exec (.frameEnd t n payload crc err link false) s = .next r ∧ r.hre.buffers = rest ∧
      ∃ q, r.hre.outq = x.hre.outq ++ [q] ∧ q.status = 2 ∧ q.reason = 0 ∧ q.tag = b.tag ∧ q.ring = 9 ∧ q.item = some idx ∧
        q.w4 = word (w.tag + w.ring * 65536)) ∧
  (∀ (s x : State) (t n start cfo q w : Nat) (b : Int), x = s.at t → 60 ≤ n → n < 64 → x.mur.lanes.length = 64 → wideBin x (n - 60) = some b →
    laneState x n = 5 → ownerOf x b start = some w →
    ∃ r, exec (.shrDetected t n start cfo q) s = .next r ∧ laneState r n = 6 ∧ (r.laneX n).window = some w ∧
      r.rd64 (Reg.MUR_LANE_START n) = start % 2 ^ 64 ∧ r.items = x.items ∧ r.hre = x.hre) ∧
  (∀ (s x : State) (t n idx : Nat) (psdu : List Byte) (link : LinkData) (w : Item) (y : RxInfo) (b : RxBuf) (rest : List RxBuf), x = s.at t → 60 ≤ n → n < 64 → laneState x n = 6 → laneEnded x n = false → (x.laneX n).window = some idx → x.item idx = some w → w.kind = .rx y →
    w.decided = false → w.owner = .host → y.records < y.maxf → x.en Blk.HRE = true → x.hre.buffers = b :: rest →
    ∃ r, exec (.ieee154FrameEnd t n psdu (crc16 psdu) link false) s = .next r ∧ r.hre.buffers = rest ∧
      ∃ q, r.hre.outq = x.hre.outq ++ [q] ∧ q.status = 2 ∧ q.reason = 0 ∧ q.tag = b.tag ∧ q.item = some idx) ∧
  (∀ (s x : State) (t n idx fcs : Nat) (psdu : List Byte) (link : LinkData) (fail : Bool) (w : Item) (y : RxInfo), x = s.at t → 60 ≤ n → n < 64 → laneState x n = 6 → laneEnded x n = false → (x.laneX n).window = some idx → x.item idx = some w → w.kind = .rx y →
    y.fcsFail = false → fcs ≠ crc16 psdu →
    ∃ r, exec (.ieee154FrameEnd t n psdu fcs link fail) s = .next r ∧ r.hre = x.hre ∧
      r.get (F.PHY_CNT_COUNT 7) = Nat.min (x.get (F.PHY_CNT_COUNT 7) + 1) 0xFFFFFFFF)

/-- SIC_JOB_START of an idle engine that is not frozen takes the job at the head of the queue, when that is not too
old, and counts MUR_CNT[5]; a job that is too old is dropped. SIC_SUBTRACTION_DONE starts the residue scan; with
nothing found no register changes; a detection found by the scan (scanFinds) that no window owns counts MUR_CNT[6] and
is not assigned. RESIDUE_SCAN_DONE leaves the engine idle. RESIDUE_AGE_EXPIRY drops the one waiting residue detection
when it is too old, and MUR_CNT[8] counts. CB_DATA_READ advances SAMPLE; outside a debug session MUR_CB_DATA shows 0,
and in one the sample of the buffer entry that ENTRY and SAMPLE name. -/
def Obligations.Cancellation : Prop :=
  (∀ (s x : State) (t : Nat) (j : SicJob) (rest : List SicJob), x = s.at t → x.mur.running = none → frozen x = false →
    x.mur.jobs = j :: rest → tooOld x j.det = false →
    ∃ r, exec (.sicJobStart t) s = .next r ∧ r.mur.running = some j ∧ r.mur.jobs = rest ∧ r.mur.scanning = false ∧
      r.get (F.MUR_CNT_COUNT 5) = Nat.min (x.get (F.MUR_CNT_COUNT 5) + 1) 0xFFFFFFFF ∧
      r.items = x.items) ∧
  (∀ (s x : State) (t : Nat) (j : SicJob), x = s.at t → x.mur.running = none → frozen x = false → x.mur.jobs = [j] → tooOld x j.det = true →
    ∃ r, exec (.sicJobStart t) s = .next r ∧ r.mur.running = none ∧ r.mur.jobs = [] ∧
      r.get (F.MUR_CNT_COUNT 8) = Nat.min (x.get (F.MUR_CNT_COUNT 8) + 1) 0xFFFFFFFF) ∧
  (∀ (s x : State) (t : Nat) (residue : List Word) (j : SicJob), x = s.at t → x.mur.running = some j → x.mur.scanning = false →
    ∃ r, exec (.sicSubtractionDone t residue []) s = .next r ∧ r.mur.scanning = true ∧ r.mur.running = some j ∧ r.regs = x.regs) ∧
  (∀ (s x : State) (t : Nat) (residue : List Word) (j : SicJob) (d : Detection), x = s.at t → x.mur.running = some j → x.mur.scanning = false →
    scanFinds x j d = true → ownerOf x d.bin d.start = none →
    ∃ r, exec (.sicSubtractionDone t residue [d]) s = .next r ∧ r.mur.scanning = true ∧ r.items = x.items ∧
      r.get (F.MUR_CNT_COUNT 6) = Nat.min (x.get (F.MUR_CNT_COUNT 6) + 1) 0xFFFFFFFF) ∧
  (∀ (s x : State) (t : Nat), x = s.at t → x.mur.scanning = true →
    ∃ r, exec (.residueScanDone t) s = .next r ∧ r.mur.running = none ∧ r.mur.scanning = false ∧ r.regs = x.regs ∧
      r.items = x.items) ∧
  (∀ (s x : State) (t : Nat) (y : Residue), x = s.at t → x.mur.residues = [y] → tooOld x y.det = true →
    ∃ r, exec (.residueAgeExpiry t) s = .next r ∧ r.mur.residues = [] ∧
      r.get (F.MUR_CNT_COUNT 8) = Nat.min (x.get (F.MUR_CNT_COUNT 8) + 1) 0xFFFFFFFF) ∧
  (∀ (s x : State) (t : Nat), x = s.at t → x.cpx.session = false →
    ∃ r, exec (.cbDataRead t) s = .next r ∧ r.rd Reg.MUR_CB_DATA = 0 ∧
      r.get F.MUR_CB_IDX_SAMPLE = (x.get F.MUR_CB_IDX_SAMPLE + 1) % 2 ^ F.MUR_CB_IDX_SAMPLE.width ∧ r.items = x.items) ∧
  (∀ (s x : State) (t : Nat) (e : CbEntry), x = s.at t → x.cpx.session = true → x.mur.buffer[x.get F.MUR_CB_IDX_ENTRY]? = some e →
    ∃ r, exec (.cbDataRead t) s = .next r ∧ r.rd Reg.MUR_CB_DATA = cbSample e (x.get F.MUR_CB_IDX_SAMPLE) ∧
      r.get F.MUR_CB_IDX_SAMPLE = (x.get F.MUR_CB_IDX_SAMPLE + 1) % 2 ^ F.MUR_CB_IDX_SAMPLE.width)

/-- AGC_GAIN_STEP down on chain 0, enabled and in MODE 0, at least 10 µs after its last step and not yet LOW, moves
GAIN0 down one state, notes the time, counts RFE_CNT[0] and leaves chain 1; up on chain 1, with no step down in the
last HOLD_MS, moves GAIN1 up one state and counts RFE_CNT[1]. CAPTURE_START on an enabled front end sets START, clears
DONE and captures. CAPTURE_DONE with 4,096 ADC samples ends a capture: DONE, START 0, the samples as capturedWords
presents them, read from the first; those at the clip level count in RFE_CNT[2]. CAP_DATA_READ presents the next
sample of the capture. FIR_CHECK sets CHECK and changes no other register. FIR_CHECK_DONE of a filter with a response
at 0 Hz: with no mask point failing it sets PASS and LOCK, else PASS is 0 and FAIL_PT the first that fails; CHECK is
0. FIR_UNLOCK clears LOCK and PASS while no accepted TX_LEGACY is undecided; otherwise it changes nothing but REASON,
0x05F4. SYNTH_UNLOCK of a locked receive synthesiser clears RX_LOCK, quenches the present slot and sets RFE_ISR bit 2;
SYNTH_RELOCK of an unlocked transmit synthesiser of an enabled front end sets TX_LOCK. BAND_RESELECT of the receive
synthesiser while a window is open waits, and changes no register; RECAL_DUE_EXPIRY after an hour of waiting sets
RECAL_DUE. ANTENNA_FAULT during a transmission, at or above 5/7 and −10 dBm, latches, shows the class of its phase,
and with FOLD set limits the level to POWER code 40; nothing is completed. ANTENNA_RETRY while latched clears the
latch and sets RFE_ISR bit 1. Except for the quench of SYNTH_UNLOCK and the level of ANTENNA_FAULT, the promise table
is unchanged. -/
def Obligations.FrontEnd : Prop :=
  (∀ (s x : State) (t : Nat), x = s.at t → x.en Blk.RFE = true → x.get (F.RFE_RX_MODE 0) = 0 → bits (x.get F.RFE_CFG_CHAIN_EN) 0 0 = 1 →
    (x.rfe.gainAt0 = 0 ∨ x.rfe.gainAt0 + usU 10 ≤ x.now) → x.get F.RFE_STATUS_GAIN0 < 2 →
    ∃ r, exec (.agcGainStep t 0 true) s = .next r ∧ r.get F.RFE_STATUS_GAIN0 = x.get F.RFE_STATUS_GAIN0 + 1 ∧
      r.get F.RFE_STATUS_GAIN1 = x.get F.RFE_STATUS_GAIN1 ∧ r.rfe.gainAt0 = x.now ∧
      r.get (F.RFE_CNT_COUNT 0) = Nat.min (x.get (F.RFE_CNT_COUNT 0) + 1) 0xFFFFFFFF ∧ r.items = x.items) ∧
  (∀ (s x : State) (t : Nat), x = s.at t → x.en Blk.RFE = true → x.get (F.RFE_RX_MODE 1) = 0 → bits (x.get F.RFE_CFG_CHAIN_EN) 1 1 = 1 →
    (x.rfe.gainAt1 = 0 ∨ x.rfe.gainAt1 + usU 10 ≤ x.now) → (x.rfe.downAt1 = 0 ∨ x.rfe.downAt1 + msU (x.get (F.RFE_RX_HOLD_MS 1)) ≤ x.now) →
    0 < x.get F.RFE_STATUS_GAIN1 →
    ∃ r, exec (.agcGainStep t 1 false) s = .next r ∧ r.get F.RFE_STATUS_GAIN1 = x.get F.RFE_STATUS_GAIN1 - 1 ∧
      r.get F.RFE_STATUS_GAIN0 = x.get F.RFE_STATUS_GAIN0 ∧ r.rfe.gainAt1 = x.now ∧ r.rfe.downAt1 = x.rfe.downAt1 ∧
      r.get (F.RFE_CNT_COUNT 1) = Nat.min (x.get (F.RFE_CNT_COUNT 1) + 1) 0xFFFFFFFF ∧ r.items = x.items) ∧
  (∀ (s x : State) (t : Nat), x = s.at t → x.en Blk.RFE = true →
    ∃ r, exec (.captureStart t) s = .next r ∧ r.rfe.capturing = true ∧ r.on F.RFE_CAP_CTL_START = true ∧
      r.on F.RFE_CAP_CTL_DONE = false ∧ r.items = x.items) ∧
  (∀ (s x : State) (t : Nat) (v : List Word), x = s.at t → x.rfe.capturing = true → v.length = 4096 →
    ∃ r, exec (.captureDone t v) s = .next r ∧ r.rfe.capture = capturedWords x (x.get F.RFE_CAP_CTL_CHAIN) x.now v ∧ r.rfe.capNext = 0 ∧
      r.on F.RFE_CAP_CTL_DONE = true ∧ r.on F.RFE_CAP_CTL_START = false ∧
      r.get (F.RFE_CNT_COUNT 2) = Nat.min (x.get (F.RFE_CNT_COUNT 2) + (v.filter clipped).length) 0xFFFFFFFF ∧ r.items = x.items) ∧
  (∀ (s x : State) (t : Nat) (v : Word), x = s.at t → x.rfe.capture[x.rfe.capNext]? = some v →
    ∃ r, exec (.capDataRead t) s = .next r ∧ r.rd Reg.RFE_CAP_DATA = v ∧ r.rfe.capNext = x.rfe.capNext + 1 ∧ r.items = x.items) ∧
  (∀ (s x : State) (t : Nat), x = s.at t → ∃ r, exec (.firCheck t) s = .next r ∧ r.on F.RFE_FIR_CTL_CHECK = true ∧
      (∀ a, a ≠ Reg.RFE_FIR_CTL → r.rd a = x.rd a) ∧ r.items = x.items) ∧
  (∀ (s x : State) (t : Nat), x = s.at t → x.on F.RFE_FIR_CTL_CHECK = true → (responses (firTaps x) ⟨fixOne, 0⟩ 256).headD 0 ≠ 0 →
    firstFail x ((responses (firTaps x) ⟨fixOne, 0⟩ 256).headD 0) (responses (firTaps x) ⟨fixOne, 0⟩ 256) 0 0 8 = none →
    ∃ r, exec (.firCheckDone t) s = .next r ∧ r.on F.RFE_FIR_CTL_CHECK = false ∧ r.on F.RFE_FIR_CTL_PASS = true ∧
      r.on F.RFE_FIR_CTL_LOCK = true ∧ r.items = x.items) ∧
  (∀ (s x : State) (t m : Nat), x = s.at t → x.on F.RFE_FIR_CTL_CHECK = true → (responses (firTaps x) ⟨fixOne, 0⟩ 256).headD 0 ≠ 0 →
    firstFail x ((responses (firTaps x) ⟨fixOne, 0⟩ 256).headD 0) (responses (firTaps x) ⟨fixOne, 0⟩ 256) 0 0 8 = some m →
    ∃ r, exec (.firCheckDone t) s = .next r ∧ r.on F.RFE_FIR_CTL_CHECK = false ∧ r.on F.RFE_FIR_CTL_PASS = false ∧
      r.get F.RFE_FIR_CTL_FAIL_PT = m % 8 ∧ r.items = x.items) ∧
  (∀ (s x : State) (t : Nat), x = s.at t → (∀ i ∈ x.items, i.opcode = 0x14 → i.decided = true) →
    ∃ r, exec (.firUnlock t) s = .next r ∧ r.on F.RFE_FIR_CTL_LOCK = false ∧ r.on F.RFE_FIR_CTL_PASS = false ∧ r.items = x.items) ∧
  (∀ (s x : State) (t : Nat), x = s.at t → x.items.any (fun i => i.opcode == 0x14 && !i.decided) = true →
    exec (.firUnlock t) s = .next (x.put F.RFE_FIR_CTL_REASON 0x05F4)) ∧
  (∀ (s x : State) (t : Nat), x = s.at t → x.on F.RFE_STATUS_RX_LOCK = true →
    ∃ r, exec (.synthUnlock t false) s = .next r ∧ r.on F.RFE_STATUS_RX_LOCK = false ∧ r.chn.pllLo = asn x.net ∧
      r.chn.pllHi = asn x.net + 1 ∧ bits (r.rd Reg.RFE_ISR).toNat 2 2 = 1) ∧
  (∀ (s x : State) (t : Nat), x = s.at t → x.en Blk.RFE = true → x.on F.RFE_STATUS_TX_LOCK = false →
    ∃ r, exec (.synthRelock t true) s = .next r ∧ r.on F.RFE_STATUS_TX_LOCK = true ∧ r.rfe.txLockAt = x.now ∧ r.items = x.items) ∧
  (∀ (s x : State) (t : Nat), x = s.at t → windowOpen x = true →
    ∃ r, exec (.bandReselect t false) s = .next r ∧ r.rfe.bandRx = true ∧ r.regs = x.regs ∧ r.items = x.items) ∧
  (∀ (s x : State) (t : Nat), x = s.at t → x.rfe.bandRx = true → x.rfe.bandSince + 3600 * secondU ≤ x.now →
    ∃ r, exec (.recalDueExpiry t) s = .next r ∧ r.on F.RFE_STATUS_RECAL_DUE = true ∧ r.items = x.items) ∧
  (∀ (s x : State) (t gamma phase fwd : Nat) (e : Emission) (i : Item), x = s.at t → x.rfe.onAir = some e → x.item e.item = some i →
    gammaFault gamma = true → 40 < fwd → x.on F.RFE_ANT_FOLD = true →
    ∃ r, exec (.antennaFault t gamma phase fwd false) s = .next r ∧ r.on F.RFE_ANT_LATCHED = true ∧
      r.get F.RFE_ANT_LAST = faultClass ((phase + x.get F.RFE_ANT_PHASE_OFS) % 256) false ∧ r.hre.outq = x.hre.outq ∧
      ∃ a, r.rfe.onAir = some a ∧ a.level ≤ 40 ∧ a.level ≤ e.level) ∧
  (∀ (s x : State) (t : Nat), x = s.at t → x.on F.RFE_ANT_LATCHED = true →
    ∃ r, exec (.antennaRetry t) s = .next r ∧ r.on F.RFE_ANT_LATCHED = false ∧ bits (r.rd Reg.RFE_ISR).toNat 1 1 = 1 ∧
      r.items = x.items)

/-- A core's whole-word store to the lower half of an entry of a powered bank, with no pair begun, is held, and
changes no entry and no register; its store to the upper half of the same entry then writes the entry as one, but for
its DIRTY bit, and leaves every other entry. A load of the lower half of an entry without an error, with no pair
begun, delivers it and holds the upper half, which the load of the upper half then delivers. An access of another size
or alignment, outside the memory, to a bank that is off, or of an upper half without its lower half, and one of a
lower half while a pair is begun, is an access fault of that core and changes no entry. ESM_SCRUB on an entry of a
powered bank, with ESM and SCRUB_EN set: a corrected error counts in CE_COUNT and sets ESM_ISR bit 1; an uncorrectable
one, of an entry that has none, marks the entry, keeps it, sets ESM_ISR bit 0 and shows its index. -/
def Obligations.EsmPairs : Prop :=
  (∀ (s x : State) (t c n : Nat) (v : Word) (err : Nat), x = s.at t → n < 1048576 → bankOn x n = true → x.esm.pairs.find? (fun p => p.1 == c) = none →
    ∃ r, exec (.esmAccess t c (0x30000000 + 8 * n) 4 true v err) s = .next r ∧
      r.esm.pairs.find? (fun p => p.1 == c) = some (c, n, true, v) ∧ r.esm.entries = x.esm.entries ∧ r.regs = x.regs ∧
      r.items = x.items) ∧
  (∀ (s x : State) (t c n : Nat) (lo v : Word) (err : Nat), x = s.at t → n < 1048576 → bankOn x n = true →
    x.esm.pairs.find? (fun p => p.1 == c) = some (c, n, true, lo) →
    ∃ r, exec (.esmAccess t c (0x30000000 + 8 * n + 4) 4 true v err) s = .next r ∧
      (r.entryWord n).toNat % 2 ^ 63 = (lo.toNat + v.toNat * 2 ^ 32) % 2 ^ 63 ∧ (r.entry n).dirty = (x.entry n).dirty ∧
      (∀ k, k ≠ n → r.entryWord k = x.entryWord k) ∧ r.esm.pairs.find? (fun p => p.1 == c) = none ∧ r.items = x.items) ∧
  (∀ (s x : State) (t c n : Nat) (v : Word), x = s.at t → n < 1048576 → bankOn x n = true → x.esm.bad.contains n = false →
    x.esm.pairs.find? (fun p => p.1 == c) = none →
    ∃ r, exec (.esmAccess t c (0x30000000 + 8 * n) 4 false v 0) s = .next r ∧
      r.esm.pairs.find? (fun p => p.1 == c) = some (c, n, false, hiWord (x.entryWord n).toNat) ∧
      r.cpx.loaded = modAt (fun _ => loWord (x.entryWord n).toNat) x.cpx.loaded c ∧ r.esm.entries = x.esm.entries) ∧
  (∀ (s x : State) (t c n : Nat) (v hi : Word) (err : Nat), x = s.at t → n < 1048576 → bankOn x n = true →
    x.esm.pairs.find? (fun p => p.1 == c) = some (c, n, false, hi) →
    ∃ r, exec (.esmAccess t c (0x30000000 + 8 * n + 4) 4 false v err) s = .next r ∧
      r.esm.pairs.find? (fun p => p.1 == c) = none ∧ r.cpx.loaded = modAt (fun _ => hi) x.cpx.loaded c ∧
      r.esm.entries = x.esm.entries ∧ r.regs = x.regs) ∧
  (∀ (s x : State) (t c a size : Nat) (w : Bool) (v : Word) (err : Nat), x = s.at t →
    (a < 0x30000000 ∨ 0x30800000 ≤ a ∨ size ≠ 4 ∨ a % 4 ≠ 0 ∨ bankOn x ((a - 0x30000000) / 8) = false ∨
      (a % 8 = 4 ∧ x.esm.pairs.find? (fun p => p.1 == c) = none) ∨ (a % 8 = 0 ∧ (x.esm.pairs.find? (fun p => p.1 == c)).isSome = true)) →
    ∃ r, exec (.esmAccess t c a size w v err) s = .next r ∧ r.esm.entries = x.esm.entries ∧
      r.esm.pairs.find? (fun p => p.1 == c) = none ∧
      r.cpx.accessFaults = modAt (fun k => k + 1) x.cpx.accessFaults c ∧ r.cpx.loaded = x.cpx.loaded) ∧
  (∀ (s x : State) (t n : Nat), x = s.at t → x.en Blk.ESM = true → x.on F.ESM_CFG_SCRUB_EN = true → bankOn x n = true → n < 1048576 →
    ∃ r, exec (.esmScrub t n 1) s = .next r ∧ r.esm = x.esm ∧ bits (r.rd Reg.ESM_ISR).toNat 1 1 = 1 ∧
      r.get F.ESM_ECC_CE_COUNT = Nat.min (x.get F.ESM_ECC_CE_COUNT + 1) (2 ^ F.ESM_ECC_CE_COUNT.width - 1)) ∧
  (∀ (s x : State) (t n : Nat), x = s.at t → x.en Blk.ESM = true → x.on F.ESM_CFG_SCRUB_EN = true → bankOn x n = true → n < 1048576 →
    x.esm.bad.contains n = false →
    ∃ r, exec (.esmScrub t n 2) s = .next r ∧ r.esm.bad = x.esm.bad ++ [n] ∧ r.esm.entries = x.esm.entries ∧
      bits (r.rd Reg.ESM_ISR).toNat 0 0 = 1 ∧ r.get F.ESM_UE_IDX_INDEX = n)

/-- CHECKPOINT_TIMER, on an enabled ESM whose interval has expired with no checkpoint running: with no entry dirty the
next expiry is INTERVAL_MIN minutes later and ESM_CNT[3] counts; with one dirty a checkpoint of the powered banks runs
and its first flash item waits for admission. CKPT_NOW within ESM_CKPT_MIN minutes of the last start shows 0x0A04 and
changes nothing of ESM; with none started before it starts a checkpoint of the powered banks. CLOSE while not CLOSED
and with none running sets CTL.CLOSE and starts a closing one. CHECKPOINT_DONE of a closing checkpoint whose banks are
all written: none runs, CLOSED is set, CTL.CLOSE and CKPT_RUNNING are 0, and every service request that waited for it
is completed. CHECKPOINT_RETRY of a checkpoint whose refused item's second is over submits the item again. CHECKPOINT
(service 1, command 7) joins the requests that wait for the checkpoint, and one runs; it is not completed yet. -/
def Obligations.Checkpoints : Prop :=
  (∀ (s x : State) (t : Nat), x = s.at t → x.en Blk.ESM = true → x.esm.dueAt ≤ x.now → x.esm.ckpt = none → anyDirty x = false →
    ∃ r, exec (.checkpointTimer t) s = .next r ∧ r.esm.ckpt = none ∧
      r.esm.dueAt = x.esm.dueAt + x.get F.ESM_CKPT_INTERVAL_MIN * 60 * secondU ∧
      r.get (F.ESM_CNT_COUNT 3) = Nat.min (x.get (F.ESM_CNT_COUNT 3) + 1) (2 ^ (F.ESM_CNT_COUNT 3).width - 1) ∧
      r.items = x.items) ∧
  (∀ (s x : State) (t : Nat), x = s.at t → x.en Blk.ESM = true → x.esm.dueAt ≤ x.now → x.esm.ckpt = none → anyDirty x = true →
    banksOn x ≠ [] →
    ∃ r, exec (.checkpointTimer t) s = .next r ∧ r.on F.ESM_STATUS_CKPT_RUNNING = true ∧
      (∃ c, r.esm.ckpt = some c ∧ c.banks = banksOn x ∧ c.closing = false ∧ c.inFlight = true) ∧
      ∃ w, r.chn.awaiting = x.chn.awaiting ++ [w] ∧ w.owner = .checkpoint) ∧
  (∀ (s x : State) (t a : Nat), x = s.at t → x.en Blk.ESM = true → x.esm.startedAt = some a →
    x.now < a + x.get F.ESM_CKPT_MIN_MINUTES * 60 * secondU →
    ∃ r, exec (.ckptNow t) s = .next r ∧ r.get F.ESM_STATUS_CKPT_REASON = 0x0A04 ∧ r.esm = x.esm ∧ r.items = x.items) ∧
  (∀ (s x : State) (t : Nat), x = s.at t → x.en Blk.ESM = true → x.esm.startedAt = none → x.esm.ckpt = none → banksOn x ≠ [] →
    ∃ r, exec (.ckptNow t) s = .next r ∧ r.on F.ESM_STATUS_CKPT_RUNNING = true ∧ r.esm.startedAt = some x.now ∧
      ∃ c, r.esm.ckpt = some c ∧ c.banks = banksOn x ∧ c.closing = false) ∧
  (∀ (s x : State) (t : Nat), x = s.at t → x.en Blk.ESM = true → x.on F.ESM_STATUS_CLOSED = false → x.esm.ckpt = none → banksOn x ≠ [] →
    ∃ r, exec (.close t) s = .next r ∧ r.on F.ESM_CTL_CLOSE = true ∧ r.on F.ESM_STATUS_CKPT_RUNNING = true ∧
      ∃ c, r.esm.ckpt = some c ∧ c.closing = true) ∧
  (∀ (s x : State) (t : Nat) (c : Ckpt), x = s.at t → x.esm.ckpt = some c → c.banks = [] → c.closing = true →
    ∃ r, exec (.checkpointDone t) s = .next r ∧ r.esm.ckpt = none ∧ r.on F.ESM_STATUS_CLOSED = true ∧
      r.on F.ESM_CTL_CLOSE = false ∧ r.on F.ESM_STATUS_CKPT_RUNNING = false ∧ r.esm.waiting = [] ∧
      r.hre.outq.length = x.hre.outq.length + x.esm.waiting.length ∧ r.items = x.items) ∧
  (∀ (s x : State) (t a : Nat) (c : Ckpt), x = s.at t → x.esm.ckpt = some c → c.inFlight = false → c.retryAt = some a → a ≤ x.now →
    c.banks ≠ [] →
    ∃ r, exec (.checkpointRetry t) s = .next r ∧ (∃ d, r.esm.ckpt = some d ∧ d.inFlight = true ∧ d.retryAt = none) ∧
      ∃ w, r.chn.awaiting = x.chn.awaiting ++ [w] ∧ w.owner = .checkpoint) ∧
  (∀ (s x : State) (t : Nat) (f : Fetched) (rest : List Fetched), x = s.at t → takeTurn (fun f => wbits f.words 0 7 0 == 0x50 && wbits f.words 6 7 0 == 1 && wbits f.words 6 15 8 == 7 && x.upd.aliveBy.isNone) (busyRings x) x.hre.fetched
      = some (f, rest) → x.en Blk.ESM = true →
    ∃ r, exec (.checkpoint t) s = .next r ∧ r.esm.waiting = x.esm.waiting ++ [f] ∧ r.hre.fetched = rest ∧
      r.esm.ckpt.isSome = true ∧ r.hre.outq = x.hre.outq ∧ r.items = x.items)

/-- JOIN_REQUEST takes the first join request of the firmware queue, here one with a CTIME within tolerance. Where its
MIC does not verify, under the key of its EUI and generation, or that key may not be used, a record carries 0x0906 and
the EUI, and no entry and no flash byte changes. One that verifies, of a new EUI in generation 0 with a free slot,
writes there a joining record of generation 1 to be confirmed (newDirRec) and makes its entry joining (1) with the
request's frame counter; no other entry changes. JOIN_ACCEPT_DONE of an accept that was sent, for a record still
joining, appends the record as active (setDirRec) and makes its entry active (2), keeping its frame counter; of one
that was not sent, no entry changes. ESM_RESTORE without a loss rebuilds the one entry that holds an uncorrectable
error from its record, which ends the error, and no other; after a loss it clears LOST. DIRECTORY_COMPACTION runs one
step a command: with nothing begun and the journal less than 75 % full it changes nothing; full, it writes the image
of the lowest block that the journal changes; then the image's marker, then it erases the block, copies the image into
it, and marks the image applied; full, with no block left, it erases the journal and the markers. -/
def Obligations.Joins : Prop :=
  (∀ (s x : State) (t eui g : Nat) (fr : FwFrame) (rest : List FwFrame) (f : MacFrame) (c : Nat), x = s.at t → takeFirst (fun (b : FwFrame) => match parseMac b.bytes with | some m => fctlType m.fctl == 4 | none => false)
      x.esm.firmware = some (fr, rest) → parseMac fr.bytes = some f → f.ctime = some c → ctimeOk x c fr.det.start = true →
    ∃ r, exec (.joinRequest t eui g) s = .next r ∧ r.esm.firmware = rest ∧
      (((derivedRefuses x eui g (ccmBlocks f.header.length f.payload.length false)).isSome = true ∨ joinVerified x f eui g = false) →
        r.esm.entries = x.esm.entries ∧ r.flc = x.flc ∧ r.items = x.items ∧
          r.hre = (x.joinRefused eui 0x0906).hre)) ∧
  (∀ (s x : State) (t eui i : Nat) (fr : FwFrame) (rest : List FwFrame) (f : MacFrame) (c : Nat), x = s.at t → takeFirst (fun (b : FwFrame) => match parseMac b.bytes with | some m => fctlType m.fctl == 4 | none => false)
      x.esm.firmware = some (fr, rest) → parseMac fr.bytes = some f → f.ctime = some c → ctimeOk x c fr.det.start = true →
    derivedRefuses x eui 0 (ccmBlocks f.header.length f.payload.length false) = none → lookupEui x eui = none →
    insertFrom x eui 0 64 = some i → eui < 2 ^ 64 - 1 → f.fcnt < 2 ^ 32 →
    ∃ r, exec (.joinRequest t eui 0) s = .next r ∧ r.esm.firmware = rest ∧
      (joinVerified x f eui 0 = true →
        r.flc = (x.newDirRec i ⟨eui, networkDay x, 1, 0, true, 255⟩).flc ∧ (r.entry i).state = 1 ∧ (r.entry i).gen = 1 ∧
          (r.entry i).hwm = f.fcnt ∧ (∀ k, k ≠ i → r.entryWord k = x.entryWord k))) ∧
  (∀ (s x : State) (t k : Nat) (rest : List (Nat × Bool)) (j : Join), x = s.at t → x.esm.accepts = (k, true) :: rest →
    x.esm.joins.find? (fun j => j.k == k) = some j → (x.dirRec j.idx).dstate = 0 → (x.dirRec j.idx).eui = j.eui →
    ∃ r, exec (.joinAcceptDone t) s = .next r ∧ r.esm.accepts = rest ∧
      r.flc = (x.setDirRec j.idx { x.dirRec j.idx with dstate := 1 }).flc ∧
      (r.entry j.idx).state = 2 ∧ (r.entry j.idx).hwm = (x.entry j.idx).hwm ∧ (∀ k, k ≠ j.idx → r.entryWord k = x.entryWord k)) ∧
  (∀ (s x : State) (t k : Nat) (rest : List (Nat × Bool)), x = s.at t → x.esm.accepts = (k, false) :: rest →
    ∃ r, exec (.joinAcceptDone t) s = .next r ∧ r.esm.accepts = rest ∧ r.esm.entries = x.esm.entries ∧ r.flc = x.flc ∧
      r.esm.joins = x.esm.joins.filter (fun j => j.k != k)) ∧
  (∀ (s x : State) (t n : Nat), x = s.at t → x.on F.ESM_STATUS_LOST = false → x.esm.bad = [n] →
    ∃ r, exec (.esmRestore t) s = .next r ∧ r.esm.bad = [] ∧ r.entryWord n = (rebuiltEntry x n false).word ∧
      (∀ k, k ≠ n → r.entryWord k = x.entryWord k)) ∧
  (∀ (s x : State) (t : Nat), x = s.at t → x.on F.ESM_STATUS_LOST = true →
    ∃ r, exec (.esmRestore t) s = .next r ∧ r.on F.ESM_STATUS_LOST = false ∧ r.items = x.items) ∧
  (∀ (s x : State) (t : Nat), x = s.at t → x.esm.compaction = none → imageOpen x = none → journalFull x = false →
    exec (.directoryCompaction t) s = .next x) ∧
  (∀ (s x : State) (t : Nat), x = s.at t → x.esm.compaction = none → imageOpen x = none →
    ∃ r, exec (.directoryCompaction t) s = .next r ∧ r.esm.entries = x.esm.entries ∧ r.items = x.items ∧
      (journalFull x = true → ∀ b, nextBlock x = some b →
        r.flc = (x.writeImage b).flc ∧ r.esm.compaction = some (b, 2, x.esm.journalSeq - 1)) ∧
      (journalFull x = true → nextBlock x = none →
        r.flc = ((x.eraseRange dirJournalBase (imageBase - dirJournalBase)).eraseRange markerBase 32768).flc)) ∧
  (∀ (s x : State) (t b q : Nat), x = s.at t → x.esm.compaction = some (b, 2, q) →
    ∃ r, exec (.directoryCompaction t) s = .next r ∧ r.flc = (x.writeMarker b q).flc ∧ r.esm.compaction = some (b, 3, q) ∧ r.items = x.items) ∧
  (∀ (s x : State) (t b q : Nat), x = s.at t → x.esm.compaction = some (b, 3, q) →
    ∃ r, exec (.directoryCompaction t) s = .next r ∧ r.flc = (x.eraseRange (dirBase + b * 32768) 32768).flc ∧
      r.esm.compaction = some (b, 4, q) ∧ r.items = x.items) ∧
  (∀ (s x : State) (t b q : Nat), x = s.at t → x.esm.compaction = some (b, 4, q) →
    ∃ r, exec (.directoryCompaction t) s = .next r ∧ r.flc = (x.copyImage b).flc ∧ r.esm.compaction = some (b, 5, q) ∧ r.items = x.items) ∧
  (∀ (s x : State) (t b q : Nat), x = s.at t → x.esm.compaction = some (b, 5, q) →
    ∃ r, exec (.directoryCompaction t) s = .next r ∧ r.flc = x.writeApplied.flc ∧ r.esm.compaction = none ∧ r.items = x.items)

/-- LOOKUP_EUI, of an EUI that is not in the directory, completes DONE with FOUND 0 and nothing else changes;
LOOKUP_INDEX of a record in use writes the record and the entry to the host's buffer and completes DONE with the
index, STATE and FOUND 1. SUSPEND from state 2 or 5, RESUME from 3, REVOKE from 1 to 5 and DELETE from 4, of an entry
without an error in a powered bank, with ESM enabled, take the entry to STATE 3, 5, 4 and 0 and write its directory
record with state 2, 1, 3 and 4 (setDirRec), keep its frame counter and generation, leave every other entry and every
register, and complete DONE with reason 0. Each of the four from any other state is refused: 0x0A05 from state 4, else
0x0AF7, and nothing else changes. STATS writes its seven counts, 28 bytes, and completes DONE. -/
def Obligations.DirectoryServices : Prop :=
  (∀ (s x y : State) (t : Nat) (f : Fetched) (rest : List Fetched) (fail : Bool), x = s.at t → takeTurn (fun f => wbits f.words 0 7 0 == 0x50 && wbits f.words 6 7 0 == 1 && wbits f.words 6 15 8 == 1 && x.upd.aliveBy.isNone) (busyRings x) x.hre.fetched
      = some (f, rest) → y = { x with hre := { x.hre with fetched := rest } } → x.en Blk.ESM = true →
    lookupEui x (leNat (f.buf.take 8)) = none → exec (.lookupEui t fail) s = .next (y.done f.ring f.words)) ∧
  (∀ (s x y : State) (t i : Nat) (f : Fetched) (rest : List Fetched), x = s.at t → takeTurn (fun f => wbits f.words 0 7 0 == 0x50 && wbits f.words 6 7 0 == 1 && wbits f.words 6 15 8 == 2 && x.upd.aliveBy.isNone) (busyRings x) x.hre.fetched
      = some (f, rest) → y = { x with hre := { x.hre with fetched := rest } } → x.en Blk.ESM = true →
    i = wbits f.words 7 19 0 → (x.dirRec i).dstate ≠ 7 →
    exec (.lookupIndex t false) s = .next ((y.bufWrite f.ring (wordAt f.words 4 + wordAt f.words 5 * 2 ^ 32)
      (dirBytes x i ++ leBytes 8 (x.entryWord i).toNat)).done f.ring f.words 0
        (w4 := i % 2 ^ 20 + (x.entry i).state * 2 ^ 20 + 2 ^ 31) (w5 := 20))) ∧
  (∀ (s x : State) (t i : Nat) (f : Fetched) (rest : List Fetched), x = s.at t → takeTurn (fun f => wbits f.words 0 7 0 == 0x50 && wbits f.words 6 7 0 == 1 && wbits f.words 6 15 8 == 3 && x.upd.aliveBy.isNone) (busyRings x) x.hre.fetched
      = some (f, rest) → x.en Blk.ESM = true → i = wbits f.words 7 19 0 → bankOn x i = true → x.esm.bad.contains i = false →
    ((x.entry i).state = 2 ∨ (x.entry i).state = 5) →
    ∃ r, exec (.suspend t) s = .next r ∧ (r.entry i).state = 3 ∧ r.flc = (x.setDirRec i { x.dirRec i with dstate := 2 }).flc ∧
      (r.entry i).hwm = (x.entry i).hwm ∧ (r.entry i).gen = (x.entry i).gen ∧
      (∀ k, k ≠ i → r.entryWord k = x.entryWord k) ∧ r.regs = x.regs ∧
      ∃ q, r.hre.outq = x.hre.outq ++ [q] ∧ q.status = 2 ∧ q.reason = 0) ∧
  (∀ (s x : State) (t i : Nat) (f : Fetched) (rest : List Fetched), x = s.at t → takeTurn (fun f => wbits f.words 0 7 0 == 0x50 && wbits f.words 6 7 0 == 1 && wbits f.words 6 15 8 == 4 && x.upd.aliveBy.isNone) (busyRings x) x.hre.fetched
      = some (f, rest) → x.en Blk.ESM = true → i = wbits f.words 7 19 0 → bankOn x i = true → x.esm.bad.contains i = false →
    (x.entry i).state = 3 →
    ∃ r, exec (.resume t) s = .next r ∧ (r.entry i).state = 5 ∧ r.flc = (x.setDirRec i { x.dirRec i with dstate := 1 }).flc ∧
      (r.entry i).hwm = (x.entry i).hwm ∧ (r.entry i).gen = (x.entry i).gen ∧
      (∀ k, k ≠ i → r.entryWord k = x.entryWord k) ∧ r.regs = x.regs ∧
      ∃ q, r.hre.outq = x.hre.outq ++ [q] ∧ q.status = 2 ∧ q.reason = 0) ∧
  (∀ (s x : State) (t i : Nat) (f : Fetched) (rest : List Fetched), x = s.at t → takeTurn (fun f => wbits f.words 0 7 0 == 0x50 && wbits f.words 6 7 0 == 1 && wbits f.words 6 15 8 == 5 && x.upd.aliveBy.isNone) (busyRings x) x.hre.fetched
      = some (f, rest) → x.en Blk.ESM = true → i = wbits f.words 7 19 0 → bankOn x i = true → x.esm.bad.contains i = false →
    1 ≤ (x.entry i).state → (x.entry i).state ≤ 5 →
    ∃ r, exec (.revoke t) s = .next r ∧ (r.entry i).state = 4 ∧ r.flc = (x.setDirRec i { x.dirRec i with dstate := 3 }).flc ∧
      (r.entry i).hwm = (x.entry i).hwm ∧ (r.entry i).gen = (x.entry i).gen ∧
      (∀ k, k ≠ i → r.entryWord k = x.entryWord k) ∧ r.regs = x.regs ∧
      ∃ q, r.hre.outq = x.hre.outq ++ [q] ∧ q.status = 2 ∧ q.reason = 0) ∧
  (∀ (s x : State) (t i : Nat) (f : Fetched) (rest : List Fetched), x = s.at t → takeTurn (fun f => wbits f.words 0 7 0 == 0x50 && wbits f.words 6 7 0 == 1 && wbits f.words 6 15 8 == 6 && x.upd.aliveBy.isNone) (busyRings x) x.hre.fetched
      = some (f, rest) → x.en Blk.ESM = true → i = wbits f.words 7 19 0 → bankOn x i = true → x.esm.bad.contains i = false →
    (x.entry i).state = 4 →
    ∃ r, exec (.delete t) s = .next r ∧ (r.entry i).state = 0 ∧ r.flc = (x.setDirRec i { x.dirRec i with dstate := 4 }).flc ∧
      (r.entry i).hwm = (x.entry i).hwm ∧ (r.entry i).gen = (x.entry i).gen ∧
      (∀ k, k ≠ i → r.entryWord k = x.entryWord k) ∧ r.regs = x.regs ∧
      ∃ q, r.hre.outq = x.hre.outq ++ [q] ∧ q.status = 2 ∧ q.reason = 0) ∧
  (∀ (s x y : State) (t : Nat) (f : Fetched) (rest : List Fetched), x = s.at t → takeTurn (fun f => wbits f.words 0 7 0 == 0x50 && wbits f.words 6 7 0 == 1 && wbits f.words 6 15 8 == 8 && x.upd.aliveBy.isNone) (busyRings x) x.hre.fetched
      = some (f, rest) → y = { x with hre := { x.hre with fetched := rest } } → x.en Blk.ESM = true →
    exec (.stats t false) s = .next ((y.bufWrite f.ring (wordAt f.words 4 + wordAt f.words 5 * 2 ^ 32)
      ((statsOf x).flatMap (leBytes 4))).done f.ring f.words 0 (w5 := 28))) ∧
  (∀ (s x y : State) (t i : Nat) (f : Fetched) (rest : List Fetched), x = s.at t → takeTurn (fun f => wbits f.words 0 7 0 == 0x50 && wbits f.words 6 7 0 == 1 && wbits f.words 6 15 8 == 3 && x.upd.aliveBy.isNone) (busyRings x) x.hre.fetched
      = some (f, rest) → y = { x with hre := { x.hre with fetched := rest } } → x.en Blk.ESM = true →
    i = wbits f.words 7 19 0 → bankOn x i = true → x.esm.bad.contains i = false → (x.entry i).state ≠ 2 → (x.entry i).state ≠ 5 →
    exec (.suspend t) s = .next (y.refuse f.ring f.words (if (x.entry i).state = 4 then 0x0A05 else 0x0AF7))) ∧
  (∀ (s x y : State) (t i : Nat) (f : Fetched) (rest : List Fetched), x = s.at t → takeTurn (fun f => wbits f.words 0 7 0 == 0x50 && wbits f.words 6 7 0 == 1 && wbits f.words 6 15 8 == 4 && x.upd.aliveBy.isNone) (busyRings x) x.hre.fetched
      = some (f, rest) → y = { x with hre := { x.hre with fetched := rest } } → x.en Blk.ESM = true →
    i = wbits f.words 7 19 0 → bankOn x i = true → x.esm.bad.contains i = false → (x.entry i).state ≠ 3 →
    exec (.resume t) s = .next (y.refuse f.ring f.words (if (x.entry i).state = 4 then 0x0A05 else 0x0AF7))) ∧
  (∀ (s x y : State) (t i : Nat) (f : Fetched) (rest : List Fetched), x = s.at t → takeTurn (fun f => wbits f.words 0 7 0 == 0x50 && wbits f.words 6 7 0 == 1 && wbits f.words 6 15 8 == 5 && x.upd.aliveBy.isNone) (busyRings x) x.hre.fetched
      = some (f, rest) → y = { x with hre := { x.hre with fetched := rest } } → x.en Blk.ESM = true →
    i = wbits f.words 7 19 0 → bankOn x i = true → x.esm.bad.contains i = false → ((x.entry i).state = 0 ∨ 5 < (x.entry i).state) →
    exec (.revoke t) s = .next (y.refuse f.ring f.words 0x0AF7)) ∧
  (∀ (s x y : State) (t i : Nat) (f : Fetched) (rest : List Fetched), x = s.at t → takeTurn (fun f => wbits f.words 0 7 0 == 0x50 && wbits f.words 6 7 0 == 1 && wbits f.words 6 15 8 == 6 && x.upd.aliveBy.isNone) (busyRings x) x.hre.fetched
      = some (f, rest) → y = { x with hre := { x.hre with fetched := rest } } → x.en Blk.ESM = true →
    i = wbits f.words 7 19 0 → bankOn x i = true → x.esm.bad.contains i = false → (x.entry i).state ≠ 4 →
    exec (.delete t) s = .next (y.refuse f.ring f.words 0x0AF7))

/-- CRY_OP of a request that passes its checks (cryRefusal), with a slot's key and no device nonce, joins queue 6 and
completes nothing yet; the first request of the queue has its key fixed as the slot holds it now; its blocks are
counted in the slot's usage where that has no limit. One that a check refuses is counted by CRY_CNT[1], is refused
with the check's code and queues nothing. CIPHER_REQUEST_DONE, with a written buffer, takes the oldest request; the
next of its queue has its key fixed; CRY_CNT[0] counts; where cipherOutput, under the fixed key, yields an output it
overwrites the data and the tag field and the request completes DONE with its length; where the tag fails, zeros take
the place of the data and it completes DONE with 0x0B05. KEY_IMPORT that passes its checks (importRefusal), without
PERSIST, loads the slot with the imported key, sets its attributes and a usage of 0, leaves every other slot, and
completes DONE; with PERSIST it also joins the writes of the key store and completes nothing yet; refused, it counts
CRY_CNT[1] and no slot changes. TXFC_RESTART with both link keys imported sets NEXT to 0, ends the reserve and notes
the day; with none imported it shows 0x0BF7 and NEXT stays. -/
def Obligations.CipherEngine : Prop :=
  (∀ (s x y : State) (t n : Nat) (f : Fetched) (rest : List Fetched), x = s.at t → takeTurn (fun g => wbits g.words 0 7 0 == 0x40) (busyRings x) x.hre.fetched = some (f, rest) →
    y = { x with hre := { x.hre with fetched := rest } } → cryRefusal y f = none → wbits f.words 6 4 4 = 0 →
    wbits f.words 6 11 11 = 0 → n = wbits f.words 6 10 5 →
    ∃ r, exec (.cryOp t) s = .next r ∧
      r.cry.queue = startHead r hostQueue (x.cry.queue ++ [⟨hostQueue, f, .slot n, none, none⟩]) ∧ slotKey r n = slotKey x n ∧
      r.hre.outq = x.hre.outq ∧ r.items = x.items ∧
      (slotLimit x n = none → slotUse r n = (slotUse x n + cryBlocks f) % 2 ^ 48)) ∧
  (∀ (s x y : State) (t c : Nat) (f : Fetched) (rest : List Fetched), x = s.at t → takeTurn (fun g => wbits g.words 0 7 0 == 0x40) (busyRings x) x.hre.fetched = some (f, rest) →
    y = { x with hre := { x.hre with fetched := rest } } → cryRefusal y f = some c →
    exec (.cryOp t) s = .next ((y.count (F.CRY_CNT_COUNT 1)).refuse f.ring f.words c)) ∧
  (∀ (s x : State) (t : Nat) (q : CryReq) (rest : List CryReq) (k : AesKey) (z : Option (List Byte × Nat)), x = s.at t →
    x.cry.queue = q :: rest → q.key = some k → q.nonce = none → z = cipherOutput (cryMode q.f) (cryTagLen q.f) k (q.f.buf.take 16) (slice q.f.buf 16 (cryAad q.f)) (slice q.f.buf (16 + cryAad q.f) (cryData q.f))
        (slice q.f.buf (16 + cryAad q.f + cryData q.f) 16) →
    ∃ r, exec (.cipherRequestDone t false) s = .next r ∧ r.cry.queue = startHead x q.queue rest ∧ r.items = x.items ∧
      r.get (F.CRY_CNT_COUNT 0) = Nat.min (x.get (F.CRY_CNT_COUNT 0) + 1) 0xFFFFFFFF ∧
      (z.isSome = true → r.hre = (x.done q.f.ring q.f.words 0 (w4 := (z.getD ([], 0)).2 % 65536)).hre ∧
        r.hostMem = (x.bufWrite q.f.ring (wordAt q.f.words 4 + wordAt q.f.words 5 * 2 ^ 32 + 16 + cryAad q.f) (z.getD ([], 0)).1).hostMem ∧ r.sram = (x.bufWrite q.f.ring (wordAt q.f.words 4 + wordAt q.f.words 5 * 2 ^ 32 + 16 + cryAad q.f) (z.getD ([], 0)).1).sram) ∧
      (z = none → r.hre = (x.done q.f.ring q.f.words 0x0B05).hre ∧
        r.hostMem = (x.bufWrite q.f.ring (wordAt q.f.words 4 + wordAt q.f.words 5 * 2 ^ 32 + 16 + cryAad q.f) (List.replicate (cryData q.f) 0)).hostMem ∧
        r.sram = (x.bufWrite q.f.ring (wordAt q.f.words 4 + wordAt q.f.words 5 * 2 ^ 32 + 16 + cryAad q.f) (List.replicate (cryData q.f) 0)).sram)) ∧
  (∀ (s x y : State) (t n : Nat) (f : Fetched) (rest : List Fetched), x = s.at t → takeTurn (fun g => wbits g.words 0 7 0 == 0x41) (busyRings x) x.hre.fetched = some (f, rest) →
    y = { x with hre := { x.hre with fetched := rest } } → n = wbits f.words 6 5 0 → x.cry.vault.length = 64 → wbits f.words 6 15 15 = 0 →
    ∃ r, exec (.keyImport t) s = .next r ∧ r.items = x.items ∧ ((List.range 64).filter (fun k => k != n)).map (fun k => r.cry.vault.getD k 0) =
        ((List.range 64).filter (fun k => k != n)).map (fun k => x.cry.vault.getD k 0) ∧
      (importRefusal y f = none → r.cry.vault.getD n 0 = beNat ((importedKey y f).getD []) ∧ r.on (F.CRY_SLOT_ATTR_VALID n) = true ∧
        r.get (F.CRY_SLOT_ATTR_MODES n) = wbits f.words 7 8 0 ∧ r.get (F.CRY_SLOT_ATTR_LIMIT_LOG2 n) = wbits f.words 7 14 9 ∧
        (wbits f.words 6 7 6 = 1 → slotUse r n = 0) ∧ r.hre = (y.done f.ring f.words).hre) ∧
      ((importRefusal y f).isSome = true → r.cry.vault = x.cry.vault ∧ r.hre = (y.refuse f.ring f.words ((importRefusal y f).getD 0)).hre ∧
        r.get (F.CRY_CNT_COUNT 1) = Nat.min (x.get (F.CRY_CNT_COUNT 1) + 1) 0xFFFFFFFF)) ∧
  (∀ (s x y : State) (t n : Nat) (f : Fetched) (rest : List Fetched), x = s.at t → takeTurn (fun g => wbits g.words 0 7 0 == 0x41) (busyRings x) x.hre.fetched = some (f, rest) →
    y = { x with hre := { x.hre with fetched := rest } } → importRefusal y f = none → wbits f.words 6 7 6 = 1 →
    n = wbits f.words 6 5 0 → x.cry.vault.length = 64 → wbits f.words 6 15 15 = 1 →
    ∃ r, exec (.keyImport t) s = .next r ∧ r.cry.vault.getD n 0 = beNat f.buf ∧ r.hre.outq = x.hre.outq ∧ r.items = x.items ∧
      r.cry.storing.length = x.cry.storing.length + 1) ∧
  (∀ (s x : State) (t : Nat), x = s.at t → x.cry.imported.contains (x.get F.MAC_DRONE_BEACON_SLOT) = true →
    x.cry.imported.contains (x.get F.MAC_CFG_LINK_SLOT) = true →
    ∃ r, exec (.txfcRestart t) s = .next r ∧ r.get F.MAC_TXFC_NEXT = 0 ∧ r.mac.txfcLimit = 0 ∧ r.mac.txfcRefill = true ∧
      r.cry.restartDay = some (networkDay x) ∧
      r.items = x.items) ∧
  (∀ (s x : State) (t : Nat), x = s.at t → x.cry.imported = [] →
    ∃ r, exec (.txfcRestart t) s = .next r ∧ r.get F.CRY_STATUS_REASON = 0x0BF7 ∧ r.mac = x.mac ∧
      r.get F.MAC_TXFC_NEXT = x.get F.MAC_TXFC_NEXT)

/-- With the block enabled and no alarm: SIG_SIGN with a restored identity key, SIG_VERIFY under the vendor's key of a
buffer of the exact length, and HASH with FIRST and not LAST in a closed context each join the queue of operations and
complete nothing yet; SIG_SIGN sets BUSY and notes the identity key; HASH opens its context. SIG_OPERATION_DONE takes
the oldest operation: a signature counts in SIG_CNT[0] and completes DONE; a verification counts in SIG_CNT[1] and
completes DONE, with reason 0 where verifyOk holds, else with 0x0C01, SIG_CNT[2] and SIG_ISR bit 0; a HASH that is not
the last adds its bytes to the context and completes DONE. ATTEST_REPORT with a restored identity key counts in
SIG_CNT[0] and completes DONE; ATTEST_CHAIN writes the chain, changes no register and completes DONE with its length.
OWNER_SET while no owner key is being written: a record that ownerRefusal passes joins the writes of the key store,
changes no owner key yet and completes nothing yet; one that it refuses is refused with its code, and nothing else
changes; while an owner key is being written it waits. -/
def Obligations.SignatureEngine : Prop :=
  (∀ (s x : State) (t : Nat) (f : Fetched) (rest : List Fetched), x = s.at t → takeTurn (fun g => wbits g.words 0 7 0 == 0x42) (busyRings x) x.hre.fetched = some (f, rest) →
    x.en Blk.SIG = true → x.on F.SEC_ALARM_ACTIVE = false → x.cry.identity ≠ 0 →
    ∃ r, exec (.sigSign t) s = .next r ∧ r.cry.sigQueue = x.cry.sigQueue ++ [⟨f, x.cry.identity⟩] ∧
      r.on F.SIG_STATUS_BUSY = true ∧ r.hre.outq = x.hre.outq ∧ r.items = x.items) ∧
  (∀ (s x : State) (t : Nat) (f : Fetched) (rest : List Fetched), x = s.at t → takeTurn (fun g => wbits g.words 0 7 0 == 0x43) (busyRings x) x.hre.fetched = some (f, rest) →
    x.en Blk.SIG = true → x.on F.SEC_ALARM_ACTIVE = false → wbits f.words 6 2 0 = 0 →
    f.buf.length = wbits f.words 7 15 0 + 114 →
    ∃ r, exec (.sigVerify t) s = .next r ∧ r.cry.sigQueue = x.cry.sigQueue ++ [⟨f, 0⟩] ∧ r.hre.outq = x.hre.outq) ∧
  (∀ (s x : State) (t c : Nat) (f : Fetched) (rest : List Fetched), x = s.at t → takeTurn (fun g => wbits g.words 0 7 0 == 0x44) (busyRings x) x.hre.fetched = some (f, rest) →
    x.en Blk.SIG = true → x.on F.SEC_ALARM_ACTIVE = false → 1 ≤ wbits f.words 6 10 0 → wbits f.words 6 10 0 ≤ 1024 →
    c = wbits f.words 6 13 11 → wbits f.words 6 14 14 = 1 → wbits f.words 6 15 15 = 0 → x.cry.contexts.length = 8 →
    (x.cry.contexts.getD c HashCtx.closed).isOpen = false →
    ∃ r, exec (.hash t) s = .next r ∧ (r.cry.contexts.getD c HashCtx.closed).isOpen = true ∧
      r.cry.sigQueue = x.cry.sigQueue ++ [⟨f, 0⟩] ∧ r.hre.outq = x.hre.outq) ∧
  (∀ (s x : State) (t : Nat) (q : SigReq) (rest : List SigReq), x = s.at t → x.cry.sigQueue = q :: rest →
    wbits q.f.words 0 7 0 = 0x42 →
    ∃ r, exec (.sigOperationDone t false) s = .next r ∧ r.cry.sigQueue = rest ∧
      r.get (F.SIG_CNT_COUNT 0) = Nat.min (x.get (F.SIG_CNT_COUNT 0) + 1) 0xFFFFFFFF ∧ r.hre = (x.done q.f.ring q.f.words).hre ∧
      r.hostMem = (x.bufWrite q.f.ring (sigOutAt q.f) (fit 114 (Config.ed448Sign q.key (asciiBytes "UARNAREN-HOST" ++ q.f.buf)))).hostMem) ∧
  (∀ (s x : State) (t : Nat) (fail : Bool) (q : SigReq) (rest : List SigReq), x = s.at t → x.cry.sigQueue = q :: rest →
    wbits q.f.words 0 7 0 = 0x43 →
    ∃ r, exec (.sigOperationDone t fail) s = .next r ∧ r.cry.sigQueue = rest ∧
      r.get (F.SIG_CNT_COUNT 1) = Nat.min (x.get (F.SIG_CNT_COUNT 1) + 1) 0xFFFFFFFF ∧
      (verifyOk x q.f = true → r.hre = (x.done q.f.ring q.f.words).hre ∧ r.get (F.SIG_CNT_COUNT 2) = x.get (F.SIG_CNT_COUNT 2)) ∧
      (verifyOk x q.f = false → r.hre.outq = (x.done q.f.ring q.f.words 0x0C01).hre.outq ∧ bits (r.rd Reg.SIG_ISR).toNat 0 0 = 1 ∧
        r.get (F.SIG_CNT_COUNT 2) = Nat.min (x.get (F.SIG_CNT_COUNT 2) + 1) 0xFFFFFFFF)) ∧
  (∀ (s x : State) (t c : Nat) (q : SigReq) (rest : List SigReq), x = s.at t → x.cry.sigQueue = q :: rest →
    wbits q.f.words 0 7 0 = 0x44 → wbits q.f.words 6 15 15 = 0 → c = wbits q.f.words 6 13 11 → x.cry.contexts.length = 8 →
    ∃ r, exec (.sigOperationDone t false) s = .next r ∧ r.cry.sigQueue = rest ∧ r.hre = (x.done q.f.ring q.f.words).hre ∧
      (r.cry.contexts.getD c HashCtx.closed).input = (x.cry.contexts.getD c HashCtx.closed).input ++ q.f.buf) ∧
  (∀ (s x : State) (t : Nat) (f : Fetched) (rest : List Fetched), x = s.at t → takeTurn (fun f => wbits f.words 0 7 0 == 0x51 && wbits f.words 6 0 0 == 0) (busyRings x) x.hre.fetched = some (f, rest) →
    x.en Blk.SIG = true → x.on F.SEC_ALARM_ACTIVE = false → x.cry.identity ≠ 0 →
    ∃ r, exec (.attestReport t false) s = .next r ∧ r.hre.fetched = rest ∧ r.items = x.items ∧
      r.get (F.SIG_CNT_COUNT 0) = Nat.min (x.get (F.SIG_CNT_COUNT 0) + 1) 0xFFFFFFFF ∧
      ∃ c, r.hre.outq = x.hre.outq ++ [c] ∧ c.status = 2 ∧ c.reason = 0) ∧
  (∀ (s x : State) (t : Nat) (f : Fetched) (rest : List Fetched), x = s.at t → takeTurn (fun f => wbits f.words 0 7 0 == 0x51 && wbits f.words 6 0 0 == 1) (busyRings x) x.hre.fetched = some (f, rest) →
    x.en Blk.SIG = true → x.on F.SEC_ALARM_ACTIVE = false →
    ∃ r, exec (.attestChain t false) s = .next r ∧ r.hre.fetched = rest ∧ r.regs = x.regs ∧ r.items = x.items ∧
      ∃ c, r.hre.outq = x.hre.outq ++ [c] ∧ c.status = 2 ∧ c.reason = 0 ∧ c.w4 = word x.cry.chain.length) ∧
  (∀ (s x y : State) (t : Nat) (f : Fetched) (rest : List Fetched), x = s.at t → takeTurn (fun f => wbits f.words 0 7 0 == 0x50 && wbits f.words 6 7 0 == 2 && wbits f.words 6 15 8 == 1 && x.upd.aliveBy.isNone) (busyRings x) x.hre.fetched
      = some (f, rest) →
    ownerPending x = false → y = { x with hre := { x.hre with fetched := rest } } → x.en Blk.SIG = true → x.on F.SEC_ALARM_ACTIVE = false →
    ∃ r, exec (.ownerSet t) s = .next r ∧ r.cry.owners = x.cry.owners ∧ r.get F.SIG_OWNER_SEQ_SEQ = x.get F.SIG_OWNER_SEQ_SEQ ∧
      r.items = x.items ∧
      (ownerRefusal x f.buf = none → r.hre = y.hre ∧ r.cry.storing.length = x.cry.storing.length + 1) ∧
      ((ownerRefusal x f.buf).isSome = true → r = y.refuse f.ring f.words ((ownerRefusal x f.buf).getD 0))) ∧
  (∀ (s x : State) (t : Nat), x = s.at t → ownerPending x = true → exec (.ownerSet t) s = .next x)

/-- ALARM of source 0 with no item accepted and no ALARM_RESET latches the source, zeroises every slot and the
identity key, empties the cache and the queues, clears every VALID, sets ERASED, ends the debug session, and completes
every cipher request, every signature request, and every write of the key store whose commit record is not under way.
An alarm of a disabled tamper input changes nothing. ALARM_CLEAR with no source left ends the alarm and changes
RESTORING only where AUTO_RESTORE is set or an alarm had abandoned a restore, which then starts; with one left the
alarm stays and SRC keeps the sources that are not named or still present. KEY_RESTORE starts a restore; while an
alarm is active it changes nothing. KEY_RESTORE_DONE of a running restore, with no slot key in the key store, loads
the stored identity key, ends the restore, clears ERASED and sets SEC_ISR bit 1. -/
def Obligations.Alarms : Prop :=
  (∀ (s x : State) (t : Nat), x = s.at t → x.items = [] → x.on F.SEC_CFG_ALARM_RESET = false →
    ∃ r, exec (.alarm t 0) s = .next r ∧ r.on F.SEC_ALARM_ACTIVE = true ∧ bits (r.get F.SEC_ALARM_SRC) 0 0 = 1 ∧
      r.cry.vault = List.replicate 64 0 ∧ r.cry.identity = 0 ∧ r.cry.queue = [] ∧ r.cry.sigQueue = [] ∧ r.cry.cache = [] ∧
      r.on F.CRY_STATUS_ERASED = true ∧ r.cpx.session = false ∧ (List.range 64).all (fun n => !r.on (F.CRY_SLOT_ATTR_VALID n)) = true ∧
      r.hre.outq.length = x.hre.outq.length + x.cry.queue.length + x.cry.sigQueue.length +
        (x.cry.storing.filter (fun j => j.step == 2)).length) ∧
  (∀ (s x : State) (t : Nat), x = s.at t → x.on F.SEC_CFG_TAMP0_EN = false → exec (.alarm t 3) s = .next x) ∧
  (∀ (s x : State) (t mask present : Nat), x = s.at t → x.get F.SEC_ALARM_SRC &&& (63 - (mask &&& 63) ||| present % 64) = 0 →
    x.on F.SEC_ALARM_ACTIVE = true → x.on F.SEC_CFG_AUTO_RESTORE = false →
    ∃ r, exec (.alarmClear t mask present) s = .next r ∧ r.on F.SEC_ALARM_ACTIVE = false ∧ r.get F.SEC_ALARM_SRC = 0 ∧
      r.on F.SEC_STATUS_RESTORING = x.on F.SEC_STATUS_RESTORING ∧ r.items = x.items) ∧
  (∀ (s x : State) (t mask present : Nat), x = s.at t → x.get F.SEC_ALARM_SRC &&& (63 - (mask &&& 63) ||| present % 64) ≠ 0 →
    ∃ r, exec (.alarmClear t mask present) s = .next r ∧ r.on F.SEC_ALARM_ACTIVE = x.on F.SEC_ALARM_ACTIVE ∧
      r.get F.SEC_ALARM_SRC = x.get F.SEC_ALARM_SRC &&& (63 - (mask &&& 63) ||| present % 64) ∧ r.items = x.items) ∧
  (∀ (s x : State) (t : Nat), x = s.at t → x.on F.SEC_ALARM_ACTIVE = false →
    ∃ r, exec (.keyRestore t) s = .next r ∧ r.on F.SEC_STATUS_RESTORING = true ∧ r.items = x.items) ∧
  (∀ (s x : State) (t : Nat), x = s.at t → x.on F.SEC_ALARM_ACTIVE = true → exec (.keyRestore t) s = .next x) ∧
  (∀ (s x : State) (t : Nat), x = s.at t → x.on F.SEC_STATUS_RESTORING = true → x.cry.store = [] →
    ∃ r, exec (.keyRestoreDone t) s = .next r ∧ r.on F.SEC_STATUS_RESTORING = false ∧ r.on F.CRY_STATUS_ERASED = false ∧
      r.cry.identity = x.cry.storeIdentity ∧ bits (r.rd Reg.SEC_ISR).toNat 1 1 = 1 ∧ r.items = x.items)

/-- FL_READ of the array, with FLC enabled, a range inside one bank's 15 MiB, no operation on the bank and no
uncorrectable word in the range, counts no error, writes the bytes that the flash holds to the host's buffer and
completes DONE; nothing else changes. FL_PROGRAM, FL_ERASE of a whole block and FL_COUNTER of one of the host's
counters (8 and up) below its greatest value, with the controller ready and a range that rangeRefusal passes, wait for
their admission, and nothing else changes. FL_PROGRAM of one block in the boot area is refused with 0x0E01 and
FL_COUNTER of a counter of the device's own with 0x0EF6; nothing else changes. -/
def Obligations.FlashDescriptors : Prop :=
  (∀ (s x y : State) (t a n : Nat) (f : Fetched) (rest : List Fetched), x = s.at t → takeTurn (fun g => wbits g.words 0 7 0 == 0x30) (busyRings x) x.hre.fetched = some (f, rest) →
    y = { x with hre := { x.hre with fetched := rest } } → x.en Blk.FLC = true → wbits f.words 6 26 26 = 0 →
    a = wbits f.words 6 25 0 → n = wbits f.words 1 15 0 → a + n ≤ 0x4000000 → a % 0x1000000 + n ≤ 0xF00000 →
    opOf x (bankOf a) = none → (∀ k < n, inSuspendedBlock x (a + k) = false) → badWords x a n [] = [] →
    exec (.flRead t 0 [] false) s = .next (((y.countEcc 0 []).bufWrite f.ring (wordAt f.words 4 + wordAt f.words 5 * 2 ^ 32)
      ((List.range n).map (fun k => flashByte x (a + k)))).done f.ring f.words 0)) ∧
  (∀ (s x y : State) (t : Nat) (f : Fetched) (rest : List Fetched), x = s.at t → takeTurn (fun g => wbits g.words 0 7 0 == 0x31) (busyRings x) x.hre.fetched = some (f, rest) →
    y = { x with hre := { x.hre with fetched := rest } } →
    rangeRefusal x (wbits f.words 6 25 0) f.buf.length false = none → x.on F.FLC_STATUS_READY = true →
    exec (.flProgram t) s = .next (y.await ⟨.host, f.ring, f.words, .flash (flashInfo x 1 (wbits f.words 6 25 0) f.buf 0), none⟩)) ∧
  (∀ (s x y : State) (t : Nat) (f : Fetched) (rest : List Fetched), x = s.at t → takeTurn (fun g => wbits g.words 0 7 0 == 0x31) (busyRings x) x.hre.fetched = some (f, rest) →
    y = { x with hre := { x.hre with fetched := rest } } → wbits f.words 6 25 0 + f.buf.length ≤ 0x200000 →
    0 < f.buf.length → blockStart (wbits f.words 6 25 0) = blockStart (wbits f.words 6 25 0 + f.buf.length - 1) →
    exec (.flProgram t) s = .next (y.refuse f.ring f.words 0x0E01)) ∧
  (∀ (s x y : State) (t a : Nat) (f : Fetched) (rest : List Fetched), x = s.at t → takeTurn (fun g => wbits g.words 0 7 0 == 0x32) (busyRings x) x.hre.fetched = some (f, rest) →
    y = { x with hre := { x.hre with fetched := rest } } → a = wbits f.words 6 25 0 → a % 32768 = 0 →
    rangeRefusal x a 32768 false = none → x.on F.FLC_STATUS_READY = true →
    exec (.flErase t) s = .next (y.await ⟨.host, f.ring, f.words, .flash (flashInfo x 2 a [] 0), none⟩)) ∧
  (∀ (s x y : State) (t n : Nat) (f : Fetched) (rest : List Fetched), x = s.at t → takeTurn (fun g => wbits g.words 0 7 0 == 0x33) (busyRings x) x.hre.fetched = some (f, rest) →
    y = { x with hre := { x.hre with fetched := rest } } → n = wbits f.words 6 4 0 → 8 ≤ n →
    x.on F.FLC_STATUS_READY = true → x.get (F.FLC_CTR_VALUE n) ≠ 0xFFFFFFFF →
    exec (.flCounter t) s = .next (y.await ⟨.host, f.ring, f.words, .flash (flashInfo x 3 0 [] n), none⟩)) ∧
  (∀ (s x y : State) (t : Nat) (f : Fetched) (rest : List Fetched), x = s.at t → takeTurn (fun g => wbits g.words 0 7 0 == 0x33) (busyRings x) x.hre.fetched = some (f, rest) →
    y = { x with hre := { x.hre with fetched := rest } } → wbits f.words 6 4 0 < 8 →
    exec (.flCounter t) s = .next (y.refuse f.ring f.words 0x0EF6))

/-- FLASH_ITEM_ISSUE of an erase that is due, in a slot without quench and with nothing that voids it, on its idle
bank, starts it there and completes nothing. FLASH_OP_DONE of an erase of the array that runs and does not fail, of a
block that the map does not show as weak: its bank is idle, and its whole block, and but for the journal record that
is closed no other byte, is erased. FLASH_SUSPEND of an erase without a guard time, by an access to another block of
its bank, suspends it, and it keeps the time it has run; FLC_CNT[3] counts. A fetch, without FENCE.I, that its core's
instruction cache holds delivers the cached word and changes nothing of the flash or the registers; one after FENCE.I,
in the top 1 MiB of a bank, empties the core's cache and is an access fault. GUARD_TIME_MET of an operation that an
access waits for and that may be suspended now suspends it. FLASH_RESUME, IDLE_US after the last access, lets a
suspended operation run on from now. FLASH_OCCUPANCY_STOP of a refresh at its bank's next occupancy, in economy, stops
it; its block is due again, and no byte but the journal's changes. -/
def Obligations.FlashOperations : Prop :=
  (∀ (s x : State) (t idx : Nat) (i : Item) (y : FlashInfo), x = s.at t → x.item idx = some i → i.kind = .flash y → i.decided = false →
    i.started = false → i.due ≤ x.net → dueVoid x = none → slotQuenched x (asn i.due) (asn i.due + 1) = false →
    opOf x y.bank = none → y.bank < x.flc.ops.length → y.op = 2 → y.bank = bankOf y.addr → y.addr < fieldBase → x.esm.ckpt = none →
    ∃ r, exec (.flashItemIssue t idx) s = .next r ∧ (∃ j, r.item idx = some j ∧ j.started = true ∧ j.decided = false) ∧
      (∃ o, opOf r y.bank = some o ∧ o.item = some idx ∧ o.op = 2 ∧ o.addr = y.addr ∧ o.since = x.now ∧
        o.suspended = false) ∧ r.hre.outq = x.hre.outq ∧ r.flc.mem = (x.openRecord y.addr 1 0 y.data.length).flc.mem) ∧
  (∀ (s x : State) (t b : Nat) (o : FlashOp), x = s.at t → opOf x b = some o → x.flc.nested = none → o.suspended = false → o.op = 2 →
    o.item = none → b = bankOf o.addr → b < 4 → isWeak (x.setOp b none) (o.addr / 32768) = false →
    x.on F.BLW_STATUS_ECONOMY = false → x.flc.waiting = none → x.flc.refreshDue = [] → x.cry.storing = [] → x.flc.ops.length = 5 →
    ∃ r, exec (.flashOpDone t b none 0) s = .next r ∧ opOf r b = none ∧
      r.flc.mem = ((x.eraseRange (blockStart o.addr) (blockSize o.addr)).journalDone o).flc.mem) ∧
  (∀ (s x : State) (t b a : Nat) (o : FlashOp), x = s.at t → b = bankOf a → opOf x b = some o → x.flc.nested = none → o.suspended = false →
    o.op = 2 → o.item = none → b < 4 → x.on F.FLC_CFG_GUARD_EN = false → nextOccupancy x b = none → x.flc.waiting = none →
    x.flc.refreshDue = [] → x.cry.storing = [] → x.on F.BLW_STATUS_ECONOMY = false → b < x.flc.ops.length →
    blockStart o.addr ≠ blockStart a →
    ∃ r, exec (.flashSuspend t a .other) s = .next r ∧
      (∃ p, opOf r b = some p ∧ p.suspended = true ∧ p.ranU = o.ranU + (x.now - o.since)) ∧
      r.get (F.FLC_CNT_COUNT 3) = Nat.min (x.get (F.FLC_CNT_COUNT 3) + 1) 0xFFFFFFFF) ∧
  (∀ (s x : State) (t b : Nat) (o : FlashOp), x = s.at t → opOf x b = some o → o.waiting = true → o.suspended = false →
    suspendable x b o = true → x.flc.waiting = none → x.flc.refreshDue = [] → x.cry.storing = [] → x.on F.BLW_STATUS_ECONOMY = false →
    b < x.flc.ops.length →
    ∃ r, exec (.guardTimeMet t b) s = .next r ∧ ∃ p, opOf r b = some p ∧ p.suspended = true ∧ p.waiting = false) ∧
  (∀ (s x : State) (t b : Nat) (o : FlashOp), x = s.at t → opOf x b = some o → o.suspended = true → x.flc.nested = none →
    o.lastAccess + usU (x.get F.FLC_CFG_IDLE_US) ≤ x.now → x.on F.BLW_STATUS_ECONOMY = false → b < x.flc.ops.length →
    ∃ r, exec (.flashResume t b) s = .next r ∧ ∃ p, opOf r b = some p ∧ p.suspended = false ∧ p.since = x.now ∧
      p.ranU = o.ranU) ∧
  (∀ (s x : State) (t b : Nat) (o : FlashOp) (d : Nat), x = s.at t → opOf x b = some o → o.item = none → o.op = 4 → o.direct = false →
    nextOccupancy x b = some d → d ≤ x.net → x.on F.BLW_STATUS_ECONOMY = true → b < x.flc.ops.length →
    ∃ r, exec (.flashOccupancyStop t b) s = .next r ∧ opOf r b = none ∧
      r.flc.refreshDue = o.addr / 32768 :: x.flc.refreshDue ∧ r.flc.mem = (x.journalDone o).flc.mem) ∧
  (∀ (s x : State) (t a c : Nat) (bs : List Byte), x = s.at t → cachedLine x c (a / 32) = some bs →
    ∃ r, exec (.flashSuspend t a (.fetch c false)) s = .next r ∧ r = x.deliverLoad c (word (leNat (slice bs (a % 32) 4))) ∧
      r.flc = x.flc ∧ r.regs = x.regs) ∧
  (∀ (s x : State) (t a c : Nat), x = s.at t → c < x.cpx.icache.length → 0xF00000 ≤ coreFlash x a % 0x1000000 →
    ∃ r, exec (.flashSuspend t a (.fetch c true)) s = .next r ∧ r.cpx.icache.getD c [] = [] ∧ r.flc = x.flc ∧
      r.cpx.accessFaults = modAt (fun k => k + 1) x.cpx.accessFaults c)

/-- DIRECT_PROGRAM of 1 to 4,096 bytes and DIRECT_ERASE of a whole block of the array, by a core, with nothing of the
direct interface busy, the controller ready, a range that rangeRefusal passes and time before the bank's next
occupancy, start on the idle bank as FLC_DADDR and FLC_DSRC say; while one is busy a second, from any requester, shows
0x0EF4 and changes nothing of the flash; an erase of the boot area shows 0x0E01, also to the security core, and
changes nothing of the flash. SCRUB_REFRESH with two bit errors, where THRESH is at most 1, counts the corrected error
and makes the block due for a refresh. EXEC_LOCK_WRITE sets the locks; with nothing waiting for a bank no byte of the
flash changes. -/
def Obligations.DirectFlash : Prop :=
  (∀ (s x : State) (t a len : Nat) (v : Word), x = s.at t → x.on F.FLC_DSTAT_BUSY = false → bits v.toNat 2 2 = 0 → a = x.get F.FLC_DADDR_ADDR →
    len = bits v.toNat 28 16 → 1 ≤ len → len ≤ 4096 → (x.rd Reg.FLC_DSRC).toNat % 4 = 0 →
    rangeRefusal x a len false = none → x.on F.FLC_STATUS_READY = true → opOf x (bankOf a) = none →
    endsBefore x (bankOf a) (programRunU a len) = true → x.on F.BLW_STATUS_ECONOMY = false → x.flc.refreshDue = [] →
    bankOf a < x.flc.ops.length →
    ∃ r, exec (.directProgram t (.core 0) v) s = .next r ∧ ∃ o, opOf r (bankOf a) = some o ∧ o.op = 1 ∧ o.direct = true ∧
      o.addr = a ∧ o.data = x.sramRead (x.rd Reg.FLC_DSRC).toNat len ∧ o.suspended = false) ∧
  (∀ (s x : State) (t a : Nat) (v : Word), x = s.at t → x.on F.FLC_DSTAT_BUSY = false → bits v.toNat 2 2 = 0 → a = x.get F.FLC_DADDR_ADDR →
    a % 32768 = 0 → a < 0x4000000 →
    rangeRefusal x a 32768 false = none → x.on F.FLC_STATUS_READY = true → opOf x (bankOf a) = none →
    endsBefore x (bankOf a) (eraseRunU a) = true → x.on F.BLW_STATUS_ECONOMY = false → x.flc.refreshDue = [] →
    bankOf a < x.flc.ops.length →
    ∃ r, exec (.directErase t (.core 0) v) s = .next r ∧ ∃ o, opOf r (bankOf a) = some o ∧ o.op = 2 ∧ o.direct = true ∧
      o.addr = a) ∧
  (∀ (s x : State) (t : Nat) (req : Requester) (v : Word), x = s.at t → x.on F.FLC_DSTAT_BUSY = true →
    ∃ r, exec (.directErase t req v) s = .next r ∧ r.get F.FLC_DSTAT_REASON = 0x0EF4 ∧ r.flc = x.flc ∧ r.items = x.items) ∧
  (∀ (s x : State) (t : Nat) (v : Word), x = s.at t → x.on F.FLC_DSTAT_BUSY = false → bits v.toNat 2 2 = 0 → x.get F.FLC_DADDR_ADDR < 0x200000 →
    x.get F.FLC_DADDR_ADDR % 32768 = 0 →
    ∃ r, exec (.directErase t .security v) s = .next r ∧ r.get F.FLC_DSTAT_REASON = 0x0E01 ∧ r.flc = x.flc) ∧
  (∀ (s x : State) (t a : Nat), x = s.at t → x.en Blk.FLC = true → x.on F.FLC_SCRUB_SCRUB_EN = true → x.get F.FLC_SCRUB_THRESH + 1 ≤ 2 →
    a < 0x4000000 → x.flc.ue = [] → x.flc.refreshDue = [] → x.on F.BLW_STATUS_ECONOMY = true →
    ∃ r, exec (.scrubRefresh t a 2) s = .next r ∧ r.flc.refreshDue = [a / 32768] ∧ r.flc.mem = x.flc.mem ∧
      r.get (F.FLC_CNT_COUNT 0) = Nat.min (x.get (F.FLC_CNT_COUNT 0) + 1) 0xFFFFFFFF) ∧
  (∀ (s x : State) (t : Nat) (v : Word), x = s.at t → ∃ r, exec (.execLockWrite t v) s = .next r ∧ r.items = x.items ∧ r.hre = x.hre ∧
      r.get F.FLC_LOCK_EXEC_LOCK = v.toNat % 2 ^ F.FLC_LOCK_EXEC_LOCK.width ∧
      (x.flc.waiting = none → x.flc.refreshDue = [] → x.cry.storing = [] → r.flc.mem = x.flc.mem))

/-- LINE_TEST of an enabled port that is off, whose test is due: a pass clears the fault and starts training, and the
next test is due 100 ms later; a fault, of an off or training port, is shown and the port is off and unlocked.
LINE_SHORT_DETECT of such a port shows fault 4 for a short to VSUP, else 3, and the port is off. RATE_FALLBACK of an
automatic port without lock for 1 s takes the low rate, and its link stays as it is. LOCK_AT_RATE of a training
automatic port: it is locked, and its rate and polarity are those found. LINK_UP of a training port after 16 valid
marks shows its peer's id, and the link is up (2 to 4). LINK_DOWN of an up link that is quiet: the link is off and
shows no peer. UNBLOCK takes exactly the blocked ports to training. Each of the first five and the last leaves the
promise table. -/
def Obligations.SkeinLines : Prop :=
  (∀ (s x : State) (t p pair dist : Nat), x = s.at t → x.skn.ports.length = 3 → portOn x p = true → linkOf x p = 0 →
    (x.port p).testAt ≤ x.now →
    ∃ r, exec (.lineTest t p 0 pair dist) s = .next r ∧ linkOf r p = 1 ∧ r.get (F.SKN_PORT_STATUS_FAULT p) = 0 ∧
      (r.port p).testAt = x.now + msU 100 ∧ r.items = x.items) ∧
  (∀ (s x : State) (t p fault pair dist : Nat), x = s.at t → x.skn.ports.length = 3 → portOn x p = true → linkOf x p ≤ 1 →
    (x.port p).testAt ≤ x.now → 1 ≤ fault → fault ≤ 5 →
    ∃ r, exec (.lineTest t p fault pair dist) s = .next r ∧ linkOf r p = 0 ∧ r.get (F.SKN_PORT_STATUS_FAULT p) = fault ∧
      (r.port p).locked = false ∧ r.items = x.items) ∧
  (∀ (s x : State) (t p pair : Nat) (v : Bool), x = s.at t → x.skn.ports.length = 3 → portOn x p = true → linkOf x p ≤ 1 →
    ∃ r, exec (.lineShortDetect t p v pair) s = .next r ∧ linkOf r p = 0 ∧
      r.get (F.SKN_PORT_STATUS_FAULT p) = (if v then 4 else 3) ∧ r.items = x.items) ∧
  (∀ (s x : State) (t p : Nat), x = s.at t → portOn x p = true → x.get (F.SKN_PORT_CFG_RATE p) = 2 → (x.port p).locked = false →
    (x.port p).unlockedAt + secondU ≤ x.now → linkOf x p ≠ 5 →
    ∃ r, exec (.rateFallback t p) s = .next r ∧ r.on (F.SKN_PORT_STATUS_LOW_RATE p) = true ∧ linkOf r p = linkOf x p ∧
      r.items = x.items) ∧
  (∀ (s x : State) (t p : Nat) (low inv : Bool), x = s.at t → x.skn.ports.length = 3 → portOn x p = true → linkOf x p = 1 →
    x.get (F.SKN_PORT_CFG_RATE p) = 2 →
    ∃ r, exec (.lockAtRate t p low inv) s = .next r ∧ r.on (F.SKN_PORT_STATUS_LOW_RATE p) = low ∧
      r.on (F.SKN_PORT_STATUS_POL_INV p) = inv ∧ (r.port p).locked = true ∧ r.items = x.items) ∧
  (∀ (s x : State) (t p : Nat) (m : Mark), x = s.at t → portOn x p = true → linkOf x p = 1 → (x.port p).peer = some m → 16 ≤ (x.port p).marks →
    ∃ r, exec (.linkUp t p) s = .next r ∧ r.get (F.SKN_PORT_PEER_ID p) = m.sender % 1024 ∧
      r.on (F.SKN_PORT_PEER_V p) = true ∧ 2 ≤ linkOf r p ∧ linkOf r p ≤ 4 ∧ r.items = x.items) ∧
  (∀ (s x : State) (t p : Nat), x = s.at t → linkUp x p = true →
    ∃ r, exec (.linkDown t p true) s = .next r ∧ linkOf r p = 0 ∧ r.on (F.SKN_PORT_PEER_V p) = false) ∧
  (∀ (s x : State) (t : Nat), x = s.at t → ∃ r, exec (.unblock t) s = .next r ∧ r.items = x.items ∧
      (List.range 3).map (linkOf r) = (List.range 3).map (fun p => if linkOf x p = 5 then 1 else linkOf x p))

/-- SKEIN_FRAME_BOUNDARY in a new frame whose number is no multiple of 16: the frame is noted, event 42 is passed on,
every port that is enabled and training or up sends its time mark (markOf), and the network time and the promise table
stay; in the frame already noted it changes nothing. TIME_MARK_RECEIVED on a locked training port: a valid mark counts
towards the link, is kept as the peer's, and its arrival less its ticks is the port's difference; an invalid one, on a
port neither off nor blocked, starts the count again, counts as a miss, and leaves the peer's mark and the link.
DELAY_RECORD on an up link, on a device that is no member: the line's delay is half the sum of the two arrival
differences and the port's asymmetry, and nothing else of the registers changes; on a member's upstream port one θ,
their difference less the asymmetry, is added. -/
def Obligations.SkeinFrames : Prop :=
  (∀ (s x : State) (t f p : Nat) (xo : Int), x = s.at t → x.en Blk.SKN = true → f = x.net / frameUnit → f ≠ x.skn.lastFrame → f % 16 ≠ 0 → x.skn.ports.length = 3 →
    ∃ r, exec (.skeinFrameBoundary t xo) s = .next r ∧ r.skn.lastFrame = f ∧ (42, x.now) ∈ r.evf.raised ∧
      r.net = x.net ∧ r.items = x.items ∧
      (portOn x p = true → 1 ≤ linkOf x p → linkOf x p ≤ 4 → (r.port p).sentMark = some (markOf x p))) ∧
  (∀ (s x : State) (t : Nat) (xo : Int), x = s.at t → x.net / frameUnit = x.skn.lastFrame →
    exec (.skeinFrameBoundary t xo) s = .next x) ∧
  (∀ (s x : State) (t p : Nat) (m : Mark), x = s.at t → x.skn.ports.length = 3 → portOn x p = true → linkOf x p = 1 → (x.port p).locked = true →
    ∃ r, exec (.timeMarkReceived t p m true 0) s = .next r ∧ (r.port p).marks = (x.port p).marks + 1 ∧
      (r.port p).peer = some m ∧ (r.port p).lastMark = x.now ∧
      (r.port p).t21 = some ((x.net : Int) - (m.ticks * tickU : Nat)) ∧ r.items = x.items) ∧
  (∀ (s x : State) (t p n : Nat) (m : Mark), x = s.at t → x.skn.ports.length = 3 → portOn x p = true → 1 ≤ linkOf x p → linkOf x p ≠ 5 →
    (x.port p).locked = true →
    ∃ r, exec (.timeMarkReceived t p m false n) s = .next r ∧ (r.port p).marks = 0 ∧
      (r.port p).misses = (x.port p).misses + 1 ∧ (r.port p).peer = (x.port p).peer ∧ linkOf r p = linkOf x p) ∧
  (∀ (s x : State) (t p : Nat) (a b : Int), x = s.at t → (x.port p).t21 = some a → linkUp x p = true → sknState x ≠ 3 →
    ∃ r, exec (.delayRecord t p b) s = .next r ∧ r.skn = x.skn ∧ r.items = x.items ∧
      r.get (F.SKN_PORT_DELAY_D_F p) = unsigned 32 ((a + b + signed 32 (x.get (F.SKN_PORT_ASYM_ASYM p))) / 2) ∧
      (∀ q, q ≠ Reg.SKN_PORT_DELAY p → r.rd q = x.rd q)) ∧
  (∀ (s x : State) (t p : Nat) (a b : Int), x = s.at t → (x.port p).t21 = some a → linkUp x p = true → sknState x = 3 → upPort x = p →
    x.skn.thetas.length < 16 →
    ∃ r, exec (.delayRecord t p b) s = .next r ∧
      r.skn.thetas = x.skn.thetas ++ [a - b - signed 32 (x.get (F.SKN_PORT_ASYM_ASYM p))])

/-- ELECT_RECORD on an up link is kept as the peer's view. INCUMBENCY after 1,024 frames as head makes the head
incumbent. ELECTION_SETTLED, with the view unchanged for 1,024 frames: with no candidate the device is HEADLESS (6)
and SKN_ISR bit 3 is set; where the view names this device it is head (4) with HOPS 0, from now. ORPHAN_TIMEOUT after
16 frames in ORPHAN (5): the deputy is head (4) with HOPS 0, another device is in election (2), whose view counts from
now; in any other state nothing changes. None of these changes the promise table. -/
def Obligations.SkeinElections : Prop :=
  (∀ (s x : State) (t p : Nat) (h : Cand) (d : Option Cand), x = s.at t → x.skn.ports.length = 3 → linkUp x p = true →
    ∃ r, exec (.electRecord t p h d) s = .next r ∧ (r.port p).viewHead = some h ∧ (r.port p).viewDep = d ∧ r.items = x.items) ∧
  (∀ (s x : State) (t : Nat), x = s.at t → sknState x = 4 → x.skn.incumbent = false → x.skn.headSince + 1024 * frameUnit ≤ x.now →
    ∃ r, exec (.incumbency t) s = .next r ∧ r.skn.incumbent = true ∧ sknState r = 4 ∧ r.items = x.items) ∧
  (∀ (s x : State) (t : Nat), x = s.at t → sknState x = 2 → x.skn.viewAt + 1024 * frameUnit ≤ x.now → x.skn.viewHead = none →
    ∃ r, exec (.electionSettled t) s = .next r ∧ sknState r = 6 ∧ bits (r.rd Reg.SKN_ISR).toNat 3 3 = 1 ∧ r.items = x.items) ∧
  (∀ (s x : State) (t : Nat) (c : Cand), x = s.at t → sknState x = 2 → x.skn.viewAt + 1024 * frameUnit ≤ x.now →
    x.skn.viewHead = some c → c.id = sknId x →
    ∃ r, exec (.electionSettled t) s = .next r ∧ sknState r = 4 ∧ r.get F.SKN_STATUS_HOPS = 0 ∧
      r.skn.headSince = x.now ∧ r.items = x.items) ∧
  (∀ (s x : State) (t : Nat), x = s.at t → sknState x = 5 → x.skn.orphanSince + 16 * frameUnit ≤ x.now →
    x.on F.SKN_STATUS_DEPUTY = true →
    ∃ r, exec (.orphanTimeout t) s = .next r ∧ sknState r = 4 ∧ r.get F.SKN_STATUS_HOPS = 0 ∧ r.items = x.items) ∧
  (∀ (s x : State) (t : Nat), x = s.at t → sknState x = 5 → x.skn.orphanSince + 16 * frameUnit ≤ x.now →
    x.on F.SKN_STATUS_DEPUTY = false →
    ∃ r, exec (.orphanTimeout t) s = .next r ∧ sknState r = 2 ∧ r.skn.viewAt = x.now ∧ r.items = x.items) ∧
  (∀ (s x : State) (t : Nat), x = s.at t → sknState x ≠ 5 → exec (.orphanTimeout t) s = .next x)

/-- ENUM_RECORD on an up link: a device not in the member table is entered with its port and the present time; this
device's own id blocks the port and sets SKN_ISR bit 5. PRUNE_RECORD on an up link removes exactly the members whose
chain of parents passes through the named port of the named device. ENUM_REFRESH of a member whose second is over
sends (the next is due 1 s later) and leaves the member table. MEMBER_TIMEOUT removes exactly the named device, if
silent for 3 s. QUENCH_RECORD of the device's head, the first from it, with set, quenches the device and keeps its
sequence number; one that names another head changes nothing. QUENCH_RELEASE ends the skein quench and sets SKN_ISR
bit 7. -/
def Obligations.SkeinTree : Prop :=
  (∀ (s x : State) (t p : Nat) (e : Enum), x = s.at t → linkUp x p = true → e.id ≠ sknId x → memberOf x e.id = none →
    ∃ r, exec (.enumRecord t p e) s = .next r ∧ r.skn.members = x.skn.members ++ [⟨e, p, x.now⟩] ∧ r.items = x.items) ∧
  (∀ (s x : State) (t p : Nat) (e : Enum), x = s.at t → linkUp x p = true → e.id = sknId x →
    ∃ r, exec (.enumRecord t p e) s = .next r ∧ linkOf r p = 5 ∧ bits (r.rd Reg.SKN_ISR).toNat 5 5 = 1) ∧
  (∀ (s x : State) (t p id port : Nat), x = s.at t → linkUp x p = true →
    ∃ r, exec (.pruneRecord t p id port) s = .next r ∧ r.items = x.items ∧
      r.skn.members = x.skn.members.filter (fun m => !chainPasses x id port m.e.id (x.skn.members.length + 1))) ∧
  (∀ (s x : State) (t : Nat), x = s.at t → x.en Blk.SKN = true → sknState x = 3 → upPort x ≠ 3 → x.skn.enumAt ≤ x.now → upPort x < x.skn.ports.length →
    ∃ r, exec (.enumRefresh t) s = .next r ∧ (r.port (upPort x)).recs.length = (x.port (upPort x)).recs.length + 1 ∧
      r.skn.enumAt = x.now + secondU ∧ r.skn.members = x.skn.members ∧
      r.regs = x.regs ∧ r.items = x.items) ∧
  (∀ (s x : State) (t id : Nat), x = s.at t → ∃ r, exec (.memberTimeout t id) s = .next r ∧ r.items = x.items ∧
      r.skn.members = x.skn.members.filter (fun m => !(m.e.id == id && decide (m.seen + 3 * secondU ≤ x.now)))) ∧
  (∀ (s x : State) (t p seq : Nat), x = s.at t → linkUp x p = true → sknState x ≠ 4 → x.skn.quenchHead ≠ some (x.get F.SKN_STATUS_HEAD_ID) →
    x.on F.SKN_STATUS_SQUENCH = false →
    ∃ r, exec (.quenchRecord t p (x.get F.SKN_STATUS_HEAD_ID) true seq) s = .next r ∧ r.on F.SKN_STATUS_SQUENCH = true ∧
      r.skn.quenchSeq = seq ∧ bits (r.rd Reg.SKN_ISR).toNat 7 7 = 1) ∧
  (∀ (s x : State) (t p head seq : Nat) (set : Bool), x = s.at t → head ≠ x.get F.SKN_STATUS_HEAD_ID →
    exec (.quenchRecord t p head set seq) s = .next x) ∧
  (∀ (s x : State) (t : Nat), x = s.at t → x.on F.SKN_STATUS_SQUENCH = true →
    ∃ r, exec (.quenchRelease t) s = .next r ∧ r.on F.SKN_STATUS_SQUENCH = false ∧ r.items = x.items ∧
      bits (r.rd Reg.SKN_ISR).toNat 7 7 = 1)

/-- SKN_SEND of a message to another device, with room in the hold memory, takes the next sequence number and waits
for admission with its payload. SKN_REMOTE_RESET on a device that is not head is refused with 0x0D06; at the head, to
another device, with a key that may be used and room in the hold memory, it waits for admission as a message of kind
2. SKEIN_DEPART of a message in its committed skein frame, with no quench and nothing that voids it: a broadcast with
a path counts in SKN_CNT[0], is decided and completes DONE with reason 0; a message whose path is lost is held, and no
register and no completion changes. SKEIN_MESSAGE_RECEIVED on an upstream or downstream link: one with a wrong CRC
only counts in SKN_CNT[5]; one of kind 0 and channel 0 for this device, not yet delivered, from an origin without a
route, joins the firmware's messages and is noted as delivered. SKEIN_ACK_RECEIVED with RESULT 0 for a message sent
once and never held decides it, DONE with reason 0. ACK_TIMEOUT 64 frames after a departure at full rate makes the
message leave again at the next frame boundary. HOLD_EXPIRY, HOLD_MS after the committed time, decides an item that
found no path or no answer with status 4 and 0x0D01. -/
def Obligations.SkeinMessages : Prop :=
  (∀ (s x : State) (t : Nat) (f : Fetched) (rest : List Fetched), x = s.at t → takeTurn (fun g => wbits g.words 0 7 0 == 0x60) (busyRings x) x.hre.fetched = some (f, rest) → x.en Blk.SKN = true →
    wbits f.words 6 10 10 = 0 → wbits f.words 6 11 11 = 0 → wbits f.words 6 9 0 ≠ sknId x →
    (heldMessages x).length < 1024 → heldBytes x + f.buf.length ≤ 524288 →
    ∃ r, exec (.sknSend t) s = .next r ∧ r.skn.seq = (x.skn.seq + 1) % 65536 ∧ r.hre.outq = x.hre.outq ∧ r.items = x.items ∧
      ∃ w k, r.chn.awaiting = x.chn.awaiting ++ [w] ∧ w.owner = .host ∧ w.kind = .skein k ∧ k.payload = f.buf ∧
        k.dest = wbits f.words 6 9 0 ∧ k.seq = x.skn.seq ∧ k.bcast = false) ∧
  (∀ (s x y : State) (t : Nat) (f : Fetched) (rest : List Fetched), x = s.at t → takeTurn (fun g => wbits g.words 0 7 0 == 0x61) (busyRings x) x.hre.fetched = some (f, rest) →
    y = { x with hre := { x.hre with fetched := rest } } → x.en Blk.SKN = true → wbits f.words 6 11 10 < 2 →
    sknState x ≠ 4 → exec (.sknRemoteReset t) s = .next (y.refuse f.ring f.words 0x0D06)) ∧
  (∀ (s x : State) (t : Nat) (f : Fetched) (rest : List Fetched), x = s.at t → takeTurn (fun g => wbits g.words 0 7 0 == 0x61) (busyRings x) x.hre.fetched = some (f, rest) → x.en Blk.SKN = true →
    wbits f.words 6 11 10 < 2 → sknState x = 4 → wbits f.words 6 9 0 ≠ sknId x →
    slotRefuses x (x.get F.SKN_CFG_RESET_SLOT) 2 = none → slotMode x (x.get F.SKN_CFG_RESET_SLOT) 6 = true →
    (heldMessages x).length < 1024 → heldBytes x + 16 ≤ 524288 →
    ∃ r, exec (.sknRemoteReset t) s = .next r ∧ r.hre.outq = x.hre.outq ∧
      ∃ w k, r.chn.awaiting = x.chn.awaiting ++ [w] ∧ w.kind = .skein k ∧ k.kind = 2 ∧ k.dest = wbits f.words 6 9 0) ∧
  (∀ (s x : State) (t idx : Nat) (i : Item) (k : SkeinInfo), x = s.at t → x.item idx = some i → i.kind = .skein k → i.decided = false →
    i.started = false → k.held = false → isDue x i = true → x.net / frameUnit = i.due / frameUnit → dueVoid x = none →
    slotQuenched x (asn i.due) (asn i.due + 1) = false → pathLost x k = false → k.kind = 0 → k.bcast = true → i.owner = .host →
    ∃ r, exec (.skeinDepart t idx) s = .next r ∧ (∃ j, r.item idx = some j ∧ j.decided = true) ∧
      r.get (F.SKN_CNT_COUNT 0) = Nat.min (x.get (F.SKN_CNT_COUNT 0) + 1) 0xFFFFFFFF ∧
      ∃ q, r.hre.outq = x.hre.outq ++ [q] ∧ q.status = 2 ∧ q.reason = 0 ∧ q.tag = i.tag) ∧
  (∀ (s x : State) (t idx : Nat) (i : Item) (k : SkeinInfo), x = s.at t → x.item idx = some i → i.kind = .skein k → i.decided = false →
    i.started = false → k.held = false → isDue x i = true → x.net / frameUnit = i.due / frameUnit → dueVoid x = none →
    slotQuenched x (asn i.due) (asn i.due + 1) = false → pathLost x k = true →
    ∃ r, exec (.skeinDepart t idx) s = .next r ∧ r.regs = x.regs ∧ r.hre = x.hre ∧
      ∃ j, r.item idx = some j ∧ j.kind = .skein { k with held := true, lastFail := 0 } ∧ j.decided = false) ∧
  (∀ (s x : State) (t p : Nat) (m : SknMsg) (fail : Bool), x = s.at t → linkUp x p = true → linkOf x p ≠ 4 →
    exec (.skeinMessageReceived t p m false fail) s = .next (x.count (F.SKN_CNT_COUNT 5))) ∧
  (∀ (s x : State) (t p : Nat) (m : SknMsg), x = s.at t → linkUp x p = true → linkOf x p ≠ 4 → m.bcast = false → m.dest = sknId x →
    m.kind = 0 → m.channel = 0 → wasDelivered x m = false → routeTo x m.origin = none →
    ∃ r, exec (.skeinMessageReceived t p m true false) s = .next r ∧ r.skn.firmware = x.skn.firmware ++ [m] ∧
      wasDelivered r m = true ∧ r.hre = x.hre ∧ r.items = x.items) ∧
  (∀ (s x : State) (t seq : Nat) (i : Item) (k : SkeinInfo), x = s.at t → x.items.find? (fun (i : Item) => !i.decided && i.started &&
      (match i.kind with | .skein k => k.seq == seq && !k.bcast | _ => false)) = some i → i.kind = .skein k →
    x.item i.idx = some i → i.owner = .host → k.resends = 0 → k.held = false →
    ∃ r, exec (.skeinAckReceived t seq 0) s = .next r ∧ (∃ j, r.item i.idx = some j ∧ j.decided = true) ∧
      ∃ q, r.hre.outq = x.hre.outq ++ [q] ∧ q.status = 2 ∧ q.reason = 0 ∧ q.tag = i.tag) ∧
  (∀ (s x : State) (t idx d : Nat) (i : Item) (k : SkeinInfo), x = s.at t → x.item idx = some i → i.kind = .skein k → k.sentAt = some d →
    i.decided = false → k.resendAt = none → x.on (F.SKN_PORT_STATUS_LOW_RATE k.port) = false →
    d + 64 * frameUnit ≤ x.net →
    ∃ r, exec (.ackTimeout t idx) s = .next r ∧ r.hre = x.hre ∧ ∃ j y, r.item idx = some j ∧ j.kind = .skein y ∧
      y.resendAt = some ((x.net / frameUnit + 1) * frameUnit) ∧ j.decided = false) ∧
  (∀ (s x : State) (t idx : Nat) (i : Item) (k : SkeinInfo), x = s.at t → x.item idx = some i → i.kind = .skein k → i.decided = false →
    i.owner = .host → i.committed + msU (x.get F.SKN_MSG_HOLD_MS) ≤ x.net → k.lastFail = 0 →
    ∃ r, exec (.holdExpiry t idx) s = .next r ∧ (∃ j, r.item idx = some j ∧ j.decided = true) ∧
      ∃ q, r.hre.outq = x.hre.outq ++ [q] ∧ q.status = 4 ∧ q.reason = 0x0D01 ∧ q.tag = i.tag)

/-- REMOTE_RESET_RECEIVED, new, on an enabled device without a route to its origin: one that resetAccepted passes is
set for the first slot boundary at least 1 ms later, with its kind and its time; any other leaves what was set and
sets SKN_ISR bit 6; no item changes. REMOTE_RESET_EXECUTE at or after that boundary is exactly an application reset
with cause 12 for kind 1 and a device reset with cause 12 for kind 0; before it, nothing. AGGREGATED_COPY_DELIVERY at
the head, of a frame received here or reported, within one beacon period of its first reception, with a free buffer
and a free completion entry: the merged copy, if it fits, takes the buffer, is noted, and completes DONE with the
buffer's tag on ring 9; if it does not fit, buffers and notes stay; a frame merged before changes nothing.
EVENT_CELL_RECEIVED on a tree port: one with a broken check, with EVF enabled, only counts in EVF_CNT[3]; a valid one
without a notice, with EVF disabled, joins the next cell of every other tree port and changes no register and no cell
of its own port. -/
def Obligations.SkeinRemote : Prop :=
  (∀ (s x : State) (t : Nat) (m : SknMsg), x = s.at t → x.en Blk.SKN = true → wasDelivered x m = false → routeTo x m.origin = none →
    ∃ r, exec (.remoteResetReceived t m) s = .next r ∧ r.items = x.items ∧
      (resetAccepted x m = true → r.skn.lastReset = m.time ∧
        r.skn.resetPending = some ((x.net + msU 1 + slotU - 1) / slotU * slotU, (m.payload.getD 0 0).toNat)) ∧
      (resetAccepted x m = false → r.skn.resetPending = x.skn.resetPending ∧ bits (r.rd Reg.SKN_ISR).toNat 6 6 = 1)) ∧
  (∀ (s x : State) (t a : Nat), x = s.at t → x.skn.resetPending = some (a, 1) → a ≤ x.net →
    exec (.remoteResetExecute t) s =
      .next ({ x with skn := { x.skn with resetPending := none } }.appReset 12)) ∧
  (∀ (s x : State) (t a : Nat), x = s.at t → x.skn.resetPending = some (a, 0) → a ≤ x.net →
    exec (.remoteResetExecute t) s =
      .next ({ x with skn := { x.skn with resetPending := none } }.deviceReset 12)) ∧
  (∀ (s x : State) (t a k : Nat), x = s.at t → x.skn.resetPending = some (a, k) → x.net < a →
    exec (.remoteResetExecute t) s = .next x) ∧
  (∀ (s x : State) (t addr fcnt first : Nat) (frame : List Byte) (others : List (Nat × Nat)) (b : RxBuf) (rest : List RxBuf), x = s.at t →
    addr = uplinkAddr (leNat (slice frame 2 3)) (leNat (slice frame 5 3)) → fcnt = leNat (slice frame 8 4) → sknState x = 4 → copyList x addr fcnt others ≠ [] →
    firstReception x addr fcnt first ≤ x.now → x.now ≤ firstReception x addr fcnt first + 2 ^ x.get F.MAC_DRONE_PERIOD_LOG2 * slotU →
    x.skn.merged.any (fun y => y.1 == addr && y.2.1 == fcnt) = false → x.en Blk.HRE = true → x.hre.buffers = b :: rest →
    reservedBuffers x < x.hre.buffers.length → ringUp x (16 + x.get F.SKN_CFG_CRING) = true →
    1 ≤ freeSpace x (16 + x.get F.SKN_CFG_CRING) 9 →
    ∃ r, exec (.aggregatedCopyDelivery t first frame others false) s = .next r ∧ r.items = x.items ∧
      ((Config.mergedCopy frame ((copyList x addr fcnt others).take 16)).length ≤ b.len → r.hre.buffers = rest ∧ r.skn.merged = (addr, fcnt, x.now) :: x.skn.merged ∧
        r.hre.outq.length = x.hre.outq.length + 1 ∧
        (r.hre.outq.getLast?).any (fun q => q.status == 2 && q.tag == b.tag && q.ring == 9) = true) ∧
      (b.len < (Config.mergedCopy frame ((copyList x addr fcnt others).take 16)).length → r.hre = x.hre ∧ r.skn = x.skn)) ∧
  (∀ (s x : State) (t addr fcnt first : Nat) (frame : List Byte) (others : List (Nat × Nat)) (fail : Bool), x = s.at t → addr = uplinkAddr (leNat (slice frame 2 3)) (leNat (slice frame 5 3)) → fcnt = leNat (slice frame 8 4) →
    x.skn.merged.any (fun y => y.1 == addr && y.2.1 == fcnt) = true →
    exec (.aggregatedCopyDelivery t first frame others fail) s = .next x) ∧
  (∀ (s x : State) (t p kind origin seq : Nat) (v : Word), x = s.at t → p ∈ treePorts x → linkOf x p ≠ 4 → x.en Blk.EVF = true →
    exec (.eventCellReceived t p false v kind origin seq) s = .next (x.count (F.EVF_CNT_COUNT 3))) ∧
  (∀ (s x : State) (t p q origin seq : Nat) (v : Word), x = s.at t → x.skn.ports.length = 3 → p ∈ treePorts x → q ∈ treePorts x → q ≠ p →
    x.en Blk.EVF = false →
    ∃ r, exec (.eventCellReceived t p true v 0 origin seq) s = .next r ∧ r.regs = x.regs ∧ r.items = x.items ∧
      (r.port q).cells = cellSkc (nextCell x q) v (x.port q).cells ∧ (r.port p).cells = (x.port p).cells)

/-- EVENT_FIRE with no trigger waiting takes the oldest event: while EVF is disabled, or for a reserved event or one
whose publisher is off, no register changes; published onto a channel of a disabled group it counts in EVF_CNT[1] and
no timer changes; published onto a channel to which the START of timer 0 alone is subscribed, below the loop monitor's
limit and for the first time in its cycle, it starts that timer at its PHASE. SWFIRE of channel 0, bound to a skein
channel, shows 0x1102 and no timer changes; bound to none, it is exactly a publish onto the channel two fabric cycles
on. GRP_SET, the first change of its cycle, enables the groups of its mask and clears their LATCH; GRP_CLR, likewise,
disables them and keeps LATCH. PUB_SUB_WRITE that pubSubBad names, while EVF is enabled, leaves its register and shows
0x11F6; any other is exactly a register write by its code. -/
def Obligations.EventFabric : Prop :=
  (∀ (s x : State) (t e u : Nat) (rest : List (Nat × Nat)), x = s.at t → x.evf.waiting = [] → x.evf.raised = (e, u) :: rest →
    (x.en Blk.EVF = false ∨ 60 ≤ e ∨ x.on (F.EVF_PUB_EN e) = false) →
    ∃ r, exec (.eventFire t) s = .next r ∧ r.evf.raised = rest ∧ r.regs = x.regs ∧ r.items = x.items) ∧
  (∀ (s x : State) (t e u ch : Nat) (rest : List (Nat × Nat)), x = s.at t → x.evf.waiting = [] → x.evf.raised = (e, u) :: rest →
    x.en Blk.EVF = true → e < 60 → x.on (F.EVF_PUB_EN e) = true → ch = x.get (F.EVF_PUB_CHANNEL e) →
    x.evf.lastFire.any (fun p => p.1 == ch && p.2 == fabricCycle x u) = false →
    groupEnabled x (fabricCycle x u) (groupOf ch) = false →
    ∃ r, exec (.eventFire t) s = .next r ∧ r.evf.raised = rest ∧ r.tmb = x.tmb ∧ r.items = x.items ∧
      r.get (F.EVF_CNT_COUNT 1) = Nat.min (x.get (F.EVF_CNT_COUNT 1) + 1) (2 ^ (F.EVF_CNT_COUNT 1).width - 1)) ∧
  (∀ (s x : State) (t e u ch : Nat) (rest : List (Nat × Nat)), x = s.at t → x.evf.waiting = [] → x.evf.raised = (e, u) :: rest →
    x.en Blk.EVF = true → e < 60 → x.on (F.EVF_PUB_EN e) = true → ch = x.get (F.EVF_PUB_CHANNEL e) →
    x.evf.lastFire.any (fun p => p.1 == ch && p.2 == fabricCycle x u) = false →
    groupEnabled x (fabricCycle x u) (groupOf ch) = true → x.evf.recent = [] → 1 < x.get F.EVF_MON_LIMIT →
    boundTo x (fabricCycle x u) ch = [] → subscribers x ch = [0] → x.evf.lastTrigger = [] → x.en Blk.TMB = true →
    tmbRun x 0 = false → x.tmb.snaps = List.replicate 16 none →
    ∃ r, exec (.eventFire t) s = .next r ∧ r.evf.raised = rest ∧ tmbRun r 0 = true ∧
      r.get (F.TMB_CH_COUNT_COUNT 0) = x.get (F.TMB_CH_PHASE_PHASE 0) ∧ r.items = x.items) ∧
  (∀ (s x : State) (t n : Nat), x = s.at t → x.en Blk.EVF = true → n < 32 → x.on (F.EVF_SKPUB_EN n) = true → x.get (F.EVF_SKPUB_SOURCE n) = 0 →
    ∃ r, exec (.swfire t 0 1) s = .next r ∧ r.get F.EVF_STATUS_LAST_REASON = 0x1102 ∧ r.tmb = x.tmb ∧ r.items = x.items) ∧
  (∀ (s x : State) (t : Nat), x = s.at t → x.en Blk.EVF = true → (List.range 32).all (fun n => !x.on (F.EVF_SKPUB_EN n)) = true →
    exec (.swfire t 0 1) s = .next (x.publish 0 (fabricCycle x x.now + 2) x.now)) ∧
  (∀ (s x : State) (t : Nat) (v : Word), x = s.at t → fabricCycle x x.now ≠ x.evf.groupCycle →
    ∃ r, exec (.grpSet t v) s = .next r ∧ r.get F.EVF_GROUPS_EN = (x.get F.EVF_GROUPS_EN ||| v.toNat % 65536) ∧
      r.get F.EVF_LOOP_LATCH = x.get F.EVF_LOOP_LATCH &&& (65535 - v.toNat % 65536) ∧ r.items = x.items) ∧
  (∀ (s x : State) (t : Nat) (v : Word), x = s.at t → fabricCycle x x.now ≠ x.evf.groupCycle →
    ∃ r, exec (.grpClr t v) s = .next r ∧ r.get F.EVF_GROUPS_EN = x.get F.EVF_GROUPS_EN &&& (65535 - v.toNat % 65536) ∧
      r.get F.EVF_LOOP_LATCH = x.get F.EVF_LOOP_LATCH ∧ r.items = x.items) ∧
  (∀ (s x : State) (t a : Nat) (v : Word), x = s.at t → isPubSub a = true → x.en Blk.EVF = true → pubSubBad a v = true →
    ∃ r, exec (.pubSubWrite t a v) s = .next r ∧ r.rd a = x.rd a ∧ r.get F.EVF_STATUS_LAST_REASON = 0x11F6 ∧
      r.items = x.items) ∧
  (∀ (s x : State) (t a : Nat) (v : Word), x = s.at t → isPubSub a = true → pubSubBad a v = false →
    exec (.pubSubWrite t a v) s = .next (x.writeByCode a v))

/-- TIMER_TICK of a running channel whose tick is due: below PERIOD its count is one more, it runs on, and no other
channel's count changes; at PERIOD its count is 0, its wrap's event is raised, and it runs on unless ONESHOT is set.
With TMB enabled, of one channel: GSTART of a stopped one, in a new cycle, loads PHASE and runs it; GSTOP stops it and
holds its count; both leave every other channel's STATUS; GRELOAD loads PHASE and keeps RUN. With TMB disabled GSTART
changes nothing. STAGGER of channels 0 and 1 gives them PHASE 0 and half of channel 1's PERIOD + 1, and leaves channel
2's. TIMER_CTL_WRITE of a running channel keeps PRESC and shows 0x1202; of a stopped one it writes PRESC and ONESHOT.
-/
def Obligations.TimerBank : Prop :=
  (∀ (s x : State) (t n : Nat), x = s.at t → n < 16 → x.en Blk.TMB = true → tmbRun x n = true → x.tmb.tickAt.getD n 0 ≤ x.now →
    x.get (F.TMB_CH_COUNT_COUNT n) < x.get (F.TMB_CH_PERIOD_PERIOD n) →
    ∃ r, exec (.timerTick t n) s = .next r ∧ r.get (F.TMB_CH_COUNT_COUNT n) = x.get (F.TMB_CH_COUNT_COUNT n) + 1 ∧
      tmbRun r n = true ∧ (∀ k, k ≠ n → k < 16 → r.rd (Reg.TMB_CH_COUNT k) = x.rd (Reg.TMB_CH_COUNT k)) ∧ r.items = x.items) ∧
  (∀ (s x : State) (t n : Nat), x = s.at t → n < 16 → x.en Blk.TMB = true → tmbRun x n = true → x.tmb.tickAt.getD n 0 ≤ x.now →
    x.get (F.TMB_CH_COUNT_COUNT n) = x.get (F.TMB_CH_PERIOD_PERIOD n) →
    ∃ r, exec (.timerTick t n) s = .next r ∧ r.get (F.TMB_CH_COUNT_COUNT n) = 0 ∧ (16 + n, x.now) ∈ r.evf.raised ∧
      tmbRun r n = !x.on (F.TMB_CH_CTL_ONESHOT n) ∧ r.items = x.items) ∧
  (∀ (s x : State) (t n : Nat), x = s.at t → n < 16 → x.en Blk.TMB = true → x.tmb.snaps.getD n none = none → tmbRun x n = false →
    ∃ r, exec (.gstart t (word (2 ^ n))) s = .next r ∧ tmbRun r n = true ∧
      r.get (F.TMB_CH_COUNT_COUNT n) = x.get (F.TMB_CH_PHASE_PHASE n) ∧
      (∀ k, k ≠ n → k < 16 → r.rd (Reg.TMB_CH_STATUS k) = x.rd (Reg.TMB_CH_STATUS k)) ∧ r.items = x.items) ∧
  (∀ (s x : State) (t n : Nat), x = s.at t → n < 16 → x.en Blk.TMB = true →
    ∃ r, exec (.gstop t (word (2 ^ n))) s = .next r ∧ tmbRun r n = false ∧
      r.get (F.TMB_CH_COUNT_COUNT n) = x.get (F.TMB_CH_COUNT_COUNT n) ∧
      (∀ k, k ≠ n → k < 16 → r.rd (Reg.TMB_CH_STATUS k) = x.rd (Reg.TMB_CH_STATUS k)) ∧ r.items = x.items) ∧
  (∀ (s x : State) (t n : Nat), x = s.at t → n < 16 → x.en Blk.TMB = true →
    ∃ r, exec (.greload t (word (2 ^ n))) s = .next r ∧ tmbRun r n = tmbRun x n ∧
      r.get (F.TMB_CH_COUNT_COUNT n) = x.get (F.TMB_CH_PHASE_PHASE n) ∧ r.items = x.items) ∧
  (∀ (s x : State) (t : Nat) (v : Word), x = s.at t → x.en Blk.TMB = false → exec (.gstart t v) s = .next x) ∧
  (∀ (s x : State) (t : Nat), x = s.at t → ∃ r, exec (.stagger t 3) s = .next r ∧ r.get (F.TMB_CH_PHASE_PHASE 0) = 0 ∧
      r.get (F.TMB_CH_PHASE_PHASE 1) = (x.get (F.TMB_CH_PERIOD_PERIOD 1) + 1) / 2 ∧
      r.rd (Reg.TMB_CH_PHASE 2) = x.rd (Reg.TMB_CH_PHASE 2) ∧ r.items = x.items) ∧
  (∀ (s x : State) (t n : Nat) (v : Word), x = s.at t → n < 16 → tmbRun x n = true →
    ∃ r, exec (.timerCtlWrite t n v) s = .next r ∧ r.get (F.TMB_CH_CTL_PRESC n) = x.get (F.TMB_CH_CTL_PRESC n) ∧
      r.get (F.TMB_CH_STATUS_REASON n) = 0x1202 ∧ r.items = x.items) ∧
  (∀ (s x : State) (t n : Nat) (v : Word), x = s.at t → n < 16 → tmbRun x n = false →
    ∃ r, exec (.timerCtlWrite t n v) s = .next r ∧ r.get (F.TMB_CH_CTL_PRESC n) = bits v.toNat 3 0 ∧
      r.get (F.TMB_CH_CTL_ONESHOT n) = bits v.toNat 4 4 ∧ r.items = x.items)

/-- At the wrap of a channel with ONESHOT, RUN clears and COUNT is 0, and no later tick moves it. A write of CTL while
RUN is 1 leaves PRESC, shows 0x1202 in the channel's REASON, and sets bit n of PRESC_REJ. -/
def Obligations.OneShotAndPrescaler : Prop :=
  (∀ (s x : State) (t u n : Nat), x = s.at t → n < 16 → x.en Blk.TMB = true → tmbRun x n = true → x.tmb.tickAt.getD n 0 ≤ x.now →
    x.get (F.TMB_CH_PERIOD_PERIOD n) ≤ x.get (F.TMB_CH_COUNT_COUNT n) → x.on (F.TMB_CH_CTL_ONESHOT n) = true →
    ∃ r, exec (.timerTick t n) s = .next r ∧ tmbRun r n = false ∧ r.get (F.TMB_CH_COUNT_COUNT n) = 0 ∧
      ∃ q, exec (.timerTick u n) r = .next q ∧ q = r.at u) ∧
  (∀ (s x : State) (t n : Nat) (v : Word), x = s.at t → n < 16 → tmbRun x n = true →
    ∃ r, exec (.timerCtlWrite t n v) s = .next r ∧ r.get (F.TMB_CH_CTL_PRESC n) = x.get (F.TMB_CH_CTL_PRESC n) ∧
      r.get (F.TMB_CH_STATUS_REASON n) = 0x1202 ∧ bits (r.rd Reg.TMB_ISR).toNat (16 + n) (16 + n) = 1)

/-- Each channel of the mask takes the PHASE floor(k × (PERIOD + 1) ÷ m), where k channels of the mask stand below it,
m channels are in the mask, and PERIOD is its own; the other channels keep their PHASE. A following GSTART with the
same mask starts its channels, each at that phase. -/
def Obligations.StaggerSpreads : Prop :=
  ∀ (s x : State) (t u n : Nat) (v : Word), x = s.at t → x.en Blk.TMB = true → (List.range 16).all (fun n => !tmbRun x n) = true →
    x.tmb.snaps = List.replicate 16 none → n < 16 →
    ∃ r, exec (.stagger t v) s = .next r ∧
      (bits v.toNat n n = 1 → r.get (F.TMB_CH_PHASE_PHASE n) =
        ((List.range n).filter (fun i => bits v.toNat i i == 1)).length * (x.get (F.TMB_CH_PERIOD_PERIOD n) + 1) / ((List.range 16).filter (fun i => bits v.toNat i i == 1)).length) ∧
      (bits v.toNat n n = 0 → r.get (F.TMB_CH_PHASE_PHASE n) = x.get (F.TMB_CH_PHASE_PHASE n)) ∧
      ∃ q, exec (.gstart u v) r = .next q ∧
        (bits v.toNat n n = 1 → q.get (F.TMB_CH_COUNT_COUNT n) = r.get (F.TMB_CH_PHASE_PHASE n) ∧ tmbRun q n = true)

/-- STORE_WRITE replaces the stored energy; on a budget source nothing else of the model and no interrupt changes; on
a stored source from at least floor 0 to below it, it sets BLW_ISR bit 3. COMMIT of shadow registers whose floors
conflict shows result 3 and 0x03F7 with the register that floorConflict names in BLK_CHK, and the model stays;
otherwise the shadow registers are the model, MODEL_VALID is set, and the stored energy and the budget stay.
BUDGET_PERIOD_START of an enabled Bellows on a budget source at the end of a period: the next period starts there,
with the charges made for it, an empty meter, the background of the ended one among the last four, and CAP_MW over the
period as its budget; before the end it changes nothing. HARVEST_HOUR_END at the end of one local hour on a stored
source below its capacity credits that hour's forecast up to the capacity; within an hour it changes nothing.
METER_SAMPLE adds to the meter and, on a stored source, is taken from the stored energy. None of these changes the
promise table. -/
def Obligations.EnergyAccounts : Prop :=
  (∀ (s x : State) (t : Nat) (v : Word), x = s.at t → x.on F.BLW_CFG_MODE = false →
    ∃ r, exec (.storeWrite t v) s = .next r ∧ r.blw.store = v.toNat * 1000 ∧ r.get F.BLW_STORE_MJ = v.toNat ∧
      r.blw.model = x.blw.model ∧ r.rd Reg.BLW_ISR = x.rd Reg.BLW_ISR ∧ r.items = x.items) ∧
  (∀ (s x : State) (t : Nat) (v : Word), x = s.at t → x.on F.BLW_CFG_MODE = true → x.blw.model.floors.getD 0 0 * 1000 ≤ x.blw.store →
    v.toNat < x.blw.model.floors.getD 0 0 →
    ∃ r, exec (.storeWrite t v) s = .next r ∧ r.blw.store = v.toNat * 1000 ∧ bits (r.rd Reg.BLW_ISR).toNat 3 3 = 1 ∧
      r.items = x.items) ∧
  (∀ (s x : State) (t f : Nat), x = s.at t → floorConflict x (shadowModel x) = some f →
    ∃ r, exec (.commit t) s = .next r ∧ r.get (F.CHK_STATUS Blk.BLW) = 3 ∧ r.get (F.CHK_REASON Blk.BLW) = 0x03F7 ∧
      r.rd (Reg.BLK_CHK_FIELD Blk.BLW) = word f ∧ r.blw = x.blw ∧ r.items = x.items) ∧
  (∀ (s x : State) (t : Nat), x = s.at t → floorConflict x (shadowModel x) = none →
    ∃ r, exec (.commit t) s = .next r ∧ r.blw.model = shadowModel x ∧ r.on F.BLW_STATUS_MODEL_VALID = true ∧
      r.blw.store = x.blw.store ∧ r.blw.budget = x.blw.budget ∧ r.items = x.items) ∧
  (∀ (s x : State) (t : Nat), x = s.at t → x.en Blk.BLW = true → x.blw.periodStart + periodU x ≤ x.now → x.on F.BLW_CFG_MODE = false →
    ∃ r, exec (.budgetPeriodStart t) s = .next r ∧ r.blw.period = x.blw.period + 1 ∧
      r.blw.periodStart = x.blw.periodStart + periodU x ∧ r.blw.settled = x.blw.settledNext ∧ r.blw.settledNext = 0 ∧
      r.blw.metered = 0 ∧ r.blw.ended = (background x :: x.blw.ended).take 4 ∧
      r.blw.budget = x.blw.model.capMw * x.get F.BLW_CFG_PERIOD_MIN * 60 * 1000 ∧
      bits (r.rd Reg.BLW_ISR).toNat 4 4 = 1 ∧ r.items = x.items) ∧
  (∀ (s x : State) (t : Nat), x = s.at t → x.now < x.blw.periodStart + periodU x → exec (.budgetPeriodStart t) s = .next x) ∧
  (∀ (s x : State) (t : Nat), x = s.at t → localHour x x.net = x.blw.hour + 1 → x.on F.BLW_CFG_MODE = true →
    x.blw.store < x.blw.model.capacity * 1000 →
    ∃ r, exec (.harvestHourEnd t) s = .next r ∧ r.blw.hour = x.blw.hour + 1 ∧
      r.blw.store = Nat.min (x.blw.store + x.blw.model.harvest.getD (x.blw.hour % 24) 0 * 1000000) (x.blw.model.capacity * 1000) ∧
      r.blw.model = x.blw.model ∧ r.items = x.items) ∧
  (∀ (s x : State) (t : Nat), x = s.at t → localHour x x.net = x.blw.hour → exec (.harvestHourEnd t) s = .next x) ∧
  (∀ (s x : State) (t uj mv : Nat), x = s.at t → ∃ r, exec (.meterSample t uj mv) s = .next r ∧ r.blw.meter = (x.blw.meter + uj) % 2 ^ 48 ∧
      r.rd64 Reg.BLW_METER = (x.blw.meter + uj) % 2 ^ 48 ∧
      r.blw.metered = x.blw.metered + uj ∧ r.blw.sampledAt = x.now ∧
      r.blw.store = (if x.on F.BLW_CFG_MODE then x.blw.store - uj else x.blw.store) ∧ r.items = x.items)

/-- SUPPLY_WARNING below the warning level, with WARN 0: with no item started and no economy, WARN and ECONOMY are 1
from now, both interrupt bits are set, event 45 is raised and no item changes; in economy, WARN is 1 and HOLD is 0. At
or above the level it only shows the measurement (State.measured). WARNING_CLEAR above the level and 50 mV, in
economy, with WARN 1: WARN is 0 and the hold runs from now; at or below that it only shows the measurement.
ECONOMY_HOLD_END after the hold, with no item and an idle flash controller and no write of the key store: HOLD and
ECONOMY are 0, event 46 is raised; with no hold it changes nothing. WARN_WRITE above 54 leaves WARN, the warning and
Bellows; of a level not above the present VSUP it sets WARN and leaves ECONOMY. -/
def Obligations.Economy : Prop :=
  (∀ (s x : State) (t mv : Nat), x = s.at t → x.on F.SUP_STATUS_WARN = false → mv < warnLevel x → x.on F.BLW_STATUS_ECONOMY = false →
    x.items.all (fun i => !i.started) = true →
    ∃ r, exec (.supplyWarning t mv) s = .next r ∧ r.on F.SUP_STATUS_WARN = true ∧ r.on F.BLW_STATUS_ECONOMY = true ∧
      r.blw.economyAt = x.now ∧ bits (r.rd Reg.SUP_ISR).toNat 0 0 = 1 ∧ bits (r.rd Reg.BLW_ISR).toNat 0 0 = 1 ∧
      (45, x.now) ∈ r.evf.raised ∧ r.items = x.items) ∧
  (∀ (s x : State) (t mv : Nat), x = s.at t → x.on F.SUP_STATUS_WARN = false → mv < warnLevel x → x.on F.BLW_STATUS_ECONOMY = true →
    ∃ r, exec (.supplyWarning t mv) s = .next r ∧ r.on F.SUP_STATUS_WARN = true ∧ r.on F.BLW_STATUS_HOLD = false ∧
      r.on F.BLW_STATUS_ECONOMY = true ∧ r.blw = x.blw ∧ r.items = x.items) ∧
  (∀ (s x : State) (t mv : Nat), x = s.at t → warnLevel x ≤ mv →
    exec (.supplyWarning t mv) s = .next (x.measured mv)) ∧
  (∀ (s x : State) (t mv : Nat), x = s.at t → x.on F.SUP_STATUS_WARN = true → warnLevel x + 50 < mv → x.on F.BLW_STATUS_ECONOMY = true →
    ∃ r, exec (.warningClear t mv) s = .next r ∧ r.on F.SUP_STATUS_WARN = false ∧ r.on F.BLW_STATUS_HOLD = true ∧
      r.on F.BLW_STATUS_ECONOMY = true ∧ r.blw.holdAt = x.now ∧ bits (r.rd Reg.SUP_ISR).toNat 1 1 = 1 ∧ r.items = x.items) ∧
  (∀ (s x : State) (t mv : Nat), x = s.at t → mv ≤ warnLevel x + 50 →
    exec (.warningClear t mv) s = .next (x.measured mv)) ∧
  (∀ (s x : State) (t : Nat), x = s.at t → x.on F.BLW_STATUS_HOLD = true → x.blw.holdAt + usU (100 * x.get F.BLW_ECON_HOLD) ≤ x.now →
    x.items = [] → x.flc = Flc.reset → x.cry.storing = [] →
    ∃ r, exec (.economyHoldEnd t) s = .next r ∧ r.on F.BLW_STATUS_HOLD = false ∧ r.on F.BLW_STATUS_ECONOMY = false ∧
      (46, x.now) ∈ r.evf.raised ∧ bits (r.rd Reg.BLW_ISR).toNat 1 1 = 1 ∧ r.items = []) ∧
  (∀ (s x : State) (t : Nat), x = s.at t → x.on F.BLW_STATUS_HOLD = false → exec (.economyHoldEnd t) s = .next x) ∧
  (∀ (s x : State) (t mv : Nat) (v : Word), x = s.at t → 54 < bits v.toNat 5 0 →
    ∃ r, exec (.warnWrite t v mv) s = .next r ∧ r.get F.SUP_CFG_WARN = x.get F.SUP_CFG_WARN ∧
      r.on F.SUP_STATUS_WARN = x.on F.SUP_STATUS_WARN ∧ r.blw = x.blw ∧ r.items = x.items) ∧
  (∀ (s x : State) (t mv : Nat) (v : Word), x = s.at t → bits v.toNat 5 0 ≤ 54 → 1800 + 50 * bits v.toNat 5 0 ≤ mv →
    ∃ r, exec (.warnWrite t v mv) s = .next r ∧ r.get F.SUP_CFG_WARN = bits v.toNat 5 0 ∧
      r.on F.BLW_STATUS_ECONOMY = x.on F.BLW_STATUS_ECONOMY ∧ r.items = x.items)

/-- The command carries the millivolts of the next supervisor sample. A write of a level code up to 54 sets the field,
so that the level compared is the new one; when that sample lies below the new level, economy starts at once, and when
it does not, economy is as before. A write above 54 leaves the field, and economy, as they were. -/
def Obligations.WarnLevelWrite : Prop :=
  (∀ (s x : State) (t mv : Nat) (v : Word), x = s.at t → bits v.toNat 5 0 ≤ 54 →
    ∃ r, exec (.warnWrite t v mv) s = .next r ∧ r.get F.SUP_CFG_WARN = bits v.toNat 5 0 ∧
      warnLevel r = 1800 + 50 * bits v.toNat 5 0) ∧
  (∀ (s x : State) (t mv : Nat) (v : Word), x = s.at t → bits v.toNat 5 0 ≤ 54 → mv < 1800 + 50 * bits v.toNat 5 0 →
    x.on F.SUP_STATUS_WARN = false →
    ∃ r, exec (.warnWrite t v mv) s = .next r ∧ r.on F.BLW_STATUS_ECONOMY = true ∧ r.on F.SUP_STATUS_WARN = true) ∧
  (∀ (s x : State) (t mv : Nat) (v : Word), x = s.at t → bits v.toNat 5 0 ≤ 54 → 1800 + 50 * bits v.toNat 5 0 ≤ mv →
    ∃ r, exec (.warnWrite t v mv) s = .next r ∧ r.on F.BLW_STATUS_ECONOMY = x.on F.BLW_STATUS_ECONOMY) ∧
  (∀ (s x : State) (t mv : Nat) (v : Word), x = s.at t → 54 < bits v.toNat 5 0 →
    ∃ r, exec (.warnWrite t v mv) s = .next r ∧ r.get F.SUP_CFG_WARN = x.get F.SUP_CFG_WARN ∧
      r.on F.BLW_STATUS_ECONOMY = x.on F.BLW_STATUS_ECONOMY)

/-- OSC_START_DELAY_END of HFRC, running and not held, arms its monitor and leaves XOSC's and the reference; of a
source that does not run it changes nothing. CLOCK_MONITOR_TRIP of a good LFXO while LFRC is the low-frequency source
takes it out of service, sets CLK_ISR bit 1 and counts; of the reference XOSC, with HFRC good and Chanter off, makes
HFRC the reference, unlocks the system PLL and clears REF_VALID; of a source that is not good it changes nothing.
RC_TRIM with every source running and both references good writes both codes against XOSC and LFXO. PLL_UNLOCK of a
locked system PLL with Chanter off clears SYS_LOCK, sets CLK_ISR bit 5, notes the time and costs island 3 six cycles
and island 0 none; of an unlocked one it changes nothing. DSP_PLL_UNLOCK likewise for the DSP PLL, bit 6. PLL_RELOCK
after an unlock, with a reference other than 3, shows the lock, sets CLK_ISR bit 7 and ends the mute after the present
slot. RELOCK_TIMEOUT 200 µs after an unlock of the system PLL is exactly a device reset with cause 6; with both PLLs
locked it changes nothing. None but the last changes the promise table. -/
def Obligations.ClockPlan : Prop :=
  (∀ (s x : State) (t meas : Nat), x = s.at t → x.clk.running.getD 2 false = true → sourceOk x 2 = false → x.clk.measured.length = 4 →
    x.clk.startedAt.getD 2 0 + usU 10 ≤ x.now → x.on F.CLK_STATUS_HELD = false →
    ∃ r, exec (.oscStartDelayEnd t 2 true meas) s = .next r ∧ sourceOk r 2 = true ∧ r.clk.measured.getD 2 false = true ∧
      r.clk.running = x.clk.running ∧ sourceOk r 0 = sourceOk x 0 ∧ r.get F.CLK_STATUS_REF_SRC = x.get F.CLK_STATUS_REF_SRC ∧
      r.items = x.items) ∧
  (∀ (s x : State) (t src meas : Nat) (ok : Bool), x = s.at t → x.clk.running.getD src false = false →
    exec (.oscStartDelayEnd t src ok meas) s = .next x) ∧
  (∀ (s x : State) (t : Nat), x = s.at t → sourceOk x 1 = true → x.on F.CLK_STATUS_LF_ACT = true → x.clk.running.length = 4 →
    ∃ r, exec (.clockMonitorTrip t 1) s = .next r ∧ sourceOk r 1 = false ∧ r.clk.running.getD 1 true = false ∧
      bits (r.rd Reg.CLK_ISR).toNat 1 1 = 1 ∧ r.on F.CLK_STATUS_SYS_LOCK = x.on F.CLK_STATUS_SYS_LOCK ∧
      r.get (F.CLK_CNT_COUNT 1) = Nat.min (x.get (F.CLK_CNT_COUNT 1) + 1) (2 ^ (F.CLK_CNT_COUNT 1).width - 1) ∧ r.items = x.items) ∧
  (∀ (s x : State) (t : Nat), x = s.at t → sourceOk x 0 = true → sourceOk x 2 = true → x.get F.CLK_STATUS_REF_SRC = 0 → x.en Blk.CHN = false →
    ∃ r, exec (.clockMonitorTrip t 0) s = .next r ∧ sourceOk r 0 = false ∧ r.get F.CLK_STATUS_REF_SRC = 2 ∧
      r.on F.CLK_STATUS_SYS_LOCK = false ∧ r.on F.CLK_STATUS_REF_VALID = false ∧ r.items = x.items) ∧
  (∀ (s x : State) (t src : Nat), x = s.at t → src < 4 → sourceOk x src = false → exec (.clockMonitorTrip t src) s = .next x) ∧
  (∀ (s x : State) (t hf lf : Nat), x = s.at t → x.clk.running = [true, true, true, true] → sourceOk x 0 = true → sourceOk x 1 = true →
    ∃ r, exec (.rcTrim t hf lf) s = .next r ∧ r.get F.CLK_TRIM_HF_CODE = hf % 256 ∧ r.get F.CLK_TRIM_LF_CODE = lf % 256 ∧
      r.get F.CLK_TRIM_HF_REF = 0 ∧ r.get F.CLK_TRIM_LF_REF = 1 ∧ r.clk = x.clk ∧ r.items = x.items) ∧
  (∀ (s x : State) (t : Nat), x = s.at t → x.on F.CLK_STATUS_SYS_LOCK = true → x.en Blk.CHN = false →
    ∃ r, exec (.pllUnlock t) s = .next r ∧ r.on F.CLK_STATUS_SYS_LOCK = false ∧ bits (r.rd Reg.CLK_ISR).toNat 5 5 = 1 ∧
      r.clk.sysUnlocked = some x.now ∧ r.clk.dspUnlocked = x.clk.dspUnlocked ∧
      r.get (F.CLK_LOST_CYCLES 3) = Nat.min (x.get (F.CLK_LOST_CYCLES 3) + 6) (2 ^ (F.CLK_LOST_CYCLES 3).width - 1) ∧
      r.get (F.CLK_LOST_CYCLES 0) = x.get (F.CLK_LOST_CYCLES 0) ∧ r.items = x.items) ∧
  (∀ (s x : State) (t : Nat), x = s.at t → x.on F.CLK_STATUS_SYS_LOCK = false → exec (.pllUnlock t) s = .next x) ∧
  (∀ (s x : State) (t : Nat), x = s.at t → x.on F.CLK_STATUS_DSP_LOCK = true → x.en Blk.CHN = false →
    ∃ r, exec (.dspPllUnlock t) s = .next r ∧ r.on F.CLK_STATUS_DSP_LOCK = false ∧ bits (r.rd Reg.CLK_ISR).toNat 6 6 = 1 ∧
      r.clk.dspUnlocked = some x.now ∧ r.on F.CLK_STATUS_SYS_LOCK = x.on F.CLK_STATUS_SYS_LOCK ∧ r.items = x.items) ∧
  (∀ (s x : State) (t a : Nat), x = s.at t → x.get F.CLK_STATUS_REF_SRC ≠ 3 → x.on F.CLK_STATUS_SYS_LOCK = false → x.clk.sysUnlocked = some a →
    ∃ r, exec (.pllRelock t false) s = .next r ∧ r.on F.CLK_STATUS_SYS_LOCK = true ∧ r.clk.sysUnlocked = none ∧
      r.clk.lockedTo = true ∧ bits (r.rd Reg.CLK_ISR).toNat 7 7 = 1 ∧ r.chn.pllHi = asn x.net + 1 ∧ r.items = x.items) ∧
  (∀ (s x : State) (t a : Nat), x = s.at t → x.get F.CLK_STATUS_REF_SRC ≠ 3 → x.on F.CLK_STATUS_DSP_LOCK = false → x.clk.dspUnlocked = some a →
    ∃ r, exec (.pllRelock t true) s = .next r ∧ r.on F.CLK_STATUS_DSP_LOCK = true ∧ r.clk.dspUnlocked = none ∧
      bits (r.rd Reg.CLK_ISR).toNat 7 7 = 1 ∧ r.chn.pllHi = asn x.net + 1 ∧ r.items = x.items) ∧
  (∀ (s x : State) (t a : Nat), x = s.at t → x.clk.sysUnlocked = some a → a + usU 200 ≤ x.now → recordedNow x = false →
    ∃ r, exec (.relockTimeout t) s = .next r ∧ r = x.deviceReset 6 ∧ r.get F.SYS_RST_CAUSE = 6) ∧
  (∀ (s x : State) (t : Nat), x = s.at t → x.clk.sysUnlocked = none → x.clk.dspUnlocked = none → exec (.relockTimeout t) s = .next x)

/-- SLEEP_REQUEST with HRE disabled, and HIBERNATE_REQUEST with HRE and SKN disabled and nothing in CHN_USE, are
pending; a SLEEP_REQUEST with an enabled HRE of the anchor profile is refused with 0x01F7, a HIBERNATE_REQUEST while
TIMED_USED is set with 0x01F4, both with SUP_ISR bit 5. POWER_REQUEST_CANCEL ends a request. POWER_STATE_ENTRY of a
pending request whose conditions hold (mayEnter), awake, enters SLEEP, with no cancellation job left and the flash and
key stores as they were, or HIBERNATE, with an empty application SRAM; with none pending it changes nothing. WAKE by
an enabled source other than Chanter from SLEEP leads to RUN, with the source, SUP_ISR bit 3 and every core out of
WFI; by a disabled one it changes nothing. CHANTER_WAKE in SLEEP for an accepted item that is due leads to DOZE with
source 26; elsewhere it changes nothing. WFI of the fourth core in RUN leads to DOZE. VIOOUT_FAULT sets VIO_FAULT and
SUP_ISR bit 2; VIOOUT_RETRY after 100 ms clears it, before that it changes nothing. AON_LOSS of a powered device: it
is off, with no item, network time 0 and an empty application SRAM. -/
def Obligations.PowerStates : Prop :=
  (∀ (s x : State) (t : Nat), x = s.at t → x.en Blk.HRE = false →
    ∃ r, exec (.sleepRequest t) s = .next r ∧ r.on F.SUP_PWR_PENDING = true ∧ r.get F.SUP_PWR_REQ = 2 ∧ r.sup = x.sup ∧
      r.items = x.items) ∧
  (∀ (s x : State) (t : Nat), x = s.at t → x.en Blk.HRE = true → x.relay = false →
    ∃ r, exec (.sleepRequest t) s = .next r ∧ r.on F.SUP_PWR_PENDING = false ∧ r.get F.SUP_PWR_REASON = 0x01F7 ∧
      bits (r.rd Reg.SUP_ISR).toNat 5 5 = 1 ∧ r.items = x.items) ∧
  (∀ (s x : State) (t : Nat), x = s.at t → x.en Blk.HRE = false → x.en Blk.SKN = false → x.on F.CHN_USE_TX_USED = false →
    x.on F.CHN_USE_TIMED_USED = false →
    ∃ r, exec (.hibernateRequest t) s = .next r ∧ r.on F.SUP_PWR_PENDING = true ∧ r.get F.SUP_PWR_REQ = 3 ∧ r.items = x.items) ∧
  (∀ (s x : State) (t : Nat), x = s.at t → x.on F.CHN_USE_TIMED_USED = true →
    ∃ r, exec (.hibernateRequest t) s = .next r ∧ r.on F.SUP_PWR_PENDING = false ∧ r.get F.SUP_PWR_REASON = 0x01F4 ∧
      bits (r.rd Reg.SUP_ISR).toNat 5 5 = 1 ∧ r.items = x.items) ∧
  (∀ (s x : State) (t : Nat), x = s.at t → ∃ r, exec (.powerRequestCancel t) s = .next r ∧ r.on F.SUP_PWR_PENDING = false ∧ r.get F.SUP_PWR_REQ = 0 ∧
      r.sup = x.sup ∧ r.items = x.items) ∧
  (∀ (s x : State) (t : Nat), x = s.at t → x.on F.SUP_PWR_PENDING = true → mayEnter x = true → awake x = true →
    x.get F.SUP_PWR_REQ = 2 →
    ∃ r, exec (.powerStateEntry t) s = .next r ∧ r.sup.power = .sleep ∧ r.on F.SUP_PWR_PENDING = false ∧
      r.mur.jobs = [] ∧ r.flc = x.flc ∧ r.cry = x.cry) ∧
  (∀ (s x : State) (t : Nat), x = s.at t → x.on F.SUP_PWR_PENDING = true → mayEnter x = true → awake x = true →
    x.get F.SUP_PWR_REQ = 3 →
    ∃ r, exec (.powerStateEntry t) s = .next r ∧ r.sup.power = .hibernate ∧ r.on F.SUP_PWR_PENDING = false ∧ r.sram = [] ∧
      r.items = x.items) ∧
  (∀ (s x : State) (t : Nat), x = s.at t → x.on F.SUP_PWR_PENDING = false → exec (.powerStateEntry t) s = .next x) ∧
  (∀ (s x : State) (t src : Nat), x = s.at t → x.sup.power = .sleep → wakeEnabled x src = true → src < 26 →
    ∃ r, exec (.wake t src) s = .next r ∧ r.sup.power = .run ∧ r.get F.SUP_WAKE_SRC_SRC = src ∧
      bits (r.rd Reg.SUP_ISR).toNat 3 3 = 1 ∧ r.cpx.wfi = [false, false, false, false] ∧ r.items = x.items) ∧
  (∀ (s x : State) (t src : Nat), x = s.at t → wakeEnabled x src = false → exec (.wake t src) s = .next x) ∧
  (∀ (s x : State) (t : Nat) (i : Item), x = s.at t → x.sup.power = .sleep → i ∈ x.items → i.decided = false → i.started = false →
    i.due ≤ x.net → x.rd Reg.SUP_IER = 0 →
    ∃ r, exec (.chanterWake t) s = .next r ∧ r.sup.power = .doze ∧ r.get F.SUP_WAKE_SRC_SRC = 26 ∧ r.items = x.items) ∧
  (∀ (s x : State) (t : Nat), x = s.at t → x.sup.power ≠ .sleep → exec (.chanterWake t) s = .next x) ∧
  (∀ (s x : State) (t : Nat), x = s.at t → x.cpx.released = true → x.sup.power = .run → x.cpx.wfi = [true, true, true, false] →
    ∃ r, exec (.wfi t 3) s = .next r ∧ r.sup.power = .doze ∧ r.get F.SUP_STATUS_STATE = 1 ∧
      r.cpx.wfi = [true, true, true, true] ∧ r.items = x.items) ∧
  (∀ (s x : State) (t : Nat), x = s.at t → ∃ r, exec (.vioFault t) s = .next r ∧ r.on F.SUP_STATUS_VIO_FAULT = true ∧ r.sup.vioAt = x.now ∧
      bits (r.rd Reg.SUP_ISR).toNat 2 2 = 1 ∧ r.items = x.items) ∧
  (∀ (s x : State) (t : Nat), x = s.at t → x.on F.SUP_STATUS_VIO_FAULT = true → x.sup.vioAt + msU 100 ≤ x.now →
    ∃ r, exec (.vioRetry t) s = .next r ∧ r.on F.SUP_STATUS_VIO_FAULT = false ∧ r.sup = x.sup ∧ r.items = x.items) ∧
  (∀ (s x : State) (t : Nat), x = s.at t → x.now < x.sup.vioAt + msU 100 → exec (.vioRetry t) s = .next x) ∧
  (∀ (s x : State) (t : Nat), x = s.at t → x.sup.power ≠ .off → ∃ r, exec (.aonLoss t) s = .next r ∧ r.sup.power = .off ∧ r.items = [] ∧ r.net = 0 ∧
      r.sram = [])

/-- DEVICE_RESET with a cause above 1 of the device, with no item accepted and no other reset recorded in the AON bus
cycle, records the cause and its reason, moves the previous record, counts the cause, clears the application SRAM, the
vault, the debug session and the calendar, leaves the boot chain to run, and keeps the network time and the host's
memory; with cause 0 it changes nothing. Of a powered device, with no other reset recorded in the cycle: BROWN_OUT
below 1.62 V, not yet in reset for it, is a reset with cause 2 that lasts; OVERVOLTAGE above 5.80 V opens the switch
with cause 3; RESET_PIN low, not low before, has cause 4 and notes the time. BROWN_OUT at or above 1.62 V changes
nothing; OVERVOLTAGE below 5.60 V closes the switch and RESET_PIN high ends the low level, and neither changes a
register or an item. POWER_ON of a device that is off and RESET_PIN_LONG after 8 s are power-on resets: cause 1, no
item, network time 0; POWER_ON of a powered device only ends the reset of a brown-out, and RESET_PIN_LONG with the pin
high changes nothing. SOFT_RESET with the key is exactly a device reset and SOFT_APP_RESET with the key exactly an
application reset, with cause 11; without the key neither changes anything. -/
def Obligations.DeviceResets : Prop :=
  (∀ (s x : State) (t c : Nat), x = s.at t → 1 < c → c ≤ 13 → c ≠ 7 → x.items = [] → recordedNow x = false →
    ∃ r, exec (.deviceReset t c) s = .next r ∧ r.get F.SYS_RST_CAUSE = c ∧ r.get F.SYS_RST_SCOPE = 0 ∧
      r.get F.SYS_RST_REASON = resetReason x c ∧ r.rd Reg.SYS_RST_PREV = x.rd Reg.SYS_RST ∧
      r.get (F.SYS_RSTCNT_COUNT c) = Nat.min (x.get (F.SYS_RSTCNT_COUNT c) + 1) 65535 ∧ r.sram = [] ∧
      r.cry.vault = List.replicate 64 0 ∧ r.cpx.session = false ∧ r.chn.cells = [] ∧ r.sup.power = .run ∧
      r.upd.bootPending = true ∧ r.net = x.net ∧ r.hostMem = x.hostMem ∧ r.items = []) ∧
  (∀ (s x : State) (t : Nat), x = s.at t → exec (.deviceReset t 0) s = .next x) ∧
  (∀ (s x : State) (t mv : Nat), x = s.at t → x.sup.power ≠ .off → mv < 1620 → x.sup.brown = false → recordedNow x = false →
    ∃ r, exec (.brownOut t mv) s = .next r ∧ r.sup.brown = true ∧ r.get F.SYS_RST_CAUSE = 2 ∧ r.upd.bootPending = true) ∧
  (∀ (s x : State) (t mv : Nat), x = s.at t → 1620 ≤ mv → exec (.brownOut t mv) s = .next x) ∧
  (∀ (s x : State) (t mv : Nat), x = s.at t → x.sup.power ≠ .off → 5800 < mv → x.sup.switchOpen = false → recordedNow x = false →
    ∃ r, exec (.overvoltage t mv) s = .next r ∧ r.sup.switchOpen = true ∧ r.get F.SYS_RST_CAUSE = 3 ∧ r.upd.bootPending = true) ∧
  (∀ (s x : State) (t mv : Nat), x = s.at t → x.sup.power ≠ .off → mv < 5600 →
    ∃ r, exec (.overvoltage t mv) s = .next r ∧ r.sup.switchOpen = false ∧ r.regs = x.regs ∧ r.items = x.items) ∧
  (∀ (s x : State) (t iosel : Nat), x = s.at t → x.sup.power = .off → iosel < 3 →
    ∃ r, exec (.powerOn t iosel) s = .next r ∧ r.sup.power = .run ∧ r.get F.SYS_RST_CAUSE = 1 ∧ r.sup.iosel = iosel ∧
      r.net = 0 ∧ r.items = [] ∧ r.upd.bootPending = true) ∧
  (∀ (s x : State) (t iosel : Nat), x = s.at t → x.sup.power ≠ .off →
    exec (.powerOn t iosel) s = .next { x with sup := { x.sup with brown := false } }) ∧
  (∀ (s x : State) (t : Nat), x = s.at t → x.sup.pinLow = none → x.sup.power ≠ .off → recordedNow x = false →
    ∃ r, exec (.resetPin t true) s = .next r ∧ r.sup.pinLow = some x.now ∧ r.get F.SYS_RST_CAUSE = 4 ∧
      r.upd.bootPending = true) ∧
  (∀ (s x : State) (t : Nat), x = s.at t → ∃ r, exec (.resetPin t false) s = .next r ∧ r.sup.pinLow = none ∧ r.regs = x.regs ∧ r.items = x.items) ∧
  (∀ (s x : State) (t iosel a : Nat), x = s.at t → x.sup.pinLow = some a → a + 8 * secondU ≤ x.now → x.on F.SYS_RST_PIN_LONG = false →
    ∃ r, exec (.resetPinLong t iosel) s = .next r ∧ r.get F.SYS_RST_CAUSE = 1 ∧ r.on F.SYS_RST_PIN_LONG = true ∧ r.net = 0 ∧
      r.items = []) ∧
  (∀ (s x : State) (t iosel : Nat), x = s.at t → x.sup.pinLow = none → exec (.resetPinLong t iosel) s = .next x) ∧
  (∀ (s x : State) (t : Nat) (v : Word), x = s.at t → bits v.toNat 31 16 = 0xD1A6 → bits v.toNat 0 0 = 1 → recordedNow x = false →
    ∃ r, exec (.softReset t v) s = .next r ∧ r = x.deviceReset 11 ∧ r.get F.SYS_RST_CAUSE = 11) ∧
  (∀ (s x : State) (t : Nat) (v : Word), x = s.at t → bits v.toNat 31 16 ≠ 0xD1A6 → exec (.softReset t v) s = .next x) ∧
  (∀ (s x : State) (t : Nat) (v : Word), x = s.at t → bits v.toNat 31 16 ≠ 0xD1A6 → exec (.softAppReset t v) s = .next x) ∧
  (∀ (s x : State) (t : Nat) (v : Word), x = s.at t → bits v.toNat 31 16 = 0xD1A6 → bits v.toNat 0 0 = 0 → bits v.toNat 1 1 = 1 → recordedNow x = false →
    ∃ r, exec (.softAppReset t v) s = .next r ∧ r = x.appReset 11 ∧ r.get F.SYS_RST_CAUSE = 11)

/-- APPLICATION_RESET with cause 7, 11 or 12, outside a trial and with no other reset recorded in the AON bus cycle,
records the cause with SCOPE 1, moves the previous record, restarts the cores, and keeps the schedule, the vault, the
application SRAM and every item; with another cause it changes nothing; with cause 7 in a trial it is exactly the
device reset with cause 11. WDT_KICK with the key restarts the count and changes no register and no item; with another
value it is exactly a device reset with cause 8. WDT_HALF after half the period sets SYS_ISR bit 0 and the count goes
on; WDT_SYSTEM after the period is exactly a device reset with cause 8; with period 0 neither changes anything.
WDT_LOCK sets LOCK; it writes the period unless LOCK was set. CORE_WDT_KICK with its key restarts the count and
changes no register and no item; with another value, and WDT_CORE after the period, outside a trial, are exactly an
application reset with cause 7; with period 0 WDT_CORE changes nothing. -/
def Obligations.Watchdogs : Prop :=
  (∀ (s x : State) (t c : Nat), x = s.at t → (c = 7 ∨ c = 11 ∨ c = 12) → inTrial x = false → recordedNow x = false →
    ∃ r, exec (.applicationReset t c) s = .next r ∧ r.get F.SYS_RST_CAUSE = c ∧ r.get F.SYS_RST_SCOPE = 1 ∧
      r.rd Reg.SYS_RST_PREV = x.rd Reg.SYS_RST ∧ r.get F.CPX_STATUS_HALTED = 0 ∧ r.get F.CPX_STATUS_FAULTED = 0 ∧
      r.cpx.wfi = [false, false, false, false] ∧ r.chn = x.chn ∧ r.cry = x.cry ∧ r.sram = x.sram ∧ r.items = x.items) ∧
  (∀ (s x : State) (t c : Nat), x = s.at t → c ≠ 7 → c ≠ 11 → c ≠ 12 → exec (.applicationReset t c) s = .next x) ∧
  (∀ (s x : State) (t : Nat), x = s.at t → inTrial x = true → recordedNow x = false → ∃ r, exec (.applicationReset t 7) s = .next r ∧ r = x.deviceReset 11 ∧ r.get F.SYS_RST_CAUSE = 11) ∧
  (∀ (s x : State) (t : Nat), x = s.at t → ∃ r, exec (.wdtKick t 0x4B1C) s = .next r ∧ r.cpx.sysWdt.elapsed r.now = 0 ∧ r.regs = x.regs ∧ r.items = x.items) ∧
  (∀ (s x : State) (t : Nat) (v : Word), x = s.at t → v ≠ 0x4B1C → recordedNow x = false → ∃ r, exec (.wdtKick t v) s = .next r ∧ r = x.deviceReset 8 ∧ r.get F.SYS_RST_CAUSE = 8) ∧
  (∀ (s x : State) (t : Nat), x = s.at t → x.get F.SYS_WDT_CFG_PERIOD_S ≠ 0 →
    x.get F.SYS_WDT_CFG_PERIOD_S * secondU ≤ 2 * x.cpx.sysWdt.elapsed x.now →
    ∃ r, exec (.wdtHalf t) s = .next r ∧ bits (r.rd Reg.SYS_ISR).toNat 0 0 = 1 ∧ r.cpx.sysWdt = x.cpx.sysWdt ∧ r.items = x.items) ∧
  (∀ (s x : State) (t : Nat), x = s.at t → x.get F.SYS_WDT_CFG_PERIOD_S = 0 → exec (.wdtHalf t) s = .next x) ∧
  (∀ (s x : State) (t : Nat), x = s.at t → x.get F.SYS_WDT_CFG_PERIOD_S = 0 → exec (.wdtSystem t) s = .next x) ∧
  (∀ (s x : State) (t : Nat), x = s.at t → x.get F.SYS_WDT_CFG_PERIOD_S ≠ 0 →
    x.get F.SYS_WDT_CFG_PERIOD_S * secondU ≤ x.cpx.sysWdt.elapsed x.now → recordedNow x = false →
    ∃ r, exec (.wdtSystem t) s = .next r ∧ r = x.deviceReset 8 ∧ r.get F.SYS_RST_CAUSE = 8) ∧
  (∀ (s x : State) (t : Nat) (v : Word), x = s.at t → bits v.toNat 8 8 = 1 → x.on F.SYS_WDT_CFG_LOCK = true →
    ∃ r, exec (.wdtLock t v) s = .next r ∧ r.on F.SYS_WDT_CFG_LOCK = true ∧
      r.get F.SYS_WDT_CFG_PERIOD_S = x.get F.SYS_WDT_CFG_PERIOD_S ∧ r.items = x.items) ∧
  (∀ (s x : State) (t : Nat) (v : Word), x = s.at t → bits v.toNat 8 8 = 1 → x.on F.SYS_WDT_CFG_LOCK = false →
    ∃ r, exec (.wdtLock t v) s = .next r ∧ r.on F.SYS_WDT_CFG_LOCK = true ∧ r.get F.SYS_WDT_CFG_PERIOD_S = bits v.toNat 7 0 ∧
      r.items = x.items) ∧
  (∀ (s x : State) (t : Nat), x = s.at t → ∃ r, exec (.coreWdtKick t 0x6C3E) s = .next r ∧ r.cpx.coreWdt.elapsed r.now = 0 ∧ r.regs = x.regs ∧ r.items = x.items) ∧
  (∀ (s x : State) (t : Nat) (v : Word), x = s.at t → v ≠ 0x6C3E → inTrial x = false → recordedNow x = false → ∃ r, exec (.coreWdtKick t v) s = .next r ∧ r = x.appReset 7 ∧ r.get F.SYS_RST_CAUSE = 7) ∧
  (∀ (s x : State) (t : Nat), x = s.at t → x.get F.CPX_WDT_CFG_PERIOD_MS ≠ 0 → inTrial x = false →
    msU (x.get F.CPX_WDT_CFG_PERIOD_MS) ≤ x.cpx.coreWdt.elapsed x.now → recordedNow x = false →
    ∃ r, exec (.wdtCore t) s = .next r ∧ r = x.appReset 7 ∧ r.get F.SYS_RST_CAUSE = 7) ∧
  (∀ (s x : State) (t : Nat), x = s.at t → x.get F.CPX_WDT_CFG_PERIOD_MS = 0 → exec (.wdtCore t) s = .next x)

/-- DOUBLE_FAULT of a core outside a trial marks the core in FAULTED, sets CPX_ISR bit 0 and adds its record; in a
trial it is exactly the device reset with cause 11. Of a running partition: SUBMIT from outside the window returns
0x0401 and changes no ring and no register; SUBMIT of a descriptor without a buffer whose opcode belongs to a ring
that the partition may use, and which no check before admission refuses, returns 0 and is fetched under the
partition's own ring; WAIT with no completion of the partition waits and returns nothing yet; YIELD returns 0;
PARTITION_FAULT stops it with PART 3 and CPX_ISR bit 2; of one that does not run, YIELD and PARTITION_FAULT change
nothing. WAIT_TIMEOUT at the deadline without a completion returns 0; with nothing waiting it changes nothing.
PLIC_CLAIM of one of the five contexts delivers 0 where nothing is pending and enabled; else the best source
(bestSource), clears its pending bit and holds it in service. PLIC_COMPLETE of a source enabled for the context, with
none requested again, ends its service and changes no register; of one not enabled it changes nothing. OUTPUT_SHORT of
a pin sets PER_ISR bit 0 and adds its record. PCIE_LINK_UP in the anchor profile after boot, with the clocks enabled,
shows LINK_UP and leaves the ring engine; in the relay profile it changes nothing. -/
def Obligations.CoresAndPartition : Prop :=
  (∀ (s x : State) (t c mepc : Nat), x = s.at t → c < 4 → inTrial x = false →
    ∃ r, exec (.doubleFault t c mepc) s = .next r ∧ bits (r.get F.CPX_STATUS_FAULTED) c c = 1 ∧
      bits (r.rd Reg.CPX_ISR).toNat 0 0 = 1 ∧ r.items = x.items ∧ r.sram = x.sram ∧
      r.hre.records = x.hre.records ++ [⟨0x1300, 0x1301, x.net, word c, word mepc, word 0, word 0, false⟩]) ∧
  (∀ (s x : State) (t c mepc : Nat), x = s.at t → c < 4 → inTrial x = true → recordedNow x = false →
    ∃ r, exec (.doubleFault t c mepc) s = .next r ∧ r = x.deviceReset 11 ∧ r.get F.SYS_RST_CAUSE = 11) ∧
  (∀ (s x : State) (t ring addr : Nat), x = s.at t → partitionRuns x = true → inWindow addr = false →
    ∃ r, exec (.submit t ring addr) s = .next r ∧ r.cpx.results = x.cpx.results ++ [0x0401] ∧ r.hre = x.hre ∧ r.regs = x.regs ∧
      r.items = x.items) ∧
  (∀ (s x : State) (t ring addr : Nat) (d : List Word), x = s.at t → partitionRuns x = true → inWindow addr = true → partitionMay x ring = true →
    d = (List.range 8).map (fun k => word (leNat (x.sramRead (addr + 4 * k) 4))) → opcodeOnRing ring (wbits d 0 7 0) = true →
    wbits d 1 15 0 = 0 → preAdmission x ring d false = none →
    ∃ r, exec (.submit t ring addr) s = .next r ∧ r.cpx.results = x.cpx.results ++ [0] ∧
      r.hre.fetched = x.hre.fetched ++ [⟨ring + 32, d, []⟩] ∧ r.hre.outq = x.hre.outq ∧ r.items = x.items) ∧
  (∀ (s x : State) (t addr ms : Nat), x = s.at t → partitionRuns x = true → inWindow addr = true →
    x.hre.outq.all (fun c => c.cring != partitionRing) = true →
    ∃ r, exec (.wait t addr ms) s = .next r ∧ r.cpx.wait = some ⟨addr, x.now + msU ms⟩ ∧
      r.cpx.results = x.cpx.results ∧ r.regs = x.regs ∧ r.items = x.items) ∧
  (∀ (s x : State) (t : Nat) (w : PartWait), x = s.at t → x.cpx.wait = some w → x.hre.outq.all (fun c => c.cring != partitionRing) = true →
    w.deadline ≤ x.now →
    ∃ r, exec (.waitTimeout t) s = .next r ∧ r.cpx.wait = none ∧ r.cpx.results = x.cpx.results ++ [0] ∧ r.regs = x.regs ∧
      r.items = x.items) ∧
  (∀ (s x : State) (t : Nat), x = s.at t → x.cpx.wait = none → exec (.waitTimeout t) s = .next x) ∧
  (∀ (s x : State) (t : Nat), x = s.at t → partitionRuns x = true →
    ∃ r, exec (.yield t) s = .next r ∧ r.cpx.results = x.cpx.results ++ [0] ∧ r.regs = x.regs ∧ r.items = x.items) ∧
  (∀ (s x : State) (t mcause : Nat), x = s.at t → partitionRuns x = true →
    ∃ r, exec (.partitionFault t mcause) s = .next r ∧ r.get F.CPX_STATUS_PART = 3 ∧ r.cpx.wait = none ∧
      bits (r.rd Reg.CPX_ISR).toNat 2 2 = 1 ∧ r.items = x.items) ∧
  (∀ (s x : State) (t : Nat), x = s.at t → partitionRuns x = false → exec (.yield t) s = .next x) ∧
  (∀ (s x : State) (t : Nat), x = s.at t → partitionRuns x = false → exec (.partitionFault t 0) s = .next x) ∧
  (∀ (s x : State) (t ctx : Nat), x = s.at t → ctx < 5 → bestSource x (claimable x ctx) = 0 →
    ∃ r, exec (.plicClaim t ctx) s = .next r ∧ r.sup.delivered = x.sup.delivered ++ [0] ∧ r.regs = x.regs ∧ r.items = x.items) ∧
  (∀ (s x : State) (t ctx n : Nat), x = s.at t → ctx < 5 → n = bestSource x (claimable x ctx) → n ≠ 0 →
    ∃ r, exec (.plicClaim t ctx) s = .next r ∧ r.sup.delivered = x.sup.delivered ++ [word n] ∧
      bits (r.rd (Reg.CPX_PLIC_PEND (n / 32))).toNat (n % 32) (n % 32) = 0 ∧
      r.cpx.servicing = (n, ctx) :: x.cpx.servicing ∧ r.items = x.items) ∧
  (∀ (s x : State) (t ctx id : Nat), x = s.at t → ctx < 5 → id < 256 →
    bits (x.rd (Reg.CPX_PLIC_EN ctx (id / 32))).toNat (id % 32) (id % 32) = 1 → x.cpx.deferred = [] → firmwareWaits x = false →
    ∃ r, exec (.plicComplete t ctx id) s = .next r ∧ r.cpx.servicing = x.cpx.servicing.filter (fun y => y.1 != id) ∧
      r.regs = x.regs ∧ r.items = x.items) ∧
  (∀ (s x : State) (t ctx id : Nat), x = s.at t → bits (x.rd (Reg.CPX_PLIC_EN ctx (id / 32))).toNat (id % 32) (id % 32) = 0 →
    exec (.plicComplete t ctx id) s = .next x) ∧
  (∀ (s x : State) (t pin : Nat), x = s.at t → pin < 40 →
    ∃ r, exec (.outputShort t pin) s = .next r ∧ bits (r.rd Reg.PER_ISR).toNat 0 0 = 1 ∧ r.items = x.items ∧
      r.hre.records = x.hre.records ++ [⟨0x1400, 0x1401, x.net, word pin, word 0, word 0, word 0, false⟩]) ∧
  (∀ (s x : State) (t : Nat), x = s.at t → x.relay = false → x.upd.bootPending = false → x.en Blk.CLK = true →
    ∃ r, exec (.pcieLinkUp t) s = .next r ∧ r.get F.HRE_STATUS_LINK_UP = 1 ∧ r.hre = x.hre ∧ r.items = x.items) ∧
  (∀ (s x : State) (t : Nat), x = s.at t → x.relay = true → exec (.pcieLinkUp t) s = .next x)

/-- DEBUG_CHALLENGE delivers nine words and changes no register. DEBUG_AUTH with no verification running starts one
over the present challenge, which it uses up, and opens no session; while one runs it changes nothing. DEBUG_AUTH_DONE
8 ms after the attempt: one that holds (authHolds) opens the session with its scope, sets SESSION and CPX_ISR bit 1;
one that fails, the first within 60 s, opens none, is noted, sets SEC_ISR bit 2 and adds record 0x1607; no item
changes. DMI_ACCESS within a session changes nothing here; outside one a read delivers 0, and a write is exactly an
alarm of source 5. Outside a session DEBUG_HALT, DEBUG_RESUME, DEBUG_MUTE_WRITE of 1 and END change nothing. Within
one, with no item started, DEBUG_HALT halts its core and DEBUG_MUTE_WRITE writes DEBUG_MUTE; DEBUG_RESUME ends the
halt of its core; END ends the session, every halt and the mute, and sets CPX_ISR bit 1; none changes the promise
table. -/
def Obligations.DebugPort : Prop :=
  (∀ (s x : State) (t : Nat), x = s.at t → ∃ r, exec (.debugChallenge t) s = .next r ∧ r.sup.delivered.length = x.sup.delivered.length + 9 ∧ r.cpx = x.cpx ∧
      r.regs = x.regs ∧ r.items = x.items) ∧
  (∀ (s x : State) (t scope : Nat) (sig : List Byte), x = s.at t → x.cpx.verifying = none →
    ∃ r, exec (.debugAuth t scope sig) s = .next r ∧
      r.cpx.verifying = some ⟨scope, fit 114 sig, x.cpx.challenge, x.now⟩ ∧
      r.cpx.challenge = x.cpx.challenge + 1 ∧ r.cpx.session = x.cpx.session ∧ r.regs = x.regs ∧ r.items = x.items) ∧
  (∀ (s x : State) (t scope : Nat) (sig : List Byte) (a : DebugAuth), x = s.at t → x.cpx.verifying = some a →
    exec (.debugAuth t scope sig) s = .next x) ∧
  (∀ (s x : State) (t : Nat) (a : DebugAuth), x = s.at t → x.cpx.verifying = some a → a.start + msU 8 ≤ x.now → x.cpx.failures = [] →
    ∃ r, exec (.debugAuthDone t) s = .next r ∧ r.cpx.verifying = none ∧ r.items = x.items ∧
      (if authHolds x a then
        r.cpx.session = true ∧ r.cpx.scope = a.scope ∧ r.on F.CPX_STATUS_SESSION = true ∧
        bits (r.rd Reg.CPX_ISR).toNat 1 1 = 1
      else r.cpx.session = x.cpx.session ∧ r.cpx.failures = [x.now] ∧ bits (r.rd Reg.SEC_ISR).toNat 2 2 = 1 ∧
        r.hre.records = x.hre.records ++ [⟨0x1600, 0x1607, x.net, word 0, word 0, word 0, word 0, false⟩])) ∧
  (∀ (s x : State) (t : Nat) (w : Bool), x = s.at t → x.cpx.session = true → exec (.dmiAccess t w) s = .next x) ∧
  (∀ (s x : State) (t : Nat), x = s.at t → x.cpx.session = false →
    ∃ r, exec (.dmiAccess t false) s = .next r ∧ r.sup.delivered = x.sup.delivered ++ [0] ∧ r.regs = x.regs ∧ r.items = x.items) ∧
  (∀ (s x : State) (t : Nat), x = s.at t → x.cpx.session = false → exec (.dmiAccess t true) s = .next (x.alarm 5)) ∧
  (∀ (s x : State) (t c : Nat), x = s.at t → x.cpx.session = false → exec (.debugHalt t c) s = .next x) ∧
  (∀ (s x : State) (t c : Nat), x = s.at t → x.cpx.session = false → exec (.debugResume t c) s = .next x) ∧
  (∀ (s x : State) (t : Nat), x = s.at t → x.cpx.session = false → exec (.debugMuteWrite t true) s = .next x) ∧
  (∀ (s x : State) (t : Nat), x = s.at t → x.cpx.session = false → exec (.endSession t) s = .next x) ∧
  (∀ (s x : State) (t c : Nat), x = s.at t → x.cpx.session = true → c < 4 → x.cpx.halted.length = 4 → x.items.all (fun i => !i.started) = true →
    ∃ r, exec (.debugHalt t c) s = .next r ∧ r.cpx.halted.getD c false = true ∧
      bits (r.get F.CPX_STATUS_HALTED) c c = 1 ∧ r.cpx.session = true ∧ r.items = x.items) ∧
  (∀ (s x : State) (t c : Nat), x = s.at t → x.cpx.session = true → c < 4 → x.cpx.halted.length = 4 →
    ∃ r, exec (.debugResume t c) s = .next r ∧ r.cpx.halted.getD c true = false ∧
      bits (r.get F.CPX_STATUS_HALTED) c c = 0 ∧ r.cpx.session = true ∧ r.items = x.items) ∧
  (∀ (s x : State) (t : Nat) (v : Bool), x = s.at t → x.cpx.session = true → x.items.all (fun i => !i.started) = true →
    ∃ r, exec (.debugMuteWrite t v) s = .next r ∧ r.on F.CPX_DBG_DEBUG_MUTE = v ∧ r.cpx = x.cpx ∧ r.items = x.items) ∧
  (∀ (s x : State) (t : Nat), x = s.at t → x.cpx.session = true →
    ∃ r, exec (.endSession t) s = .next r ∧ r.cpx.session = false ∧ r.cpx.halted = [false, false, false, false] ∧
      r.on F.CPX_STATUS_SESSION = false ∧ r.on F.CPX_DBG_DEBUG_MUTE = false ∧ r.get F.CPX_STATUS_HALTED = 0 ∧
      bits (r.rd Reg.CPX_ISR).toNat 1 1 = 1 ∧ r.items = x.items)

/-- GPIO_EDGE of an event unit that selects rising edges only: a rising one sets its pad's level and, with PER
enabled, publishes the unit's event; a falling one clears the level and publishes nothing. With PER enabled:
UART_DATA_WRITE appends its byte to a FIFO with room, and TXN counts it; UART_DATA_READ removes and shows the oldest
received byte; UART_RECEIVE of 8-bit data appends its byte to a FIFO with room, and ERR is set for a bad one; in a
full FIFO it sets OVR and is lost; UART_BYTE_SENT removes the oldest byte to send. UART_DATA_WRITE to a full FIFO
changes nothing. SPI_DATA_WRITE of a 32-bit frame to an idle interface shifts it, selects the device and shows BUSY;
SPI_DATA_READ removes and shows the oldest received frame; SPI_FRAME_END of the only frame receives the frame shifted
in, releases the select and clears BUSY. I2C_GO with GO and PER enabled shows BUSY and keeps the command;
I2C_DATA_ACCESS, a write with room, appends its byte and changes no register; I2C_COMMAND_END of a read clears BUSY
and receives at most COUNT bytes. TAMPER_TEST of TAMP0 with no alarm enabled and a change of its line shows it, sets
PER_ISR bit 1 and leaves the vault. HKA_START of an idle, enabled converter shows BUSY at entry 0; during a sequence
it shows 0x1502 and sets HKA_ISR bit 2. HKA_SEQUENCE_DONE of a one-entry sequence within its limits and without a line
check shows its result, clears BUSY, sets HKA_ISR bit 0 and raises event 48. -/
def Obligations.Peripherals : Prop :=
  (∀ (s x : State) (t u p : Nat), x = s.at t → u < 8 → p = x.get (F.PER_GEVT_PIN u) → p < 40 → x.en Blk.PER = true →
    x.get (F.PER_GEVT_EDGE u) = 1 →
    ∃ r, exec (.gpioEdge t u true) s = .next r ∧ r.evf.raised = x.evf.raised ++ [(52 + u, x.now)] ∧
      r.rd (Reg.PER_GPIO_IN (p / 32)) = (x.rd (Reg.PER_GPIO_IN (p / 32)) ||| pinMask p) ∧ r.items = x.items) ∧
  (∀ (s x : State) (t u p : Nat), x = s.at t → u < 8 → p = x.get (F.PER_GEVT_PIN u) → p < 40 → x.get (F.PER_GEVT_EDGE u) = 1 →
    ∃ r, exec (.gpioEdge t u false) s = .next r ∧ r.evf = x.evf ∧
      r.rd (Reg.PER_GPIO_IN (p / 32)) = (x.rd (Reg.PER_GPIO_IN (p / 32)) &&& ~~~pinMask p) ∧ r.items = x.items) ∧
  (∀ (s x : State) (t i : Nat) (b : Byte), x = s.at t → x.en Blk.PER = true → i < 2 → x.per.uart.length = 2 → (uartOf x i).tx.length < 32 →
    ∃ r, exec (.uartDataWrite t i b) s = .next r ∧ uartOf r i = ⟨(uartOf x i).rx, (uartOf x i).tx ++ [b]⟩ ∧
      r.get (F.PER_UART_STATUS_TXN i) = (uartOf x i).tx.length + 1 ∧ r.items = x.items) ∧
  (∀ (s x : State) (t i : Nat) (b : Byte), x = s.at t → 32 ≤ (uartOf x i).tx.length → exec (.uartDataWrite t i b) s = .next x) ∧
  (∀ (s x : State) (t i : Nat) (b : Byte) (rest : List Byte), x = s.at t → x.en Blk.PER = true → i < 2 → x.per.uart.length = 2 →
    (uartOf x i).rx = b :: rest →
    ∃ r, exec (.uartDataRead t i) s = .next r ∧ r.get (F.PER_UART_DATA_BYTE i) = b.toNat ∧ (uartOf r i).rx = rest ∧
      r.items = x.items) ∧
  (∀ (s x : State) (t i : Nat) (b : Byte) (bad : Bool), x = s.at t → x.en Blk.PER = true → i < 2 → x.per.uart.length = 2 →
    (uartOf x i).rx.length < 32 → x.on (F.PER_UART_CFG_BITS7 i) = false →
    ∃ r, exec (.uartReceive t i b bad) s = .next r ∧ (uartOf r i).rx = (uartOf x i).rx ++ [b] ∧
      (bad = true → r.on (F.PER_UART_STATUS_ERR i) = true) ∧ r.items = x.items) ∧
  (∀ (s x : State) (t i : Nat) (b : Byte), x = s.at t → x.en Blk.PER = true → i < 2 → 32 ≤ (uartOf x i).rx.length →
    ∃ r, exec (.uartReceive t i b false) s = .next r ∧ r.on (F.PER_UART_STATUS_OVR i) = true ∧ r.per = x.per) ∧
  (∀ (s x : State) (t i : Nat), x = s.at t → x.en Blk.PER = true → i < 2 → x.per.uart.length = 2 →
    ∃ r, exec (.uartByteSent t i) s = .next r ∧ (uartOf r i).tx = (uartOf x i).tx.drop 1 ∧ (uartOf r i).rx = (uartOf x i).rx ∧
      r.items = x.items) ∧
  (∀ (s x : State) (t i : Nat) (v : Word), x = s.at t → x.en Blk.PER = true → i < 2 → x.per.spi.length = 2 → (spiOf x i).tx = [] →
    (spiOf x i).shifting = none → x.get (F.PER_SPI_CFG_WIDTH i) = 2 →
    ∃ r, exec (.spiDataWrite t i v) s = .next r ∧ (spiOf r i).shifting = some v ∧ (spiOf r i).selected = true ∧
      (spiOf r i).tx = [] ∧ r.on (F.PER_SPI_STATUS_BUSY i) = true ∧ r.items = x.items) ∧
  (∀ (s x : State) (t i : Nat) (f : Word) (rest : List Word), x = s.at t → x.en Blk.PER = true → i < 2 → x.per.spi.length = 2 →
    (spiOf x i).rx = f :: rest →
    ∃ r, exec (.spiDataRead t i) s = .next r ∧ r.rd (Reg.PER_SPI_DATA i) = f ∧ (spiOf r i).rx = rest ∧ r.items = x.items) ∧
  (∀ (s x : State) (t i : Nat) (f v : Word), x = s.at t → i < 2 → x.per.spi.length = 2 → (spiOf x i).shifting = some f → (spiOf x i).tx = [] →
    (spiOf x i).rx = [] → x.get (F.PER_SPI_CFG_WIDTH i) = 2 →
    ∃ r, exec (.spiFrameEnd t i v) s = .next r ∧ (spiOf r i).rx = [v] ∧ (spiOf r i).shifting = none ∧
      (spiOf r i).selected = false ∧ r.on (F.PER_SPI_STATUS_BUSY i) = false ∧ r.items = x.items) ∧
  (∀ (s x : State) (t i : Nat) (v : Word), x = s.at t → i < 2 → x.en Blk.PER = true → bits v.toNat 31 31 = 1 →
    ∃ r, exec (.i2cGo t i v) s = .next r ∧ r.on (F.PER_I2C_STATUS_BUSY i) = true ∧
      r.rd (Reg.PER_I2C_CMD i) = (v &&& 0x001FFFFF) ∧ r.per = x.per ∧ r.items = x.items) ∧
  (∀ (s x : State) (t i : Nat) (b : Byte), x = s.at t → i < 2 → x.en Blk.PER = true → x.per.i2c.length = 2 → (i2cOf x i).tx.length < 16 →
    ∃ r, exec (.i2cDataAccess t i true b) s = .next r ∧ (i2cOf r i).tx = (i2cOf x i).tx ++ [b] ∧ r.regs = x.regs ∧
      r.items = x.items) ∧
  (∀ (s x : State) (t i : Nat) (bs : List Byte), x = s.at t → i < 2 → x.en Blk.PER = true → x.per.i2c.length = 2 →
    x.on (F.PER_I2C_STATUS_BUSY i) = true → x.on (F.PER_I2C_CMD_READ i) = true →
    ∃ r, exec (.i2cCommandEnd t i false false bs) s = .next r ∧ r.on (F.PER_I2C_STATUS_BUSY i) = false ∧
      (i2cOf r i).rx = (i2cOf x i).rx ++ bs.take (x.get (F.PER_I2C_CMD_COUNT i)) ∧ r.items = x.items) ∧
  (∀ (s x : State) (t line : Nat), x = s.at t → x.on F.SEC_CFG_TAMP0_EN = false → line < 4 → bits (x.rd Reg.PER_TAMP).toNat 2 0 ≠ line →
    ∃ r, exec (.tamperTest t 0 line false) s = .next r ∧ bits (r.rd Reg.PER_TAMP).toNat 2 0 = line ∧
      bits (r.rd Reg.PER_ISR).toNat 1 1 = 1 ∧ r.cry = x.cry ∧ r.items = x.items) ∧
  (∀ (s x : State) (t : Nat), x = s.at t → x.en Blk.HKA = true → x.on F.HKA_STATUS_BUSY = false →
    ∃ r, exec (.hkaStart t) s = .next r ∧ r.on F.HKA_STATUS_BUSY = true ∧ r.get F.HKA_STATUS_ENTRY = 0 ∧ r.items = x.items) ∧
  (∀ (s x : State) (t : Nat), x = s.at t → x.en Blk.HKA = true → x.on F.HKA_STATUS_BUSY = true →
    ∃ r, exec (.hkaStart t) s = .next r ∧ r.get F.HKA_STATUS_REASON = 0x1502 ∧ bits (r.rd Reg.HKA_ISR).toNat 2 2 = 1 ∧
      r.items = x.items) ∧
  (∀ (s x : State) (t v ch : Nat), x = s.at t → x.on F.HKA_STATUS_BUSY = true → 1 ≤ x.get F.HKA_CFG_LEN → ch = x.get (F.HKA_SEQ_CH 0) → ch ≤ 12 →
    x.on (F.HKA_SEQ_CHECK 0) = false → v < 65536 → outOfLimits x ch v = false →
    ∃ r, exec (.hkaSequenceDone t [(v, 0, 0)]) s = .next r ∧ r.get (F.HKA_RESULT_VALUE ch) = v ∧
      r.on F.HKA_STATUS_BUSY = false ∧ bits (r.rd Reg.HKA_ISR).toNat 0 0 = 1 ∧ (48, x.now) ∈ r.evf.raised ∧ r.items = x.items)

/-- BOOT with no reset to end changes nothing; when the chain may run (bootReady), a bad boot loader ends it with no
register, core or item changed; a good one takes the profile of the configuration record and releases the cores, and
where step 2 fails it is the recovery image, with SYS and CLK enabled. A host's IMAGE_PIECE_MANIFEST for the device
image: one that manifestRefusal refuses is REFUSED with its code and changes no flash; one against which the running
session stands (offer) is REFUSED with 0x0F04; any other completes DONE; with the block or the source not allowed
(sourceRefusal) it is REFUSED with that code and changes no flash. IMAGE_PIECE_HASH for distribution slot 0 of a piece
not held: one whose path leads to the manifest's root completes DONE and counts in UPD_CNT[0], any other is REFUSED
with 0x0F03, counts in UPD_CNT[1] and changes no flash, as is one of an index from 256 on. IMAGE_PIECE_DATA of a piece
not held, within the image: with its hash piece held, one whose leaf hash the hash piece gives completes DONE and
counts in UPD_CNT[0], any other is REFUSED with 0x0F03, counts in UPD_CNT[1] and changes no flash; with its hash piece
not held it is REFUSED with 0x0F07 and changes no flash. STAGING_CHECK_DONE of distribution slot 0 with every piece
held and not yet checked: where the root of its pieces is the manifest's, the manifest is kept as checked and UPD_ISR
bit 0 is set, else the state of UPD stays and a record carries 0x0F03; with a piece missing it changes nothing. None
of these changes the promise table. -/
def Obligations.BootAndPieces : Prop :=
  (∀ (s x : State) (t : Nat) (ok recOk step2 : Bool) (cfg : Option BootConfig) (key : Option (List Byte)), x = s.at t → x.upd.bootPending = false →
    exec (.boot t ok cfg recOk key step2) s = .next x) ∧
  (∀ (s x : State) (t : Nat) (recOk step2 : Bool) (cfg : Option BootConfig) (key : Option (List Byte)), x = s.at t → bootReady x = true →
    ∃ r, exec (.boot t false cfg recOk key step2) s = .next r ∧ r.upd.bootPending = false ∧ r.cpx = x.cpx ∧ r.regs = x.regs ∧
      r.items = x.items) ∧
  (∀ (s x : State) (t : Nat) (recOk : Bool) (cfg : Option BootConfig) (key : Option (List Byte)), x = s.at t → bootReady x = true →
    ∃ r, exec (.boot t true cfg recOk key false) s = .next r ∧ r.upd.bootPending = false ∧ r.cpx.released = true ∧
      r.relay = (cfg.getD BootConfig.absent).relay ∧ r.on F.UPD_STATUS_RECOVERY = true ∧ r.en Blk.SYS = true ∧
      r.en Blk.CLK = true ∧ r.items = x.items) ∧
  (∀ (s x : State) (t : Nat) (recOk : Bool) (cfg : Option BootConfig) (key : Option (List Byte)), x = s.at t → bootReady x = true →
    ∃ r, exec (.boot t true cfg recOk key true) s = .next r ∧ r.upd.bootPending = false ∧ r.cpx.released = true ∧
      r.relay = (cfg.getD BootConfig.absent).relay ∧ r.items = x.items) ∧
  (∀ (s x y : State) (t : Nat) (f : Fetched) (rest : List Fetched), x = s.at t → takeTurn (fun g => wbits g.words 0 7 0 == 0x52 && (recType g.buf == 0 || decide (2 < recType g.buf))) (busyRings x) x.hre.fetched
      = some (f, rest) → y = { x with hre := { x.hre with fetched := rest } } → sourceRefusal y 0 = none →
    f.buf.length = 264 → recType f.buf = 0 → recTarget f.buf = 0 →
    ∃ r, exec (.imagePieceManifest t 0 []) s = .next r ∧ r.hre.fetched = rest ∧ r.items = x.items ∧
      ∃ c, r.hre.outq = x.hre.outq ++ [c] ∧ c.tag = wbits f.words 0 31 16 ∧
        (∀ k, manifestRefusal y 0 (f.buf.drop 8) = some k → c.status = 3 ∧ c.reason = k ∧ r.flc = x.flc) ∧
        (manifestRefusal y 0 (f.buf.drop 8) = none → y.offer (f.buf.drop 8) 0 = none → c.status = 3 ∧ c.reason = 0x0F04) ∧
        (manifestRefusal y 0 (f.buf.drop 8) = none → y.offer (f.buf.drop 8) 0 ≠ none → c.status = 2 ∧ c.reason = 0)) ∧
  (∀ (s x y : State) (t c : Nat) (f : Fetched) (rest : List Fetched), x = s.at t → takeTurn (fun g => wbits g.words 0 7 0 == 0x52 && (recType g.buf == 0 || decide (2 < recType g.buf))) (busyRings x) x.hre.fetched
      = some (f, rest) → y = { x with hre := { x.hre with fetched := rest } } → sourceRefusal y 0 = some c →
    ∃ r, exec (.imagePieceManifest t 0 []) s = .next r ∧ r.flc = x.flc ∧ r.items = x.items ∧
      ∃ q, r.hre.outq = x.hre.outq ++ [q] ∧ q.status = 3 ∧ q.reason = c) ∧
  (∀ (s x y : State) (t j src : Nat) (f : Fetched) (rest : List Fetched) (q : Place) (m : List Byte), x = s.at t → takeTurn (fun g => wbits g.words 0 7 0 == 0x52 && recType g.buf == 1) (busyRings x) x.hre.fetched = some (f, rest) →
    y = { x with hre := { x.hre with fetched := rest } } → pieceRefusal y 0 f.buf 1288 = none → recTarget f.buf = 1 →
    targetOf y 1 = some (q, m, src) → j = recIndex f.buf → j < hashPieces (manPieces m) → j < 256 → marked y q.hashMark j = false →
    ∃ r, exec (.imagePieceHash t 0 []) s = .next r ∧ r.items = x.items ∧ ∃ c, r.hre.outq = x.hre.outq ++ [c] ∧
      (if walkPath (topHash j (slice f.buf 8 1024)) j ((List.range 8).map (fun i => slice f.buf (1032 + 32 * i) 32)) = manRoot m then
        c.status = 2 ∧ c.reason = 0 ∧
        r.get (F.UPD_CNT_COUNT 0) = Nat.min (x.get (F.UPD_CNT_COUNT 0) + 1) (2 ^ (F.UPD_CNT_COUNT 0).width - 1)
      else c.status = 3 ∧ c.reason = 0x0F03 ∧ r.flc = x.flc ∧
        r.get (F.UPD_CNT_COUNT 1) = Nat.min (x.get (F.UPD_CNT_COUNT 1) + 1) (2 ^ (F.UPD_CNT_COUNT 1).width - 1))) ∧
  (∀ (s x y : State) (t src : Nat) (f : Fetched) (rest : List Fetched) (q : Place) (m : List Byte), x = s.at t → takeTurn (fun g => wbits g.words 0 7 0 == 0x52 && recType g.buf == 1) (busyRings x) x.hre.fetched = some (f, rest) →
    y = { x with hre := { x.hre with fetched := rest } } → pieceRefusal y 0 f.buf 1288 = none →
    targetOf y (recTarget f.buf) = some (q, m, src) → 256 ≤ recIndex f.buf →
    ∃ r, exec (.imagePieceHash t 0 []) s = .next r ∧ r.flc = x.flc ∧ r.items = x.items ∧
      r.get (F.UPD_CNT_COUNT 1) = Nat.min (x.get (F.UPD_CNT_COUNT 1) + 1) (2 ^ (F.UPD_CNT_COUNT 1).width - 1) ∧
      ∃ c, r.hre.outq = x.hre.outq ++ [c] ∧ c.status = 3 ∧ c.reason = 0x0F03) ∧
  (∀ (s x y : State) (t k src : Nat) (f : Fetched) (rest : List Fetched) (q : Place) (m : List Byte), x = s.at t → takeTurn (fun g => wbits g.words 0 7 0 == 0x52 && recType g.buf == 2) (busyRings x) x.hre.fetched = some (f, rest) →
    y = { x with hre := { x.hre with fetched := rest } } → pieceRefusal y 0 f.buf 1032 = none →
    targetOf y (recTarget f.buf) = some (q, m, src) → k = recIndex f.buf → k < 8192 → k < manPieces m →
    marked y q.dataMark k = false → marked y q.hashMark (k / 32) = true →
    ∃ r, exec (.imagePieceData t 0 []) s = .next r ∧ r.items = x.items ∧ ∃ c, r.hre.outq = x.hre.outq ++ [c] ∧
      (if leafHash k (slice f.buf 8 1024) = flashBytes y (q.store + 1024 * (k / 32) + 32 * (k % 32)) 32 then
        c.status = 2 ∧ c.reason = 0 ∧
        r.get (F.UPD_CNT_COUNT 0) = Nat.min (x.get (F.UPD_CNT_COUNT 0) + 1) (2 ^ (F.UPD_CNT_COUNT 0).width - 1)
      else c.status = 3 ∧ c.reason = 0x0F03 ∧ r.flc = x.flc ∧
        r.get (F.UPD_CNT_COUNT 1) = Nat.min (x.get (F.UPD_CNT_COUNT 1) + 1) (2 ^ (F.UPD_CNT_COUNT 1).width - 1))) ∧
  (∀ (s x y : State) (t src : Nat) (f : Fetched) (rest : List Fetched) (q : Place) (m : List Byte), x = s.at t → takeTurn (fun g => wbits g.words 0 7 0 == 0x52 && recType g.buf == 2) (busyRings x) x.hre.fetched = some (f, rest) →
    y = { x with hre := { x.hre with fetched := rest } } → pieceRefusal y 0 f.buf 1032 = none →
    targetOf y (recTarget f.buf) = some (q, m, src) → recIndex f.buf < 8192 → marked y q.dataMark (recIndex f.buf) = false →
    marked y q.hashMark (recIndex f.buf / 32) = false →
    ∃ r, exec (.imagePieceData t 0 []) s = .next r ∧ r.flc = x.flc ∧ r.items = x.items ∧
      ∃ c, r.hre.outq = x.hre.outq ++ [c] ∧ c.status = 3 ∧ c.reason = 0x0F07) ∧
  (∀ (s x : State) (t src : Nat) (q : Place) (m : List Byte), x = s.at t → x.en Blk.UPD = true → allHeld x 1 = true → isChecked x 1 = false →
    targetOf x 1 = some (q, m, src) → x.upd.manifests.length = 4 →
    ∃ r, exec (.stagingCheckDone t 1) s = .next r ∧ r.items = x.items ∧
      (if rootOf (imagePieces x q.image (manPieces m)) = manRoot m then
        r.upd.manifests.getD 2 [] = m ∧ bits (r.rd Reg.UPD_ISR).toNat 0 0 = 1 ∧ r.flc = x.flc
      else r.upd = x.upd ∧ r.hre.records = x.hre.records ++ [⟨0x0F00, 0x0F03, x.net, word 0, word 0, word 0, word 0, false⟩])) ∧
  (∀ (s x : State) (t target : Nat), x = s.at t → allHeld x target = false → exec (.stagingCheckDone t target) s = .next x)

/-- With UPD enabled: ACTIVATE in STAGE 2 leads to STAGE 3, with QUIESCE_MS to run and UPD_ISR bit 2; HANDOVER of a
core in STAGE 3 leads to STAGE 4 in the other bobbin where the forward handover area holds (forwardGood), with 50 ms
for ALIVE, the trial's end, UPD_ISR bit 3 and the application SRAM kept, and else back to STAGE 2 with 0x0FF7 in the
running bobbin; ALIVE of a core in STAGE 4 ends the wait for it and shows the blackout; CONFIRM of a core after ALIVE,
with no reversion requested, ends the trial in the running bobbin with UPD_ISR bit 5; REVERT in STAGE 4 requests the
reversion, once, with UPD_ISR bit 4; ABANDON in STAGE 1 erases both session slots and leaves the other state of UPD.
ACTIVATE in another STAGE than 2, REVERT in another than 4, ABANDON in 0, and HANDOVER, ALIVE and CONFIRM of the host
change nothing. QUIESCE_TIMEOUT after the deadline: in STAGE 3 back to STAGE 2 with 0x0F05, in STAGE 4 with a
reversion requested exactly the device reset with cause 11. ALIVE_TIMEOUT after its deadline is exactly that reset;
with nothing awaited it changes nothing. TRIAL_EXPIRY after the trial's end requests the reversion; with no trial it
changes nothing. -/
def Obligations.Activation : Prop :=
  (∀ (s x : State) (t : Nat), x = s.at t → x.en Blk.UPD = true → x.get F.UPD_STATUS_STAGE = 2 →
    ∃ r, exec (.activate t) s = .next r ∧ r.get F.UPD_STATUS_STAGE = 3 ∧ r.upd.quiesceBy = some (x.now + quiesceU x) ∧
      bits (r.rd Reg.UPD_ISR).toNat 2 2 = 1 ∧ r.items = x.items) ∧
  (∀ (s x : State) (t : Nat), x = s.at t → x.get F.UPD_STATUS_STAGE ≠ 2 → exec (.activate t) s = .next x) ∧
  (∀ (s x : State) (t n : Nat), x = s.at t → x.en Blk.UPD = true → x.get F.UPD_STATUS_STAGE = 3 →
    forwardGood x (manHandover (manifestOf x (targetBobbin x))) = true →
    ∃ r, exec (.handover t (.core n)) s = .next r ∧ r.get F.UPD_STATUS_STAGE = 4 ∧
      r.get F.UPD_STATUS_RUN_BOBBIN = targetBobbin x ∧ r.upd.aliveBy = some (x.now + msU 50) ∧
      r.upd.trialEnd = some (x.now + manTrial (manifestOf x (targetBobbin x)) * secondU) ∧
      bits (r.rd Reg.UPD_ISR).toNat 3 3 = 1 ∧ r.sram = x.sram ∧ r.items = x.items) ∧
  (∀ (s x : State) (t n : Nat), x = s.at t → x.en Blk.UPD = true → x.get F.UPD_STATUS_STAGE = 3 →
    forwardGood x (manHandover (manifestOf x (targetBobbin x))) = false →
    ∃ r, exec (.handover t (.core n)) s = .next r ∧ r.get F.UPD_STATUS_STAGE = 2 ∧ r.get F.UPD_STATUS_REASON = 0x0FF7 ∧
      r.get F.UPD_STATUS_RUN_BOBBIN = x.get F.UPD_STATUS_RUN_BOBBIN ∧ r.upd.quiesceBy = none ∧ r.items = x.items) ∧
  (∀ (s x : State) (t : Nat), x = s.at t → exec (.handover t .host) s = .next x) ∧
  (∀ (s x : State) (t : Nat), x = s.at t → exec (.alive t .host) s = .next x) ∧
  (∀ (s x : State) (t : Nat), x = s.at t → exec (.confirm t .host) s = .next x) ∧
  (∀ (s x : State) (t n d : Nat), x = s.at t → x.en Blk.UPD = true → x.get F.UPD_STATUS_STAGE = 4 → x.upd.aliveBy = some d →
    ∃ r, exec (.alive t (.core n)) s = .next r ∧ r.upd.aliveBy = none ∧ r.get F.UPD_STATUS_STAGE = 4 ∧
      r.get F.UPD_BLACKOUT_US = Nat.min ((x.now - x.upd.handoverAt) * 100000 / secondU) 65535 ∧ r.items = x.items) ∧
  (∀ (s x : State) (t n : Nat), x = s.at t → x.en Blk.UPD = true → x.get F.UPD_STATUS_STAGE = 4 → x.upd.aliveBy = none → x.upd.revertBy = none →
    ∃ r, exec (.confirm t (.core n)) s = .next r ∧ r.get F.UPD_STATUS_STAGE < 3 ∧ r.upd.trialEnd = none ∧
      r.get F.UPD_STATUS_RUN_BOBBIN = x.get F.UPD_STATUS_RUN_BOBBIN ∧ bits (r.rd Reg.UPD_ISR).toNat 5 5 = 1 ∧ r.items = x.items) ∧
  (∀ (s x : State) (t : Nat), x = s.at t → x.en Blk.UPD = true → x.get F.UPD_STATUS_STAGE = 4 → x.upd.revertBy = none →
    ∃ r, exec (.revert t) s = .next r ∧ r.upd.revertBy = some (x.now + quiesceU x) ∧
      bits (r.rd Reg.UPD_ISR).toNat 4 4 = 1 ∧ r.get F.UPD_STATUS_STAGE = 4 ∧ r.items = x.items) ∧
  (∀ (s x : State) (t : Nat), x = s.at t → x.get F.UPD_STATUS_STAGE ≠ 4 → exec (.revert t) s = .next x) ∧
  (∀ (s x : State) (t : Nat), x = s.at t → x.en Blk.UPD = true → x.get F.UPD_STATUS_STAGE = 1 →
    ∃ r, exec (.abandon t) s = .next r ∧ r.get F.UPD_STATUS_STAGE < 3 ∧ r.upd = x.upd ∧ r.items = x.items ∧ r.flc = x.eraseSessions.flc) ∧
  (∀ (s x : State) (t : Nat), x = s.at t → x.get F.UPD_STATUS_STAGE = 0 → exec (.abandon t) s = .next x) ∧
  (∀ (s x : State) (t d : Nat), x = s.at t → x.get F.UPD_STATUS_STAGE = 3 → x.upd.quiesceBy = some d → d ≤ x.now →
    ∃ r, exec (.quiesceTimeout t) s = .next r ∧ r.get F.UPD_STATUS_STAGE = 2 ∧ r.get F.UPD_STATUS_REASON = 0x0F05 ∧
      r.upd.quiesceBy = none ∧ r.items = x.items) ∧
  (∀ (s x : State) (t d : Nat), x = s.at t → x.get F.UPD_STATUS_STAGE = 4 → x.upd.revertBy = some d → d ≤ x.now → recordedNow x = false →
    ∃ r, exec (.quiesceTimeout t) s = .next r ∧ r = x.deviceReset 11 ∧ r.get F.SYS_RST_CAUSE = 11) ∧
  (∀ (s x : State) (t d : Nat), x = s.at t → x.upd.aliveBy = some d → d ≤ x.now → recordedNow x = false →
    ∃ r, exec (.aliveTimeout t) s = .next r ∧ r = x.deviceReset 11 ∧ r.get F.SYS_RST_CAUSE = 11) ∧
  (∀ (s x : State) (t : Nat), x = s.at t → x.upd.aliveBy = none → exec (.aliveTimeout t) s = .next x) ∧
  (∀ (s x : State) (t d : Nat), x = s.at t → x.upd.trialEnd = some d → d ≤ x.now → x.get F.UPD_STATUS_STAGE = 4 → x.upd.revertBy = none →
    ∃ r, exec (.trialExpiry t) s = .next r ∧ r.upd.revertBy = some (x.now + quiesceU x) ∧
      bits (r.rd Reg.UPD_ISR).toNat 4 4 = 1 ∧ r.items = x.items) ∧
  (∀ (s x : State) (t : Nat), x = s.at t → x.upd.trialEnd = none → exec (.trialExpiry t) s = .next x)

/-- With UPD enabled, of the next DIST_CONTROL descriptor of each command: START of a slot whose staging check has
passed opens a campaign in the slot, keeps the slot's marks of done endpoints and completes DONE with reason 0; START
of another slot is exactly its refusal with 0x0F08; STOP of a slot with a campaign marks that campaign as stopping and
completes DONE; STATUS, with no report waiting, completes DONE and changes neither the state of UPD nor a register;
CLEAR of a slot without a campaign drops the slot's marks and its kept manifest and completes DONE; CLEAR of a slot
with a campaign is exactly its refusal with 0x0F09. DIST_CAROUSEL_FRAME, with no report waiting: a turn of a running
campaign at or after its next turn, with no frame under way and an endpoint still open, moves the next turn on by an
hour over FRAMES_PER_HOUR and adds at most one item to those that wait for admission; one at the deadline ends the
campaign, keeps the marks of done endpoints and adds one record. DIST_SNAPSHOT, with no report waiting, of a slot with
a campaign whose marks have changed, 60 minutes after the last one: the flash is that of the snapshot
(State.snapshot), the marks count as unchanged and the 60 minutes start anew. None of these that completes changes the
promise table. -/
def Obligations.Distribution : Prop :=
  (∀ (s x y : State) (t d : Nat) (f : Fetched) (rest : List Fetched), x = s.at t → takeTurn (fun g => wbits g.words 0 7 0 == 0x53 && wbits g.words 6 7 0 == 1) (busyRings x) x.hre.fetched = some (f, rest) →
    y = { x with hre := { x.hre with fetched := rest } } → x.en Blk.UPD = true → d = distIdx f → isChecked y (d + 1) = true →
    x.upd.dist.length = 2 →
    ∃ r, exec (.distStart t) s = .next r ∧ (r.distSlot d).campaign.isSome = true ∧ (r.distSlot d).done = (x.distSlot d).done ∧
      r.items = x.items ∧ ∃ c, r.hre.outq = x.hre.outq ++ [c] ∧ c.status = 2 ∧ c.reason = 0) ∧
  (∀ (s x y : State) (t : Nat) (f : Fetched) (rest : List Fetched), x = s.at t → takeTurn (fun g => wbits g.words 0 7 0 == 0x53 && wbits g.words 6 7 0 == 1) (busyRings x) x.hre.fetched = some (f, rest) →
    y = { x with hre := { x.hre with fetched := rest } } → x.en Blk.UPD = true → isChecked y (distIdx f + 1) = false →
    exec (.distStart t) s = .next (y.refuse f.ring f.words 0x0F08)) ∧
  (∀ (s x : State) (t d : Nat) (f : Fetched) (rest : List Fetched) (c : Campaign), x = s.at t → takeTurn (fun g => wbits g.words 0 7 0 == 0x53 && wbits g.words 6 7 0 == 2) (busyRings x) x.hre.fetched = some (f, rest) →
    x.en Blk.UPD = true → d = distIdx f → x.upd.dist.length = 2 → (x.distSlot d).campaign = some c →
    ∃ r, exec (.distStop t) s = .next r ∧ (r.distSlot d).campaign = some { c with stopping := true } ∧ r.items = x.items ∧
      ∃ q, r.hre.outq = x.hre.outq ++ [q] ∧ q.status = 2 ∧ q.reason = 0) ∧
  (∀ (s x : State) (t : Nat) (f : Fetched) (rest : List Fetched), x = s.at t → takeTurn (fun g => wbits g.words 0 7 0 == 0x53 && wbits g.words 6 7 0 == 3) (busyRings x) x.hre.fetched = some (f, rest) →
    x.en Blk.UPD = true → x.esm.firmware = [] →
    ∃ r, exec (.distStatus t false) s = .next r ∧ r.upd = x.upd ∧ r.regs = x.regs ∧ r.items = x.items ∧
      ∃ c, r.hre.outq = x.hre.outq ++ [c] ∧ c.status = 2 ∧ c.reason = 0) ∧
  (∀ (s x : State) (t d : Nat) (f : Fetched) (rest : List Fetched), x = s.at t → takeTurn (fun g => wbits g.words 0 7 0 == 0x53 && wbits g.words 6 7 0 == 4) (busyRings x) x.hre.fetched = some (f, rest) →
    x.en Blk.UPD = true → d = distIdx f → (x.distSlot d).campaign = none → x.upd.dist.length = 2 →
    ∃ r, exec (.distClear t) s = .next r ∧ (r.distSlot d).done = [] ∧ r.upd.manifests.getD (2 + d) [] = [] ∧ r.items = x.items ∧
      ∃ c, r.hre.outq = x.hre.outq ++ [c] ∧ c.status = 2 ∧ c.reason = 0) ∧
  (∀ (s x y : State) (t : Nat) (f : Fetched) (rest : List Fetched) (c : Campaign), x = s.at t → takeTurn (fun g => wbits g.words 0 7 0 == 0x53 && wbits g.words 6 7 0 == 4) (busyRings x) x.hre.fetched = some (f, rest) →
    y = { x with hre := { x.hre with fetched := rest } } → x.en Blk.UPD = true → (x.distSlot (distIdx f)).campaign = some c →
    exec (.distClear t) s = .next (y.refuse f.ring f.words 0x0F09)) ∧
  (∀ (s x : State) (t d i : Nat) (c : Campaign), x = s.at t → d < 2 → x.upd.dist.length = 2 → x.esm.firmware = [] →
    (x.distSlot d).campaign = some c → c.nextAt ≤ x.net → frameUnderWay x d = false → c.stopping = false →
    x.net < c.deadline → i ∈ targeted x c → i ∉ (x.distSlot d).done → i ∉ (x.distSlot d).failed → c.perHour ≠ 0 →
    ∃ r, exec (.distCarouselFrame t d) s = .next r ∧ r.items = x.items ∧
      (r.distSlot d).campaign.map (fun e => e.nextAt) = some (c.nextAt + 3600 * secondU / c.perHour) ∧
      (r.distSlot d).done = (x.distSlot d).done ∧ x.chn.awaiting.length ≤ r.chn.awaiting.length ∧
      r.chn.awaiting.length ≤ x.chn.awaiting.length + 1) ∧
  (∀ (s x : State) (t d : Nat) (c : Campaign), x = s.at t → d < 2 → x.upd.dist.length = 2 → x.esm.firmware = [] →
    (x.distSlot d).campaign = some c → c.nextAt ≤ x.net → frameUnderWay x d = false → c.stopping = false →
    c.deadline ≤ x.net →
    ∃ r, exec (.distCarouselFrame t d) s = .next r ∧ (r.distSlot d).campaign = none ∧ (r.distSlot d).done = (x.distSlot d).done ∧
      r.hre.records.length = x.hre.records.length + 1 ∧ r.items = x.items) ∧
  (∀ (s x : State) (t d : Nat) (c : Campaign), x = s.at t → d < 2 → x.upd.dist.length = 2 → x.esm.firmware = [] →
    (x.distSlot d).campaign = some c → (x.distSlot d).snapAt + 3600 * secondU ≤ x.now → (x.distSlot d).changed = true →
    ∃ r, exec (.distSnapshot t d) s = .next r ∧ r.distSlot d = { x.distSlot d with changed := false, snapAt := x.now } ∧
      r.flc = (x.snapshot d).flc ∧ r.regs = x.regs ∧ r.items = x.items)

/-- In a field: REQA in IDLE, with no quiet time in force, leads to READY and is answered ATQA 0x0044; during the
quiet time it leaves the state and is not answered. ANTICOLLISION at level 1 in READY, with known bits that are the
tag's own, is answered with the rest of that level's bits and stays in READY. SELECT of the tag's own level 1 in READY
is answered SAK 0x04 and leads to level 2, of its own level 2 there SAK 0x20 and leads to ACTIVE; of other bytes in
READY it leads to IDLE unanswered. RATS in ACTIVE opens a session, shows it in TAG_STATUS, drops the record buffer and
is answered with the ATS. PPS in a session is answered PPSS and stays in it. DESELECT as S(DESELECT) in a session
halts the tag and ends the session; with no successful application select in it, it is answered 0xC2, drops the record
buffer and leaves the quiet time, after one it starts the quiet time of QUIET_S and shows it in TAG_STATUS. FIELD_OFF
ends the session, drops the record buffer, clears FIELD and leads to IDLE. REQA and FIELD_OFF without a field, and
RATS in IDLE, change nothing. FIELD_ON without one, with TAG enabled and VSUP, sets FIELD, leads to IDLE, raises event
50 and sets TAG_ISR bit 0. QUIET_EXPIRY with no quiet time in force clears QUIET. With TAG enabled: UNQUIET ends the
quiet time and clears QUIET; with VSUP too, COIL_TEST with result 0 shows it in TAG_STATUS and adds no record, with
result 2 (short) shows it, sets TAG_ISR bit 5 and adds a record of reason 0x1401 that names the ball. The promise
table stays in each. -/
def Obligations.TagProtocol : Prop :=
  (∀ (s x : State) (t : Nat) (w : Bool), x = s.at t → inField x = true → x.tag.quietUntil ≤ x.now → x.tag.st = .idle →
    ∃ r, exec (.reqa t w) s = .next r ∧ r.tag.st = .ready ∧ r.tag.answer = [0x44, 0x00] ∧ r.regs = x.regs ∧ r.items = x.items) ∧
  (∀ (s x : State) (t : Nat) (w : Bool), x = s.at t → inField x = true → x.now < x.tag.quietUntil →
    ∃ r, exec (.reqa t w) s = .next r ∧ r.tag.st = x.tag.st ∧ r.tag.answer = [] ∧ r.items = x.items) ∧
  (∀ (s x : State) (t : Nat) (w : Bool), x = s.at t → inField x = false → exec (.reqa t w) s = .next x) ∧
  (∀ (s x : State) (t : Nat) (known : List Bool), x = s.at t → inField x = true → x.tag.st = .ready →
    (uidBits (cascade 1)).take known.length = known →
    ∃ r, exec (.anticollision t 1 known) s = .next r ∧
      r.tag.answer = ((uidBits (cascade 1)).drop known.length).map (fun b => if b then 1 else 0) ∧ r.tag.st = .ready ∧
      r.regs = x.regs ∧ r.items = x.items) ∧
  (∀ (s x : State) (t : Nat), x = s.at t → inField x = true → x.tag.st = .ready →
    ∃ r, exec (.select t 1 (cascade 1)) s = .next r ∧ r.tag.st = .level2 ∧ r.tag.answer = [0x04] ∧ r.regs = x.regs ∧
      r.items = x.items) ∧
  (∀ (s x : State) (t : Nat), x = s.at t → inField x = true → x.tag.st = .level2 →
    ∃ r, exec (.select t 2 (cascade 2)) s = .next r ∧ r.tag.st = .active ∧ r.tag.answer = [0x20] ∧ r.regs = x.regs ∧
      r.items = x.items) ∧
  (∀ (s x : State) (t : Nat) (uid : List Byte), x = s.at t → inField x = true → x.tag.st = .ready → uid ≠ cascade 1 →
    ∃ r, exec (.select t 1 uid) s = .next r ∧ r.tag.st = .idle ∧ r.tag.answer = [] ∧ r.regs = x.regs ∧ r.items = x.items) ∧
  (∀ (s x : State) (t : Nat), x = s.at t → inField x = true → x.tag.st = .active →
    ∃ r, exec (.rats t) s = .next r ∧ r.tag.st = .session ∧ r.tag.answer = [0x05, 0x78, 0x00, 0x80, 0x00] ∧
      r.on F.TAG_STATUS_SESSION = true ∧ r.tag.buffer = none ∧ r.items = x.items) ∧
  (∀ (s x : State) (t : Nat), x = s.at t → x.tag.st = .idle → exec (.rats t) s = .next x) ∧
  (∀ (s x : State) (t rate : Nat), x = s.at t → inField x = true → x.tag.st = .session →
    ∃ r, exec (.pps t rate) s = .next r ∧ r.tag.answer = [0xD0] ∧ r.tag.st = .session ∧ r.regs = x.regs ∧ r.items = x.items) ∧
  (∀ (s x : State) (t : Nat), x = s.at t → inField x = true → x.tag.st = .session → x.tag.selected = false →
    ∃ r, exec (.deselect t false) s = .next r ∧ r.tag.st = .halted ∧ r.tag.answer = [0xC2] ∧ r.tag.buffer = none ∧
      r.on F.TAG_STATUS_SESSION = false ∧ r.tag.quietUntil = x.tag.quietUntil ∧ r.items = x.items) ∧
  (∀ (s x : State) (t : Nat), x = s.at t → inField x = true → x.tag.st = .session → x.tag.selected = true →
    ∃ r, exec (.deselect t false) s = .next r ∧ r.tag.st = .halted ∧ r.on F.TAG_STATUS_QUIET = true ∧
      r.tag.quietUntil = x.now + (tagMode x).2.1 * secondU ∧ r.on F.TAG_STATUS_SESSION = false ∧ r.items = x.items) ∧
  (∀ (s x : State) (t : Nat), x = s.at t → inField x = false → x.sup.power ≠ .off → x.en Blk.TAG = true →
    ∃ r, exec (.fieldOn t) s = .next r ∧ r.on F.TAG_STATUS_FIELD = true ∧ r.tag.st = .idle ∧
      r.evf.raised = x.evf.raised ++ [(50, x.now)] ∧ bits (r.rd Reg.TAG_ISR).toNat 0 0 = 1 ∧ r.items = x.items) ∧
  (∀ (s x : State) (t : Nat), x = s.at t → inField x = true →
    ∃ r, exec (.fieldOff t) s = .next r ∧ r.on F.TAG_STATUS_FIELD = false ∧ r.tag.st = .idle ∧ r.tag.buffer = none ∧
      r.on F.TAG_STATUS_SESSION = false ∧ r.items = x.items) ∧
  (∀ (s x : State) (t : Nat), x = s.at t → inField x = false → exec (.fieldOff t) s = .next x) ∧
  (∀ (s x : State) (t : Nat), x = s.at t → x.tag.quietUntil ≤ x.now →
    ∃ r, exec (.quietExpiry t) s = .next r ∧ r.on F.TAG_STATUS_QUIET = false ∧ r.tag = x.tag ∧ r.items = x.items) ∧
  (∀ (s x : State) (t : Nat), x = s.at t → x.en Blk.TAG = true →
    ∃ r, exec (.unquiet t) s = .next r ∧ r.on F.TAG_STATUS_QUIET = false ∧ r.tag.quietUntil = x.now ∧ r.items = x.items) ∧
  (∀ (s x : State) (t ball : Nat), x = s.at t → x.en Blk.TAG = true → x.sup.power ≠ .off →
    ∃ r, exec (.coilTest t 0 ball) s = .next r ∧ r.get F.TAG_STATUS_COIL = 0 ∧ r.hre = x.hre ∧ r.items = x.items) ∧
  (∀ (s x : State) (t ball : Nat), x = s.at t → x.en Blk.TAG = true → x.sup.power ≠ .off →
    ∃ r, exec (.coilTest t 2 ball) s = .next r ∧ r.get F.TAG_STATUS_COIL = 2 ∧ bits (r.rd Reg.TAG_ISR).toNat 5 5 = 1 ∧
      r.hre.records = x.hre.records ++ [⟨0x1000, 0x1401, x.net, word ball, word 0, word 0, word 0, false⟩] ∧
      r.items = x.items)

/-- In a session: NDEF_SELECT of the vendor application and of the NDEF application selects it and is answered 0x9000;
READ_BINARY within the capability container is answered with its bytes and 0x9000; UPDATE_BINARY is answered 0x6982.
With the vendor application selected and CLA 0x80: WRITE_BEGIN of 1 to 4,064 bytes, with writes enabled, opens a
record buffer of that length and is answered 0x9000; WRITE_DATA of 1 to 240 bytes within the buffer places them and is
answered 0x9000; WRITE_ABORT drops the buffer and is answered 0x9000; TAG_STATUS is answered 16 bytes and a status
word; WRITE_COMMIT, with a buffer and writes enabled, is answered 0x6A80 where its CRC-32 is not the buffer's, keeps
the buffer and changes no flash; where it is, with VSUP, no verify failing and the field staying, the flash is that
after all the commit's steps, the last commit is 0x9000 and the answer is 16 bytes and a status word. WRITE_BEGIN with
another CLA is answered 0x6E00 and opens no buffer. Without a field WRITE_ABORT and TAG_STATUS change nothing. Only
WRITE_COMMIT changes flash, and none changes the promise table. -/
def Obligations.TagWrites : Prop :=
  (∀ (s x : State) (t : Nat), x = s.at t → inField x = true → x.tag.st = .session →
    ∃ r, exec (.ndefSelect t true vendorAid) s = .next r ∧ r.tag.file = .vendor ∧ r.tag.selected = true ∧
      r.tag.answer = [0x90, 0x00] ∧ r.flc = x.flc ∧ r.items = x.items) ∧
  (∀ (s x : State) (t : Nat), x = s.at t → inField x = true → x.tag.st = .session →
    ∃ r, exec (.ndefSelect t true ndefAid) s = .next r ∧ r.tag.file = .ndefApp ∧ r.tag.selected = true ∧
      r.tag.answer = [0x90, 0x00] ∧ r.flc = x.flc ∧ r.items = x.items) ∧
  (∀ (s x : State) (t o n : Nat), x = s.at t → inField x = true → x.tag.st = .session → x.tag.file = .capability → o < 15 → o + n ≤ 15 →
    ∃ r, exec (.readBinary t o n) s = .next r ∧ r.tag.answer = slice capabilityFile o n ++ [0x90, 0x00] ∧ r.flc = x.flc ∧
      r.items = x.items) ∧
  (∀ (s x : State) (t : Nat), x = s.at t → inField x = true → x.tag.st = .session →
    ∃ r, exec (.updateBinary t) s = .next r ∧ r.tag.answer = [0x69, 0x82] ∧ r.flc = x.flc ∧ r.items = x.items) ∧
  (∀ (s x : State) (t : Nat) (data : List Byte), x = s.at t → inField x = true → x.tag.st = .session → x.tag.file = .vendor → data.length = 2 →
    leNat data ≠ 0 → leNat data ≤ 4064 → (tagMode x).2.2 = true →
    ∃ r, exec (.writeBegin t 0x80 data) s = .next r ∧ r.tag.answer = [0x90, 0x00] ∧ r.flc = x.flc ∧ r.items = x.items ∧
      ∃ b, r.tag.buffer = some b ∧ b.len = leNat data ∧ b.bytes.length = leNat data) ∧
  (∀ (s x : State) (t o : Nat) (data : List Byte) (b : TagBuffer), x = s.at t → inField x = true → x.tag.st = .session → x.tag.file = .vendor →
    x.tag.buffer = some b → 0 < data.length → data.length ≤ 240 → o + data.length ≤ b.len →
    ∃ r, exec (.writeData t 0x80 o data) s = .next r ∧
      r.tag.buffer = some { b with bytes := b.bytes.take o ++ data ++ b.bytes.drop (o + data.length) } ∧
      r.tag.answer = [0x90, 0x00] ∧ r.flc = x.flc ∧ r.items = x.items) ∧
  (∀ (s x : State) (t : Nat), x = s.at t → inField x = true → x.tag.st = .session → x.tag.file = .vendor →
    ∃ r, exec (.writeAbort t 0x80) s = .next r ∧ r.tag.buffer = none ∧ r.tag.answer = [0x90, 0x00] ∧ r.flc = x.flc ∧
      r.items = x.items) ∧
  (∀ (s x : State) (t : Nat), x = s.at t → inField x = true → x.tag.st = .session → x.tag.file = .vendor →
    ∃ r, exec (.tagStatus t 0x80) s = .next r ∧ r.tag.answer.length = 18 ∧ r.tag.buffer = x.tag.buffer ∧ r.flc = x.flc ∧
      r.items = x.items) ∧
  (∀ (s x : State) (t : Nat) (data : List Byte) (b : TagBuffer), x = s.at t → inField x = true → x.tag.st = .session → x.tag.file = .vendor →
    x.tag.buffer = some b → data.length = 4 → (tagMode x).2.2 = true → leNat data ≠ crc32 b.bytes →
    ∃ r, exec (.writeCommit t 0x80 data none false) s = .next r ∧ r.tag.answer = [0x6A, 0x80] ∧ r.flc = x.flc ∧
      r.tag.buffer = some b ∧ r.items = x.items) ∧
  (∀ (s x : State) (t : Nat) (data : List Byte) (b : TagBuffer), x = s.at t → inField x = true → x.tag.st = .session → x.tag.file = .vendor →
    x.tag.buffer = some b → data.length = 4 → (tagMode x).2.2 = true → leNat data = crc32 b.bytes → x.sup.power ≠ .off →
    ∃ r, exec (.writeCommit t 0x80 data none false) s = .next r ∧ r.tag.answer.length = 18 ∧ r.tag.lastCommit = 0x9000 ∧
      r.flc = (runSteps x none (commitSteps x b.bytes)).1.flc ∧
      r.items = x.items) ∧
  (∀ (s x : State) (t cla : Nat) (data : List Byte), x = s.at t → inField x = true → x.tag.st = .session → cla ≠ 0x80 →
    ∃ r, exec (.writeBegin t cla data) s = .next r ∧ r.tag.answer = [0x6E, 0x00] ∧ r.tag.buffer = x.tag.buffer ∧ r.flc = x.flc ∧
      r.items = x.items) ∧
  (∀ (s x : State) (t cla : Nat), x = s.at t → inField x = false → exec (.writeAbort t cla) s = .next x) ∧
  (∀ (s x : State) (t cla : Nat), x = s.at t → inField x = false → exec (.tagStatus t cla) s = .next x)
end

