-- ==== Sys2Proof/Laws/Sparse.lean ====
section
/-! SUPPORT. Laws of the sparse stores: a read after a write, and that every operation keeps the canonical form. -/

namespace Sys2Proof.Machine

variable {V : Type} [DecidableEq V] {d : Nat → V}

omit [DecidableEq V] in
/-- Dropping the entries at one key leaves every other key. -/
theorem Sparse.get_filter (m : List (Nat × V)) {k j : Nat} (h : j ≠ k) :
    Sparse.get d (m.filter (fun e => e.1 != k)) j = Sparse.get d m j := by
  induction m with
  | nil => rfl
  | cons x r ih =>
    obtain ⟨a, w⟩ := x
    by_cases hk : a = k
    · subst hk
      simp [Sparse.get, h, ih]
    · simp only [List.filter, Sparse.get, ih, show (a != k) = true by simpa using hk]

omit [DecidableEq V] in
/-- Without entries at a key, it reads as unlisted. -/
theorem Sparse.get_filter_same (m : List (Nat × V)) (k : Nat) :
    Sparse.get d (m.filter (fun e => e.1 != k)) k = d k := by
  induction m with
  | nil => rfl
  | cons x r ih =>
    obtain ⟨a, w⟩ := x
    by_cases hk : a = k
    · subst hk
      simpa using ih
    · simp [hk, Sparse.get, Ne.symm hk, ih]

/-- A read after a write: the value written at its key, and what was there everywhere else. -/
theorem Sparse.get_set (m : List (Nat × V)) (k j : Nat) (v : V) :
    Sparse.get d (Sparse.set d m k v) j = if j = k then v else Sparse.get d m j := by
  induction m with
  | nil =>
    simp only [Sparse.set, Sparse.consIf]
    split
    · rename_i hv
      split
      · rename_i hj; subst hj; exact hv.symm
      · rfl
    · rfl
  | cons x r ih =>
    obtain ⟨a, w⟩ := x
    simp only [Sparse.set]
    split
    · rename_i hka
      have hne : a ≠ k := by omega
      have hflt : (((a, w) :: r).filter (fun e => e.1 != k)) = (a, w) :: r.filter (fun e => e.1 != k) := by
        simp [hne]
      rw [← hflt]
      simp only [Sparse.consIf]
      split
      · rename_i hv
        split
        · rename_i hj
          subst hj
          rw [Sparse.get_filter_same, hv]
        · rename_i hj
          exact Sparse.get_filter _ hj
      · rename_i hv
        simp only [Sparse.get]
        split
        · rfl
        · rename_i hj
          rw [Sparse.get_filter _ hj]
          rfl
    · split
      · rename_i _ hk
        subst hk
        rw [ih]
        split
        · rfl
        · rename_i hj
          simp [Sparse.get, hj]
      · rename_i h1 h2
        simp only [Sparse.get, ih]
        split
        · rename_i hj
          subst hj
          have : ¬ j = k := fun e => h2 e.symm
          simp [this]
        · rfl

/-- A read after a run of writes outside the run. -/
theorem Sparse.get_setMany_other (m : List (Nat × V)) (k j : Nat) (vs : List V)
    (hj : j < k ∨ k + vs.length ≤ j) : Sparse.get d (Sparse.setMany d m k vs) j = Sparse.get d m j := by
  induction vs generalizing m k with
  | nil => rfl
  | cons v vs ih =>
    simp only [List.length_cons] at hj
    have hk : j ≠ k := by omega
    simp only [Sparse.setMany]
    rw [ih _ (k + 1) (by omega), Sparse.get_set]
    simp [hk]

/-- A read after a run of writes within the run. -/
theorem Sparse.get_setMany_within (m : List (Nat × V)) (k i : Nat) (vs : List V)
    (hi : i < vs.length) : Sparse.get d (Sparse.setMany d m k vs) (k + i) = vs[i] := by
  induction vs generalizing m k i with
  | nil => simp at hi
  | cons v vs ih =>
    simp only [Sparse.setMany]
    cases i with
    | zero =>
      rw [Sparse.get_setMany_other _ _ _ _ (by omega)]
      simp [Sparse.get_set]
    | succ i =>
      have hi' : i < vs.length := by simpa using hi
      rw [show k + (i + 1) = k + 1 + i by omega, ih _ (k + 1) i hi']
      rfl

/-! ### The canonical form -/

/-- The canonical form from a key on is one from every lower key on. -/
theorem Sparse.wfFrom_mono {m : List (Nat × V)} {lo lo' : Nat} (h : Sparse.wfFrom d lo m = true) (hl : lo' ≤ lo) :
    Sparse.wfFrom d lo' m = true := by
  cases m with
  | nil => rfl
  | cons x r =>
    obtain ⟨a, v⟩ := x
    simp only [Sparse.wfFrom, Bool.and_eq_true, decide_eq_true_eq] at h ⊢
    exact ⟨⟨by omega, h.1.2⟩, h.2⟩

/-- Removing entries keeps the canonical form. -/
theorem Sparse.filter_wfFrom {m : List (Nat × V)} {lo : Nat} (h : Sparse.wfFrom d lo m = true) (p : Nat × V → Bool) :
    Sparse.wfFrom d lo (m.filter p) = true := by
  induction m generalizing lo with
  | nil => rfl
  | cons x r ih =>
    obtain ⟨a, w⟩ := x
    have h' := h
    simp only [Sparse.wfFrom, Bool.and_eq_true, decide_eq_true_eq] at h'
    cases hp : p (a, w) with
    | true =>
      simp only [List.filter, hp, Sparse.wfFrom, Bool.and_eq_true, decide_eq_true_eq]
      exact ⟨h'.1, ih h'.2⟩
    | false =>
      simp only [List.filter, hp]
      exact Sparse.wfFrom_mono (ih h'.2) (by omega)

theorem Sparse.filter_wf {m : List (Nat × V)} (h : Sparse.wf d m = true) (p : Nat × V → Bool) :
    Sparse.wf d (m.filter p) = true :=
  Sparse.filter_wfFrom h p

/-- Clearing a range keeps the canonical form. -/
theorem Sparse.clear_wf {m : List (Nat × V)} (h : Sparse.wf d m = true) (lo hi : Nat) :
    Sparse.wf d (Sparse.clear m lo hi) = true :=
  Sparse.filter_wf h _

/-- Putting an entry in front of a canonical rest. -/
theorem Sparse.consIf_wf {r : List (Nat × V)} {lo k : Nat} {v : V} (hl : lo ≤ k)
    (h : Sparse.wfFrom d (k + 1) r = true) : Sparse.wfFrom d lo (Sparse.consIf d k v r) = true := by
  unfold Sparse.consIf
  split
  · exact Sparse.wfFrom_mono h (by omega)
  · rename_i hv
    simp [Sparse.wfFrom, hl, hv, h]

theorem Sparse.set_wfFrom {m : List (Nat × V)} {lo k : Nat} {v : V} (hl : lo ≤ k) (h : Sparse.wfFrom d lo m = true) :
    Sparse.wfFrom d lo (Sparse.set d m k v) = true := by
  induction m generalizing lo with
  | nil => exact Sparse.consIf_wf hl rfl
  | cons x r ih =>
    obtain ⟨a, w⟩ := x
    have h' := h
    simp only [Sparse.wfFrom, Bool.and_eq_true, decide_eq_true_eq] at h'
    simp only [Sparse.set]
    split
    · rename_i hk
      refine Sparse.consIf_wf hl ?_
      simp only [Sparse.wfFrom, Bool.and_eq_true, decide_eq_true_eq]
      exact ⟨⟨by omega, h'.1.2⟩, Sparse.filter_wfFrom h'.2 _⟩
    · split
      · exact ih hl (Sparse.wfFrom_mono h'.2 (by omega))
      · rename_i h1 h2
        simp only [Sparse.wfFrom, Bool.and_eq_true, decide_eq_true_eq]
        exact ⟨h'.1, ih (by omega) h'.2⟩

/-- A write keeps the canonical form. -/
theorem Sparse.set_wf {m : List (Nat × V)} (h : Sparse.wf d m = true) (k : Nat) (v : V) :
    Sparse.wf d (Sparse.set d m k v) = true :=
  Sparse.set_wfFrom (Nat.zero_le k) h

/-- A run of writes keeps the canonical form. -/
theorem Sparse.setMany_wf {m : List (Nat × V)} (h : Sparse.wf d m = true) (k : Nat) (vs : List V) :
    Sparse.wf d (Sparse.setMany d m k vs) = true := by
  induction vs generalizing m k with
  | nil => exact h
  | cons v vs ih => exact ih (Sparse.set_wf h k v) (k + 1)

end Sys2Proof.Machine
end

