-- ==== Sys2Proof/Laws/Fields.lean ====
section
/-! SUPPORT. Laws of fields and of the register file: what a read returns after a write of the same field, of another
field of the same register, and of another register. -/

namespace Sys2Proof.Machine

/-- Splitting a number at a bit. -/
theorem split_at (w lo : Nat) : w = w / 2 ^ lo * 2 ^ lo + w % 2 ^ lo := by
  have := Nat.div_add_mod w (2 ^ lo)
  rw [Nat.mul_comm] at this
  exact this.symm

/-- A field of a word as written, as numbers: the upper part, the field and the lower part. -/
theorem Fld.insert_toNat (f : Fld) (w : Word) (v : Nat) (h : f.lo + f.width ≤ 32) :
    (f.insert w v).toNat = (w.toNat / 2 ^ (f.lo + f.width) * 2 ^ f.width + v % 2 ^ f.width) * 2 ^ f.lo + w.toNat % 2 ^ f.lo := by
  obtain ⟨a, lo, wd⟩ := f
  simp only [Fld.insert, Fld.value, BitVec.toNat_ofNat] at *
  have hw : w.toNat < 2 ^ 32 := w.isLt
  generalize w.toNat = n at *
  have e1 : n = n / 2 ^ lo * 2 ^ lo + n % 2 ^ lo := split_at n lo
  have e2 : n / 2 ^ lo = n / 2 ^ lo / 2 ^ wd * 2 ^ wd + n / 2 ^ lo % 2 ^ wd := split_at _ wd
  have e3 : n / 2 ^ lo / 2 ^ wd = n / 2 ^ (lo + wd) := by rw [Nat.div_div_eq_div_mul, ← Nat.pow_add]
  rw [e3] at e2
  have hv : v % 2 ^ wd < 2 ^ wd := Nat.mod_lt _ (Nat.two_pow_pos wd)
  have key : n - n / 2 ^ lo % 2 ^ wd * 2 ^ lo + v % 2 ^ wd * 2 ^ lo =
      (n / 2 ^ (lo + wd) * 2 ^ wd + v % 2 ^ wd) * 2 ^ lo + n % 2 ^ lo := by
    have : n = (n / 2 ^ (lo + wd) * 2 ^ wd) * 2 ^ lo + n / 2 ^ lo % 2 ^ wd * 2 ^ lo + n % 2 ^ lo := by
      rw [← Nat.add_mul, ← e2]; exact e1
    rw [Nat.add_mul]
    omega
  rw [key]
  apply Nat.mod_eq_of_lt
  have hlo : n % 2 ^ lo < 2 ^ lo := Nat.mod_lt _ (Nat.two_pow_pos lo)
  have hq : n / 2 ^ (lo + wd) < 2 ^ (32 - (lo + wd)) := by
    rw [Nat.div_lt_iff_lt_mul (Nat.two_pow_pos _), ← Nat.pow_add]
    rwa [Nat.sub_add_cancel h]
  calc (n / 2 ^ (lo + wd) * 2 ^ wd + v % 2 ^ wd) * 2 ^ lo + n % 2 ^ lo
      < (n / 2 ^ (lo + wd) * 2 ^ wd + v % 2 ^ wd) * 2 ^ lo + 2 ^ lo := by omega
    _ = (n / 2 ^ (lo + wd) * 2 ^ wd + v % 2 ^ wd + 1) * 2 ^ lo := by rw [Nat.add_mul _ 1]; omega
    _ ≤ ((n / 2 ^ (lo + wd) + 1) * 2 ^ wd) * 2 ^ lo := by
        apply Nat.mul_le_mul_right
        rw [Nat.add_mul]
        omega
    _ ≤ (2 ^ (32 - (lo + wd)) * 2 ^ wd) * 2 ^ lo := by
        apply Nat.mul_le_mul_right
        exact Nat.mul_le_mul_right _ hq
    _ = 2 ^ 32 := by rw [← Nat.pow_add, ← Nat.pow_add]; congr 1; omega

/-- A field reads as written, cut to its width. -/
theorem Fld.value_insert (f : Fld) (w : Word) (v : Nat) (h : f.lo + f.width ≤ 32) :
    f.value (f.insert w v) = v % 2 ^ f.width := by
  rw [Fld.value, Fld.insert_toNat f w v h]
  have hlo : w.toNat % 2 ^ f.lo < 2 ^ f.lo := Nat.mod_lt _ (Nat.two_pow_pos _)
  rw [Nat.add_comm, Nat.add_mul_div_right _ _ (Nat.two_pow_pos _), Nat.div_eq_of_lt hlo, Nat.zero_add,
    Nat.add_comm, Nat.add_mul_mod_self_right]
  exact Nat.mod_mod _ _

/-- A write of a field leaves the fields above and below it. -/
theorem Fld.value_insert_other (f g : Fld) (w : Word) (v : Nat) (h : f.lo + f.width ≤ 32)
    (hd : g.lo + g.width ≤ f.lo ∨ f.lo + f.width ≤ g.lo) : g.value (f.insert w v) = g.value w := by
  rw [Fld.value, Fld.value, Fld.insert_toNat f w v h]
  generalize w.toNat = n
  obtain ⟨a, lo, wd⟩ := f
  obtain ⟨b, lo', wd'⟩ := g
  simp only at *
  cases hd with
  | inl hd =>
    obtain ⟨k, rfl⟩ : ∃ k, lo = lo' + wd' + k := ⟨lo - (lo' + wd'), by omega⟩
    generalize n / 2 ^ (lo' + wd' + k + wd) * 2 ^ wd + v % 2 ^ wd = q
    have h1 : q * 2 ^ (lo' + wd' + k) = (q * 2 ^ (wd' + k)) * 2 ^ lo' := by
      rw [Nat.mul_assoc, ← Nat.pow_add]; congr 2; omega
    rw [h1, Nat.add_comm, Nat.add_mul_div_right _ _ (Nat.two_pow_pos _)]
    have h2 : q * 2 ^ (wd' + k) = (q * 2 ^ k) * 2 ^ wd' := by
      rw [Nat.mul_assoc, ← Nat.pow_add]; congr 2; omega
    rw [h2, Nat.add_mul_mod_self_right]
    have h3 : lo' + wd' + k = lo' + (wd' + k) := by omega
    rw [h3, Nat.pow_add 2 lo' (wd' + k), Nat.mod_mul_right_div_self, Nat.pow_add 2 wd' k,
      Nat.mod_mul_right_mod]
  | inr hd =>
    obtain ⟨k, rfl⟩ : ∃ k, lo' = lo + wd + k := ⟨lo' - (lo + wd), by omega⟩
    have hlo : n % 2 ^ lo < 2 ^ lo := Nat.mod_lt _ (Nat.two_pow_pos _)
    have hv : v % 2 ^ wd < 2 ^ wd := Nat.mod_lt _ (Nat.two_pow_pos _)
    have e1 : ((n / 2 ^ (lo + wd) * 2 ^ wd + v % 2 ^ wd) * 2 ^ lo + n % 2 ^ lo) / 2 ^ (lo + wd) = n / 2 ^ (lo + wd) := by
      rw [Nat.pow_add, ← Nat.div_div_eq_div_mul, Nat.add_comm _ (n % 2 ^ lo),
        Nat.add_mul_div_right _ _ (Nat.two_pow_pos _), Nat.div_eq_of_lt hlo, Nat.zero_add, Nat.add_comm,
        Nat.add_mul_div_right _ _ (Nat.two_pow_pos _), Nat.div_eq_of_lt hv, Nat.zero_add]
    rw [Nat.pow_add 2 (lo + wd) k, ← Nat.div_div_eq_div_mul, ← Nat.div_div_eq_div_mul, e1]

@[simp] theorem State.wr_regsWf {s : State} (h : regsWf s) (a : Nat) (v : Word) : regsWf (s.wr a v) := Sparse.set_wf h a v

@[simp] theorem State.put_regsWf {s : State} (h : regsWf s) (f : Fld) (v : Nat) : regsWf (s.put f v) := State.wr_regsWf h _ _

/-- Reading a register after writing one. -/
theorem State.rd_wr (s : State) (a b : Nat) (v : Word) :
    (s.wr a v).rd b = if b = a then v else s.rd b := Sparse.get_set s.regs a b v

@[simp] theorem State.rd_wr_same (s : State) (a : Nat) (v : Word) : (s.wr a v).rd a = v := by
  simp [State.rd_wr]

@[simp] theorem State.rd_wr_other (s : State) {a b : Nat} (v : Word) (hab : b ≠ a) : (s.wr a v).rd b = s.rd b := by
  simp [State.rd_wr, hab]

/-- Reading a register after writing a field of another. -/
@[simp] theorem State.rd_put_other (s : State) (f : Fld) (v : Nat) {b : Nat} (hb : b ≠ f.addr) :
    (s.put f v).rd b = s.rd b := State.rd_wr_other s _ hb

/-- Reading a field after writing another register. -/
@[simp] theorem State.get_wr_other (s : State) {a : Nat} (v : Word) (f : Fld) (ha : f.addr ≠ a) :
    (s.wr a v).get f = s.get f := by
  rw [State.get, State.rd_wr_other s v ha, State.get]

@[simp] theorem State.on_wr_other (s : State) {a : Nat} (v : Word) (f : Fld) (ha : f.addr ≠ a) :
    (s.wr a v).on f = s.on f := by
  rw [State.on, State.get_wr_other s v f ha, State.on]

/-- Reading the field written. -/
@[simp] theorem State.get_put_same (s : State) (f : Fld) (v : Nat) (hf : f.lo + f.width ≤ 32) :
    (s.put f v).get f = v % 2 ^ f.width := by
  rw [State.get, State.put, State.rd_wr_same, Fld.value_insert f _ v hf]

/-- Reading a field of another register. -/
@[simp] theorem State.get_put_reg (s : State) (f g : Fld) (v : Nat) (ha : g.addr ≠ f.addr) :
    (s.put f v).get g = s.get g := State.get_wr_other s _ g ha

/-- Reading another field of the register written. -/
@[simp] theorem State.get_put_field (s : State) (f g : Fld) (v : Nat) (hf : f.lo + f.width ≤ 32)
    (hd : g.lo + g.width ≤ f.lo ∨ f.lo + f.width ≤ g.lo) : (s.put f v).get g = s.get g := by
  by_cases ha : g.addr = f.addr
  · rw [State.get, State.put, ha, State.rd_wr_same, Fld.value_insert_other f g _ v hf hd, State.get, ha]
  · exact State.get_put_reg s f g v ha

end Sys2Proof.Machine
end

