-- ==== Sys2Proof/Laws/State.lean ====
section
/-! SUPPORT. Laws of state updates: what each update leaves unchanged, one lemma for each field, and reads of registers
through updates that leave the register file alone. -/

namespace Sys2Proof.Machine

/-! ### Reads through an update of anything but the register file -/

@[simp] theorem State.rd_update (s : State) (pending_ : List Instr) (now_ : Nat) (net_ : Nat) (relay_ : Bool) (freeCtr_ : Nat) (msix_ : List Nat) (pcie_ : Pcie) (hostMem_ : List Host.Cell) (sram_ : List Host.Cell) (items_ : List Item) (hre_ : Hre) (chn_ : Chn) (mac_ : Mac) (blw_ : Blw) (mur_ : Mur) (rfe_ : Rfe) (esm_ : Esm) (cry_ : Cry) (skn_ : Skn) (flc_ : Flc) (evf_ : Evf) (cpx_ : Cpx) (per_ : Per) (upd_ : Upd) (tag_ : Tag) (tmb_ : Tmb) (clk_ : Clk) (sup_ : Sup) (a : Nat) :
    (State.mk pending_ now_ net_ relay_ freeCtr_ s.regs msix_ pcie_ hostMem_ sram_ items_ hre_ chn_ mac_ blw_ mur_ rfe_ esm_ cry_ skn_ flc_ evf_ cpx_ per_ upd_ tag_ tmb_ clk_ sup_).rd a = s.rd a := rfl
@[simp] theorem State.get_update (s : State) (pending_ : List Instr) (now_ : Nat) (net_ : Nat) (relay_ : Bool) (freeCtr_ : Nat) (msix_ : List Nat) (pcie_ : Pcie) (hostMem_ : List Host.Cell) (sram_ : List Host.Cell) (items_ : List Item) (hre_ : Hre) (chn_ : Chn) (mac_ : Mac) (blw_ : Blw) (mur_ : Mur) (rfe_ : Rfe) (esm_ : Esm) (cry_ : Cry) (skn_ : Skn) (flc_ : Flc) (evf_ : Evf) (cpx_ : Cpx) (per_ : Per) (upd_ : Upd) (tag_ : Tag) (tmb_ : Tmb) (clk_ : Clk) (sup_ : Sup) (f : Fld) :
    (State.mk pending_ now_ net_ relay_ freeCtr_ s.regs msix_ pcie_ hostMem_ sram_ items_ hre_ chn_ mac_ blw_ mur_ rfe_ esm_ cry_ skn_ flc_ evf_ cpx_ per_ upd_ tag_ tmb_ clk_ sup_).get f = s.get f := rfl
@[simp] theorem State.on_update (s : State) (pending_ : List Instr) (now_ : Nat) (net_ : Nat) (relay_ : Bool) (freeCtr_ : Nat) (msix_ : List Nat) (pcie_ : Pcie) (hostMem_ : List Host.Cell) (sram_ : List Host.Cell) (items_ : List Item) (hre_ : Hre) (chn_ : Chn) (mac_ : Mac) (blw_ : Blw) (mur_ : Mur) (rfe_ : Rfe) (esm_ : Esm) (cry_ : Cry) (skn_ : Skn) (flc_ : Flc) (evf_ : Evf) (cpx_ : Cpx) (per_ : Per) (upd_ : Upd) (tag_ : Tag) (tmb_ : Tmb) (clk_ : Clk) (sup_ : Sup) (f : Fld) :
    (State.mk pending_ now_ net_ relay_ freeCtr_ s.regs msix_ pcie_ hostMem_ sram_ items_ hre_ chn_ mac_ blw_ mur_ rfe_ esm_ cry_ skn_ flc_ evf_ cpx_ per_ upd_ tag_ tmb_ clk_ sup_).on f = s.on f := rfl
@[simp] theorem State.en_update (s : State) (pending_ : List Instr) (now_ : Nat) (net_ : Nat) (relay_ : Bool) (freeCtr_ : Nat) (msix_ : List Nat) (pcie_ : Pcie) (hostMem_ : List Host.Cell) (sram_ : List Host.Cell) (items_ : List Item) (hre_ : Hre) (chn_ : Chn) (mac_ : Mac) (blw_ : Blw) (mur_ : Mur) (rfe_ : Rfe) (esm_ : Esm) (cry_ : Cry) (skn_ : Skn) (flc_ : Flc) (evf_ : Evf) (cpx_ : Cpx) (per_ : Per) (upd_ : Upd) (tag_ : Tag) (tmb_ : Tmb) (clk_ : Clk) (sup_ : Sup) (b : Nat) :
    (State.mk pending_ now_ net_ relay_ freeCtr_ s.regs msix_ pcie_ hostMem_ sram_ items_ hre_ chn_ mac_ blw_ mur_ rfe_ esm_ cry_ skn_ flc_ evf_ cpx_ per_ upd_ tag_ tmb_ clk_ sup_).en b = s.en b := rfl
@[simp] theorem State.regsWf_update (s : State) (pending_ : List Instr) (now_ : Nat) (net_ : Nat) (relay_ : Bool) (freeCtr_ : Nat) (msix_ : List Nat) (pcie_ : Pcie) (hostMem_ : List Host.Cell) (sram_ : List Host.Cell) (items_ : List Item) (hre_ : Hre) (chn_ : Chn) (mac_ : Mac) (blw_ : Blw) (mur_ : Mur) (rfe_ : Rfe) (esm_ : Esm) (cry_ : Cry) (skn_ : Skn) (flc_ : Flc) (evf_ : Evf) (cpx_ : Cpx) (per_ : Per) (upd_ : Upd) (tag_ : Tag) (tmb_ : Tmb) (clk_ : Clk) (sup_ : Sup) :
    regsWf (State.mk pending_ now_ net_ relay_ freeCtr_ s.regs msix_ pcie_ hostMem_ sram_ items_ hre_ chn_ mac_ blw_ mur_ rfe_ esm_ cry_ skn_ flc_ evf_ cpx_ per_ upd_ tag_ tmb_ clk_ sup_) ↔ regsWf s := ⟨fun h => h, fun h => h⟩

/-! ### State.wr -/

@[simp] theorem State.wr_pending (s : State) (a : Nat) (v : Word) : (s.wr a v).pending = s.pending := rfl
@[simp] theorem State.wr_now (s : State) (a : Nat) (v : Word) : (s.wr a v).now = s.now := rfl
@[simp] theorem State.wr_net (s : State) (a : Nat) (v : Word) : (s.wr a v).net = s.net := rfl
@[simp] theorem State.wr_relay (s : State) (a : Nat) (v : Word) : (s.wr a v).relay = s.relay := rfl
@[simp] theorem State.wr_freeCtr (s : State) (a : Nat) (v : Word) : (s.wr a v).freeCtr = s.freeCtr := rfl
@[simp] theorem State.wr_msix (s : State) (a : Nat) (v : Word) : (s.wr a v).msix = s.msix := rfl
@[simp] theorem State.wr_pcie (s : State) (a : Nat) (v : Word) : (s.wr a v).pcie = s.pcie := rfl
@[simp] theorem State.wr_hostMem (s : State) (a : Nat) (v : Word) : (s.wr a v).hostMem = s.hostMem := rfl
@[simp] theorem State.wr_sram (s : State) (a : Nat) (v : Word) : (s.wr a v).sram = s.sram := rfl
@[simp] theorem State.wr_items (s : State) (a : Nat) (v : Word) : (s.wr a v).items = s.items := rfl
@[simp] theorem State.wr_hre (s : State) (a : Nat) (v : Word) : (s.wr a v).hre = s.hre := rfl
@[simp] theorem State.wr_chn (s : State) (a : Nat) (v : Word) : (s.wr a v).chn = s.chn := rfl
@[simp] theorem State.wr_mac (s : State) (a : Nat) (v : Word) : (s.wr a v).mac = s.mac := rfl
@[simp] theorem State.wr_blw (s : State) (a : Nat) (v : Word) : (s.wr a v).blw = s.blw := rfl
@[simp] theorem State.wr_mur (s : State) (a : Nat) (v : Word) : (s.wr a v).mur = s.mur := rfl
@[simp] theorem State.wr_rfe (s : State) (a : Nat) (v : Word) : (s.wr a v).rfe = s.rfe := rfl
@[simp] theorem State.wr_esm (s : State) (a : Nat) (v : Word) : (s.wr a v).esm = s.esm := rfl
@[simp] theorem State.wr_cry (s : State) (a : Nat) (v : Word) : (s.wr a v).cry = s.cry := rfl
@[simp] theorem State.wr_skn (s : State) (a : Nat) (v : Word) : (s.wr a v).skn = s.skn := rfl
@[simp] theorem State.wr_flc (s : State) (a : Nat) (v : Word) : (s.wr a v).flc = s.flc := rfl
@[simp] theorem State.wr_evf (s : State) (a : Nat) (v : Word) : (s.wr a v).evf = s.evf := rfl
@[simp] theorem State.wr_cpx (s : State) (a : Nat) (v : Word) : (s.wr a v).cpx = s.cpx := rfl
@[simp] theorem State.wr_per (s : State) (a : Nat) (v : Word) : (s.wr a v).per = s.per := rfl
@[simp] theorem State.wr_upd (s : State) (a : Nat) (v : Word) : (s.wr a v).upd = s.upd := rfl
@[simp] theorem State.wr_tag (s : State) (a : Nat) (v : Word) : (s.wr a v).tag = s.tag := rfl
@[simp] theorem State.wr_tmb (s : State) (a : Nat) (v : Word) : (s.wr a v).tmb = s.tmb := rfl
@[simp] theorem State.wr_clk (s : State) (a : Nat) (v : Word) : (s.wr a v).clk = s.clk := rfl
@[simp] theorem State.wr_sup (s : State) (a : Nat) (v : Word) : (s.wr a v).sup = s.sup := rfl

/-! ### State.put -/

@[simp] theorem State.put_pending (s : State) (f : Fld) (v : Nat) : (s.put f v).pending = s.pending := rfl
@[simp] theorem State.put_now (s : State) (f : Fld) (v : Nat) : (s.put f v).now = s.now := rfl
@[simp] theorem State.put_net (s : State) (f : Fld) (v : Nat) : (s.put f v).net = s.net := rfl
@[simp] theorem State.put_relay (s : State) (f : Fld) (v : Nat) : (s.put f v).relay = s.relay := rfl
@[simp] theorem State.put_freeCtr (s : State) (f : Fld) (v : Nat) : (s.put f v).freeCtr = s.freeCtr := rfl
@[simp] theorem State.put_msix (s : State) (f : Fld) (v : Nat) : (s.put f v).msix = s.msix := rfl
@[simp] theorem State.put_pcie (s : State) (f : Fld) (v : Nat) : (s.put f v).pcie = s.pcie := rfl
@[simp] theorem State.put_hostMem (s : State) (f : Fld) (v : Nat) : (s.put f v).hostMem = s.hostMem := rfl
@[simp] theorem State.put_sram (s : State) (f : Fld) (v : Nat) : (s.put f v).sram = s.sram := rfl
@[simp] theorem State.put_items (s : State) (f : Fld) (v : Nat) : (s.put f v).items = s.items := rfl
@[simp] theorem State.put_hre (s : State) (f : Fld) (v : Nat) : (s.put f v).hre = s.hre := rfl
@[simp] theorem State.put_chn (s : State) (f : Fld) (v : Nat) : (s.put f v).chn = s.chn := rfl
@[simp] theorem State.put_mac (s : State) (f : Fld) (v : Nat) : (s.put f v).mac = s.mac := rfl
@[simp] theorem State.put_blw (s : State) (f : Fld) (v : Nat) : (s.put f v).blw = s.blw := rfl
@[simp] theorem State.put_mur (s : State) (f : Fld) (v : Nat) : (s.put f v).mur = s.mur := rfl
@[simp] theorem State.put_rfe (s : State) (f : Fld) (v : Nat) : (s.put f v).rfe = s.rfe := rfl
@[simp] theorem State.put_esm (s : State) (f : Fld) (v : Nat) : (s.put f v).esm = s.esm := rfl
@[simp] theorem State.put_cry (s : State) (f : Fld) (v : Nat) : (s.put f v).cry = s.cry := rfl
@[simp] theorem State.put_skn (s : State) (f : Fld) (v : Nat) : (s.put f v).skn = s.skn := rfl
@[simp] theorem State.put_flc (s : State) (f : Fld) (v : Nat) : (s.put f v).flc = s.flc := rfl
@[simp] theorem State.put_evf (s : State) (f : Fld) (v : Nat) : (s.put f v).evf = s.evf := rfl
@[simp] theorem State.put_cpx (s : State) (f : Fld) (v : Nat) : (s.put f v).cpx = s.cpx := rfl
@[simp] theorem State.put_per (s : State) (f : Fld) (v : Nat) : (s.put f v).per = s.per := rfl
@[simp] theorem State.put_upd (s : State) (f : Fld) (v : Nat) : (s.put f v).upd = s.upd := rfl
@[simp] theorem State.put_tag (s : State) (f : Fld) (v : Nat) : (s.put f v).tag = s.tag := rfl
@[simp] theorem State.put_tmb (s : State) (f : Fld) (v : Nat) : (s.put f v).tmb = s.tmb := rfl
@[simp] theorem State.put_clk (s : State) (f : Fld) (v : Nat) : (s.put f v).clk = s.clk := rfl
@[simp] theorem State.put_sup (s : State) (f : Fld) (v : Nat) : (s.put f v).sup = s.sup := rfl

/-! ### State.count -/

@[simp] theorem State.count_pending (s : State) (f : Fld) (n : Nat) : (s.count f n).pending = s.pending := rfl
@[simp] theorem State.count_now (s : State) (f : Fld) (n : Nat) : (s.count f n).now = s.now := rfl
@[simp] theorem State.count_net (s : State) (f : Fld) (n : Nat) : (s.count f n).net = s.net := rfl
@[simp] theorem State.count_relay (s : State) (f : Fld) (n : Nat) : (s.count f n).relay = s.relay := rfl
@[simp] theorem State.count_freeCtr (s : State) (f : Fld) (n : Nat) : (s.count f n).freeCtr = s.freeCtr := rfl
@[simp] theorem State.count_msix (s : State) (f : Fld) (n : Nat) : (s.count f n).msix = s.msix := rfl
@[simp] theorem State.count_pcie (s : State) (f : Fld) (n : Nat) : (s.count f n).pcie = s.pcie := rfl
@[simp] theorem State.count_hostMem (s : State) (f : Fld) (n : Nat) : (s.count f n).hostMem = s.hostMem := rfl
@[simp] theorem State.count_sram (s : State) (f : Fld) (n : Nat) : (s.count f n).sram = s.sram := rfl
@[simp] theorem State.count_items (s : State) (f : Fld) (n : Nat) : (s.count f n).items = s.items := rfl
@[simp] theorem State.count_hre (s : State) (f : Fld) (n : Nat) : (s.count f n).hre = s.hre := rfl
@[simp] theorem State.count_chn (s : State) (f : Fld) (n : Nat) : (s.count f n).chn = s.chn := rfl
@[simp] theorem State.count_mac (s : State) (f : Fld) (n : Nat) : (s.count f n).mac = s.mac := rfl
@[simp] theorem State.count_blw (s : State) (f : Fld) (n : Nat) : (s.count f n).blw = s.blw := rfl
@[simp] theorem State.count_mur (s : State) (f : Fld) (n : Nat) : (s.count f n).mur = s.mur := rfl
@[simp] theorem State.count_rfe (s : State) (f : Fld) (n : Nat) : (s.count f n).rfe = s.rfe := rfl
@[simp] theorem State.count_esm (s : State) (f : Fld) (n : Nat) : (s.count f n).esm = s.esm := rfl
@[simp] theorem State.count_cry (s : State) (f : Fld) (n : Nat) : (s.count f n).cry = s.cry := rfl
@[simp] theorem State.count_skn (s : State) (f : Fld) (n : Nat) : (s.count f n).skn = s.skn := rfl
@[simp] theorem State.count_flc (s : State) (f : Fld) (n : Nat) : (s.count f n).flc = s.flc := rfl
@[simp] theorem State.count_evf (s : State) (f : Fld) (n : Nat) : (s.count f n).evf = s.evf := rfl
@[simp] theorem State.count_cpx (s : State) (f : Fld) (n : Nat) : (s.count f n).cpx = s.cpx := rfl
@[simp] theorem State.count_per (s : State) (f : Fld) (n : Nat) : (s.count f n).per = s.per := rfl
@[simp] theorem State.count_upd (s : State) (f : Fld) (n : Nat) : (s.count f n).upd = s.upd := rfl
@[simp] theorem State.count_tag (s : State) (f : Fld) (n : Nat) : (s.count f n).tag = s.tag := rfl
@[simp] theorem State.count_tmb (s : State) (f : Fld) (n : Nat) : (s.count f n).tmb = s.tmb := rfl
@[simp] theorem State.count_clk (s : State) (f : Fld) (n : Nat) : (s.count f n).clk = s.clk := rfl
@[simp] theorem State.count_sup (s : State) (f : Fld) (n : Nat) : (s.count f n).sup = s.sup := rfl

/-! ### State.wr64 -/

@[simp] theorem State.wr64_pending (s : State) (a v : Nat) : (s.wr64 a v).pending = s.pending := rfl
@[simp] theorem State.wr64_now (s : State) (a v : Nat) : (s.wr64 a v).now = s.now := rfl
@[simp] theorem State.wr64_net (s : State) (a v : Nat) : (s.wr64 a v).net = s.net := rfl
@[simp] theorem State.wr64_relay (s : State) (a v : Nat) : (s.wr64 a v).relay = s.relay := rfl
@[simp] theorem State.wr64_freeCtr (s : State) (a v : Nat) : (s.wr64 a v).freeCtr = s.freeCtr := rfl
@[simp] theorem State.wr64_msix (s : State) (a v : Nat) : (s.wr64 a v).msix = s.msix := rfl
@[simp] theorem State.wr64_pcie (s : State) (a v : Nat) : (s.wr64 a v).pcie = s.pcie := rfl
@[simp] theorem State.wr64_hostMem (s : State) (a v : Nat) : (s.wr64 a v).hostMem = s.hostMem := rfl
@[simp] theorem State.wr64_sram (s : State) (a v : Nat) : (s.wr64 a v).sram = s.sram := rfl
@[simp] theorem State.wr64_items (s : State) (a v : Nat) : (s.wr64 a v).items = s.items := rfl
@[simp] theorem State.wr64_hre (s : State) (a v : Nat) : (s.wr64 a v).hre = s.hre := rfl
@[simp] theorem State.wr64_chn (s : State) (a v : Nat) : (s.wr64 a v).chn = s.chn := rfl
@[simp] theorem State.wr64_mac (s : State) (a v : Nat) : (s.wr64 a v).mac = s.mac := rfl
@[simp] theorem State.wr64_blw (s : State) (a v : Nat) : (s.wr64 a v).blw = s.blw := rfl
@[simp] theorem State.wr64_mur (s : State) (a v : Nat) : (s.wr64 a v).mur = s.mur := rfl
@[simp] theorem State.wr64_rfe (s : State) (a v : Nat) : (s.wr64 a v).rfe = s.rfe := rfl
@[simp] theorem State.wr64_esm (s : State) (a v : Nat) : (s.wr64 a v).esm = s.esm := rfl
@[simp] theorem State.wr64_cry (s : State) (a v : Nat) : (s.wr64 a v).cry = s.cry := rfl
@[simp] theorem State.wr64_skn (s : State) (a v : Nat) : (s.wr64 a v).skn = s.skn := rfl
@[simp] theorem State.wr64_flc (s : State) (a v : Nat) : (s.wr64 a v).flc = s.flc := rfl
@[simp] theorem State.wr64_evf (s : State) (a v : Nat) : (s.wr64 a v).evf = s.evf := rfl
@[simp] theorem State.wr64_cpx (s : State) (a v : Nat) : (s.wr64 a v).cpx = s.cpx := rfl
@[simp] theorem State.wr64_per (s : State) (a v : Nat) : (s.wr64 a v).per = s.per := rfl
@[simp] theorem State.wr64_upd (s : State) (a v : Nat) : (s.wr64 a v).upd = s.upd := rfl
@[simp] theorem State.wr64_tag (s : State) (a v : Nat) : (s.wr64 a v).tag = s.tag := rfl
@[simp] theorem State.wr64_tmb (s : State) (a v : Nat) : (s.wr64 a v).tmb = s.tmb := rfl
@[simp] theorem State.wr64_clk (s : State) (a v : Nat) : (s.wr64 a v).clk = s.clk := rfl
@[simp] theorem State.wr64_sup (s : State) (a v : Nat) : (s.wr64 a v).sup = s.sup := rfl

/-! ### State.clockAt -/

@[simp] theorem State.clockAt_pending (s : State) (t : Nat) : (s.clockAt t).pending = s.pending := rfl
@[simp] theorem State.clockAt_relay (s : State) (t : Nat) : (s.clockAt t).relay = s.relay := rfl
@[simp] theorem State.clockAt_freeCtr (s : State) (t : Nat) : (s.clockAt t).freeCtr = s.freeCtr := rfl
@[simp] theorem State.clockAt_msix (s : State) (t : Nat) : (s.clockAt t).msix = s.msix := rfl
@[simp] theorem State.clockAt_pcie (s : State) (t : Nat) : (s.clockAt t).pcie = s.pcie := rfl
@[simp] theorem State.clockAt_hostMem (s : State) (t : Nat) : (s.clockAt t).hostMem = s.hostMem := rfl
@[simp] theorem State.clockAt_sram (s : State) (t : Nat) : (s.clockAt t).sram = s.sram := rfl
@[simp] theorem State.clockAt_items (s : State) (t : Nat) : (s.clockAt t).items = s.items := rfl
@[simp] theorem State.clockAt_hre (s : State) (t : Nat) : (s.clockAt t).hre = s.hre := rfl
@[simp] theorem State.clockAt_chn (s : State) (t : Nat) : (s.clockAt t).chn = s.chn := rfl
@[simp] theorem State.clockAt_blw (s : State) (t : Nat) : (s.clockAt t).blw = s.blw := rfl
@[simp] theorem State.clockAt_mur (s : State) (t : Nat) : (s.clockAt t).mur = s.mur := rfl
@[simp] theorem State.clockAt_rfe (s : State) (t : Nat) : (s.clockAt t).rfe = s.rfe := rfl
@[simp] theorem State.clockAt_esm (s : State) (t : Nat) : (s.clockAt t).esm = s.esm := rfl
@[simp] theorem State.clockAt_cry (s : State) (t : Nat) : (s.clockAt t).cry = s.cry := rfl
@[simp] theorem State.clockAt_skn (s : State) (t : Nat) : (s.clockAt t).skn = s.skn := rfl
@[simp] theorem State.clockAt_flc (s : State) (t : Nat) : (s.clockAt t).flc = s.flc := rfl
@[simp] theorem State.clockAt_evf (s : State) (t : Nat) : (s.clockAt t).evf = s.evf := rfl
@[simp] theorem State.clockAt_cpx (s : State) (t : Nat) : (s.clockAt t).cpx = s.cpx := rfl
@[simp] theorem State.clockAt_per (s : State) (t : Nat) : (s.clockAt t).per = s.per := rfl
@[simp] theorem State.clockAt_upd (s : State) (t : Nat) : (s.clockAt t).upd = s.upd := rfl
@[simp] theorem State.clockAt_tag (s : State) (t : Nat) : (s.clockAt t).tag = s.tag := rfl
@[simp] theorem State.clockAt_tmb (s : State) (t : Nat) : (s.clockAt t).tmb = s.tmb := rfl
@[simp] theorem State.clockAt_clk (s : State) (t : Nat) : (s.clockAt t).clk = s.clk := rfl
@[simp] theorem State.clockAt_sup (s : State) (t : Nat) : (s.clockAt t).sup = s.sup := rfl
@[simp] theorem State.clockAt_now (s : State) (t : Nat) : (s.clockAt t).now = s.now + (t - s.now) := rfl
@[simp] theorem State.clockAt_regs (s : State) (t : Nat) : (s.clockAt t).regs = s.regs := rfl
@[simp] theorem State.clockAt_rd (s : State) (t : Nat) (b : Nat) : (s.clockAt t).rd b = s.rd b := rfl
@[simp] theorem State.clockAt_get (s : State) (t : Nat) (x : Fld) : (s.clockAt t).get x = s.get x := rfl
@[simp] theorem State.clockAt_on (s : State) (t : Nat) (x : Fld) : (s.clockAt t).on x = s.on x := rfl
@[simp] theorem State.clockAt_en (s : State) (t : Nat) (b : Nat) : (s.clockAt t).en b = s.en b := rfl
@[simp] theorem State.clockAt_regsWf (s : State) (t : Nat) : regsWf (s.clockAt t) ↔ regsWf s := ⟨fun h => h, fun h => h⟩

/-! ### State.syncFem -/

@[simp] theorem State.syncFem_pending (s : State) : (s.syncFem).pending = s.pending := rfl
@[simp] theorem State.syncFem_relay (s : State) : (s.syncFem).relay = s.relay := rfl
@[simp] theorem State.syncFem_freeCtr (s : State) : (s.syncFem).freeCtr = s.freeCtr := rfl
@[simp] theorem State.syncFem_msix (s : State) : (s.syncFem).msix = s.msix := rfl
@[simp] theorem State.syncFem_pcie (s : State) : (s.syncFem).pcie = s.pcie := rfl
@[simp] theorem State.syncFem_hostMem (s : State) : (s.syncFem).hostMem = s.hostMem := rfl
@[simp] theorem State.syncFem_sram (s : State) : (s.syncFem).sram = s.sram := rfl
@[simp] theorem State.syncFem_items (s : State) : (s.syncFem).items = s.items := rfl
@[simp] theorem State.syncFem_hre (s : State) : (s.syncFem).hre = s.hre := rfl
@[simp] theorem State.syncFem_chn (s : State) : (s.syncFem).chn = s.chn := rfl
@[simp] theorem State.syncFem_blw (s : State) : (s.syncFem).blw = s.blw := rfl
@[simp] theorem State.syncFem_mur (s : State) : (s.syncFem).mur = s.mur := rfl
@[simp] theorem State.syncFem_esm (s : State) : (s.syncFem).esm = s.esm := rfl
@[simp] theorem State.syncFem_cry (s : State) : (s.syncFem).cry = s.cry := rfl
@[simp] theorem State.syncFem_skn (s : State) : (s.syncFem).skn = s.skn := rfl
@[simp] theorem State.syncFem_flc (s : State) : (s.syncFem).flc = s.flc := rfl
@[simp] theorem State.syncFem_evf (s : State) : (s.syncFem).evf = s.evf := rfl
@[simp] theorem State.syncFem_cpx (s : State) : (s.syncFem).cpx = s.cpx := rfl
@[simp] theorem State.syncFem_per (s : State) : (s.syncFem).per = s.per := rfl
@[simp] theorem State.syncFem_upd (s : State) : (s.syncFem).upd = s.upd := rfl
@[simp] theorem State.syncFem_tag (s : State) : (s.syncFem).tag = s.tag := rfl
@[simp] theorem State.syncFem_tmb (s : State) : (s.syncFem).tmb = s.tmb := rfl
@[simp] theorem State.syncFem_clk (s : State) : (s.syncFem).clk = s.clk := rfl
@[simp] theorem State.syncFem_sup (s : State) : (s.syncFem).sup = s.sup := rfl
@[simp] theorem State.syncFem_now (s : State) : s.syncFem.now = s.now := rfl
@[simp] theorem State.syncFem_net (s : State) : s.syncFem.net = s.net := rfl
@[simp] theorem State.syncFem_mac (s : State) : s.syncFem.mac = s.mac := rfl
@[simp] theorem State.syncFem_regs (s : State) : (s.syncFem).regs = s.regs := rfl
@[simp] theorem State.syncFem_rd (s : State) (b : Nat) : (s.syncFem).rd b = s.rd b := rfl
@[simp] theorem State.syncFem_get (s : State) (x : Fld) : (s.syncFem).get x = s.get x := rfl
@[simp] theorem State.syncFem_on (s : State) (x : Fld) : (s.syncFem).on x = s.on x := rfl
@[simp] theorem State.syncFem_en (s : State) (b : Nat) : (s.syncFem).en b = s.en b := rfl
@[simp] theorem State.syncFem_regsWf (s : State) : regsWf (s.syncFem) ↔ regsWf s := ⟨fun h => h, fun h => h⟩

/-! ### State.at -/

/-- While no lane waits for its release and no residue detection waits for a lane, the DSP cycles change nothing. -/
theorem State.dspCycles_idle (s : State) (t : Nat) (hf : s.mur.freed = []) (hr : s.mur.residues = []) :
    s.dspCycles t = s := by
  simp [State.dspCycles, hf, hr]

/-- Then only the clocks and the lines that follow them move. -/
theorem State.at_idle (s : State) (t : Nat) (hf : s.mur.freed = []) (hr : s.mur.residues = []) :
    s.at t = (s.clockAt t).syncFem := by
  rw [State.at, State.dspCycles_idle s t hf hr]

/-- Within one DSP cycle they do not move either. -/
theorem State.dspCycles_same (s : State) (t : Nat) (h : dspCycleOf t ≤ dspCycleOf s.now) : s.dspCycles t = s := by
  simp [State.dspCycles, h]

/-! ### State.fire -/

@[simp] theorem State.fire_pending (s : State) (e : Nat) : (s.fire e).pending = s.pending := rfl
@[simp] theorem State.fire_now (s : State) (e : Nat) : (s.fire e).now = s.now := rfl
@[simp] theorem State.fire_net (s : State) (e : Nat) : (s.fire e).net = s.net := rfl
@[simp] theorem State.fire_relay (s : State) (e : Nat) : (s.fire e).relay = s.relay := rfl
@[simp] theorem State.fire_freeCtr (s : State) (e : Nat) : (s.fire e).freeCtr = s.freeCtr := rfl
@[simp] theorem State.fire_regs (s : State) (e : Nat) : (s.fire e).regs = s.regs := rfl
@[simp] theorem State.fire_msix (s : State) (e : Nat) : (s.fire e).msix = s.msix := rfl
@[simp] theorem State.fire_pcie (s : State) (e : Nat) : (s.fire e).pcie = s.pcie := rfl
@[simp] theorem State.fire_hostMem (s : State) (e : Nat) : (s.fire e).hostMem = s.hostMem := rfl
@[simp] theorem State.fire_sram (s : State) (e : Nat) : (s.fire e).sram = s.sram := rfl
@[simp] theorem State.fire_items (s : State) (e : Nat) : (s.fire e).items = s.items := rfl
@[simp] theorem State.fire_hre (s : State) (e : Nat) : (s.fire e).hre = s.hre := rfl
@[simp] theorem State.fire_chn (s : State) (e : Nat) : (s.fire e).chn = s.chn := rfl
@[simp] theorem State.fire_mac (s : State) (e : Nat) : (s.fire e).mac = s.mac := rfl
@[simp] theorem State.fire_blw (s : State) (e : Nat) : (s.fire e).blw = s.blw := rfl
@[simp] theorem State.fire_mur (s : State) (e : Nat) : (s.fire e).mur = s.mur := rfl
@[simp] theorem State.fire_rfe (s : State) (e : Nat) : (s.fire e).rfe = s.rfe := rfl
@[simp] theorem State.fire_esm (s : State) (e : Nat) : (s.fire e).esm = s.esm := rfl
@[simp] theorem State.fire_cry (s : State) (e : Nat) : (s.fire e).cry = s.cry := rfl
@[simp] theorem State.fire_skn (s : State) (e : Nat) : (s.fire e).skn = s.skn := rfl
@[simp] theorem State.fire_flc (s : State) (e : Nat) : (s.fire e).flc = s.flc := rfl
@[simp] theorem State.fire_cpx (s : State) (e : Nat) : (s.fire e).cpx = s.cpx := rfl
@[simp] theorem State.fire_per (s : State) (e : Nat) : (s.fire e).per = s.per := rfl
@[simp] theorem State.fire_upd (s : State) (e : Nat) : (s.fire e).upd = s.upd := rfl
@[simp] theorem State.fire_tag (s : State) (e : Nat) : (s.fire e).tag = s.tag := rfl
@[simp] theorem State.fire_tmb (s : State) (e : Nat) : (s.fire e).tmb = s.tmb := rfl
@[simp] theorem State.fire_clk (s : State) (e : Nat) : (s.fire e).clk = s.clk := rfl
@[simp] theorem State.fire_sup (s : State) (e : Nat) : (s.fire e).sup = s.sup := rfl
@[simp] theorem State.fire_rd (s : State) (e : Nat) (b : Nat) : (s.fire e).rd b = s.rd b := rfl
@[simp] theorem State.fire_get (s : State) (e : Nat) (x : Fld) : (s.fire e).get x = s.get x := rfl
@[simp] theorem State.fire_on (s : State) (e : Nat) (x : Fld) : (s.fire e).on x = s.on x := rfl
@[simp] theorem State.fire_en (s : State) (e : Nat) (b : Nat) : (s.fire e).en b = s.en b := rfl
@[simp] theorem State.fire_regsWf (s : State) (e : Nat) : regsWf (s.fire e) ↔ regsWf s := ⟨fun h => h, fun h => h⟩

/-! ### State.record -/

@[simp] theorem State.record_pending (s : State) (tag reason w4 w5 w6 w7 : Nat) : (s.record tag reason w4 w5 w6 w7).pending = s.pending := rfl
@[simp] theorem State.record_now (s : State) (tag reason w4 w5 w6 w7 : Nat) : (s.record tag reason w4 w5 w6 w7).now = s.now := rfl
@[simp] theorem State.record_net (s : State) (tag reason w4 w5 w6 w7 : Nat) : (s.record tag reason w4 w5 w6 w7).net = s.net := rfl
@[simp] theorem State.record_relay (s : State) (tag reason w4 w5 w6 w7 : Nat) : (s.record tag reason w4 w5 w6 w7).relay = s.relay := rfl
@[simp] theorem State.record_freeCtr (s : State) (tag reason w4 w5 w6 w7 : Nat) : (s.record tag reason w4 w5 w6 w7).freeCtr = s.freeCtr := rfl
@[simp] theorem State.record_regs (s : State) (tag reason w4 w5 w6 w7 : Nat) : (s.record tag reason w4 w5 w6 w7).regs = s.regs := rfl
@[simp] theorem State.record_msix (s : State) (tag reason w4 w5 w6 w7 : Nat) : (s.record tag reason w4 w5 w6 w7).msix = s.msix := rfl
@[simp] theorem State.record_pcie (s : State) (tag reason w4 w5 w6 w7 : Nat) : (s.record tag reason w4 w5 w6 w7).pcie = s.pcie := rfl
@[simp] theorem State.record_hostMem (s : State) (tag reason w4 w5 w6 w7 : Nat) : (s.record tag reason w4 w5 w6 w7).hostMem = s.hostMem := rfl
@[simp] theorem State.record_sram (s : State) (tag reason w4 w5 w6 w7 : Nat) : (s.record tag reason w4 w5 w6 w7).sram = s.sram := rfl
@[simp] theorem State.record_items (s : State) (tag reason w4 w5 w6 w7 : Nat) : (s.record tag reason w4 w5 w6 w7).items = s.items := rfl
@[simp] theorem State.record_chn (s : State) (tag reason w4 w5 w6 w7 : Nat) : (s.record tag reason w4 w5 w6 w7).chn = s.chn := rfl
@[simp] theorem State.record_mac (s : State) (tag reason w4 w5 w6 w7 : Nat) : (s.record tag reason w4 w5 w6 w7).mac = s.mac := rfl
@[simp] theorem State.record_blw (s : State) (tag reason w4 w5 w6 w7 : Nat) : (s.record tag reason w4 w5 w6 w7).blw = s.blw := rfl
@[simp] theorem State.record_mur (s : State) (tag reason w4 w5 w6 w7 : Nat) : (s.record tag reason w4 w5 w6 w7).mur = s.mur := rfl
@[simp] theorem State.record_rfe (s : State) (tag reason w4 w5 w6 w7 : Nat) : (s.record tag reason w4 w5 w6 w7).rfe = s.rfe := rfl
@[simp] theorem State.record_esm (s : State) (tag reason w4 w5 w6 w7 : Nat) : (s.record tag reason w4 w5 w6 w7).esm = s.esm := rfl
@[simp] theorem State.record_cry (s : State) (tag reason w4 w5 w6 w7 : Nat) : (s.record tag reason w4 w5 w6 w7).cry = s.cry := rfl
@[simp] theorem State.record_skn (s : State) (tag reason w4 w5 w6 w7 : Nat) : (s.record tag reason w4 w5 w6 w7).skn = s.skn := rfl
@[simp] theorem State.record_flc (s : State) (tag reason w4 w5 w6 w7 : Nat) : (s.record tag reason w4 w5 w6 w7).flc = s.flc := rfl
@[simp] theorem State.record_evf (s : State) (tag reason w4 w5 w6 w7 : Nat) : (s.record tag reason w4 w5 w6 w7).evf = s.evf := rfl
@[simp] theorem State.record_cpx (s : State) (tag reason w4 w5 w6 w7 : Nat) : (s.record tag reason w4 w5 w6 w7).cpx = s.cpx := rfl
@[simp] theorem State.record_per (s : State) (tag reason w4 w5 w6 w7 : Nat) : (s.record tag reason w4 w5 w6 w7).per = s.per := rfl
@[simp] theorem State.record_upd (s : State) (tag reason w4 w5 w6 w7 : Nat) : (s.record tag reason w4 w5 w6 w7).upd = s.upd := rfl
@[simp] theorem State.record_tag (s : State) (tag reason w4 w5 w6 w7 : Nat) : (s.record tag reason w4 w5 w6 w7).tag = s.tag := rfl
@[simp] theorem State.record_tmb (s : State) (tag reason w4 w5 w6 w7 : Nat) : (s.record tag reason w4 w5 w6 w7).tmb = s.tmb := rfl
@[simp] theorem State.record_clk (s : State) (tag reason w4 w5 w6 w7 : Nat) : (s.record tag reason w4 w5 w6 w7).clk = s.clk := rfl
@[simp] theorem State.record_sup (s : State) (tag reason w4 w5 w6 w7 : Nat) : (s.record tag reason w4 w5 w6 w7).sup = s.sup := rfl
@[simp] theorem State.record_rd (s : State) (tag reason w4 w5 w6 w7 : Nat) (b : Nat) : (s.record tag reason w4 w5 w6 w7).rd b = s.rd b := rfl
@[simp] theorem State.record_get (s : State) (tag reason w4 w5 w6 w7 : Nat) (x : Fld) : (s.record tag reason w4 w5 w6 w7).get x = s.get x := rfl
@[simp] theorem State.record_on (s : State) (tag reason w4 w5 w6 w7 : Nat) (x : Fld) : (s.record tag reason w4 w5 w6 w7).on x = s.on x := rfl
@[simp] theorem State.record_en (s : State) (tag reason w4 w5 w6 w7 : Nat) (b : Nat) : (s.record tag reason w4 w5 w6 w7).en b = s.en b := rfl
@[simp] theorem State.record_regsWf (s : State) (tag reason w4 w5 w6 w7 : Nat) : regsWf (s.record tag reason w4 w5 w6 w7) ↔ regsWf s := ⟨fun h => h, fun h => h⟩

/-! ### State.setItem -/

@[simp] theorem State.setItem_pending (s : State) (idx : Nat) (g : Item → Item) : (s.setItem idx g).pending = s.pending := rfl
@[simp] theorem State.setItem_now (s : State) (idx : Nat) (g : Item → Item) : (s.setItem idx g).now = s.now := rfl
@[simp] theorem State.setItem_net (s : State) (idx : Nat) (g : Item → Item) : (s.setItem idx g).net = s.net := rfl
@[simp] theorem State.setItem_relay (s : State) (idx : Nat) (g : Item → Item) : (s.setItem idx g).relay = s.relay := rfl
@[simp] theorem State.setItem_freeCtr (s : State) (idx : Nat) (g : Item → Item) : (s.setItem idx g).freeCtr = s.freeCtr := rfl
@[simp] theorem State.setItem_regs (s : State) (idx : Nat) (g : Item → Item) : (s.setItem idx g).regs = s.regs := rfl
@[simp] theorem State.setItem_msix (s : State) (idx : Nat) (g : Item → Item) : (s.setItem idx g).msix = s.msix := rfl
@[simp] theorem State.setItem_pcie (s : State) (idx : Nat) (g : Item → Item) : (s.setItem idx g).pcie = s.pcie := rfl
@[simp] theorem State.setItem_hostMem (s : State) (idx : Nat) (g : Item → Item) : (s.setItem idx g).hostMem = s.hostMem := rfl
@[simp] theorem State.setItem_sram (s : State) (idx : Nat) (g : Item → Item) : (s.setItem idx g).sram = s.sram := rfl
@[simp] theorem State.setItem_hre (s : State) (idx : Nat) (g : Item → Item) : (s.setItem idx g).hre = s.hre := rfl
@[simp] theorem State.setItem_chn (s : State) (idx : Nat) (g : Item → Item) : (s.setItem idx g).chn = s.chn := rfl
@[simp] theorem State.setItem_mac (s : State) (idx : Nat) (g : Item → Item) : (s.setItem idx g).mac = s.mac := rfl
@[simp] theorem State.setItem_blw (s : State) (idx : Nat) (g : Item → Item) : (s.setItem idx g).blw = s.blw := rfl
@[simp] theorem State.setItem_mur (s : State) (idx : Nat) (g : Item → Item) : (s.setItem idx g).mur = s.mur := rfl
@[simp] theorem State.setItem_rfe (s : State) (idx : Nat) (g : Item → Item) : (s.setItem idx g).rfe = s.rfe := rfl
@[simp] theorem State.setItem_esm (s : State) (idx : Nat) (g : Item → Item) : (s.setItem idx g).esm = s.esm := rfl
@[simp] theorem State.setItem_cry (s : State) (idx : Nat) (g : Item → Item) : (s.setItem idx g).cry = s.cry := rfl
@[simp] theorem State.setItem_skn (s : State) (idx : Nat) (g : Item → Item) : (s.setItem idx g).skn = s.skn := rfl
@[simp] theorem State.setItem_flc (s : State) (idx : Nat) (g : Item → Item) : (s.setItem idx g).flc = s.flc := rfl
@[simp] theorem State.setItem_evf (s : State) (idx : Nat) (g : Item → Item) : (s.setItem idx g).evf = s.evf := rfl
@[simp] theorem State.setItem_cpx (s : State) (idx : Nat) (g : Item → Item) : (s.setItem idx g).cpx = s.cpx := rfl
@[simp] theorem State.setItem_per (s : State) (idx : Nat) (g : Item → Item) : (s.setItem idx g).per = s.per := rfl
@[simp] theorem State.setItem_upd (s : State) (idx : Nat) (g : Item → Item) : (s.setItem idx g).upd = s.upd := rfl
@[simp] theorem State.setItem_tag (s : State) (idx : Nat) (g : Item → Item) : (s.setItem idx g).tag = s.tag := rfl
@[simp] theorem State.setItem_tmb (s : State) (idx : Nat) (g : Item → Item) : (s.setItem idx g).tmb = s.tmb := rfl
@[simp] theorem State.setItem_clk (s : State) (idx : Nat) (g : Item → Item) : (s.setItem idx g).clk = s.clk := rfl
@[simp] theorem State.setItem_sup (s : State) (idx : Nat) (g : Item → Item) : (s.setItem idx g).sup = s.sup := rfl
@[simp] theorem State.setItem_rd (s : State) (idx : Nat) (g : Item → Item) (b : Nat) : (s.setItem idx g).rd b = s.rd b := rfl
@[simp] theorem State.setItem_get (s : State) (idx : Nat) (g : Item → Item) (x : Fld) : (s.setItem idx g).get x = s.get x := rfl
@[simp] theorem State.setItem_on (s : State) (idx : Nat) (g : Item → Item) (x : Fld) : (s.setItem idx g).on x = s.on x := rfl
@[simp] theorem State.setItem_en (s : State) (idx : Nat) (g : Item → Item) (b : Nat) : (s.setItem idx g).en b = s.en b := rfl
@[simp] theorem State.setItem_regsWf (s : State) (idx : Nat) (g : Item → Item) : regsWf (s.setItem idx g) ↔ regsWf s := ⟨fun h => h, fun h => h⟩

/-! ### State.setRing -/

@[simp] theorem State.setRing_pending (s : State) (n : Nat) (g : Ring → Ring) : (s.setRing n g).pending = s.pending := rfl
@[simp] theorem State.setRing_now (s : State) (n : Nat) (g : Ring → Ring) : (s.setRing n g).now = s.now := rfl
@[simp] theorem State.setRing_net (s : State) (n : Nat) (g : Ring → Ring) : (s.setRing n g).net = s.net := rfl
@[simp] theorem State.setRing_relay (s : State) (n : Nat) (g : Ring → Ring) : (s.setRing n g).relay = s.relay := rfl
@[simp] theorem State.setRing_freeCtr (s : State) (n : Nat) (g : Ring → Ring) : (s.setRing n g).freeCtr = s.freeCtr := rfl
@[simp] theorem State.setRing_regs (s : State) (n : Nat) (g : Ring → Ring) : (s.setRing n g).regs = s.regs := rfl
@[simp] theorem State.setRing_msix (s : State) (n : Nat) (g : Ring → Ring) : (s.setRing n g).msix = s.msix := rfl
@[simp] theorem State.setRing_pcie (s : State) (n : Nat) (g : Ring → Ring) : (s.setRing n g).pcie = s.pcie := rfl
@[simp] theorem State.setRing_hostMem (s : State) (n : Nat) (g : Ring → Ring) : (s.setRing n g).hostMem = s.hostMem := rfl
@[simp] theorem State.setRing_sram (s : State) (n : Nat) (g : Ring → Ring) : (s.setRing n g).sram = s.sram := rfl
@[simp] theorem State.setRing_items (s : State) (n : Nat) (g : Ring → Ring) : (s.setRing n g).items = s.items := rfl
@[simp] theorem State.setRing_chn (s : State) (n : Nat) (g : Ring → Ring) : (s.setRing n g).chn = s.chn := rfl
@[simp] theorem State.setRing_mac (s : State) (n : Nat) (g : Ring → Ring) : (s.setRing n g).mac = s.mac := rfl
@[simp] theorem State.setRing_blw (s : State) (n : Nat) (g : Ring → Ring) : (s.setRing n g).blw = s.blw := rfl
@[simp] theorem State.setRing_mur (s : State) (n : Nat) (g : Ring → Ring) : (s.setRing n g).mur = s.mur := rfl
@[simp] theorem State.setRing_rfe (s : State) (n : Nat) (g : Ring → Ring) : (s.setRing n g).rfe = s.rfe := rfl
@[simp] theorem State.setRing_esm (s : State) (n : Nat) (g : Ring → Ring) : (s.setRing n g).esm = s.esm := rfl
@[simp] theorem State.setRing_cry (s : State) (n : Nat) (g : Ring → Ring) : (s.setRing n g).cry = s.cry := rfl
@[simp] theorem State.setRing_skn (s : State) (n : Nat) (g : Ring → Ring) : (s.setRing n g).skn = s.skn := rfl
@[simp] theorem State.setRing_flc (s : State) (n : Nat) (g : Ring → Ring) : (s.setRing n g).flc = s.flc := rfl
@[simp] theorem State.setRing_evf (s : State) (n : Nat) (g : Ring → Ring) : (s.setRing n g).evf = s.evf := rfl
@[simp] theorem State.setRing_cpx (s : State) (n : Nat) (g : Ring → Ring) : (s.setRing n g).cpx = s.cpx := rfl
@[simp] theorem State.setRing_per (s : State) (n : Nat) (g : Ring → Ring) : (s.setRing n g).per = s.per := rfl
@[simp] theorem State.setRing_upd (s : State) (n : Nat) (g : Ring → Ring) : (s.setRing n g).upd = s.upd := rfl
@[simp] theorem State.setRing_tag (s : State) (n : Nat) (g : Ring → Ring) : (s.setRing n g).tag = s.tag := rfl
@[simp] theorem State.setRing_tmb (s : State) (n : Nat) (g : Ring → Ring) : (s.setRing n g).tmb = s.tmb := rfl
@[simp] theorem State.setRing_clk (s : State) (n : Nat) (g : Ring → Ring) : (s.setRing n g).clk = s.clk := rfl
@[simp] theorem State.setRing_sup (s : State) (n : Nat) (g : Ring → Ring) : (s.setRing n g).sup = s.sup := rfl
@[simp] theorem State.setRing_rd (s : State) (n : Nat) (g : Ring → Ring) (b : Nat) : (s.setRing n g).rd b = s.rd b := rfl
@[simp] theorem State.setRing_get (s : State) (n : Nat) (g : Ring → Ring) (x : Fld) : (s.setRing n g).get x = s.get x := rfl
@[simp] theorem State.setRing_on (s : State) (n : Nat) (g : Ring → Ring) (x : Fld) : (s.setRing n g).on x = s.on x := rfl
@[simp] theorem State.setRing_en (s : State) (n : Nat) (g : Ring → Ring) (b : Nat) : (s.setRing n g).en b = s.en b := rfl
@[simp] theorem State.setRing_regsWf (s : State) (n : Nat) (g : Ring → Ring) : regsWf (s.setRing n g) ↔ regsWf s := ⟨fun h => h, fun h => h⟩

/-! ### State.deliverWords -/

@[simp] theorem State.deliverWords_pending (s : State) (ws : List Word) : (s.deliverWords ws).pending = s.pending := rfl
@[simp] theorem State.deliverWords_now (s : State) (ws : List Word) : (s.deliverWords ws).now = s.now := rfl
@[simp] theorem State.deliverWords_net (s : State) (ws : List Word) : (s.deliverWords ws).net = s.net := rfl
@[simp] theorem State.deliverWords_relay (s : State) (ws : List Word) : (s.deliverWords ws).relay = s.relay := rfl
@[simp] theorem State.deliverWords_freeCtr (s : State) (ws : List Word) : (s.deliverWords ws).freeCtr = s.freeCtr := rfl
@[simp] theorem State.deliverWords_regs (s : State) (ws : List Word) : (s.deliverWords ws).regs = s.regs := rfl
@[simp] theorem State.deliverWords_msix (s : State) (ws : List Word) : (s.deliverWords ws).msix = s.msix := rfl
@[simp] theorem State.deliverWords_pcie (s : State) (ws : List Word) : (s.deliverWords ws).pcie = s.pcie := rfl
@[simp] theorem State.deliverWords_hostMem (s : State) (ws : List Word) : (s.deliverWords ws).hostMem = s.hostMem := rfl
@[simp] theorem State.deliverWords_sram (s : State) (ws : List Word) : (s.deliverWords ws).sram = s.sram := rfl
@[simp] theorem State.deliverWords_items (s : State) (ws : List Word) : (s.deliverWords ws).items = s.items := rfl
@[simp] theorem State.deliverWords_hre (s : State) (ws : List Word) : (s.deliverWords ws).hre = s.hre := rfl
@[simp] theorem State.deliverWords_chn (s : State) (ws : List Word) : (s.deliverWords ws).chn = s.chn := rfl
@[simp] theorem State.deliverWords_mac (s : State) (ws : List Word) : (s.deliverWords ws).mac = s.mac := rfl
@[simp] theorem State.deliverWords_blw (s : State) (ws : List Word) : (s.deliverWords ws).blw = s.blw := rfl
@[simp] theorem State.deliverWords_mur (s : State) (ws : List Word) : (s.deliverWords ws).mur = s.mur := rfl
@[simp] theorem State.deliverWords_rfe (s : State) (ws : List Word) : (s.deliverWords ws).rfe = s.rfe := rfl
@[simp] theorem State.deliverWords_esm (s : State) (ws : List Word) : (s.deliverWords ws).esm = s.esm := rfl
@[simp] theorem State.deliverWords_cry (s : State) (ws : List Word) : (s.deliverWords ws).cry = s.cry := rfl
@[simp] theorem State.deliverWords_skn (s : State) (ws : List Word) : (s.deliverWords ws).skn = s.skn := rfl
@[simp] theorem State.deliverWords_flc (s : State) (ws : List Word) : (s.deliverWords ws).flc = s.flc := rfl
@[simp] theorem State.deliverWords_evf (s : State) (ws : List Word) : (s.deliverWords ws).evf = s.evf := rfl
@[simp] theorem State.deliverWords_cpx (s : State) (ws : List Word) : (s.deliverWords ws).cpx = s.cpx := rfl
@[simp] theorem State.deliverWords_per (s : State) (ws : List Word) : (s.deliverWords ws).per = s.per := rfl
@[simp] theorem State.deliverWords_upd (s : State) (ws : List Word) : (s.deliverWords ws).upd = s.upd := rfl
@[simp] theorem State.deliverWords_tag (s : State) (ws : List Word) : (s.deliverWords ws).tag = s.tag := rfl
@[simp] theorem State.deliverWords_tmb (s : State) (ws : List Word) : (s.deliverWords ws).tmb = s.tmb := rfl
@[simp] theorem State.deliverWords_clk (s : State) (ws : List Word) : (s.deliverWords ws).clk = s.clk := rfl
@[simp] theorem State.deliverWords_rd (s : State) (ws : List Word) (b : Nat) : (s.deliverWords ws).rd b = s.rd b := rfl
@[simp] theorem State.deliverWords_get (s : State) (ws : List Word) (x : Fld) : (s.deliverWords ws).get x = s.get x := rfl
@[simp] theorem State.deliverWords_on (s : State) (ws : List Word) (x : Fld) : (s.deliverWords ws).on x = s.on x := rfl
@[simp] theorem State.deliverWords_en (s : State) (ws : List Word) (b : Nat) : (s.deliverWords ws).en b = s.en b := rfl
@[simp] theorem State.deliverWords_regsWf (s : State) (ws : List Word) : regsWf (s.deliverWords ws) ↔ regsWf s := ⟨fun h => h, fun h => h⟩

/-! ### State.complete -/

@[simp] theorem State.complete_pending (s : State) (ring : Nat) (ws : List Word) (status reason w4 w5 w6 w7 : Nat) (cr : Option Nat) : (s.complete ring ws status reason w4 w5 w6 w7 cr).pending = s.pending := rfl
@[simp] theorem State.complete_now (s : State) (ring : Nat) (ws : List Word) (status reason w4 w5 w6 w7 : Nat) (cr : Option Nat) : (s.complete ring ws status reason w4 w5 w6 w7 cr).now = s.now := rfl
@[simp] theorem State.complete_net (s : State) (ring : Nat) (ws : List Word) (status reason w4 w5 w6 w7 : Nat) (cr : Option Nat) : (s.complete ring ws status reason w4 w5 w6 w7 cr).net = s.net := rfl
@[simp] theorem State.complete_relay (s : State) (ring : Nat) (ws : List Word) (status reason w4 w5 w6 w7 : Nat) (cr : Option Nat) : (s.complete ring ws status reason w4 w5 w6 w7 cr).relay = s.relay := rfl
@[simp] theorem State.complete_freeCtr (s : State) (ring : Nat) (ws : List Word) (status reason w4 w5 w6 w7 : Nat) (cr : Option Nat) : (s.complete ring ws status reason w4 w5 w6 w7 cr).freeCtr = s.freeCtr := rfl
@[simp] theorem State.complete_regs (s : State) (ring : Nat) (ws : List Word) (status reason w4 w5 w6 w7 : Nat) (cr : Option Nat) : (s.complete ring ws status reason w4 w5 w6 w7 cr).regs = s.regs := rfl
@[simp] theorem State.complete_msix (s : State) (ring : Nat) (ws : List Word) (status reason w4 w5 w6 w7 : Nat) (cr : Option Nat) : (s.complete ring ws status reason w4 w5 w6 w7 cr).msix = s.msix := rfl
@[simp] theorem State.complete_pcie (s : State) (ring : Nat) (ws : List Word) (status reason w4 w5 w6 w7 : Nat) (cr : Option Nat) : (s.complete ring ws status reason w4 w5 w6 w7 cr).pcie = s.pcie := rfl
@[simp] theorem State.complete_hostMem (s : State) (ring : Nat) (ws : List Word) (status reason w4 w5 w6 w7 : Nat) (cr : Option Nat) : (s.complete ring ws status reason w4 w5 w6 w7 cr).hostMem = s.hostMem := rfl
@[simp] theorem State.complete_sram (s : State) (ring : Nat) (ws : List Word) (status reason w4 w5 w6 w7 : Nat) (cr : Option Nat) : (s.complete ring ws status reason w4 w5 w6 w7 cr).sram = s.sram := rfl
@[simp] theorem State.complete_items (s : State) (ring : Nat) (ws : List Word) (status reason w4 w5 w6 w7 : Nat) (cr : Option Nat) : (s.complete ring ws status reason w4 w5 w6 w7 cr).items = s.items := rfl
@[simp] theorem State.complete_chn (s : State) (ring : Nat) (ws : List Word) (status reason w4 w5 w6 w7 : Nat) (cr : Option Nat) : (s.complete ring ws status reason w4 w5 w6 w7 cr).chn = s.chn := rfl
@[simp] theorem State.complete_mac (s : State) (ring : Nat) (ws : List Word) (status reason w4 w5 w6 w7 : Nat) (cr : Option Nat) : (s.complete ring ws status reason w4 w5 w6 w7 cr).mac = s.mac := rfl
@[simp] theorem State.complete_blw (s : State) (ring : Nat) (ws : List Word) (status reason w4 w5 w6 w7 : Nat) (cr : Option Nat) : (s.complete ring ws status reason w4 w5 w6 w7 cr).blw = s.blw := rfl
@[simp] theorem State.complete_mur (s : State) (ring : Nat) (ws : List Word) (status reason w4 w5 w6 w7 : Nat) (cr : Option Nat) : (s.complete ring ws status reason w4 w5 w6 w7 cr).mur = s.mur := rfl
@[simp] theorem State.complete_rfe (s : State) (ring : Nat) (ws : List Word) (status reason w4 w5 w6 w7 : Nat) (cr : Option Nat) : (s.complete ring ws status reason w4 w5 w6 w7 cr).rfe = s.rfe := rfl
@[simp] theorem State.complete_esm (s : State) (ring : Nat) (ws : List Word) (status reason w4 w5 w6 w7 : Nat) (cr : Option Nat) : (s.complete ring ws status reason w4 w5 w6 w7 cr).esm = s.esm := rfl
@[simp] theorem State.complete_cry (s : State) (ring : Nat) (ws : List Word) (status reason w4 w5 w6 w7 : Nat) (cr : Option Nat) : (s.complete ring ws status reason w4 w5 w6 w7 cr).cry = s.cry := rfl
@[simp] theorem State.complete_skn (s : State) (ring : Nat) (ws : List Word) (status reason w4 w5 w6 w7 : Nat) (cr : Option Nat) : (s.complete ring ws status reason w4 w5 w6 w7 cr).skn = s.skn := rfl
@[simp] theorem State.complete_flc (s : State) (ring : Nat) (ws : List Word) (status reason w4 w5 w6 w7 : Nat) (cr : Option Nat) : (s.complete ring ws status reason w4 w5 w6 w7 cr).flc = s.flc := rfl
@[simp] theorem State.complete_evf (s : State) (ring : Nat) (ws : List Word) (status reason w4 w5 w6 w7 : Nat) (cr : Option Nat) : (s.complete ring ws status reason w4 w5 w6 w7 cr).evf = s.evf := rfl
@[simp] theorem State.complete_cpx (s : State) (ring : Nat) (ws : List Word) (status reason w4 w5 w6 w7 : Nat) (cr : Option Nat) : (s.complete ring ws status reason w4 w5 w6 w7 cr).cpx = s.cpx := rfl
@[simp] theorem State.complete_per (s : State) (ring : Nat) (ws : List Word) (status reason w4 w5 w6 w7 : Nat) (cr : Option Nat) : (s.complete ring ws status reason w4 w5 w6 w7 cr).per = s.per := rfl
@[simp] theorem State.complete_upd (s : State) (ring : Nat) (ws : List Word) (status reason w4 w5 w6 w7 : Nat) (cr : Option Nat) : (s.complete ring ws status reason w4 w5 w6 w7 cr).upd = s.upd := rfl
@[simp] theorem State.complete_tag (s : State) (ring : Nat) (ws : List Word) (status reason w4 w5 w6 w7 : Nat) (cr : Option Nat) : (s.complete ring ws status reason w4 w5 w6 w7 cr).tag = s.tag := rfl
@[simp] theorem State.complete_tmb (s : State) (ring : Nat) (ws : List Word) (status reason w4 w5 w6 w7 : Nat) (cr : Option Nat) : (s.complete ring ws status reason w4 w5 w6 w7 cr).tmb = s.tmb := rfl
@[simp] theorem State.complete_clk (s : State) (ring : Nat) (ws : List Word) (status reason w4 w5 w6 w7 : Nat) (cr : Option Nat) : (s.complete ring ws status reason w4 w5 w6 w7 cr).clk = s.clk := rfl
@[simp] theorem State.complete_sup (s : State) (ring : Nat) (ws : List Word) (status reason w4 w5 w6 w7 : Nat) (cr : Option Nat) : (s.complete ring ws status reason w4 w5 w6 w7 cr).sup = s.sup := rfl
@[simp] theorem State.complete_rd (s : State) (ring : Nat) (ws : List Word) (status reason w4 w5 w6 w7 : Nat) (cr : Option Nat) (b : Nat) : (s.complete ring ws status reason w4 w5 w6 w7 cr).rd b = s.rd b := rfl
@[simp] theorem State.complete_get (s : State) (ring : Nat) (ws : List Word) (status reason w4 w5 w6 w7 : Nat) (cr : Option Nat) (x : Fld) : (s.complete ring ws status reason w4 w5 w6 w7 cr).get x = s.get x := rfl
@[simp] theorem State.complete_on (s : State) (ring : Nat) (ws : List Word) (status reason w4 w5 w6 w7 : Nat) (cr : Option Nat) (x : Fld) : (s.complete ring ws status reason w4 w5 w6 w7 cr).on x = s.on x := rfl
@[simp] theorem State.complete_en (s : State) (ring : Nat) (ws : List Word) (status reason w4 w5 w6 w7 : Nat) (cr : Option Nat) (b : Nat) : (s.complete ring ws status reason w4 w5 w6 w7 cr).en b = s.en b := rfl
@[simp] theorem State.complete_regsWf (s : State) (ring : Nat) (ws : List Word) (status reason w4 w5 w6 w7 : Nat) (cr : Option Nat) : regsWf (s.complete ring ws status reason w4 w5 w6 w7 cr) ↔ regsWf s := ⟨fun h => h, fun h => h⟩

/-! ### State.refuse -/

@[simp] theorem State.refuse_pending (s : State) (ring : Nat) (ws : List Word) (reason w4 w5 : Nat) : (s.refuse ring ws reason w4 w5).pending = s.pending := rfl
@[simp] theorem State.refuse_now (s : State) (ring : Nat) (ws : List Word) (reason w4 w5 : Nat) : (s.refuse ring ws reason w4 w5).now = s.now := rfl
@[simp] theorem State.refuse_net (s : State) (ring : Nat) (ws : List Word) (reason w4 w5 : Nat) : (s.refuse ring ws reason w4 w5).net = s.net := rfl
@[simp] theorem State.refuse_relay (s : State) (ring : Nat) (ws : List Word) (reason w4 w5 : Nat) : (s.refuse ring ws reason w4 w5).relay = s.relay := rfl
@[simp] theorem State.refuse_freeCtr (s : State) (ring : Nat) (ws : List Word) (reason w4 w5 : Nat) : (s.refuse ring ws reason w4 w5).freeCtr = s.freeCtr := rfl
@[simp] theorem State.refuse_regs (s : State) (ring : Nat) (ws : List Word) (reason w4 w5 : Nat) : (s.refuse ring ws reason w4 w5).regs = s.regs := rfl
@[simp] theorem State.refuse_msix (s : State) (ring : Nat) (ws : List Word) (reason w4 w5 : Nat) : (s.refuse ring ws reason w4 w5).msix = s.msix := rfl
@[simp] theorem State.refuse_pcie (s : State) (ring : Nat) (ws : List Word) (reason w4 w5 : Nat) : (s.refuse ring ws reason w4 w5).pcie = s.pcie := rfl
@[simp] theorem State.refuse_hostMem (s : State) (ring : Nat) (ws : List Word) (reason w4 w5 : Nat) : (s.refuse ring ws reason w4 w5).hostMem = s.hostMem := rfl
@[simp] theorem State.refuse_sram (s : State) (ring : Nat) (ws : List Word) (reason w4 w5 : Nat) : (s.refuse ring ws reason w4 w5).sram = s.sram := rfl
@[simp] theorem State.refuse_items (s : State) (ring : Nat) (ws : List Word) (reason w4 w5 : Nat) : (s.refuse ring ws reason w4 w5).items = s.items := rfl
@[simp] theorem State.refuse_chn (s : State) (ring : Nat) (ws : List Word) (reason w4 w5 : Nat) : (s.refuse ring ws reason w4 w5).chn = s.chn := rfl
@[simp] theorem State.refuse_mac (s : State) (ring : Nat) (ws : List Word) (reason w4 w5 : Nat) : (s.refuse ring ws reason w4 w5).mac = s.mac := rfl
@[simp] theorem State.refuse_blw (s : State) (ring : Nat) (ws : List Word) (reason w4 w5 : Nat) : (s.refuse ring ws reason w4 w5).blw = s.blw := rfl
@[simp] theorem State.refuse_mur (s : State) (ring : Nat) (ws : List Word) (reason w4 w5 : Nat) : (s.refuse ring ws reason w4 w5).mur = s.mur := rfl
@[simp] theorem State.refuse_rfe (s : State) (ring : Nat) (ws : List Word) (reason w4 w5 : Nat) : (s.refuse ring ws reason w4 w5).rfe = s.rfe := rfl
@[simp] theorem State.refuse_esm (s : State) (ring : Nat) (ws : List Word) (reason w4 w5 : Nat) : (s.refuse ring ws reason w4 w5).esm = s.esm := rfl
@[simp] theorem State.refuse_cry (s : State) (ring : Nat) (ws : List Word) (reason w4 w5 : Nat) : (s.refuse ring ws reason w4 w5).cry = s.cry := rfl
@[simp] theorem State.refuse_skn (s : State) (ring : Nat) (ws : List Word) (reason w4 w5 : Nat) : (s.refuse ring ws reason w4 w5).skn = s.skn := rfl
@[simp] theorem State.refuse_flc (s : State) (ring : Nat) (ws : List Word) (reason w4 w5 : Nat) : (s.refuse ring ws reason w4 w5).flc = s.flc := rfl
@[simp] theorem State.refuse_evf (s : State) (ring : Nat) (ws : List Word) (reason w4 w5 : Nat) : (s.refuse ring ws reason w4 w5).evf = s.evf := rfl
@[simp] theorem State.refuse_cpx (s : State) (ring : Nat) (ws : List Word) (reason w4 w5 : Nat) : (s.refuse ring ws reason w4 w5).cpx = s.cpx := rfl
@[simp] theorem State.refuse_per (s : State) (ring : Nat) (ws : List Word) (reason w4 w5 : Nat) : (s.refuse ring ws reason w4 w5).per = s.per := rfl
@[simp] theorem State.refuse_upd (s : State) (ring : Nat) (ws : List Word) (reason w4 w5 : Nat) : (s.refuse ring ws reason w4 w5).upd = s.upd := rfl
@[simp] theorem State.refuse_tag (s : State) (ring : Nat) (ws : List Word) (reason w4 w5 : Nat) : (s.refuse ring ws reason w4 w5).tag = s.tag := rfl
@[simp] theorem State.refuse_tmb (s : State) (ring : Nat) (ws : List Word) (reason w4 w5 : Nat) : (s.refuse ring ws reason w4 w5).tmb = s.tmb := rfl
@[simp] theorem State.refuse_clk (s : State) (ring : Nat) (ws : List Word) (reason w4 w5 : Nat) : (s.refuse ring ws reason w4 w5).clk = s.clk := rfl
@[simp] theorem State.refuse_sup (s : State) (ring : Nat) (ws : List Word) (reason w4 w5 : Nat) : (s.refuse ring ws reason w4 w5).sup = s.sup := rfl
@[simp] theorem State.refuse_rd (s : State) (ring : Nat) (ws : List Word) (reason w4 w5 : Nat) (b : Nat) : (s.refuse ring ws reason w4 w5).rd b = s.rd b := rfl
@[simp] theorem State.refuse_get (s : State) (ring : Nat) (ws : List Word) (reason w4 w5 : Nat) (x : Fld) : (s.refuse ring ws reason w4 w5).get x = s.get x := rfl
@[simp] theorem State.refuse_on (s : State) (ring : Nat) (ws : List Word) (reason w4 w5 : Nat) (x : Fld) : (s.refuse ring ws reason w4 w5).on x = s.on x := rfl
@[simp] theorem State.refuse_en (s : State) (ring : Nat) (ws : List Word) (reason w4 w5 : Nat) (b : Nat) : (s.refuse ring ws reason w4 w5).en b = s.en b := rfl
@[simp] theorem State.refuse_regsWf (s : State) (ring : Nat) (ws : List Word) (reason w4 w5 : Nat) : regsWf (s.refuse ring ws reason w4 w5) ↔ regsWf s := ⟨fun h => h, fun h => h⟩

/-! ### State.done -/

@[simp] theorem State.done_pending (s : State) (ring : Nat) (ws : List Word) (reason w4 w5 w6 w7 : Nat) : (s.done ring ws reason w4 w5 w6 w7).pending = s.pending := rfl
@[simp] theorem State.done_now (s : State) (ring : Nat) (ws : List Word) (reason w4 w5 w6 w7 : Nat) : (s.done ring ws reason w4 w5 w6 w7).now = s.now := rfl
@[simp] theorem State.done_net (s : State) (ring : Nat) (ws : List Word) (reason w4 w5 w6 w7 : Nat) : (s.done ring ws reason w4 w5 w6 w7).net = s.net := rfl
@[simp] theorem State.done_relay (s : State) (ring : Nat) (ws : List Word) (reason w4 w5 w6 w7 : Nat) : (s.done ring ws reason w4 w5 w6 w7).relay = s.relay := rfl
@[simp] theorem State.done_freeCtr (s : State) (ring : Nat) (ws : List Word) (reason w4 w5 w6 w7 : Nat) : (s.done ring ws reason w4 w5 w6 w7).freeCtr = s.freeCtr := rfl
@[simp] theorem State.done_regs (s : State) (ring : Nat) (ws : List Word) (reason w4 w5 w6 w7 : Nat) : (s.done ring ws reason w4 w5 w6 w7).regs = s.regs := rfl
@[simp] theorem State.done_msix (s : State) (ring : Nat) (ws : List Word) (reason w4 w5 w6 w7 : Nat) : (s.done ring ws reason w4 w5 w6 w7).msix = s.msix := rfl
@[simp] theorem State.done_pcie (s : State) (ring : Nat) (ws : List Word) (reason w4 w5 w6 w7 : Nat) : (s.done ring ws reason w4 w5 w6 w7).pcie = s.pcie := rfl
@[simp] theorem State.done_hostMem (s : State) (ring : Nat) (ws : List Word) (reason w4 w5 w6 w7 : Nat) : (s.done ring ws reason w4 w5 w6 w7).hostMem = s.hostMem := rfl
@[simp] theorem State.done_sram (s : State) (ring : Nat) (ws : List Word) (reason w4 w5 w6 w7 : Nat) : (s.done ring ws reason w4 w5 w6 w7).sram = s.sram := rfl
@[simp] theorem State.done_items (s : State) (ring : Nat) (ws : List Word) (reason w4 w5 w6 w7 : Nat) : (s.done ring ws reason w4 w5 w6 w7).items = s.items := rfl
@[simp] theorem State.done_chn (s : State) (ring : Nat) (ws : List Word) (reason w4 w5 w6 w7 : Nat) : (s.done ring ws reason w4 w5 w6 w7).chn = s.chn := rfl
@[simp] theorem State.done_mac (s : State) (ring : Nat) (ws : List Word) (reason w4 w5 w6 w7 : Nat) : (s.done ring ws reason w4 w5 w6 w7).mac = s.mac := rfl
@[simp] theorem State.done_blw (s : State) (ring : Nat) (ws : List Word) (reason w4 w5 w6 w7 : Nat) : (s.done ring ws reason w4 w5 w6 w7).blw = s.blw := rfl
@[simp] theorem State.done_mur (s : State) (ring : Nat) (ws : List Word) (reason w4 w5 w6 w7 : Nat) : (s.done ring ws reason w4 w5 w6 w7).mur = s.mur := rfl
@[simp] theorem State.done_rfe (s : State) (ring : Nat) (ws : List Word) (reason w4 w5 w6 w7 : Nat) : (s.done ring ws reason w4 w5 w6 w7).rfe = s.rfe := rfl
@[simp] theorem State.done_esm (s : State) (ring : Nat) (ws : List Word) (reason w4 w5 w6 w7 : Nat) : (s.done ring ws reason w4 w5 w6 w7).esm = s.esm := rfl
@[simp] theorem State.done_cry (s : State) (ring : Nat) (ws : List Word) (reason w4 w5 w6 w7 : Nat) : (s.done ring ws reason w4 w5 w6 w7).cry = s.cry := rfl
@[simp] theorem State.done_skn (s : State) (ring : Nat) (ws : List Word) (reason w4 w5 w6 w7 : Nat) : (s.done ring ws reason w4 w5 w6 w7).skn = s.skn := rfl
@[simp] theorem State.done_flc (s : State) (ring : Nat) (ws : List Word) (reason w4 w5 w6 w7 : Nat) : (s.done ring ws reason w4 w5 w6 w7).flc = s.flc := rfl
@[simp] theorem State.done_evf (s : State) (ring : Nat) (ws : List Word) (reason w4 w5 w6 w7 : Nat) : (s.done ring ws reason w4 w5 w6 w7).evf = s.evf := rfl
@[simp] theorem State.done_cpx (s : State) (ring : Nat) (ws : List Word) (reason w4 w5 w6 w7 : Nat) : (s.done ring ws reason w4 w5 w6 w7).cpx = s.cpx := rfl
@[simp] theorem State.done_per (s : State) (ring : Nat) (ws : List Word) (reason w4 w5 w6 w7 : Nat) : (s.done ring ws reason w4 w5 w6 w7).per = s.per := rfl
@[simp] theorem State.done_upd (s : State) (ring : Nat) (ws : List Word) (reason w4 w5 w6 w7 : Nat) : (s.done ring ws reason w4 w5 w6 w7).upd = s.upd := rfl
@[simp] theorem State.done_tag (s : State) (ring : Nat) (ws : List Word) (reason w4 w5 w6 w7 : Nat) : (s.done ring ws reason w4 w5 w6 w7).tag = s.tag := rfl
@[simp] theorem State.done_tmb (s : State) (ring : Nat) (ws : List Word) (reason w4 w5 w6 w7 : Nat) : (s.done ring ws reason w4 w5 w6 w7).tmb = s.tmb := rfl
@[simp] theorem State.done_clk (s : State) (ring : Nat) (ws : List Word) (reason w4 w5 w6 w7 : Nat) : (s.done ring ws reason w4 w5 w6 w7).clk = s.clk := rfl
@[simp] theorem State.done_sup (s : State) (ring : Nat) (ws : List Word) (reason w4 w5 w6 w7 : Nat) : (s.done ring ws reason w4 w5 w6 w7).sup = s.sup := rfl
@[simp] theorem State.done_rd (s : State) (ring : Nat) (ws : List Word) (reason w4 w5 w6 w7 : Nat) (b : Nat) : (s.done ring ws reason w4 w5 w6 w7).rd b = s.rd b := rfl
@[simp] theorem State.done_get (s : State) (ring : Nat) (ws : List Word) (reason w4 w5 w6 w7 : Nat) (x : Fld) : (s.done ring ws reason w4 w5 w6 w7).get x = s.get x := rfl
@[simp] theorem State.done_on (s : State) (ring : Nat) (ws : List Word) (reason w4 w5 w6 w7 : Nat) (x : Fld) : (s.done ring ws reason w4 w5 w6 w7).on x = s.on x := rfl
@[simp] theorem State.done_en (s : State) (ring : Nat) (ws : List Word) (reason w4 w5 w6 w7 : Nat) (b : Nat) : (s.done ring ws reason w4 w5 w6 w7).en b = s.en b := rfl
@[simp] theorem State.done_regsWf (s : State) (ring : Nat) (ws : List Word) (reason w4 w5 w6 w7 : Nat) : regsWf (s.done ring ws reason w4 w5 w6 w7) ↔ regsWf s := ⟨fun h => h, fun h => h⟩

/-! ### State.accessFault -/

@[simp] theorem State.accessFault_pending (s : State) (c : Nat) : (s.accessFault c).pending = s.pending := rfl
@[simp] theorem State.accessFault_now (s : State) (c : Nat) : (s.accessFault c).now = s.now := rfl
@[simp] theorem State.accessFault_net (s : State) (c : Nat) : (s.accessFault c).net = s.net := rfl
@[simp] theorem State.accessFault_relay (s : State) (c : Nat) : (s.accessFault c).relay = s.relay := rfl
@[simp] theorem State.accessFault_freeCtr (s : State) (c : Nat) : (s.accessFault c).freeCtr = s.freeCtr := rfl
@[simp] theorem State.accessFault_regs (s : State) (c : Nat) : (s.accessFault c).regs = s.regs := rfl
@[simp] theorem State.accessFault_msix (s : State) (c : Nat) : (s.accessFault c).msix = s.msix := rfl
@[simp] theorem State.accessFault_pcie (s : State) (c : Nat) : (s.accessFault c).pcie = s.pcie := rfl
@[simp] theorem State.accessFault_hostMem (s : State) (c : Nat) : (s.accessFault c).hostMem = s.hostMem := rfl
@[simp] theorem State.accessFault_sram (s : State) (c : Nat) : (s.accessFault c).sram = s.sram := rfl
@[simp] theorem State.accessFault_items (s : State) (c : Nat) : (s.accessFault c).items = s.items := rfl
@[simp] theorem State.accessFault_hre (s : State) (c : Nat) : (s.accessFault c).hre = s.hre := rfl
@[simp] theorem State.accessFault_chn (s : State) (c : Nat) : (s.accessFault c).chn = s.chn := rfl
@[simp] theorem State.accessFault_mac (s : State) (c : Nat) : (s.accessFault c).mac = s.mac := rfl
@[simp] theorem State.accessFault_blw (s : State) (c : Nat) : (s.accessFault c).blw = s.blw := rfl
@[simp] theorem State.accessFault_mur (s : State) (c : Nat) : (s.accessFault c).mur = s.mur := rfl
@[simp] theorem State.accessFault_rfe (s : State) (c : Nat) : (s.accessFault c).rfe = s.rfe := rfl
@[simp] theorem State.accessFault_esm (s : State) (c : Nat) : (s.accessFault c).esm = s.esm := rfl
@[simp] theorem State.accessFault_cry (s : State) (c : Nat) : (s.accessFault c).cry = s.cry := rfl
@[simp] theorem State.accessFault_skn (s : State) (c : Nat) : (s.accessFault c).skn = s.skn := rfl
@[simp] theorem State.accessFault_flc (s : State) (c : Nat) : (s.accessFault c).flc = s.flc := rfl
@[simp] theorem State.accessFault_evf (s : State) (c : Nat) : (s.accessFault c).evf = s.evf := rfl
@[simp] theorem State.accessFault_per (s : State) (c : Nat) : (s.accessFault c).per = s.per := rfl
@[simp] theorem State.accessFault_upd (s : State) (c : Nat) : (s.accessFault c).upd = s.upd := rfl
@[simp] theorem State.accessFault_tag (s : State) (c : Nat) : (s.accessFault c).tag = s.tag := rfl
@[simp] theorem State.accessFault_tmb (s : State) (c : Nat) : (s.accessFault c).tmb = s.tmb := rfl
@[simp] theorem State.accessFault_clk (s : State) (c : Nat) : (s.accessFault c).clk = s.clk := rfl
@[simp] theorem State.accessFault_sup (s : State) (c : Nat) : (s.accessFault c).sup = s.sup := rfl
@[simp] theorem State.accessFault_rd (s : State) (c : Nat) (b : Nat) : (s.accessFault c).rd b = s.rd b := rfl
@[simp] theorem State.accessFault_get (s : State) (c : Nat) (x : Fld) : (s.accessFault c).get x = s.get x := rfl
@[simp] theorem State.accessFault_on (s : State) (c : Nat) (x : Fld) : (s.accessFault c).on x = s.on x := rfl
@[simp] theorem State.accessFault_en (s : State) (c : Nat) (b : Nat) : (s.accessFault c).en b = s.en b := rfl
@[simp] theorem State.accessFault_regsWf (s : State) (c : Nat) : regsWf (s.accessFault c) ↔ regsWf s := ⟨fun h => h, fun h => h⟩

/-! ### State.sramWrite -/

@[simp] theorem State.sramWrite_pending (s : State) (a : Nat) (bs : List Byte) : (s.sramWrite a bs).pending = s.pending := rfl
@[simp] theorem State.sramWrite_now (s : State) (a : Nat) (bs : List Byte) : (s.sramWrite a bs).now = s.now := rfl
@[simp] theorem State.sramWrite_net (s : State) (a : Nat) (bs : List Byte) : (s.sramWrite a bs).net = s.net := rfl
@[simp] theorem State.sramWrite_relay (s : State) (a : Nat) (bs : List Byte) : (s.sramWrite a bs).relay = s.relay := rfl
@[simp] theorem State.sramWrite_freeCtr (s : State) (a : Nat) (bs : List Byte) : (s.sramWrite a bs).freeCtr = s.freeCtr := rfl
@[simp] theorem State.sramWrite_regs (s : State) (a : Nat) (bs : List Byte) : (s.sramWrite a bs).regs = s.regs := rfl
@[simp] theorem State.sramWrite_msix (s : State) (a : Nat) (bs : List Byte) : (s.sramWrite a bs).msix = s.msix := rfl
@[simp] theorem State.sramWrite_pcie (s : State) (a : Nat) (bs : List Byte) : (s.sramWrite a bs).pcie = s.pcie := rfl
@[simp] theorem State.sramWrite_hostMem (s : State) (a : Nat) (bs : List Byte) : (s.sramWrite a bs).hostMem = s.hostMem := rfl
@[simp] theorem State.sramWrite_items (s : State) (a : Nat) (bs : List Byte) : (s.sramWrite a bs).items = s.items := rfl
@[simp] theorem State.sramWrite_hre (s : State) (a : Nat) (bs : List Byte) : (s.sramWrite a bs).hre = s.hre := rfl
@[simp] theorem State.sramWrite_chn (s : State) (a : Nat) (bs : List Byte) : (s.sramWrite a bs).chn = s.chn := rfl
@[simp] theorem State.sramWrite_mac (s : State) (a : Nat) (bs : List Byte) : (s.sramWrite a bs).mac = s.mac := rfl
@[simp] theorem State.sramWrite_blw (s : State) (a : Nat) (bs : List Byte) : (s.sramWrite a bs).blw = s.blw := rfl
@[simp] theorem State.sramWrite_mur (s : State) (a : Nat) (bs : List Byte) : (s.sramWrite a bs).mur = s.mur := rfl
@[simp] theorem State.sramWrite_rfe (s : State) (a : Nat) (bs : List Byte) : (s.sramWrite a bs).rfe = s.rfe := rfl
@[simp] theorem State.sramWrite_esm (s : State) (a : Nat) (bs : List Byte) : (s.sramWrite a bs).esm = s.esm := rfl
@[simp] theorem State.sramWrite_cry (s : State) (a : Nat) (bs : List Byte) : (s.sramWrite a bs).cry = s.cry := rfl
@[simp] theorem State.sramWrite_skn (s : State) (a : Nat) (bs : List Byte) : (s.sramWrite a bs).skn = s.skn := rfl
@[simp] theorem State.sramWrite_flc (s : State) (a : Nat) (bs : List Byte) : (s.sramWrite a bs).flc = s.flc := rfl
@[simp] theorem State.sramWrite_evf (s : State) (a : Nat) (bs : List Byte) : (s.sramWrite a bs).evf = s.evf := rfl
@[simp] theorem State.sramWrite_cpx (s : State) (a : Nat) (bs : List Byte) : (s.sramWrite a bs).cpx = s.cpx := rfl
@[simp] theorem State.sramWrite_per (s : State) (a : Nat) (bs : List Byte) : (s.sramWrite a bs).per = s.per := rfl
@[simp] theorem State.sramWrite_upd (s : State) (a : Nat) (bs : List Byte) : (s.sramWrite a bs).upd = s.upd := rfl
@[simp] theorem State.sramWrite_tag (s : State) (a : Nat) (bs : List Byte) : (s.sramWrite a bs).tag = s.tag := rfl
@[simp] theorem State.sramWrite_tmb (s : State) (a : Nat) (bs : List Byte) : (s.sramWrite a bs).tmb = s.tmb := rfl
@[simp] theorem State.sramWrite_clk (s : State) (a : Nat) (bs : List Byte) : (s.sramWrite a bs).clk = s.clk := rfl
@[simp] theorem State.sramWrite_sup (s : State) (a : Nat) (bs : List Byte) : (s.sramWrite a bs).sup = s.sup := rfl
@[simp] theorem State.sramWrite_rd (s : State) (a : Nat) (bs : List Byte) (b : Nat) : (s.sramWrite a bs).rd b = s.rd b := rfl
@[simp] theorem State.sramWrite_get (s : State) (a : Nat) (bs : List Byte) (x : Fld) : (s.sramWrite a bs).get x = s.get x := rfl
@[simp] theorem State.sramWrite_on (s : State) (a : Nat) (bs : List Byte) (x : Fld) : (s.sramWrite a bs).on x = s.on x := rfl
@[simp] theorem State.sramWrite_en (s : State) (a : Nat) (bs : List Byte) (b : Nat) : (s.sramWrite a bs).en b = s.en b := rfl
@[simp] theorem State.sramWrite_regsWf (s : State) (a : Nat) (bs : List Byte) : regsWf (s.sramWrite a bs) ↔ regsWf s := ⟨fun h => h, fun h => h⟩

/-! ### State.hostWrite -/

@[simp] theorem State.hostWrite_pending (s : State) (a : Nat) (bs : List Byte) : (s.hostWrite a bs).pending = s.pending := rfl
@[simp] theorem State.hostWrite_now (s : State) (a : Nat) (bs : List Byte) : (s.hostWrite a bs).now = s.now := rfl
@[simp] theorem State.hostWrite_net (s : State) (a : Nat) (bs : List Byte) : (s.hostWrite a bs).net = s.net := rfl
@[simp] theorem State.hostWrite_relay (s : State) (a : Nat) (bs : List Byte) : (s.hostWrite a bs).relay = s.relay := rfl
@[simp] theorem State.hostWrite_freeCtr (s : State) (a : Nat) (bs : List Byte) : (s.hostWrite a bs).freeCtr = s.freeCtr := rfl
@[simp] theorem State.hostWrite_regs (s : State) (a : Nat) (bs : List Byte) : (s.hostWrite a bs).regs = s.regs := rfl
@[simp] theorem State.hostWrite_msix (s : State) (a : Nat) (bs : List Byte) : (s.hostWrite a bs).msix = s.msix := rfl
@[simp] theorem State.hostWrite_pcie (s : State) (a : Nat) (bs : List Byte) : (s.hostWrite a bs).pcie = s.pcie := rfl
@[simp] theorem State.hostWrite_sram (s : State) (a : Nat) (bs : List Byte) : (s.hostWrite a bs).sram = s.sram := rfl
@[simp] theorem State.hostWrite_items (s : State) (a : Nat) (bs : List Byte) : (s.hostWrite a bs).items = s.items := rfl
@[simp] theorem State.hostWrite_hre (s : State) (a : Nat) (bs : List Byte) : (s.hostWrite a bs).hre = s.hre := rfl
@[simp] theorem State.hostWrite_chn (s : State) (a : Nat) (bs : List Byte) : (s.hostWrite a bs).chn = s.chn := rfl
@[simp] theorem State.hostWrite_mac (s : State) (a : Nat) (bs : List Byte) : (s.hostWrite a bs).mac = s.mac := rfl
@[simp] theorem State.hostWrite_blw (s : State) (a : Nat) (bs : List Byte) : (s.hostWrite a bs).blw = s.blw := rfl
@[simp] theorem State.hostWrite_mur (s : State) (a : Nat) (bs : List Byte) : (s.hostWrite a bs).mur = s.mur := rfl
@[simp] theorem State.hostWrite_rfe (s : State) (a : Nat) (bs : List Byte) : (s.hostWrite a bs).rfe = s.rfe := rfl
@[simp] theorem State.hostWrite_esm (s : State) (a : Nat) (bs : List Byte) : (s.hostWrite a bs).esm = s.esm := rfl
@[simp] theorem State.hostWrite_cry (s : State) (a : Nat) (bs : List Byte) : (s.hostWrite a bs).cry = s.cry := rfl
@[simp] theorem State.hostWrite_skn (s : State) (a : Nat) (bs : List Byte) : (s.hostWrite a bs).skn = s.skn := rfl
@[simp] theorem State.hostWrite_flc (s : State) (a : Nat) (bs : List Byte) : (s.hostWrite a bs).flc = s.flc := rfl
@[simp] theorem State.hostWrite_evf (s : State) (a : Nat) (bs : List Byte) : (s.hostWrite a bs).evf = s.evf := rfl
@[simp] theorem State.hostWrite_cpx (s : State) (a : Nat) (bs : List Byte) : (s.hostWrite a bs).cpx = s.cpx := rfl
@[simp] theorem State.hostWrite_per (s : State) (a : Nat) (bs : List Byte) : (s.hostWrite a bs).per = s.per := rfl
@[simp] theorem State.hostWrite_upd (s : State) (a : Nat) (bs : List Byte) : (s.hostWrite a bs).upd = s.upd := rfl
@[simp] theorem State.hostWrite_tag (s : State) (a : Nat) (bs : List Byte) : (s.hostWrite a bs).tag = s.tag := rfl
@[simp] theorem State.hostWrite_tmb (s : State) (a : Nat) (bs : List Byte) : (s.hostWrite a bs).tmb = s.tmb := rfl
@[simp] theorem State.hostWrite_clk (s : State) (a : Nat) (bs : List Byte) : (s.hostWrite a bs).clk = s.clk := rfl
@[simp] theorem State.hostWrite_sup (s : State) (a : Nat) (bs : List Byte) : (s.hostWrite a bs).sup = s.sup := rfl
@[simp] theorem State.hostWrite_rd (s : State) (a : Nat) (bs : List Byte) (b : Nat) : (s.hostWrite a bs).rd b = s.rd b := rfl
@[simp] theorem State.hostWrite_get (s : State) (a : Nat) (bs : List Byte) (x : Fld) : (s.hostWrite a bs).get x = s.get x := rfl
@[simp] theorem State.hostWrite_on (s : State) (a : Nat) (bs : List Byte) (x : Fld) : (s.hostWrite a bs).on x = s.on x := rfl
@[simp] theorem State.hostWrite_en (s : State) (a : Nat) (bs : List Byte) (b : Nat) : (s.hostWrite a bs).en b = s.en b := rfl
@[simp] theorem State.hostWrite_regsWf (s : State) (a : Nat) (bs : List Byte) : regsWf (s.hostWrite a bs) ↔ regsWf s := ⟨fun h => h, fun h => h⟩

/-! ### State.setLaneX -/

@[simp] theorem State.setLaneX_pending (s : State) (n : Nat) (y : LaneX) : (s.setLaneX n y).pending = s.pending := rfl
@[simp] theorem State.setLaneX_now (s : State) (n : Nat) (y : LaneX) : (s.setLaneX n y).now = s.now := rfl
@[simp] theorem State.setLaneX_net (s : State) (n : Nat) (y : LaneX) : (s.setLaneX n y).net = s.net := rfl
@[simp] theorem State.setLaneX_relay (s : State) (n : Nat) (y : LaneX) : (s.setLaneX n y).relay = s.relay := rfl
@[simp] theorem State.setLaneX_freeCtr (s : State) (n : Nat) (y : LaneX) : (s.setLaneX n y).freeCtr = s.freeCtr := rfl
@[simp] theorem State.setLaneX_regs (s : State) (n : Nat) (y : LaneX) : (s.setLaneX n y).regs = s.regs := rfl
@[simp] theorem State.setLaneX_msix (s : State) (n : Nat) (y : LaneX) : (s.setLaneX n y).msix = s.msix := rfl
@[simp] theorem State.setLaneX_pcie (s : State) (n : Nat) (y : LaneX) : (s.setLaneX n y).pcie = s.pcie := rfl
@[simp] theorem State.setLaneX_hostMem (s : State) (n : Nat) (y : LaneX) : (s.setLaneX n y).hostMem = s.hostMem := rfl
@[simp] theorem State.setLaneX_sram (s : State) (n : Nat) (y : LaneX) : (s.setLaneX n y).sram = s.sram := rfl
@[simp] theorem State.setLaneX_items (s : State) (n : Nat) (y : LaneX) : (s.setLaneX n y).items = s.items := rfl
@[simp] theorem State.setLaneX_hre (s : State) (n : Nat) (y : LaneX) : (s.setLaneX n y).hre = s.hre := rfl
@[simp] theorem State.setLaneX_chn (s : State) (n : Nat) (y : LaneX) : (s.setLaneX n y).chn = s.chn := rfl
@[simp] theorem State.setLaneX_mac (s : State) (n : Nat) (y : LaneX) : (s.setLaneX n y).mac = s.mac := rfl
@[simp] theorem State.setLaneX_blw (s : State) (n : Nat) (y : LaneX) : (s.setLaneX n y).blw = s.blw := rfl
@[simp] theorem State.setLaneX_rfe (s : State) (n : Nat) (y : LaneX) : (s.setLaneX n y).rfe = s.rfe := rfl
@[simp] theorem State.setLaneX_esm (s : State) (n : Nat) (y : LaneX) : (s.setLaneX n y).esm = s.esm := rfl
@[simp] theorem State.setLaneX_cry (s : State) (n : Nat) (y : LaneX) : (s.setLaneX n y).cry = s.cry := rfl
@[simp] theorem State.setLaneX_skn (s : State) (n : Nat) (y : LaneX) : (s.setLaneX n y).skn = s.skn := rfl
@[simp] theorem State.setLaneX_flc (s : State) (n : Nat) (y : LaneX) : (s.setLaneX n y).flc = s.flc := rfl
@[simp] theorem State.setLaneX_evf (s : State) (n : Nat) (y : LaneX) : (s.setLaneX n y).evf = s.evf := rfl
@[simp] theorem State.setLaneX_cpx (s : State) (n : Nat) (y : LaneX) : (s.setLaneX n y).cpx = s.cpx := rfl
@[simp] theorem State.setLaneX_per (s : State) (n : Nat) (y : LaneX) : (s.setLaneX n y).per = s.per := rfl
@[simp] theorem State.setLaneX_upd (s : State) (n : Nat) (y : LaneX) : (s.setLaneX n y).upd = s.upd := rfl
@[simp] theorem State.setLaneX_tag (s : State) (n : Nat) (y : LaneX) : (s.setLaneX n y).tag = s.tag := rfl
@[simp] theorem State.setLaneX_tmb (s : State) (n : Nat) (y : LaneX) : (s.setLaneX n y).tmb = s.tmb := rfl
@[simp] theorem State.setLaneX_clk (s : State) (n : Nat) (y : LaneX) : (s.setLaneX n y).clk = s.clk := rfl
@[simp] theorem State.setLaneX_sup (s : State) (n : Nat) (y : LaneX) : (s.setLaneX n y).sup = s.sup := rfl
@[simp] theorem State.setLaneX_rd (s : State) (n : Nat) (y : LaneX) (b : Nat) : (s.setLaneX n y).rd b = s.rd b := rfl
@[simp] theorem State.setLaneX_get (s : State) (n : Nat) (y : LaneX) (x : Fld) : (s.setLaneX n y).get x = s.get x := rfl
@[simp] theorem State.setLaneX_on (s : State) (n : Nat) (y : LaneX) (x : Fld) : (s.setLaneX n y).on x = s.on x := rfl
@[simp] theorem State.setLaneX_en (s : State) (n : Nat) (y : LaneX) (b : Nat) : (s.setLaneX n y).en b = s.en b := rfl
@[simp] theorem State.setLaneX_regsWf (s : State) (n : Nat) (y : LaneX) : regsWf (s.setLaneX n y) ↔ regsWf s := ⟨fun h => h, fun h => h⟩

/-! ### Canonical form through writes -/

@[simp] theorem State.count_regsWf {s : State} (h : regsWf s) (f : Fld) (n : Nat) : regsWf (s.count f n) := State.put_regsWf h f _

@[simp] theorem State.wr64_regsWf {s : State} (h : regsWf s) (a v : Nat) : regsWf (s.wr64 a v) :=
  State.wr_regsWf (State.wr_regsWf h _ _) _ _

/-- A flag that has been set reads as set. -/
@[simp] theorem State.on_put_one (s : State) (f : Fld) (hf : f.lo + f.width ≤ 32) (hw : f.width ≠ 0) :
    (s.put f 1).on f = true := by
  rw [State.on, State.get_put_same s f 1 hf, Nat.mod_eq_of_lt (Nat.one_lt_two_pow hw)]
  rfl

/-- A field that has been cleared reads as clear. -/
@[simp] theorem State.on_put_zero (s : State) (f : Fld) (hf : f.lo + f.width ≤ 32) : (s.put f 0).on f = false := by
  rw [State.on, State.get_put_same s f 0 hf, Nat.zero_mod]
  rfl

/-- A flag of another register. -/
@[simp] theorem State.on_put_reg (s : State) (f g : Fld) (v : Nat) (ha : g.addr ≠ f.addr) :
    (s.put f v).on g = s.on g := by
  rw [State.on, State.get_put_reg s f g v ha, State.on]

/-- Another flag of the same register. -/
@[simp] theorem State.on_put_field (s : State) (f g : Fld) (v : Nat) (hf : f.lo + f.width ≤ 32)
    (hd : g.lo + g.width ≤ f.lo ∨ f.lo + f.width ≤ g.lo) : (s.put f v).on g = s.on g := by
  rw [State.on, State.get_put_field s f g v hf hd, State.on]

end Sys2Proof.Machine
end

