-- ==== Sys2Proof/Laws/Interrupts.lean ====
section
/-! SUPPORT. Laws of interrupts: what raising one leaves unchanged (R49, R511, R512). -/

namespace Sys2Proof.Machine

/-- What every step of a fold keeps, the fold keeps. -/
theorem foldl_keeps {σ α β : Type} {f : σ → α → σ} {p : σ → β} (h : ∀ s a, p (f s a) = p s) (l : List α) (s : σ) :
    p (l.foldl f s) = p s := by
  induction l generalizing s with
  | nil => rfl
  | cons a l ih => rw [List.foldl_cons, ih, h]

/-- An invariant that every step of a fold keeps, the fold keeps. -/
theorem foldl_inv {σ α : Type} {f : σ → α → σ} {p : σ → Prop} (h : ∀ s a, p s → p (f s a)) (l : List α) (s : σ)
    (hs : p s) : p (l.foldl f s) := by
  induction l generalizing s with
  | nil => exact hs
  | cons a l ih => exact ih _ (h s a hs)

/-! ### State.wakeCore -/

@[simp] theorem State.wakeCore_pending (s : State) (c : Nat) : (s.wakeCore c).pending = s.pending := by
  unfold State.wakeCore; split <;> rfl
@[simp] theorem State.wakeCore_now (s : State) (c : Nat) : (s.wakeCore c).now = s.now := by
  unfold State.wakeCore; split <;> rfl
@[simp] theorem State.wakeCore_net (s : State) (c : Nat) : (s.wakeCore c).net = s.net := by
  unfold State.wakeCore; split <;> rfl
@[simp] theorem State.wakeCore_relay (s : State) (c : Nat) : (s.wakeCore c).relay = s.relay := by
  unfold State.wakeCore; split <;> rfl
@[simp] theorem State.wakeCore_freeCtr (s : State) (c : Nat) : (s.wakeCore c).freeCtr = s.freeCtr := by
  unfold State.wakeCore; split <;> rfl
@[simp] theorem State.wakeCore_msix (s : State) (c : Nat) : (s.wakeCore c).msix = s.msix := by
  unfold State.wakeCore; split <;> rfl
@[simp] theorem State.wakeCore_pcie (s : State) (c : Nat) : (s.wakeCore c).pcie = s.pcie := by
  unfold State.wakeCore; split <;> rfl
@[simp] theorem State.wakeCore_hostMem (s : State) (c : Nat) : (s.wakeCore c).hostMem = s.hostMem := by
  unfold State.wakeCore; split <;> rfl
@[simp] theorem State.wakeCore_sram (s : State) (c : Nat) : (s.wakeCore c).sram = s.sram := by
  unfold State.wakeCore; split <;> rfl
@[simp] theorem State.wakeCore_items (s : State) (c : Nat) : (s.wakeCore c).items = s.items := by
  unfold State.wakeCore; split <;> rfl
@[simp] theorem State.wakeCore_hre (s : State) (c : Nat) : (s.wakeCore c).hre = s.hre := by
  unfold State.wakeCore; split <;> rfl
@[simp] theorem State.wakeCore_chn (s : State) (c : Nat) : (s.wakeCore c).chn = s.chn := by
  unfold State.wakeCore; split <;> rfl
@[simp] theorem State.wakeCore_mac (s : State) (c : Nat) : (s.wakeCore c).mac = s.mac := by
  unfold State.wakeCore; split <;> rfl
@[simp] theorem State.wakeCore_blw (s : State) (c : Nat) : (s.wakeCore c).blw = s.blw := by
  unfold State.wakeCore; split <;> rfl
@[simp] theorem State.wakeCore_mur (s : State) (c : Nat) : (s.wakeCore c).mur = s.mur := by
  unfold State.wakeCore; split <;> rfl
@[simp] theorem State.wakeCore_rfe (s : State) (c : Nat) : (s.wakeCore c).rfe = s.rfe := by
  unfold State.wakeCore; split <;> rfl
@[simp] theorem State.wakeCore_esm (s : State) (c : Nat) : (s.wakeCore c).esm = s.esm := by
  unfold State.wakeCore; split <;> rfl
@[simp] theorem State.wakeCore_cry (s : State) (c : Nat) : (s.wakeCore c).cry = s.cry := by
  unfold State.wakeCore; split <;> rfl
@[simp] theorem State.wakeCore_skn (s : State) (c : Nat) : (s.wakeCore c).skn = s.skn := by
  unfold State.wakeCore; split <;> rfl
@[simp] theorem State.wakeCore_flc (s : State) (c : Nat) : (s.wakeCore c).flc = s.flc := by
  unfold State.wakeCore; split <;> rfl
@[simp] theorem State.wakeCore_evf (s : State) (c : Nat) : (s.wakeCore c).evf = s.evf := by
  unfold State.wakeCore; split <;> rfl
@[simp] theorem State.wakeCore_per (s : State) (c : Nat) : (s.wakeCore c).per = s.per := by
  unfold State.wakeCore; split <;> rfl
@[simp] theorem State.wakeCore_upd (s : State) (c : Nat) : (s.wakeCore c).upd = s.upd := by
  unfold State.wakeCore; split <;> rfl
@[simp] theorem State.wakeCore_tag (s : State) (c : Nat) : (s.wakeCore c).tag = s.tag := by
  unfold State.wakeCore; split <;> rfl
@[simp] theorem State.wakeCore_tmb (s : State) (c : Nat) : (s.wakeCore c).tmb = s.tmb := by
  unfold State.wakeCore; split <;> rfl
@[simp] theorem State.wakeCore_clk (s : State) (c : Nat) : (s.wakeCore c).clk = s.clk := by
  unfold State.wakeCore; split <;> rfl
@[simp] theorem State.wakeCore_regsWf {s : State} (h : regsWf s) (c : Nat) : regsWf (s.wakeCore c) := by
  unfold State.wakeCore; split <;> simp [h]

/-! ### State.plic -/

@[simp] theorem State.plic_pending (s : State) (src : Nat) : (s.plic src).pending = s.pending := by
  unfold State.plic
  split
  · rfl
  · exact foldl_keeps (p := fun x => x.pending) (fun x a => State.wakeCore_pending x a) _ _
@[simp] theorem State.plic_now (s : State) (src : Nat) : (s.plic src).now = s.now := by
  unfold State.plic
  split
  · rfl
  · exact foldl_keeps (p := fun x => x.now) (fun x a => State.wakeCore_now x a) _ _
@[simp] theorem State.plic_net (s : State) (src : Nat) : (s.plic src).net = s.net := by
  unfold State.plic
  split
  · rfl
  · exact foldl_keeps (p := fun x => x.net) (fun x a => State.wakeCore_net x a) _ _
@[simp] theorem State.plic_relay (s : State) (src : Nat) : (s.plic src).relay = s.relay := by
  unfold State.plic
  split
  · rfl
  · exact foldl_keeps (p := fun x => x.relay) (fun x a => State.wakeCore_relay x a) _ _
@[simp] theorem State.plic_freeCtr (s : State) (src : Nat) : (s.plic src).freeCtr = s.freeCtr := by
  unfold State.plic
  split
  · rfl
  · exact foldl_keeps (p := fun x => x.freeCtr) (fun x a => State.wakeCore_freeCtr x a) _ _
@[simp] theorem State.plic_msix (s : State) (src : Nat) : (s.plic src).msix = s.msix := by
  unfold State.plic
  split
  · rfl
  · exact foldl_keeps (p := fun x => x.msix) (fun x a => State.wakeCore_msix x a) _ _
@[simp] theorem State.plic_pcie (s : State) (src : Nat) : (s.plic src).pcie = s.pcie := by
  unfold State.plic
  split
  · rfl
  · exact foldl_keeps (p := fun x => x.pcie) (fun x a => State.wakeCore_pcie x a) _ _
@[simp] theorem State.plic_hostMem (s : State) (src : Nat) : (s.plic src).hostMem = s.hostMem := by
  unfold State.plic
  split
  · rfl
  · exact foldl_keeps (p := fun x => x.hostMem) (fun x a => State.wakeCore_hostMem x a) _ _
@[simp] theorem State.plic_sram (s : State) (src : Nat) : (s.plic src).sram = s.sram := by
  unfold State.plic
  split
  · rfl
  · exact foldl_keeps (p := fun x => x.sram) (fun x a => State.wakeCore_sram x a) _ _
@[simp] theorem State.plic_items (s : State) (src : Nat) : (s.plic src).items = s.items := by
  unfold State.plic
  split
  · rfl
  · exact foldl_keeps (p := fun x => x.items) (fun x a => State.wakeCore_items x a) _ _
@[simp] theorem State.plic_hre (s : State) (src : Nat) : (s.plic src).hre = s.hre := by
  unfold State.plic
  split
  · rfl
  · exact foldl_keeps (p := fun x => x.hre) (fun x a => State.wakeCore_hre x a) _ _
@[simp] theorem State.plic_chn (s : State) (src : Nat) : (s.plic src).chn = s.chn := by
  unfold State.plic
  split
  · rfl
  · exact foldl_keeps (p := fun x => x.chn) (fun x a => State.wakeCore_chn x a) _ _
@[simp] theorem State.plic_mac (s : State) (src : Nat) : (s.plic src).mac = s.mac := by
  unfold State.plic
  split
  · rfl
  · exact foldl_keeps (p := fun x => x.mac) (fun x a => State.wakeCore_mac x a) _ _
@[simp] theorem State.plic_blw (s : State) (src : Nat) : (s.plic src).blw = s.blw := by
  unfold State.plic
  split
  · rfl
  · exact foldl_keeps (p := fun x => x.blw) (fun x a => State.wakeCore_blw x a) _ _
@[simp] theorem State.plic_mur (s : State) (src : Nat) : (s.plic src).mur = s.mur := by
  unfold State.plic
  split
  · rfl
  · exact foldl_keeps (p := fun x => x.mur) (fun x a => State.wakeCore_mur x a) _ _
@[simp] theorem State.plic_rfe (s : State) (src : Nat) : (s.plic src).rfe = s.rfe := by
  unfold State.plic
  split
  · rfl
  · exact foldl_keeps (p := fun x => x.rfe) (fun x a => State.wakeCore_rfe x a) _ _
@[simp] theorem State.plic_esm (s : State) (src : Nat) : (s.plic src).esm = s.esm := by
  unfold State.plic
  split
  · rfl
  · exact foldl_keeps (p := fun x => x.esm) (fun x a => State.wakeCore_esm x a) _ _
@[simp] theorem State.plic_cry (s : State) (src : Nat) : (s.plic src).cry = s.cry := by
  unfold State.plic
  split
  · rfl
  · exact foldl_keeps (p := fun x => x.cry) (fun x a => State.wakeCore_cry x a) _ _
@[simp] theorem State.plic_skn (s : State) (src : Nat) : (s.plic src).skn = s.skn := by
  unfold State.plic
  split
  · rfl
  · exact foldl_keeps (p := fun x => x.skn) (fun x a => State.wakeCore_skn x a) _ _
@[simp] theorem State.plic_flc (s : State) (src : Nat) : (s.plic src).flc = s.flc := by
  unfold State.plic
  split
  · rfl
  · exact foldl_keeps (p := fun x => x.flc) (fun x a => State.wakeCore_flc x a) _ _
@[simp] theorem State.plic_evf (s : State) (src : Nat) : (s.plic src).evf = s.evf := by
  unfold State.plic
  split
  · rfl
  · exact foldl_keeps (p := fun x => x.evf) (fun x a => State.wakeCore_evf x a) _ _
@[simp] theorem State.plic_per (s : State) (src : Nat) : (s.plic src).per = s.per := by
  unfold State.plic
  split
  · rfl
  · exact foldl_keeps (p := fun x => x.per) (fun x a => State.wakeCore_per x a) _ _
@[simp] theorem State.plic_upd (s : State) (src : Nat) : (s.plic src).upd = s.upd := by
  unfold State.plic
  split
  · rfl
  · exact foldl_keeps (p := fun x => x.upd) (fun x a => State.wakeCore_upd x a) _ _
@[simp] theorem State.plic_tag (s : State) (src : Nat) : (s.plic src).tag = s.tag := by
  unfold State.plic
  split
  · rfl
  · exact foldl_keeps (p := fun x => x.tag) (fun x a => State.wakeCore_tag x a) _ _
@[simp] theorem State.plic_tmb (s : State) (src : Nat) : (s.plic src).tmb = s.tmb := by
  unfold State.plic
  split
  · rfl
  · exact foldl_keeps (p := fun x => x.tmb) (fun x a => State.wakeCore_tmb x a) _ _
@[simp] theorem State.plic_clk (s : State) (src : Nat) : (s.plic src).clk = s.clk := by
  unfold State.plic
  split
  · rfl
  · exact foldl_keeps (p := fun x => x.clk) (fun x a => State.wakeCore_clk x a) _ _
@[simp] theorem State.plic_regsWf {s : State} (h : regsWf s) (src : Nat) : regsWf (s.plic src) := by
  unfold State.plic
  split
  · exact h
  · exact foldl_inv (p := regsWf) (fun x a hx => State.wakeCore_regsWf hx a) _ _ (State.wr_regsWf h _ _)

/-! ### State.sendMsix -/

@[simp] theorem State.sendMsix_pending (s : State) (v : Nat) : (s.sendMsix v).pending = s.pending := by
  unfold State.sendMsix; split <;> rfl
@[simp] theorem State.sendMsix_now (s : State) (v : Nat) : (s.sendMsix v).now = s.now := by
  unfold State.sendMsix; split <;> rfl
@[simp] theorem State.sendMsix_net (s : State) (v : Nat) : (s.sendMsix v).net = s.net := by
  unfold State.sendMsix; split <;> rfl
@[simp] theorem State.sendMsix_relay (s : State) (v : Nat) : (s.sendMsix v).relay = s.relay := by
  unfold State.sendMsix; split <;> rfl
@[simp] theorem State.sendMsix_freeCtr (s : State) (v : Nat) : (s.sendMsix v).freeCtr = s.freeCtr := by
  unfold State.sendMsix; split <;> rfl
@[simp] theorem State.sendMsix_regs (s : State) (v : Nat) : (s.sendMsix v).regs = s.regs := by
  unfold State.sendMsix; split <;> rfl
@[simp] theorem State.sendMsix_msix (s : State) (v : Nat) : (s.sendMsix v).msix = s.msix := by
  unfold State.sendMsix; split <;> rfl
@[simp] theorem State.sendMsix_hostMem (s : State) (v : Nat) : (s.sendMsix v).hostMem = s.hostMem := by
  unfold State.sendMsix; split <;> rfl
@[simp] theorem State.sendMsix_sram (s : State) (v : Nat) : (s.sendMsix v).sram = s.sram := by
  unfold State.sendMsix; split <;> rfl
@[simp] theorem State.sendMsix_items (s : State) (v : Nat) : (s.sendMsix v).items = s.items := by
  unfold State.sendMsix; split <;> rfl
@[simp] theorem State.sendMsix_hre (s : State) (v : Nat) : (s.sendMsix v).hre = s.hre := by
  unfold State.sendMsix; split <;> rfl
@[simp] theorem State.sendMsix_chn (s : State) (v : Nat) : (s.sendMsix v).chn = s.chn := by
  unfold State.sendMsix; split <;> rfl
@[simp] theorem State.sendMsix_mac (s : State) (v : Nat) : (s.sendMsix v).mac = s.mac := by
  unfold State.sendMsix; split <;> rfl
@[simp] theorem State.sendMsix_blw (s : State) (v : Nat) : (s.sendMsix v).blw = s.blw := by
  unfold State.sendMsix; split <;> rfl
@[simp] theorem State.sendMsix_mur (s : State) (v : Nat) : (s.sendMsix v).mur = s.mur := by
  unfold State.sendMsix; split <;> rfl
@[simp] theorem State.sendMsix_rfe (s : State) (v : Nat) : (s.sendMsix v).rfe = s.rfe := by
  unfold State.sendMsix; split <;> rfl
@[simp] theorem State.sendMsix_esm (s : State) (v : Nat) : (s.sendMsix v).esm = s.esm := by
  unfold State.sendMsix; split <;> rfl
@[simp] theorem State.sendMsix_cry (s : State) (v : Nat) : (s.sendMsix v).cry = s.cry := by
  unfold State.sendMsix; split <;> rfl
@[simp] theorem State.sendMsix_skn (s : State) (v : Nat) : (s.sendMsix v).skn = s.skn := by
  unfold State.sendMsix; split <;> rfl
@[simp] theorem State.sendMsix_flc (s : State) (v : Nat) : (s.sendMsix v).flc = s.flc := by
  unfold State.sendMsix; split <;> rfl
@[simp] theorem State.sendMsix_evf (s : State) (v : Nat) : (s.sendMsix v).evf = s.evf := by
  unfold State.sendMsix; split <;> rfl
@[simp] theorem State.sendMsix_cpx (s : State) (v : Nat) : (s.sendMsix v).cpx = s.cpx := by
  unfold State.sendMsix; split <;> rfl
@[simp] theorem State.sendMsix_per (s : State) (v : Nat) : (s.sendMsix v).per = s.per := by
  unfold State.sendMsix; split <;> rfl
@[simp] theorem State.sendMsix_upd (s : State) (v : Nat) : (s.sendMsix v).upd = s.upd := by
  unfold State.sendMsix; split <;> rfl
@[simp] theorem State.sendMsix_tag (s : State) (v : Nat) : (s.sendMsix v).tag = s.tag := by
  unfold State.sendMsix; split <;> rfl
@[simp] theorem State.sendMsix_tmb (s : State) (v : Nat) : (s.sendMsix v).tmb = s.tmb := by
  unfold State.sendMsix; split <;> rfl
@[simp] theorem State.sendMsix_clk (s : State) (v : Nat) : (s.sendMsix v).clk = s.clk := by
  unfold State.sendMsix; split <;> rfl
@[simp] theorem State.sendMsix_sup (s : State) (v : Nat) : (s.sendMsix v).sup = s.sup := by
  unfold State.sendMsix; split <;> rfl
@[simp] theorem State.sendMsix_rd (s : State) (v a : Nat) : (s.sendMsix v).rd a = s.rd a := by
  unfold State.sendMsix; split <;> rfl
@[simp] theorem State.sendMsix_get (s : State) (v : Nat) (f : Fld) : (s.sendMsix v).get f = s.get f := by
  unfold State.sendMsix; split <;> rfl
@[simp] theorem State.sendMsix_on (s : State) (v : Nat) (f : Fld) : (s.sendMsix v).on f = s.on f := by
  unfold State.sendMsix; split <;> rfl
theorem State.sendMsix_regsWf {s : State} (h : regsWf s) (v : Nat) : regsWf (s.sendMsix v) := by
  unfold State.sendMsix; split <;> exact h

/-! ### State.vector -/

@[simp] theorem State.vector_pending (s : State) (v src : Nat) : (s.vector v src).pending = s.pending := by
  unfold State.vector
  split
  · simp
  · dsimp only
    split <;> simp
@[simp] theorem State.vector_now (s : State) (v src : Nat) : (s.vector v src).now = s.now := by
  unfold State.vector
  split
  · simp
  · dsimp only
    split <;> simp
@[simp] theorem State.vector_net (s : State) (v src : Nat) : (s.vector v src).net = s.net := by
  unfold State.vector
  split
  · simp
  · dsimp only
    split <;> simp
@[simp] theorem State.vector_relay (s : State) (v src : Nat) : (s.vector v src).relay = s.relay := by
  unfold State.vector
  split
  · simp
  · dsimp only
    split <;> simp
@[simp] theorem State.vector_freeCtr (s : State) (v src : Nat) : (s.vector v src).freeCtr = s.freeCtr := by
  unfold State.vector
  split
  · simp
  · dsimp only
    split <;> simp
@[simp] theorem State.vector_hostMem (s : State) (v src : Nat) : (s.vector v src).hostMem = s.hostMem := by
  unfold State.vector
  split
  · simp
  · dsimp only
    split <;> simp
@[simp] theorem State.vector_sram (s : State) (v src : Nat) : (s.vector v src).sram = s.sram := by
  unfold State.vector
  split
  · simp
  · dsimp only
    split <;> simp
@[simp] theorem State.vector_items (s : State) (v src : Nat) : (s.vector v src).items = s.items := by
  unfold State.vector
  split
  · simp
  · dsimp only
    split <;> simp
@[simp] theorem State.vector_hre (s : State) (v src : Nat) : (s.vector v src).hre = s.hre := by
  unfold State.vector
  split
  · simp
  · dsimp only
    split <;> simp
@[simp] theorem State.vector_chn (s : State) (v src : Nat) : (s.vector v src).chn = s.chn := by
  unfold State.vector
  split
  · simp
  · dsimp only
    split <;> simp
@[simp] theorem State.vector_mac (s : State) (v src : Nat) : (s.vector v src).mac = s.mac := by
  unfold State.vector
  split
  · simp
  · dsimp only
    split <;> simp
@[simp] theorem State.vector_blw (s : State) (v src : Nat) : (s.vector v src).blw = s.blw := by
  unfold State.vector
  split
  · simp
  · dsimp only
    split <;> simp
@[simp] theorem State.vector_mur (s : State) (v src : Nat) : (s.vector v src).mur = s.mur := by
  unfold State.vector
  split
  · simp
  · dsimp only
    split <;> simp
@[simp] theorem State.vector_rfe (s : State) (v src : Nat) : (s.vector v src).rfe = s.rfe := by
  unfold State.vector
  split
  · simp
  · dsimp only
    split <;> simp
@[simp] theorem State.vector_esm (s : State) (v src : Nat) : (s.vector v src).esm = s.esm := by
  unfold State.vector
  split
  · simp
  · dsimp only
    split <;> simp
@[simp] theorem State.vector_cry (s : State) (v src : Nat) : (s.vector v src).cry = s.cry := by
  unfold State.vector
  split
  · simp
  · dsimp only
    split <;> simp
@[simp] theorem State.vector_skn (s : State) (v src : Nat) : (s.vector v src).skn = s.skn := by
  unfold State.vector
  split
  · simp
  · dsimp only
    split <;> simp
@[simp] theorem State.vector_flc (s : State) (v src : Nat) : (s.vector v src).flc = s.flc := by
  unfold State.vector
  split
  · simp
  · dsimp only
    split <;> simp
@[simp] theorem State.vector_evf (s : State) (v src : Nat) : (s.vector v src).evf = s.evf := by
  unfold State.vector
  split
  · simp
  · dsimp only
    split <;> simp
@[simp] theorem State.vector_per (s : State) (v src : Nat) : (s.vector v src).per = s.per := by
  unfold State.vector
  split
  · simp
  · dsimp only
    split <;> simp
@[simp] theorem State.vector_upd (s : State) (v src : Nat) : (s.vector v src).upd = s.upd := by
  unfold State.vector
  split
  · simp
  · dsimp only
    split <;> simp
@[simp] theorem State.vector_tag (s : State) (v src : Nat) : (s.vector v src).tag = s.tag := by
  unfold State.vector
  split
  · simp
  · dsimp only
    split <;> simp
@[simp] theorem State.vector_tmb (s : State) (v src : Nat) : (s.vector v src).tmb = s.tmb := by
  unfold State.vector
  split
  · simp
  · dsimp only
    split <;> simp
@[simp] theorem State.vector_clk (s : State) (v src : Nat) : (s.vector v src).clk = s.clk := by
  unfold State.vector
  split
  · simp
  · dsimp only
    split <;> simp
@[simp] theorem State.vector_regsWf {s : State} (h : regsWf s) (v src : Nat) : regsWf (s.vector v src) := by
  unfold State.vector
  split
  · exact State.plic_regsWf h _
  · dsimp only
    split
    · exact State.plic_regsWf (State.sendMsix_regsWf (s := { s with msix := s.msix ++ [v] }) h v) _
    · exact State.sendMsix_regsWf (s := { s with msix := s.msix ++ [v] }) h v

/-! ### State.irq -/

@[simp] theorem State.irq_pending (s : State) (b mask : Nat) : (s.irq b mask).pending = s.pending := by
  unfold State.irq
  split
  · rfl
  · dsimp only
    split
    · rfl
    · split <;> simp
@[simp] theorem State.irq_now (s : State) (b mask : Nat) : (s.irq b mask).now = s.now := by
  unfold State.irq
  split
  · rfl
  · dsimp only
    split
    · rfl
    · split <;> simp
@[simp] theorem State.irq_net (s : State) (b mask : Nat) : (s.irq b mask).net = s.net := by
  unfold State.irq
  split
  · rfl
  · dsimp only
    split
    · rfl
    · split <;> simp
@[simp] theorem State.irq_relay (s : State) (b mask : Nat) : (s.irq b mask).relay = s.relay := by
  unfold State.irq
  split
  · rfl
  · dsimp only
    split
    · rfl
    · split <;> simp
@[simp] theorem State.irq_freeCtr (s : State) (b mask : Nat) : (s.irq b mask).freeCtr = s.freeCtr := by
  unfold State.irq
  split
  · rfl
  · dsimp only
    split
    · rfl
    · split <;> simp
@[simp] theorem State.irq_hostMem (s : State) (b mask : Nat) : (s.irq b mask).hostMem = s.hostMem := by
  unfold State.irq
  split
  · rfl
  · dsimp only
    split
    · rfl
    · split <;> simp
@[simp] theorem State.irq_sram (s : State) (b mask : Nat) : (s.irq b mask).sram = s.sram := by
  unfold State.irq
  split
  · rfl
  · dsimp only
    split
    · rfl
    · split <;> simp
@[simp] theorem State.irq_items (s : State) (b mask : Nat) : (s.irq b mask).items = s.items := by
  unfold State.irq
  split
  · rfl
  · dsimp only
    split
    · rfl
    · split <;> simp
@[simp] theorem State.irq_hre (s : State) (b mask : Nat) : (s.irq b mask).hre = s.hre := by
  unfold State.irq
  split
  · rfl
  · dsimp only
    split
    · rfl
    · split <;> simp
@[simp] theorem State.irq_chn (s : State) (b mask : Nat) : (s.irq b mask).chn = s.chn := by
  unfold State.irq
  split
  · rfl
  · dsimp only
    split
    · rfl
    · split <;> simp
@[simp] theorem State.irq_mac (s : State) (b mask : Nat) : (s.irq b mask).mac = s.mac := by
  unfold State.irq
  split
  · rfl
  · dsimp only
    split
    · rfl
    · split <;> simp
@[simp] theorem State.irq_blw (s : State) (b mask : Nat) : (s.irq b mask).blw = s.blw := by
  unfold State.irq
  split
  · rfl
  · dsimp only
    split
    · rfl
    · split <;> simp
@[simp] theorem State.irq_mur (s : State) (b mask : Nat) : (s.irq b mask).mur = s.mur := by
  unfold State.irq
  split
  · rfl
  · dsimp only
    split
    · rfl
    · split <;> simp
@[simp] theorem State.irq_rfe (s : State) (b mask : Nat) : (s.irq b mask).rfe = s.rfe := by
  unfold State.irq
  split
  · rfl
  · dsimp only
    split
    · rfl
    · split <;> simp
@[simp] theorem State.irq_esm (s : State) (b mask : Nat) : (s.irq b mask).esm = s.esm := by
  unfold State.irq
  split
  · rfl
  · dsimp only
    split
    · rfl
    · split <;> simp
@[simp] theorem State.irq_cry (s : State) (b mask : Nat) : (s.irq b mask).cry = s.cry := by
  unfold State.irq
  split
  · rfl
  · dsimp only
    split
    · rfl
    · split <;> simp
@[simp] theorem State.irq_skn (s : State) (b mask : Nat) : (s.irq b mask).skn = s.skn := by
  unfold State.irq
  split
  · rfl
  · dsimp only
    split
    · rfl
    · split <;> simp
@[simp] theorem State.irq_flc (s : State) (b mask : Nat) : (s.irq b mask).flc = s.flc := by
  unfold State.irq
  split
  · rfl
  · dsimp only
    split
    · rfl
    · split <;> simp
@[simp] theorem State.irq_evf (s : State) (b mask : Nat) : (s.irq b mask).evf = s.evf := by
  unfold State.irq
  split
  · rfl
  · dsimp only
    split
    · rfl
    · split <;> simp
@[simp] theorem State.irq_per (s : State) (b mask : Nat) : (s.irq b mask).per = s.per := by
  unfold State.irq
  split
  · rfl
  · dsimp only
    split
    · rfl
    · split <;> simp
@[simp] theorem State.irq_upd (s : State) (b mask : Nat) : (s.irq b mask).upd = s.upd := by
  unfold State.irq
  split
  · rfl
  · dsimp only
    split
    · rfl
    · split <;> simp
@[simp] theorem State.irq_tag (s : State) (b mask : Nat) : (s.irq b mask).tag = s.tag := by
  unfold State.irq
  split
  · rfl
  · dsimp only
    split
    · rfl
    · split <;> simp
@[simp] theorem State.irq_tmb (s : State) (b mask : Nat) : (s.irq b mask).tmb = s.tmb := by
  unfold State.irq
  split
  · rfl
  · dsimp only
    split
    · rfl
    · split <;> simp
@[simp] theorem State.irq_clk (s : State) (b mask : Nat) : (s.irq b mask).clk = s.clk := by
  unfold State.irq
  split
  · rfl
  · dsimp only
    split
    · rfl
    · split <;> simp
@[simp] theorem State.irq_regsWf {s : State} (h : regsWf s) (b mask : Nat) : regsWf (s.irq b mask) := by
  unfold State.irq
  split
  · exact h
  · dsimp only
    split
    · exact State.wr_regsWf h _ _
    · split
      · exact State.vector_regsWf (State.wr_regsWf h _ _) _ _
      · exact State.plic_regsWf (State.wr_regsWf h _ _) _

/-! ### Registers that an interrupt leaves alone -/

/-- The registers that raising a PLIC source may change: the pending words and SUP_STATUS (a wake from DOZE). -/
theorem State.wakeCore_rd (s : State) (c : Nat) {a : Nat} (ha : a ≠ Reg.SUP_STATUS) :
    (s.wakeCore c).rd a = s.rd a := by
  unfold State.wakeCore
  split
  · rw [State.rd_put_other _ _ _ ha]
    rfl
  · rfl

theorem State.plic_rd (s : State) (src : Nat) {a : Nat} (ha : a ≠ Reg.SUP_STATUS)
    (hp : a ≠ Reg.CPX_PLIC_PEND (src / 32)) : (s.plic src).rd a = s.rd a := by
  unfold State.plic
  split
  · rfl
  · dsimp only
    have key : ∀ (l : List Nat) (x : State), (l.foldl State.wakeCore x).rd a = x.rd a := by
      intro l
      induction l with
      | nil => intro x; rfl
      | cons c l ih =>
        intro x
        rw [List.foldl_cons, ih, State.wakeCore_rd x c ha]
    rw [key, State.rd_wr_other s _ hp]

theorem State.vector_rd (s : State) (v src : Nat) {a : Nat} (ha : a ≠ Reg.SUP_STATUS)
    (hp : a ≠ Reg.CPX_PLIC_PEND (src / 32)) : (s.vector v src).rd a = s.rd a := by
  unfold State.vector
  split
  · exact State.plic_rd s src ha hp
  · dsimp only
    split
    · rw [State.plic_rd _ src ha hp, State.sendMsix_rd]
      rfl
    · rw [State.sendMsix_rd]
      rfl

/-- Is an address one that raising an interrupt of block `b` may change: its ISR, a pending word of the PLIC, or
SUP_STATUS? -/
def irqTouches (b a : Nat) : Bool :=
  a == Reg.SUP_STATUS || (decide (Reg.CPX_PLIC_PEND 0 ≤ a) && decide (a < Reg.CPX_PLIC_PEND 8)) ||
    (match isrOf b with | some (isr, _, _, _) => a == isr | none => false)

theorem isrOf_src {b isr ier src : Nat} {vec : Option Nat} (h : isrOf b = some (isr, ier, vec, src)) : src < 256 := by
  unfold isrOf at h
  split at h <;> simp at h <;> omega

/-- Raising an interrupt leaves every other register alone. -/
@[simp] theorem State.irq_rd (s : State) (b mask : Nat) {a : Nat} (ha : irqTouches b a = false) :
    (s.irq b mask).rd a = s.rd a := by
  unfold State.irq
  split
  · rfl
  · rename_i isr ier vec src heq
    have hsrc := isrOf_src heq
    simp only [irqTouches, heq, Bool.or_eq_false_iff, beq_eq_false_iff_ne, Bool.and_eq_false_iff,
      decide_eq_false_iff_not] at ha
    have hp : a ≠ Reg.CPX_PLIC_PEND (src / 32) := by
      have : src / 32 < 8 := by omega
      have h2 := ha.1.2
      simp only [Reg.CPX_PLIC_PEND] at *
      omega
    dsimp only
    split
    · exact State.rd_wr_other s _ ha.2
    · split
      · rw [State.vector_rd _ _ _ ha.1.1 hp, State.rd_wr_other s _ ha.2]
      · rw [State.plic_rd _ _ ha.1.1 hp, State.rd_wr_other s _ ha.2]

@[simp] theorem State.irq_get (s : State) (b mask : Nat) {f : Fld} (ha : irqTouches b f.addr = false) :
    (s.irq b mask).get f = s.get f := by
  rw [State.get, State.irq_rd s b mask ha, State.get]

@[simp] theorem State.irq_on (s : State) (b mask : Nat) {f : Fld} (ha : irqTouches b f.addr = false) :
    (s.irq b mask).on f = s.on f := by
  rw [State.on, State.irq_get s b mask ha, State.on]

/-- The ISR bits raised read as 1. -/
theorem State.irq_isr (s : State) {b isr ier src : Nat} {vec : Option Nat} (mask : Nat)
    (hb : isrOf b = some (isr, ier, vec, src)) (hs : isr ≠ Reg.SUP_STATUS)
    (hp : isr < Reg.CPX_PLIC_PEND 0 ∨ Reg.CPX_PLIC_PEND 8 ≤ isr) :
    (s.irq b mask).rd isr = s.rd isr ||| BitVec.ofNat 32 mask := by
  unfold State.irq
  rw [hb]
  have hsrc := isrOf_src hb
  have hp' : isr ≠ Reg.CPX_PLIC_PEND (src / 32) := by
    have : src / 32 < 8 := by omega
    simp only [Reg.CPX_PLIC_PEND] at *
    omega
  dsimp only
  split
  · exact State.rd_wr_same s _ _
  · split
    · rw [State.vector_rd _ _ _ hs hp', State.rd_wr_same]
    · rw [State.plic_rd _ _ hs hp', State.rd_wr_same]

end Sys2Proof.Machine
end

