-- ==== Sys2Proof/Laws/Dsp.lean ====
section
/-! SUPPORT. Laws of the passing of time (State.at): the DSP cycles up to an instant serve lanes and residues, and leave all
but the lanes, their windows and their interrupts alone (R199, R213). -/

namespace Sys2Proof.Machine

/-- A state with all that the lanes and their interrupts may change blotted out. -/
def State.apart (s : State) : State :=
  { s with regs := [], items := [], mur := State.reset.mur, msix := [], pcie := State.reset.pcie, cpx := State.reset.cpx,
           sup := State.reset.sup }

@[simp] theorem State.wr_apart (s : State) (a : Nat) (v : Word) : (s.wr a v).apart = s.apart := rfl
@[simp] theorem State.put_apart (s : State) (f : Fld) (v : Nat) : (s.put f v).apart = s.apart := State.wr_apart ..
@[simp] theorem State.count_apart (s : State) (f : Fld) (n : Nat) : (s.count f n).apart = s.apart := State.put_apart ..
@[simp] theorem State.wr64_apart (s : State) (a v : Nat) : (s.wr64 a v).apart = s.apart := by
  unfold State.wr64; simp only [State.wr_apart]
@[simp] theorem State.setItem_apart (s : State) (k : Nat) (f : Item → Item) : (s.setItem k f).apart = s.apart := rfl
@[simp] theorem State.setLaneX_apart (s : State) (n : Nat) (x : LaneX) : (s.setLaneX n x).apart = s.apart := rfl
@[simp] theorem State.mur_apart (s : State) (m : Mur) : State.apart { s with mur := m } = s.apart := rfl

theorem State.wakeCore_apart (s : State) (c : Nat) : (s.wakeCore c).apart = s.apart := by
  unfold State.wakeCore; split <;> rfl

theorem State.plic_apart (s : State) (n : Nat) : (s.plic n).apart = s.apart := by
  unfold State.plic
  split
  · rfl
  · exact foldl_keeps (p := State.apart) State.wakeCore_apart _ _

theorem State.sendMsix_apart (s : State) (v : Nat) : (s.sendMsix v).apart = s.apart := by
  unfold State.sendMsix; split <;> rfl

theorem State.vector_apart (s : State) (v n : Nat) : (s.vector v n).apart = s.apart := by
  unfold State.vector
  split
  · exact State.plic_apart s n
  · dsimp only
    split
    · exact (State.plic_apart _ n).trans (State.sendMsix_apart { s with msix := s.msix ++ [v] } v)
    · exact State.sendMsix_apart { s with msix := s.msix ++ [v] } v

theorem State.irq_apart (s : State) (b m : Nat) : (s.irq b m).apart = s.apart := by
  unfold State.irq
  split
  · rfl
  · dsimp only
    split
    · rfl
    · split
      · exact State.vector_apart (s.wr _ _) _ _
      · exact State.plic_apart (s.wr _ _) _

theorem State.clearLane_apart (s : State) (n : Nat) : (s.clearLane n).apart = s.apart := by
  unfold State.clearLane; simp only [State.wr64_apart, State.wr_apart, State.setLaneX_apart]

theorem State.syncLoad_apart (s : State) : s.syncLoad.apart = s.apart := by
  unfold State.syncLoad; simp only [State.put_apart]

theorem State.onWindow_apart (s : State) (w : Option Nat) (f : RxInfo → RxInfo) : (s.onWindow w f).apart = s.apart := by
  unfold State.onWindow; split <;> simp only [State.setItem_apart]

theorem State.releaseLane_apart (s : State) (n : Nat) : (s.releaseLane n).apart = s.apart := by
  unfold State.releaseLane State.chargeLane
  rw [State.syncLoad_apart, State.clearLane_apart, State.onWindow_apart]

theorem State.giveLane_apart (s : State) (n : Nat) (d : Detection) (w : Option Nat) (residue : Bool) (level : Nat) :
    (s.giveLane n d w residue level).apart = s.apart := by
  unfold State.giveLane
  dsimp only
  rw [State.syncLoad_apart]
  split <;> simp only [State.count_apart, State.wr64_apart, State.wr_apart, State.setLaneX_apart]

theorem State.sicDrop_apart (s : State) (w : Option Nat) : (s.sicDrop w).apart = s.apart := by
  unfold State.sicDrop
  rw [State.irq_apart, State.count_apart, State.onWindow_apart]

/-- An assignment changes lanes, windows and their interrupts only (R197, R198). -/
theorem State.assign_apart (s : State) (d : Detection) (residue : Bool) (level : Nat) :
    (s.assign d residue level).apart = s.apart := by
  unfold State.assign
  split
  · rfl
  split
  · rfl
  split
  · rw [State.irq_apart, State.count_apart, State.onWindow_apart]
  split
  · exact State.giveLane_apart ..
  split
  · rfl
  split
  · dsimp only
    rw [State.giveLane_apart, State.count_apart, State.count_apart, State.releaseLane_apart]
  · rw [State.irq_apart, State.count_apart, State.onWindow_apart]

theorem State.serveResidues_apart (k : Nat) (s : State) : (s.serveResidues k).apart = s.apart := by
  induction k generalizing s with
  | zero => rfl
  | succ k ih =>
    unfold State.serveResidues
    split
    · rfl
    · dsimp only
      split
      · rw [ih, State.sicDrop_apart]; rfl
      split
      · rw [ih, State.assign_apart]; rfl
      · rfl

theorem State.listening_apart (s : State) : s.listening.apart = s.apart :=
  by
  unfold State.listening
  exact foldl_keeps (p := State.apart) (fun x w => by split <;> simp only [State.put_apart]) _ _

/-- The DSP cycles change lanes, windows and their interrupts only (R199, R213). -/
theorem State.dspCycles_apart (s : State) (t : Nat) : (s.dspCycles t).apart = s.apart := by
  unfold State.dspCycles
  split
  · rfl
  dsimp only
  have h : (s.mur.freed.foldl State.clearLane { s with mur := { s.mur with freed := [] } }).syncLoad.listening.apart = s.apart := by
    rw [State.listening_apart, State.syncLoad_apart, foldl_keeps (p := State.apart) State.clearLane_apart]; rfl
  split
  · rw [State.serveResidues_apart, h]
  · exact h

/-! ### What the passing of time leaves alone -/

@[simp] theorem State.at_pending (s : State) (t : Nat) : (s.at t).pending = s.pending := by
  have h := congrArg State.pending (State.dspCycles_apart s t); exact h
@[simp] theorem State.at_relay (s : State) (t : Nat) : (s.at t).relay = s.relay := by
  have h := congrArg State.relay (State.dspCycles_apart s t); exact h
@[simp] theorem State.at_freeCtr (s : State) (t : Nat) : (s.at t).freeCtr = s.freeCtr := by
  have h := congrArg State.freeCtr (State.dspCycles_apart s t); exact h
@[simp] theorem State.at_hostMem (s : State) (t : Nat) : (s.at t).hostMem = s.hostMem := by
  have h := congrArg State.hostMem (State.dspCycles_apart s t); exact h
@[simp] theorem State.at_sram (s : State) (t : Nat) : (s.at t).sram = s.sram := by
  have h := congrArg State.sram (State.dspCycles_apart s t); exact h
@[simp] theorem State.at_hre (s : State) (t : Nat) : (s.at t).hre = s.hre := by
  have h := congrArg State.hre (State.dspCycles_apart s t); exact h
@[simp] theorem State.at_chn (s : State) (t : Nat) : (s.at t).chn = s.chn := by
  have h := congrArg State.chn (State.dspCycles_apart s t); exact h
@[simp] theorem State.at_blw (s : State) (t : Nat) : (s.at t).blw = s.blw := by
  have h := congrArg State.blw (State.dspCycles_apart s t); exact h
@[simp] theorem State.at_esm (s : State) (t : Nat) : (s.at t).esm = s.esm := by
  have h := congrArg State.esm (State.dspCycles_apart s t); exact h
@[simp] theorem State.at_cry (s : State) (t : Nat) : (s.at t).cry = s.cry := by
  have h := congrArg State.cry (State.dspCycles_apart s t); exact h
@[simp] theorem State.at_skn (s : State) (t : Nat) : (s.at t).skn = s.skn := by
  have h := congrArg State.skn (State.dspCycles_apart s t); exact h
@[simp] theorem State.at_flc (s : State) (t : Nat) : (s.at t).flc = s.flc := by
  have h := congrArg State.flc (State.dspCycles_apart s t); exact h
@[simp] theorem State.at_evf (s : State) (t : Nat) : (s.at t).evf = s.evf := by
  have h := congrArg State.evf (State.dspCycles_apart s t); exact h
@[simp] theorem State.at_per (s : State) (t : Nat) : (s.at t).per = s.per := by
  have h := congrArg State.per (State.dspCycles_apart s t); exact h
@[simp] theorem State.at_upd (s : State) (t : Nat) : (s.at t).upd = s.upd := by
  have h := congrArg State.upd (State.dspCycles_apart s t); exact h
@[simp] theorem State.at_tag (s : State) (t : Nat) : (s.at t).tag = s.tag := by
  have h := congrArg State.tag (State.dspCycles_apart s t); exact h
@[simp] theorem State.at_tmb (s : State) (t : Nat) : (s.at t).tmb = s.tmb := by
  have h := congrArg State.tmb (State.dspCycles_apart s t); exact h
@[simp] theorem State.at_clk (s : State) (t : Nat) : (s.at t).clk = s.clk := by
  have h := congrArg State.clk (State.dspCycles_apart s t); exact h

/-- The AON local time after the passing of time. -/
@[simp] theorem State.at_now (s : State) (t : Nat) : (s.at t).now = s.now + (t - s.now) := by
  have h0 := congrArg State.now (State.dspCycles_apart s t)
  have h : (s.dspCycles t).now = s.now := h0
  show (s.dspCycles t).now + (t - (s.dspCycles t).now) = _
  rw [h]

end Sys2Proof.Machine
end

