-- ==== Sys2Proof/WellFormed.lean ====
section
/-! DEFINITION. Well-formed commands: their numbers lie in the ranges that the spec gives them.  A command whose number
names nothing has no effect; the ranges say which commands the outside world sends. -/

namespace Sys2Proof

/-- Is a number a block id of Table 0-3? -/
def isBlock (n : Nat) : Bool := decide (n < 23)

/-- Is a number a ring number (Table 2-1)? -/
def isRing (n : Nat) : Bool := decide (n < 24)

/-- Is a number a 16-bit number? -/
def isHalf (n : Nat) : Bool := decide (n < 65536)

/-- Is a number a 2-bit code, or the number of one of four cores, sources or word groups? -/
def isCode2 (n : Nat) : Bool := decide (n < 4)

/-- Is a number an entry of the promise table (R27)? -/
def isEntry (n : Nat) : Bool := decide (n < 8192)

/-- Is a number a lane of the anchor profile (R195)? -/
def isLane (n : Nat) : Bool := decide (n < 64)

/-- Is a number one of two? -/
def isPair (n : Nat) : Bool := decide (n < 2)

/-- Is a number a skein port? -/
def isPort (n : Nat) : Bool := decide (n < 3)

/-- Is a number a flash bank, or the field bank (4)? -/
def isBank (n : Nat) : Bool := decide (n < 5)

/-- Is a number a PLIC context (R511)? -/
def isContext (n : Nat) : Bool := decide (n < 5)

/-- Is a number an 8-bit number? -/
def isOctet (n : Nat) : Bool := decide (n < 256)

/-- Is a number a device id? -/
def isDevice (n : Nat) : Bool := decide (n < 1024)

/-- Is a number a timer channel? -/
def isTimer (n : Nat) : Bool := decide (n < 16)

/-- Is a number a GPIO event unit? -/
def isUnit (n : Nat) : Bool := decide (n < 8)

/-- Is a number an alarm source (Table 9-7)? -/
def isAlarm (n : Nat) : Bool := decide (n < 6)

/-- Is a number a reset cause (Table 17-6)? -/
def isCause (n : Nat) : Bool := decide (n < 14)

/-- Is a number a wake source code (SUP_WAKE_SRC)? -/
def isWake (n : Nat) : Bool := decide (n < 27)

/-- Is a number an IOSEL strap reading? -/
def isStrap (n : Nat) : Bool := decide (n < 3)

/-- Is a number a STATUS.FAULT code of Table 10-2, or 0 for a pass? -/
def isLineFault (n : Nat) : Bool := decide (n < 6)

/-- Is a number a FAULT_DIST? -/
def isDistance (n : Nat) : Bool := decide (n < 512)

/-- Is a number a cascade level? -/
def isLevel (n : Nat) : Bool := decide (n = 1 ∨ n = 2)

/-- Is a number an endpoint index? -/
def isEndpoint (n : Nat) : Bool := decide (n < 1048576)

/-- Is a number the address of a word? -/
def isWordAddress (n : Nat) : Bool := decide (n % 4 = 0)

/-- Do the numbers of a command lie in their ranges? -/
def Instr.wellFormed : Instr → Bool
  | .registerWrite _ _ _ _ _ => true
  | .blockEnable _ b => isBlock b
  | .enableCheckDone _ b => isBlock b
  | .checkAbandoned _ b => isBlock b
  | .blockDisable _ b => isBlock b
  | .flcReady _ => true
  | .calibrationDone _ rx0 rx1 => isCode2 rx0 && isCode2 rx1
  | .ringEnable _ n => isRing n
  | .ringDisable _ n => isRing n
  | .doorbell _ n idx => isRing n && isHalf idx
  | .descriptorFetch _ _ _ _ => true
  | .admission _ => true
  | .completionWrite _ ring _ => isRing ring
  | .modTimeExpiry _ ring => isRing ring
  | .eventRecordWrite _ _ => true
  | .hostReset _ _ => true
  | .quenchSet _ => true
  | .quenchClear _ => true
  | .nop _ => true
  | .cancel _ => true
  | .quench _ => true
  | .fenceAll _ => true
  | .fenceAllDone _ => true
  | .bankSwap _ => true
  | .bankSwapEffect _ => true
  | .timeSetStep _ => true
  | .timeSetSlew _ => true
  | .txFrame _ _ => true
  | .tx154 _ => true
  | .txBeacon _ => true
  | .txAckBeacon _ => true
  | .txLegacy _ _ => true
  | .rxWindow _ => true
  | .rxBuffer _ => true
  | .lbtListen _ idx _ => isEntry idx
  | .txStart _ idx => isEntry idx
  | .txEnd _ idx _ _ _ => isEntry idx
  | .rxWindowOpen _ idx => isEntry idx
  | .rxWindowClose _ idx => isEntry idx
  | .rxWindowFinal _ idx => isEntry idx
  | .flashItemIssue _ idx => isEntry idx
  | .slotBoundary _ => true
  | .lockstepMismatch _ => true
  | .restoreComplete _ => true
  | .scheduleEccError _ _ _ => true
  | .cellWrite _ _ => true
  | .regionPresetLoad _ region => isCode2 region
  | .droneBeaconSubmit _ => true
  | .recoveryTimeout _ => true
  | .acquireScanExpiry _ => true
  | .orphanRetryExpiry _ => true
  | .txfcRefillDone _ => true
  | .nonceRefillDone _ => true
  | .energyWindowEnd _ _ => true
  | .preambleQualified _ _ => true
  | .captureRelock _ lane _ _ => isLane lane
  | .syncAccepted _ lane _ => isLane lane
  | .syncLost _ lane => isLane lane
  | .headerDecoded _ lane _ => isLane lane
  | .frameEnd _ lane _ _ _ _ _ => isLane lane
  | .ieee154FrameEnd _ lane _ _ _ _ => isLane lane
  | .sicJobStart _ => true
  | .sicSubtractionDone _ _ _ => true
  | .residueScanDone _ => true
  | .residueAgeExpiry _ => true
  | .agcGainStep _ chain _ => isPair chain
  | .captureStart _ => true
  | .captureDone _ _ => true
  | .capDataRead _ => true
  | .firCheck _ => true
  | .firCheckDone _ => true
  | .firUnlock _ => true
  | .antennaFault _ _ _ _ _ => true
  | .antennaRetry _ => true
  | .synthUnlock _ _ => true
  | .bandReselect _ _ => true
  | .recalDueExpiry _ => true
  | .esmAccess _ core _ _ _ _ _ => isCode2 core
  | .esmScrub _ n _ => isEndpoint n
  | .checkpointTimer _ => true
  | .ckptNow _ => true
  | .close _ => true
  | .checkpointDone _ => true
  | .checkpointRetry _ => true
  | .esmRestore _ => true
  | .joinRequest _ _ _ => true
  | .joinAcceptDone _ => true
  | .directoryCompaction _ => true
  | .lookupEui _ _ => true
  | .lookupIndex _ _ => true
  | .suspend _ => true
  | .resume _ => true
  | .revoke _ => true
  | .delete _ => true
  | .checkpoint _ => true
  | .stats _ _ => true
  | .ownerSet _ => true
  | .cryOp _ => true
  | .cipherRequestDone _ _ => true
  | .keyImport _ => true
  | .sigSign _ => true
  | .sigVerify _ => true
  | .hash _ => true
  | .sigOperationDone _ _ => true
  | .attestReport _ _ => true
  | .attestChain _ _ => true
  | .txfcRestart _ => true
  | .alarm _ src => isAlarm src
  | .alarmClear _ _ _ => true
  | .keyRestore _ => true
  | .keyRestoreDone _ => true
  | .lineTest _ p fault pair dist => isPort p && isLineFault fault && isPair pair && isDistance dist
  | .lineShortDetect _ p _ pair => isPort p && isPair pair
  | .rateFallback _ p => isPort p
  | .skeinFrameBoundary _ _ => true
  | .timeMarkReceived _ p _ _ _ => isPort p
  | .linkUp _ p => isPort p
  | .linkDown _ p _ => isPort p
  | .eventCellReceived _ p _ _ _ origin seq => isPort p && isDevice origin && isHalf seq
  | .delayRecord _ p _ => isPort p
  | .electRecord _ p _ _ => isPort p
  | .enumRecord _ p _ => isPort p
  | .pruneRecord _ p id port => isPort p && isDevice id && isPort port
  | .quenchRecord _ p head _ seq => isPort p && isDevice head && isHalf seq
  | .enumRefresh _ => true
  | .memberTimeout _ id => isDevice id
  | .incumbency _ => true
  | .electionSettled _ => true
  | .orphanTimeout _ => true
  | .sknSend _ => true
  | .sknRemoteReset _ => true
  | .skeinDepart _ idx => isEntry idx
  | .skeinMessageReceived _ p _ _ _ => isPort p
  | .skeinAckReceived _ seq _ => isHalf seq
  | .ackTimeout _ idx => isEntry idx
  | .holdExpiry _ idx => isEntry idx
  | .remoteResetReceived _ _ => true
  | .remoteResetExecute _ => true
  | .unblock _ => true
  | .quenchRelease _ => true
  | .commit _ => true
  | .storeWrite _ _ => true
  | .budgetPeriodStart _ => true
  | .harvestHourEnd _ => true
  | .supplyWarning _ _ => true
  | .warningClear _ _ => true
  | .economyHoldEnd _ => true
  | .flRead _ _ _ _ => true
  | .flProgram _ => true
  | .flErase _ => true
  | .flCounter _ => true
  | .directProgram _ _ _ => true
  | .directErase _ _ _ => true
  | .flashOpDone _ bank _ _ => isBank bank
  | .flashSuspend _ _ r => match r with
      | .other => true
      | .load c => isCode2 c
      | .fetch c _ => isCode2 c
  | .flashResume _ bank => isBank bank
  | .flashOccupancyStop _ bank => isBank bank
  | .scrubRefresh _ _ _ => true
  | .execLockWrite _ _ => true
  | .boot _ _ _ _ _ _ => true
  | .imagePieceManifest _ _ _ => true
  | .imagePieceHash _ _ _ => true
  | .imagePieceData _ _ _ => true
  | .stagingCheckDone _ _ => true
  | .activate _ => true
  | .handover _ _ => true
  | .alive _ _ => true
  | .confirm _ _ => true
  | .revert _ => true
  | .abandon _ => true
  | .quiesceTimeout _ => true
  | .aliveTimeout _ => true
  | .trialExpiry _ => true
  | .distStart _ => true
  | .distStop _ => true
  | .distStatus _ _ => true
  | .distClear _ => true
  | .distCarouselFrame _ d => isPair d
  | .distSnapshot _ d => isPair d
  | .reqa _ _ => true
  | .anticollision _ level _ => isLevel level
  | .select _ level _ => isLevel level
  | .rats _ => true
  | .pps _ _ => true
  | .deselect _ _ => true
  | .ndefSelect _ _ _ => true
  | .readBinary _ _ _ => true
  | .updateBinary _ => true
  | .writeBegin _ _ _ => true
  | .writeData _ _ _ _ => true
  | .writeCommit _ _ _ _ _ => true
  | .writeAbort _ _ => true
  | .tagStatus _ _ => true
  | .fieldOn _ => true
  | .fieldOff _ => true
  | .quietExpiry _ => true
  | .unquiet _ => true
  | .coilTest _ result _ => isCode2 result
  | .eventFire _ => true
  | .swfire _ k _ => isCode2 k
  | .grpSet _ _ => true
  | .grpClr _ _ => true
  | .pubSubWrite _ a _ => isWordAddress a
  | .timerTick _ n => isTimer n
  | .gstart _ _ => true
  | .gstop _ _ => true
  | .greload _ _ => true
  | .stagger _ _ => true
  | .timerCtlWrite _ n _ => isTimer n
  | .oscStartDelayEnd _ src _ _ => isCode2 src
  | .clockMonitorTrip _ src => isCode2 src
  | .rcTrim _ _ _ => true
  | .pllUnlock _ => true
  | .dspPllUnlock _ => true
  | .pllRelock _ _ => true
  | .relockTimeout _ => true
  | .chanterWake _ => true
  | .brownOut _ _ => true
  | .overvoltage _ _ => true
  | .powerOn _ iosel => isStrap iosel
  | .vioFault _ => true
  | .vioRetry _ => true
  | .warnWrite _ _ _ => true
  | .sleepRequest _ => true
  | .hibernateRequest _ => true
  | .powerRequestCancel _ => true
  | .powerStateEntry _ => true
  | .wake _ src => isWake src
  | .resetPin _ _ => true
  | .resetPinLong _ iosel => isStrap iosel
  | .deviceReset _ cause => isCause cause
  | .applicationReset _ cause => isCause cause
  | .softReset _ _ => true
  | .softAppReset _ _ => true
  | .wdtKick _ _ => true
  | .wdtHalf _ => true
  | .wdtSystem _ => true
  | .wdtLock _ _ => true
  | .coreWdtKick _ _ => true
  | .wdtCore _ => true
  | .outputShort _ pin => isOctet pin
  | .doubleFault _ c _ => isCode2 c
  | .submit _ ring _ => isRing ring
  | .wait _ _ _ => true
  | .yield _ => true
  | .partitionFault _ _ => true
  | .debugChallenge _ => true
  | .debugAuth _ _ _ => true
  | .debugAuthDone _ => true
  | .dmiAccess _ _ => true
  | .debugHalt _ c => isCode2 c
  | .debugMuteWrite _ _ => true
  | .endSession _ => true
  | .plicClaim _ ctx => isContext ctx
  | .plicComplete _ ctx id => isContext ctx && isOctet id
  | .gpioEdge _ u _ => isUnit u
  | .uartDataWrite _ i _ => isPair i
  | .uartDataRead _ i => isPair i
  | .uartReceive _ i _ _ => isPair i
  | .spiDataWrite _ i _ => isPair i
  | .spiDataRead _ i => isPair i
  | .i2cGo _ i _ => isPair i
  | .i2cDataAccess _ i _ _ => isPair i
  | .i2cCommandEnd _ i _ _ _ => isPair i
  | .tamperTest _ n line _ => isPair n && isCode2 line
  | .hkaStart _ => true
  | .hkaSequenceDone _ _ => true
  | .cbDataRead _ => true
  | .pcieLinkUp _ => true
  | .wfi _ core => isCode2 core
  | .meterSample _ _ _ => true
  | .guardTimeMet _ bank => isBank bank
  | .shrDetected _ lane _ _ _ => isLane lane
  | .synthRelock _ _ => true
  | .debugResume _ c => isCode2 c
  | .waitTimeout _ => true
  | .spiFrameEnd _ i _ => isPair i
  | .uartByteSent _ i => isPair i
  | .aonLoss _ => true
  | .lockAtRate _ p _ _ => isPort p
  | .aggregatedCopyDelivery _ _ _ _ _ => true
  | .lowerWordRead _ _ a => isWordAddress a

end Sys2Proof
end

