-- ==== Sys2Proof/Tests/Slice0.lean ====
section
/-! SUPPORT. The worked examples of the spec as tests, one ill-formed command for each check of WellFormed, and for every
obligation a witness that its hypotheses can be met. -/

namespace Sys2Proof.Tests
set_option Elab.async false
set_option linter.unusedVariables false
open Sys2Proof Sys2Proof.Machine

/-- The state after reset with some register fields written. -/
def st (l : List (Fld × Nat)) : State := l.foldl (fun s p => s.put p.1 p.2) State.reset

/-- A descriptor fetched from ring 0: its opcode and words 6 and 7. -/
def got (op w6 w7 : Nat) : Fetched := ⟨0, [word op, 0, 0, 0, 0, 0, word w6, word w7], []⟩

def att0 : Attempt := ⟨0, 0, 0, 0, 1, ⟨0, 0, 0, 0, 0, 0⟩, 0, none⟩
def tx0 : TxInfo where
  frame := []
  wide := false
  legacy := false
  sfIdx := 0
  crc32 := false
  power := 0
  carrier := 0
  airU := 0
  rampU := 0
  femU := 0
  first := att0
  second := att0
  pmode := 0
  arg := 0
  dstEndpoint := none
  listened := false
  rampStart := 0
  cutAt := none
  cutStatus := 0
  cutReason := 0
  cutSince := 0
  sent := 0
  doneReason := 0
def rx0 : RxInfo where
  pmode := 0
  arg := 0
  maxf := 1
  fcsFail := false
  expLanes := 0
  binFirst := 0
  binCount := 1
  closeAt := 0
  closed := false
  delivered := 0
  firmware := 0
  overMaxf := 0
  discarded := 0
  laneMiss := 0
  recovered := 0
  blankedUs := 0
  exhausted := false
  limited := false
  overload := false
  sicLimit := false
  laneTime := 0
  records := 0
  openedAt := 0
  closedAt := 0
  cell := none
def skein0 : SkeinInfo := ⟨0, false, false, 0, 0, [], 0, none, 0, none, none, 0, false, 0⟩
def flash0 : FlashInfo := ⟨2, 0x400000, [], 0, 0, 0, 0, 0, 0⟩
def item0 : Item where
  idx := 0
  seq := 0
  owner := .host
  ring := 0
  tag := 0
  opcode := 0x10
  cring := 16
  irq := false
  prio := 0
  eclass := 0
  deadline := 0
  committed := 0
  repairAt := none
  moved := false
  started := false
  startTime := 0
  decided := false
  entries := 1
  buffers := 0
  e1 := 0
  e2 := 0
  period := 0
  kind := .swap
def det0 : Detection := ⟨0, 0, 0, 0, 0, 0⟩

def rec0 : Rec := ⟨0, 0, 0, 0, 0, 0, 0, false⟩
def compl0 : Compl := ⟨16, 0, 0, 0, 0, 0, 0, 0, 0, 0, 0, false, none, false⟩
def fence0 : Fence := ⟨0, false, 0⟩
def bin0 : BinState := ⟨0, 100, 0, 0, 0, none⟩
def op0 : FlashOp := ⟨none, false, 0, 0x400000, [], 0, 0, 0, 0, 0, false, false, none⟩
def req0 (w : Nat) (w6 : Nat) : CryReq := ⟨6, got w w6 0, .slot 0, some ⟨false, 0⟩, none⟩
def ckpt0 : Ckpt := ⟨[], 0, false, 0, false, none⟩
def mark0 : Mark := ⟨false, false, false, false, 0, 1, 0, 1, 0, 0⟩
def cand0 : Cand := ⟨0, 0, false⟩
def job0 : SicJob := ⟨det0, 0, 0, none, 0, 0⟩
def campaign0 : Campaign := ⟨0, 0, 0, 0, 1, 0, 0, 0, 0, 0, 0, 0, false⟩
def emission0 : Emission := ⟨0, 0, 0, 0, 0, false, [], 0, [], []⟩
def waiting0 (k : ItemKind) : Waiting := ⟨.host, 0, [0, 0, 0, 0, 0, 0, 0, 0], k, none⟩
def buf0 : RxBuf := ⟨0, false, 0, 512⟩
def residue0 : Residue := ⟨det0, 0, none⟩
def enum0 : Enum := ⟨0, 0, 0, 0, 0, false⟩
def msg0 : SknMsg := ⟨0, false, 0, 0, 0, 0, 0, 0, []⟩
def auth0 : DebugAuth := ⟨0, [], 0, 0⟩
def wait0 : PartWait := ⟨0, 0⟩
def tagBuffer0 : TagBuffer := ⟨0, []⟩
def join0 : Join := ⟨0, 0, 0, 0⟩
/-- Three skein ports alike. -/
def ports (q : Port) : List Port := [q, q, q]
/-- Headers of payload length 20 and 0 (SF_IDX 0, CODE 0, FEC 1) with their HCRC, and a broadcast frame of device 0. -/
def hdr20 : Word := 872450560
def hdr0 : Word := 3053486080
def frame20 : List Byte := [0, 7, 0xFF, 0xFF, 0xBF, 0, 0, 0x40, 0, 0, 0, 0, 0, 0, 0, 0, 0, 0, 0, 0]
/-- A JOIN_REQUEST with CTIME 0, in the firmware queue. -/
def joinReq : FwFrame := ⟨[0x14, 4] ++ List.replicate 20 0, [], det0, 0, ⟨0, 0⟩⟩

/-! ### A distribution slot in flash -/

/-- Bytes listed from an address upward. -/
def listing : List Byte → Nat → List Host.Cell
  | [], _ => []
  | b :: r, a => (a, b) :: listing r (a + 1)

theorem listing_below (d : Nat → Byte) (bs : List Byte) (e : List Host.Cell) (a k : Nat) (h : k < a) :
    Sparse.get d (listing bs a ++ e) k = Sparse.get d e k := by
  induction bs generalizing a with
  | nil => rfl
  | cons b r ih =>
      show (if k = a then b else Sparse.get d (listing r (a + 1) ++ e) k) = _
      rw [if_neg (by omega)]; exact ih (a + 1) (by omega)

theorem listing_above (d : Nat → Byte) (bs : List Byte) (e : List Host.Cell) (a k : Nat) (h : a + bs.length ≤ k) :
    Sparse.get d (listing bs a ++ e) k = Sparse.get d e k := by
  induction bs generalizing a with
  | nil => rfl
  | cons b r ih =>
      have hl : (b :: r).length = r.length + 1 := rfl
      show (if k = a then b else Sparse.get d (listing r (a + 1) ++ e) k) = _
      rw [if_neg (by omega)]; exact ih (a + 1) (by omega)

theorem getMany_skip (d : Nat → Byte) (b : Byte) (l : List Host.Cell) (a k n : Nat) (h : a < k) :
    Sparse.getMany d ((a, b) :: l) k n = Sparse.getMany d l k n := by
  induction n generalizing k with
  | zero => rfl
  | succ n ih =>
      show (if k = a then b else Sparse.get d l k) :: _ = Sparse.get d l k :: _
      rw [if_neg (by omega), ih (k + 1) (by omega)]

theorem getMany_listing (d : Nat → Byte) (bs : List Byte) (e : List Host.Cell) (a : Nat) :
    Sparse.getMany d (listing bs a ++ e) a bs.length = bs := by
  induction bs generalizing a with
  | nil => rfl
  | cons b r ih =>
      show (if a = a then b else _) :: Sparse.getMany d ((a, b) :: (listing r (a + 1) ++ e)) (a + 1) r.length = _
      rw [if_pos rfl, getMany_skip _ _ _ _ _ _ (by omega), ih]

theorem getMany_above (d : Nat → Byte) (bs : List Byte) (e : List Host.Cell) (a k n : Nat) (h : a + bs.length ≤ k) :
    Sparse.getMany d (listing bs a ++ e) k n = Sparse.getMany d e k n := by
  induction n generalizing k with
  | zero => rfl
  | succ n ih =>
      show Sparse.get d _ k :: _ = Sparse.get d e k :: _
      rw [listing_above d bs e a k h, ih (k + 1) (by omega)]

theorem crcRefStep_lt (n r : Nat) (h : r < 2 ^ 32) : crcRefStep 0xEDB88320 n r < 2 ^ 32 := by
  induction n generalizing r with
  | zero => exact h
  | succ n ih =>
      refine ih _ ?_
      split
      · exact Nat.xor_lt_two_pow (by omega) (by omega)
      · omega

theorem crc32_lt (bs : List Byte) : crc32 bs < 2 ^ 32 := by
  have h : ∀ (l : List Byte) (r : Nat), r < 2 ^ 32 →
      l.foldl (fun r b => crcRefStep 0xEDB88320 8 (r ^^^ b.toNat)) r < 2 ^ 32 := by
    intro l
    induction l with
    | nil => exact fun r hr => hr
    | cons b l ih =>
        intro r hr
        exact ih _ (crcRefStep_lt 8 _ (Nat.xor_lt_two_pow hr (by have := b.isLt; omega)))
  exact Nat.xor_lt_two_pow (h bs _ (by decide)) (by decide)

theorem leNat_leBytes4 (n : Nat) (h : n < 2 ^ 32) : leNat (leBytes 4 n) = n := by
  simp only [leBytes, leNat, BitVec.toNat_ofNat]
  omega

/-- A manifest of one piece, and the header of distribution slot 0 that holds it. -/
def man1 : List Byte := zeros 28 ++ [1] ++ zeros 227
def hdr264 : List Byte := fit 256 man1 ++ leBytes 4 0 ++ leBytes 4 0
def slot1 : List Host.Cell := listing (headerBytes man1 0 0) 0x02000000

theorem hdr1_eq : headerBytes man1 0 0 = hdr264 ++ leBytes 4 (crc32 hdr264) := rfl
theorem hdr264_length : hdr264.length = 264 := by decide +kernel
theorem hdr1_length : (headerBytes man1 0 0).length = 268 := by
  rw [hdr1_eq, List.length_append, hdr264_length]; rfl
theorem hdr264_slice (e : List Byte) (k n : Nat) (h : k + n ≤ 264) : slice (hdr264 ++ e) k n = slice hdr264 k n := by
  simp only [slice]
  rw [List.drop_append_of_le_length (by rw [hdr264_length]; omega),
    List.take_append_of_le_length (by rw [List.length_drop, hdr264_length]; omega)]

theorem header_slot1 (s : State) (e : List Host.Cell) (h : s.flc.mem = slot1 ++ e) :
    readHeader s 0x02000000 = some (man1, 0, 0) := by
  have hb : flashBytes s 0x02000000 268 = hdr264 ++ leBytes 4 (crc32 hdr264) := by
    show Sparse.getMany _ s.flc.mem _ _ = _
    rw [h, ← hdr1_eq, ← hdr1_length]; exact getMany_listing _ _ _ _
  have h1 : slice (hdr264 ++ leBytes 4 (crc32 hdr264)) 264 4 = leBytes 4 (crc32 hdr264) := by
    simp only [slice]; rw [List.drop_left' hdr264_length]; rfl
  have h2 : (hdr264 ++ leBytes 4 (crc32 hdr264)).take 264 = hdr264 := List.take_left' hdr264_length
  have h3 : (hdr264 ++ leBytes 4 (crc32 hdr264)).take 256 = man1 :=
    (hdr264_slice _ 0 256 (by omega)).trans (by decide +kernel)
  have h4 : leNat (slice (hdr264 ++ leBytes 4 (crc32 hdr264)) 256 4) = 0 := by
    rw [hdr264_slice _ 256 4 (by omega)]; decide +kernel
  have h5 : leNat (slice (hdr264 ++ leBytes 4 (crc32 hdr264)) 260 4) = 0 := by
    rw [hdr264_slice _ 260 4 (by omega)]; decide +kernel
  simp only [readHeader, hb, h1, h2, h3, h4, h5, leNat_leBytes4 _ (crc32_lt _), if_true]

theorem target_slot1 (s : State) (e : List Host.Cell) (h : s.flc.mem = slot1 ++ e) :
    targetOf s 1 = some (distPlace 0, man1, 0) := by
  have hr := header_slot1 s e h
  show Option.map _ (readHeader s 0x02000000) = _
  rw [hr]; rfl

theorem bytes_slot1 (s : State) (e : List Host.Cell) (h : s.flc.mem = slot1 ++ e) (a n : Nat) (ha : 0x0200010C ≤ a) :
    flashBytes s a n = Sparse.getMany (fun _ => (0xFF : Byte)) e a n := by
  show Sparse.getMany _ s.flc.mem _ _ = _
  rw [h]; exact getMany_above _ _ _ _ _ _ (by rw [hdr1_length]; omega)

theorem marked_slot1 (s : State) (e : List Host.Cell) (h : s.flc.mem = slot1 ++ e) (b k : Nat) (hb : 0x0200010C ≤ b) :
    marked s b k = (Sparse.getMany (fun _ => (0xFF : Byte)) e (b + 4 * k) 4 == [0, 0, 0, 0]) := by
  rw [marked, bytes_slot1 s e h _ _ (by omega)]

theorem piece_slot1 (s : State) (e : List Host.Cell) (h : s.flc.mem = slot1 ++ e) (b : List Byte) (n : Nat)
    (hs : sourceRefusal s 0 = none) (hl : b.length = n) (ht : recTarget b = 1) (hr : recRoot b = [0, 0, 0, 0]) :
    pieceRefusal s 0 b n = none := by
  have h1 := target_slot1 s e h
  have h2 : (manRoot man1).take 4 = [0, 0, 0, 0] := by decide +kernel
  simp [pieceRefusal, hs, hl, ht, h1, h2, hr]

theorem held_slot1 (s : State) (e : List Host.Cell) (h : s.flc.mem = slot1 ++ e) (hd : marked s 0x02004000 0 = true)
    (hh : marked s 0x02002000 0 = true) : allHeld s 1 = true := by
  have h1 := target_slot1 s e h
  have h2 : manPieces man1 = 1 := by decide +kernel
  have h3 : (distPlace 0).dataMark = 0x02004000 := rfl
  have h4 : (distPlace 0).hashMark = 0x02002000 := rfl
  simp [allHeld, h1, h2, h3, h4, heldCount, hashPieces, List.range_succ, hd, hh]

theorem checked_slot1 (s : State) (e : List Host.Cell) (h : s.flc.mem = slot1 ++ e) :
    isChecked s 1 = (checkedManifest s 1 == man1) := by
  have h1 := target_slot1 s e h
  simp [isChecked, h1]

/-- The piece of a record: eight header bytes and zeros. -/
def record (k index : Nat) (n : Nat) : List Byte := [BitVec.ofNat 8 k, 1] ++ leBytes 2 index ++ zeros n
/-- The marks of slot 0's only piece. -/
def marks1 : List Host.Cell := listing [0, 0, 0, 0] 0x02002000 ++ listing [0, 0, 0, 0] 0x02004000

/-! ### The spec's own numbers -/

/-- R166, R167: the check values of the three CRCs over "123456789". -/
theorem test_crc8 : crc8 (ascii "123456789") = 0xF4 := by decide +kernel
theorem test_crc16 : crc16 (ascii "123456789") = 0x2189 := by decide +kernel
theorem test_crc32 : crc32 (ascii "123456789") = 0xCBF43926 := by decide +kernel

/-- The example header after R167: SF_IDX 2, CODE 5, LENGTH 20, FEC 1, CRC32 0, CT 1. -/
theorem test_header : phyHeader 2 5 20 true false true = 0xC8028A52 := by decide +kernel

/-- The example code before R158: SF16, code index 0, chip 0 at bit 0. -/
theorem test_code : spreadCode 0 0 = bitsOf 16 0x5A35 := by decide +kernel

/-- The example frame of R168: 20 bytes at SF64 last 80 slots. -/
theorem test_frame_time : frameU 2 20 false true = 80 * slotU := by decide +kernel

/-- The example of R229: at 2.4 V, pmax is +17.0 dBm. -/
theorem test_pmax : pmaxCode 2400 = 74 := by decide +kernel

/-- The example of R371: with SUSP_MS 4 an erase takes 34 slots, and a program of 17 pages takes 4. -/
theorem test_occupancy : occupancyU (st [(F.FLC_CFG_SUSP_MS, 4)]) 2 (eraseRunU 0x400000) = 34 * slotU ∧
    occupancyU (st [(F.FLC_CFG_SUSP_MS, 4)]) 1 (programRunU 0x400080 4096) = 4 * slotU := by decide +kernel

/-- The example of R355: 310.0 mW for 625,128 µs is 193,790 µJ. -/
theorem test_tx_energy : txEnergy (st [(F.BLW_TXCOST_VALUE 20, 3100)]) 80 625128 = 193790 := by decide +kernel

/-- The example of R404: 2,930 pieces have 92 hash pieces. -/
theorem test_hash_pieces : hashPieces 2930 = 92 := by decide +kernel

/-- The schedule of chapter 3's example: slotframe 0 of 4,096 slots, slotframe 1 of 256. -/
def mixed : State :=
  { st [(F.CLK_STATUS_REF_VALID, 1), (F.HRE_RING_CFG_SIZE_LOG2 16, 5), (F.HRE_RING_CFG_EN 16, 1), (F.MAC_DC_CFG_EN 0, 1),
      (F.RFE_RXLO_FREQ, 868000000), (F.MAC_DC_FLO_KHZ 0, 867000), (F.MAC_DC_FHI_KHZ 0, 869000), (F.MAC_DC_WIN_MAXTX 0, 1000),
      (F.MAC_DC_WIN_BUCKET_S 0, 60), (F.MAC_DC_WIN_NBUCKETS 0, 60), (F.MAC_DC_CFG_LIMIT 0, 100),
      (F.CHN_CFG_REPAIR_HORIZON, 64), (F.CHN_CFG_MIN_LEAD, 4), (F.CHN_CFG_TX_OFFSET, 64), (F.CHN_SF_CFG_EN 0 0, 1),
      (F.CHN_SF_CFG_LEN_M1 0 0, 4095), (F.CHN_SF_COUNT_CELL_COUNT 0 0, 2), (F.CHN_SF_CFG_EN 0 1, 1),
      (F.CHN_SF_CFG_LEN_M1 0 1, 255), (F.CHN_SF_FIRST_FIRST_CELL 0 1, 2), (F.CHN_SF_COUNT_CELL_COUNT 0 1, 4)] with
    now := 1000000 * slotU
    net := 1000000 * slotU
    pending := [.admission (1000000 * slotU)]
    chn.cells := [(0, 0x000480000000), (1, 0x008080000800), (2, 0x00020102000A), (3, 0x00020102002A), (4, 0x00020102008A),
      (5, 0x0002010200AA)]
    chn.awaiting := [⟨.host, 1, [0x10, 0, 0, 0, 0, 0, 0, 0],
      .tx { tx0 with arg := 0x102, airU := slotU + slotU / 2, rampU := usU 64 }, none⟩] }

/-- Descriptor A of that example: first attempt at tick 64,004,737, repair 32 slots later. -/
theorem test_mixed_schedule : (match step mixed with
    | .next r => r.items.map (fun i => (i.committed, i.repairAt))
    | _ => []) = [(64004737 * tickU, some (64006785 * tickU))] := by decide +kernel

/-- R60: QUENCH_SET sets the quench bit, and the queue's rest stays. -/
theorem test_quench : (match step { State.reset with pending := [.quenchSet 0, .nop 0] } with
    | .next r => (r.on F.HRE_QUENCH_QUENCH, r.pending)
    | _ => (false, [])) = (true, [.nop 0]) := by decide +kernel

/-- R417: a tag in a field answers REQA with ATQA 0x0044. -/
theorem test_tag_atqa : (match step { st [(F.TAG_STATUS_FIELD, 1)] with pending := [.reqa 0 false] } with
    | .next r => (r.tag.st, r.tag.answer)
    | _ => (.idle, [])) = (.ready, [0x44, 0x00]) := by decide +kernel

/-! ### The checks of WellFormed refuse an ill-formed command each -/

theorem test_wf_isBlock : Instr.wellFormed (.blockEnable 0 23) = false := by decide +kernel
theorem test_wf_isCode2 : Instr.wellFormed (.calibrationDone 0 4 0) = false := by decide +kernel
theorem test_wf_isRing : Instr.wellFormed (.ringEnable 0 24) = false := by decide +kernel
theorem test_wf_isHalf : Instr.wellFormed (.doorbell 0 0 65536) = false := by decide +kernel
theorem test_wf_isEntry : Instr.wellFormed (.lbtListen 0 8192 0) = false := by decide +kernel
theorem test_wf_isLane : Instr.wellFormed (.captureRelock 0 64 0 0) = false := by decide +kernel
theorem test_wf_isPair : Instr.wellFormed (.agcGainStep 0 2 false) = false := by decide +kernel
theorem test_wf_isEndpoint : Instr.wellFormed (.esmScrub 0 1048576 0) = false := by decide +kernel
theorem test_wf_isAlarm : Instr.wellFormed (.alarm 0 6) = false := by decide +kernel
theorem test_wf_isPort : Instr.wellFormed (.lineTest 0 3 0 0 0) = false := by decide +kernel
theorem test_wf_isLineFault : Instr.wellFormed (.lineTest 0 0 6 0 0) = false := by decide +kernel
theorem test_wf_isDistance : Instr.wellFormed (.lineTest 0 0 0 0 512) = false := by decide +kernel
theorem test_wf_isDevice : Instr.wellFormed (.eventCellReceived 0 0 false 0 0 1024 0) = false := by decide +kernel
theorem test_wf_isBank : Instr.wellFormed (.flashResume 0 5) = false := by decide +kernel
theorem test_wf_isLevel : Instr.wellFormed (.anticollision 0 3 []) = false := by decide +kernel
theorem test_wf_isWordAddress : Instr.wellFormed (.pubSubWrite 0 2 0) = false := by decide +kernel
theorem test_wf_isTimer : Instr.wellFormed (.timerTick 0 16) = false := by decide +kernel
theorem test_wf_isStrap : Instr.wellFormed (.powerOn 0 3) = false := by decide +kernel
theorem test_wf_isWake : Instr.wellFormed (.wake 0 27) = false := by decide +kernel
theorem test_wf_isCause : Instr.wellFormed (.deviceReset 0 14) = false := by decide +kernel
theorem test_wf_isOctet : Instr.wellFormed (.outputShort 0 256) = false := by decide +kernel
theorem test_wf_isContext : Instr.wellFormed (.plicClaim 0 5) = false := by decide +kernel
theorem test_wf_isUnit : Instr.wellFormed (.gpioEdge 0 8 false) = false := by decide +kernel

/-- The hypotheses of `StepRunsFrontCommand` are met, clause by clause. -/
theorem witness_StepRunsFrontCommand :
    (∃ (s : State) (c : Instr) (rest : List Instr), (s.pending = c :: rest)) ∧
    (∃ s : State, (s.pending = [])) :=
  ⟨⟨{ State.reset with pending := [(.nop 0)] }, .nop 0, [], by decide +kernel⟩,
   ⟨State.reset, by decide +kernel⟩⟩

/-- The hypotheses of `StepKeepsCanonical` are met, clause by clause. -/
theorem witness_StepKeepsCanonical :
    ∃ s t : State, (s.canonical) ∧ (step s = .next t) :=
  ⟨State.reset, _, ⟨(by unfold regsWf; decide +kernel), (by unfold memoriesWf; decide +kernel)⟩, rfl⟩

/-- The hypotheses of `CommandsKeepQueue` are met, clause by clause. -/
theorem witness_CommandsKeepQueue :
    ∃ (c : Instr) (s r : State), (exec c s = .next r) :=
  ⟨.quenchClear 5, State.reset, _, rfl⟩

/-- The hypotheses of `TimePasses` are met, clause by clause. -/
theorem witness_TimePasses :
    (∃ (s : State) (t : Nat), (s.mur.freed = []) ∧ (s.mur.residues = [])) ∧
    (∃ (s : State) (t : Nat), (s.mur.freed = []) ∧ (s.mur.residues = []) ∧ (s.mac.slew = 0) ∧ (s.get F.MAC_FREQ_EST_EST = 0) ∧ (s.mac.driftRest < 1024000000) ∧ (s.now ≤ t)) ∧
    (∃ (s : State) (t e : Nat), (s.mur.freed = []) ∧ (s.mur.residues = []) ∧ (s.mac.slew = 0) ∧ (s.get F.MAC_FREQ_EST_EST = e) ∧ (e < 2 ^ 31) ∧ (s.now ≤ t)) ∧
    (∃ (s : State) (t n : Nat), (n < 60) ∧ (lanePresent s n = true) ∧ (s.mur.freed = [n]) ∧ (s.mur.residues = []) ∧ (dspCycleOf s.now < dspCycleOf t)) :=
  ⟨⟨State.reset, 5, by decide +kernel⟩,
   ⟨State.reset, 0, by decide +kernel⟩,
   ⟨st [(F.MAC_FREQ_EST_EST, 2147483647)], 2000, 2147483647, by decide +kernel⟩,
   ⟨{ State.reset with mur.freed := [59] }, 100, 59, by decide +kernel⟩⟩

/-- The hypotheses of `RegisterAccess` are met, clause by clause. -/
theorem witness_RegisterAccess :
    (∃ (d : RegDesc) (openRwe : Bool) (old v : Word) (k : Nat), (k < 32)) ∧
    (∃ (s x : State) (t c a i : Nat) (v : Word) (d : RegDesc), (x = s.at t) ∧ (reaches x (.core c) = true) ∧ (0x40000000 ≤ a) ∧ (a < 0x40170000) ∧ (a % 4 = 0) ∧ (blockOf a ∈ [0x02, 0x06, 0x07, 0x0C]) ∧ (a ≠ Reg.BLK_CTL (blockOf a)) ∧ (regFind a = some (d, i))) ∧
    (∃ (s x : State) (t c a : Nat) (v : Word), (x = s.at t) ∧ (reaches x (.core c) = true) ∧ (0x40000000 ≤ a) ∧ (a < 0x40170000)) ∧
    (∃ (s x : State) (t c a : Nat) (v : Word) (whole : Bool), (x = s.at t) ∧ (reaches x (.core c) = true) ∧ (0x40170000 ≤ a)) ∧
    (∃ (s x : State) (t a : Nat) (v : Word), (x = s.at t)) ∧
    (∃ (s x : State) (t a : Nat) (req : Requester), (x = s.at t) ∧ (isLower64 a = true) ∧ (reaches x req = true) ∧ (a ≠ Reg.CHN_CAL_DATA)) ∧
    (∃ (s x : State) (t a : Nat) (v : Word), (x = s.at t) ∧ (reaches x .host = true) ∧ (x.pcie.d3hot = false) ∧ (0x40000000 ≤ a) ∧ (a < 0x40170000) ∧ (a % 4 = 0) ∧ (blockOf a ∈ [0x02, 0x06, 0x07, 0x0C]) ∧ (a ≠ Reg.BLK_CTL (blockOf a)) ∧ (regFind a = none)) :=
  ⟨⟨{ off := 0, rw := 1 }, false, 0, 0, 31, by decide +kernel⟩,
   by refine ⟨State.reset, _, 0, 0, Reg.PHY_CFG, 0, 0, _, rfl, ?_, ?_, ?_, ?_, ?_, ?_, rfl⟩ <;> decide +kernel,
   ⟨State.reset, _, 0, 0, 0x4016FFFF, 0, rfl, by decide +kernel⟩,
   ⟨State.reset, _, 0, 0, 0x40170000, 0, false, rfl, by decide +kernel⟩,
   ⟨State.reset, _, 0, 0, 0, rfl⟩,
   ⟨State.reset, _, 0, Reg.MUR_LANE_START 63, .host, rfl, by decide +kernel⟩,
   ⟨State.reset, _, 0, 0x400C0FFC, 0, rfl, by decide +kernel⟩⟩

/-- The hypotheses of `EnableCheck` are met, clause by clause. -/
theorem witness_EnableCheck :
    (∃ (s x : State) (t b : Nat), (x = s.at t) ∧ (b < 23) ∧ (x.en b = false) ∧ (x.on (F.BLK_BUSY b) = false)) ∧
    (∃ (s x : State) (t b : Nat), (x = s.at t) ∧ (b < 23) ∧ (x.on (F.BLK_BUSY b) = true)) ∧
    (∃ (s x : State) (t b : Nat) (f : Fault3), (x = s.at t) ∧ (b < 23) ∧ (x.en b = false) ∧ (x.on (F.BLK_BUSY b) = true) ∧ (checkWaits x b = false) ∧ (checkFault x b = some f) ∧ (f.code < 256)) :=
  ⟨⟨State.reset, _, 0, 22, rfl, by decide +kernel⟩,
   ⟨st [(F.BLK_BUSY 22, 1)], _, 0, 22, rfl, by decide +kernel⟩,
   by refine ⟨st [(F.BLK_BUSY Blk.PHY, 1)], _, 0, Blk.PHY, _, rfl, ?_, ?_, ?_, ?_, rfl, ?_⟩ <;> decide +kernel⟩

/-- The hypotheses of `EnableAndReady` are met, clause by clause. -/
theorem witness_EnableAndReady :
    (∃ (s x : State) (t b : Nat), (x = s.at t) ∧ (b < 23) ∧ (x.on (F.BLK_BUSY b) = true) ∧ (checkWaits x b = false) ∧ (checkFault x b = none)) ∧
    (∃ (s x : State) (t b : Nat), (x = s.at t) ∧ (b < 23) ∧ (x.en b = true) ∧ (enabledDependent x b = none) ∧ ((∀ i ∈ x.items, usesBlock b i = false))) ∧
    (∃ (s x : State) (t b d : Nat), (x = s.at t) ∧ (b < 23) ∧ (x.en b = true) ∧ (enabledDependent x b = some d)) ∧
    (∃ (s x : State) (t b : Nat), (x = s.at t) ∧ (b < 23) ∧ (x.en b = true) ∧ (enabledDependent x b = none) ∧ (x.items.any (usesBlock b) = true)) ∧
    (∃ (s x : State) (t : Nat), (x = s.at t) ∧ (x.en Blk.FLC = true) ∧ (x.on F.FLC_STATUS_READY = false)) ∧
    (∃ (s x : State) (t rx0 rx1 : Nat), (x = s.at t) ∧ (x.rfe.calibrating = true)) ∧
    (∃ (s x : State) (t n : Nat), (x = s.at t) ∧ (n < 16) ∧ (x.en Blk.TMB = true) ∧ (enabledDependent x Blk.TMB = none) ∧ ((∀ i ∈ x.items, usesBlock Blk.TMB i = false))) ∧
    (∃ (s x : State) (t p : Nat), (x = s.at t) ∧ (p < 3) ∧ (x.en Blk.SKN = true) ∧ (enabledDependent x Blk.SKN = none) ∧ ((∀ i ∈ x.items, usesBlock Blk.SKN i = false))) ∧
    (∃ (s x : State) (t : Nat), (x = s.at t) ∧ (x.en Blk.ESM = true) ∧ (enabledDependent x Blk.ESM = none) ∧ ((∀ i ∈ x.items, usesBlock Blk.ESM i = false))) ∧
    (∃ (s x : State) (t : Nat), (x = s.at t) ∧ (x.en Blk.FLC = true) ∧ (x.on F.FLC_STATUS_READY = false) ∧ (openRecords x.repairMap.repairCounters = [])) :=
  ⟨⟨st [(F.BLK_BUSY Blk.SYS, 1)], _, 0, Blk.SYS, rfl, by decide +kernel⟩,
   ⟨st [(F.BLK_EN (Blk.PER), 1)], _, 0, Blk.PER, rfl, by decide +kernel⟩,
   ⟨st [(F.BLK_EN Blk.HRE, 1), (F.BLK_EN (Blk.CLK), 1)], _, 0, Blk.CLK, Blk.HRE, rfl, by decide +kernel⟩,
   ⟨{ st [(F.BLK_EN Blk.CHN, 1)] with items := [item0] }, _, 0, Blk.CHN, rfl, by decide +kernel⟩,
   ⟨st [(F.BLK_EN (Blk.FLC), 1)], _, 0, rfl, by decide +kernel⟩,
   ⟨{ State.reset with rfe.calibrating := true }, _, 0, 1, 5, rfl, by decide +kernel⟩,
   ⟨st [(F.BLK_EN Blk.TMB, 1), (F.TMB_CH_STATUS_RUN 15, 1)], _, 0, 15, rfl, by decide +kernel⟩,
   ⟨st [(F.BLK_EN Blk.SKN, 1), (F.SKN_STATUS_STATE, 3), (F.SKN_PORT_STATUS_LINK 2, 2)], _, 0, 2, rfl, by decide +kernel⟩,
   ⟨{ st [(F.BLK_EN Blk.ESM, 1)] with esm.ckpt := some ckpt0 }, _, 0, rfl, by decide +kernel⟩,
   ⟨st [(F.BLK_EN (Blk.FLC), 1)], _, 0, rfl, by decide +kernel⟩⟩

/-- The hypotheses of `RingSetUp` are met, clause by clause. -/
theorem witness_RingSetUp :
    (∃ (s x : State) (t n : Nat), (x = s.at t) ∧ (n < 24) ∧ (x.on (F.HRE_RING_CFG_EN n) = false) ∧ (ringCheck x n = none)) ∧
    (∃ (s x : State) (t n c : Nat), (x = s.at t) ∧ (n < 24) ∧ (x.on (F.HRE_RING_CFG_EN n) = false) ∧ (ringCheck x n = some c)) ∧
    (∃ (s x : State) (t n : Nat), (x = s.at t) ∧ (n < 24) ∧ (x.on (F.HRE_RING_CFG_EN n) = true) ∧ (x.get (F.HRE_RING_RSV_COUNT n) = 0)) ∧
    (∃ (s x : State) (t n : Nat), (x = s.at t) ∧ (16 ≤ n) ∧ (n ≤ 20) ∧ (x.on (F.HRE_RING_CFG_EN n) = true) ∧ (0 < x.get (F.HRE_RING_RSV_COUNT n)) ∧ (x.on (F.HRE_RING_STATUS_ERR n) = false)) ∧
    (∃ (s x : State) (t n idx : Nat), (x = s.at t) ∧ (n ≤ 13) ∧ (n < x.hre.rings.length) ∧ (idx < 65536)) ∧
    (∃ (s x : State) (t n idx left : Nat), (x = s.at t) ∧ (16 ≤ n) ∧ (n ≤ 20) ∧ (n < x.hre.rings.length) ∧ (left = (x.get (F.HRE_RING_HEAD_INDEX n) + ringSize x n - idx % ringSize x n) % ringSize x n) ∧ (left ≤ (x.ring n).unreleased)) ∧
    (∃ (s x : State) (t n m : Nat), (x = s.at t) ∧ (m = x.get (F.HRE_RING_CFG_MOD_TIME n)) ∧ (0 < m) ∧ (0 < (x.ring n).sigCount) ∧ ((x.ring n).sigSince + usU (8 * m) ≤ x.now) ∧ (bits (x.get F.HRE_IER_ENABLE) n n = 1) ∧ (x.relay = false) ∧ (x.on F.CPX_CFG_MIRROR = false)) :=
  ⟨⟨st [(F.HRE_RING_CFG_SIZE_LOG2 20, 16)], _, 0, 20, rfl, by decide +kernel⟩,
   ⟨State.reset, _, 0, 13, 0x040F, rfl, by decide +kernel⟩,
   ⟨st [(F.HRE_RING_CFG_EN 20, 1), (F.HRE_RING_RSV_COUNT 20, 0)], _, 0, 20, rfl, by decide +kernel⟩,
   ⟨st [(F.HRE_RING_RSV_COUNT 20, 1), (F.HRE_RING_CFG_EN 20, 1)], _, 0, 20, rfl, by decide +kernel⟩,
   ⟨State.reset, _, 0, 13, 65535, rfl, by decide +kernel⟩,
   ⟨State.reset, _, 0, 20, 0, 0, rfl, by decide +kernel⟩,
   ⟨{ st [(F.HRE_RING_CFG_MOD_TIME 20, 15), (F.HRE_IER_ENABLE, 0xFFFFFFF)] with hre.rings := List.replicate 24 { Ring.reset with sigCount := 1 } }, _, 1000000000000000, 20, 15, rfl, by decide +kernel⟩⟩

/-- The hypotheses of `RingTraffic` are met, clause by clause. -/
theorem witness_RingTraffic :
    (∃ (s x : State) (t n : Nat) (ws d : List Word) (buf : List Byte), (x = s.at t) ∧ (nextRing x = some n) ∧ (n < x.hre.rings.length) ∧ (d = slotWords x n ws) ∧ (wbits d 0 15 15 = x.get (F.HRE_RING_HEAD_PHASE n)) ∧ ((wbits d 0 10 10 = 0 ∨ (x.ring n).openItems = 0)) ∧ (preAdmission x n d false = none)) ∧
    (∃ (s x : State) (t n : Nat) (ws : List Word) (buf : List Byte) (fail : Bool), (x = s.at t) ∧ (nextRing x = some n) ∧ (wbits (slotWords x n ws) 0 15 15 ≠ x.get (F.HRE_RING_HEAD_PHASE n))) ∧
    (∃ (s x : State) (t n : Nat) (ws : List Word) (buf : List Byte) (fail : Bool), (x = s.at t) ∧ (nextRing x = some n) ∧ (wbits (slotWords x n ws) 0 15 15 = x.get (F.HRE_RING_HEAD_PHASE n)) ∧ (wbits (slotWords x n ws) 0 10 10 = 1) ∧ (0 < (x.ring n).openItems)) ∧
    (∃ (s x : State) (t n : Nat) (c : Compl) (rest : List Compl), (x = s.at t) ∧ (canWrite x n = true) ∧ (n < x.hre.rings.length) ∧ (takeFirst (fun q => q.cring == n && mayWrite x n q) x.hre.outq = some (c, rest)) ∧ (c.sig = false) ∧ (c.item = none) ∧ (c.final = false)) ∧
    (∃ (s x : State) (t n k : Nat) (c : Compl) (rest : List Compl), (x = s.at t) ∧ (canWrite x n = true) ∧ (n < x.hre.rings.length) ∧ (takeFirst (fun q => q.cring == n && mayWrite x n q) x.hre.outq = some (c, rest)) ∧ (c.item = some k) ∧ (c.final = true) ∧ (c.ring ≠ 9) ∧ (c.ring ≠ n)) ∧
    (∃ (s x : State) (t n : Nat) (c : Compl) (rest : List Compl), (x = s.at t) ∧ (canWrite x n = true) ∧ (takeFirst (fun q => q.cring == n && mayWrite x n q) x.hre.outq = some (c, rest))) ∧
    (∃ (s x : State) (t : Nat) (q : Rec) (h : Hre), (x = s.at t) ∧ (canWrite x 20 = true) ∧ (20 < x.hre.rings.length) ∧ (nextRecord x = some (q, h)) ∧ (h.rings = x.hre.rings)) ∧
    (∃ (s x : State) (t : Nat) (q : Rec) (rest : List Rec), (x = s.at t) ∧ (x.on (F.HRE_RING_CFG_EN 20) = false) ∧ (x.hre.records = q :: rest) ∧ (q.exempt = false)) ∧
    (∃ (s x : State) (t : Nat) (linkLost : Bool), (x = s.at t) ∧ (x.relay = false)) :=
  ⟨⟨{ st [(F.BLK_EN Blk.HRE, 1), (F.HRE_RING_CFG_EN 0, 1), (F.HRE_RING_CFG_SIZE_LOG2 0, 4)] with hre.rings := List.replicate 24 { Ring.reset with db := 1 } }, _, 0, 0, [0x8001], [0x8001, 0, 0, 0, 0, 0, 0, 0], [], rfl, by decide +kernel⟩,
   ⟨{ st [(F.BLK_EN Blk.HRE, 1), (F.HRE_RING_CFG_EN 0, 1), (F.HRE_RING_CFG_SIZE_LOG2 0, 4)] with hre.rings := List.replicate 24 { Ring.reset with db := 1 } }, _, 0, 0, [], [], false, rfl, by decide +kernel⟩,
   ⟨{ st [(F.BLK_EN Blk.HRE, 1), (F.HRE_RING_CFG_EN 0, 1), (F.HRE_RING_CFG_SIZE_LOG2 0, 4), (F.HRE_RING_HEAD_PHASE 0, 1)] with hre.rings := List.replicate 24 { Ring.reset with db := 1, openItems := 1 } }, _, 0, 0, [0x8400], [], true, rfl, by decide +kernel⟩,
   ⟨{ st [(F.BLK_EN Blk.HRE, 1), (F.HRE_RING_CFG_EN 20, 1), (F.HRE_RING_CFG_SIZE_LOG2 20, 4)] with hre.outq := [{ compl0 with cring := 20 }] }, _, 0, 20, { compl0 with cring := 20 }, [], rfl, by decide +kernel⟩,
   ⟨{ st [(F.BLK_EN Blk.HRE, 1), (F.HRE_RING_CFG_EN 20, 1), (F.HRE_RING_CFG_SIZE_LOG2 20, 4)] with hre.outq := [{ compl0 with cring := 20, item := some 7, final := true, sig := true }], items := [{ item0 with idx := 7 }] }, _, 0, 20, 7, { compl0 with cring := 20, item := some 7, final := true, sig := true }, [], rfl, by decide +kernel⟩,
   ⟨{ st [(F.BLK_EN Blk.HRE, 1), (F.HRE_RING_CFG_EN 16, 1), (F.HRE_RING_CFG_SIZE_LOG2 16, 4)] with hre.outq := [{ compl0 with cring := 16 }] }, _, 0, 16, { compl0 with cring := 16 }, [], rfl, by decide +kernel⟩,
   ⟨{ st [(F.BLK_EN Blk.HRE, 1), (F.HRE_RING_CFG_EN 20, 1), (F.HRE_RING_CFG_SIZE_LOG2 20, 4)] with hre.records := [rec0], hre.lossCount := 0 }, _, 0, rec0, _, rfl, by decide +kernel, by decide +kernel, rfl, by decide +kernel⟩,
   ⟨{ State.reset with hre.records := [({ rec0 with exempt := false })] }, _, 0, { rec0 with exempt := false }, [], rfl, by decide +kernel⟩,
   ⟨State.reset, _, 0, false, rfl, by decide +kernel⟩⟩

/-- The hypotheses of `ControlCommands` are met, clause by clause. -/
theorem witness_ControlCommands :
    (∃ (s x : State) (t : Nat) (f : Fetched) (rest : List Fetched), (x = s.at t) ∧ (takeTurn (fun g => wbits g.words 0 7 0 == 1) (busyRings x) x.hre.fetched = some (f, rest))) ∧
    (∃ (s x : State) (t : Nat) (f : Fetched) (rest : List Fetched) (i : Item), (x = s.at t) ∧ (takeTurn (fun g => wbits g.words 0 7 0 == 2) (busyRings x) x.hre.fetched = some (f, rest)) ∧ (x.items.find? (fun i => i.owner == .host && i.ring == wbits f.words 6 7 0 && i.tag == wbits f.words 7 15 0 && !i.decided && !i.started) = some i)) ∧
    (∃ (s x : State) (t : Nat) (f : Fetched) (rest : List Fetched), (x = s.at t) ∧ (takeTurn (fun g => wbits g.words 0 7 0 == 2) (busyRings x) x.hre.fetched = some (f, rest)) ∧ (x.items.find? (fun i => i.owner == .host && i.ring == wbits f.words 6 7 0 && i.tag == wbits f.words 7 15 0 && !i.decided && !i.started) = none)) ∧
    (∃ (s x : State) (t : Nat) (f : Fetched) (rest : List Fetched), (x = s.at t) ∧ (takeTurn (fun g => wbits g.words 0 7 0 == 5) (busyRings x) x.hre.fetched = some (f, rest))) ∧
    (∃ (s x : State) (t : Nat) (f : Fence) (rest : List Fence), (x = s.at t) ∧ (x.hre.fences = f :: rest) ∧ ((∀ i ∈ x.items, i.owner = .host → f.before ≤ i.seq))) ∧
    (∃ (s x : State) (t : Nat) (f : Fetched) (rest : List Fetched), (x = s.at t) ∧ (takeTurn (fun g => wbits g.words 0 7 0 == 0x21) (busyRings x) x.hre.fetched = some (f, rest))) ∧
    (∃ (s x : State) (t : Nat) (f : Fetched) (rest : List Fetched), (x = s.at t) ∧ (takeTurn (fun g => wbits g.words 0 7 0 == 4) (busyRings x) x.hre.fetched = some (f, rest))) ∧
    (∃ (s x : State) (t : Nat), (x = s.at t) ∧ (x.on F.HRE_QUENCH_QUENCH = false)) ∧
    (∃ (s x : State) (t : Nat), (x = s.at t) ∧ (x.on F.HRE_QUENCH_QUENCH = true)) :=
  ⟨⟨{ State.reset with hre.fetched := [got 1 0 0] }, _, 0, got 1 0 0, [], rfl, by decide +kernel⟩,
   ⟨{ State.reset with items := [item0], hre.fetched := [got 2 0 0] }, _, 0, got 2 0 0, [], item0, rfl, by decide +kernel⟩,
   ⟨{ State.reset with hre.fetched := [got 2 0 0] }, _, 0, got 2 0 0, [], rfl, by decide +kernel⟩,
   ⟨{ State.reset with hre.fetched := [got 5 0 0] }, _, 0, got 5 0 0, [], rfl, by decide +kernel⟩,
   ⟨{ State.reset with items := [item0], hre.fences := [fence0] }, _, 0, fence0, [], rfl, by decide +kernel⟩,
   ⟨{ State.reset with hre.fetched := [got 0x21 0 0] }, _, 0, got 0x21 0 0, [], rfl, by decide +kernel⟩,
   ⟨{ State.reset with hre.fetched := [got 4 0 0] }, _, 0, got 4 0 0, [], rfl, by decide +kernel⟩,
   ⟨State.reset, _, 0, rfl, by decide +kernel⟩,
   ⟨st [(F.HRE_QUENCH_QUENCH, 1)], _, 0, rfl, by decide +kernel⟩⟩

/-- The hypotheses of `AdmissionDecides` are met, clause by clause. -/
theorem witness_AdmissionDecides :
    (∃ (s x : State) (t c : Nat) (w : Waiting) (rest : List Waiting), (x = s.at t) ∧ (x.clk.sysUnlocked = none) ∧ (x.chn.awaiting = w :: rest) ∧ (w.owner = .host) ∧ ((∀ k, w.kind ≠ .skein k)) ∧ (gate x false = some c)) ∧
    (∃ (s x y : State) (t idx : Nat) (w : Waiting) (rest : List Waiting) (z : TxInfo) (c p : Pos) (e : Bool × Nat × Nat), (x = s.at t) ∧ (x.clk.sysUnlocked = none) ∧ (x.chn.awaiting = w :: rest) ∧ (y = { x with chn := { x.chn with awaiting := rest } }) ∧ (w.owner = .host) ∧ (w.kind = .tx z) ∧ (gate y false = none) ∧ (debugMuted y = false) ∧ (parentTest y w = none) ∧ (tableFull y true (wbits w.words 1 17 16) = false) ∧ (w.ring < 32) ∧ (wbits w.words 0 9 9 = 0) ∧ (1 ≤ freeSpace y (16 + wbits w.words 0 12 11) w.ring) ∧ (freeIndex y 0 4096 = some idx) ∧ (((reqOf w).pmode = 3 → (reqOf w).deadline ≠ 0)) ∧ (unreachable y (reqOf w).deadline = false) ∧ ((searchItem y (reqOf w)).pair = some (c, p)) ∧ (dutyTest y (placeAttempt y z c).charge (placeAttempt y z p).charge = none) ∧ (e = chargesOf y 0 (.tx { z with first := placeAttempt y z c, second := placeAttempt y z p })) ∧ (bellows y (wbits w.words 1 19 18) (periodOf y (y.localOf c.start)) e.1 e.2.1 e.2.2 = none)) ∧
    (∃ (s x y : State) (t idx : Nat) (w : Waiting) (rest : List Waiting) (z : RxInfo) (c p : Pos) (e : Bool × Nat × Nat), (x = s.at t) ∧ (x.clk.sysUnlocked = none) ∧ (x.chn.awaiting = w :: rest) ∧ (y = { x with chn := { x.chn with awaiting := rest } }) ∧ (w.owner = .host) ∧ (w.kind = .rx z) ∧ (gate y false = none) ∧ (parentTest y w = none) ∧ (tableFull y false (wbits w.words 1 17 16) = false) ∧ (w.ring < 32) ∧ (wbits w.words 0 9 9 = 0) ∧ (z.maxf + 1 ≤ freeSpace y (16 + wbits w.words 0 12 11) w.ring) ∧ (z.maxf ≤ y.hre.buffers.length - reservedBuffers y) ∧ (freeIndex y 4096 4096 = some idx) ∧ (((reqOf w).pmode = 3 → (reqOf w).deadline ≠ 0)) ∧ (unreachable y (reqOf w).deadline = false) ∧ ((searchItem y (reqOf w)).pair = some (c, p)) ∧ (e = chargesOf y (c.closeAt - c.start) (.rx z)) ∧ (bellows y (wbits w.words 1 19 18) (periodOf y (y.localOf c.start)) e.1 e.2.1 e.2.2 = none)) :=
  ⟨⟨{ st [(F.CHN_STATUS_FAULT, 1)] with chn.awaiting := [({ (waiting0 .swap) with owner := .host })] }, _, 0, 0x0807, { (waiting0 .swap) with owner := .host }, [], rfl, by decide +kernel, by decide +kernel, by decide +kernel, (by intro k h; cases h), by decide +kernel⟩,
   by refine ⟨{ st [(F.CLK_STATUS_REF_VALID, 1), (F.HRE_RING_CFG_SIZE_LOG2 16, 5), (F.MAC_DC_CFG_EN 15, 1), (F.RFE_RXLO_FREQ, 868000000), (F.MAC_DC_FLO_KHZ 15, 867000), (F.MAC_DC_FHI_KHZ 15, 869000), (F.MAC_DC_WIN_MAXTX 15, 10), (F.MAC_DC_WIN_BUCKET_S 15, 60), (F.MAC_DC_WIN_NBUCKETS 15, 60), (F.MAC_DC_CFG_LIMIT 15, 10), (F.CHN_CFG_REPAIR_HORIZON, 4)] with chn.awaiting := [⟨.host, 1, [0x10, 0, word (slotU * 10), 0, 0, 0, 0, 0], .tx { tx0 with pmode := 3, airU := slotU }, none⟩] }, _, _, 0, 0, ⟨.host, 1, [0x10, 0, word (slotU * 10), 0, 0, 0, 0, 0], .tx { tx0 with pmode := 3, airU := slotU }, none⟩, [], { tx0 with pmode := 3, airU := slotU }, _, _, _, rfl, ?_, ?_, rfl, ?_, ?_, ?_, ?_, ?_, ?_, ?_, ?_, ?_, ?_, ?_, ?_, rfl, ?_, rfl, ?_⟩ <;> decide +kernel,
   by refine ⟨{ st [(F.CLK_STATUS_REF_VALID, 1), (F.HRE_RING_CFG_SIZE_LOG2 16, 5), (F.CHN_CFG_RX_LIMIT, 1)] with chn.awaiting := [⟨.host, 1, [0x20, 0, word (slotU * 10), 0, 0, 0, 0, 0], .rx { rx0 with pmode := 3, closeAt := 1 }, none⟩], hre.buffers := [buf0] }, _, _, 0, 4096, ⟨.host, 1, [0x20, 0, word (slotU * 10), 0, 0, 0, 0, 0], .rx { rx0 with pmode := 3, closeAt := 1 }, none⟩, [], { rx0 with pmode := 3, closeAt := 1 }, _, _, _, rfl, ?_, ?_, rfl, ?_, ?_, ?_, ?_, ?_, ?_, ?_, ?_, ?_, ?_, ?_, ?_, rfl, rfl, ?_⟩ <;> decide +kernel⟩

/-- The hypotheses of `BankSwaps` are met, clause by clause. -/
theorem witness_BankSwaps :
    (∃ (s x y : State) (t dl idx : Nat) (f : Fetched) (rest : List Fetched), (x = s.at t) ∧ (takeTurn (fun g => wbits g.words 0 7 0 == 3) (busyRings x) x.hre.fetched = some (f, rest)) ∧ (y = { x with hre := { x.hre with fetched := rest } }) ∧ (dl = wordAt f.words 2 + wordAt f.words 3 * 2 ^ 32) ∧ (chnHeld x = false) ∧ (x.chn.crossing = []) ∧ (y.en Blk.CHN = true) ∧ (y.on F.CHN_STATUS_FAULT = false) ∧ (dl % slotU = 0) ∧ (tMin y ≤ dl) ∧ (dl < horizonEnd y) ∧ (y.on F.CHN_STATUS_SWAP_PENDING = false) ∧ (bankCheck y (1 - y.get F.CHN_STATUS_ACTIVE_BANK) = none) ∧ (strandedItem y (1 - y.get F.CHN_STATUS_ACTIVE_BANK) (asn dl) = none) ∧ (tableFull y false (wbits f.words 1 17 16) = false) ∧ (freeIndex y 4096 4096 = some idx)) ∧
    (∃ (s x y : State) (t dl : Nat) (f : Fetched) (rest : List Fetched), (x = s.at t) ∧ (takeTurn (fun g => wbits g.words 0 7 0 == 3) (busyRings x) x.hre.fetched = some (f, rest)) ∧ (y = { x with hre := { x.hre with fetched := rest } }) ∧ (dl = wordAt f.words 2 + wordAt f.words 3 * 2 ^ 32) ∧ (chnHeld x = false) ∧ (x.chn.crossing = []) ∧ (y.en Blk.CHN = true) ∧ (y.on F.CHN_STATUS_FAULT = false) ∧ (dl % slotU = 0) ∧ (tMin y ≤ dl) ∧ (dl < horizonEnd y) ∧ (y.on F.CHN_STATUS_SWAP_PENDING = true)) ∧
    (∃ (s x : State) (t : Nat) (i : Item), (x = s.at t) ∧ (x.items.find? (fun i => i.kind == .swap && !i.decided && decide (i.committed ≤ x.net)) = some i) ∧ (x.item i.idx = some i) ∧ (i.owner = .host)) ∧
    (∃ (s x : State) (t : Nat) (v : Word), (x = s.at t) ∧ (x.en Blk.CHN = false)) ∧
    (∃ (s x : State) (t : Nat) (v : Word), (x = s.at t) ∧ (x.en Blk.CHN = true) ∧ (cellInBank x (x.get F.CHN_STATUS_ACTIVE_BANK) (x.get F.CHN_CELL_IDX_IDX) = true)) :=
  ⟨⟨{ st [(F.BLK_EN Blk.CHN, 1)] with hre.fetched := [⟨0, [3, 0, word (slotU * 100), 0, 0, 0, 0, 0], []⟩] }, _, _, 0, slotU * 100, 4096, ⟨0, [3, 0, word (slotU * 100), 0, 0, 0, 0, 0], []⟩, [], rfl, by decide +kernel, rfl, by decide +kernel⟩,
   ⟨{ st [(F.BLK_EN Blk.CHN, 1), (F.CHN_STATUS_SWAP_PENDING, 1)] with hre.fetched := [⟨0, [3, 0, word (slotU * 100), 0, 0, 0, 0, 0], []⟩] }, _, _, 0, slotU * 100, ⟨0, [3, 0, word (slotU * 100), 0, 0, 0, 0, 0], []⟩, [], rfl, by decide +kernel, rfl, by decide +kernel⟩,
   ⟨{ State.reset with items := [item0] }, _, 1000000000000000, item0, rfl, by decide +kernel⟩,
   ⟨State.reset, _, 0, 0, rfl, by decide +kernel⟩,
   ⟨st [(F.CHN_SF_CFG_EN 0 7, 1), (F.CHN_SF_COUNT_CELL_COUNT 0 7, 1), (F.BLK_EN (Blk.CHN), 1)], _, 0, 0, rfl, by decide +kernel⟩⟩

/-- The hypotheses of `ScheduleEvents` are met, clause by clause. -/
theorem witness_ScheduleEvents :
    (∃ (s x : State) (t : Nat), (x = s.at t) ∧ (x.chn.lastSlot < asn x.net) ∧ (x.rfe.bandRx = false)) ∧
    (∃ (s x : State) (t : Nat), (x = s.at t) ∧ (x.en Blk.CHN = true) ∧ (x.on F.CHN_STATUS_FAULT = false) ∧ (x.chn.restoring = false) ∧ (x.items = []) ∧ (x.rfe.onAir = none) ∧ ((recentMismatches x).length < 2) ∧ (x.get F.CHN_MISMATCH_COUNT < 65535)) ∧
    (∃ (s x : State) (t : Nat), (x = s.at t) ∧ (x.en Blk.CHN = true) ∧ (x.on F.CHN_STATUS_FAULT = false) ∧ (x.chn.restoring = true)) ∧
    (∃ (s x : State) (t : Nat), (x = s.at t) ∧ (x.chn.restoring = true)) ∧
    (∃ (s x : State) (t : Nat) (cell : Option Nat), (x = s.at t)) ∧
    (∃ (s x : State) (t : Nat), (x = s.at t)) :=
  ⟨⟨State.reset, _, slotU, rfl, by decide +kernel⟩,
   ⟨st [(F.BLK_EN (Blk.CHN), 1)], _, 0, rfl, by decide +kernel⟩,
   ⟨{ st [(F.BLK_EN (Blk.CHN), 1)] with chn.restoring := true }, _, 0, rfl, by decide +kernel⟩,
   ⟨{ State.reset with chn.restoring := true }, _, 0, rfl, by decide +kernel⟩,
   ⟨State.reset, _, 0, some 3, rfl⟩,
   ⟨State.reset, _, 0, rfl⟩⟩

/-- The hypotheses of `TimeAndRegion` are met, clause by clause. -/
theorem witness_TimeAndRegion :
    (∃ (s x : State) (t v : Nat) (f : Fetched) (rest : List Fetched), (x = s.at t) ∧ (takeTurn (fun g => wbits g.words 0 7 0 == 6 && wbits g.words 6 0 0 == 0) (busyRings x) x.hre.fetched = some (f, rest)) ∧ (x.get F.MAC_CFG_TIME_SRC = 0) ∧ (x.items = []) ∧ (v = leNat (f.buf.take 8))) ∧
    (∃ (s x : State) (t : Nat) (f : Fetched) (rest : List Fetched), (x = s.at t) ∧ (takeTurn (fun g => wbits g.words 0 7 0 == 6 && wbits g.words 6 0 0 == 0) (busyRings x) x.hre.fetched = some (f, rest)) ∧ (x.get F.MAC_CFG_TIME_SRC = 0) ∧ (x.items ≠ [])) ∧
    (∃ (s x : State) (t : Nat) (f : Fetched) (rest : List Fetched), (x = s.at t) ∧ (takeTurn (fun g => wbits g.words 0 7 0 == 6 && wbits g.words 6 0 0 == 1) (busyRings x) x.hre.fetched = some (f, rest)) ∧ (x.get F.MAC_CFG_TIME_SRC = 0)) ∧
    (∃ (s x : State) (t : Nat) (f : Fetched) (rest : List Fetched), (x = s.at t) ∧ (takeTurn (fun g => wbits g.words 0 7 0 == 6 && wbits g.words 6 0 0 == 1) (busyRings x) x.hre.fetched = some (f, rest)) ∧ (x.get F.MAC_CFG_TIME_SRC ≠ 0)) ∧
    (∃ (s x : State) (t : Nat), (x = s.at t) ∧ (x.en Blk.MAC = false) ∧ (x.on (F.BLK_BUSY Blk.MAC) = false)) :=
  ⟨⟨{ st [(F.MAC_CFG_TIME_SRC, 0)] with hre.fetched := [got 6 0 0] }, _, 0, 0, got 6 0 0, [], rfl, by decide +kernel⟩,
   ⟨{ st [(F.MAC_CFG_TIME_SRC, 0)] with items := [item0], hre.fetched := [got 6 0 0] }, _, 0, got 6 0 0, [], rfl, by decide +kernel⟩,
   ⟨{ st [(F.MAC_CFG_TIME_SRC, 0)] with hre.fetched := [got 6 1 0] }, _, 0, got 6 1 0, [], rfl, by decide +kernel⟩,
   ⟨{ st [(F.MAC_CFG_TIME_SRC, 1)] with hre.fetched := [got 6 1 0] }, _, 0, got 6 1 0, [], rfl, by decide +kernel⟩,
   ⟨State.reset, _, 0, rfl, by decide +kernel⟩⟩

/-- The hypotheses of `NativeTransmit` are met, clause by clause. -/
theorem witness_NativeTransmit :
    (∃ (s x y y2 : State) (t err : Nat) (f : Fetched) (rest : List Fetched) (n : NativeReq), (x = s.at t) ∧ (takeTurn (fun g => wbits g.words 0 7 0 == 0x10) (busyRings x) x.hre.fetched = some (f, rest)) ∧ (y = { x with hre := { x.hre with fetched := rest } }) ∧ (frameRequest f false = .inl n) ∧ (nativeUp y = none) ∧ (nativeRefusal y f.words n = none) ∧ (y2 = y.readDst n err) ∧ (entryRefusal y2 n = none) ∧ (keyRefusal y2 n = none) ∧ (counterRefusal y2 n = none)) ∧
    (∃ (s x y : State) (t : Nat) (f : Fetched) (rest : List Fetched) (n : NativeReq), (x = s.at t) ∧ (takeTurn (fun g => wbits g.words 0 7 0 == 0x12) (busyRings x) x.hre.fetched = some (f, rest)) ∧ (y = { x with hre := { x.hre with fetched := rest } }) ∧ (beaconRequest f = .inl n) ∧ (nativeUp y = none) ∧ (nativeRefusal y f.words n = none) ∧ (entryRefusal y n = none) ∧ (keyRefusal y n = none) ∧ (counterRefusal y n = none)) ∧
    (∃ (s x y : State) (t : Nat) (f : Fetched) (rest : List Fetched) (n : NativeReq), (x = s.at t) ∧ (takeTurn (fun g => wbits g.words 0 7 0 == 0x13) (busyRings x) x.hre.fetched = some (f, rest)) ∧ (y = { x with hre := { x.hre with fetched := rest } }) ∧ (ackBeaconRequest f = .inl n) ∧ (nativeUp y = none) ∧ (nativeRefusal y f.words n = none) ∧ (entryRefusal y n = none) ∧ (keyRefusal y n = none) ∧ (counterRefusal y n = none)) ∧
    (∃ (s x y y2 : State) (t err : Nat) (f : Fetched) (rest : List Fetched) (n : NativeReq), (x = s.at t) ∧ (takeTurn (fun g => wbits g.words 0 7 0 == 0x14) (busyRings x) x.hre.fetched = some (f, rest)) ∧ (y = { x with hre := { x.hre with fetched := rest } }) ∧ (frameRequest f true = .inl n) ∧ (nativeUp y = none) ∧ (nativeRefusal y f.words n = none) ∧ (y2 = y.readDst n err) ∧ (entryRefusal y2 n = none) ∧ (keyRefusal y2 n = none) ∧ (counterRefusal y2 n = none)) :=
  ⟨⟨{ st [(F.BLK_EN Blk.CHN, 1), (F.BLK_EN Blk.RFE, 1), (F.RFE_STATUS_CAL_DONE, 1), (F.RFE_CFG_TX_EN, 1), (F.BLK_EN Blk.MAC, 1), (F.RFE_RXLO_FREQ, 868300000), (F.MAC_CFG_LINK_SLOT, 5), (F.MAC_DRONE_BEACON_SLOT, 5), (F.CRY_SLOT_ATTR_VALID 5, 1), (F.CRY_SLOT_ATTR_LIMIT_LOG2 5, 48), (F.CRY_SLOT_ATTR_MODES 5, 0xFF), (F.ESM_CFG_MASTER_SLOT, 5), (F.ESM_BANKS_ON, 0xFFFFFFFF)] with mac.txfcLimit := 65536, hre.fetched := [⟨0, [0x10, 7, 0, 0, 0, 0, 0, 0], [0, 2, 0, 0, 0, 0, 0]⟩] }, _, _, _, 0, 0, ⟨0, [0x10, 7, 0, 0, 0, 0, 0, 0], [0, 2, 0, 0, 0, 0, 0]⟩, [], _, rfl, by decide +kernel, rfl, rfl, by decide +kernel, by decide +kernel, rfl, by decide +kernel⟩,
   ⟨{ st [(F.BLK_EN Blk.CHN, 1), (F.BLK_EN Blk.RFE, 1), (F.RFE_STATUS_CAL_DONE, 1), (F.RFE_CFG_TX_EN, 1), (F.BLK_EN Blk.MAC, 1), (F.RFE_RXLO_FREQ, 868300000), (F.MAC_CFG_LINK_SLOT, 5), (F.MAC_DRONE_BEACON_SLOT, 5), (F.CRY_SLOT_ATTR_VALID 5, 1), (F.CRY_SLOT_ATTR_LIMIT_LOG2 5, 48), (F.CRY_SLOT_ATTR_MODES 5, 0xFF), (F.ESM_CFG_MASTER_SLOT, 5), (F.ESM_BANKS_ON, 0xFFFFFFFF)] with mac.txfcLimit := 65536, hre.fetched := [got 0x12 0 0] }, _, _, 0, got 0x12 0 0, [], _, rfl, by decide +kernel, rfl, rfl, by decide +kernel⟩,
   ⟨{ st [(F.BLK_EN Blk.CHN, 1), (F.BLK_EN Blk.RFE, 1), (F.RFE_STATUS_CAL_DONE, 1), (F.RFE_CFG_TX_EN, 1), (F.BLK_EN Blk.MAC, 1), (F.RFE_RXLO_FREQ, 868300000), (F.MAC_CFG_LINK_SLOT, 5), (F.MAC_DRONE_BEACON_SLOT, 5), (F.CRY_SLOT_ATTR_VALID 5, 1), (F.CRY_SLOT_ATTR_LIMIT_LOG2 5, 48), (F.CRY_SLOT_ATTR_MODES 5, 0xFF), (F.ESM_CFG_MASTER_SLOT, 5), (F.ESM_BANKS_ON, 0xFFFFFFFF)] with mac.txfcLimit := 65536, hre.fetched := [⟨0, [0x13, 11, 0, 0, 0, 0, 0, 0], [0, 0, 0, 0, 0, 0, 0, 0, 0, 0, 0]⟩] }, _, _, 0, ⟨0, [0x13, 11, 0, 0, 0, 0, 0, 0], [0, 0, 0, 0, 0, 0, 0, 0, 0, 0, 0]⟩, [], _, rfl, by decide +kernel, rfl, rfl, by decide +kernel⟩,
   ⟨{ st [(F.BLK_EN Blk.CHN, 1), (F.BLK_EN Blk.RFE, 1), (F.RFE_STATUS_CAL_DONE, 1), (F.RFE_CFG_TX_EN, 1), (F.BLK_EN Blk.MAC, 1), (F.RFE_RXLO_FREQ, 868300000), (F.MAC_CFG_LINK_SLOT, 5), (F.MAC_DRONE_BEACON_SLOT, 5), (F.CRY_SLOT_ATTR_VALID 5, 1), (F.CRY_SLOT_ATTR_LIMIT_LOG2 5, 48), (F.CRY_SLOT_ATTR_MODES 5, 0xFF), (F.ESM_CFG_MASTER_SLOT, 5), (F.ESM_BANKS_ON, 0xFFFFFFFF), (F.RFE_FIR_CTL_PASS, 1)] with mac.txfcLimit := 65536, hre.fetched := [⟨0, [0x14, 7, 0, 0, 0, 0, 0, 0], [0, 2, 0, 0, 0, 0, 0]⟩] }, _, _, _, 0, 0, ⟨0, [0x14, 7, 0, 0, 0, 0, 0, 0], [0, 2, 0, 0, 0, 0, 0]⟩, [], _, rfl, by decide +kernel, rfl, rfl, by decide +kernel, by decide +kernel, rfl, by decide +kernel⟩⟩

/-- The hypotheses of `RadioDescriptors` are met, clause by clause. -/
theorem witness_RadioDescriptors :
    (∃ (s x y : State) (t c err : Nat) (f : Fetched) (rest : List Fetched), (x = s.at t) ∧ (takeTurn (fun g => wbits g.words 0 7 0 == 0x10) (busyRings x) x.hre.fetched = some (f, rest)) ∧ (y = { x with hre := { x.hre with fetched := rest } }) ∧ (nativeUp y = some c)) ∧
    (∃ (s x y : State) (t : Nat) (f : Fetched) (rest : List Fetched), (x = s.at t) ∧ (takeTurn (fun g => wbits g.words 0 7 0 == 0x11) (busyRings x) x.hre.fetched = some (f, rest)) ∧ (y = { x with hre := { x.hre with fetched := rest } }) ∧ (radioRefusal y true = none) ∧ (refusal154 y f.words = none)) ∧
    (∃ (s x y : State) (t : Nat) (f : Fetched) (rest : List Fetched), (x = s.at t) ∧ (takeTurn (fun g => wbits g.words 0 7 0 == 0x20) (busyRings x) x.hre.fetched = some (f, rest)) ∧ (y = { x with hre := { x.hre with fetched := rest } }) ∧ (radioRefusal y false = none) ∧ (rxRefusal y f.words = none)) ∧
    (∃ (s x : State) (t p : Nat), (x = s.at t) ∧ (x.en Blk.MAC = true) ∧ (x.on F.MAC_DRONE_AUTO = true) ∧ (x.get F.MAC_SYNC_STATUS_STATE ≠ 1) ∧ (p = asn x.net / 2 ^ x.get F.MAC_DRONE_PERIOD_LOG2 + 1) ∧ (x.mac.beaconFor < p) ∧ (nativeUp x = none) ∧ (keyRefusal x (droneRequest x) = none) ∧ (counterRefusal x (droneRequest x) = none)) ∧
    (∃ (s x : State) (t : Nat), (x = s.at t) ∧ (x.en Blk.MAC = true) ∧ (asn x.net / 2 ^ x.get F.MAC_DRONE_PERIOD_LOG2 + 1 ≤ x.mac.beaconFor)) :=
  ⟨⟨{ State.reset with hre.fetched := [got 0x10 0 0] }, _, _, 0, 0x08F0, 2, got 0x10 0 0, [], rfl, by decide +kernel, rfl, by decide +kernel⟩,
   ⟨{ st [(F.BLK_EN Blk.CHN, 1), (F.BLK_EN Blk.RFE, 1), (F.RFE_STATUS_CAL_DONE, 1), (F.RFE_CFG_TX_EN, 1), (F.BLK_EN Blk.MAC, 1), (F.RFE_RXLO_FREQ, 868300000), (F.MAC_CFG_LINK_SLOT, 5), (F.MAC_DRONE_BEACON_SLOT, 5), (F.CRY_SLOT_ATTR_VALID 5, 1), (F.CRY_SLOT_ATTR_LIMIT_LOG2 5, 48), (F.CRY_SLOT_ATTR_MODES 5, 0xFF), (F.ESM_CFG_MASTER_SLOT, 5), (F.ESM_BANKS_ON, 0xFFFFFFFF)] with hre.fetched := [got 0x11 0 0] }, _, _, 0, got 0x11 0 0, [], rfl, by decide +kernel, rfl, by decide +kernel⟩,
   ⟨{ st [(F.BLK_EN Blk.CHN, 1), (F.BLK_EN Blk.RFE, 1), (F.RFE_STATUS_CAL_DONE, 1), (F.RFE_CFG_TX_EN, 1), (F.BLK_EN Blk.MAC, 1), (F.RFE_RXLO_FREQ, 868300000), (F.MAC_CFG_LINK_SLOT, 5), (F.MAC_DRONE_BEACON_SLOT, 5), (F.CRY_SLOT_ATTR_VALID 5, 1), (F.CRY_SLOT_ATTR_LIMIT_LOG2 5, 48), (F.CRY_SLOT_ATTR_MODES 5, 0xFF), (F.ESM_CFG_MASTER_SLOT, 5), (F.ESM_BANKS_ON, 0xFFFFFFFF), (F.BLK_EN Blk.MUR, 1), (F.BLK_EN Blk.PHY, 1), (F.MUR_CAP_LANES, 64)] with hre.fetched := [got 0x20 0x01000200 0x80000001] }, _, _, 0, got 0x20 0x01000200 0x80000001, [], rfl, by decide +kernel, rfl, by decide +kernel⟩,
   ⟨{ st [(F.BLK_EN Blk.CHN, 1), (F.BLK_EN Blk.RFE, 1), (F.RFE_STATUS_CAL_DONE, 1), (F.RFE_CFG_TX_EN, 1), (F.BLK_EN Blk.MAC, 1), (F.RFE_RXLO_FREQ, 868300000), (F.MAC_CFG_LINK_SLOT, 5), (F.MAC_DRONE_BEACON_SLOT, 5), (F.CRY_SLOT_ATTR_VALID 5, 1), (F.CRY_SLOT_ATTR_LIMIT_LOG2 5, 48), (F.CRY_SLOT_ATTR_MODES 5, 0xFF), (F.ESM_CFG_MASTER_SLOT, 5), (F.ESM_BANKS_ON, 0xFFFFFFFF), (F.BLK_EN (Blk.MAC), 1), (F.MAC_DRONE_AUTO, 1)] with mac.txfcLimit := 65536 }, _, 0, 1, rfl, by decide +kernel⟩,
   ⟨{ st [(F.BLK_EN (Blk.MAC), 1)] with mac.beaconFor := 1 }, _, 0, rfl, by decide +kernel⟩⟩

/-- The hypotheses of `TransmitRuns` are met, clause by clause. -/
theorem witness_TransmitRuns :
    (∃ (s x : State) (t idx : Nat) (dbm : Int) (i : Item) (y : TxInfo), (x = s.at t) ∧ (x.item idx = some i) ∧ (i.kind = .tx y) ∧ (i.decided = false) ∧ (i.started = false) ∧ ((i.attempt y).listenUs ≠ 0) ∧ ((i.attempt y).time ≤ x.net + (usU (i.attempt y).listenUs + y.femU + y.rampU)) ∧ (-(x.get (F.MAC_DC_LBT_THRESH (i.attempt y).charge.acct) : Int) < dbm) ∧ (i.moved = false) ∧ (i.repairAt.isSome = true)) ∧
    (∃ (s x : State) (t idx : Nat) (dbm : Int) (i : Item) (y : TxInfo), (x = s.at t) ∧ (x.item idx = some i) ∧ (i.kind = .tx y) ∧ (i.decided = false) ∧ (i.started = false) ∧ ((i.attempt y).listenUs ≠ 0) ∧ ((i.attempt y).time ≤ x.net + (usU (i.attempt y).listenUs + y.femU + y.rampU)) ∧ (dbm ≤ -(x.get (F.MAC_DC_LBT_THRESH (i.attempt y).charge.acct) : Int))) ∧
    (∃ (s x : State) (t idx : Nat) (i : Item) (y : TxInfo), (x = s.at t) ∧ (x.item idx = some i) ∧ (i.kind = .tx y) ∧ (isDue x i = true) ∧ (dueVoid x = none) ∧ (debugMuted x = false) ∧ (slotQuenched x (i.attempt y).slotLo (i.attempt y).slotHi = false) ∧ (slotMuted x (asn (i.attempt y).time) = false) ∧ (badAttempt x (i.attempt y) = false) ∧ (txLocked x y = true) ∧ (x.on F.CLK_STATUS_DSP_LOCK = true) ∧ (((i.attempt y).listenUs = 0 ∨ y.listened = true))) ∧
    (∃ (s x : State) (t idx : Nat) (i : Item) (y : TxInfo), (x = s.at t) ∧ (x.item idx = some i) ∧ (i.kind = .tx y) ∧ (isDue x i = true) ∧ (x.on F.BLW_STATUS_ECONOMY = false) ∧ (refValid x = true) ∧ (quenchOn x = true)) ∧
    (∃ (s x : State) (t idx gamma phase fwd : Nat) (i : Item) (y : TxInfo), (x = s.at t) ∧ (x.item idx = some i) ∧ (i.kind = .tx y) ∧ (i.decided = false) ∧ (i.started = true) ∧ (txEndAt y ≤ x.now) ∧ (y.cutAt = none) ∧ (i.owner = .host)) ∧
    (∃ (s x : State) (t idx gamma phase fwd c : Nat) (i : Item) (y : TxInfo), (x = s.at t) ∧ (x.item idx = some i) ∧ (i.kind = .tx y) ∧ (i.decided = false) ∧ (i.started = true) ∧ (txEndAt y ≤ x.now) ∧ (y.cutAt = some c) ∧ (i.owner = .host)) :=
  ⟨⟨{ State.reset with items := [({ item0 with kind := .tx { tx0 with first := { att0 with listenUs := 128 } }, repairAt := some 5 })] }, _, 1000000000000000, 0, 1, { item0 with kind := .tx { tx0 with first := { att0 with listenUs := 128 } }, repairAt := some 5 }, { tx0 with first := { att0 with listenUs := 128 } }, rfl, by decide +kernel⟩,
   ⟨{ State.reset with items := [({ item0 with kind := .tx { tx0 with first := { att0 with listenUs := 128 } } })] }, _, 1000000000000000, 0, 0, { item0 with kind := .tx { tx0 with first := { att0 with listenUs := 128 } } }, { tx0 with first := { att0 with listenUs := 128 } }, rfl, by decide +kernel⟩,
   ⟨{ st [(F.RFE_STATUS_TX_LOCK, 1), (F.CLK_STATUS_DSP_LOCK, 1), (F.CLK_STATUS_REF_VALID, 1), (F.RFE_STATUS_TX_LOCK, 1), (F.CLK_STATUS_DSP_LOCK, 1)] with now := usU 2, items := [({ item0 with kind := .tx tx0 })] }, _, 0, 0, { item0 with kind := .tx tx0 }, tx0, rfl, by decide +kernel⟩,
   ⟨{ st [(F.HRE_QUENCH_QUENCH, 1), (F.CLK_STATUS_REF_VALID, 1)] with items := [({ item0 with kind := .tx tx0 })] }, _, 0, 0, { item0 with kind := .tx tx0 }, tx0, rfl, by decide +kernel⟩,
   ⟨{ State.reset with items := [({ item0 with kind := .tx ({ tx0 with cutAt := none }), decided := false, started := true, owner := .host })] }, _, 1000000000000000, 0, 0, 0, 0, { item0 with kind := .tx ({ tx0 with cutAt := none }), decided := false, started := true, owner := .host }, { tx0 with cutAt := none }, rfl, by decide +kernel⟩,
   ⟨{ State.reset with items := [({ item0 with kind := .tx ({ tx0 with cutAt := some 7, cutStatus := 4, cutReason := 0x0408, cutSince := 5 }), decided := false, started := true, owner := .host })] }, _, 1000000000000000, 0, 0, 0, 0, 7, { item0 with kind := .tx ({ tx0 with cutAt := some 7, cutStatus := 4, cutReason := 0x0408, cutSince := 5 }), decided := false, started := true, owner := .host }, { tx0 with cutAt := some 7, cutStatus := 4, cutReason := 0x0408, cutSince := 5 }, rfl, by decide +kernel⟩⟩

/-- The hypotheses of `WindowsRun` are met, clause by clause. -/
theorem witness_WindowsRun :
    (∃ (s x : State) (t idx : Nat) (i : Item) (y : RxInfo), (x = s.at t) ∧ (x.item idx = some i) ∧ (i.kind = .rx y) ∧ (isDue x i = true) ∧ (x.on F.CHN_STATUS_FAULT = false) ∧ (dueVoid x = none) ∧ (slotQuenched x (asn (x.net + usU 1)) (asn (x.net + usU 1) + 1) = false) ∧ (slotMuted x (asn (x.net + usU 1)) = false)) ∧
    (∃ (s x : State) (t idx : Nat) (i : Item) (y : RxInfo), (x = s.at t) ∧ (x.item idx = some i) ∧ (i.kind = .rx y) ∧ (isDue x i = true) ∧ (x.on F.CHN_STATUS_FAULT = false) ∧ (x.on F.BLW_STATUS_ECONOMY = true) ∧ (i.owner = .host)) ∧
    (∃ (s x : State) (t idx : Nat) (i : Item) (y : RxInfo), (x = s.at t) ∧ (x.item idx = some i) ∧ (i.kind = .rx y) ∧ (i.decided = false) ∧ (y.closed = false) ∧ (y.closeAt ≤ x.net) ∧ (i.owner = .host)) ∧
    (∃ (s x : State) (t idx : Nat) (i : Item) (y : RxInfo), (x = s.at t) ∧ (x.item idx = some i) ∧ (i.kind = .rx y) ∧ (y.closed = true) ∧ (i.decided = false) ∧ (frameStillComing x idx = false) ∧ (i.owner = .host)) ∧
    (∃ (s x : State) (t idx : Nat) (i : Item) (y : RxInfo), (x = s.at t) ∧ (x.item idx = some i) ∧ (i.kind = .rx y) ∧ (frameStillComing x idx = true)) :=
  ⟨⟨{ st [(F.CLK_STATUS_REF_VALID, 1)] with items := [({ item0 with kind := .rx rx0 })] }, _, 0, 0, { item0 with kind := .rx rx0 }, rx0, rfl, by decide +kernel⟩,
   ⟨{ st [(F.BLW_STATUS_ECONOMY, 1)] with items := [({ item0 with kind := .rx rx0, owner := .host })] }, _, 0, 0, { item0 with kind := .rx rx0, owner := .host }, rx0, rfl, by decide +kernel⟩,
   ⟨{ State.reset with items := [({ item0 with kind := .rx ({ rx0 with closed := false }), decided := false, owner := .host })] }, _, 1000000000000000, 0, { item0 with kind := .rx ({ rx0 with closed := false }), decided := false, owner := .host }, { rx0 with closed := false }, rfl, by decide +kernel⟩,
   ⟨{ State.reset with items := [({ item0 with kind := .rx ({ rx0 with closed := true }), decided := false, owner := .host })] }, _, 0, 0, { item0 with kind := .rx ({ rx0 with closed := true }), decided := false, owner := .host }, { rx0 with closed := true }, rfl, by decide +kernel⟩,
   ⟨{ State.reset with items := [({ item0 with kind := .rx rx0 })], mur.residues := [{ residue0 with window := some 0 }] }, _, 0, 0, { item0 with kind := .rx rx0 }, rx0, rfl, by decide +kernel⟩⟩

/-- The hypotheses of `TrackingTimers` are met, clause by clause. -/
theorem witness_TrackingTimers :
    (∃ (s x : State) (t j : Nat), (x = s.at t) ∧ (x.get F.MAC_SYNC_STATUS_STATE = 5) ∧ (x.mac.stateSince + 4 * beaconPeriodU x ≤ x.now) ∧ (j = x.get F.MAC_SYNC_STATUS_PARENT) ∧ (candidateFrom x (some j) 0 16 = none)) ∧
    (∃ (s x : State) (t j k : Nat), (x = s.at t) ∧ (x.get F.MAC_SYNC_STATUS_STATE = 5) ∧ (x.mac.stateSince + 4 * beaconPeriodU x ≤ x.now) ∧ (j = x.get F.MAC_SYNC_STATUS_PARENT) ∧ (candidateFrom x (some j) 0 16 = some k)) ∧
    (∃ (s x : State) (t k : Nat), (x = s.at t) ∧ (x.get F.MAC_SYNC_STATUS_STATE = 6) ∧ (x.mac.stateSince + 2 * beaconPeriodU x ≤ x.now) ∧ (candidateFrom x x.mac.skip (x.mac.candidate + 1) (16 - (x.mac.candidate + 1)) = some k)) ∧
    (∃ (s x : State) (t : Nat), (x = s.at t) ∧ (x.get F.MAC_SYNC_STATUS_STATE = 6) ∧ (x.mac.stateSince + 2 * beaconPeriodU x ≤ x.now) ∧ (candidateFrom x x.mac.skip (x.mac.candidate + 1) (16 - (x.mac.candidate + 1)) = none)) ∧
    (∃ (s x : State) (t k : Nat), (x = s.at t) ∧ (x.get F.MAC_SYNC_STATUS_STATE = 7) ∧ (x.mac.stateSince + 4 * x.get F.MAC_SYNC_RETRY * beaconPeriodU x ≤ x.now) ∧ (candidateFrom x none 0 16 = some k)) ∧
    (∃ (s x : State) (t : Nat), (x = s.at t) ∧ (x.mac.txfcRefill = true)) ∧
    (∃ (s x : State) (t : Nat), (x = s.at t) ∧ (x.cry.nonceRefill = true)) :=
  ⟨⟨st [(F.MAC_SYNC_STATUS_STATE, 5)], _, 1000000000000000, 0, rfl, by decide +kernel⟩,
   ⟨st [(F.MAC_NBR_ADDR_EN 15, 1), (F.MAC_NBR_ADDR_CAND 15, 1), (F.MAC_SYNC_STATUS_STATE, 5)], _, 1000000000000000, 0, 15, rfl, by decide +kernel⟩,
   ⟨st [(F.MAC_NBR_ADDR_EN 15, 1), (F.MAC_NBR_ADDR_CAND 15, 1), (F.MAC_SYNC_STATUS_STATE, 6)], _, 1000000000000000, 15, rfl, by decide +kernel⟩,
   ⟨st [(F.MAC_SYNC_STATUS_STATE, 6)], _, 1000000000000000, rfl, by decide +kernel⟩,
   ⟨st [(F.MAC_NBR_ADDR_EN 15, 1), (F.MAC_NBR_ADDR_CAND 15, 1), (F.MAC_SYNC_STATUS_STATE, 7)], _, 1000000000000000, 15, rfl, by decide +kernel⟩,
   ⟨{ State.reset with mac.txfcRefill := true }, _, 0, rfl, by decide +kernel⟩,
   ⟨{ State.reset with cry.nonceRefill := true }, _, 0, rfl, by decide +kernel⟩⟩

/-- The hypotheses of `DetectionAndLanes` are met, clause by clause. -/
theorem witness_DetectionAndLanes :
    (∃ (s x : State) (t : Nat) (w : BinWindow), (x = s.at t) ∧ (x.en Blk.PHY = true) ∧ (binUsable w.bin = true) ∧ (inNarrowband x w.bin 1 = true) ∧ (zeroIn x (x.now - energyWindowU x) x.now = false) ∧ (x.binState w.bin = none)) ∧
    (∃ (s x : State) (t : Nat) (w : BinWindow) (y : BinState), (x = s.at t) ∧ (x.en Blk.PHY = true) ∧ (binUsable w.bin = true) ∧ (inNarrowband x w.bin 1 = true) ∧ (zeroIn x (x.now - energyWindowU x) x.now = false) ∧ (x.binState w.bin = some y) ∧ (w.level + x.get F.PHY_DET_ED_THRESH ≤ y.floor)) ∧
    (∃ (s x : State) (t : Nat) (w : BinWindow) (y : BinState), (x = s.at t) ∧ (x.en Blk.PHY = true) ∧ (binUsable w.bin = true) ∧ (inNarrowband x w.bin 1 = true) ∧ (zeroIn x (x.now - energyWindowU x) x.now = false) ∧ (x.binState w.bin = some y) ∧ (y.floor < w.level)) ∧
    (∃ (s x : State) (t n w : Nat) (d : Detection), (x = s.at t) ∧ (x.en Blk.PHY = true) ∧ (x.en Blk.MUR = true) ∧ (scannerPasses x d = true) ∧ ((seatOf x d.bin).isSome = true) ∧ (searchingTriple x d = false) ∧ (lanesWhere (fun k => laneState x k == 3 && sameFrame (laneDet x k) d) 0 64 = []) ∧ (ownerOf x d.bin d.start = some w) ∧ ((lanesWhere (fun k => laneHolds x k && (laneDet x k).bin == d.bin && (laneDet x k).sf == d.sf) 0 64).length < 8) ∧ ((lanesWhere (fun k => laneHolds x k && (laneDet x k).bin == d.bin) 0 64).length < 16) ∧ (freeLane x = some n) ∧ (x.mur.lanes.length = 64)) ∧
    (∃ (s x : State) (t n q start : Nat), (x = s.at t) ∧ (n < 64) ∧ (laneState x n = 2) ∧ (laneEnded x n = false) ∧ (x.get F.PHY_QUAL_CAPTURE ≠ 0) ∧ (x.get (F.MUR_LANE_METRIC_Q n) + 2 * x.get F.PHY_QUAL_CAPTURE ≤ q) ∧ (q < 256)) ∧
    (∃ (s x : State) (t n errors : Nat), (x = s.at t) ∧ (n < 64) ∧ (x.mur.lanes.length = 64) ∧ (laneState x n = 2) ∧ (laneEnded x n = false) ∧ (errors ≤ x.get F.PHY_QUAL_SYNC_ERR) ∧ (x.now ≤ syncEnd x n)) ∧
    (∃ (s x : State) (t n : Nat), (x = s.at t) ∧ (n < 64) ∧ (x.mur.lanes.length = 64) ∧ (laneState x n = 2) ∧ (laneEnded x n = false) ∧ (syncEnd x n ≤ x.now)) ∧
    (∃ (s x : State) (t n k : Nat) (h : Word), (x = s.at t) ∧ (n < 64) ∧ (x.mur.lanes.length = 64) ∧ (laneState x n = 3) ∧ ((x.laneX n).synced = true) ∧ ((x.laneX n).header = none) ∧ (headerFault x n h.toNat = some k) ∧ (laneEnded x n = false)) ∧
    (∃ (s x : State) (t n : Nat) (h : Word), (x = s.at t) ∧ (n < 64) ∧ (x.mur.lanes.length = 64) ∧ (laneState x n = 3) ∧ ((x.laneX n).synced = true) ∧ ((x.laneX n).header = none) ∧ (headerFault x n h.toNat = none) ∧ (laneEnded x n = false)) :=
  ⟨⟨st [(F.BLK_EN (Blk.PHY), 1), (F.RFE_STATUS_RX_LOCK, 1)], _, 0, ⟨-100, 7, []⟩, rfl, by decide +kernel⟩,
   ⟨{ st [(F.BLK_EN (Blk.PHY), 1), (F.RFE_STATUS_RX_LOCK, 1)] with mur.bins := [({ bin0 with bin := 99 })] }, _, 0, ⟨99, 0, []⟩, { bin0 with bin := 99 }, rfl, by decide +kernel⟩,
   ⟨{ st [(F.BLK_EN (Blk.PHY), 1), (F.RFE_STATUS_RX_LOCK, 1)] with mur.bins := [({ bin0 with bin := -100 })] }, _, 0, ⟨-100, 101, [5]⟩, { bin0 with bin := -100 }, rfl, by decide +kernel⟩,
   ⟨{ st [(F.PHY_CFG_SF_EN, 0x1FF), (F.PHY_CFG_CODE_EN, 0xFF), (F.PHY_QUAL_THRESH, 0), (F.MUR_LANE_STATE_STATE 59, 1), (F.BLK_EN (Blk.PHY), 1), (F.BLK_EN (Blk.MUR), 1)] with items := [{ item0 with started := true, kind := .rx { rx0 with closeAt := slotU } }], mur.bins := [{ bin0 with seat := some 0 }] }, _, 0, 59, 0, det0, rfl, by decide +kernel⟩,
   ⟨st [(F.PHY_QUAL_CAPTURE, 5), (F.MUR_LANE_STATE_STATE 63, 2)], _, 0, 63, 255, 0, rfl, by decide +kernel⟩,
   ⟨st [(F.MUR_LANE_STATE_STATE 63, 2)], _, 0, 63, 0, rfl, by decide +kernel⟩,
   ⟨st [(F.MUR_LANE_STATE_STATE 63, 2)], _, 1000000000000000, 63, rfl, by decide +kernel⟩,
   ⟨{ st [(F.MUR_LANE_STATE_STATE 63, 3)] with mur.lanes := List.replicate 64 { LaneX.reset with synced := true } }, _, 0, 63, 3, 1, rfl, by decide +kernel⟩,
   ⟨{ st [(F.MUR_LANE_STATE_STATE 63, 3)] with mur.lanes := List.replicate 64 { LaneX.reset with synced := true } }, _, 0, 63, hdr20, rfl, by decide +kernel⟩⟩

/-- The hypotheses of `ReceivedFrames` are met, clause by clause. -/
theorem witness_ReceivedFrames :
    (∃ (s x : State) (t n k crc : Nat) (payload : List Byte) (err : Nat) (fail : Bool) (link : LinkData) (h : Word), (x = s.at t) ∧ (n < 64) ∧ (laneState x n = 3) ∧ ((x.laneX n).header = some h) ∧ (payloadFault h.toNat (fit (bits h.toNat 14 7) payload) crc = some k) ∧ (laneEnded x n = false)) ∧
    (∃ (s x : State) (t n crc idx : Nat) (payload : List Byte) (err : Nat) (fail : Bool) (link : LinkData) (h : Word) (w : Item), (x = s.at t) ∧ (n < 64) ∧ (laneState x n = 3) ∧ ((x.laneX n).header = some h) ∧ ((x.laneX n).residue = false) ∧ (payloadFault h.toNat (fit (bits h.toNat 14 7) payload) crc = none) ∧ (laneEnded x n = false) ∧ (x.on F.MUR_CFG_SIC_EN = false) ∧ (x.en Blk.MAC = true) ∧ ((x.laneX n).window = some idx) ∧ (x.item idx = some w) ∧ (w.decided = false) ∧ (windowFull w = false) ∧ (parseMac (fit (bits h.toNat 14 7) payload) = none)) ∧
    (∃ (s x : State) (t n crc idx : Nat) (payload : List Byte) (err : Nat) (link : LinkData) (h : Word) (w : Item) (y : RxInfo)
    (f : MacFrame) (b : RxBuf) (rest : List RxBuf), (x = s.at t) ∧ (n < 64) ∧ (laneState x n = 3) ∧ ((x.laneX n).header = some h) ∧ ((x.laneX n).residue = false) ∧ (payloadFault h.toNat (fit (bits h.toNat 14 7) payload) crc = none) ∧ (laneEnded x n = false) ∧ (x.on F.MUR_CFG_SIC_EN = false) ∧ (x.en Blk.MAC = true) ∧ (x.en Blk.HRE = true) ∧ ((x.laneX n).window = some idx) ∧ (x.item idx = some w) ∧ (w.decided = false) ∧ (w.owner = .host) ∧ (w.kind = .rx y) ∧ (y.records < y.maxf) ∧ (parseMac (fit (bits h.toNat 14 7) payload) = some f) ∧ (headerAccepted x f = true) ∧ (fctlKeysel f.fctl = 3) ∧ (toRing9 (fctlType f.fctl) = true) ∧ (x.hre.buffers = b :: rest)) ∧
    (∃ (s x : State) (t n start cfo q w : Nat) (b : Int), (x = s.at t) ∧ (60 ≤ n) ∧ (n < 64) ∧ (x.mur.lanes.length = 64) ∧ (wideBin x (n - 60) = some b) ∧ (laneState x n = 5) ∧ (ownerOf x b start = some w)) ∧
    (∃ (s x : State) (t n idx : Nat) (psdu : List Byte) (link : LinkData) (w : Item) (y : RxInfo) (b : RxBuf) (rest : List RxBuf), (x = s.at t) ∧ (60 ≤ n) ∧ (n < 64) ∧ (laneState x n = 6) ∧ (laneEnded x n = false) ∧ ((x.laneX n).window = some idx) ∧ (x.item idx = some w) ∧ (w.kind = .rx y) ∧ (w.decided = false) ∧ (w.owner = .host) ∧ (y.records < y.maxf) ∧ (x.en Blk.HRE = true) ∧ (x.hre.buffers = b :: rest)) ∧
    (∃ (s x : State) (t n idx fcs : Nat) (psdu : List Byte) (link : LinkData) (fail : Bool) (w : Item) (y : RxInfo), (x = s.at t) ∧ (60 ≤ n) ∧ (n < 64) ∧ (laneState x n = 6) ∧ (laneEnded x n = false) ∧ ((x.laneX n).window = some idx) ∧ (x.item idx = some w) ∧ (w.kind = .rx y) ∧ (y.fcsFail = false) ∧ (fcs ≠ crc16 psdu)) :=
  ⟨⟨{ st [(F.MUR_LANE_STATE_STATE 63, 3)] with mur.lanes := List.replicate 64 { LaneX.reset with header := some hdr20 } }, _, 0, 63, 5, 1, [], 0, false, ⟨0, 0⟩, hdr20, rfl, by decide +kernel⟩,
   ⟨{ st [(F.BLK_EN Blk.MAC, 1), (F.MUR_CFG_SIC_EN, 0), (F.MUR_LANE_STATE_STATE 63, 3), (F.BLK_EN (Blk.MAC), 1)] with mur.lanes := List.replicate 64 { LaneX.reset with header := some hdr0, window := some 0 }, items := [{ item0 with kind := .rx rx0 }] }, _, 0, 63, payloadCrc false [], 0, [], 0, false, ⟨0, 0⟩, hdr0, { item0 with kind := .rx rx0 }, rfl, by decide +kernel⟩,
   ⟨{ st [(F.BLK_EN Blk.MAC, 1), (F.BLK_EN Blk.HRE, 1), (F.MUR_CFG_SIC_EN, 0), (F.MUR_LANE_STATE_STATE 63, 3), (F.BLK_EN (Blk.MAC), 1), (F.BLK_EN (Blk.HRE), 1)] with mur.lanes := List.replicate 64 { LaneX.reset with header := some hdr20, window := some 0 }, items := [{ item0 with kind := .rx rx0 }], hre.buffers := [buf0] }, _, 0, 63, payloadCrc false frame20, 0, frame20, 0, ⟨0, 0⟩, hdr20, { item0 with kind := .rx rx0 }, rx0, (parseMac frame20).get (by decide +kernel), buf0, [], rfl, by decide +kernel⟩,
   ⟨{ st [(F.RFE_RXLO_FREQ, 868300000), (F.MUR_LANE_STATE_STATE 63, 5)] with items := [{ item0 with started := true, kind := .rx { rx0 with closeAt := slotU } }] }, _, 0, 63, 0, 0, 0, 0, 0, rfl, by decide +kernel⟩,
   ⟨{ st [(F.BLK_EN Blk.HRE, 1), (F.MUR_LANE_STATE_STATE 63, 6), (F.BLK_EN (Blk.HRE), 1)] with mur.lanes := List.replicate 64 { LaneX.reset with window := some 0 }, items := [{ item0 with kind := .rx rx0 }], hre.buffers := [buf0] }, _, 0, 63, 0, [], ⟨0, 0⟩, { item0 with kind := .rx rx0 }, rx0, buf0, [], rfl, by decide +kernel⟩,
   ⟨{ st [(F.MUR_LANE_STATE_STATE 63, 6)] with mur.lanes := List.replicate 64 { LaneX.reset with window := some 0 }, items := [{ item0 with kind := .rx rx0 }] }, _, 0, 63, 0, 1, [1], ⟨0, 0⟩, false, { item0 with kind := .rx rx0 }, rx0, rfl, by decide +kernel⟩⟩

/-- The hypotheses of `Cancellation` are met, clause by clause. -/
theorem witness_Cancellation :
    (∃ (s x : State) (t : Nat) (j : SicJob) (rest : List SicJob), (x = s.at t) ∧ (x.mur.running = none) ∧ (frozen x = false) ∧ (x.mur.jobs = j :: rest) ∧ (tooOld x j.det = false)) ∧
    (∃ (s x : State) (t : Nat) (j : SicJob), (x = s.at t) ∧ (x.mur.running = none) ∧ (frozen x = false) ∧ (x.mur.jobs = [j]) ∧ (tooOld x j.det = true)) ∧
    (∃ (s x : State) (t : Nat) (residue : List Word) (j : SicJob), (x = s.at t) ∧ (x.mur.running = some j) ∧ (x.mur.scanning = false)) ∧
    (∃ (s x : State) (t : Nat) (residue : List Word) (j : SicJob) (d : Detection), (x = s.at t) ∧ (x.mur.running = some j) ∧ (x.mur.scanning = false) ∧ (scanFinds x j d = true) ∧ (ownerOf x d.bin d.start = none)) ∧
    (∃ (s x : State) (t : Nat), (x = s.at t) ∧ (x.mur.scanning = true)) ∧
    (∃ (s x : State) (t : Nat) (y : Residue), (x = s.at t) ∧ (x.mur.residues = [y]) ∧ (tooOld x y.det = true)) ∧
    (∃ (s x : State) (t : Nat), (x = s.at t) ∧ (x.cpx.session = false)) ∧
    (∃ (s x : State) (t : Nat) (e : CbEntry), (x = s.at t) ∧ (x.cpx.session = true) ∧ (x.mur.buffer[x.get F.MUR_CB_IDX_ENTRY]? = some e)) :=
  ⟨⟨{ State.reset with mur.jobs := [job0] }, _, 0, job0, [], rfl, by decide +kernel⟩,
   ⟨{ State.reset with mur.jobs := [job0] }, _, 1000000000000000, job0, rfl, by decide +kernel⟩,
   ⟨{ State.reset with mur.running := some job0 }, _, 0, [1], job0, rfl, by decide +kernel⟩,
   ⟨{ st [(F.PHY_CFG_SF_EN, 0x1FF), (F.PHY_CFG_CODE_EN, 0xFF), (F.PHY_QUAL_THRESH, 0)] with mur.running := some { job0 with span := 1 } }, _, 0, [], { job0 with span := 1 }, det0, rfl, by decide +kernel⟩,
   ⟨{ State.reset with mur.scanning := true }, _, 0, rfl, by decide +kernel⟩,
   ⟨{ State.reset with mur.residues := [residue0] }, _, 1000000000000000, residue0, rfl, by decide +kernel⟩,
   ⟨State.reset, _, 0, rfl, by decide +kernel⟩,
   ⟨{ st [(F.MUR_CB_IDX_SAMPLE, 16383)] with cpx.session := true, mur.buffer := [⟨0, [5]⟩] }, _, 0, ⟨0, [5]⟩, rfl, by decide +kernel⟩⟩

/-- The hypotheses of `FrontEnd` are met, clause by clause. -/
theorem witness_FrontEnd :
    (∃ (s x : State) (t : Nat), (x = s.at t) ∧ (x.en Blk.RFE = true) ∧ (x.get (F.RFE_RX_MODE 0) = 0) ∧ (bits (x.get F.RFE_CFG_CHAIN_EN) 0 0 = 1) ∧ ((x.rfe.gainAt0 = 0 ∨ x.rfe.gainAt0 + usU 10 ≤ x.now)) ∧ (x.get F.RFE_STATUS_GAIN0 < 2)) ∧
    (∃ (s x : State) (t : Nat), (x = s.at t) ∧ (x.en Blk.RFE = true) ∧ (x.get (F.RFE_RX_MODE 1) = 0) ∧ (bits (x.get F.RFE_CFG_CHAIN_EN) 1 1 = 1) ∧ ((x.rfe.gainAt1 = 0 ∨ x.rfe.gainAt1 + usU 10 ≤ x.now)) ∧ ((x.rfe.downAt1 = 0 ∨ x.rfe.downAt1 + msU (x.get (F.RFE_RX_HOLD_MS 1)) ≤ x.now)) ∧ (0 < x.get F.RFE_STATUS_GAIN1)) ∧
    (∃ (s x : State) (t : Nat), (x = s.at t) ∧ (x.en Blk.RFE = true)) ∧
    (∃ (s x : State) (t : Nat) (v : List Word), (x = s.at t) ∧ (x.rfe.capturing = true) ∧ (v.length = 4096)) ∧
    (∃ (s x : State) (t : Nat) (v : Word), (x = s.at t) ∧ (x.rfe.capture[x.rfe.capNext]? = some v)) ∧
    (∃ (s x : State) (t : Nat), (x = s.at t)) ∧
    (∃ (s x : State) (t : Nat), (x = s.at t) ∧ (x.on F.RFE_FIR_CTL_CHECK = true) ∧ ((responses (firTaps x) ⟨fixOne, 0⟩ 256).headD 0 ≠ 0) ∧ (firstFail x ((responses (firTaps x) ⟨fixOne, 0⟩ 256).headD 0) (responses (firTaps x) ⟨fixOne, 0⟩ 256) 0 0 8 = none)) ∧
    (∃ (s x : State) (t m : Nat), (x = s.at t) ∧ (x.on F.RFE_FIR_CTL_CHECK = true) ∧ ((responses (firTaps x) ⟨fixOne, 0⟩ 256).headD 0 ≠ 0) ∧ (firstFail x ((responses (firTaps x) ⟨fixOne, 0⟩ 256).headD 0) (responses (firTaps x) ⟨fixOne, 0⟩ 256) 0 0 8 = some m)) ∧
    (∃ (s x : State) (t : Nat), (x = s.at t) ∧ ((∀ i ∈ x.items, i.opcode = 0x14 → i.decided = true))) ∧
    (∃ (s x : State) (t : Nat), (x = s.at t) ∧ (x.items.any (fun i => i.opcode == 0x14 && !i.decided) = true)) ∧
    (∃ (s x : State) (t : Nat), (x = s.at t) ∧ (x.on F.RFE_STATUS_RX_LOCK = true)) ∧
    (∃ (s x : State) (t : Nat), (x = s.at t) ∧ (x.en Blk.RFE = true) ∧ (x.on F.RFE_STATUS_TX_LOCK = false)) ∧
    (∃ (s x : State) (t : Nat), (x = s.at t) ∧ (windowOpen x = true)) ∧
    (∃ (s x : State) (t : Nat), (x = s.at t) ∧ (x.rfe.bandRx = true) ∧ (x.rfe.bandSince + 3600 * secondU ≤ x.now)) ∧
    (∃ (s x : State) (t gamma phase fwd : Nat) (e : Emission) (i : Item), (x = s.at t) ∧ (x.rfe.onAir = some e) ∧ (x.item e.item = some i) ∧ (gammaFault gamma = true) ∧ (40 < fwd) ∧ (x.on F.RFE_ANT_FOLD = true)) ∧
    (∃ (s x : State) (t : Nat), (x = s.at t) ∧ (x.on F.RFE_ANT_LATCHED = true)) :=
  ⟨⟨st [(F.BLK_EN (Blk.RFE), 1), (F.RFE_RX_MODE 0, 0)], _, 1000000000000000, rfl, by decide +kernel⟩,
   ⟨{ st [(F.BLK_EN (Blk.RFE), 1), (F.RFE_CFG_CHAIN_EN, 3), (F.RFE_RX_MODE 1, 0), (F.RFE_STATUS_GAIN1, 1), (F.RFE_RX_HOLD_MS 1, 255)] with rfe.downAt1 := 1 }, _, 1000000000000000, rfl, by decide +kernel⟩,
   ⟨st [(F.BLK_EN (Blk.RFE), 1)], _, 0, rfl, by decide +kernel⟩,
   ⟨{ State.reset with rfe.capturing := true }, _, 0, List.replicate 4096 0, rfl, by decide +kernel⟩,
   ⟨{ State.reset with rfe.capture := [7] }, _, 0, 7, rfl, by decide +kernel⟩,
   ⟨State.reset, _, 0, rfl⟩,
   ⟨st [(F.RFE_FIR_COEF 0, 1), (F.RFE_MASK_ATT_DB 0, 0), (F.RFE_MASK_ATT_DB 1, 0), (F.RFE_MASK_ATT_DB 2, 0), (F.RFE_MASK_ATT_DB 3, 0), (F.RFE_MASK_ATT_DB 4, 0), (F.RFE_FIR_CTL_CHECK, 1)], _, 0, rfl, by decide +kernel⟩,
   ⟨st [(F.RFE_FIR_COEF 0, 1), (F.RFE_MASK_ATT_DB 7, 80), (F.RFE_FIR_CTL_CHECK, 1)], _, 0, 0, rfl, by decide +kernel⟩,
   ⟨State.reset, _, 0, rfl, by decide +kernel⟩,
   ⟨{ State.reset with items := [{ item0 with opcode := 0x14 }] }, _, 0, rfl, by decide +kernel⟩,
   ⟨st [(F.RFE_STATUS_RX_LOCK, 1)], _, 0, rfl, by decide +kernel⟩,
   ⟨st [(F.BLK_EN (Blk.RFE), 1)], _, 0, rfl, by decide +kernel⟩,
   ⟨{ State.reset with items := [{ item0 with started := true, kind := .rx rx0 }] }, _, 0, rfl, by decide +kernel⟩,
   ⟨{ State.reset with rfe.bandRx := true }, _, 1000000000000000, rfl, by decide +kernel⟩,
   ⟨{ st [(F.RFE_ANT_FOLD, 1)] with items := [item0], rfe.onAir := some emission0 }, _, 0, 1023, 0, 41, emission0, item0, rfl, by decide +kernel⟩,
   ⟨st [(F.RFE_ANT_LATCHED, 1)], _, 0, rfl, by decide +kernel⟩⟩

/-- The hypotheses of `EsmPairs` are met, clause by clause. -/
theorem witness_EsmPairs :
    (∃ (s x : State) (t c n : Nat) (v : Word) (err : Nat), (x = s.at t) ∧ (n < 1048576) ∧ (bankOn x n = true) ∧ (x.esm.pairs.find? (fun p => p.1 == c) = none)) ∧
    (∃ (s x : State) (t c n : Nat) (lo v : Word) (err : Nat), (x = s.at t) ∧ (n < 1048576) ∧ (bankOn x n = true) ∧ (x.esm.pairs.find? (fun p => p.1 == c) = some (c, n, true, lo))) ∧
    (∃ (s x : State) (t c n : Nat) (v : Word), (x = s.at t) ∧ (n < 1048576) ∧ (bankOn x n = true) ∧ (x.esm.bad.contains n = false) ∧ (x.esm.pairs.find? (fun p => p.1 == c) = none)) ∧
    (∃ (s x : State) (t c n : Nat) (v hi : Word) (err : Nat), (x = s.at t) ∧ (n < 1048576) ∧ (bankOn x n = true) ∧ (x.esm.pairs.find? (fun p => p.1 == c) = some (c, n, false, hi))) ∧
    (∃ (s x : State) (t c a size : Nat) (w : Bool) (v : Word) (err : Nat), (x = s.at t) ∧ ((a < 0x30000000 ∨ 0x30800000 ≤ a ∨ size ≠ 4 ∨ a % 4 ≠ 0 ∨ bankOn x ((a - 0x30000000) / 8) = false ∨ (a % 8 = 4 ∧ x.esm.pairs.find? (fun p => p.1 == c) = none) ∨ (a % 8 = 0 ∧ (x.esm.pairs.find? (fun p => p.1 == c)).isSome = true)))) ∧
    (∃ (s x : State) (t n : Nat), (x = s.at t) ∧ (x.en Blk.ESM = true) ∧ (x.on F.ESM_CFG_SCRUB_EN = true) ∧ (bankOn x n = true) ∧ (n < 1048576)) ∧
    (∃ (s x : State) (t n : Nat), (x = s.at t) ∧ (x.en Blk.ESM = true) ∧ (x.on F.ESM_CFG_SCRUB_EN = true) ∧ (bankOn x n = true) ∧ (n < 1048576) ∧ (x.esm.bad.contains n = false)) :=
  ⟨⟨st [(F.ESM_BANKS_ON, 0xFFFFFFFF)], _, 0, 0, 1048575, 0, 0, rfl, by decide +kernel⟩,
   ⟨{ st [(F.ESM_BANKS_ON, 0xFFFFFFFF)] with esm.pairs := [(0, 1048575, true, 0)] }, _, 0, 0, 1048575, 0, 0, 0, rfl, by decide +kernel⟩,
   ⟨st [(F.ESM_BANKS_ON, 0xFFFFFFFF)], _, 0, 0, 1048575, 0, rfl, by decide +kernel⟩,
   ⟨{ st [(F.ESM_BANKS_ON, 0xFFFFFFFF)] with esm.pairs := [(3, 0, false, 9)] }, _, 0, 3, 0, 0, 9, 0, rfl, by decide +kernel⟩,
   ⟨st [(F.ESM_BANKS_ON, 0)], _, 0, 0, 0x307FFFF8, 2, false, 0, 0, rfl, by decide +kernel⟩,
   ⟨st [(F.BLK_EN (Blk.ESM), 1), (F.ESM_CFG_SCRUB_EN, 1), (F.ESM_BANKS_ON, 0xFFFFFFFF)], _, 0, 1048575, rfl, by decide +kernel⟩,
   ⟨st [(F.BLK_EN (Blk.ESM), 1), (F.ESM_CFG_SCRUB_EN, 1), (F.ESM_BANKS_ON, 0xFFFFFFFF)], _, 0, 1048575, rfl, by decide +kernel⟩⟩

/-- The hypotheses of `Checkpoints` are met, clause by clause. -/
theorem witness_Checkpoints :
    (∃ (s x : State) (t : Nat), (x = s.at t) ∧ (x.en Blk.ESM = true) ∧ (x.esm.dueAt ≤ x.now) ∧ (x.esm.ckpt = none) ∧ (anyDirty x = false)) ∧
    (∃ (s x : State) (t : Nat), (x = s.at t) ∧ (x.en Blk.ESM = true) ∧ (x.esm.dueAt ≤ x.now) ∧ (x.esm.ckpt = none) ∧ (anyDirty x = true) ∧ (banksOn x ≠ [])) ∧
    (∃ (s x : State) (t a : Nat), (x = s.at t) ∧ (x.en Blk.ESM = true) ∧ (x.esm.startedAt = some a) ∧ (x.now < a + x.get F.ESM_CKPT_MIN_MINUTES * 60 * secondU)) ∧
    (∃ (s x : State) (t : Nat), (x = s.at t) ∧ (x.en Blk.ESM = true) ∧ (x.esm.startedAt = none) ∧ (x.esm.ckpt = none) ∧ (banksOn x ≠ [])) ∧
    (∃ (s x : State) (t : Nat), (x = s.at t) ∧ (x.en Blk.ESM = true) ∧ (x.on F.ESM_STATUS_CLOSED = false) ∧ (x.esm.ckpt = none) ∧ (banksOn x ≠ [])) ∧
    (∃ (s x : State) (t : Nat) (c : Ckpt), (x = s.at t) ∧ (x.esm.ckpt = some c) ∧ (c.banks = []) ∧ (c.closing = true)) ∧
    (∃ (s x : State) (t a : Nat) (c : Ckpt), (x = s.at t) ∧ (x.esm.ckpt = some c) ∧ (c.inFlight = false) ∧ (c.retryAt = some a) ∧ (a ≤ x.now) ∧ (c.banks ≠ [])) ∧
    (∃ (s x : State) (t : Nat) (f : Fetched) (rest : List Fetched), (x = s.at t) ∧ (takeTurn (fun f => wbits f.words 0 7 0 == 0x50 && wbits f.words 6 7 0 == 1 && wbits f.words 6 15 8 == 7 && x.upd.aliveBy.isNone) (busyRings x) x.hre.fetched = some (f, rest)) ∧ (x.en Blk.ESM = true)) :=
  ⟨⟨st [(F.BLK_EN (Blk.ESM), 1)], _, 1000000000000000, rfl, by decide +kernel⟩,
   ⟨{ st [(F.ESM_BANKS_ON, 1), (F.BLK_EN (Blk.ESM), 1)] with esm.entries := [(0, 0xFFFFFFFFFFFFFFFF)] }, _, 1000000000000000, rfl, by decide +kernel⟩,
   ⟨{ st [(F.BLK_EN (Blk.ESM), 1)] with esm.startedAt := some 0 }, _, 0, 0, rfl, by decide +kernel⟩,
   ⟨st [(F.BLK_EN (Blk.ESM), 1)], _, 0, rfl, by decide +kernel⟩,
   ⟨st [(F.BLK_EN (Blk.ESM), 1)], _, 0, rfl, by decide +kernel⟩,
   ⟨{ State.reset with esm.ckpt := some ({ ckpt0 with banks := [], closing := true }) }, _, 0, { ckpt0 with banks := [], closing := true }, rfl, by decide +kernel⟩,
   ⟨{ State.reset with esm.ckpt := some ({ ckpt0 with banks := [0], retryAt := some 0 }) }, _, 1000000000000000, 0, { ckpt0 with banks := [0], retryAt := some 0 }, rfl, by decide +kernel⟩,
   ⟨{ st [(F.BLK_EN (Blk.ESM), 1)] with hre.fetched := [got 0x50 1793 0] }, _, 0, got 0x50 1793 0, [], rfl, by decide +kernel⟩⟩

/-- The hypotheses of `Joins` are met, clause by clause. -/
theorem witness_Joins :
    (∃ (s x : State) (t eui g : Nat) (fr : FwFrame) (rest : List FwFrame) (f : MacFrame) (c : Nat), (x = s.at t) ∧ (takeFirst (fun (b : FwFrame) => match parseMac b.bytes with | some m => fctlType m.fctl == 4 | none => false) x.esm.firmware = some (fr, rest)) ∧ (parseMac fr.bytes = some f) ∧ (f.ctime = some c) ∧ (ctimeOk x c fr.det.start = true)) ∧
    (∃ (s x : State) (t eui i : Nat) (fr : FwFrame) (rest : List FwFrame) (f : MacFrame) (c : Nat), (x = s.at t) ∧ (takeFirst (fun (b : FwFrame) => match parseMac b.bytes with | some m => fctlType m.fctl == 4 | none => false) x.esm.firmware = some (fr, rest)) ∧ (parseMac fr.bytes = some f) ∧ (f.ctime = some c) ∧ (ctimeOk x c fr.det.start = true) ∧ (derivedRefuses x eui 0 (ccmBlocks f.header.length f.payload.length false) = none) ∧ (lookupEui x eui = none) ∧ (insertFrom x eui 0 64 = some i) ∧ (eui < 2 ^ 64 - 1) ∧ (f.fcnt < 2 ^ 32)) ∧
    (∃ (s x : State) (t k : Nat) (rest : List (Nat × Bool)) (j : Join), (x = s.at t) ∧ (x.esm.accepts = (k, true) :: rest) ∧ (x.esm.joins.find? (fun j => j.k == k) = some j) ∧ ((x.dirRec j.idx).dstate = 0) ∧ ((x.dirRec j.idx).eui = j.eui)) ∧
    (∃ (s x : State) (t k : Nat) (rest : List (Nat × Bool)), (x = s.at t) ∧ (x.esm.accepts = (k, false) :: rest)) ∧
    (∃ (s x : State) (t n : Nat), (x = s.at t) ∧ (x.on F.ESM_STATUS_LOST = false) ∧ (x.esm.bad = [n])) ∧
    (∃ (s x : State) (t : Nat), (x = s.at t) ∧ (x.on F.ESM_STATUS_LOST = true)) ∧
    (∃ (s x : State) (t : Nat), (x = s.at t) ∧ (x.esm.compaction = none) ∧ (imageOpen x = none) ∧ (journalFull x = false)) ∧
    (∃ (s x : State) (t : Nat), (x = s.at t) ∧ (x.esm.compaction = none) ∧ (imageOpen x = none)) ∧
    (∃ (s x : State) (t b q : Nat), (x = s.at t) ∧ (x.esm.compaction = some (b, 2, q))) ∧
    (∃ (s x : State) (t b q : Nat), (x = s.at t) ∧ (x.esm.compaction = some (b, 3, q))) ∧
    (∃ (s x : State) (t b q : Nat), (x = s.at t) ∧ (x.esm.compaction = some (b, 4, q))) ∧
    (∃ (s x : State) (t b q : Nat), (x = s.at t) ∧ (x.esm.compaction = some (b, 5, q))) :=
  ⟨⟨{ State.reset with esm.firmware := [joinReq] }, _, 0, 0, 0, joinReq, [], _, 0, rfl, by decide +kernel, rfl, by decide +kernel⟩,
   by refine ⟨{ st [(F.CRY_SLOT_ATTR_VALID 5, 1), (F.CRY_SLOT_ATTR_LIMIT_LOG2 5, 48), (F.CRY_SLOT_ATTR_MODES 5, 0xFF), (F.ESM_CFG_MASTER_SLOT, 5), (F.ESM_BANKS_ON, 0xFFFFFFFF)] with esm.firmware := [joinReq] }, _, 0, 0, _, joinReq, [], _, 0, rfl, ?_, rfl, ?_, ?_, ?_, ?_, rfl, ?_⟩ <;> decide +kernel,
   ⟨{ State.reset with esm.accepts := [(0, true)], esm.joins := [join0], flc.mem := (List.range 12).map (fun k => (dirBase + k, (0 : Byte))) }, _, 0, 0, [], join0, rfl, by decide +kernel⟩,
   ⟨{ State.reset with esm.accepts := [(0, false)], esm.joins := [join0] }, _, 0, 0, [], rfl, by decide +kernel⟩,
   ⟨{ st [(F.ESM_STATUS_LOST, 0)] with esm.bad := [0] }, _, 0, 0, rfl, by decide +kernel⟩,
   ⟨st [(F.ESM_STATUS_LOST, 1)], _, 0, rfl, by decide +kernel⟩,
   ⟨State.reset, _, 0, rfl, by decide +kernel⟩,
   ⟨State.reset, _, 0, rfl, by decide +kernel⟩,
   ⟨{ State.reset with esm.compaction := some (383, 2, 0) }, _, 0, 383, 0, rfl, by decide +kernel⟩,
   ⟨{ State.reset with esm.compaction := some (0, 3, 7) }, _, 0, 0, 7, rfl, by decide +kernel⟩,
   ⟨{ State.reset with esm.compaction := some (383, 4, 0) }, _, 0, 383, 0, rfl, by decide +kernel⟩,
   ⟨{ State.reset with esm.compaction := some (0, 5, 0) }, _, 0, 0, 0, rfl, by decide +kernel⟩⟩

/-- The hypotheses of `DirectoryServices` are met, clause by clause. -/
theorem witness_DirectoryServices :
    (∃ (s x y : State) (t : Nat) (f : Fetched) (rest : List Fetched) (fail : Bool), (x = s.at t) ∧ (takeTurn (fun f => wbits f.words 0 7 0 == 0x50 && wbits f.words 6 7 0 == 1 && wbits f.words 6 15 8 == 1 && x.upd.aliveBy.isNone) (busyRings x) x.hre.fetched = some (f, rest)) ∧ (y = { x with hre := { x.hre with fetched := rest } }) ∧ (x.en Blk.ESM = true) ∧ (lookupEui x (leNat (f.buf.take 8)) = none)) ∧
    (∃ (s x y : State) (t i : Nat) (f : Fetched) (rest : List Fetched), (x = s.at t) ∧ (takeTurn (fun f => wbits f.words 0 7 0 == 0x50 && wbits f.words 6 7 0 == 1 && wbits f.words 6 15 8 == 2 && x.upd.aliveBy.isNone) (busyRings x) x.hre.fetched = some (f, rest)) ∧ (y = { x with hre := { x.hre with fetched := rest } }) ∧ (x.en Blk.ESM = true) ∧ (i = wbits f.words 7 19 0) ∧ ((x.dirRec i).dstate ≠ 7)) ∧
    (∃ (s x : State) (t i : Nat) (f : Fetched) (rest : List Fetched), (x = s.at t) ∧ (takeTurn (fun f => wbits f.words 0 7 0 == 0x50 && wbits f.words 6 7 0 == 1 && wbits f.words 6 15 8 == 3 && x.upd.aliveBy.isNone) (busyRings x) x.hre.fetched = some (f, rest)) ∧ (x.en Blk.ESM = true) ∧ (i = wbits f.words 7 19 0) ∧ (bankOn x i = true) ∧ (x.esm.bad.contains i = false) ∧ (((x.entry i).state = 2 ∨ (x.entry i).state = 5))) ∧
    (∃ (s x : State) (t i : Nat) (f : Fetched) (rest : List Fetched), (x = s.at t) ∧ (takeTurn (fun f => wbits f.words 0 7 0 == 0x50 && wbits f.words 6 7 0 == 1 && wbits f.words 6 15 8 == 4 && x.upd.aliveBy.isNone) (busyRings x) x.hre.fetched = some (f, rest)) ∧ (x.en Blk.ESM = true) ∧ (i = wbits f.words 7 19 0) ∧ (bankOn x i = true) ∧ (x.esm.bad.contains i = false) ∧ ((x.entry i).state = 3)) ∧
    (∃ (s x : State) (t i : Nat) (f : Fetched) (rest : List Fetched), (x = s.at t) ∧ (takeTurn (fun f => wbits f.words 0 7 0 == 0x50 && wbits f.words 6 7 0 == 1 && wbits f.words 6 15 8 == 5 && x.upd.aliveBy.isNone) (busyRings x) x.hre.fetched = some (f, rest)) ∧ (x.en Blk.ESM = true) ∧ (i = wbits f.words 7 19 0) ∧ (bankOn x i = true) ∧ (x.esm.bad.contains i = false) ∧ (1 ≤ (x.entry i).state) ∧ ((x.entry i).state ≤ 5)) ∧
    (∃ (s x : State) (t i : Nat) (f : Fetched) (rest : List Fetched), (x = s.at t) ∧ (takeTurn (fun f => wbits f.words 0 7 0 == 0x50 && wbits f.words 6 7 0 == 1 && wbits f.words 6 15 8 == 6 && x.upd.aliveBy.isNone) (busyRings x) x.hre.fetched = some (f, rest)) ∧ (x.en Blk.ESM = true) ∧ (i = wbits f.words 7 19 0) ∧ (bankOn x i = true) ∧ (x.esm.bad.contains i = false) ∧ ((x.entry i).state = 4)) ∧
    (∃ (s x y : State) (t : Nat) (f : Fetched) (rest : List Fetched), (x = s.at t) ∧ (takeTurn (fun f => wbits f.words 0 7 0 == 0x50 && wbits f.words 6 7 0 == 1 && wbits f.words 6 15 8 == 8 && x.upd.aliveBy.isNone) (busyRings x) x.hre.fetched = some (f, rest)) ∧ (y = { x with hre := { x.hre with fetched := rest } }) ∧ (x.en Blk.ESM = true)) ∧
    (∃ (s x y : State) (t i : Nat) (f : Fetched) (rest : List Fetched), (x = s.at t) ∧ (takeTurn (fun f => wbits f.words 0 7 0 == 0x50 && wbits f.words 6 7 0 == 1 && wbits f.words 6 15 8 == 3 && x.upd.aliveBy.isNone) (busyRings x) x.hre.fetched = some (f, rest)) ∧ (y = { x with hre := { x.hre with fetched := rest } }) ∧ (x.en Blk.ESM = true) ∧ (i = wbits f.words 7 19 0) ∧ (bankOn x i = true) ∧ (x.esm.bad.contains i = false) ∧ ((x.entry i).state ≠ 2) ∧ ((x.entry i).state ≠ 5)) ∧
    (∃ (s x y : State) (t i : Nat) (f : Fetched) (rest : List Fetched), (x = s.at t) ∧ (takeTurn (fun f => wbits f.words 0 7 0 == 0x50 && wbits f.words 6 7 0 == 1 && wbits f.words 6 15 8 == 4 && x.upd.aliveBy.isNone) (busyRings x) x.hre.fetched = some (f, rest)) ∧ (y = { x with hre := { x.hre with fetched := rest } }) ∧ (x.en Blk.ESM = true) ∧ (i = wbits f.words 7 19 0) ∧ (bankOn x i = true) ∧ (x.esm.bad.contains i = false) ∧ ((x.entry i).state ≠ 3)) ∧
    (∃ (s x y : State) (t i : Nat) (f : Fetched) (rest : List Fetched), (x = s.at t) ∧ (takeTurn (fun f => wbits f.words 0 7 0 == 0x50 && wbits f.words 6 7 0 == 1 && wbits f.words 6 15 8 == 5 && x.upd.aliveBy.isNone) (busyRings x) x.hre.fetched = some (f, rest)) ∧ (y = { x with hre := { x.hre with fetched := rest } }) ∧ (x.en Blk.ESM = true) ∧ (i = wbits f.words 7 19 0) ∧ (bankOn x i = true) ∧ (x.esm.bad.contains i = false) ∧ (((x.entry i).state = 0 ∨ 5 < (x.entry i).state))) ∧
    (∃ (s x y : State) (t i : Nat) (f : Fetched) (rest : List Fetched), (x = s.at t) ∧ (takeTurn (fun f => wbits f.words 0 7 0 == 0x50 && wbits f.words 6 7 0 == 1 && wbits f.words 6 15 8 == 6 && x.upd.aliveBy.isNone) (busyRings x) x.hre.fetched = some (f, rest)) ∧ (y = { x with hre := { x.hre with fetched := rest } }) ∧ (x.en Blk.ESM = true) ∧ (i = wbits f.words 7 19 0) ∧ (bankOn x i = true) ∧ (x.esm.bad.contains i = false) ∧ ((x.entry i).state ≠ 4)) :=
  ⟨⟨{ st [(F.BLK_EN (Blk.ESM), 1)] with hre.fetched := [got 0x50 257 0] }, _, _, 0, got 0x50 257 0, [], false, rfl, by decide +kernel, rfl, by decide +kernel⟩,
   ⟨{ st [(F.BLK_EN (Blk.ESM), 1)] with flc.mem := (List.range 12).map (fun k => (dirBase + k, (0 : Byte))), hre.fetched := [got 0x50 513 0] }, _, _, 0, 0, got 0x50 513 0, [], rfl, by decide +kernel, rfl, by decide +kernel⟩,
   ⟨{ st [(F.BLK_EN (Blk.ESM), 1), (F.ESM_BANKS_ON, 0xFFFFFFFF)] with esm.entries := [(0, 0x5000000000000000)], hre.fetched := [got 0x50 769 0] }, _, 0, 0, got 0x50 769 0, [], rfl, by decide +kernel⟩,
   ⟨{ st [(F.BLK_EN (Blk.ESM), 1), (F.ESM_BANKS_ON, 0xFFFFFFFF)] with esm.entries := [(0, 0x3000000000000000)], hre.fetched := [got 0x50 1025 0] }, _, 0, 0, got 0x50 1025 0, [], rfl, by decide +kernel⟩,
   ⟨{ st [(F.BLK_EN (Blk.ESM), 1), (F.ESM_BANKS_ON, 0xFFFFFFFF)] with esm.entries := [(0, 0x5000000000000000)], hre.fetched := [got 0x50 1281 0] }, _, 0, 0, got 0x50 1281 0, [], rfl, by decide +kernel⟩,
   ⟨{ st [(F.BLK_EN (Blk.ESM), 1), (F.ESM_BANKS_ON, 0xFFFFFFFF)] with esm.entries := [(0, 0x4000000000000000)], hre.fetched := [got 0x50 1537 0] }, _, 0, 0, got 0x50 1537 0, [], rfl, by decide +kernel⟩,
   ⟨{ st [(F.BLK_EN (Blk.ESM), 1)] with hre.fetched := [got 0x50 2049 0] }, _, _, 0, got 0x50 2049 0, [], rfl, by decide +kernel, rfl, by decide +kernel⟩,
   ⟨{ st [(F.BLK_EN (Blk.ESM), 1), (F.ESM_BANKS_ON, 0xFFFFFFFF)] with esm.entries := [(0, 0x4000000000000000)], hre.fetched := [got 0x50 769 0] }, _, _, 0, 0, got 0x50 769 0, [], rfl, by decide +kernel, rfl, by decide +kernel⟩,
   ⟨{ st [(F.BLK_EN (Blk.ESM), 1), (F.ESM_BANKS_ON, 0xFFFFFFFF)] with esm.entries := [(0, 0x2000000000000000)], hre.fetched := [got 0x50 1025 0] }, _, _, 0, 0, got 0x50 1025 0, [], rfl, by decide +kernel, rfl, by decide +kernel⟩,
   ⟨{ st [(F.BLK_EN (Blk.ESM), 1), (F.ESM_BANKS_ON, 0xFFFFFFFF)] with hre.fetched := [got 0x50 1281 0] }, _, _, 0, 0, got 0x50 1281 0, [], rfl, by decide +kernel, rfl, by decide +kernel⟩,
   ⟨{ st [(F.BLK_EN (Blk.ESM), 1), (F.ESM_BANKS_ON, 0xFFFFFFFF)] with esm.entries := [(0, 0x5000000000000000)], hre.fetched := [got 0x50 1537 0] }, _, _, 0, 0, got 0x50 1537 0, [], rfl, by decide +kernel, rfl, by decide +kernel⟩⟩

/-- The hypotheses of `CipherEngine` are met, clause by clause. -/
theorem witness_CipherEngine :
    (∃ (s x y : State) (t n : Nat) (f : Fetched) (rest : List Fetched), (x = s.at t) ∧ (takeTurn (fun g => wbits g.words 0 7 0 == 0x40) (busyRings x) x.hre.fetched = some (f, rest)) ∧ (y = { x with hre := { x.hre with fetched := rest } }) ∧ (cryRefusal y f = none) ∧ (wbits f.words 6 4 4 = 0) ∧ (wbits f.words 6 11 11 = 0) ∧ (n = wbits f.words 6 10 5)) ∧
    (∃ (s x y : State) (t c : Nat) (f : Fetched) (rest : List Fetched), (x = s.at t) ∧ (takeTurn (fun g => wbits g.words 0 7 0 == 0x40) (busyRings x) x.hre.fetched = some (f, rest)) ∧ (y = { x with hre := { x.hre with fetched := rest } }) ∧ (cryRefusal y f = some c)) ∧
    (∃ (s x : State) (t : Nat) (q : CryReq) (rest : List CryReq) (k : AesKey) (z : Option (List Byte × Nat)), (x = s.at t) ∧ (x.cry.queue = q :: rest) ∧ (q.key = some k) ∧ (q.nonce = none) ∧ (z = cipherOutput (cryMode q.f) (cryTagLen q.f) k (q.f.buf.take 16) (slice q.f.buf 16 (cryAad q.f)) (slice q.f.buf (16 + cryAad q.f) (cryData q.f)) (slice q.f.buf (16 + cryAad q.f + cryData q.f) 16))) ∧
    (∃ (s x y : State) (t n : Nat) (f : Fetched) (rest : List Fetched), (x = s.at t) ∧ (takeTurn (fun g => wbits g.words 0 7 0 == 0x41) (busyRings x) x.hre.fetched = some (f, rest)) ∧ (y = { x with hre := { x.hre with fetched := rest } }) ∧ (n = wbits f.words 6 5 0) ∧ (x.cry.vault.length = 64) ∧ (wbits f.words 6 15 15 = 0)) ∧
    (∃ (s x y : State) (t n : Nat) (f : Fetched) (rest : List Fetched), (x = s.at t) ∧ (takeTurn (fun g => wbits g.words 0 7 0 == 0x41) (busyRings x) x.hre.fetched = some (f, rest)) ∧ (y = { x with hre := { x.hre with fetched := rest } }) ∧ (importRefusal y f = none) ∧ (wbits f.words 6 7 6 = 1) ∧ (n = wbits f.words 6 5 0) ∧ (x.cry.vault.length = 64) ∧ (wbits f.words 6 15 15 = 1)) ∧
    (∃ (s x : State) (t : Nat), (x = s.at t) ∧ (x.cry.imported.contains (x.get F.MAC_DRONE_BEACON_SLOT) = true) ∧ (x.cry.imported.contains (x.get F.MAC_CFG_LINK_SLOT) = true)) ∧
    (∃ (s x : State) (t : Nat), (x = s.at t) ∧ (x.cry.imported = [])) :=
  ⟨⟨{ st [(F.CRY_SLOT_ATTR_VALID 5, 1), (F.CRY_SLOT_ATTR_LIMIT_LOG2 5, 48), (F.CRY_SLOT_ATTR_MODES 5, 0xFF), (F.ESM_CFG_MASTER_SLOT, 5), (F.ESM_BANKS_ON, 0xFFFFFFFF), (F.BLK_EN Blk.CRY, 1)] with hre.fetched := [⟨0, [0x40, 32, 0, 0, 0, 0, 0xA2, 0], List.replicate 32 0⟩] }, _, _, 0, 5, ⟨0, [0x40, 32, 0, 0, 0, 0, 0xA2, 0], List.replicate 32 0⟩, [], rfl, by decide +kernel, rfl, by decide +kernel⟩,
   ⟨{ State.reset with hre.fetched := [got 0x40 0 0] }, _, _, 0, 0x0BF0, got 0x40 0 0, [], rfl, by decide +kernel, rfl, by decide +kernel⟩,
   ⟨{ State.reset with cry.queue := [⟨6, ⟨0, [0x40, 32, 0, 0, 0, 0, 3, 0], List.replicate 32 0⟩, .slot 0, some ⟨false, 0⟩, none⟩] }, _, 0, ⟨6, ⟨0, [0x40, 32, 0, 0, 0, 0, 3, 0], List.replicate 32 0⟩, .slot 0, some ⟨false, 0⟩, none⟩, [], ⟨false, 0⟩, _, rfl, by decide +kernel, rfl, rfl, rfl⟩,
   ⟨{ st [(F.BLK_EN Blk.CRY, 1), (F.SEC_CFG_PLAIN_IMPORT, 1)] with hre.fetched := [got 0x41 0x7F 0x6000] }, _, _, 0, 63, got 0x41 0x7F 0x6000, [], rfl, by decide +kernel, rfl, by decide +kernel⟩,
   ⟨{ st [(F.BLK_EN Blk.CRY, 1), (F.SEC_CFG_PLAIN_IMPORT, 1)] with hre.fetched := [got 0x41 0x807F 0x6000] }, _, _, 0, 63, got 0x41 0x807F 0x6000, [], rfl, by decide +kernel, rfl, by decide +kernel⟩,
   ⟨{ State.reset with cry.imported := [0] }, _, 0, rfl, by decide +kernel⟩,
   ⟨State.reset, _, 0, rfl, by decide +kernel⟩⟩

/-- The hypotheses of `SignatureEngine` are met, clause by clause. -/
theorem witness_SignatureEngine :
    (∃ (s x : State) (t : Nat) (f : Fetched) (rest : List Fetched), (x = s.at t) ∧ (takeTurn (fun g => wbits g.words 0 7 0 == 0x42) (busyRings x) x.hre.fetched = some (f, rest)) ∧ (x.en Blk.SIG = true) ∧ (x.on F.SEC_ALARM_ACTIVE = false) ∧ (x.cry.identity ≠ 0)) ∧
    (∃ (s x : State) (t : Nat) (f : Fetched) (rest : List Fetched), (x = s.at t) ∧ (takeTurn (fun g => wbits g.words 0 7 0 == 0x43) (busyRings x) x.hre.fetched = some (f, rest)) ∧ (x.en Blk.SIG = true) ∧ (x.on F.SEC_ALARM_ACTIVE = false) ∧ (wbits f.words 6 2 0 = 0) ∧ (f.buf.length = wbits f.words 7 15 0 + 114)) ∧
    (∃ (s x : State) (t c : Nat) (f : Fetched) (rest : List Fetched), (x = s.at t) ∧ (takeTurn (fun g => wbits g.words 0 7 0 == 0x44) (busyRings x) x.hre.fetched = some (f, rest)) ∧ (x.en Blk.SIG = true) ∧ (x.on F.SEC_ALARM_ACTIVE = false) ∧ (1 ≤ wbits f.words 6 10 0) ∧ (wbits f.words 6 10 0 ≤ 1024) ∧ (c = wbits f.words 6 13 11) ∧ (wbits f.words 6 14 14 = 1) ∧ (wbits f.words 6 15 15 = 0) ∧ (x.cry.contexts.length = 8) ∧ ((x.cry.contexts.getD c HashCtx.closed).isOpen = false)) ∧
    (∃ (s x : State) (t : Nat) (q : SigReq) (rest : List SigReq), (x = s.at t) ∧ (x.cry.sigQueue = q :: rest) ∧ (wbits q.f.words 0 7 0 = 0x42)) ∧
    (∃ (s x : State) (t : Nat) (fail : Bool) (q : SigReq) (rest : List SigReq), (x = s.at t) ∧ (x.cry.sigQueue = q :: rest) ∧ (wbits q.f.words 0 7 0 = 0x43)) ∧
    (∃ (s x : State) (t c : Nat) (q : SigReq) (rest : List SigReq), (x = s.at t) ∧ (x.cry.sigQueue = q :: rest) ∧ (wbits q.f.words 0 7 0 = 0x44) ∧ (wbits q.f.words 6 15 15 = 0) ∧ (c = wbits q.f.words 6 13 11) ∧ (x.cry.contexts.length = 8)) ∧
    (∃ (s x : State) (t : Nat) (f : Fetched) (rest : List Fetched), (x = s.at t) ∧ (takeTurn (fun f => wbits f.words 0 7 0 == 0x51 && wbits f.words 6 0 0 == 0) (busyRings x) x.hre.fetched = some (f, rest)) ∧ (x.en Blk.SIG = true) ∧ (x.on F.SEC_ALARM_ACTIVE = false) ∧ (x.cry.identity ≠ 0)) ∧
    (∃ (s x : State) (t : Nat) (f : Fetched) (rest : List Fetched), (x = s.at t) ∧ (takeTurn (fun f => wbits f.words 0 7 0 == 0x51 && wbits f.words 6 0 0 == 1) (busyRings x) x.hre.fetched = some (f, rest)) ∧ (x.en Blk.SIG = true) ∧ (x.on F.SEC_ALARM_ACTIVE = false)) ∧
    (∃ (s x y : State) (t : Nat) (f : Fetched) (rest : List Fetched), (x = s.at t) ∧ (takeTurn (fun f => wbits f.words 0 7 0 == 0x50 && wbits f.words 6 7 0 == 2 && wbits f.words 6 15 8 == 1 && x.upd.aliveBy.isNone) (busyRings x) x.hre.fetched = some (f, rest)) ∧ (ownerPending x = false) ∧ (y = { x with hre := { x.hre with fetched := rest } }) ∧ (x.en Blk.SIG = true) ∧ (x.on F.SEC_ALARM_ACTIVE = false)) ∧
    (∃ (s x : State) (t : Nat), (x = s.at t) ∧ (ownerPending x = true)) :=
  ⟨⟨{ st [(F.BLK_EN (Blk.SIG), 1)] with cry.identity := 1, hre.fetched := [got 0x42 0 0] }, _, 0, got 0x42 0 0, [], rfl, by decide +kernel⟩,
   ⟨{ st [(F.BLK_EN (Blk.SIG), 1)] with hre.fetched := [⟨0, [0x43, 114, 0, 0, 0, 0, 0, 0], List.replicate 114 0⟩] }, _, 0, ⟨0, [0x43, 114, 0, 0, 0, 0, 0, 0], List.replicate 114 0⟩, [], rfl, by decide +kernel⟩,
   ⟨{ st [(F.BLK_EN (Blk.SIG), 1)] with hre.fetched := [got 0x44 31744 0] }, _, 0, 7, got 0x44 31744 0, [], rfl, by decide +kernel⟩,
   ⟨{ State.reset with cry.sigQueue := [⟨got 0x42 0 0, 0⟩] }, _, 0, ⟨got 0x42 0 0, 0⟩, [], rfl, by decide +kernel⟩,
   ⟨{ State.reset with cry.sigQueue := [⟨got 0x43 0 0, 0⟩] }, _, 0, false, ⟨got 0x43 0 0, 0⟩, [], rfl, by decide +kernel⟩,
   ⟨{ State.reset with cry.sigQueue := [⟨got 0x44 0x7800 0, 0⟩] }, _, 0, 7, ⟨got 0x44 0x7800 0, 0⟩, [], rfl, by decide +kernel⟩,
   ⟨{ st [(F.BLK_EN (Blk.SIG), 1)] with cry.identity := 1, hre.fetched := [got 0x51 0 0] }, _, 0, got 0x51 0 0, [], rfl, by decide +kernel⟩,
   ⟨{ st [(F.BLK_EN (Blk.SIG), 1)] with hre.fetched := [got 0x51 1 0] }, _, 0, got 0x51 1 0, [], rfl, by decide +kernel⟩,
   ⟨{ st [(F.BLK_EN (Blk.SIG), 1)] with hre.fetched := [⟨0, [0x50, 182, 0, 0, 0, 0, 0x102, 0], [3, 0xFF, 0, 0, 1] ++ List.replicate 59 0 ++ [1, 0, 0, 0] ++ List.replicate 114 0⟩] }, _, _, 0, ⟨0, [0x50, 182, 0, 0, 0, 0, 0x102, 0], [3, 0xFF, 0, 0, 1] ++ List.replicate 59 0 ++ [1, 0, 0, 0] ++ List.replicate 114 0⟩, [], rfl, by decide +kernel, by decide +kernel, rfl, by decide +kernel⟩,
   ⟨{ State.reset with cry.storing := [⟨got 0x50 0x102 0, .owner 3 none, 2, true⟩] }, _, 0, rfl, by decide +kernel⟩⟩

/-- The hypotheses of `Alarms` are met, clause by clause. -/
theorem witness_Alarms :
    (∃ (s x : State) (t : Nat), (x = s.at t) ∧ (x.items = []) ∧ (x.on F.SEC_CFG_ALARM_RESET = false)) ∧
    (∃ (s x : State) (t : Nat), (x = s.at t) ∧ (x.on F.SEC_CFG_TAMP0_EN = false)) ∧
    (∃ (s x : State) (t mask present : Nat), (x = s.at t) ∧ (x.get F.SEC_ALARM_SRC &&& (63 - (mask &&& 63) ||| present % 64) = 0) ∧ (x.on F.SEC_ALARM_ACTIVE = true) ∧ (x.on F.SEC_CFG_AUTO_RESTORE = false)) ∧
    (∃ (s x : State) (t mask present : Nat), (x = s.at t) ∧ (x.get F.SEC_ALARM_SRC &&& (63 - (mask &&& 63) ||| present % 64) ≠ 0)) ∧
    (∃ (s x : State) (t : Nat), (x = s.at t) ∧ (x.on F.SEC_ALARM_ACTIVE = false)) ∧
    (∃ (s x : State) (t : Nat), (x = s.at t) ∧ (x.on F.SEC_ALARM_ACTIVE = true)) ∧
    (∃ (s x : State) (t : Nat), (x = s.at t) ∧ (x.on F.SEC_STATUS_RESTORING = true) ∧ (x.cry.store = [])) :=
  ⟨⟨State.reset, _, 0, rfl, by decide +kernel⟩,
   ⟨State.reset, _, 0, rfl, by decide +kernel⟩,
   ⟨st [(F.SEC_CFG_AUTO_RESTORE, 0), (F.SEC_ALARM_ACTIVE, 1)], _, 0, 0, 0, rfl, by decide +kernel⟩,
   ⟨st [(F.SEC_ALARM_SRC, 1)], _, 0, 0, 1, rfl, by decide +kernel⟩,
   ⟨State.reset, _, 0, rfl, by decide +kernel⟩,
   ⟨st [(F.SEC_ALARM_ACTIVE, 1)], _, 0, rfl, by decide +kernel⟩,
   ⟨st [(F.SEC_STATUS_RESTORING, 1)], _, 0, rfl, by decide +kernel⟩⟩

/-- The hypotheses of `FlashDescriptors` are met, clause by clause. -/
theorem witness_FlashDescriptors :
    (∃ (s x y : State) (t a n : Nat) (f : Fetched) (rest : List Fetched), (x = s.at t) ∧ (takeTurn (fun g => wbits g.words 0 7 0 == 0x30) (busyRings x) x.hre.fetched = some (f, rest)) ∧ (y = { x with hre := { x.hre with fetched := rest } }) ∧ (x.en Blk.FLC = true) ∧ (wbits f.words 6 26 26 = 0) ∧ (a = wbits f.words 6 25 0) ∧ (n = wbits f.words 1 15 0) ∧ (a + n ≤ 0x4000000) ∧ (a % 0x1000000 + n ≤ 0xF00000) ∧ (opOf x (bankOf a) = none) ∧ ((∀ k < n, inSuspendedBlock x (a + k) = false)) ∧ (badWords x a n [] = [])) ∧
    (∃ (s x y : State) (t : Nat) (f : Fetched) (rest : List Fetched), (x = s.at t) ∧ (takeTurn (fun g => wbits g.words 0 7 0 == 0x31) (busyRings x) x.hre.fetched = some (f, rest)) ∧ (y = { x with hre := { x.hre with fetched := rest } }) ∧ (rangeRefusal x (wbits f.words 6 25 0) f.buf.length false = none) ∧ (x.on F.FLC_STATUS_READY = true)) ∧
    (∃ (s x y : State) (t : Nat) (f : Fetched) (rest : List Fetched), (x = s.at t) ∧ (takeTurn (fun g => wbits g.words 0 7 0 == 0x31) (busyRings x) x.hre.fetched = some (f, rest)) ∧ (y = { x with hre := { x.hre with fetched := rest } }) ∧ (wbits f.words 6 25 0 + f.buf.length ≤ 0x200000) ∧ (0 < f.buf.length) ∧ (blockStart (wbits f.words 6 25 0) = blockStart (wbits f.words 6 25 0 + f.buf.length - 1))) ∧
    (∃ (s x y : State) (t a : Nat) (f : Fetched) (rest : List Fetched), (x = s.at t) ∧ (takeTurn (fun g => wbits g.words 0 7 0 == 0x32) (busyRings x) x.hre.fetched = some (f, rest)) ∧ (y = { x with hre := { x.hre with fetched := rest } }) ∧ (a = wbits f.words 6 25 0) ∧ (a % 32768 = 0) ∧ (rangeRefusal x a 32768 false = none) ∧ (x.on F.FLC_STATUS_READY = true)) ∧
    (∃ (s x y : State) (t n : Nat) (f : Fetched) (rest : List Fetched), (x = s.at t) ∧ (takeTurn (fun g => wbits g.words 0 7 0 == 0x33) (busyRings x) x.hre.fetched = some (f, rest)) ∧ (y = { x with hre := { x.hre with fetched := rest } }) ∧ (n = wbits f.words 6 4 0) ∧ (8 ≤ n) ∧ (x.on F.FLC_STATUS_READY = true) ∧ (x.get (F.FLC_CTR_VALUE n) ≠ 0xFFFFFFFF)) ∧
    (∃ (s x y : State) (t : Nat) (f : Fetched) (rest : List Fetched), (x = s.at t) ∧ (takeTurn (fun g => wbits g.words 0 7 0 == 0x33) (busyRings x) x.hre.fetched = some (f, rest)) ∧ (y = { x with hre := { x.hre with fetched := rest } }) ∧ (wbits f.words 6 4 0 < 8)) :=
  ⟨⟨{ st [(F.BLK_EN (Blk.FLC), 1)] with hre.fetched := [got 0x30 0 0] }, _, _, 0, 0, 0, got 0x30 0 0, [], rfl, by decide +kernel, rfl, by decide +kernel⟩,
   ⟨{ st [(F.FLC_STATUS_READY, 1)] with hre.fetched := [⟨0, [0x31, 0, 0, 0, 0, 0, 0x400000, 0], [0]⟩] }, _, _, 0, ⟨0, [0x31, 0, 0, 0, 0, 0, 0x400000, 0], [0]⟩, [], rfl, by decide +kernel, rfl, by decide +kernel⟩,
   ⟨{ State.reset with hre.fetched := [⟨0, [0x31, 0, 0, 0, 0, 0, 0, 0], [0]⟩] }, _, _, 0, ⟨0, [0x31, 0, 0, 0, 0, 0, 0, 0], [0]⟩, [], rfl, by decide +kernel, rfl, by decide +kernel⟩,
   ⟨{ st [(F.FLC_STATUS_READY, 1)] with hre.fetched := [got 0x32 0x3EF8000 0] }, _, _, 0, 0x3EF8000, got 0x32 0x3EF8000 0, [], rfl, by decide +kernel, rfl, by decide +kernel⟩,
   ⟨{ st [(F.FLC_STATUS_READY, 1)] with hre.fetched := [got 0x33 31 0] }, _, _, 0, 31, got 0x33 31 0, [], rfl, by decide +kernel, rfl, by decide +kernel⟩,
   ⟨{ State.reset with hre.fetched := [got 0x33 0 0] }, _, _, 0, got 0x33 0 0, [], rfl, by decide +kernel, rfl, by decide +kernel⟩⟩

/-- The hypotheses of `FlashOperations` are met, clause by clause. -/
theorem witness_FlashOperations :
    (∃ (s x : State) (t idx : Nat) (i : Item) (y : FlashInfo), (x = s.at t) ∧ (x.item idx = some i) ∧ (i.kind = .flash y) ∧ (i.decided = false) ∧ (i.started = false) ∧ (i.due ≤ x.net) ∧ (dueVoid x = none) ∧ (slotQuenched x (asn i.due) (asn i.due + 1) = false) ∧ (opOf x y.bank = none) ∧ (y.bank < x.flc.ops.length) ∧ (y.op = 2) ∧ (y.bank = bankOf y.addr) ∧ (y.addr < fieldBase) ∧ (x.esm.ckpt = none)) ∧
    (∃ (s x : State) (t b : Nat) (o : FlashOp), (x = s.at t) ∧ (opOf x b = some o) ∧ (x.flc.nested = none) ∧ (o.suspended = false) ∧ (o.op = 2) ∧ (o.item = none) ∧ (b = bankOf o.addr) ∧ (b < 4) ∧ (isWeak (x.setOp b none) (o.addr / 32768) = false) ∧ (x.on F.BLW_STATUS_ECONOMY = false) ∧ (x.flc.waiting = none) ∧ (x.flc.refreshDue = []) ∧ (x.cry.storing = []) ∧ (x.flc.ops.length = 5)) ∧
    (∃ (s x : State) (t b a : Nat) (o : FlashOp), (x = s.at t) ∧ (b = bankOf a) ∧ (opOf x b = some o) ∧ (x.flc.nested = none) ∧ (o.suspended = false) ∧ (o.op = 2) ∧ (o.item = none) ∧ (b < 4) ∧ (x.on F.FLC_CFG_GUARD_EN = false) ∧ (nextOccupancy x b = none) ∧ (x.flc.waiting = none) ∧ (x.flc.refreshDue = []) ∧ (x.cry.storing = []) ∧ (x.on F.BLW_STATUS_ECONOMY = false) ∧ (b < x.flc.ops.length) ∧ (blockStart o.addr ≠ blockStart a)) ∧
    (∃ (s x : State) (t b : Nat) (o : FlashOp), (x = s.at t) ∧ (opOf x b = some o) ∧ (o.waiting = true) ∧ (o.suspended = false) ∧ (suspendable x b o = true) ∧ (x.flc.waiting = none) ∧ (x.flc.refreshDue = []) ∧ (x.cry.storing = []) ∧ (x.on F.BLW_STATUS_ECONOMY = false) ∧ (b < x.flc.ops.length)) ∧
    (∃ (s x : State) (t b : Nat) (o : FlashOp), (x = s.at t) ∧ (opOf x b = some o) ∧ (o.suspended = true) ∧ (x.flc.nested = none) ∧ (o.lastAccess + usU (x.get F.FLC_CFG_IDLE_US) ≤ x.now) ∧ (x.on F.BLW_STATUS_ECONOMY = false) ∧ (b < x.flc.ops.length)) ∧
    (∃ (s x : State) (t b : Nat) (o : FlashOp) (d : Nat), (x = s.at t) ∧ (opOf x b = some o) ∧ (o.item = none) ∧ (o.op = 4) ∧ (o.direct = false) ∧ (nextOccupancy x b = some d) ∧ (d ≤ x.net) ∧ (x.on F.BLW_STATUS_ECONOMY = true) ∧ (b < x.flc.ops.length)) ∧
    (∃ (s x : State) (t a c : Nat) (bs : List Byte), (x = s.at t) ∧ (cachedLine x c (a / 32) = some bs)) ∧
    (∃ (s x : State) (t a c : Nat), (x = s.at t) ∧ (c < x.cpx.icache.length) ∧ (0xF00000 ≤ coreFlash x a % 0x1000000)) :=
  ⟨⟨{ st [(F.CLK_STATUS_REF_VALID, 1), (F.CLK_STATUS_REF_VALID, 1)] with items := [({ item0 with kind := .flash flash0 })] }, _, 1000000000000000, 0, { item0 with kind := .flash flash0 }, flash0, rfl, by decide +kernel⟩,
   ⟨{ State.reset with flc.ops := [some ({ op0 with suspended := false, op := 2, item := none }), some ({ op0 with suspended := false, op := 2, item := none }), some ({ op0 with suspended := false, op := 2, item := none }), some ({ op0 with suspended := false, op := 2, item := none }), some ({ op0 with suspended := false, op := 2, item := none })] }, _, 0, 0, { op0 with suspended := false, op := 2, item := none }, rfl, by decide +kernel⟩,
   ⟨{ State.reset with flc.ops := [some ({ op0 with suspended := false, op := 2, item := none }), some ({ op0 with suspended := false, op := 2, item := none }), some ({ op0 with suspended := false, op := 2, item := none }), some ({ op0 with suspended := false, op := 2, item := none }), some ({ op0 with suspended := false, op := 2, item := none })] }, _, 0, 0, 0, { op0 with suspended := false, op := 2, item := none }, rfl, by decide +kernel⟩,
   ⟨{ State.reset with flc.ops := List.replicate 5 (some { op0 with op := 2, waiting := true }) }, _, 1000000000000000, 0, { op0 with op := 2, waiting := true }, rfl, by decide +kernel⟩,
   ⟨{ State.reset with flc.ops := [some ({ op0 with suspended := true }), some ({ op0 with suspended := true }), some ({ op0 with suspended := true }), some ({ op0 with suspended := true }), some ({ op0 with suspended := true })] }, _, 1000000000000000, 0, { op0 with suspended := true }, rfl, by decide +kernel⟩,
   ⟨{ st [(F.BLW_STATUS_ECONOMY, 1)] with items := [{ item0 with kind := .flash flash0 }], flc.ops := List.replicate 5 (some { op0 with op := 4 }) }, _, 1000000000000000, 0, { op0 with op := 4 }, 0, rfl, by decide +kernel⟩,
   ⟨{ State.reset with cpx.icache := [[(0, [1, 2, 3, 4])], [], [], []] }, _, 0, 0, 0, [1, 2, 3, 4], rfl, by decide +kernel⟩,
   ⟨State.reset, _, 0, 0xF00000, 0, rfl, by decide +kernel⟩⟩

/-- The hypotheses of `DirectFlash` are met, clause by clause. -/
theorem witness_DirectFlash :
    (∃ (s x : State) (t a len : Nat) (v : Word), (x = s.at t) ∧ (x.on F.FLC_DSTAT_BUSY = false) ∧ (bits v.toNat 2 2 = 0) ∧ (a = x.get F.FLC_DADDR_ADDR) ∧ (len = bits v.toNat 28 16) ∧ (1 ≤ len) ∧ (len ≤ 4096) ∧ ((x.rd Reg.FLC_DSRC).toNat % 4 = 0) ∧ (rangeRefusal x a len false = none) ∧ (x.on F.FLC_STATUS_READY = true) ∧ (opOf x (bankOf a) = none) ∧ (endsBefore x (bankOf a) (programRunU a len) = true) ∧ (x.on F.BLW_STATUS_ECONOMY = false) ∧ (x.flc.refreshDue = []) ∧ (bankOf a < x.flc.ops.length)) ∧
    (∃ (s x : State) (t a : Nat) (v : Word), (x = s.at t) ∧ (x.on F.FLC_DSTAT_BUSY = false) ∧ (bits v.toNat 2 2 = 0) ∧ (a = x.get F.FLC_DADDR_ADDR) ∧ (a % 32768 = 0) ∧ (a < 0x4000000) ∧ (rangeRefusal x a 32768 false = none) ∧ (x.on F.FLC_STATUS_READY = true) ∧ (opOf x (bankOf a) = none) ∧ (endsBefore x (bankOf a) (eraseRunU a) = true) ∧ (x.on F.BLW_STATUS_ECONOMY = false) ∧ (x.flc.refreshDue = []) ∧ (bankOf a < x.flc.ops.length)) ∧
    (∃ (s x : State) (t : Nat) (req : Requester) (v : Word), (x = s.at t) ∧ (x.on F.FLC_DSTAT_BUSY = true)) ∧
    (∃ (s x : State) (t : Nat) (v : Word), (x = s.at t) ∧ (x.on F.FLC_DSTAT_BUSY = false) ∧ (bits v.toNat 2 2 = 0) ∧ (x.get F.FLC_DADDR_ADDR < 0x200000) ∧ (x.get F.FLC_DADDR_ADDR % 32768 = 0)) ∧
    (∃ (s x : State) (t a : Nat), (x = s.at t) ∧ (x.en Blk.FLC = true) ∧ (x.on F.FLC_SCRUB_SCRUB_EN = true) ∧ (x.get F.FLC_SCRUB_THRESH + 1 ≤ 2) ∧ (a < 0x4000000) ∧ (x.flc.ue = []) ∧ (x.flc.refreshDue = []) ∧ (x.on F.BLW_STATUS_ECONOMY = true)) ∧
    (∃ (s x : State) (t : Nat) (v : Word), (x = s.at t)) :=
  ⟨⟨st [(F.FLC_DADDR_ADDR, 0x400000), (F.FLC_STATUS_READY, 1)], _, 0, 0x400000, 1, 0x10000, rfl, by decide +kernel⟩,
   ⟨st [(F.FLC_DADDR_ADDR, 0x3EF8000), (F.FLC_STATUS_READY, 1)], _, 0, 0x3EF8000, 2, rfl, by decide +kernel⟩,
   ⟨st [(F.FLC_DSTAT_BUSY, 1)], _, 0, .host, 0, rfl, by decide +kernel⟩,
   ⟨State.reset, _, 0, 0, rfl, by decide +kernel⟩,
   ⟨st [(F.BLK_EN (Blk.FLC), 1), (F.FLC_SCRUB_SCRUB_EN, 1), (F.BLW_STATUS_ECONOMY, 1)], _, 0, 0, rfl, by decide +kernel⟩,
   ⟨State.reset, _, 0, 0, rfl⟩⟩

/-- The hypotheses of `SkeinLines` are met, clause by clause. -/
theorem witness_SkeinLines :
    (∃ (s x : State) (t p pair dist : Nat), (x = s.at t) ∧ (x.skn.ports.length = 3) ∧ (portOn x p = true) ∧ (linkOf x p = 0) ∧ ((x.port p).testAt ≤ x.now)) ∧
    (∃ (s x : State) (t p fault pair dist : Nat), (x = s.at t) ∧ (x.skn.ports.length = 3) ∧ (portOn x p = true) ∧ (linkOf x p ≤ 1) ∧ ((x.port p).testAt ≤ x.now) ∧ (1 ≤ fault) ∧ (fault ≤ 5)) ∧
    (∃ (s x : State) (t p pair : Nat) (v : Bool), (x = s.at t) ∧ (x.skn.ports.length = 3) ∧ (portOn x p = true) ∧ (linkOf x p ≤ 1)) ∧
    (∃ (s x : State) (t p : Nat), (x = s.at t) ∧ (portOn x p = true) ∧ (x.get (F.SKN_PORT_CFG_RATE p) = 2) ∧ ((x.port p).locked = false) ∧ ((x.port p).unlockedAt + secondU ≤ x.now) ∧ (linkOf x p ≠ 5)) ∧
    (∃ (s x : State) (t p : Nat) (low inv : Bool), (x = s.at t) ∧ (x.skn.ports.length = 3) ∧ (portOn x p = true) ∧ (linkOf x p = 1) ∧ (x.get (F.SKN_PORT_CFG_RATE p) = 2)) ∧
    (∃ (s x : State) (t p : Nat) (m : Mark), (x = s.at t) ∧ (portOn x p = true) ∧ (linkOf x p = 1) ∧ ((x.port p).peer = some m) ∧ (16 ≤ (x.port p).marks)) ∧
    (∃ (s x : State) (t p : Nat), (x = s.at t) ∧ (linkUp x p = true)) ∧
    (∃ (s x : State) (t : Nat), (x = s.at t)) :=
  ⟨⟨st [(F.BLK_EN Blk.SKN, 1), (F.SKN_PORT_CFG_EN 2, 1), (F.SKN_PORT_STATUS_LINK 2, 0)], _, 1000000000000000, 2, 0, 0, rfl, by decide +kernel⟩,
   ⟨st [(F.BLK_EN Blk.SKN, 1), (F.SKN_PORT_CFG_EN 2, 1)], _, 1000000000000000, 2, 5, 0, 0, rfl, by decide +kernel⟩,
   ⟨st [(F.BLK_EN Blk.SKN, 1), (F.SKN_PORT_CFG_EN 2, 1)], _, 0, 2, 0, false, rfl, by decide +kernel⟩,
   ⟨{ st [(F.BLK_EN Blk.SKN, 1), (F.SKN_PORT_CFG_EN 2, 1), (F.SKN_PORT_CFG_RATE 2, 2)] with skn.ports := ports { Port.reset with locked := false } }, _, 1000000000000000, 2, rfl, by decide +kernel⟩,
   ⟨st [(F.BLK_EN Blk.SKN, 1), (F.SKN_PORT_CFG_EN 2, 1), (F.SKN_PORT_STATUS_LINK 2, 1), (F.SKN_PORT_CFG_RATE 2, 2)], _, 0, 2, false, false, rfl, by decide +kernel⟩,
   ⟨{ st [(F.BLK_EN Blk.SKN, 1), (F.SKN_PORT_CFG_EN 2, 1), (F.SKN_PORT_STATUS_LINK 2, 1)] with skn.ports := ports { Port.reset with peer := some mark0, marks := 16 } }, _, 0, 2, mark0, rfl, by decide +kernel⟩,
   ⟨st [(F.BLK_EN Blk.SKN, 1), (F.SKN_PORT_CFG_EN 2, 1), (F.SKN_PORT_STATUS_LINK 2, 2)], _, 0, 2, rfl, by decide +kernel⟩,
   ⟨State.reset, _, 0, rfl⟩⟩

/-- The hypotheses of `SkeinFrames` are met, clause by clause. -/
theorem witness_SkeinFrames :
    (∃ (s x : State) (t f p : Nat) (xo : Int), (x = s.at t) ∧ (x.en Blk.SKN = true) ∧ (f = x.net / frameUnit) ∧ (f ≠ x.skn.lastFrame) ∧ (f % 16 ≠ 0) ∧ (x.skn.ports.length = 3)) ∧
    (∃ (s x : State) (t : Nat) (xo : Int), (x = s.at t) ∧ (x.net / frameUnit = x.skn.lastFrame)) ∧
    (∃ (s x : State) (t p : Nat) (m : Mark), (x = s.at t) ∧ (x.skn.ports.length = 3) ∧ (portOn x p = true) ∧ (linkOf x p = 1) ∧ ((x.port p).locked = true)) ∧
    (∃ (s x : State) (t p n : Nat) (m : Mark), (x = s.at t) ∧ (x.skn.ports.length = 3) ∧ (portOn x p = true) ∧ (1 ≤ linkOf x p) ∧ (linkOf x p ≠ 5) ∧ ((x.port p).locked = true)) ∧
    (∃ (s x : State) (t p : Nat) (a b : Int), (x = s.at t) ∧ ((x.port p).t21 = some a) ∧ (linkUp x p = true) ∧ (sknState x ≠ 3)) ∧
    (∃ (s x : State) (t p : Nat) (a b : Int), (x = s.at t) ∧ ((x.port p).t21 = some a) ∧ (linkUp x p = true) ∧ (sknState x = 3) ∧ (upPort x = p) ∧ (x.skn.thetas.length < 16)) :=
  ⟨⟨st [(F.BLK_EN (Blk.SKN), 1)], _, frameUnit, 1, 0, 0, rfl, by decide +kernel⟩,
   ⟨State.reset, _, 0, 0, rfl, by decide +kernel⟩,
   ⟨{ st [(F.BLK_EN Blk.SKN, 1), (F.SKN_PORT_CFG_EN 2, 1), (F.SKN_PORT_STATUS_LINK 2, 1)] with skn.ports := ports { Port.reset with locked := true } }, _, 0, 2, mark0, rfl, by decide +kernel⟩,
   ⟨{ st [(F.SKN_PORT_STATUS_LINK 2, 1), (F.BLK_EN Blk.SKN, 1), (F.SKN_PORT_CFG_EN 2, 1)] with skn.ports := ports { Port.reset with locked := true } }, _, 0, 2, 0, mark0, rfl, by decide +kernel⟩,
   ⟨{ st [(F.BLK_EN Blk.SKN, 1), (F.SKN_PORT_CFG_EN 2, 1), (F.SKN_PORT_STATUS_LINK 2, 2)] with skn.ports := ports { Port.reset with t21 := some 5 } }, _, 0, 2, 5, 0, rfl, by decide +kernel⟩,
   ⟨{ st [(F.SKN_STATUS_UPPORT, 2), (F.BLK_EN Blk.SKN, 1), (F.SKN_PORT_CFG_EN 2, 1), (F.SKN_PORT_STATUS_LINK 2, 2), (F.SKN_STATUS_STATE, 3)] with skn.ports := ports { Port.reset with t21 := some 5 } }, _, 0, 2, 5, 0, rfl, by decide +kernel⟩⟩

/-- The hypotheses of `SkeinElections` are met, clause by clause. -/
theorem witness_SkeinElections :
    (∃ (s x : State) (t p : Nat) (h : Cand) (d : Option Cand), (x = s.at t) ∧ (x.skn.ports.length = 3) ∧ (linkUp x p = true)) ∧
    (∃ (s x : State) (t : Nat), (x = s.at t) ∧ (sknState x = 4) ∧ (x.skn.incumbent = false) ∧ (x.skn.headSince + 1024 * frameUnit ≤ x.now)) ∧
    (∃ (s x : State) (t : Nat), (x = s.at t) ∧ (sknState x = 2) ∧ (x.skn.viewAt + 1024 * frameUnit ≤ x.now) ∧ (x.skn.viewHead = none)) ∧
    (∃ (s x : State) (t : Nat) (c : Cand), (x = s.at t) ∧ (sknState x = 2) ∧ (x.skn.viewAt + 1024 * frameUnit ≤ x.now) ∧ (x.skn.viewHead = some c) ∧ (c.id = sknId x)) ∧
    (∃ (s x : State) (t : Nat), (x = s.at t) ∧ (sknState x = 5) ∧ (x.skn.orphanSince + 16 * frameUnit ≤ x.now) ∧ (x.on F.SKN_STATUS_DEPUTY = true)) ∧
    (∃ (s x : State) (t : Nat), (x = s.at t) ∧ (sknState x = 5) ∧ (x.skn.orphanSince + 16 * frameUnit ≤ x.now) ∧ (x.on F.SKN_STATUS_DEPUTY = false)) ∧
    (∃ (s x : State) (t : Nat), (x = s.at t) ∧ (sknState x ≠ 5)) :=
  ⟨⟨st [(F.BLK_EN Blk.SKN, 1), (F.SKN_PORT_CFG_EN 2, 1), (F.SKN_PORT_STATUS_LINK 2, 2)], _, 0, 2, cand0, none, rfl, by decide +kernel⟩,
   ⟨st [(F.SKN_STATUS_STATE, 4)], _, 1000000000000000, rfl, by decide +kernel⟩,
   ⟨st [(F.SKN_STATUS_STATE, 2)], _, 1000000000000000, rfl, by decide +kernel⟩,
   ⟨{ st [(F.SKN_STATUS_STATE, 2)] with skn.viewHead := some cand0 }, _, 1000000000000000, cand0, rfl, by decide +kernel⟩,
   ⟨st [(F.SKN_STATUS_STATE, 5), (F.SKN_STATUS_DEPUTY, 1)], _, 1000000000000000, rfl, by decide +kernel⟩,
   ⟨st [(F.SKN_STATUS_STATE, 5)], _, 1000000000000000, rfl, by decide +kernel⟩,
   ⟨State.reset, _, 0, rfl, by decide +kernel⟩⟩

/-- The hypotheses of `SkeinTree` are met, clause by clause. -/
theorem witness_SkeinTree :
    (∃ (s x : State) (t p : Nat) (e : Enum), (x = s.at t) ∧ (linkUp x p = true) ∧ (e.id ≠ sknId x) ∧ (memberOf x e.id = none)) ∧
    (∃ (s x : State) (t p : Nat) (e : Enum), (x = s.at t) ∧ (linkUp x p = true) ∧ (e.id = sknId x)) ∧
    (∃ (s x : State) (t p id port : Nat), (x = s.at t) ∧ (linkUp x p = true)) ∧
    (∃ (s x : State) (t : Nat), (x = s.at t) ∧ (x.en Blk.SKN = true) ∧ (sknState x = 3) ∧ (upPort x ≠ 3) ∧ (x.skn.enumAt ≤ x.now) ∧ (upPort x < x.skn.ports.length)) ∧
    (∃ (s x : State) (t id : Nat), (x = s.at t)) ∧
    (∃ (s x : State) (t p seq : Nat), (x = s.at t) ∧ (linkUp x p = true) ∧ (sknState x ≠ 4) ∧ (x.skn.quenchHead ≠ some (x.get F.SKN_STATUS_HEAD_ID)) ∧ (x.on F.SKN_STATUS_SQUENCH = false)) ∧
    (∃ (s x : State) (t p head seq : Nat) (set : Bool), (x = s.at t) ∧ (head ≠ x.get F.SKN_STATUS_HEAD_ID)) ∧
    (∃ (s x : State) (t : Nat), (x = s.at t) ∧ (x.on F.SKN_STATUS_SQUENCH = true)) :=
  ⟨⟨st [(F.BLK_EN Blk.SKN, 1), (F.SKN_PORT_CFG_EN 2, 1), (F.SKN_PORT_STATUS_LINK 2, 2)], _, 0, 2, { enum0 with id := 7 }, rfl, by decide +kernel⟩,
   ⟨st [(F.BLK_EN Blk.SKN, 1), (F.SKN_PORT_CFG_EN 2, 1), (F.SKN_PORT_STATUS_LINK 2, 2)], _, 0, 2, enum0, rfl, by decide +kernel⟩,
   ⟨st [(F.BLK_EN Blk.SKN, 1), (F.SKN_PORT_CFG_EN 2, 1), (F.SKN_PORT_STATUS_LINK 2, 2)], _, 0, 2, 0, 0, rfl, by decide +kernel⟩,
   ⟨st [(F.SKN_STATUS_UPPORT, 2), (F.BLK_EN (Blk.SKN), 1), (F.SKN_STATUS_STATE, 3)], _, 1000000000000000, rfl, by decide +kernel⟩,
   ⟨State.reset, _, 0, 0, rfl⟩,
   ⟨st [(F.BLK_EN Blk.SKN, 1), (F.SKN_PORT_CFG_EN 0, 1), (F.SKN_PORT_STATUS_LINK 0, 2)], _, 0, 0, 0, rfl, by decide +kernel⟩,
   ⟨State.reset, _, 0, 0, 9, 0, false, rfl, by decide +kernel⟩,
   ⟨st [(F.SKN_STATUS_SQUENCH, 1)], _, 0, rfl, by decide +kernel⟩⟩

/-- The hypotheses of `SkeinMessages` are met, clause by clause. -/
theorem witness_SkeinMessages :
    (∃ (s x : State) (t : Nat) (f : Fetched) (rest : List Fetched), (x = s.at t) ∧ (takeTurn (fun g => wbits g.words 0 7 0 == 0x60) (busyRings x) x.hre.fetched = some (f, rest)) ∧ (x.en Blk.SKN = true) ∧ (wbits f.words 6 10 10 = 0) ∧ (wbits f.words 6 11 11 = 0) ∧ (wbits f.words 6 9 0 ≠ sknId x) ∧ ((heldMessages x).length < 1024) ∧ (heldBytes x + f.buf.length ≤ 524288)) ∧
    (∃ (s x y : State) (t : Nat) (f : Fetched) (rest : List Fetched), (x = s.at t) ∧ (takeTurn (fun g => wbits g.words 0 7 0 == 0x61) (busyRings x) x.hre.fetched = some (f, rest)) ∧ (y = { x with hre := { x.hre with fetched := rest } }) ∧ (x.en Blk.SKN = true) ∧ (wbits f.words 6 11 10 < 2) ∧ (sknState x ≠ 4)) ∧
    (∃ (s x : State) (t : Nat) (f : Fetched) (rest : List Fetched), (x = s.at t) ∧ (takeTurn (fun g => wbits g.words 0 7 0 == 0x61) (busyRings x) x.hre.fetched = some (f, rest)) ∧ (x.en Blk.SKN = true) ∧ (wbits f.words 6 11 10 < 2) ∧ (sknState x = 4) ∧ (wbits f.words 6 9 0 ≠ sknId x) ∧ (slotRefuses x (x.get F.SKN_CFG_RESET_SLOT) 2 = none) ∧ (slotMode x (x.get F.SKN_CFG_RESET_SLOT) 6 = true) ∧ ((heldMessages x).length < 1024) ∧ (heldBytes x + 16 ≤ 524288)) ∧
    (∃ (s x : State) (t idx : Nat) (i : Item) (k : SkeinInfo), (x = s.at t) ∧ (x.item idx = some i) ∧ (i.kind = .skein k) ∧ (i.decided = false) ∧ (i.started = false) ∧ (k.held = false) ∧ (isDue x i = true) ∧ (x.net / frameUnit = i.due / frameUnit) ∧ (dueVoid x = none) ∧ (slotQuenched x (asn i.due) (asn i.due + 1) = false) ∧ (pathLost x k = false) ∧ (k.kind = 0) ∧ (k.bcast = true) ∧ (i.owner = .host)) ∧
    (∃ (s x : State) (t idx : Nat) (i : Item) (k : SkeinInfo), (x = s.at t) ∧ (x.item idx = some i) ∧ (i.kind = .skein k) ∧ (i.decided = false) ∧ (i.started = false) ∧ (k.held = false) ∧ (isDue x i = true) ∧ (x.net / frameUnit = i.due / frameUnit) ∧ (dueVoid x = none) ∧ (slotQuenched x (asn i.due) (asn i.due + 1) = false) ∧ (pathLost x k = true)) ∧
    (∃ (s x : State) (t p : Nat) (m : SknMsg) (fail : Bool), (x = s.at t) ∧ (linkUp x p = true) ∧ (linkOf x p ≠ 4)) ∧
    (∃ (s x : State) (t p : Nat) (m : SknMsg), (x = s.at t) ∧ (linkUp x p = true) ∧ (linkOf x p ≠ 4) ∧ (m.bcast = false) ∧ (m.dest = sknId x) ∧ (m.kind = 0) ∧ (m.channel = 0) ∧ (wasDelivered x m = false) ∧ (routeTo x m.origin = none)) ∧
    (∃ (s x : State) (t seq : Nat) (i : Item) (k : SkeinInfo), (x = s.at t) ∧ (x.items.find? (fun (i : Item) => !i.decided && i.started && (match i.kind with | .skein k => k.seq == seq && !k.bcast | _ => false)) = some i) ∧ (i.kind = .skein k) ∧ (x.item i.idx = some i) ∧ (i.owner = .host) ∧ (k.resends = 0) ∧ (k.held = false)) ∧
    (∃ (s x : State) (t idx d : Nat) (i : Item) (k : SkeinInfo), (x = s.at t) ∧ (x.item idx = some i) ∧ (i.kind = .skein k) ∧ (k.sentAt = some d) ∧ (i.decided = false) ∧ (k.resendAt = none) ∧ (x.on (F.SKN_PORT_STATUS_LOW_RATE k.port) = false) ∧ (d + 64 * frameUnit ≤ x.net)) ∧
    (∃ (s x : State) (t idx : Nat) (i : Item) (k : SkeinInfo), (x = s.at t) ∧ (x.item idx = some i) ∧ (i.kind = .skein k) ∧ (i.decided = false) ∧ (i.owner = .host) ∧ (i.committed + msU (x.get F.SKN_MSG_HOLD_MS) ≤ x.net) ∧ (k.lastFail = 0)) :=
  ⟨⟨{ st [(F.BLK_EN (Blk.SKN), 1)] with hre.fetched := [got 0x60 5 0] }, _, 0, got 0x60 5 0, [], rfl, by decide +kernel⟩,
   ⟨{ st [(F.BLK_EN (Blk.SKN), 1)] with hre.fetched := [got 0x61 0 0] }, _, _, 0, got 0x61 0 0, [], rfl, by decide +kernel, rfl, by decide +kernel⟩,
   ⟨{ st [(F.CRY_SLOT_ATTR_VALID 5, 1), (F.CRY_SLOT_ATTR_LIMIT_LOG2 5, 48), (F.CRY_SLOT_ATTR_MODES 5, 0xFF), (F.ESM_CFG_MASTER_SLOT, 5), (F.ESM_BANKS_ON, 0xFFFFFFFF), (F.SKN_CFG_RESET_SLOT, 5), (F.BLK_EN (Blk.SKN), 1), (F.SKN_STATUS_STATE, 4)] with hre.fetched := [got 0x61 5 0] }, _, 0, got 0x61 5 0, [], rfl, by decide +kernel⟩,
   ⟨{ st [(F.CLK_STATUS_REF_VALID, 1), (F.SKN_STATUS_STATE, 4), (F.CLK_STATUS_REF_VALID, 1)] with items := [({ item0 with kind := .skein { skein0 with bcast := true } })] }, _, 0, 0, { item0 with kind := .skein { skein0 with bcast := true } }, { skein0 with bcast := true }, rfl, by decide +kernel⟩,
   ⟨{ st [(F.CLK_STATUS_REF_VALID, 1), (F.CLK_STATUS_REF_VALID, 1)] with items := [({ item0 with kind := .skein skein0 })] }, _, 0, 0, { item0 with kind := .skein skein0 }, skein0, rfl, by decide +kernel⟩,
   ⟨st [(F.BLK_EN Blk.SKN, 1), (F.SKN_PORT_CFG_EN 2, 1), (F.SKN_PORT_STATUS_LINK 2, 2)], _, 0, 2, msg0, false, rfl, by decide +kernel⟩,
   ⟨st [(F.BLK_EN Blk.SKN, 1), (F.SKN_PORT_CFG_EN 2, 1), (F.SKN_PORT_STATUS_LINK 2, 2)], _, 0, 2, msg0, rfl, by decide +kernel⟩,
   ⟨{ State.reset with items := [({ item0 with started := true, kind := .skein skein0 })] }, _, 0, 0, { item0 with started := true, kind := .skein skein0 }, skein0, rfl, by decide +kernel⟩,
   ⟨{ State.reset with items := [({ item0 with kind := .skein { skein0 with sentAt := some 0 } })] }, _, 1000000000000000, 0, 0, { item0 with kind := .skein { skein0 with sentAt := some 0 } }, { skein0 with sentAt := some 0 }, rfl, by decide +kernel⟩,
   ⟨{ State.reset with items := [({ item0 with kind := .skein skein0 })] }, _, 1000000000000000, 0, { item0 with kind := .skein skein0 }, skein0, rfl, by decide +kernel⟩⟩

/-- The hypotheses of `SkeinRemote` are met, clause by clause. -/
theorem witness_SkeinRemote :
    (∃ (s x : State) (t : Nat) (m : SknMsg), (x = s.at t) ∧ (x.en Blk.SKN = true) ∧ (wasDelivered x m = false) ∧ (routeTo x m.origin = none)) ∧
    (∃ (s x : State) (t a : Nat), (x = s.at t) ∧ (x.skn.resetPending = some (a, 1)) ∧ (a ≤ x.net)) ∧
    (∃ (s x : State) (t a : Nat), (x = s.at t) ∧ (x.skn.resetPending = some (a, 0)) ∧ (a ≤ x.net)) ∧
    (∃ (s x : State) (t a k : Nat), (x = s.at t) ∧ (x.skn.resetPending = some (a, k)) ∧ (x.net < a)) ∧
    (∃ (s x : State) (t addr fcnt first : Nat) (frame : List Byte) (others : List (Nat × Nat)) (b : RxBuf) (rest : List RxBuf), (x = s.at t) ∧ (addr = uplinkAddr (leNat (slice frame 2 3)) (leNat (slice frame 5 3))) ∧ (fcnt = leNat (slice frame 8 4)) ∧ (sknState x = 4) ∧ (copyList x addr fcnt others ≠ []) ∧ (firstReception x addr fcnt first ≤ x.now) ∧ (x.now ≤ firstReception x addr fcnt first + 2 ^ x.get F.MAC_DRONE_PERIOD_LOG2 * slotU) ∧ (x.skn.merged.any (fun y => y.1 == addr && y.2.1 == fcnt) = false) ∧ (x.en Blk.HRE = true) ∧ (x.hre.buffers = b :: rest) ∧ (reservedBuffers x < x.hre.buffers.length) ∧ (ringUp x (16 + x.get F.SKN_CFG_CRING) = true) ∧ (1 ≤ freeSpace x (16 + x.get F.SKN_CFG_CRING) 9)) ∧
    (∃ (s x : State) (t addr fcnt first : Nat) (frame : List Byte) (others : List (Nat × Nat)) (fail : Bool), (x = s.at t) ∧ (addr = uplinkAddr (leNat (slice frame 2 3)) (leNat (slice frame 5 3))) ∧ (fcnt = leNat (slice frame 8 4)) ∧ (x.skn.merged.any (fun y => y.1 == addr && y.2.1 == fcnt) = true)) ∧
    (∃ (s x : State) (t p kind origin seq : Nat) (v : Word), (x = s.at t) ∧ (p ∈ treePorts x) ∧ (linkOf x p ≠ 4) ∧ (x.en Blk.EVF = true)) ∧
    (∃ (s x : State) (t p q origin seq : Nat) (v : Word), (x = s.at t) ∧ (x.skn.ports.length = 3) ∧ (p ∈ treePorts x) ∧ (q ∈ treePorts x) ∧ (q ≠ p) ∧ (x.en Blk.EVF = false)) :=
  ⟨⟨st [(F.SKN_CFG_RESET_EN, 1), (F.SKN_STATUS_STATE, 3), (F.CRY_SLOT_ATTR_VALID 5, 1), (F.CRY_SLOT_ATTR_LIMIT_LOG2 5, 48), (F.CRY_SLOT_ATTR_MODES 5, 0xFF), (F.SKN_CFG_RESET_SLOT, 5), (F.BLK_EN (Blk.SKN), 1)], _, 0, { msg0 with time := 1 }, rfl, by decide +kernel⟩,
   ⟨{ State.reset with skn.resetPending := some (0, 1) }, _, 1000000000000000, 0, rfl, by decide +kernel⟩,
   ⟨{ State.reset with skn.resetPending := some (0, 0) }, _, 1000000000000000, 0, rfl, by decide +kernel⟩,
   ⟨{ State.reset with skn.resetPending := some (1, 1) }, _, 0, 1, 1, rfl, by decide +kernel⟩,
   ⟨{ st [(F.SKN_CFG_CRING, 0), (F.HRE_RING_CFG_EN 16, 1), (F.HRE_RING_CFG_SIZE_LOG2 16, 5), (F.BLK_EN Blk.HRE, 1), (F.SKN_STATUS_STATE, 4)] with hre.buffers := [buf0] }, _, 0, _, _, 0, [], [(0, 0)], buf0, [], rfl, rfl, rfl, by decide +kernel⟩,
   ⟨{ State.reset with skn.merged := [(0, 0, 0)] }, _, 0, 0, 0, 0, [], [], false, rfl, by decide +kernel⟩,
   ⟨{ st [(F.BLK_EN Blk.SKN, 1), (F.SKN_PORT_CFG_EN 2, 1), (F.SKN_PORT_STATUS_LINK 2, 3), (F.BLK_EN (Blk.EVF), 1)] with skn.ports := ports { Port.reset with tree := true } }, _, 0, 2, 0, 0, 0, 0, rfl, by decide +kernel⟩,
   ⟨{ st [(F.BLK_EN Blk.SKN, 1), (F.SKN_PORT_CFG_EN 2, 1), (F.SKN_PORT_STATUS_LINK 2, 3), (F.SKN_PORT_CFG_EN 1, 1), (F.SKN_PORT_STATUS_LINK 1, 2)] with skn.ports := ports { Port.reset with tree := true } }, _, 0, 2, 1, 0, 0, 0, rfl, by decide +kernel⟩⟩

/-- The hypotheses of `EventFabric` are met, clause by clause. -/
theorem witness_EventFabric :
    (∃ (s x : State) (t e u : Nat) (rest : List (Nat × Nat)), (x = s.at t) ∧ (x.evf.waiting = []) ∧ (x.evf.raised = (e, u) :: rest) ∧ ((x.en Blk.EVF = false ∨ 60 ≤ e ∨ x.on (F.EVF_PUB_EN e) = false))) ∧
    (∃ (s x : State) (t e u ch : Nat) (rest : List (Nat × Nat)), (x = s.at t) ∧ (x.evf.waiting = []) ∧ (x.evf.raised = (e, u) :: rest) ∧ (x.en Blk.EVF = true) ∧ (e < 60) ∧ (x.on (F.EVF_PUB_EN e) = true) ∧ (ch = x.get (F.EVF_PUB_CHANNEL e)) ∧ (x.evf.lastFire.any (fun p => p.1 == ch && p.2 == fabricCycle x u) = false) ∧ (groupEnabled x (fabricCycle x u) (groupOf ch) = false)) ∧
    (∃ (s x : State) (t e u ch : Nat) (rest : List (Nat × Nat)), (x = s.at t) ∧ (x.evf.waiting = []) ∧ (x.evf.raised = (e, u) :: rest) ∧ (x.en Blk.EVF = true) ∧ (e < 60) ∧ (x.on (F.EVF_PUB_EN e) = true) ∧ (ch = x.get (F.EVF_PUB_CHANNEL e)) ∧ (x.evf.lastFire.any (fun p => p.1 == ch && p.2 == fabricCycle x u) = false) ∧ (groupEnabled x (fabricCycle x u) (groupOf ch) = true) ∧ (x.evf.recent = []) ∧ (1 < x.get F.EVF_MON_LIMIT) ∧ (boundTo x (fabricCycle x u) ch = []) ∧ (subscribers x ch = [0]) ∧ (x.evf.lastTrigger = []) ∧ (x.en Blk.TMB = true) ∧ (tmbRun x 0 = false) ∧ (x.tmb.snaps = List.replicate 16 none)) ∧
    (∃ (s x : State) (t n : Nat), (x = s.at t) ∧ (x.en Blk.EVF = true) ∧ (n < 32) ∧ (x.on (F.EVF_SKPUB_EN n) = true) ∧ (x.get (F.EVF_SKPUB_SOURCE n) = 0)) ∧
    (∃ (s x : State) (t : Nat), (x = s.at t) ∧ (x.en Blk.EVF = true) ∧ ((List.range 32).all (fun n => !x.on (F.EVF_SKPUB_EN n)) = true)) ∧
    (∃ (s x : State) (t : Nat) (v : Word), (x = s.at t) ∧ (fabricCycle x x.now ≠ x.evf.groupCycle)) ∧
    (∃ (s x : State) (t : Nat) (v : Word), (x = s.at t) ∧ (fabricCycle x x.now ≠ x.evf.groupCycle)) ∧
    (∃ (s x : State) (t a : Nat) (v : Word), (x = s.at t) ∧ (isPubSub a = true) ∧ (x.en Blk.EVF = true) ∧ (pubSubBad a v = true)) ∧
    (∃ (s x : State) (t a : Nat) (v : Word), (x = s.at t) ∧ (isPubSub a = true) ∧ (pubSubBad a v = false)) :=
  ⟨⟨{ State.reset with evf.raised := [(60, 0)] }, _, 0, 60, 0, [], rfl, by decide +kernel⟩,
   ⟨{ st [(F.EVF_PUB_EN 59, 1), (F.EVF_GROUPS_EN, 0), (F.BLK_EN (Blk.EVF), 1), (F.EVF_PUB_EN 59, 1)] with evf.raised := [(59, 0)], evf.groupOld := 0 }, _, 0, 59, 0, 0, [], rfl, by decide +kernel⟩,
   ⟨{ st [(F.EVF_PUB_EN 59, 1), (F.EVF_MON_LIMIT, 2), (F.EVF_SUB_EN 0, 1), (F.BLK_EN (Blk.EVF), 1), (F.EVF_PUB_EN 59, 1), (F.BLK_EN (Blk.TMB), 1)] with evf.raised := [(59, 0)], tmb.snaps := List.replicate 16 none }, _, 0, 59, 0, 0, [], rfl, by decide +kernel⟩,
   ⟨st [(F.BLK_EN (Blk.EVF), 1), (F.EVF_SKPUB_EN 31, 1), (F.EVF_SKPUB_SOURCE 31, 0)], _, 0, 31, rfl, by decide +kernel⟩,
   ⟨st [(F.BLK_EN (Blk.EVF), 1)], _, 0, rfl, by decide +kernel⟩,
   ⟨State.reset, _, 0, 0, rfl, by decide +kernel⟩,
   ⟨State.reset, _, 0, 0, rfl, by decide +kernel⟩,
   ⟨st [(F.BLK_EN (Blk.EVF), 1)], _, 0, Reg.EVF_PUB 63, 0x80000000, rfl, by decide +kernel⟩,
   ⟨State.reset, _, 0, Reg.EVF_PUB 63, 0, rfl, by decide +kernel⟩⟩

/-- The hypotheses of `TimerBank` are met, clause by clause. -/
theorem witness_TimerBank :
    (∃ (s x : State) (t n : Nat), (x = s.at t) ∧ (n < 16) ∧ (x.en Blk.TMB = true) ∧ (tmbRun x n = true) ∧ (x.tmb.tickAt.getD n 0 ≤ x.now) ∧ (x.get (F.TMB_CH_COUNT_COUNT n) < x.get (F.TMB_CH_PERIOD_PERIOD n))) ∧
    (∃ (s x : State) (t n : Nat), (x = s.at t) ∧ (n < 16) ∧ (x.en Blk.TMB = true) ∧ (tmbRun x n = true) ∧ (x.tmb.tickAt.getD n 0 ≤ x.now) ∧ (x.get (F.TMB_CH_COUNT_COUNT n) = x.get (F.TMB_CH_PERIOD_PERIOD n))) ∧
    (∃ (s x : State) (t n : Nat), (x = s.at t) ∧ (n < 16) ∧ (x.en Blk.TMB = true) ∧ (x.tmb.snaps.getD n none = none) ∧ (tmbRun x n = false)) ∧
    (∃ (s x : State) (t n : Nat), (x = s.at t) ∧ (n < 16) ∧ (x.en Blk.TMB = true)) ∧
    (∃ (s x : State) (t n : Nat), (x = s.at t) ∧ (n < 16) ∧ (x.en Blk.TMB = true)) ∧
    (∃ (s x : State) (t : Nat) (v : Word), (x = s.at t) ∧ (x.en Blk.TMB = false)) ∧
    (∃ (s x : State) (t : Nat), (x = s.at t)) ∧
    (∃ (s x : State) (t n : Nat) (v : Word), (x = s.at t) ∧ (n < 16) ∧ (tmbRun x n = true)) ∧
    (∃ (s x : State) (t n : Nat) (v : Word), (x = s.at t) ∧ (n < 16) ∧ (tmbRun x n = false)) :=
  ⟨⟨st [(F.TMB_CH_PERIOD_PERIOD 15, 5), (F.BLK_EN (Blk.TMB), 1), (F.TMB_CH_STATUS_RUN 15, 1)], _, 1000000000000000, 15, rfl, by decide +kernel⟩,
   ⟨st [(F.TMB_CH_PERIOD_PERIOD 15, 0), (F.BLK_EN (Blk.TMB), 1), (F.TMB_CH_STATUS_RUN 15, 1)], _, 1000000000000000, 15, rfl, by decide +kernel⟩,
   ⟨st [(F.BLK_EN (Blk.TMB), 1)], _, 0, 15, rfl, by decide +kernel⟩,
   ⟨st [(F.BLK_EN (Blk.TMB), 1)], _, 0, 15, rfl, by decide +kernel⟩,
   ⟨st [(F.BLK_EN (Blk.TMB), 1)], _, 0, 15, rfl, by decide +kernel⟩,
   ⟨State.reset, _, 0, 0, rfl, by decide +kernel⟩,
   ⟨State.reset, _, 0, rfl⟩,
   ⟨st [(F.TMB_CH_STATUS_RUN 15, 1)], _, 0, 15, 0, rfl, by decide +kernel⟩,
   ⟨State.reset, _, 0, 15, 0, rfl, by decide +kernel⟩⟩

/-- The hypotheses of `OneShotAndPrescaler` are met, clause by clause. -/
theorem witness_OneShotAndPrescaler :
    (∃ (s x : State) (t u n : Nat), (x = s.at t) ∧ (n < 16) ∧ (x.en Blk.TMB = true) ∧ (tmbRun x n = true) ∧ (x.tmb.tickAt.getD n 0 ≤ x.now) ∧ (x.get (F.TMB_CH_PERIOD_PERIOD n) ≤ x.get (F.TMB_CH_COUNT_COUNT n)) ∧ (x.on (F.TMB_CH_CTL_ONESHOT n) = true)) ∧
    (∃ (s x : State) (t n : Nat) (v : Word), (x = s.at t) ∧ (n < 16) ∧ (tmbRun x n = true)) :=
  ⟨⟨st [(F.TMB_CH_PERIOD_PERIOD 15, 0), (F.BLK_EN (Blk.TMB), 1), (F.TMB_CH_STATUS_RUN 15, 1), (F.TMB_CH_CTL_ONESHOT 15, 1)], _, 1000000000000000, 0, 15, rfl, by decide +kernel⟩,
   ⟨st [(F.TMB_CH_STATUS_RUN 15, 1)], _, 0, 15, 0, rfl, by decide +kernel⟩⟩

/-- The hypotheses of `StaggerSpreads` are met, clause by clause. -/
theorem witness_StaggerSpreads :
    ∃ (s x : State) (t u n : Nat) (v : Word), (x = s.at t) ∧ (x.en Blk.TMB = true) ∧ ((List.range 16).all (fun n => !tmbRun x n) = true) ∧ (x.tmb.snaps = List.replicate 16 none) ∧ (n < 16) :=
  ⟨{ st [(F.BLK_EN (Blk.TMB), 1)] with tmb.snaps := List.replicate 16 none }, _, 0, 0, 15, 0, rfl, by decide +kernel⟩

/-- The hypotheses of `EnergyAccounts` are met, clause by clause. -/
theorem witness_EnergyAccounts :
    (∃ (s x : State) (t : Nat) (v : Word), (x = s.at t) ∧ (x.on F.BLW_CFG_MODE = false)) ∧
    (∃ (s x : State) (t : Nat) (v : Word), (x = s.at t) ∧ (x.on F.BLW_CFG_MODE = true) ∧ (x.blw.model.floors.getD 0 0 * 1000 ≤ x.blw.store) ∧ (v.toNat < x.blw.model.floors.getD 0 0)) ∧
    (∃ (s x : State) (t f : Nat), (x = s.at t) ∧ (floorConflict x (shadowModel x) = some f)) ∧
    (∃ (s x : State) (t : Nat), (x = s.at t) ∧ (floorConflict x (shadowModel x) = none)) ∧
    (∃ (s x : State) (t : Nat), (x = s.at t) ∧ (x.en Blk.BLW = true) ∧ (x.blw.periodStart + periodU x ≤ x.now) ∧ (x.on F.BLW_CFG_MODE = false)) ∧
    (∃ (s x : State) (t : Nat), (x = s.at t) ∧ (x.now < x.blw.periodStart + periodU x)) ∧
    (∃ (s x : State) (t : Nat), (x = s.at t) ∧ (localHour x x.net = x.blw.hour + 1) ∧ (x.on F.BLW_CFG_MODE = true) ∧ (x.blw.store < x.blw.model.capacity * 1000)) ∧
    (∃ (s x : State) (t : Nat), (x = s.at t) ∧ (localHour x x.net = x.blw.hour)) ∧
    (∃ (s x : State) (t uj mv : Nat), (x = s.at t)) :=
  ⟨⟨State.reset, _, 0, 0, rfl, by decide +kernel⟩,
   ⟨{ st [(F.BLW_CFG_MODE, 1)] with blw.store := 5000, blw.model := { Model.reset with floors := [5, 0, 0, 0] } }, _, 0, 4, rfl, by decide +kernel⟩,
   ⟨st [(F.BLW_FLOOR_MJ 2, 1)], _, 0, Reg.BLW_FLOOR 3, rfl, by decide +kernel⟩,
   ⟨State.reset, _, 0, rfl, by decide +kernel⟩,
   ⟨st [(F.BLK_EN (Blk.BLW), 1)], _, 1000000000000000, rfl, by decide +kernel⟩,
   ⟨State.reset, _, 0, rfl, by decide +kernel⟩,
   ⟨{ st [(F.BLW_CFG_MODE, 1)] with blw.model := { Model.reset with capacity := 1 } }, _, 3600 * secondU, rfl, by decide +kernel⟩,
   ⟨State.reset, _, 0, rfl, by decide +kernel⟩,
   ⟨State.reset, _, 0, 0, 0, rfl⟩⟩

/-- The hypotheses of `Economy` are met, clause by clause. -/
theorem witness_Economy :
    (∃ (s x : State) (t mv : Nat), (x = s.at t) ∧ (x.on F.SUP_STATUS_WARN = false) ∧ (mv < warnLevel x) ∧ (x.on F.BLW_STATUS_ECONOMY = false) ∧ (x.items.all (fun i => !i.started) = true)) ∧
    (∃ (s x : State) (t mv : Nat), (x = s.at t) ∧ (x.on F.SUP_STATUS_WARN = false) ∧ (mv < warnLevel x) ∧ (x.on F.BLW_STATUS_ECONOMY = true)) ∧
    (∃ (s x : State) (t mv : Nat), (x = s.at t) ∧ (warnLevel x ≤ mv)) ∧
    (∃ (s x : State) (t mv : Nat), (x = s.at t) ∧ (x.on F.SUP_STATUS_WARN = true) ∧ (warnLevel x + 50 < mv) ∧ (x.on F.BLW_STATUS_ECONOMY = true)) ∧
    (∃ (s x : State) (t mv : Nat), (x = s.at t) ∧ (mv ≤ warnLevel x + 50)) ∧
    (∃ (s x : State) (t : Nat), (x = s.at t) ∧ (x.on F.BLW_STATUS_HOLD = true) ∧ (x.blw.holdAt + usU (100 * x.get F.BLW_ECON_HOLD) ≤ x.now) ∧ (x.items = []) ∧ (x.flc = Flc.reset) ∧ (x.cry.storing = [])) ∧
    (∃ (s x : State) (t : Nat), (x = s.at t) ∧ (x.on F.BLW_STATUS_HOLD = false)) ∧
    (∃ (s x : State) (t mv : Nat) (v : Word), (x = s.at t) ∧ (54 < bits v.toNat 5 0)) ∧
    (∃ (s x : State) (t mv : Nat) (v : Word), (x = s.at t) ∧ (bits v.toNat 5 0 ≤ 54) ∧ (1800 + 50 * bits v.toNat 5 0 ≤ mv)) :=
  ⟨⟨State.reset, _, 0, 0, rfl, by decide +kernel⟩,
   ⟨st [(F.BLW_STATUS_ECONOMY, 1)], _, 0, 0, rfl, by decide +kernel⟩,
   ⟨State.reset, _, 0, 6000, rfl, by decide +kernel⟩,
   ⟨st [(F.SUP_STATUS_WARN, 1), (F.BLW_STATUS_ECONOMY, 1)], _, 0, 6000, rfl, by decide +kernel⟩,
   ⟨State.reset, _, 0, 0, rfl, by decide +kernel⟩,
   ⟨st [(F.BLW_STATUS_HOLD, 1)], _, 1000000000000000, rfl, by decide +kernel⟩,
   ⟨State.reset, _, 0, rfl, by decide +kernel⟩,
   ⟨State.reset, _, 0, 0, 63, rfl, by decide +kernel⟩,
   ⟨State.reset, _, 0, 4500, 54, rfl, by decide +kernel⟩⟩

/-- The hypotheses of `WarnLevelWrite` are met, clause by clause. -/
theorem witness_WarnLevelWrite :
    (∃ (s x : State) (t mv : Nat) (v : Word), (x = s.at t) ∧ (bits v.toNat 5 0 ≤ 54)) ∧
    (∃ (s x : State) (t mv : Nat) (v : Word), (x = s.at t) ∧ (bits v.toNat 5 0 ≤ 54) ∧ (mv < 1800 + 50 * bits v.toNat 5 0) ∧ (x.on F.SUP_STATUS_WARN = false)) ∧
    (∃ (s x : State) (t mv : Nat) (v : Word), (x = s.at t) ∧ (bits v.toNat 5 0 ≤ 54) ∧ (1800 + 50 * bits v.toNat 5 0 ≤ mv)) ∧
    (∃ (s x : State) (t mv : Nat) (v : Word), (x = s.at t) ∧ (54 < bits v.toNat 5 0)) :=
  ⟨⟨State.reset, _, 0, 0, 54, rfl, by decide +kernel⟩,
   ⟨State.reset, _, 0, 4499, 54, rfl, by decide +kernel⟩,
   ⟨State.reset, _, 0, 4500, 54, rfl, by decide +kernel⟩,
   ⟨State.reset, _, 0, 0, 55, rfl, by decide +kernel⟩⟩

/-- The hypotheses of `ClockPlan` are met, clause by clause. -/
theorem witness_ClockPlan :
    (∃ (s x : State) (t meas : Nat), (x = s.at t) ∧ (x.clk.running.getD 2 false = true) ∧ (sourceOk x 2 = false) ∧ (x.clk.measured.length = 4) ∧ (x.clk.startedAt.getD 2 0 + usU 10 ≤ x.now) ∧ (x.on F.CLK_STATUS_HELD = false)) ∧
    (∃ (s x : State) (t src meas : Nat) (ok : Bool), (x = s.at t) ∧ (x.clk.running.getD src false = false)) ∧
    (∃ (s x : State) (t : Nat), (x = s.at t) ∧ (sourceOk x 1 = true) ∧ (x.on F.CLK_STATUS_LF_ACT = true) ∧ (x.clk.running.length = 4)) ∧
    (∃ (s x : State) (t : Nat), (x = s.at t) ∧ (sourceOk x 0 = true) ∧ (sourceOk x 2 = true) ∧ (x.get F.CLK_STATUS_REF_SRC = 0) ∧ (x.en Blk.CHN = false)) ∧
    (∃ (s x : State) (t src : Nat), (x = s.at t) ∧ (src < 4) ∧ (sourceOk x src = false)) ∧
    (∃ (s x : State) (t hf lf : Nat), (x = s.at t) ∧ (x.clk.running = [true, true, true, true]) ∧ (sourceOk x 0 = true) ∧ (sourceOk x 1 = true)) ∧
    (∃ (s x : State) (t : Nat), (x = s.at t) ∧ (x.on F.CLK_STATUS_SYS_LOCK = true) ∧ (x.en Blk.CHN = false)) ∧
    (∃ (s x : State) (t : Nat), (x = s.at t) ∧ (x.on F.CLK_STATUS_SYS_LOCK = false)) ∧
    (∃ (s x : State) (t : Nat), (x = s.at t) ∧ (x.on F.CLK_STATUS_DSP_LOCK = true) ∧ (x.en Blk.CHN = false)) ∧
    (∃ (s x : State) (t a : Nat), (x = s.at t) ∧ (x.get F.CLK_STATUS_REF_SRC ≠ 3) ∧ (x.on F.CLK_STATUS_SYS_LOCK = false) ∧ (x.clk.sysUnlocked = some a)) ∧
    (∃ (s x : State) (t a : Nat), (x = s.at t) ∧ (x.get F.CLK_STATUS_REF_SRC ≠ 3) ∧ (x.on F.CLK_STATUS_DSP_LOCK = false) ∧ (x.clk.dspUnlocked = some a)) ∧
    (∃ (s x : State) (t a : Nat), (x = s.at t) ∧ (x.clk.sysUnlocked = some a) ∧ (a + usU 200 ≤ x.now) ∧ (recordedNow x = false)) ∧
    (∃ (s x : State) (t : Nat), (x = s.at t) ∧ (x.clk.sysUnlocked = none) ∧ (x.clk.dspUnlocked = none)) :=
  ⟨⟨State.reset, _, 1000000000000000, 0, rfl, by decide +kernel⟩,
   ⟨{ State.reset with clk.running := [true, true, true, false] }, _, 0, 3, 0, false, rfl, by decide +kernel⟩,
   ⟨st [(F.CLK_STATUS_OK, 15), (F.CLK_STATUS_LF_ACT, 1)], _, 0, rfl, by decide +kernel⟩,
   ⟨st [(F.CLK_STATUS_OK, 15), (F.CLK_STATUS_REF_SRC, 0)], _, 0, rfl, by decide +kernel⟩,
   ⟨st [(F.CLK_STATUS_OK, 7)], _, 0, 3, rfl, by decide +kernel⟩,
   ⟨{ st [(F.CLK_STATUS_OK, 15)] with clk.running := [true, true, true, true] }, _, 0, 0, 0, rfl, by decide +kernel⟩,
   ⟨st [(F.CLK_STATUS_SYS_LOCK, 1)], _, 0, rfl, by decide +kernel⟩,
   ⟨State.reset, _, 0, rfl, by decide +kernel⟩,
   ⟨st [(F.CLK_STATUS_DSP_LOCK, 1)], _, 0, rfl, by decide +kernel⟩,
   ⟨{ State.reset with clk.sysUnlocked := some 0 }, _, 0, 0, rfl, by decide +kernel⟩,
   ⟨{ State.reset with clk.dspUnlocked := some 0 }, _, 0, 0, rfl, by decide +kernel⟩,
   ⟨{ State.reset with clk.sysUnlocked := some 0 }, _, 1000000000000000, 0, rfl, by decide +kernel⟩,
   ⟨State.reset, _, 0, rfl, by decide +kernel⟩⟩

/-- The hypotheses of `PowerStates` are met, clause by clause. -/
theorem witness_PowerStates :
    (∃ (s x : State) (t : Nat), (x = s.at t) ∧ (x.en Blk.HRE = false)) ∧
    (∃ (s x : State) (t : Nat), (x = s.at t) ∧ (x.en Blk.HRE = true) ∧ (x.relay = false)) ∧
    (∃ (s x : State) (t : Nat), (x = s.at t) ∧ (x.en Blk.HRE = false) ∧ (x.en Blk.SKN = false) ∧ (x.on F.CHN_USE_TX_USED = false) ∧ (x.on F.CHN_USE_TIMED_USED = false)) ∧
    (∃ (s x : State) (t : Nat), (x = s.at t) ∧ (x.on F.CHN_USE_TIMED_USED = true)) ∧
    (∃ (s x : State) (t : Nat), (x = s.at t)) ∧
    (∃ (s x : State) (t : Nat), (x = s.at t) ∧ (x.on F.SUP_PWR_PENDING = true) ∧ (mayEnter x = true) ∧ (awake x = true) ∧ (x.get F.SUP_PWR_REQ = 2)) ∧
    (∃ (s x : State) (t : Nat), (x = s.at t) ∧ (x.on F.SUP_PWR_PENDING = true) ∧ (mayEnter x = true) ∧ (awake x = true) ∧ (x.get F.SUP_PWR_REQ = 3)) ∧
    (∃ (s x : State) (t : Nat), (x = s.at t) ∧ (x.on F.SUP_PWR_PENDING = false)) ∧
    (∃ (s x : State) (t src : Nat), (x = s.at t) ∧ (x.sup.power = .sleep) ∧ (wakeEnabled x src = true) ∧ (src < 26)) ∧
    (∃ (s x : State) (t src : Nat), (x = s.at t) ∧ (wakeEnabled x src = false)) ∧
    (∃ (s x : State) (t : Nat) (i : Item), (x = s.at t) ∧ (x.sup.power = .sleep) ∧ (i ∈ x.items) ∧ (i.decided = false) ∧ (i.started = false) ∧ (i.due ≤ x.net) ∧ (x.rd Reg.SUP_IER = 0)) ∧
    (∃ (s x : State) (t : Nat), (x = s.at t) ∧ (x.sup.power ≠ .sleep)) ∧
    (∃ (s x : State) (t : Nat), (x = s.at t) ∧ (x.cpx.released = true) ∧ (x.sup.power = .run) ∧ (x.cpx.wfi = [true, true, true, false])) ∧
    (∃ (s x : State) (t : Nat), (x = s.at t)) ∧
    (∃ (s x : State) (t : Nat), (x = s.at t) ∧ (x.on F.SUP_STATUS_VIO_FAULT = true) ∧ (x.sup.vioAt + msU 100 ≤ x.now)) ∧
    (∃ (s x : State) (t : Nat), (x = s.at t) ∧ (x.now < x.sup.vioAt + msU 100)) ∧
    (∃ (s x : State) (t : Nat), (x = s.at t) ∧ (x.sup.power ≠ .off)) :=
  ⟨⟨State.reset, _, 0, rfl, by decide +kernel⟩,
   ⟨st [(F.BLK_EN (Blk.HRE), 1)], _, 0, rfl, by decide +kernel⟩,
   ⟨State.reset, _, 0, rfl, by decide +kernel⟩,
   ⟨st [(F.CHN_USE_TIMED_USED, 1)], _, 0, rfl, by decide +kernel⟩,
   ⟨State.reset, _, 0, rfl⟩,
   ⟨{ st [(F.SUP_PWR_PENDING, 1), (F.SUP_PWR_REQ, 2)] with cpx.wfi := [true, true, true, true], upd.bootPending := false }, _, 0, rfl, by decide +kernel⟩,
   ⟨{ st [(F.SUP_PWR_PENDING, 1), (F.SUP_PWR_REQ, 3)] with cpx.wfi := [true, true, true, true], upd.bootPending := false }, _, 0, rfl, by decide +kernel⟩,
   ⟨State.reset, _, 0, rfl, by decide +kernel⟩,
   ⟨{ st [(F.SUP_WAKE_TAG, 1), (F.TAG_CFG_FD_WAKE, 1)] with sup.power := .sleep }, _, 0, 25, rfl, by decide +kernel⟩,
   ⟨State.reset, _, 0, 0, rfl, by decide +kernel⟩,
   ⟨{ State.reset with items := [item0], sup.power := .sleep }, _, 1000000000000000, item0, rfl, by decide +kernel⟩,
   ⟨State.reset, _, 0, rfl, by decide +kernel⟩,
   ⟨{ State.reset with cpx.released := true, cpx.wfi := [true, true, true, false] }, _, 0, rfl, by decide +kernel⟩,
   ⟨State.reset, _, 0, rfl⟩,
   ⟨st [(F.SUP_STATUS_VIO_FAULT, 1)], _, 1000000000000000, rfl, by decide +kernel⟩,
   ⟨State.reset, _, 0, rfl, by decide +kernel⟩,
   ⟨State.reset, _, 0, rfl, by decide +kernel⟩⟩

/-- The hypotheses of `DeviceResets` are met, clause by clause. -/
theorem witness_DeviceResets :
    (∃ (s x : State) (t c : Nat), (x = s.at t) ∧ (1 < c) ∧ (c ≤ 13) ∧ (c ≠ 7) ∧ (x.items = []) ∧ (recordedNow x = false)) ∧
    (∃ (s x : State) (t : Nat), (x = s.at t)) ∧
    (∃ (s x : State) (t mv : Nat), (x = s.at t) ∧ (x.sup.power ≠ .off) ∧ (mv < 1620) ∧ (x.sup.brown = false) ∧ (recordedNow x = false)) ∧
    (∃ (s x : State) (t mv : Nat), (x = s.at t) ∧ (1620 ≤ mv)) ∧
    (∃ (s x : State) (t mv : Nat), (x = s.at t) ∧ (x.sup.power ≠ .off) ∧ (5800 < mv) ∧ (x.sup.switchOpen = false) ∧ (recordedNow x = false)) ∧
    (∃ (s x : State) (t mv : Nat), (x = s.at t) ∧ (x.sup.power ≠ .off) ∧ (mv < 5600)) ∧
    (∃ (s x : State) (t iosel : Nat), (x = s.at t) ∧ (x.sup.power = .off) ∧ (iosel < 3)) ∧
    (∃ (s x : State) (t iosel : Nat), (x = s.at t) ∧ (x.sup.power ≠ .off)) ∧
    (∃ (s x : State) (t : Nat), (x = s.at t) ∧ (x.sup.pinLow = none) ∧ (x.sup.power ≠ .off) ∧ (recordedNow x = false)) ∧
    (∃ (s x : State) (t : Nat), (x = s.at t)) ∧
    (∃ (s x : State) (t iosel a : Nat), (x = s.at t) ∧ (x.sup.pinLow = some a) ∧ (a + 8 * secondU ≤ x.now) ∧ (x.on F.SYS_RST_PIN_LONG = false)) ∧
    (∃ (s x : State) (t iosel : Nat), (x = s.at t) ∧ (x.sup.pinLow = none)) ∧
    (∃ (s x : State) (t : Nat) (v : Word), (x = s.at t) ∧ (bits v.toNat 31 16 = 0xD1A6) ∧ (bits v.toNat 0 0 = 1) ∧ (recordedNow x = false)) ∧
    (∃ (s x : State) (t : Nat) (v : Word), (x = s.at t) ∧ (bits v.toNat 31 16 ≠ 0xD1A6)) ∧
    (∃ (s x : State) (t : Nat) (v : Word), (x = s.at t) ∧ (bits v.toNat 31 16 ≠ 0xD1A6)) ∧
    (∃ (s x : State) (t : Nat) (v : Word), (x = s.at t) ∧ (bits v.toNat 31 16 = 0xD1A6) ∧ (bits v.toNat 0 0 = 0) ∧ (bits v.toNat 1 1 = 1) ∧ (recordedNow x = false)) :=
  ⟨⟨State.reset, _, 0, 13, rfl, by decide +kernel⟩,
   ⟨State.reset, _, 0, rfl⟩,
   ⟨State.reset, _, 0, 1619, rfl, by decide +kernel⟩,
   ⟨State.reset, _, 0, 1620, rfl, by decide +kernel⟩,
   ⟨State.reset, _, 0, 5801, rfl, by decide +kernel⟩,
   ⟨State.reset, _, 0, 5599, rfl, by decide +kernel⟩,
   ⟨{ State.reset with sup.power := .off }, _, 0, 2, rfl, by decide +kernel⟩,
   ⟨State.reset, _, 0, 0, rfl, by decide +kernel⟩,
   ⟨State.reset, _, 0, rfl, by decide +kernel⟩,
   ⟨State.reset, _, 0, rfl⟩,
   ⟨{ State.reset with sup.pinLow := some 0 }, _, 1000000000000000, 0, 0, rfl, by decide +kernel⟩,
   ⟨State.reset, _, 0, 0, rfl, by decide +kernel⟩,
   ⟨State.reset, _, 0, 0xD1A60001, rfl, by decide +kernel⟩,
   ⟨State.reset, _, 0, 0, rfl, by decide +kernel⟩,
   ⟨State.reset, _, 0, 0, rfl, by decide +kernel⟩,
   ⟨State.reset, _, 0, 0xD1A60002, rfl, by decide +kernel⟩⟩

/-- The hypotheses of `Watchdogs` are met, clause by clause. -/
theorem witness_Watchdogs :
    (∃ (s x : State) (t c : Nat), (x = s.at t) ∧ ((c = 7 ∨ c = 11 ∨ c = 12)) ∧ (inTrial x = false) ∧ (recordedNow x = false)) ∧
    (∃ (s x : State) (t c : Nat), (x = s.at t) ∧ (c ≠ 7) ∧ (c ≠ 11) ∧ (c ≠ 12)) ∧
    (∃ (s x : State) (t : Nat), (x = s.at t) ∧ (inTrial x = true) ∧ (recordedNow x = false)) ∧
    (∃ (s x : State) (t : Nat), (x = s.at t)) ∧
    (∃ (s x : State) (t : Nat) (v : Word), (x = s.at t) ∧ (v ≠ 0x4B1C) ∧ (recordedNow x = false)) ∧
    (∃ (s x : State) (t : Nat), (x = s.at t) ∧ (x.get F.SYS_WDT_CFG_PERIOD_S ≠ 0) ∧ (x.get F.SYS_WDT_CFG_PERIOD_S * secondU ≤ 2 * x.cpx.sysWdt.elapsed x.now)) ∧
    (∃ (s x : State) (t : Nat), (x = s.at t) ∧ (x.get F.SYS_WDT_CFG_PERIOD_S = 0)) ∧
    (∃ (s x : State) (t : Nat), (x = s.at t) ∧ (x.get F.SYS_WDT_CFG_PERIOD_S = 0)) ∧
    (∃ (s x : State) (t : Nat), (x = s.at t) ∧ (x.get F.SYS_WDT_CFG_PERIOD_S ≠ 0) ∧ (x.get F.SYS_WDT_CFG_PERIOD_S * secondU ≤ x.cpx.sysWdt.elapsed x.now) ∧ (recordedNow x = false)) ∧
    (∃ (s x : State) (t : Nat) (v : Word), (x = s.at t) ∧ (bits v.toNat 8 8 = 1) ∧ (x.on F.SYS_WDT_CFG_LOCK = true)) ∧
    (∃ (s x : State) (t : Nat) (v : Word), (x = s.at t) ∧ (bits v.toNat 8 8 = 1) ∧ (x.on F.SYS_WDT_CFG_LOCK = false)) ∧
    (∃ (s x : State) (t : Nat), (x = s.at t)) ∧
    (∃ (s x : State) (t : Nat) (v : Word), (x = s.at t) ∧ (v ≠ 0x6C3E) ∧ (inTrial x = false) ∧ (recordedNow x = false)) ∧
    (∃ (s x : State) (t : Nat), (x = s.at t) ∧ (x.get F.CPX_WDT_CFG_PERIOD_MS ≠ 0) ∧ (inTrial x = false) ∧ (msU (x.get F.CPX_WDT_CFG_PERIOD_MS) ≤ x.cpx.coreWdt.elapsed x.now) ∧ (recordedNow x = false)) ∧
    (∃ (s x : State) (t : Nat), (x = s.at t) ∧ (x.get F.CPX_WDT_CFG_PERIOD_MS = 0)) :=
  ⟨⟨State.reset, _, 0, 7, rfl, by decide +kernel⟩,
   ⟨State.reset, _, 0, 0, rfl, by decide +kernel⟩,
   ⟨st [(F.UPD_STATUS_STAGE, 4)], _, 0, rfl, by decide +kernel⟩,
   ⟨State.reset, _, 0, rfl⟩,
   ⟨State.reset, _, 0, 0, rfl, by decide +kernel⟩,
   ⟨{ st [(F.SYS_WDT_CFG_PERIOD_S, 1)] with cpx.sysWdt := ⟨secondU, none⟩ }, _, 0, rfl, by decide +kernel⟩,
   ⟨st [(F.SYS_WDT_CFG_PERIOD_S, 0)], _, 0, rfl, by decide +kernel⟩,
   ⟨st [(F.SYS_WDT_CFG_PERIOD_S, 0)], _, 0, rfl, by decide +kernel⟩,
   ⟨{ st [(F.SYS_WDT_CFG_PERIOD_S, 1)] with cpx.sysWdt := ⟨secondU, none⟩ }, _, 0, rfl, by decide +kernel⟩,
   ⟨st [(F.SYS_WDT_CFG_LOCK, 1)], _, 0, 0x100, rfl, by decide +kernel⟩,
   ⟨State.reset, _, 0, 0x100, rfl, by decide +kernel⟩,
   ⟨State.reset, _, 0, rfl⟩,
   ⟨State.reset, _, 0, 0, rfl, by decide +kernel⟩,
   ⟨{ st [(F.CPX_WDT_CFG_PERIOD_MS, 1)] with cpx.coreWdt := ⟨secondU, none⟩ }, _, 0, rfl, by decide +kernel⟩,
   ⟨st [(F.CPX_WDT_CFG_PERIOD_MS, 0)], _, 0, rfl, by decide +kernel⟩⟩

/-- The hypotheses of `CoresAndPartition` are met, clause by clause. -/
theorem witness_CoresAndPartition :
    (∃ (s x : State) (t c mepc : Nat), (x = s.at t) ∧ (c < 4) ∧ (inTrial x = false)) ∧
    (∃ (s x : State) (t c mepc : Nat), (x = s.at t) ∧ (c < 4) ∧ (inTrial x = true) ∧ (recordedNow x = false)) ∧
    (∃ (s x : State) (t ring addr : Nat), (x = s.at t) ∧ (partitionRuns x = true) ∧ (inWindow addr = false)) ∧
    (∃ (s x : State) (t ring addr : Nat) (d : List Word), (x = s.at t) ∧ (partitionRuns x = true) ∧ (inWindow addr = true) ∧ (partitionMay x ring = true) ∧ (d = (List.range 8).map (fun k => word (leNat (x.sramRead (addr + 4 * k) 4)))) ∧ (opcodeOnRing ring (wbits d 0 7 0) = true) ∧ (wbits d 1 15 0 = 0) ∧ (preAdmission x ring d false = none)) ∧
    (∃ (s x : State) (t addr ms : Nat), (x = s.at t) ∧ (partitionRuns x = true) ∧ (inWindow addr = true) ∧ (x.hre.outq.all (fun c => c.cring != partitionRing) = true)) ∧
    (∃ (s x : State) (t : Nat) (w : PartWait), (x = s.at t) ∧ (x.cpx.wait = some w) ∧ (x.hre.outq.all (fun c => c.cring != partitionRing) = true) ∧ (w.deadline ≤ x.now)) ∧
    (∃ (s x : State) (t : Nat), (x = s.at t) ∧ (x.cpx.wait = none)) ∧
    (∃ (s x : State) (t : Nat), (x = s.at t) ∧ (partitionRuns x = true)) ∧
    (∃ (s x : State) (t mcause : Nat), (x = s.at t) ∧ (partitionRuns x = true)) ∧
    (∃ (s x : State) (t : Nat), (x = s.at t) ∧ (partitionRuns x = false)) ∧
    (∃ (s x : State) (t : Nat), (x = s.at t) ∧ (partitionRuns x = false)) ∧
    (∃ (s x : State) (t ctx : Nat), (x = s.at t) ∧ (ctx < 5) ∧ (bestSource x (claimable x ctx) = 0)) ∧
    (∃ (s x : State) (t ctx n : Nat), (x = s.at t) ∧ (ctx < 5) ∧ (n = bestSource x (claimable x ctx)) ∧ (n ≠ 0)) ∧
    (∃ (s x : State) (t ctx id : Nat), (x = s.at t) ∧ (ctx < 5) ∧ (id < 256) ∧ (bits (x.rd (Reg.CPX_PLIC_EN ctx (id / 32))).toNat (id % 32) (id % 32) = 1) ∧ (x.cpx.deferred = []) ∧ (firmwareWaits x = false)) ∧
    (∃ (s x : State) (t ctx id : Nat), (x = s.at t) ∧ (bits (x.rd (Reg.CPX_PLIC_EN ctx (id / 32))).toNat (id % 32) (id % 32) = 0)) ∧
    (∃ (s x : State) (t pin : Nat), (x = s.at t) ∧ (pin < 40)) ∧
    (∃ (s x : State) (t : Nat), (x = s.at t) ∧ (x.relay = false) ∧ (x.upd.bootPending = false) ∧ (x.en Blk.CLK = true)) ∧
    (∃ (s x : State) (t : Nat), (x = s.at t) ∧ (x.relay = true)) :=
  ⟨⟨State.reset, _, 0, 3, 0, rfl, by decide +kernel⟩,
   ⟨st [(F.UPD_STATUS_STAGE, 4)], _, 0, 3, 0, rfl, by decide +kernel⟩,
   ⟨st [(F.CPX_STATUS_PART, 1)], _, 0, 0, 0x200BFFE1, rfl, by decide +kernel⟩,
   ⟨{ st [(F.HRE_RING_CFG_EN 16, 1), (F.CPX_STATUS_PART, 1)] with sram := [(0x200BFFE0, 1)] }, _, 0, 13, 0x200BFFE0, _, rfl, by decide +kernel, by decide +kernel, by decide +kernel, rfl, by decide +kernel⟩,
   ⟨st [(F.CPX_STATUS_PART, 1)], _, 0, 0x200BFFE0, 0, rfl, by decide +kernel⟩,
   ⟨{ State.reset with cpx.wait := some wait0 }, _, 1000000000000000, wait0, rfl, by decide +kernel⟩,
   ⟨State.reset, _, 0, rfl, by decide +kernel⟩,
   ⟨st [(F.CPX_STATUS_PART, 1)], _, 0, rfl, by decide +kernel⟩,
   ⟨st [(F.CPX_STATUS_PART, 1)], _, 0, 0, rfl, by decide +kernel⟩,
   ⟨State.reset, _, 0, rfl, by decide +kernel⟩,
   ⟨State.reset, _, 0, rfl, by decide +kernel⟩,
   ⟨State.reset, _, 0, 4, rfl, by decide +kernel⟩,
   ⟨st [(F.CPX_PLIC_PRIO_PRIO 30, 1), (F.CPX_PLIC_PEND_BITS 0, 0x80000000), (F.CPX_PLIC_EN_BITS 4 0, 0x80000000)], _, 0, 4, 31, rfl, by decide +kernel⟩,
   ⟨st [(F.CPX_PLIC_EN_BITS 4 7, 0x80000000)], _, 0, 4, 255, rfl, by decide +kernel⟩,
   ⟨State.reset, _, 0, 0, 0, rfl, by decide +kernel⟩,
   ⟨State.reset, _, 0, 39, rfl, by decide +kernel⟩,
   ⟨{ st [(F.BLK_EN (Blk.CLK), 1)] with upd.bootPending := false }, _, 0, rfl, by decide +kernel⟩,
   ⟨{ State.reset with relay := true }, _, 0, rfl, by decide +kernel⟩⟩

/-- The hypotheses of `DebugPort` are met, clause by clause. -/
theorem witness_DebugPort :
    (∃ (s x : State) (t : Nat), (x = s.at t)) ∧
    (∃ (s x : State) (t scope : Nat) (sig : List Byte), (x = s.at t) ∧ (x.cpx.verifying = none)) ∧
    (∃ (s x : State) (t scope : Nat) (sig : List Byte) (a : DebugAuth), (x = s.at t) ∧ (x.cpx.verifying = some a)) ∧
    (∃ (s x : State) (t : Nat) (a : DebugAuth), (x = s.at t) ∧ (x.cpx.verifying = some a) ∧ (a.start + msU 8 ≤ x.now) ∧ (x.cpx.failures = [])) ∧
    (∃ (s x : State) (t : Nat) (w : Bool), (x = s.at t) ∧ (x.cpx.session = true)) ∧
    (∃ (s x : State) (t : Nat), (x = s.at t) ∧ (x.cpx.session = false)) ∧
    (∃ (s x : State) (t : Nat), (x = s.at t) ∧ (x.cpx.session = false)) ∧
    (∃ (s x : State) (t c : Nat), (x = s.at t) ∧ (x.cpx.session = false)) ∧
    (∃ (s x : State) (t c : Nat), (x = s.at t) ∧ (x.cpx.session = false)) ∧
    (∃ (s x : State) (t : Nat), (x = s.at t) ∧ (x.cpx.session = false)) ∧
    (∃ (s x : State) (t : Nat), (x = s.at t) ∧ (x.cpx.session = false)) ∧
    (∃ (s x : State) (t c : Nat), (x = s.at t) ∧ (x.cpx.session = true) ∧ (c < 4) ∧ (x.cpx.halted.length = 4) ∧ (x.items.all (fun i => !i.started) = true)) ∧
    (∃ (s x : State) (t c : Nat), (x = s.at t) ∧ (x.cpx.session = true) ∧ (c < 4) ∧ (x.cpx.halted.length = 4)) ∧
    (∃ (s x : State) (t : Nat) (v : Bool), (x = s.at t) ∧ (x.cpx.session = true) ∧ (x.items.all (fun i => !i.started) = true)) ∧
    (∃ (s x : State) (t : Nat), (x = s.at t) ∧ (x.cpx.session = true)) :=
  ⟨⟨State.reset, _, 0, rfl⟩,
   ⟨State.reset, _, 0, 0, [], rfl, by decide +kernel⟩,
   ⟨{ State.reset with cpx.verifying := some auth0 }, _, 0, 0, [], auth0, rfl, by decide +kernel⟩,
   ⟨{ State.reset with cpx.verifying := some auth0 }, _, 1000000000000000, auth0, rfl, by decide +kernel⟩,
   ⟨{ State.reset with cpx.session := true }, _, 0, false, rfl, by decide +kernel⟩,
   ⟨State.reset, _, 0, rfl, by decide +kernel⟩,
   ⟨State.reset, _, 0, rfl, by decide +kernel⟩,
   ⟨State.reset, _, 0, 0, rfl, by decide +kernel⟩,
   ⟨State.reset, _, 0, 0, rfl, by decide +kernel⟩,
   ⟨State.reset, _, 0, rfl, by decide +kernel⟩,
   ⟨State.reset, _, 0, rfl, by decide +kernel⟩,
   ⟨{ State.reset with cpx.session := true }, _, 0, 3, rfl, by decide +kernel⟩,
   ⟨{ State.reset with cpx.session := true }, _, 0, 3, rfl, by decide +kernel⟩,
   ⟨{ State.reset with cpx.session := true }, _, 0, false, rfl, by decide +kernel⟩,
   ⟨{ State.reset with cpx.session := true }, _, 0, rfl, by decide +kernel⟩⟩

/-- The hypotheses of `Peripherals` are met, clause by clause. -/
theorem witness_Peripherals :
    (∃ (s x : State) (t u p : Nat), (x = s.at t) ∧ (u < 8) ∧ (p = x.get (F.PER_GEVT_PIN u)) ∧ (p < 40) ∧ (x.en Blk.PER = true) ∧ (x.get (F.PER_GEVT_EDGE u) = 1)) ∧
    (∃ (s x : State) (t u p : Nat), (x = s.at t) ∧ (u < 8) ∧ (p = x.get (F.PER_GEVT_PIN u)) ∧ (p < 40) ∧ (x.get (F.PER_GEVT_EDGE u) = 1)) ∧
    (∃ (s x : State) (t i : Nat) (b : Byte), (x = s.at t) ∧ (x.en Blk.PER = true) ∧ (i < 2) ∧ (x.per.uart.length = 2) ∧ ((uartOf x i).tx.length < 32)) ∧
    (∃ (s x : State) (t i : Nat) (b : Byte), (x = s.at t) ∧ (32 ≤ (uartOf x i).tx.length)) ∧
    (∃ (s x : State) (t i : Nat) (b : Byte) (rest : List Byte), (x = s.at t) ∧ (x.en Blk.PER = true) ∧ (i < 2) ∧ (x.per.uart.length = 2) ∧ ((uartOf x i).rx = b :: rest)) ∧
    (∃ (s x : State) (t i : Nat) (b : Byte) (bad : Bool), (x = s.at t) ∧ (x.en Blk.PER = true) ∧ (i < 2) ∧ (x.per.uart.length = 2) ∧ ((uartOf x i).rx.length < 32) ∧ (x.on (F.PER_UART_CFG_BITS7 i) = false)) ∧
    (∃ (s x : State) (t i : Nat) (b : Byte), (x = s.at t) ∧ (x.en Blk.PER = true) ∧ (i < 2) ∧ (32 ≤ (uartOf x i).rx.length)) ∧
    (∃ (s x : State) (t i : Nat), (x = s.at t) ∧ (x.en Blk.PER = true) ∧ (i < 2) ∧ (x.per.uart.length = 2)) ∧
    (∃ (s x : State) (t i : Nat) (v : Word), (x = s.at t) ∧ (x.en Blk.PER = true) ∧ (i < 2) ∧ (x.per.spi.length = 2) ∧ ((spiOf x i).tx = []) ∧ ((spiOf x i).shifting = none) ∧ (x.get (F.PER_SPI_CFG_WIDTH i) = 2)) ∧
    (∃ (s x : State) (t i : Nat) (f : Word) (rest : List Word), (x = s.at t) ∧ (x.en Blk.PER = true) ∧ (i < 2) ∧ (x.per.spi.length = 2) ∧ ((spiOf x i).rx = f :: rest)) ∧
    (∃ (s x : State) (t i : Nat) (f v : Word), (x = s.at t) ∧ (i < 2) ∧ (x.per.spi.length = 2) ∧ ((spiOf x i).shifting = some f) ∧ ((spiOf x i).tx = []) ∧ ((spiOf x i).rx = []) ∧ (x.get (F.PER_SPI_CFG_WIDTH i) = 2)) ∧
    (∃ (s x : State) (t i : Nat) (v : Word), (x = s.at t) ∧ (i < 2) ∧ (x.en Blk.PER = true) ∧ (bits v.toNat 31 31 = 1)) ∧
    (∃ (s x : State) (t i : Nat) (b : Byte), (x = s.at t) ∧ (i < 2) ∧ (x.en Blk.PER = true) ∧ (x.per.i2c.length = 2) ∧ ((i2cOf x i).tx.length < 16)) ∧
    (∃ (s x : State) (t i : Nat) (bs : List Byte), (x = s.at t) ∧ (i < 2) ∧ (x.en Blk.PER = true) ∧ (x.per.i2c.length = 2) ∧ (x.on (F.PER_I2C_STATUS_BUSY i) = true) ∧ (x.on (F.PER_I2C_CMD_READ i) = true)) ∧
    (∃ (s x : State) (t line : Nat), (x = s.at t) ∧ (x.on F.SEC_CFG_TAMP0_EN = false) ∧ (line < 4) ∧ (bits (x.rd Reg.PER_TAMP).toNat 2 0 ≠ line)) ∧
    (∃ (s x : State) (t : Nat), (x = s.at t) ∧ (x.en Blk.HKA = true) ∧ (x.on F.HKA_STATUS_BUSY = false)) ∧
    (∃ (s x : State) (t : Nat), (x = s.at t) ∧ (x.en Blk.HKA = true) ∧ (x.on F.HKA_STATUS_BUSY = true)) ∧
    (∃ (s x : State) (t v ch : Nat), (x = s.at t) ∧ (x.on F.HKA_STATUS_BUSY = true) ∧ (1 ≤ x.get F.HKA_CFG_LEN) ∧ (ch = x.get (F.HKA_SEQ_CH 0)) ∧ (ch ≤ 12) ∧ (x.on (F.HKA_SEQ_CHECK 0) = false) ∧ (v < 65536) ∧ (outOfLimits x ch v = false)) :=
  ⟨⟨st [(F.PER_GEVT_PIN 7, 39), (F.BLK_EN (Blk.PER), 1), (F.PER_GEVT_EDGE 7, 1)], _, 0, 7, 39, rfl, by decide +kernel⟩,
   ⟨st [(F.PER_GEVT_PIN 7, 39), (F.PER_GEVT_EDGE 7, 1)], _, 0, 7, 39, rfl, by decide +kernel⟩,
   ⟨st [(F.BLK_EN (Blk.PER), 1)], _, 0, 0, 0, rfl, by decide +kernel⟩,
   ⟨{ State.reset with per.uart := [⟨[], List.replicate 32 0⟩, ⟨[], List.replicate 32 0⟩] }, _, 0, 0, 0, rfl, by decide +kernel⟩,
   ⟨{ st [(F.BLK_EN (Blk.PER), 1)] with per.uart := [⟨[0], []⟩, ⟨[0], []⟩] }, _, 0, 1, 0, [], rfl, by decide +kernel⟩,
   ⟨st [(F.BLK_EN (Blk.PER), 1)], _, 0, 0, 0, false, rfl, by decide +kernel⟩,
   ⟨{ st [(F.BLK_EN (Blk.PER), 1)] with per.uart := [⟨List.replicate 32 0, []⟩, ⟨List.replicate 32 0, []⟩] }, _, 0, 1, 0, rfl, by decide +kernel⟩,
   ⟨st [(F.BLK_EN (Blk.PER), 1)], _, 0, 0, rfl, by decide +kernel⟩,
   ⟨st [(F.BLK_EN (Blk.PER), 1), (F.PER_SPI_CFG_WIDTH 0, 2)], _, 0, 0, 0, rfl, by decide +kernel⟩,
   ⟨{ st [(F.BLK_EN (Blk.PER), 1)] with per.spi := List.replicate 2 ⟨[0], [], none, false⟩ }, _, 0, 1, 0, [], rfl, by decide +kernel⟩,
   ⟨{ st [(F.PER_SPI_CFG_WIDTH 1, 2)] with per.spi := List.replicate 2 ⟨[], [], some 0, false⟩ }, _, 0, 1, 0, 0, rfl, by decide +kernel⟩,
   ⟨st [(F.BLK_EN (Blk.PER), 1)], _, 0, 1, 0x80000000, rfl, by decide +kernel⟩,
   ⟨st [(F.BLK_EN (Blk.PER), 1)], _, 0, 0, 0, rfl, by decide +kernel⟩,
   ⟨st [(F.BLK_EN (Blk.PER), 1), (F.PER_I2C_STATUS_BUSY 0, 1), (F.PER_I2C_CMD_READ 0, 1)], _, 0, 0, [], rfl, by decide +kernel⟩,
   ⟨State.reset, _, 0, 3, rfl, by decide +kernel⟩,
   ⟨st [(F.BLK_EN (Blk.HKA), 1)], _, 0, rfl, by decide +kernel⟩,
   ⟨st [(F.BLK_EN (Blk.HKA), 1), (F.HKA_STATUS_BUSY, 1)], _, 0, rfl, by decide +kernel⟩,
   ⟨st [(F.HKA_CFG_LEN, 1), (F.HKA_SEQ_CH 0, 12), (F.HKA_LIMIT_HI 12, 32767), (F.HKA_STATUS_BUSY, 1)], _, 0, 32767, 12, rfl, by decide +kernel⟩⟩

/-- The hypotheses of `BootAndPieces` are met, clause by clause. -/
theorem witness_BootAndPieces :
    (∃ (s x : State) (t : Nat) (ok recOk step2 : Bool) (cfg : Option BootConfig) (key : Option (List Byte)), (x = s.at t) ∧ (x.upd.bootPending = false)) ∧
    (∃ (s x : State) (t : Nat) (recOk step2 : Bool) (cfg : Option BootConfig) (key : Option (List Byte)), (x = s.at t) ∧ (bootReady x = true)) ∧
    (∃ (s x : State) (t : Nat) (recOk : Bool) (cfg : Option BootConfig) (key : Option (List Byte)), (x = s.at t) ∧ (bootReady x = true)) ∧
    (∃ (s x : State) (t : Nat) (recOk : Bool) (cfg : Option BootConfig) (key : Option (List Byte)), (x = s.at t) ∧ (bootReady x = true)) ∧
    (∃ (s x y : State) (t : Nat) (f : Fetched) (rest : List Fetched), (x = s.at t) ∧ (takeTurn (fun g => wbits g.words 0 7 0 == 0x52 && (recType g.buf == 0 || decide (2 < recType g.buf))) (busyRings x) x.hre.fetched = some (f, rest)) ∧ (y = { x with hre := { x.hre with fetched := rest } }) ∧ (sourceRefusal y 0 = none) ∧ (f.buf.length = 264) ∧ (recType f.buf = 0) ∧ (recTarget f.buf = 0)) ∧
    (∃ (s x y : State) (t c : Nat) (f : Fetched) (rest : List Fetched), (x = s.at t) ∧ (takeTurn (fun g => wbits g.words 0 7 0 == 0x52 && (recType g.buf == 0 || decide (2 < recType g.buf))) (busyRings x) x.hre.fetched = some (f, rest)) ∧ (y = { x with hre := { x.hre with fetched := rest } }) ∧ (sourceRefusal y 0 = some c)) ∧
    (∃ (s x y : State) (t j src : Nat) (f : Fetched) (rest : List Fetched) (q : Place) (m : List Byte), (x = s.at t) ∧ (takeTurn (fun g => wbits g.words 0 7 0 == 0x52 && recType g.buf == 1) (busyRings x) x.hre.fetched = some (f, rest)) ∧ (y = { x with hre := { x.hre with fetched := rest } }) ∧ (pieceRefusal y 0 f.buf 1288 = none) ∧ (recTarget f.buf = 1) ∧ (targetOf y 1 = some (q, m, src)) ∧ (j = recIndex f.buf) ∧ (j < hashPieces (manPieces m)) ∧ (j < 256) ∧ (marked y q.hashMark j = false)) ∧
    (∃ (s x y : State) (t src : Nat) (f : Fetched) (rest : List Fetched) (q : Place) (m : List Byte), (x = s.at t) ∧ (takeTurn (fun g => wbits g.words 0 7 0 == 0x52 && recType g.buf == 1) (busyRings x) x.hre.fetched = some (f, rest)) ∧ (y = { x with hre := { x.hre with fetched := rest } }) ∧ (pieceRefusal y 0 f.buf 1288 = none) ∧ (targetOf y (recTarget f.buf) = some (q, m, src)) ∧ (256 ≤ recIndex f.buf)) ∧
    (∃ (s x y : State) (t k src : Nat) (f : Fetched) (rest : List Fetched) (q : Place) (m : List Byte), (x = s.at t) ∧ (takeTurn (fun g => wbits g.words 0 7 0 == 0x52 && recType g.buf == 2) (busyRings x) x.hre.fetched = some (f, rest)) ∧ (y = { x with hre := { x.hre with fetched := rest } }) ∧ (pieceRefusal y 0 f.buf 1032 = none) ∧ (targetOf y (recTarget f.buf) = some (q, m, src)) ∧ (k = recIndex f.buf) ∧ (k < 8192) ∧ (k < manPieces m) ∧ (marked y q.dataMark k = false) ∧ (marked y q.hashMark (k / 32) = true)) ∧
    (∃ (s x y : State) (t src : Nat) (f : Fetched) (rest : List Fetched) (q : Place) (m : List Byte), (x = s.at t) ∧ (takeTurn (fun g => wbits g.words 0 7 0 == 0x52 && recType g.buf == 2) (busyRings x) x.hre.fetched = some (f, rest)) ∧ (y = { x with hre := { x.hre with fetched := rest } }) ∧ (pieceRefusal y 0 f.buf 1032 = none) ∧ (targetOf y (recTarget f.buf) = some (q, m, src)) ∧ (recIndex f.buf < 8192) ∧ (marked y q.dataMark (recIndex f.buf) = false) ∧ (marked y q.hashMark (recIndex f.buf / 32) = false)) ∧
    (∃ (s x : State) (t src : Nat) (q : Place) (m : List Byte), (x = s.at t) ∧ (x.en Blk.UPD = true) ∧ (allHeld x 1 = true) ∧ (isChecked x 1 = false) ∧ (targetOf x 1 = some (q, m, src)) ∧ (x.upd.manifests.length = 4)) ∧
    (∃ (s x : State) (t target : Nat), (x = s.at t) ∧ (allHeld x target = false)) :=
  ⟨⟨{ State.reset with upd.bootPending := false }, _, 0, false, false, false, none, none, rfl, by decide +kernel⟩,
   ⟨State.reset, _, 0, false, false, none, none, rfl, by decide +kernel⟩,
   ⟨State.reset, _, 0, false, none, none, rfl, by decide +kernel⟩,
   ⟨State.reset, _, 0, false, none, none, rfl, by decide +kernel⟩,
   ⟨{ st [(F.BLK_EN Blk.UPD, 1)] with hre.fetched := [⟨0, [0x52, 264, 0, 0, 0, 0, 0, 0], zeros 264⟩] }, _, _, 0, ⟨0, [0x52, 264, 0, 0, 0, 0, 0, 0], zeros 264⟩, [], rfl, by decide +kernel, rfl, by decide +kernel⟩,
   ⟨{ State.reset with hre.fetched := [got 0x52 0 0] }, _, _, 0, 0x0FF0, got 0x52 0 0, [], rfl, by decide +kernel, rfl, by decide +kernel⟩,
   ⟨{ st [(F.BLK_EN Blk.UPD, 1)] with flc.mem := slot1 ++ [], hre.fetched := [⟨0, [0x52, 1288, 0, 0, 0, 0, 0, 0], record 1 0 1284⟩] }, _, _, 0, 0, 0, ⟨0, [0x52, 1288, 0, 0, 0, 0, 0, 0], record 1 0 1284⟩, [], distPlace 0, man1, rfl, by decide +kernel, rfl, (piece_slot1 _ [] rfl _ _ (by decide +kernel) (by decide +kernel) (by decide +kernel) (by decide +kernel)), by decide +kernel, (target_slot1 _ [] rfl), by decide +kernel, by decide +kernel, by decide +kernel, ((marked_slot1 _ [] rfl _ _ (by decide +kernel)).trans (by decide +kernel))⟩,
   ⟨{ st [(F.BLK_EN Blk.UPD, 1)] with flc.mem := slot1 ++ [], hre.fetched := [⟨0, [0x52, 1288, 0, 0, 0, 0, 0, 0], record 1 256 1284⟩] }, _, _, 0, 0, ⟨0, [0x52, 1288, 0, 0, 0, 0, 0, 0], record 1 256 1284⟩, [], distPlace 0, man1, rfl, by decide +kernel, rfl, (piece_slot1 _ [] rfl _ _ (by decide +kernel) (by decide +kernel) (by decide +kernel) (by decide +kernel)), (target_slot1 _ [] rfl), by decide +kernel⟩,
   ⟨{ st [(F.BLK_EN Blk.UPD, 1)] with flc.mem := slot1 ++ listing [0, 0, 0, 0] 0x02002000, hre.fetched := [⟨0, [0x52, 1032, 0, 0, 0, 0, 0, 0], record 2 0 1028⟩] }, _, _, 0, 0, 0, ⟨0, [0x52, 1032, 0, 0, 0, 0, 0, 0], record 2 0 1028⟩, [], distPlace 0, man1, rfl, by decide +kernel, rfl, (piece_slot1 _ _ rfl _ _ (by decide +kernel) (by decide +kernel) (by decide +kernel) (by decide +kernel)), (target_slot1 _ _ rfl), by decide +kernel, by decide +kernel, by decide +kernel, ((marked_slot1 _ _ rfl _ _ (by decide +kernel)).trans (by decide +kernel)), ((marked_slot1 _ _ rfl _ _ (by decide +kernel)).trans (by decide +kernel))⟩,
   ⟨{ st [(F.BLK_EN Blk.UPD, 1)] with flc.mem := slot1 ++ [], hre.fetched := [⟨0, [0x52, 1032, 0, 0, 0, 0, 0, 0], record 2 0 1028⟩] }, _, _, 0, 0, ⟨0, [0x52, 1032, 0, 0, 0, 0, 0, 0], record 2 0 1028⟩, [], distPlace 0, man1, rfl, by decide +kernel, rfl, (piece_slot1 _ [] rfl _ _ (by decide +kernel) (by decide +kernel) (by decide +kernel) (by decide +kernel)), (target_slot1 _ [] rfl), by decide +kernel, ((marked_slot1 _ [] rfl _ _ (by decide +kernel)).trans (by decide +kernel)), ((marked_slot1 _ [] rfl _ _ (by decide +kernel)).trans (by decide +kernel))⟩,
   ⟨{ st [(F.BLK_EN Blk.UPD, 1), (F.BLK_EN (Blk.UPD), 1)] with flc.mem := slot1 ++ marks1 }, _, 0, 0, distPlace 0, man1, rfl, by decide +kernel, (held_slot1 _ _ rfl ((marked_slot1 _ _ rfl _ _ (by decide +kernel)).trans (by decide +kernel)) ((marked_slot1 _ _ rfl _ _ (by decide +kernel)).trans (by decide +kernel))), ((checked_slot1 _ _ rfl).trans (by decide +kernel)), (target_slot1 _ _ rfl), by decide +kernel⟩,
   ⟨State.reset, _, 0, 3, rfl, by decide +kernel⟩⟩

/-- The hypotheses of `Activation` are met, clause by clause. -/
theorem witness_Activation :
    (∃ (s x : State) (t : Nat), (x = s.at t) ∧ (x.en Blk.UPD = true) ∧ (x.get F.UPD_STATUS_STAGE = 2)) ∧
    (∃ (s x : State) (t : Nat), (x = s.at t) ∧ (x.get F.UPD_STATUS_STAGE ≠ 2)) ∧
    (∃ (s x : State) (t n : Nat), (x = s.at t) ∧ (x.en Blk.UPD = true) ∧ (x.get F.UPD_STATUS_STAGE = 3) ∧ (forwardGood x (manHandover (manifestOf x (targetBobbin x))) = true)) ∧
    (∃ (s x : State) (t n : Nat), (x = s.at t) ∧ (x.en Blk.UPD = true) ∧ (x.get F.UPD_STATUS_STAGE = 3) ∧ (forwardGood x (manHandover (manifestOf x (targetBobbin x))) = false)) ∧
    (∃ (s x : State) (t : Nat), (x = s.at t)) ∧
    (∃ (s x : State) (t : Nat), (x = s.at t)) ∧
    (∃ (s x : State) (t : Nat), (x = s.at t)) ∧
    (∃ (s x : State) (t n d : Nat), (x = s.at t) ∧ (x.en Blk.UPD = true) ∧ (x.get F.UPD_STATUS_STAGE = 4) ∧ (x.upd.aliveBy = some d)) ∧
    (∃ (s x : State) (t n : Nat), (x = s.at t) ∧ (x.en Blk.UPD = true) ∧ (x.get F.UPD_STATUS_STAGE = 4) ∧ (x.upd.aliveBy = none) ∧ (x.upd.revertBy = none)) ∧
    (∃ (s x : State) (t : Nat), (x = s.at t) ∧ (x.en Blk.UPD = true) ∧ (x.get F.UPD_STATUS_STAGE = 4) ∧ (x.upd.revertBy = none)) ∧
    (∃ (s x : State) (t : Nat), (x = s.at t) ∧ (x.get F.UPD_STATUS_STAGE ≠ 4)) ∧
    (∃ (s x : State) (t : Nat), (x = s.at t) ∧ (x.en Blk.UPD = true) ∧ (x.get F.UPD_STATUS_STAGE = 1)) ∧
    (∃ (s x : State) (t : Nat), (x = s.at t) ∧ (x.get F.UPD_STATUS_STAGE = 0)) ∧
    (∃ (s x : State) (t d : Nat), (x = s.at t) ∧ (x.get F.UPD_STATUS_STAGE = 3) ∧ (x.upd.quiesceBy = some d) ∧ (d ≤ x.now)) ∧
    (∃ (s x : State) (t d : Nat), (x = s.at t) ∧ (x.get F.UPD_STATUS_STAGE = 4) ∧ (x.upd.revertBy = some d) ∧ (d ≤ x.now) ∧ (recordedNow x = false)) ∧
    (∃ (s x : State) (t d : Nat), (x = s.at t) ∧ (x.upd.aliveBy = some d) ∧ (d ≤ x.now) ∧ (recordedNow x = false)) ∧
    (∃ (s x : State) (t : Nat), (x = s.at t) ∧ (x.upd.aliveBy = none)) ∧
    (∃ (s x : State) (t d : Nat), (x = s.at t) ∧ (x.upd.trialEnd = some d) ∧ (d ≤ x.now) ∧ (x.get F.UPD_STATUS_STAGE = 4) ∧ (x.upd.revertBy = none)) ∧
    (∃ (s x : State) (t : Nat), (x = s.at t) ∧ (x.upd.trialEnd = none)) :=
  ⟨⟨st [(F.BLK_EN (Blk.UPD), 1), (F.UPD_STATUS_STAGE, 2)], _, 0, rfl, by decide +kernel⟩,
   ⟨State.reset, _, 0, rfl, by decide +kernel⟩,
   ⟨{ st [(F.BLK_EN (Blk.UPD), 1), (F.UPD_STATUS_STAGE, 3)] with sram := listing ([0x48, 0x4F, 0x56, 0x52, 0, 1] ++ zeros 54 ++ [0x89, 0x51, 0x62, 0xF2]) 0x200C0000 }, _, 0, 0, rfl, by decide +kernel⟩,
   ⟨st [(F.BLK_EN (Blk.UPD), 1), (F.UPD_STATUS_STAGE, 3)], _, 0, 0, rfl, by decide +kernel⟩,
   ⟨State.reset, _, 0, rfl⟩,
   ⟨State.reset, _, 0, rfl⟩,
   ⟨State.reset, _, 0, rfl⟩,
   ⟨{ st [(F.BLK_EN (Blk.UPD), 1), (F.UPD_STATUS_STAGE, 4)] with upd.aliveBy := some 0 }, _, 0, 0, 0, rfl, by decide +kernel⟩,
   ⟨st [(F.BLK_EN (Blk.UPD), 1), (F.UPD_STATUS_STAGE, 4)], _, 0, 0, rfl, by decide +kernel⟩,
   ⟨st [(F.BLK_EN (Blk.UPD), 1), (F.UPD_STATUS_STAGE, 4)], _, 0, rfl, by decide +kernel⟩,
   ⟨State.reset, _, 0, rfl, by decide +kernel⟩,
   ⟨st [(F.BLK_EN (Blk.UPD), 1), (F.UPD_STATUS_STAGE, 1)], _, 0, rfl, by decide +kernel⟩,
   ⟨st [(F.UPD_STATUS_STAGE, 0)], _, 0, rfl, by decide +kernel⟩,
   ⟨{ st [(F.UPD_STATUS_STAGE, 3)] with upd.quiesceBy := some 0 }, _, 1000000000000000, 0, rfl, by decide +kernel⟩,
   ⟨{ st [(F.UPD_STATUS_STAGE, 4)] with upd.revertBy := some 0 }, _, 1000000000000000, 0, rfl, by decide +kernel⟩,
   ⟨{ State.reset with upd.aliveBy := some 0 }, _, 1000000000000000, 0, rfl, by decide +kernel⟩,
   ⟨State.reset, _, 0, rfl, by decide +kernel⟩,
   ⟨{ st [(F.UPD_STATUS_STAGE, 4)] with upd.trialEnd := some 0 }, _, 1000000000000000, 0, rfl, by decide +kernel⟩,
   ⟨State.reset, _, 0, rfl, by decide +kernel⟩⟩

/-- The hypotheses of `Distribution` are met, clause by clause. -/
theorem witness_Distribution :
    (∃ (s x y : State) (t d : Nat) (f : Fetched) (rest : List Fetched), (x = s.at t) ∧ (takeTurn (fun g => wbits g.words 0 7 0 == 0x53 && wbits g.words 6 7 0 == 1) (busyRings x) x.hre.fetched = some (f, rest)) ∧ (y = { x with hre := { x.hre with fetched := rest } }) ∧ (x.en Blk.UPD = true) ∧ (d = distIdx f) ∧ (isChecked y (d + 1) = true) ∧ (x.upd.dist.length = 2)) ∧
    (∃ (s x y : State) (t : Nat) (f : Fetched) (rest : List Fetched), (x = s.at t) ∧ (takeTurn (fun g => wbits g.words 0 7 0 == 0x53 && wbits g.words 6 7 0 == 1) (busyRings x) x.hre.fetched = some (f, rest)) ∧ (y = { x with hre := { x.hre with fetched := rest } }) ∧ (x.en Blk.UPD = true) ∧ (isChecked y (distIdx f + 1) = false)) ∧
    (∃ (s x : State) (t d : Nat) (f : Fetched) (rest : List Fetched) (c : Campaign), (x = s.at t) ∧ (takeTurn (fun g => wbits g.words 0 7 0 == 0x53 && wbits g.words 6 7 0 == 2) (busyRings x) x.hre.fetched = some (f, rest)) ∧ (x.en Blk.UPD = true) ∧ (d = distIdx f) ∧ (x.upd.dist.length = 2) ∧ ((x.distSlot d).campaign = some c)) ∧
    (∃ (s x : State) (t : Nat) (f : Fetched) (rest : List Fetched), (x = s.at t) ∧ (takeTurn (fun g => wbits g.words 0 7 0 == 0x53 && wbits g.words 6 7 0 == 3) (busyRings x) x.hre.fetched = some (f, rest)) ∧ (x.en Blk.UPD = true) ∧ (x.esm.firmware = [])) ∧
    (∃ (s x : State) (t d : Nat) (f : Fetched) (rest : List Fetched), (x = s.at t) ∧ (takeTurn (fun g => wbits g.words 0 7 0 == 0x53 && wbits g.words 6 7 0 == 4) (busyRings x) x.hre.fetched = some (f, rest)) ∧ (x.en Blk.UPD = true) ∧ (d = distIdx f) ∧ ((x.distSlot d).campaign = none) ∧ (x.upd.dist.length = 2)) ∧
    (∃ (s x y : State) (t : Nat) (f : Fetched) (rest : List Fetched) (c : Campaign), (x = s.at t) ∧ (takeTurn (fun g => wbits g.words 0 7 0 == 0x53 && wbits g.words 6 7 0 == 4) (busyRings x) x.hre.fetched = some (f, rest)) ∧ (y = { x with hre := { x.hre with fetched := rest } }) ∧ (x.en Blk.UPD = true) ∧ ((x.distSlot (distIdx f)).campaign = some c)) ∧
    (∃ (s x : State) (t d i : Nat) (c : Campaign), (x = s.at t) ∧ (d < 2) ∧ (x.upd.dist.length = 2) ∧ (x.esm.firmware = []) ∧ ((x.distSlot d).campaign = some c) ∧ (c.nextAt ≤ x.net) ∧ (frameUnderWay x d = false) ∧ (c.stopping = false) ∧ (x.net < c.deadline) ∧ (i ∈ targeted x c) ∧ (i ∉ (x.distSlot d).done) ∧ (i ∉ (x.distSlot d).failed) ∧ (c.perHour ≠ 0)) ∧
    (∃ (s x : State) (t d : Nat) (c : Campaign), (x = s.at t) ∧ (d < 2) ∧ (x.upd.dist.length = 2) ∧ (x.esm.firmware = []) ∧ ((x.distSlot d).campaign = some c) ∧ (c.nextAt ≤ x.net) ∧ (frameUnderWay x d = false) ∧ (c.stopping = false) ∧ (c.deadline ≤ x.net)) ∧
    (∃ (s x : State) (t d : Nat) (c : Campaign), (x = s.at t) ∧ (d < 2) ∧ (x.upd.dist.length = 2) ∧ (x.esm.firmware = []) ∧ ((x.distSlot d).campaign = some c) ∧ ((x.distSlot d).snapAt + 3600 * secondU ≤ x.now) ∧ ((x.distSlot d).changed = true)) :=
  ⟨⟨{ st [(F.BLK_EN (Blk.UPD), 1)] with flc.mem := slot1 ++ [], upd.manifests := [[], [], man1, []], hre.fetched := [got 0x53 1 0] }, _, _, 0, 0, got 0x53 1 0, [], rfl, by decide +kernel, rfl, by decide +kernel, by decide +kernel, ((checked_slot1 _ _ rfl).trans (by decide +kernel)), by decide +kernel⟩,
   ⟨{ st [(F.BLK_EN (Blk.UPD), 1)] with flc.mem := slot1 ++ [], hre.fetched := [got 0x53 1 0] }, _, _, 0, got 0x53 1 0, [], rfl, by decide +kernel, rfl, by decide +kernel, ((checked_slot1 _ _ rfl).trans (by decide +kernel))⟩,
   ⟨{ st [(F.BLK_EN (Blk.UPD), 1)] with hre.fetched := [got 0x53 2 0], upd.dist := [{ DistSlot.reset with campaign := some campaign0 }, { DistSlot.reset with campaign := some campaign0 }] }, _, 0, 0, got 0x53 2 0, [], campaign0, rfl, by decide +kernel⟩,
   ⟨{ st [(F.BLK_EN (Blk.UPD), 1)] with hre.fetched := [got 0x53 3 0] }, _, 0, got 0x53 3 0, [], rfl, by decide +kernel⟩,
   ⟨{ st [(F.BLK_EN (Blk.UPD), 1)] with hre.fetched := [got 0x53 4 0] }, _, 0, 0, got 0x53 4 0, [], rfl, by decide +kernel⟩,
   ⟨{ st [(F.BLK_EN (Blk.UPD), 1)] with hre.fetched := [got 0x53 4 0], upd.dist := [{ DistSlot.reset with campaign := some campaign0 }, { DistSlot.reset with campaign := some campaign0 }] }, _, _, 0, got 0x53 4 0, [], campaign0, rfl, by decide +kernel, rfl, by decide +kernel⟩,
   ⟨{ State.reset with flc.mem := (List.range 12).map (fun k => (dirBase + k, (if k = 10 then 0x10 else 0 : Byte))), upd.dist := [{ DistSlot.reset with campaign := some { campaign0 with deadline := slotU } }, { DistSlot.reset with campaign := some { campaign0 with deadline := slotU } }] }, _, 0, 1, 0, { campaign0 with deadline := slotU }, rfl, by decide +kernel⟩,
   ⟨{ State.reset with upd.dist := [{ DistSlot.reset with campaign := some ({ campaign0 with stopping := false }) }, { DistSlot.reset with campaign := some ({ campaign0 with stopping := false }) }] }, _, 1000000000000000, 1, { campaign0 with stopping := false }, rfl, by decide +kernel⟩,
   ⟨{ State.reset with upd.dist := [{ DistSlot.reset with campaign := some campaign0, changed := true }, { DistSlot.reset with campaign := some campaign0, changed := true }] }, _, 1000000000000000, 1, campaign0, rfl, by decide +kernel⟩⟩

/-- The hypotheses of `TagProtocol` are met, clause by clause. -/
theorem witness_TagProtocol :
    (∃ (s x : State) (t : Nat) (w : Bool), (x = s.at t) ∧ (inField x = true) ∧ (x.tag.quietUntil ≤ x.now) ∧ (x.tag.st = .idle)) ∧
    (∃ (s x : State) (t : Nat) (w : Bool), (x = s.at t) ∧ (inField x = true) ∧ (x.now < x.tag.quietUntil)) ∧
    (∃ (s x : State) (t : Nat) (w : Bool), (x = s.at t) ∧ (inField x = false)) ∧
    (∃ (s x : State) (t : Nat) (known : List Bool), (x = s.at t) ∧ (inField x = true) ∧ (x.tag.st = .ready) ∧ ((uidBits (cascade 1)).take known.length = known)) ∧
    (∃ (s x : State) (t : Nat), (x = s.at t) ∧ (inField x = true) ∧ (x.tag.st = .ready)) ∧
    (∃ (s x : State) (t : Nat), (x = s.at t) ∧ (inField x = true) ∧ (x.tag.st = .level2)) ∧
    (∃ (s x : State) (t : Nat) (uid : List Byte), (x = s.at t) ∧ (inField x = true) ∧ (x.tag.st = .ready) ∧ (uid ≠ cascade 1)) ∧
    (∃ (s x : State) (t : Nat), (x = s.at t) ∧ (inField x = true) ∧ (x.tag.st = .active)) ∧
    (∃ (s x : State) (t : Nat), (x = s.at t) ∧ (x.tag.st = .idle)) ∧
    (∃ (s x : State) (t rate : Nat), (x = s.at t) ∧ (inField x = true) ∧ (x.tag.st = .session)) ∧
    (∃ (s x : State) (t : Nat), (x = s.at t) ∧ (inField x = true) ∧ (x.tag.st = .session) ∧ (x.tag.selected = false)) ∧
    (∃ (s x : State) (t : Nat), (x = s.at t) ∧ (inField x = true) ∧ (x.tag.st = .session) ∧ (x.tag.selected = true)) ∧
    (∃ (s x : State) (t : Nat), (x = s.at t) ∧ (inField x = false) ∧ (x.sup.power ≠ .off) ∧ (x.en Blk.TAG = true)) ∧
    (∃ (s x : State) (t : Nat), (x = s.at t) ∧ (inField x = true)) ∧
    (∃ (s x : State) (t : Nat), (x = s.at t) ∧ (inField x = false)) ∧
    (∃ (s x : State) (t : Nat), (x = s.at t) ∧ (x.tag.quietUntil ≤ x.now)) ∧
    (∃ (s x : State) (t : Nat), (x = s.at t) ∧ (x.en Blk.TAG = true)) ∧
    (∃ (s x : State) (t ball : Nat), (x = s.at t) ∧ (x.en Blk.TAG = true) ∧ (x.sup.power ≠ .off)) ∧
    (∃ (s x : State) (t ball : Nat), (x = s.at t) ∧ (x.en Blk.TAG = true) ∧ (x.sup.power ≠ .off)) :=
  ⟨⟨{ st [(F.TAG_STATUS_FIELD, 1)] with tag.st := .idle }, _, 1000000000000000, false, rfl, by decide +kernel⟩,
   ⟨{ st [(F.TAG_STATUS_FIELD, 1)] with tag.quietUntil := 1 }, _, 0, false, rfl, by decide +kernel⟩,
   ⟨State.reset, _, 0, false, rfl, by decide +kernel⟩,
   ⟨{ st [(F.TAG_STATUS_FIELD, 1)] with tag.st := .ready }, _, 0, [], rfl, by decide +kernel⟩,
   ⟨{ st [(F.TAG_STATUS_FIELD, 1)] with tag.st := .ready }, _, 0, rfl, by decide +kernel⟩,
   ⟨{ st [(F.TAG_STATUS_FIELD, 1)] with tag.st := .level2 }, _, 0, rfl, by decide +kernel⟩,
   ⟨{ st [(F.TAG_STATUS_FIELD, 1)] with tag.st := .ready }, _, 0, [], rfl, by decide +kernel⟩,
   ⟨{ st [(F.TAG_STATUS_FIELD, 1)] with tag.st := .active }, _, 0, rfl, by decide +kernel⟩,
   ⟨{ State.reset with tag.st := .idle }, _, 0, rfl, by decide +kernel⟩,
   ⟨{ st [(F.TAG_STATUS_FIELD, 1)] with tag.st := .session }, _, 0, 0, rfl, by decide +kernel⟩,
   ⟨{ st [(F.TAG_STATUS_FIELD, 1)] with tag.st := .session }, _, 0, rfl, by decide +kernel⟩,
   ⟨{ st [(F.TAG_STATUS_FIELD, 1)] with tag.st := .session, tag.selected := true }, _, 0, rfl, by decide +kernel⟩,
   ⟨st [(F.BLK_EN (Blk.TAG), 1)], _, 0, rfl, by decide +kernel⟩,
   ⟨st [(F.TAG_STATUS_FIELD, 1)], _, 0, rfl, by decide +kernel⟩,
   ⟨State.reset, _, 0, rfl, by decide +kernel⟩,
   ⟨State.reset, _, 1000000000000000, rfl, by decide +kernel⟩,
   ⟨st [(F.BLK_EN (Blk.TAG), 1)], _, 0, rfl, by decide +kernel⟩,
   ⟨st [(F.BLK_EN (Blk.TAG), 1)], _, 0, 0, rfl, by decide +kernel⟩,
   ⟨st [(F.BLK_EN (Blk.TAG), 1)], _, 0, 0, rfl, by decide +kernel⟩⟩

/-- The hypotheses of `TagWrites` are met, clause by clause. -/
theorem witness_TagWrites :
    (∃ (s x : State) (t : Nat), (x = s.at t) ∧ (inField x = true) ∧ (x.tag.st = .session)) ∧
    (∃ (s x : State) (t : Nat), (x = s.at t) ∧ (inField x = true) ∧ (x.tag.st = .session)) ∧
    (∃ (s x : State) (t o n : Nat), (x = s.at t) ∧ (inField x = true) ∧ (x.tag.st = .session) ∧ (x.tag.file = .capability) ∧ (o < 15) ∧ (o + n ≤ 15)) ∧
    (∃ (s x : State) (t : Nat), (x = s.at t) ∧ (inField x = true) ∧ (x.tag.st = .session)) ∧
    (∃ (s x : State) (t : Nat) (data : List Byte), (x = s.at t) ∧ (inField x = true) ∧ (x.tag.st = .session) ∧ (x.tag.file = .vendor) ∧ (data.length = 2) ∧ (leNat data ≠ 0) ∧ (leNat data ≤ 4064) ∧ ((tagMode x).2.2 = true)) ∧
    (∃ (s x : State) (t o : Nat) (data : List Byte) (b : TagBuffer), (x = s.at t) ∧ (inField x = true) ∧ (x.tag.st = .session) ∧ (x.tag.file = .vendor) ∧ (x.tag.buffer = some b) ∧ (0 < data.length) ∧ (data.length ≤ 240) ∧ (o + data.length ≤ b.len)) ∧
    (∃ (s x : State) (t : Nat), (x = s.at t) ∧ (inField x = true) ∧ (x.tag.st = .session) ∧ (x.tag.file = .vendor)) ∧
    (∃ (s x : State) (t : Nat), (x = s.at t) ∧ (inField x = true) ∧ (x.tag.st = .session) ∧ (x.tag.file = .vendor)) ∧
    (∃ (s x : State) (t : Nat) (data : List Byte) (b : TagBuffer), (x = s.at t) ∧ (inField x = true) ∧ (x.tag.st = .session) ∧ (x.tag.file = .vendor) ∧ (x.tag.buffer = some b) ∧ (data.length = 4) ∧ ((tagMode x).2.2 = true) ∧ (leNat data ≠ crc32 b.bytes)) ∧
    (∃ (s x : State) (t : Nat) (data : List Byte) (b : TagBuffer), (x = s.at t) ∧ (inField x = true) ∧ (x.tag.st = .session) ∧ (x.tag.file = .vendor) ∧ (x.tag.buffer = some b) ∧ (data.length = 4) ∧ ((tagMode x).2.2 = true) ∧ (leNat data = crc32 b.bytes) ∧ (x.sup.power ≠ .off)) ∧
    (∃ (s x : State) (t cla : Nat) (data : List Byte), (x = s.at t) ∧ (inField x = true) ∧ (x.tag.st = .session) ∧ (cla ≠ 0x80)) ∧
    (∃ (s x : State) (t cla : Nat), (x = s.at t) ∧ (inField x = false)) ∧
    (∃ (s x : State) (t cla : Nat), (x = s.at t) ∧ (inField x = false)) :=
  ⟨⟨{ st [(F.TAG_STATUS_FIELD, 1)] with tag.st := .session }, _, 0, rfl, by decide +kernel⟩,
   ⟨{ st [(F.TAG_STATUS_FIELD, 1)] with tag.st := .session }, _, 0, rfl, by decide +kernel⟩,
   ⟨{ st [(F.TAG_STATUS_FIELD, 1)] with tag.st := .session, tag.file := .capability }, _, 0, 14, 1, rfl, by decide +kernel⟩,
   ⟨{ st [(F.TAG_STATUS_FIELD, 1)] with tag.st := .session }, _, 0, rfl, by decide +kernel⟩,
   ⟨{ st [(F.TAG_STATUS_FIELD, 1)] with tag.st := .session, tag.file := .vendor }, _, 0, [1, 0], rfl, by decide +kernel⟩,
   ⟨{ st [(F.TAG_STATUS_FIELD, 1)] with tag.st := .session, tag.file := .vendor, tag.buffer := some ({ tagBuffer0 with len := 1 }) }, _, 0, 0, [1], { tagBuffer0 with len := 1 }, rfl, by decide +kernel⟩,
   ⟨{ st [(F.TAG_STATUS_FIELD, 1)] with tag.st := .session, tag.file := .vendor }, _, 0, rfl, by decide +kernel⟩,
   ⟨{ st [(F.TAG_STATUS_FIELD, 1)] with tag.st := .session, tag.file := .vendor }, _, 0, rfl, by decide +kernel⟩,
   ⟨{ st [(F.TAG_STATUS_FIELD, 1)] with tag.st := .session, tag.file := .vendor, tag.buffer := some tagBuffer0 }, _, 0, [1, 0, 0, 0], tagBuffer0, rfl, by decide +kernel⟩,
   ⟨{ st [(F.TAG_STATUS_FIELD, 1)] with tag.st := .session, tag.file := .vendor, tag.buffer := some tagBuffer0 }, _, 0, [0, 0, 0, 0], tagBuffer0, rfl, by decide +kernel⟩,
   ⟨{ st [(F.TAG_STATUS_FIELD, 1)] with tag.st := .session }, _, 0, 0, [], rfl, by decide +kernel⟩,
   ⟨State.reset, _, 0, 0, rfl, by decide +kernel⟩,
   ⟨State.reset, _, 0, 0, rfl, by decide +kernel⟩⟩

end Sys2Proof.Tests
end

/-! PROOFS. The scope's statements: the step and its queue (R13), and register accesses (R14, R535), whose statement a
host in D3hot refutes. -/

namespace Sys2Proof.Machine

/-- Settles O1: each equation is the branch of `step` that the queue selects. -/
theorem stepRunsFrontCommand : Obligations.StepRunsFrontCommand := by
  refine ⟨fun s c rest hfront => ?front, fun s hempty => ?idle⟩
  case front => rw [step, hfront]
  case idle => rw [step, hempty]

/-- In D3hot only configuration space answers the host (notes/assumptions/99.md): its read of any other address
delivers and latches nothing. -/
theorem State.lowerWordRead_host_d3hot {s : State} {a : Nat} (hd3 : s.pcie.d3hot = true) (hcfg : inConfig a = none) :
    s.lowerWordRead .host a = s := by
  unfold State.lowerWordRead
  split
  · rfl
  · rw [if_pos ⟨rfl, hd3, Option.isNone_iff_eq_none.mpr hcfg⟩]

/-- The device as after a power-on reset, its PCIe function in D3hot. -/
def resetInD3hot : State := { State.reset with pcie.d3hot := true }

/-- The host brings the device there from reset, by one write of the power state in configuration space. -/
theorem exec_powerStateWrite_reset :
    exec (.registerWrite 0 .host (configBase + 0x44) 3 true) State.reset = .next resetInD3hot := rfl

/-- Refutes O7: its clause on reads of lower words does not ask that the PCIe function of a reading host be in D0. In
D3hot, the host's read of SYS BLK_CHK, a 64-bit register, delivers no word. -/
theorem not_registerAccess : ¬ Obligations.RegisterAccess := by
  unfold Obligations.RegisterAccess
  rintro ⟨-, -, -, -, -, hlower, -⟩
  obtain ⟨r, hexec, -, hdelivered, -⟩ := hlower resetInD3hot (resetInD3hot.at 0) 0 (Reg.BLK_CHK Blk.SYS) .host rfl
    (by decide +kernel) (by decide +kernel) (by decide)
  have hread : (resetInD3hot.at 0).lowerWordRead .host (Reg.BLK_CHK Blk.SYS) = resetInD3hot.at 0 :=
    State.lowerWordRead_host_d3hot (by decide +kernel) (by decide)
  have hr : r = resetInD3hot.at 0 := (Host.Outcome.next.inj hexec).symm.trans hread
  simp [hr] at hdelivered

end Sys2Proof.Machine

/-! PROOFS. The host rings' statements (chapter 2): enable checks, ring set-up and traffic, the control ring's commands, and
the radio descriptors up to admission. -/

namespace Sys2Proof.Machine

/-- A field reads the same in two states whose registers there are the same. -/
theorem State.get_of_rd {s r : State} {f : Fld} (h : r.rd f.addr = s.rd f.addr) : r.get f = s.get f := by
  rw [State.get, h, State.get]

theorem State.on_of_rd {s r : State} {f : Fld} (h : r.rd f.addr = s.rd f.addr) : r.on f = s.on f := by
  rw [State.on, State.get_of_rd h, State.on]

/-! ### Enable checks (R65, R66, R568) -/

/-- What a refused check shows in the block's BLK_CHK. -/
theorem State.checkRefused_shows (s : State) (b code field : Nat) :
    (s.checkRefused b code field).get (F.CHK_STATUS b) = 3 ∧
    (s.checkRefused b code field).get (F.CHK_REASON b) = code % 65536 ∧
    (s.checkRefused b code field).rd (Reg.BLK_CHK_FIELD b) = word field := by
  simp [State.checkRefused, F.CHK_STATUS, F.CHK_REASON, Reg.BLK_CHK_FIELD]

/-- It leaves the block's BLK_CTL alone. -/
theorem State.checkRefused_ctl (s : State) (b code field : Nat) :
    (s.checkRefused b code field).rd (Reg.BLK_CTL b) = s.rd (Reg.BLK_CTL b) := by
  simp [State.checkRefused, F.CHK_STATUS, F.CHK_REASON, Reg.BLK_CHK_FIELD, Reg.BLK_CTL]

/-- Writing 1 to EN of a disabled block starts its check. -/
theorem State.enable_starts {s : State} {b : Nat} (hb : b < 23) (hen : s.en b = false)
    (hbusy : s.on (F.BLK_BUSY b) = false) :
    s.enable b = (((s.put (F.BLK_BUSY b) 1).put (F.CHK_STATUS b) 1).put (F.CHK_REASON b) 0).wr (Reg.BLK_CHK_FIELD b) 0 := by
  rw [State.enable, if_neg (by simp [Nat.not_le.mpr hb, hen, hbusy])]

/-- Writing 0 to EN during the check abandons it. -/
theorem State.abandonCheck_busy {s : State} {b : Nat} (hb : b < 23) (hbusy : s.on (F.BLK_BUSY b) = true) :
    s.abandonCheck b = ((s.put (F.BLK_BUSY b) 0).put (F.CHK_STATUS b) 0).put (F.CHK_REASON b) (b * 256 + 0xF5) := by
  rw [State.abandonCheck, if_neg (by simp [Nat.not_le.mpr hb, hbusy])]

/-- A check that finds a fault ends as refused, BUSY cleared; only a fault of a cell writes a register of another block. -/
theorem State.checkDone_refused {s : State} {b : Nat} {f : Fault3} (hb : b < 23) (hbusy : s.on (F.BLK_BUSY b) = true)
    (hwaits : checkWaits s b = false) (hfault : checkFault s b = some f) :
    ∃ y : State, y.rd (Reg.BLK_CTL b) = (s.put (F.BLK_BUSY b) 0).rd (Reg.BLK_CTL b) ∧
      s.checkDone b = y.checkRefused b (b * 256 + f.code) f.field := by
  have hnot : ¬ (23 ≤ b ∨ (!s.on (F.BLK_BUSY b)) = true ∨ checkWaits s b = true) := by simp [hb, hbusy, hwaits]
  rw [State.checkDone, if_neg hnot, hfault]
  dsimp only
  cases f.cell with
  | none => exact ⟨_, rfl, rfl⟩
  | some i =>
    refine ⟨_, State.rd_put_other _ _ _ ?_, rfl⟩
    simp only [Reg.BLK_CTL, blockBase, F.CHN_CELL_IDX_IDX, Reg.CHN_CELL_IDX]
    omega

/-- Settles O8: each command is a few field writes of the block's BLK_CTL and BLK_CHK (R66). -/
theorem enableCheck : Obligations.EnableCheck := by
  unfold Obligations.EnableCheck
  refine ⟨?start, ?abandon, ?refuse⟩
  case start =>
    rintro s x t b rfl hb hen hbusy
    refine ⟨_, congrArg Host.Outcome.next (State.enable_starts hb hen hbusy), ?_, ?_, ?_, ?_, State.rd_wr_same .., ?_, rfl⟩
    · simp [F.BLK_BUSY, F.CHK_STATUS, F.CHK_REASON, Reg.BLK_CHK_FIELD]
    · simp_all [State.en, F.BLK_BUSY, F.BLK_EN, F.CHK_STATUS, F.CHK_REASON, Reg.BLK_CHK_FIELD]
    · simp [F.CHK_STATUS, F.CHK_REASON, Reg.BLK_CHK_FIELD]
    · simp [F.CHK_REASON, Reg.BLK_CHK_FIELD]
    · intro a hctl hchk hfield
      simp_all [F.BLK_BUSY, F.CHK_STATUS, F.CHK_REASON, Reg.BLK_CTL, Reg.BLK_CHK]
  case abandon =>
    rintro s x t b rfl hb hbusy
    refine ⟨_, congrArg Host.Outcome.next (State.abandonCheck_busy hb hbusy), ?_, ?_, ?_, ?_, ?_, rfl⟩
    · simp [F.BLK_BUSY, F.CHK_STATUS, F.CHK_REASON]
    · simp [State.en, F.BLK_BUSY, F.BLK_EN, F.CHK_STATUS, F.CHK_REASON]
    · simp [F.CHK_STATUS, F.CHK_REASON]
    · exact (State.get_put_same _ _ _ (by simp [F.CHK_REASON])).trans (Nat.mod_eq_of_lt (by simp only [F.CHK_REASON]; omega))
    · intro a hctl hchk
      simp_all [F.BLK_BUSY, F.CHK_STATUS, F.CHK_REASON, Reg.BLK_CTL, Reg.BLK_CHK]
  case refuse =>
    rintro s x t b f rfl hb hen hbusy hwaits hfault hcode
    obtain ⟨y, hy, hdone⟩ := State.checkDone_refused hb hbusy hwaits hfault
    obtain ⟨hstatus, hreason, hfield⟩ := State.checkRefused_shows y b (b * 256 + f.code) f.field
    have hctl := (State.checkRefused_ctl y b (b * 256 + f.code) f.field).trans hy
    refine ⟨_, congrArg Host.Outcome.next hdone, ?_, ?_, hstatus, ?_, hfield⟩
    · rw [State.en, State.on_of_rd (f := F.BLK_EN b) hctl]
      simp_all [State.en, F.BLK_BUSY, F.BLK_EN]
    · rw [State.on_of_rd (f := F.BLK_BUSY b) hctl]
      simp [F.BLK_BUSY]
    · rw [hreason]; omega

/-! ### Ring set-up (R45, R49, R52, R56) -/

/-- Changing an element of a list and reading it. -/
theorem getD_modAt_same {α : Type} (f : α → α) (d : α) (l : List α) (n : Nat) (h : n < l.length) :
    (modAt f l n).getD n d = f (l.getD n d) := by
  induction l generalizing n with
  | nil => simp at h
  | cons x l ih => cases n with
    | zero => rfl
    | succ n => simpa [modAt] using ih n (by simpa using h)

/-- What the ring engine keeps for a ring after a change of it. -/
theorem State.ring_setRing_same (s : State) {n : Nat} (f : Ring → Ring) (h : n < s.hre.rings.length) :
    (s.setRing n f).ring n = f (s.ring n) :=
  getD_modAt_same f Ring.reset s.hre.rings n h

/-- A ring with signalled entries is one of the rings that the engine keeps. -/
theorem State.lt_rings_of_sigCount {s : State} {n : Nat} (h : 0 < (s.ring n).sigCount) : n < s.hre.rings.length := by
  refine Nat.lt_of_not_le fun hn => ?_
  have hr : s.ring n = Ring.reset := by
    simp only [State.ring, List.getD_eq_getElem?_getD, List.getElem?_eq_none hn, Option.getD_none]
  rw [hr] at h
  exact absurd h (by decide)

/-- A disabled ring that passes the ring check is set up and starts empty (R52). -/
theorem State.ringEnable_pass {s : State} {n : Nat} (hn : n < 24) (hen : s.on (F.HRE_RING_CFG_EN n) = false)
    (hcheck : ringCheck s n = none) :
    ∃ f, s.ringEnable n = (((((s.put (F.HRE_RING_CFG_EN n) 1).put (F.HRE_RING_STATUS_REASON n) 0).put
      (F.HRE_RING_STATUS_ERR n) 0).put (F.HRE_RING_HEAD_INDEX n) 0).put (F.HRE_RING_HEAD_PHASE n) 1).setRing n f := by
  rw [State.ringEnable, if_neg (by simp [hen, hn]), hcheck]
  exact ⟨_, rfl⟩

/-- One that fails it shows the code (R52). -/
theorem State.ringEnable_refused {s : State} {n c : Nat} (hn : n < 24) (hen : s.on (F.HRE_RING_CFG_EN n) = false)
    (hcheck : ringCheck s n = some c) : s.ringEnable n = s.put (F.HRE_RING_STATUS_REASON n) c := by
  rw [State.ringEnable, if_neg (by simp [hen, hn]), hcheck]

/-- A ring without reservations is disabled (R52). -/
theorem State.ringDisable_clears {s : State} {n : Nat} (hn : n < 24) (hen : s.on (F.HRE_RING_CFG_EN n) = true)
    (hrsv : s.get (F.HRE_RING_RSV_COUNT n) = 0) : s.ringDisable n = s.put (F.HRE_RING_CFG_EN n) 0 := by
  rw [State.ringDisable, if_neg (by simp [Nat.not_le.mpr hn, hen]), if_neg (by simp [hrsv])]

/-- A completion ring with reservations that no error has stopped refuses (R52). -/
theorem State.ringDisable_refused {s : State} {n : Nat} (hlo : 16 ≤ n) (hhi : n ≤ 20)
    (hen : s.on (F.HRE_RING_CFG_EN n) = true) (hrsv : 0 < s.get (F.HRE_RING_RSV_COUNT n))
    (herr : s.on (F.HRE_RING_STATUS_ERR n) = false) :
    s.ringDisable n = s.put (F.HRE_RING_STATUS_REASON n) 0x040D := by
  have hn : n < 24 := by omega
  rw [State.ringDisable, if_neg (by simp [hen, hn]), if_pos (by simp [isCompletion, hlo, hhi, hrsv, herr])]

/-- A doorbell of a submission ring (R45). -/
theorem State.doorbell_submission (s : State) {n : Nat} (idx : Nat) (hn : n ≤ 13) :
    s.doorbell n idx = s.setRing n (fun r => { r with db := idx % 65536, waitDb := false }) := by
  rw [State.doorbell, if_pos (by simp [isSubmission, hn])]

/-- A doorbell of a completion ring (R56). -/
theorem State.doorbell_completion (s : State) {n : Nat} (idx : Nat) (hlo : 16 ≤ n) (hhi : n ≤ 20) :
    s.doorbell n idx = s.setRing n (fun r => { r with unreleased :=
      if (s.get (F.HRE_RING_HEAD_INDEX n) + ringSize s n - idx % ringSize s n) % ringSize s n ≤ r.unreleased then
        (s.get (F.HRE_RING_HEAD_INDEX n) + ringSize s n - idx % ringSize s n) % ringSize s n else r.unreleased }) := by
  rw [State.doorbell, if_neg (by simp only [isSubmission, decide_eq_true_eq]; omega), if_pos (by simp [isCompletion, hlo, hhi])]

/-- In the anchor profile, with interrupts not mirrored to the cores, a vector is an MSI-X message (R49, R512). -/
theorem State.vector_anchor {s : State} {v src : Nat} (hrelay : s.relay = false) (hmirror : s.on F.CPX_CFG_MIRROR = false) :
    s.vector v src = { s with msix := s.msix ++ [v] }.sendMsix v := by
  simp [State.vector, hrelay, hmirror]

/-- The vector of a ring whose HRE_IER bit is set (R49). -/
theorem State.signalRing_enabled {s : State} {n : Nat} (hier : bits (s.get F.HRE_IER_ENABLE) n n = 1) :
    s.signalRing n = (s.setRing n (fun r => { r with sigCount := 0 })).vector (s.get (F.HRE_RING_CFG_VEC n))
      (16 + s.get (F.HRE_RING_CFG_VEC n)) := by
  rw [State.signalRing, if_pos hier]

/-- Settles O10: each command writes fields of the ring's registers, or what the ring engine keeps for it. -/
theorem ringSetUp : Obligations.RingSetUp := by
  unfold Obligations.RingSetUp
  refine ⟨?enable, ?refused, ?disable, ?reserved, ?submission, ?completion, ?moderation⟩
  case enable =>
    rintro s x t n rfl hn hen hcheck
    obtain ⟨f, hx⟩ := State.ringEnable_pass hn hen hcheck
    refine ⟨_, congrArg Host.Outcome.next hx, ?_, ?_, ?_, ?_, ?_, State.setRing_items ..⟩
    all_goals
      rw [State.setRing_get]
      simp [F.HRE_RING_CFG_EN, F.HRE_RING_STATUS_REASON, F.HRE_RING_STATUS_ERR, F.HRE_RING_HEAD_INDEX,
        F.HRE_RING_HEAD_PHASE, Reg.HRE_RING_CFG, Reg.HRE_RING_STATUS, Reg.HRE_RING_HEAD]
  case refused =>
    rintro s x t n c rfl hn hen hcheck
    refine ⟨_, congrArg Host.Outcome.next (State.ringEnable_refused hn hen hcheck), ?_, ?_, rfl⟩
    · rwa [State.on_put_reg]
      simp [F.HRE_RING_CFG_EN, F.HRE_RING_STATUS_REASON, Reg.HRE_RING_CFG, Reg.HRE_RING_STATUS]
    · exact State.get_put_same _ _ _ (by simp [F.HRE_RING_STATUS_REASON])
  case disable =>
    rintro s x t n rfl hn hen hrsv
    refine ⟨_, congrArg Host.Outcome.next (State.ringDisable_clears hn hen hrsv), ?_, ?_, rfl⟩
    · exact State.on_put_zero _ _ (by simp [F.HRE_RING_CFG_EN])
    · exact fun a ha => State.rd_put_other _ _ _ ha
  case reserved =>
    rintro s x t n rfl hlo hhi hen hrsv herr
    refine ⟨_, congrArg Host.Outcome.next (State.ringDisable_refused hlo hhi hen hrsv herr), ?_, ?_, rfl⟩
    · rwa [State.on_put_reg]
      simp [F.HRE_RING_CFG_EN, F.HRE_RING_STATUS_REASON, Reg.HRE_RING_CFG, Reg.HRE_RING_STATUS]
    · exact State.get_put_same _ _ _ (by simp [F.HRE_RING_STATUS_REASON])
  case submission =>
    rintro s x t n idx rfl hsub hn hidx
    refine ⟨_, congrArg Host.Outcome.next (State.doorbell_submission _ idx hsub), ?_⟩
    rw [State.ring_setRing_same _ _ hn]
    exact ⟨Nat.mod_eq_of_lt hidx, rfl, rfl, rfl, rfl⟩
  case completion =>
    rintro s x t n idx left rfl hlo hhi hn rfl hleft
    refine ⟨_, congrArg Host.Outcome.next (State.doorbell_completion _ idx hlo hhi), ?_, rfl, rfl⟩
    rw [State.ring_setRing_same _ _ hn]
    exact if_pos hleft
  case moderation =>
    rintro s x t n m rfl rfl hmod hsig hdue hier hrelay hmirror
    have hx : (s.at t).modTime n = _ := (if_pos ⟨hmod, hsig, hdue⟩).trans
      ((State.signalRing_enabled hier).trans (State.vector_anchor (by simpa using hrelay) (by simpa using hmirror)))
    refine ⟨_, congrArg Host.Outcome.next hx, ?_, ?_, ?_, ?_⟩
    · rw [State.ring, State.sendMsix_hre]
      exact congrArg Ring.sigCount (State.ring_setRing_same _ _ (State.lt_rings_of_sigCount hsig))
    · simp
    · simp
    · simp

/-! ### The control ring's commands (R54, R59 to R64) -/

/-- The next fetched descriptor of an opcode that no undecided descriptor of its ring precedes is the one that runs (R54). -/
theorem State.onFetched_turn {s : State} {op : Nat} {f : Fetched} {rest : List Fetched} (k : State → Fetched → State)
    (hturn : takeTurn (fun g => wbits g.words 0 7 0 == op) (busyRings s) s.hre.fetched = some (f, rest)) :
    s.onFetched op k = k { s with hre := { s.hre with fetched := rest } } f := by
  rw [State.onFetched, State.onTurn, hturn]

/-- The first FENCE_ALL ends once no host item accepted before it is left (R59). -/
theorem State.fenceDone_first {s : State} {f : Fence} {rest : List Fence} (hfences : s.hre.fences = f :: rest)
    (hitems : ∀ i ∈ s.items, i.owner = .host → f.before ≤ i.seq) :
    s.fenceDone = { s with hre := { s.hre with fences := rest, outq := s.hre.outq ++
      [⟨16, f.tag, 2, 0, 0, 0, s.net, 0, 0, 0, 0, f.irq, none, true⟩] } } := by
  have hnone : s.items.any (fun i => i.owner == .host && decide (i.seq < f.before)) = false := by
    simpa using hitems
  rw [State.fenceDone, hfences]
  simp only [hnone, Bool.false_eq_true, if_false]

/-- Settles O12: each command is its meaning on the descriptor whose turn it is (onFetched_turn), or a branch of
`State.setQuench`. -/
theorem controlCommands : Obligations.ControlCommands := by
  unfold Obligations.ControlCommands
  refine ⟨?nop, ?cancelled, ?missing, ?fence, ?fenceEnd, ?buffer, ?quench, ?set, ?clear⟩
  case nop =>
    rintro s x t f rest rfl hturn
    exact congrArg Host.Outcome.next (State.onFetched_turn _ hturn)
  case cancelled =>
    rintro s x t f rest i rfl hturn hitem
    refine congrArg Host.Outcome.next ((State.onFetched_turn _ hturn).trans ?_)
    simp only [State.cancelItem, hitem]
  case missing =>
    rintro s x t f rest rfl hturn hitem
    refine congrArg Host.Outcome.next ((State.onFetched_turn _ hturn).trans ?_)
    simp only [State.cancelItem, hitem]
  case fence =>
    rintro s x t f rest rfl hturn
    exact ⟨_, congrArg Host.Outcome.next (State.onFetched_turn _ hturn), rfl, rfl, rfl, rfl, rfl⟩
  case fenceEnd =>
    rintro s x t f rest rfl hfences hitems
    exact ⟨_, congrArg Host.Outcome.next (State.fenceDone_first hfences hitems), rfl, _, rfl, rfl, rfl, rfl, rfl, rfl, rfl⟩
  case buffer =>
    rintro s x t f rest rfl hturn
    exact ⟨_, congrArg Host.Outcome.next (State.onFetched_turn _ hturn), rfl, rfl, rfl, rfl⟩
  case quench =>
    rintro s x t f rest rfl hturn
    exact congrArg Host.Outcome.next (State.onFetched_turn _ hturn)
  case set =>
    rintro s x t rfl hoff
    refine congrArg Host.Outcome.next ?_
    rw [State.setQuench, if_neg (by simp [hoff]), if_pos rfl]
  case clear =>
    rintro s x t rfl hon
    refine congrArg Host.Outcome.next ?_
    rw [State.setQuench, if_neg (by simp [hon]), if_neg (by simp)]

/-! ### Ring 20 after an error (R58, R566) -/

/-- A record that is not exempt from being dropped. -/
def plainRecord : Rec := ⟨0x0900, 0, 0, 0, 0, 0, 0, false⟩

/-- HRE and ring 20 enabled, and two records raised. -/
def twoRecords : State :=
  { ((State.reset.put (F.BLK_EN Blk.HRE) 1).put (F.HRE_RING_CFG_SIZE_LOG2 20) 4).put (F.HRE_RING_CFG_EN 20) 1 with
    hre.records := [plainRecord, plainRecord] }

/-- The same after the write of the first record has failed, which stops the ring, and the ring has been disabled. -/
def ring20Stopped : State := (((twoRecords.at 0).eventRecord true).at 0).ringDisable 20

/-- The device comes there by these two commands. -/
theorem exec_ring20Stopped :
    exec (.eventRecordWrite 0 true) twoRecords = .next ((twoRecords.at 0).eventRecord true) ∧
    exec (.ringDisable 0 20) ((twoRecords.at 0).eventRecord true) = .next ring20Stopped :=
  ⟨rfl, rfl⟩

/-- On a ring stopped by an error every record waits, enabled or not (R566). -/
theorem State.eventRecord_stopped {s : State} {fail : Bool} (hen : s.en Blk.HRE = true)
    (herr : s.on (F.HRE_RING_STATUS_ERR 20) = true) : s.eventRecord fail = s := by
  rw [State.eventRecord, if_pos (by simp [hen, herr])]

/-- Refutes O11: its clause on the records that a disabled ring 20 drops does not ask that the ring have no error. On one
that an error has stopped and that was disabled since, the oldest record waits. -/
theorem not_ringTraffic : ¬ Obligations.RingTraffic := by
  unfold Obligations.RingTraffic
  rintro ⟨-, -, -, -, -, -, -, hdropped, -⟩
  obtain ⟨r, hexec, hrecords, -⟩ := hdropped ring20Stopped (ring20Stopped.at 0) 0 plainRecord [] rfl
    (by decide +kernel) (by decide +kernel) (by decide)
  have hwaits : (ring20Stopped.at 0).eventRecord false = ring20Stopped.at 0 :=
    State.eventRecord_stopped (by decide +kernel) (by decide +kernel)
  have hr : r = ring20Stopped.at 0 := (Host.Outcome.next.inj hexec).symm.trans hwaits
  have hleft : (ring20Stopped.at 0).hre.records = [plainRecord] := by decide +kernel
  rw [hr, hleft] at hrecords
  exact absurd hrecords (by simp)

/-! ### Disabling the skein while its clock is the reference (R68, R326, R474, R475) -/

/-- An attempt of the first slot. -/
def firstSlot : Attempt := { wantAttempt 0 0 with slotHi := 1 }

/-- An accepted transmission of the host in the first slot, without a repair. -/
def firstSlotTx : Item where
  idx := 0
  seq := 0
  owner := .host
  ring := 1
  tag := 0
  opcode := 0x10
  cring := 16
  irq := false
  prio := 0
  eclass := 0
  deadline := 0
  committed := 0
  repairAt := none
  moved := false
  started := false
  startTime := 0
  decided := false
  entries := 1
  buffers := 0
  e1 := 0
  e2 := 0
  period := 0
  kind := .tx { emptyTx with first := firstSlot }

/-- The recovered skein clock is the reference, the system PLL is locked to it, and XOSC is valid but more than 20 ppm from
it; one transmission is accepted. -/
def onSkeinClock : State :=
  { ((((((State.reset.put (F.BLK_EN Blk.CHN) 1).put (F.BLK_EN Blk.SKN) 1).put F.SKN_CFG_PLL_DISC 1).put
      F.CLK_STATUS_REF_SRC 1).put F.CLK_STATUS_SYS_LOCK 1).put F.CLK_STATUS_OK 1).put F.SKN_XO_PPB 20001 with
    items := [firstSlotTx] }

/-- Disabling the skein then moves the transmissions of the slot to their repairs, as a lock loss does (R107, R474); this one
has none, and ends. -/
theorem disable_onSkeinClock_ends : ((onSkeinClock.at 0).disable Blk.SKN).items = [{ firstSlotTx with decided := true }] := by
  decide +kernel

/-- Refutes O9: its clause on a disable of SKN says that the promise table is unchanged, and does not ask that the recovered
skein clock not be the reference. -/
theorem not_enableAndReady : ¬ Obligations.EnableAndReady := by
  unfold Obligations.EnableAndReady
  rintro ⟨-, -, -, -, -, -, -, hskein, -⟩
  obtain ⟨r, hexec, -, -, -, hitems⟩ := hskein onSkeinClock (onSkeinClock.at 0) 0 0 rfl (by decide)
    (by decide +kernel) (by decide +kernel) (by decide +kernel)
  have hr : (onSkeinClock.at 0).disable Blk.SKN = r := Host.Outcome.next.inj hexec
  have hkept : (onSkeinClock.at 0).items = [firstSlotTx] := by decide +kernel
  rw [← hr, disable_onSkeinClock_ends, hkept] at hitems
  exact absurd hitems (by decide)

/-! ### Native transmit descriptors (R121 to R131, R251, R288) -/

/-- What reading an entry and counting blocks under a key leave alone, of what a native frame's descriptor is about: the
promise table, fetched descriptors, decided completions, Chanter, the period of the last beacon and the frame counter. -/
def State.frameKept (s : State) : List Item × List Fetched × List Compl × Chn × Nat × Word :=
  (s.items, s.hre.fetched, s.hre.outq, s.chn, s.mac.beaconFor, s.rd Reg.MAC_TXFC)

theorem State.put_frameKept (s : State) (f : Fld) (v : Nat) (h : Reg.MAC_TXFC ≠ f.addr) :
    (s.put f v).frameKept = s.frameKept := by
  simp only [State.frameKept, State.rd_put_other s f v h]
  rfl

theorem State.count_frameKept (s : State) (f : Fld) (n : Nat) (h : Reg.MAC_TXFC ≠ f.addr) :
    (s.count f n).frameKept = s.frameKept := State.put_frameKept s f _ h

theorem State.irq_frameKept (s : State) (b mask : Nat) (h : irqTouches b Reg.MAC_TXFC = false) :
    (s.irq b mask).frameKept = s.frameKept := by
  simp only [State.frameKept, State.irq_rd s b mask h, State.irq_items, State.irq_hre, State.irq_chn, State.irq_mac]

/-- A conditional update keeps what both of its branches keep. -/
theorem State.frameKept_ite {p : Prop} [Decidable p] {s y z : State} (hy : y.frameKept = s.frameKept)
    (hz : z.frameKept = s.frameKept) : (if p then y else z).frameKept = s.frameKept := by
  split
  · exact hy
  · exact hz

/-- The code of an entry that is read reports only (R250, R251). -/
theorem State.entryRead_frameKept (s : State) (n err : Nat) : (s.entryRead n err).frameKept = s.frameKept := by
  unfold State.entryRead
  split
  · rfl
  split
  · rw [State.irq_frameKept _ _ _ (by decide), State.count_frameKept _ _ _ (by decide)]
  · unfold State.entryUncorrectable
    show ((State.put _ _ _).irq Blk.ESM 1).frameKept = _
    rw [State.irq_frameKept _ _ _ (by decide), State.put_frameKept _ _ _ (by decide), State.put_frameKept _ _ _ (by decide),
      State.count_frameKept _ _ _ (by decide)]
    split <;> rfl

theorem State.readDst_frameKept (s : State) (r : NativeReq) (err : Nat) : (s.readDst r err).frameKept = s.frameKept := by
  unfold State.readDst
  dsimp only
  split
  · exact State.entryRead_frameKept ..
  · rfl

/-- An entry whose code finds nothing is read without a trace. -/
theorem State.readDst_clean (s : State) (r : NativeReq) : s.readDst r 0 = s := by
  simp [State.readDst, State.entryRead]

/-- Loading a usage counter writes its words, perhaps a record of the key store, SLOT_LOW and EXHAUSTED (R288, R289). -/
theorem State.setUse_frameKept (s : State) (n u : Nat) : (s.setUse n u).frameKept = s.frameKept := by
  have hlo : Reg.MAC_TXFC ≠ Reg.CRY_SLOT_USE_LO n := by simp only [Reg.CRY_SLOT_USE_LO, Reg.MAC_TXFC]; omega
  have hhi : Reg.MAC_TXFC ≠ Reg.CRY_SLOT_USE_HI n := by simp only [Reg.CRY_SLOT_USE_HI, Reg.MAC_TXFC]; omega
  have hattr : Reg.MAC_TXFC ≠ Reg.CRY_SLOT_ATTR n := by simp only [Reg.CRY_SLOT_ATTR, Reg.MAC_TXFC]; omega
  have hwords := (State.put_frameKept (s.put (F.CRY_SLOT_USE_LO_USE n) u) (F.CRY_SLOT_USE_HI_USE n) (u / 2 ^ 32) hhi).trans
    (State.put_frameKept s (F.CRY_SLOT_USE_LO_USE n) u hlo)
  unfold State.setUse
  dsimp only
  split
  · exact State.frameKept_ite hwords hwords
  · refine State.frameKept_ite ?_ ?_
    · rw [State.irq_frameKept _ _ _ (by decide), State.put_frameKept _ _ _ hattr]
      refine State.frameKept_ite ?_ (State.frameKept_ite hwords hwords)
      rw [State.irq_frameKept _ _ _ (by decide)]
      exact State.frameKept_ite hwords hwords
    · refine State.frameKept_ite ?_ (State.frameKept_ite hwords hwords)
      rw [State.irq_frameKept _ _ _ (by decide)]
      exact State.frameKept_ite hwords hwords

/-- A use of an endpoint's key changes the derived-key cache and its count of misses (R287). -/
theorem State.cacheTouch_frameKept (s : State) (eui gen : Nat) : (s.cacheTouch eui gen).frameKept = s.frameKept := by
  have hmiss : (s.count (F.CRY_CNT_COUNT 2)).frameKept = s.frameKept := State.count_frameKept _ _ _ (by decide)
  unfold State.cacheTouch
  dsimp only
  split
  · unfold State.cacheHit
    split <;> rfl
  split
  · exact hmiss
  split
  · exact hmiss
  split <;> exact hmiss

/-- A frame's blocks are counted under its key (R279, R288). -/
theorem State.useNative_frameKept (s : State) (r : NativeReq) : (s.useNative r).frameKept = s.frameKept := by
  have hcompleted : ∀ y : State, y.cryCompleted.frameKept = y.frameKept :=
    fun y => State.count_frameKept y _ _ (by decide)
  unfold State.useNative
  split
  · simp only [State.useDerived, Bool.false_eq_true, if_false, hcompleted, State.cacheTouch_frameKept, State.useSlot,
      State.setUse_frameKept]
  · rw [hcompleted, State.useSlot, State.setUse_frameKept]
  · rw [hcompleted, State.useSlot, State.setUse_frameKept]
  · rfl

/-- Taking a frame counter advances MAC_TXFC.NEXT; a refill that starts and TXFC_LOW are beside it (R121). -/
theorem State.takeTxfc_frameKept (s : State) :
    s.takeTxfc.frameKept = (s.put F.MAC_TXFC_NEXT (s.get F.MAC_TXFC_NEXT + 1)).frameKept := by
  unfold State.takeTxfc
  dsimp only
  refine State.frameKept_ite ?_ (State.frameKept_ite rfl rfl)
  rw [State.txfcLow, State.irq_frameKept _ _ _ (by decide)]
  exact State.frameKept_ite rfl rfl

/-- A frame counter that is not refused has a successor (R121). -/
theorem txfc_lt_of_counterRefusal {s : State} {r : NativeReq} (h : counterRefusal s r = none) :
    s.get F.MAC_TXFC_NEXT + 1 < 2 ^ 32 := by
  have hout : txfcOut s = false := by
    cases hout : txfcOut s with
    | false => rfl
    | true => simp [counterRefusal, hout] at h
  simp only [txfcOut, Bool.or_eq_false_iff, decide_eq_false_iff_not] at hout
  omega

/-- `q` is `s` after a native frame has taken the next frame counter and waits for admission, for `o`, from a descriptor of
`ring` with words `ws` that asks for `r` (R20, R21, R121). -/
structure FrameAwaits (s q : State) (o : Owner) (ring : Nat) (ws : List Word) (r : NativeReq) : Prop where
  fetched : q.hre.fetched = s.hre.fetched
  outq : q.hre.outq = s.hre.outq
  items : q.items = s.items
  beaconFor : q.mac.beaconFor = s.mac.beaconFor
  next : q.get F.MAC_TXFC_NEXT = s.get F.MAC_TXFC_NEXT + 1
  frame : ∃ w z, q.chn.awaiting = s.chn.awaiting ++ [w] ∧ w.owner = o ∧ w.ring = ring ∧ w.words = ws ∧
    w.form = some z ∧ z.fctl = r.fctl ∧ z.dst = r.dst ∧ z.body = r.body ∧ z.fcnt = s.get F.MAC_TXFC_NEXT

/-- So it is of a state that agrees with `s` in what a native frame's descriptor is about. -/
theorem FrameAwaits.of_frameKept {s s' q : State} {o : Owner} {ring : Nat} {ws : List Word} {r : NativeReq}
    (h : FrameAwaits s' q o ring ws r) (hkept : s'.frameKept = s.frameKept) : FrameAwaits s q o ring ws r := by
  simp only [State.frameKept, Prod.mk.injEq] at hkept
  obtain ⟨hitems, hfetched, houtq, hchn, hmac, htxfc⟩ := hkept
  have hcounter : s'.get F.MAC_TXFC_NEXT = s.get F.MAC_TXFC_NEXT := State.get_of_rd htxfc
  obtain ⟨hfetched', houtq', hitems', hmac', hnext, hframe⟩ := h
  rw [hcounter] at hnext hframe
  rw [hchn] at hframe
  exact ⟨hfetched'.trans hfetched, houtq'.trans houtq, hitems'.trans hitems, hmac'.trans hmac, hnext, hframe⟩

/-- Writing and reading the frame counter. -/
theorem State.get_put_txfc (s : State) (n : Nat) : (s.put F.MAC_TXFC_NEXT n).get F.MAC_TXFC_NEXT = n % 2 ^ 32 :=
  State.get_put_same s _ n (by decide)

@[simp] theorem State.await_hre (s : State) (w : Waiting) : (s.await w).hre = s.hre := rfl
@[simp] theorem State.await_items (s : State) (w : Waiting) : (s.await w).items = s.items := rfl
@[simp] theorem State.await_mac (s : State) (w : Waiting) : (s.await w).mac = s.mac := rfl
@[simp] theorem State.await_get (s : State) (w : Waiting) (f : Fld) : (s.await w).get f = s.get f := rfl
@[simp] theorem State.await_awaiting (s : State) (w : Waiting) :
    (s.await w).chn.awaiting = s.chn.awaiting ++ [w] := rfl

/-- A native frame that waits for admission has taken the next frame counter. -/
theorem State.awaitNative_takes {s : State} (o : Owner) (ring : Nat) (ws : List Word) {r : NativeReq} (key : AesKey)
    (hcounter : s.get F.MAC_TXFC_NEXT + 1 < 2 ^ 32) : FrameAwaits s (s.awaitNative o ring ws r key) o ring ws r := by
  have hused := State.useNative_frameKept s r
  have htaken := State.takeTxfc_frameKept (s.useNative r)
  simp only [State.frameKept, Prod.mk.injEq, State.put_items, State.put_hre, State.put_chn, State.put_mac] at hused htaken
  obtain ⟨hitems, hfetched, houtq, hchn, hmac, htxfc⟩ := hused
  obtain ⟨hitems', hfetched', houtq', hchn', hmac', htxfc'⟩ := htaken
  have hold : (s.useNative r).get F.MAC_TXFC_NEXT = s.get F.MAC_TXFC_NEXT := State.get_of_rd htxfc
  have hnext : (s.useNative r).takeTxfc.get F.MAC_TXFC_NEXT = s.get F.MAC_TXFC_NEXT + 1 := by
    rw [State.get_of_rd (f := F.MAC_TXFC_NEXT) htxfc', hold, State.get_put_txfc, Nat.mod_eq_of_lt hcounter]
  rw [State.awaitNative]
  constructor
  case fetched => rw [State.await_hre, hfetched', hfetched]
  case outq => rw [State.await_hre, houtq', houtq]
  case items => rw [State.await_items, hitems', hitems]
  case beaconFor => rw [State.await_mac, hmac', hmac]
  case next => rw [State.await_get, hnext]
  case frame =>
    rw [State.await_awaiting, hchn', hchn]
    exact ⟨_, _, rfl, rfl, rfl, rfl, rfl, rfl, rfl, rfl, rfl⟩

/-- A native descriptor that no check refuses waits for admission (R55). -/
theorem State.nativeTx_passes {s : State} {f : Fetched} {n : NativeReq} {err : Nat} (hup : nativeUp s = none)
    (hown : nativeRefusal s f.words n = none) (hentry : entryRefusal (s.readDst n err) n = none)
    (hkey : keyRefusal (s.readDst n err) n = none) (hcounter : counterRefusal (s.readDst n err) n = none) :
    s.nativeTx f (.inl n) err =
      (s.readDst n err).awaitNative .host f.ring f.words n (nativeKey (s.readDst n err) n) := by
  simp only [State.nativeTx, hup, hown, hentry, hkey, hcounter]

/-- It has taken the next frame counter. -/
theorem State.nativeTx_accepts {s : State} {f : Fetched} {n : NativeReq} {err : Nat} (hup : nativeUp s = none)
    (hown : nativeRefusal s f.words n = none) (hentry : entryRefusal (s.readDst n err) n = none)
    (hkey : keyRefusal (s.readDst n err) n = none) (hcounter : counterRefusal (s.readDst n err) n = none) :
    FrameAwaits s (s.nativeTx f (.inl n) err) .host f.ring f.words n := by
  rw [State.nativeTx_passes hup hown hentry hkey hcounter]
  exact (State.awaitNative_takes _ _ _ _ (txfc_lt_of_counterRefusal hcounter)).of_frameKept (State.readDst_frameKept s n err)

/-- So has the descriptor whose turn it is, when its request `req` asks for the frame `n`. -/
theorem State.onFetched_native {s y : State} {op err : Nat} {f : Fetched} {rest : List Fetched} {n : NativeReq}
    (req : Fetched → NativeReq ⊕ Nat)
    (hturn : takeTurn (fun g => wbits g.words 0 7 0 == op) (busyRings s) s.hre.fetched = some (f, rest))
    (hy : y = { s with hre := { s.hre with fetched := rest } }) (hreq : req f = .inl n) (hup : nativeUp y = none)
    (hown : nativeRefusal y f.words n = none) (hentry : entryRefusal (y.readDst n err) n = none)
    (hkey : keyRefusal (y.readDst n err) n = none) (hcounter : counterRefusal (y.readDst n err) n = none) :
    FrameAwaits y (s.onFetched op (fun x g => x.nativeTx g (req g) err)) .host f.ring f.words n := by
  rw [State.onFetched_turn _ hturn, ← hy, hreq]
  exact State.nativeTx_accepts hup hown hentry hkey hcounter

/-- Settles O17: the descriptor whose turn it is passes every check before admission (onFetched_native); where the command
names no finding in the destination's entry, reading it leaves no trace. -/
theorem nativeTransmit : Obligations.NativeTransmit := by
  unfold Obligations.NativeTransmit
  refine ⟨?frame, ?beacon, ?ackBeacon, ?legacy⟩
  case frame =>
    rintro s x y y2 t err f rest n rfl hturn rfl hreq hup hown rfl hentry hkey hcounter
    obtain ⟨hfetched, houtq, hitems, -, hnext, hframe⟩ :=
      State.onFetched_native (fun g => frameRequest g false) hturn rfl hreq hup hown hentry hkey hcounter
    exact ⟨_, rfl, hfetched, houtq, hitems, hnext, hframe⟩
  case beacon =>
    rintro s x y t f rest n rfl hturn rfl hreq hup hown hentry hkey hcounter
    obtain ⟨hfetched, houtq, hitems, -, hnext, hframe⟩ := State.onFetched_native (err := 0) beaconRequest hturn rfl hreq
      hup hown (by rwa [State.readDst_clean]) (by rwa [State.readDst_clean]) (by rwa [State.readDst_clean])
    exact ⟨_, rfl, hfetched, houtq, hitems, hnext, hframe⟩
  case ackBeacon =>
    rintro s x y t f rest n rfl hturn rfl hreq hup hown hentry hkey hcounter
    obtain ⟨hfetched, houtq, hitems, -, hnext, hframe⟩ := State.onFetched_native (err := 0) ackBeaconRequest hturn rfl hreq
      hup hown (by rwa [State.readDst_clean]) (by rwa [State.readDst_clean]) (by rwa [State.readDst_clean])
    exact ⟨_, rfl, hfetched, houtq, hitems, hnext, hframe⟩
  case legacy =>
    rintro s x y y2 t err f rest n rfl hturn rfl hreq hup hown rfl hentry hkey hcounter
    obtain ⟨hfetched, houtq, hitems, -, hnext, hframe⟩ :=
      State.onFetched_native (fun g => frameRequest g true) hturn rfl hreq hup hown hentry hkey hcounter
    exact ⟨_, rfl, hfetched, houtq, hitems, hnext, hframe⟩

/-- The period that the Drone's next beacon is for (R126). -/
def nextBeaconPeriod (s : State) : Nat := asn s.net / 2 ^ s.get F.MAC_DRONE_PERIOD_LOG2 + 1

/-- The Drone has submitted the beacon of the next period. -/
def State.noteBeacon (s : State) : State := { s with mac := { s.mac with beaconFor := nextBeaconPeriod s } }

/-- A beacon of the Drone that nothing refuses waits for admission, once for its period (R126). -/
theorem State.droneBeacon_submits {s : State} (hen : s.en Blk.MAC = true) (hauto : s.on F.MAC_DRONE_AUTO = true)
    (hstate : s.get F.MAC_SYNC_STATUS_STATE ≠ 1) (hnew : s.mac.beaconFor < nextBeaconPeriod s) (hup : nativeUp s = none)
    (hkey : keyRefusal s (droneRequest s) = none) (hcounter : counterRefusal s (droneRequest s) = none) :
    s.droneBeacon = s.noteBeacon.awaitNative .droneBeacon 0xFF (droneWords s) (droneRequest s)
      (nativeKey s (droneRequest s)) := by
  have hguard : (!s.en Blk.MAC || !s.on F.MAC_DRONE_AUTO || s.get F.MAC_SYNC_STATUS_STATE == 1 ||
      decide (nextBeaconPeriod s ≤ s.mac.beaconFor)) = false := by
    simp [hen, hauto, hstate, hnew]
  rw [State.droneBeacon, if_neg (by exact Bool.eq_false_iff.mp hguard)]
  simp only [hup, hkey, hcounter]
  rfl

/-- It takes the next frame counter. -/
theorem State.droneBeacon_takes {s : State} (hen : s.en Blk.MAC = true) (hauto : s.on F.MAC_DRONE_AUTO = true)
    (hstate : s.get F.MAC_SYNC_STATUS_STATE ≠ 1) (hnew : s.mac.beaconFor < nextBeaconPeriod s) (hup : nativeUp s = none)
    (hkey : keyRefusal s (droneRequest s) = none) (hcounter : counterRefusal s (droneRequest s) = none) :
    s.droneBeacon.mac.beaconFor = nextBeaconPeriod s ∧
    s.droneBeacon.get F.MAC_TXFC_NEXT = s.get F.MAC_TXFC_NEXT + 1 ∧ s.droneBeacon.items = s.items ∧
    ∃ w, s.droneBeacon.chn.awaiting = s.chn.awaiting ++ [w] ∧ w.owner = .droneBeacon := by
  have hnote : s.noteBeacon.get F.MAC_TXFC_NEXT = s.get F.MAC_TXFC_NEXT := rfl
  obtain ⟨-, -, hitems, hperiod, hnext, w, z, hw, howner, -⟩ :=
    State.awaitNative_takes (s := s.noteBeacon) .droneBeacon 0xFF (droneWords s) (r := droneRequest s)
      (nativeKey s (droneRequest s)) (by rw [hnote]; exact txfc_lt_of_counterRefusal hcounter)
  rw [hnote] at hnext
  rw [State.droneBeacon_submits hen hauto hstate hnew hup hkey hcounter]
  exact ⟨hperiod, hnext, hitems, w, hw, howner⟩

/-- Settles O18: each descriptor whose turn it is takes the branch of its meaning that its checks select. -/
theorem radioDescriptors : Obligations.RadioDescriptors := by
  unfold Obligations.RadioDescriptors
  refine ⟨?down, ?tx154, ?window, ?beacon, ?submitted⟩
  case down =>
    rintro s x y t c err f rest rfl hturn rfl hdown
    refine congrArg Host.Outcome.next ((State.onFetched_turn _ hturn).trans ?_)
    simp only [State.nativeTx, hdown]
  case tx154 =>
    rintro s x y t f rest rfl hturn rfl hradio hown
    have hx := State.onFetched_turn State.tx154 hturn
    simp only [State.tx154, hradio, hown] at hx
    exact ⟨_, congrArg Host.Outcome.next hx, rfl, rfl, rfl, rfl, _, _, rfl, rfl, rfl, rfl, rfl, rfl, rfl, rfl⟩
  case window =>
    rintro s x y t f rest rfl hturn rfl hradio hown
    have hx := State.onFetched_turn State.rxWindow hturn
    simp only [State.rxWindow, hradio, hown] at hx
    exact ⟨_, congrArg Host.Outcome.next hx, rfl, rfl, rfl, rfl, _, _, rfl, rfl, rfl, rfl, rfl, rfl, rfl⟩
  case beacon =>
    rintro s x t p rfl hen hauto hstate rfl hnew hup hkey hcounter
    exact ⟨_, rfl, State.droneBeacon_takes hen hauto hstate hnew hup hkey hcounter⟩
  case submitted =>
    rintro s x t rfl hen hold
    refine congrArg Host.Outcome.next ?_
    rw [State.droneBeacon]
    exact if_pos (by simp [hold])

end Sys2Proof.Machine

/-! PROOFS. Medium access (chapter 4): the passing of time, time and region settings, the tracking timers, and received
frames, whose statement a window under a ring beyond eight bits refutes. -/

namespace Sys2Proof.Machine

/-! ### The passing of time (R114, R136, R199, R213) -/

/-- Without a slew in progress no part of one is taken. -/
theorem slewStep_zero (lim : Nat) : slewStep lim 0 = 0 := by
  simp [slewStep]

/-- A frequency estimate that is not negative is its field's value. -/
theorem signed32_of_lt {e : Nat} (he : e < 2 ^ 31) : signed 32 e = e := by
  have hmod : e % 2 ^ 32 = e := Nat.mod_eq_of_lt (by omega)
  rw [signed, hmod, if_pos he]

/-- Without a slew, network time follows the local clock at the rate that the estimate corrects (R136). -/
theorem State.clockAt_net_unslewed {s : State} {e : Nat} (t : Nat) (hslew : s.mac.slew = 0)
    (hest : s.get F.MAC_FREQ_EST_EST = e) (he : e < 2 ^ 31) :
    (s.clockAt t).net = (s.net + (t - s.now) + ((t - s.now) * e + s.mac.driftRest) / 1024000000) % 2 ^ 64 := by
  have hunit : (1024 * 1000000 : Int) = (1024000000 : Nat) := rfl
  simp only [State.clockAt, hslew, hest, slewStep_zero, signed32_of_lt he, hunit]
  rw [Int.add_zero, ← Int.natCast_mul, ← Int.natCast_add, ← Int.natCast_add, ← Int.natCast_ediv, ← Int.natCast_add,
    Int.toNat_natCast]

/-- What a lane shows once it holds nothing any more. -/
theorem laneState_clearLane (s : State) (n : Nat) :
    laneState (s.clearLane n) n = if lanePresent s n then 1 else 0 := by
  simp only [laneState, State.clearLane, State.wr64, F.MUR_LANE_STATE_STATE]
  rw [State.get_wr_other, State.get_wr_other, State.get_wr_other, State.get_wr_other, State.get, State.rd_wr_same]
  · split <;> simp [Fld.value]
  all_goals
    simp only [Reg.MUR_LANE_STATE, Reg.MUR_LANE_TRIPLE, Reg.MUR_LANE_METRIC, Reg.MUR_LANE_START]
    omega

/-- The listening lanes' STATE fields are all that changes as lanes begin and cease to listen (R196). -/
@[simp] theorem State.listening_mur (s : State) : s.listening.mur = s.mur := by
  unfold State.listening
  exact foldl_keeps (p := State.mur) (fun x w => by split <;> rfl) _ _

@[simp] theorem State.listening_items (s : State) : s.listening.items = s.items := by
  unfold State.listening
  exact foldl_keeps (p := State.items) (fun x w => by split <;> rfl) _ _

/-- A narrow lane never listens. -/
theorem laneState_listening {s : State} {n : Nat} (hn : n < 60) : laneState s.listening n = laneState s n := by
  unfold State.listening
  refine foldl_keeps (p := fun x => laneState x n) (fun x w => ?_) _ _
  split
  · refine State.get_put_reg _ _ _ _ ?_
    simp only [F.MUR_LANE_STATE_STATE, Reg.MUR_LANE_STATE]
    omega
  · rfl

theorem laneState_syncLoad (s : State) (n : Nat) : laneState s.syncLoad n = laneState s n := by
  have hload : (F.MUR_LANE_STATE_STATE n).addr ≠ Reg.MUR_LOAD := by
    simp only [F.MUR_LANE_STATE_STATE, Reg.MUR_LANE_STATE, Reg.MUR_LOAD]
    omega
  unfold State.syncLoad laneState
  rw [State.get_put_reg _ _ _ _ hload, State.get_put_reg _ _ _ _ hload, State.get_put_reg _ _ _ _ hload]

@[simp] theorem State.clearLane_items (s : State) (n : Nat) : (s.clearLane n).items = s.items := by
  simp [State.clearLane, State.wr64]

@[simp] theorem State.clearLane_freed (s : State) (n : Nat) : (s.clearLane n).mur.freed = s.mur.freed := by
  simp [State.clearLane, State.wr64, State.setLaneX]

@[simp] theorem State.clearLane_residues (s : State) (n : Nat) : (s.clearLane n).mur.residues = s.mur.residues := by
  simp [State.clearLane, State.wr64, State.setLaneX]

@[simp] theorem State.syncLoad_items (s : State) : s.syncLoad.items = s.items := by
  simp [State.syncLoad]

@[simp] theorem State.syncLoad_mur (s : State) : s.syncLoad.mur = s.mur := by
  simp [State.syncLoad]

/-- Into a later DSP cycle, the one lane whose frame has ended is released; with no residue waiting nothing else happens
(R199). -/
theorem State.dspCycles_release {s : State} {t n : Nat} (hfreed : s.mur.freed = [n]) (hres : s.mur.residues = [])
    (hcycle : dspCycleOf s.now < dspCycleOf t) :
    s.dspCycles t = (({ s with mur := { s.mur with freed := [] } }).clearLane n).syncLoad.listening := by
  have hnone : (({ s with mur := { s.mur with freed := [] } }).clearLane n).syncLoad.listening.mur.residues = [] := by
    simpa using hres
  rw [State.dspCycles, if_neg (by simp [hfreed, hcycle])]
  simp only [hfreed, List.foldl_cons, List.foldl_nil, hnone, List.length_nil, State.serveResidues, ite_self]

/-- Settles O6: the DSP cycles leave all but the lanes alone (State.dspCycles_apart, behind the lemmas on State.at); with
nothing waiting for one only the clocks move (State.at_idle), and one ended frame frees its lane (State.dspCycles_release). -/
theorem timePasses : Obligations.TimePasses := by
  unfold Obligations.TimePasses
  refine ⟨?frame, ?idle, ?steady, ?drift, ?release⟩
  case frame =>
    intro s t
    refine ⟨?_, ?_⟩
    · rw [State.at_now]
      show s.now + (t - s.now) = max s.now t
      omega
    · simp
  case idle =>
    intro s t hfreed hres
    rw [State.at_idle s t hfreed hres]
    exact ⟨rfl, rfl, rfl, rfl⟩
  case steady =>
    intro s t hfreed hres hslew hest hrest _
    rw [State.at_idle s t hfreed hres, State.syncFem_net, State.clockAt_net_unslewed t hslew hest (by decide),
      Nat.mul_zero, Nat.zero_add, Nat.div_eq_of_lt hrest, Nat.add_zero]
  case drift =>
    intro s t e hfreed hres hslew hest he _
    rw [State.at_idle s t hfreed hres, State.syncFem_net, State.clockAt_net_unslewed t hslew hest he]
  case release =>
    intro s t n hn hpresent hfreed hres hcycle
    have hat : s.at t = (((({ s with mur := { s.mur with freed := [] } }).clearLane n).syncLoad.listening).clockAt t).syncFem := by
      rw [State.at, State.dspCycles_release hfreed hres hcycle]
    have hclear : lanePresent { s with mur := { s.mur with freed := [] } } n = true := hpresent
    rw [hat]
    refine ⟨?_, by simp, by simp⟩
    show laneState (State.listening _) n = 1
    rw [laneState_listening hn, laneState_syncLoad, laneState_clearLane, if_pos hclear]

/-! ### Setting time, and a region's presets (R114, R147) -/

/-- A TIME_SET takes the first fetched one of its mode that no undecided descriptor of its ring precedes (R54, R114). -/
theorem State.onTimeSet_turn {s : State} {mode : Nat} {f : Fetched} {rest : List Fetched} (k : State → Fetched → State)
    (hturn : takeTurn (fun g => wbits g.words 0 7 0 == 6 && wbits g.words 6 0 0 == mode) (busyRings s) s.hre.fetched =
      some (f, rest)) :
    s.onTimeSet mode k = k { s with hre := { s.hre with fetched := rest } } f := by
  rw [State.onTimeSet, State.onTurn, hturn]

/-- The host steps time while no promise is outstanding. -/
theorem State.timeStep_sets {s : State} {f : Fetched} (hsrc : s.get F.MAC_CFG_TIME_SRC = 0) (hitems : s.items = []) :
    s.timeStep f = (({ s with net := leNat (f.buf.take 8), mac := { s.mac with slew := 0 } }).put F.MAC_SYNC_STATUS_SLEWING
      0).done f.ring f.words 0 (w4 := leNat (f.buf.take 8) % 2 ^ 32) (w5 := leNat (f.buf.take 8) / 2 ^ 32) := by
  rw [State.timeStep, if_neg (by simp [hsrc]), if_neg (by simp [hitems])]

/-- While one is, the step is refused. -/
theorem State.timeStep_outstanding {s : State} {f : Fetched} (hsrc : s.get F.MAC_CFG_TIME_SRC = 0) (hitems : s.items ≠ []) :
    s.timeStep f = s.refuse f.ring f.words 0x09F4 := by
  rw [State.timeStep, if_neg (by simp [hsrc]), if_pos (by simpa using hitems)]

/-- The host slews time whatever is outstanding. -/
theorem State.timeSlew_sets {s : State} {f : Fetched} (hsrc : s.get F.MAC_CFG_TIME_SRC = 0) :
    s.timeSlew f = (({ s with mac := { s.mac with slew := signed 64 (leNat (f.buf.take 8)) } }).put F.MAC_SYNC_STATUS_SLEWING
      (if signed 64 (leNat (f.buf.take 8)) = 0 then 0 else 1)).done f.ring f.words 0 (w4 := s.net % 2 ^ 32)
      (w5 := s.net / 2 ^ 32) := by
  rw [State.timeSlew, if_neg (by simp [hsrc])]

/-- A slew is refused unless the host is the time source. -/
theorem State.timeSlew_foreign {s : State} {f : Fetched} (hsrc : s.get F.MAC_CFG_TIME_SRC ≠ 0) :
    s.timeSlew f = s.refuse f.ring f.words 0x09F7 := by
  rw [State.timeSlew, if_pos hsrc]

/-- The two words that a completion shows of a time. -/
theorem word_halves (v : Nat) : (word (v % 2 ^ 32)).toNat + (word (v / 2 ^ 32)).toNat * 2 ^ 32 = v % 2 ^ 64 := by
  simp only [word, BitVec.toNat_ofNat]
  omega

/-- Loading an account leaves every register but its own five (Table 4-11). -/
theorem State.loadPreset_rd (s : State) (n : Nat) (p : Preset) {a : Nat}
    (ha : a < Reg.MAC_DC_CFG n ∨ Reg.MAC_DC_LBT n < a) : (s.loadPreset n p).rd a = s.rd a := by
  simp only [Reg.MAC_DC_CFG, Reg.MAC_DC_LBT] at ha
  simp only [State.loadPreset, Reg.MAC_DC_CFG, Reg.MAC_DC_FLO, Reg.MAC_DC_FHI, Reg.MAC_DC_WIN, Reg.MAC_DC_LBT]
  iterate 5 rw [State.rd_wr_other _ _ (by omega)]

@[simp] theorem State.loadPreset_items (s : State) (n : Nat) (p : Preset) : (s.loadPreset n p).items = s.items := rfl

/-- The edges and the configuration of a loaded account. -/
theorem State.loadPreset_loads (s : State) (n : Nat) (p : Preset) :
    (s.loadPreset n p).rd (Reg.MAC_DC_FLO n) = word p.flo ∧ (s.loadPreset n p).rd (Reg.MAC_DC_FHI n) = word p.fhi ∧
    (s.loadPreset n p).rd (Reg.MAC_DC_CFG n) =
      word (1 + p.wide * 2 + p.dwell * 4 + (if p.listen = 0 then 0 else 8) + p.limit * 65536) := by
  simp [State.loadPreset, Reg.MAC_DC_CFG, Reg.MAC_DC_FLO, Reg.MAC_DC_FHI, Reg.MAC_DC_WIN, Reg.MAC_DC_LBT]

/-- A loaded account is enabled. -/
theorem State.loadPreset_enables (s : State) (n : Nat) (p : Preset) : (s.loadPreset n p).on (F.MAC_DC_CFG_EN n) = true := by
  have hcfg := (s.loadPreset_loads n p).2.2
  have hodd : (1 + p.wide * 2 + p.dwell * 4 + (if p.listen = 0 then 0 else 8) + p.limit * 65536) % 2 ^ 32 % 2 = 1 := by
    split <;> omega
  simp only [State.on, State.get, F.MAC_DC_CFG_EN, hcfg, Fld.value, word, BitVec.toNat_ofNat, Nat.pow_zero, Nat.div_one,
    Nat.pow_one, hodd]
  rfl

/-- An account that a run of disables names is disabled. -/
theorem State.disableAccounts_on (l : List Nat) (s : State) (n : Nat) (h : n ∈ l ∨ s.on (F.MAC_DC_CFG_EN n) = false) :
    (l.foldl (fun x k => x.put (F.MAC_DC_CFG_EN k) 0) s).on (F.MAC_DC_CFG_EN n) = false := by
  induction l generalizing s with
  | nil => simpa using h
  | cons k l ih =>
    refine ih _ ?_
    by_cases hk : n = k
    · subst hk
      exact .inr (State.on_put_zero _ _ (by simp [F.MAC_DC_CFG_EN]))
    · have haddr : (F.MAC_DC_CFG_EN n).addr ≠ (F.MAC_DC_CFG_EN k).addr := by
        simp only [F.MAC_DC_CFG_EN, Reg.MAC_DC_CFG]
        omega
      rw [State.on_put_reg _ _ _ _ haddr]
      simpa [hk] using h

/-- It leaves the region. -/
theorem State.disableAccounts_region (l : List Nat) (s : State) :
    (l.foldl (fun x k => x.put (F.MAC_DC_CFG_EN k) 0) s).get F.MAC_CFG_REGION = s.get F.MAC_CFG_REGION := by
  refine foldl_keeps (p := fun x => x.get F.MAC_CFG_REGION) (fun x k => State.get_put_reg _ _ _ _ ?_) l s
  simp only [F.MAC_CFG_REGION, Reg.MAC_CFG, F.MAC_DC_CFG_EN, Reg.MAC_DC_CFG]
  omega

theorem State.disableAccounts_items (l : List Nat) (s : State) :
    (l.foldl (fun x k => x.put (F.MAC_DC_CFG_EN k) 0) s).items = s.items :=
  foldl_keeps (p := State.items) (fun x _ => State.put_items x _ _) l s

/-- The two accounts of region 2 are loaded, every other is disabled. -/
theorem State.regionLoad_two {s : State} (hen : s.en Blk.MAC = false) (hbusy : s.on (F.BLK_BUSY Blk.MAC) = false) :
    s.regionLoad 2 = ((((List.range 16).foldl (fun x n => x.put (F.MAC_DC_CFG_EN n) 0) (s.put F.MAC_CFG_REGION 2)).loadPreset 0
      ⟨902000, 928000, 0, 1, 20, 20, 1, 400, 0, 0, 0⟩).loadPreset 1 ⟨902000, 928000, 1, 0, 1000, 60, 60, 65535, 0, 0, 0⟩) := by
  rw [State.regionLoad, if_neg (by simp [hen, hbusy]), if_neg (by decide)]
  rfl

/-- Settles O16: each TIME_SET is a branch of its meaning on the descriptor whose turn it is (onTimeSet_turn); the preset of
region 2 is two loaded accounts (regionLoad_two). -/
theorem timeAndRegion : Obligations.TimeAndRegion := by
  unfold Obligations.TimeAndRegion
  refine ⟨?step, ?outstanding, ?slew, ?foreign, ?region⟩
  case step =>
    rintro s x t v f rest rfl hturn hsrc hitems rfl
    refine ⟨_, congrArg Host.Outcome.next ((State.onTimeSet_turn _ hturn).trans (State.timeStep_sets hsrc hitems)), rfl, rfl,
      State.on_put_zero _ _ (by decide), rfl, _, rfl, rfl, rfl, word_halves _⟩
  case outstanding =>
    rintro s x t f rest rfl hturn hsrc hitems
    exact congrArg Host.Outcome.next ((State.onTimeSet_turn _ hturn).trans (State.timeStep_outstanding hsrc hitems))
  case slew =>
    rintro s x t f rest rfl hturn hsrc
    exact ⟨_, congrArg Host.Outcome.next ((State.onTimeSet_turn _ hturn).trans (State.timeSlew_sets hsrc)), rfl, rfl, rfl, rfl,
      _, rfl, rfl, rfl⟩
  case foreign =>
    rintro s x t f rest rfl hturn hsrc
    exact congrArg Host.Outcome.next ((State.onTimeSet_turn _ hturn).trans (State.timeSlew_foreign hsrc))
  case region =>
    rintro s x t rfl hen hbusy
    have hclosed (n : Nat) (hn : n ∈ List.range 16) := State.disableAccounts_on (List.range 16)
      ((s.at t).put F.MAC_CFG_REGION 2) n (.inl hn)
    have hregion := State.disableAccounts_region (List.range 16) ((s.at t).put F.MAC_CFG_REGION 2)
    refine ⟨_, congrArg Host.Outcome.next (State.regionLoad_two hen hbusy), ?_, ?_, ?_, ?_, ?_, ?_, ?_, ?items⟩
    case items =>
      rw [State.loadPreset_items, State.loadPreset_items, State.disableAccounts_items, State.put_items]
    · rw [State.get_of_rd (State.loadPreset_rd _ _ _ (by decide)), State.get_of_rd (State.loadPreset_rd _ _ _ (by decide)),
        hregion, State.get_put_same _ _ _ (by decide)]
      rfl
    · rw [State.loadPreset_rd _ _ _ (by decide)]
      exact (State.loadPreset_loads _ _ _).1
    · rw [State.loadPreset_rd _ _ _ (by decide)]
      exact (State.loadPreset_loads _ _ _).2.1
    · rw [State.on_of_rd (State.loadPreset_rd _ _ _ (by decide))]
      exact State.loadPreset_enables _ _ _
    · exact State.loadPreset_enables _ _ _
    all_goals
      rw [State.on_of_rd (State.loadPreset_rd _ _ _ (by decide)), State.on_of_rd (State.loadPreset_rd _ _ _ (by decide))]
      exact hclosed _ (by decide)

/-! ### Tracking states (R137) -/

/-- What a tracking state is made of: local time, the candidate and the skipped parent, when the state was entered, and
MAC_SYNC_STATUS. Ending and admitting the device's own windows leaves it alone. -/
def State.trackKept (s : State) : Nat × Nat × Option Nat × Nat × Word :=
  (s.now, s.mac.candidate, s.mac.skip, s.mac.stateSince, s.rd Reg.MAC_SYNC_STATUS)

theorem State.wr_trackKept (s : State) {a : Nat} (v : Word) (ha : Reg.MAC_SYNC_STATUS ≠ a) :
    (s.wr a v).trackKept = s.trackKept := by
  simp only [State.trackKept, State.rd_wr_other s v ha, State.wr_now, State.wr_mac]

theorem State.put_trackKept (s : State) (f : Fld) (v : Nat) (hf : Reg.MAC_SYNC_STATUS ≠ f.addr) :
    (s.put f v).trackKept = s.trackKept := State.wr_trackKept s _ hf

theorem State.count_trackKept (s : State) (f : Fld) (n : Nat) (hf : Reg.MAC_SYNC_STATUS ≠ f.addr) :
    (s.count f n).trackKept = s.trackKept := State.put_trackKept s f _ hf

theorem State.irq_trackKept (s : State) (b mask : Nat) (h : irqTouches b Reg.MAC_SYNC_STATUS = false) :
    (s.irq b mask).trackKept = s.trackKept := by
  simp only [State.trackKept, State.irq_rd s b mask h, State.irq_now, State.irq_mac]

/-- A conditional update keeps what both of its branches keep. -/
theorem State.trackKept_ite {p : Prop} [Decidable p] {s y z : State} (hy : y.trackKept = s.trackKept)
    (hz : z.trackKept = s.trackKept) : (if p then y else z).trackKept = s.trackKept := by
  split
  · exact hy
  · exact hz

/-- Lanes and their load (R199, R207). -/
theorem State.clearLane_trackKept (s : State) (n : Nat) : (s.clearLane n).trackKept = s.trackKept := by
  unfold State.clearLane State.wr64
  iterate 5 rw [State.wr_trackKept _ _ (by
    simp only [Reg.MAC_SYNC_STATUS, Reg.MUR_LANE_STATE, Reg.MUR_LANE_TRIPLE, Reg.MUR_LANE_METRIC, Reg.MUR_LANE_START]; omega)]
  rfl

theorem State.syncLoad_trackKept (s : State) : s.syncLoad.trackKept = s.trackKept := by
  unfold State.syncLoad
  iterate 3 rw [State.put_trackKept _ _ _ (by decide)]

theorem State.onWindow_trackKept (s : State) (w : Option Nat) (f : RxInfo → RxInfo) :
    (s.onWindow w f).trackKept = s.trackKept := by
  unfold State.onWindow
  split <;> rfl

theorem State.releaseLane_trackKept (s : State) (n : Nat) : (s.releaseLane n).trackKept = s.trackKept := by
  rw [State.releaseLane, State.syncLoad_trackKept, State.clearLane_trackKept, State.chargeLane, State.onWindow_trackKept]

theorem State.dropLanes_trackKept (s : State) (idx : Nat) : (s.dropLanes idx).trackKept = s.trackKept := by
  unfold State.dropLanes
  rw [State.syncLoad_trackKept]
  exact foldl_keeps (p := State.trackKept) State.releaseLane_trackKept _ _

/-- The registers that follow the promise table (R27, R56). -/
theorem State.syncItems_trackKept (s : State) : s.syncItems.trackKept = s.trackKept := by
  unfold State.syncItems State.syncHold
  rw [State.put_trackKept _ _ _ (by decide), State.put_trackKept _ _ _ (by decide), foldl_keeps (p := State.trackKept)]
  · iterate 4 rw [State.put_trackKept _ _ _ (by decide)]
  · intro x n
    refine State.put_trackKept x _ _ ?_
    simp only [Reg.MAC_SYNC_STATUS, F.HRE_RING_RSV_COUNT, Reg.HRE_RING_RSV]
    omega

/-- What the end of an item means to its owner (R265, R270). -/
theorem State.ownerEnd_trackKept (s : State) (o : Owner) (status reason : Nat) :
    (s.ownerEnd o status reason).trackKept = s.trackKept := by
  unfold State.ownerEnd
  split
  · split
    · rfl
    split
    · rfl
    · show (State.irq _ Blk.ESM 16).trackKept = _
      rw [State.irq_trackKept _ _ _ (by decide), State.put_trackKept _ _ _ (by decide), State.put_trackKept _ _ _ (by decide)]
      rfl
  · rfl
  · split <;> rfl
  · rfl

/-- The decision of a final completion (R4, R26). -/
theorem State.decideFinal_trackKept (s : State) (idx status reason since : Nat) :
    (s.decideFinal idx status reason since).trackKept = s.trackKept := by
  unfold State.decideFinal
  split
  · rfl
  split
  · rfl
  dsimp only
  split
  · rw [State.syncItems_trackKept]
    rfl
  · rw [State.syncItems_trackKept]
    split
    · rw [State.ownerEnd_trackKept]
      rfl
    · show (State.ownerEnd _ _ _ _).trackKept = _
      rw [State.ownerEnd_trackKept]
      rfl

/-- Seats and listening lanes (R193, R194, R196). -/
theorem State.putSeat_trackKept (s : State) (b : Int) (seat : Option Nat) : (s.putSeat b seat).trackKept = s.trackKept := by
  unfold State.putSeat
  split
  · rfl
  · split <;> rfl

theorem State.overload_trackKept (s : State) (b : Int) : (s.overload b).trackKept = s.trackKept := by
  unfold State.overload
  rw [State.irq_trackKept _ _ _ (by decide), State.count_trackKept _ _ _ (by decide)]
  rfl

theorem State.serveQueue_trackKept (l : List Int) (s : State) : (s.serveQueue l).trackKept = s.trackKept := by
  induction l generalizing s with
  | nil => rfl
  | cons b l ih =>
    unfold State.serveQueue
    split
    · rfl
    dsimp only
    rw [ih]
    exact State.trackKept_ite ((State.overload_trackKept _ _).trans (State.putSeat_trackKept ..)) (State.putSeat_trackKept ..)

theorem State.seatAlways_trackKept (s : State) (b : Int) : (s.seatAlways b).trackKept = s.trackKept := by
  unfold State.seatAlways
  split
  · rfl
  split
  · rw [State.putSeat_trackKept]
  dsimp only
  split
  · rfl
  · show (State.putSeat _ _ _).trackKept = _
    rw [State.putSeat_trackKept, State.putSeat_trackKept]

theorem State.seatFlagged_trackKept (s : State) (b : Int) : (s.seatFlagged b).trackKept = s.trackKept := by
  unfold State.seatFlagged
  split
  · rfl
  split
  · rw [State.putSeat_trackKept]
  · rfl

theorem State.seats_trackKept (s : State) : s.seats.trackKept = s.trackKept := by
  unfold State.seats
  rw [State.put_trackKept _ _ _ (by decide), State.put_trackKept _ _ _ (by decide),
    foldl_keeps (p := State.trackKept) State.seatFlagged_trackKept,
    foldl_keeps (p := State.trackKept) State.seatAlways_trackKept, State.serveQueue_trackKept]
  unfold State.dropQueue
  rw [foldl_keeps (p := State.trackKept) State.overload_trackKept]
  rfl

theorem State.listening_trackKept (s : State) : s.listening.trackKept = s.trackKept := by
  unfold State.listening
  refine foldl_keeps (p := State.trackKept) (fun x w => ?_) _ _
  split
  · refine State.put_trackKept x _ _ ?_
    simp only [Reg.MAC_SYNC_STATUS, F.MUR_LANE_STATE_STATE, Reg.MUR_LANE_STATE]
    omega
  · rfl

/-- The device's own windows end (R26, R207). -/
theorem State.finish_trackKept (s : State) (idx status reason : Nat) : (s.finish idx status reason).trackKept = s.trackKept := by
  unfold State.finish State.finishAt
  split
  · split
    · show (State.coverage _).trackKept = _
      rw [State.coverage, State.listening_trackKept, State.seats_trackKept, State.decideFinal_trackKept,
        State.dropLanes_trackKept]
    · rw [State.decideFinal_trackKept]
  · rfl

theorem State.dropOwn_trackKept (s : State) (p : Owner → Bool) : (s.dropOwn p).trackKept = s.trackKept := by
  unfold State.dropOwn
  exact foldl_keeps (p := State.trackKept) (fun x i => State.finish_trackKept x _ _ _) _ _

/-- The device's own windows are admitted (R132). -/
theorem State.notice_trackKept (s : State) (w : Waiting) (idx committed rep : Nat) :
    (s.notice w idx committed rep).trackKept = s.trackKept := by
  unfold State.notice
  exact State.trackKept_ite rfl rfl

theorem State.accept_trackKept (s : State) (w : Waiting) (idx : Nat) (k : ItemKind) (committed : Nat) (rep : Option Nat)
    (entries buffers e1 e2 : Nat) : (s.accept w idx k committed rep entries buffers e1 e2).trackKept = s.trackKept := by
  rw [State.accept, State.notice_trackKept, State.syncItems_trackKept]
  rfl

theorem State.takeOwn_trackKept (s : State) (w : OwnWindow) : (s.takeOwn w).trackKept = s.trackKept := by
  unfold State.takeOwn
  dsimp only
  split
  · rfl
  · exact State.accept_trackKept ..

theorem State.takeAll_trackKept {l : List OwnWindow} {s t : State} (h : s.takeAll l = .inl t) : t.trackKept = s.trackKept := by
  induction l generalizing s with
  | nil =>
    cases h
    rfl
  | cons w l ih =>
    unfold State.takeAll at h
    split at h
    · cases h
    · rw [ih h, State.takeOwn_trackKept]

theorem countBellows_trackKept (s : State) (code : Nat) : (countBellows s code).trackKept = s.trackKept := by
  unfold countBellows
  split
  · refine State.count_trackKept s _ _ ?_
    simp only [Reg.MAC_SYNC_STATUS, F.BLW_CNT_COUNT, Reg.BLW_CNT]
    omega
  · rfl

theorem State.admitOwn_trackKept (s : State) (l : List OwnWindow) : (s.admitOwn l).1.trackKept = s.trackKept := by
  unfold State.admitOwn
  split
  · exact State.takeAll_trackKept ‹_›
  · exact countBellows_trackKept s _

/-- The scan of a candidate from an index on begins now (R137). -/
theorem State.scanFrom_candidate {s : State} {j k : Nat} (hk : candidateFrom s s.mac.skip j (16 - j) = some k) :
    (s.scanFrom j).trackKept = (s.now, k, s.mac.skip, s.now, s.rd Reg.MAC_SYNC_STATUS) := by
  have hkept := s.dropOwn_trackKept isScan
  simp only [State.trackKept, Prod.mk.injEq] at hkept
  obtain ⟨hnow, -, hskip, -, hstatus⟩ := hkept
  simp only [State.scanFrom, hk]
  rw [State.admitOwn_trackKept, ← hnow, ← hskip, ← hstatus]
  rfl

/-- Bit 3 of a word in which it has been set. -/
theorem bits_or_eight (w : Word) : bits (w ||| BitVec.ofNat 32 8).toNat 3 3 = 1 := by
  have hset : (w ||| BitVec.ofNat 32 8).getLsbD 3 = true := by simp
  rw [BitVec.getLsbD, Nat.testBit_eq_decide_div_mod_eq] at hset
  simpa [bits] using hset

/-- Without one the device is an orphan (R137). -/
theorem State.scanFrom_none {s : State} {j : Nat} (hnone : candidateFrom s s.mac.skip j (16 - j) = none) :
    (s.scanFrom j).get F.MAC_SYNC_STATUS_STATE = 7 ∧ (s.scanFrom j).mac.stateSince = s.now ∧
    bits ((s.scanFrom j).rd Reg.MAC_ISR).toNat 3 3 = 1 := by
  have hnow : (s.dropOwn isScan).now = s.now := congrArg Prod.fst (s.dropOwn_trackKept isScan)
  simp only [State.scanFrom, hnone]
  refine ⟨?_, ?_, ?_⟩
  · rw [State.irq_get _ _ _ (by decide), State.trackState, State.get_put_same _ _ _ (by decide)]
    rfl
  · rw [State.irq_mac]
    exact hnow
  · rw [State.irq_isr _ _ rfl (by decide) (by decide)]
    exact bits_or_eight _

/-- Whether a neighbour is a candidate depends on its entry's address word (R137). -/
theorem candidateFrom_congr {s r : State} (h : ∀ j, r.rd (Reg.MAC_NBR_ADDR j) = s.rd (Reg.MAC_NBR_ADDR j))
    (skip : Option Nat) (j n : Nat) : candidateFrom r skip j n = candidateFrom s skip j n := by
  induction n generalizing j with
  | zero => rfl
  | succ n ih =>
    simp only [candidateFrom, ih, State.on_of_rd (f := F.MAC_NBR_ADDR_EN j) (h j), State.on_of_rd (f := F.MAC_NBR_ADDR_CAND j) (h j)]

/-- Entering ACQUIRE, with the parent that is skipped, before the scan. -/
def State.acquiring (s : State) (skip : Option Nat) : State :=
  { s.trackState 6 with mac := { (s.trackState 6).mac with skip := skip } }

theorem State.acquiring_state (s : State) (skip : Option Nat) : (s.acquiring skip).get F.MAC_SYNC_STATUS_STATE = 6 :=
  State.get_put_same _ _ _ (by decide)

/-- Entering ACQUIRE changes no candidate. -/
theorem candidateFrom_acquiring (s : State) (skip other : Option Nat) (j n : Nat) :
    candidateFrom (s.acquiring skip) other j n = candidateFrom s other j n := by
  refine candidateFrom_congr (fun j => ?_) _ _ _
  refine State.rd_put_other _ _ _ ?_
  simp only [Reg.MAC_NBR_ADDR, F.MAC_SYNC_STATUS_STATE, Reg.MAC_SYNC_STATUS]
  omega

/-- With a candidate, ACQUIRE scans it from now on (R137). -/
theorem State.enterAcquire_candidate {s : State} {skip : Option Nat} {k : Nat} (hk : candidateFrom s skip 0 16 = some k) :
    (s.enterAcquire skip).get F.MAC_SYNC_STATUS_STATE = 6 ∧ (s.enterAcquire skip).mac.candidate = k ∧
    (s.enterAcquire skip).mac.skip = skip := by
  have hscan : (s.enterAcquire skip).trackKept = _ :=
    State.scanFrom_candidate (s := s.acquiring skip) (j := 0) ((candidateFrom_acquiring ..).trans hk)
  simp only [State.trackKept, Prod.mk.injEq] at hscan
  obtain ⟨-, hcandidate, hskip, -, hstatus⟩ := hscan
  exact ⟨(State.get_of_rd (f := F.MAC_SYNC_STATUS_STATE) hstatus).trans (State.acquiring_state ..), hcandidate, hskip⟩

/-- Without one it is ORPHAN at once (R137). -/
theorem State.enterAcquire_none {s : State} {skip : Option Nat} (hnone : candidateFrom s skip 0 16 = none) :
    (s.enterAcquire skip).get F.MAC_SYNC_STATUS_STATE = 7 ∧ (s.enterAcquire skip).mac.stateSince = s.now ∧
    bits ((s.enterAcquire skip).rd Reg.MAC_ISR).toNat 3 3 = 1 :=
  State.scanFrom_none (s := s.acquiring skip) (j := 0) ((candidateFrom_acquiring ..).trans hnone)

/-- The end of a RECOVERY that has lasted 4 periods (R137). -/
theorem State.recoveryTimeout_due {s : State} (hstate : s.get F.MAC_SYNC_STATUS_STATE = 5)
    (hdue : s.mac.stateSince + 4 * beaconPeriodU s ≤ s.now) :
    s.recoveryTimeout = s.enterAcquire (some (s.get F.MAC_SYNC_STATUS_PARENT)) := by
  rw [State.recoveryTimeout, if_pos ⟨hstate, hdue⟩]

/-- The end of a candidate's scan in ACQUIRE that has lasted 2 periods (R137). -/
theorem State.scanExpiry_due {s : State} (hstate : s.get F.MAC_SYNC_STATUS_STATE = 6)
    (hdue : s.mac.stateSince + 2 * beaconPeriodU s ≤ s.now) : s.scanExpiry = s.scanFrom (s.mac.candidate + 1) := by
  rw [State.scanExpiry, if_pos hdue, hstate]
  rfl

/-- The end of an ORPHAN that has lasted 4 × RETRY periods (R137). -/
theorem State.orphanExpiry_due {s : State} (hstate : s.get F.MAC_SYNC_STATUS_STATE = 7)
    (hdue : s.mac.stateSince + 4 * s.get F.MAC_SYNC_RETRY * beaconPeriodU s ≤ s.now) : s.orphanExpiry = s.enterAcquire none := by
  rw [State.orphanExpiry, if_pos ⟨hstate, hdue⟩]

/-! ### Refills of the reserves (R121, R291) -/

/-- A state with another cipher state and another promise table, of which a flash counter's write knows nothing. -/
def State.beside (s : State) (c : Cry) (l : List Item) : State := { s with cry := c, items := l }

@[simp] theorem State.beside_cry (s : State) (c : Cry) (l : List Item) : (s.beside c l).cry = c := rfl
@[simp] theorem State.beside_items (s : State) (c : Cry) (l : List Item) : (s.beside c l).items = l := rfl
@[simp] theorem State.beside_flc (s : State) (c : Cry) (l : List Item) : (s.beside c l).flc = s.flc := rfl

theorem State.put_beside (s : State) (c : Cry) (l : List Item) (f : Fld) (v : Nat) :
    (s.beside c l).put f v = (s.put f v).beside c l := rfl

theorem State.programWord_beside (s : State) (c : Cry) (l : List Item) (a : Nat) (data : List Byte) (w : Nat) :
    (s.beside c l).programWord a data w = (s.programWord a data w).beside c l := by
  have hbytes (b n : Nat) : flashBytes (s.beside c l) b n = flashBytes s b n := rfl
  simp only [State.programWord, hbytes]
  split <;> rfl

theorem State.counterPut_beside (s : State) (c : Cry) (l : List Item) (copy n type v : Nat) :
    (s.beside c l).counterPut copy n type v = (s.counterPut copy n type v).beside c l :=
  List.foldl_hom (fun x : State => x.beside c l) (fun x w => State.programWord_beside x c l _ _ w)

theorem State.counterWrite_beside (s : State) (c : Cry) (l : List Item) (copy n v : Nat) :
    (s.beside c l).counterWrite copy n v = (s.counterWrite copy n v).beside c l := by
  have hnext : counterNext (s.beside c l) copy = counterNext s copy := rfl
  have hvalue (k : Nat) : copyValue (s.beside c l) copy k = copyValue s copy k := rfl
  have herase (x : State) (a m : Nat) : (x.beside c l).eraseRange a m = (x.eraseRange a m).beside c l := rfl
  simp only [State.counterWrite, hnext, hvalue]
  split
  · rw [List.foldl_hom (fun x : State => x.beside c l) (fun x k => State.counterPut_beside x c l copy k 1 (copyValue s copy k)),
      herase, State.counterPut_beside]
  · exact State.counterPut_beside ..

/-- A counter's write changes flash and FLC_CTR by flash alone (R386, R388). -/
theorem State.setCounter_beside (s : State) (c : Cry) (l : List Item) (n v : Nat) :
    (s.beside c l).setCounter n v = (s.setCounter n v).beside c l := by
  rw [State.setCounter, State.counterWrite_beside, State.counterWrite_beside, State.put_beside, State.setCounter]

/-- So it leaves the promise table. -/
theorem State.setCounter_items (s : State) (n v : Nat) : (s.setCounter n v).items = s.items := by
  have hself : s.beside s.cry s.items = s := rfl
  rw [← hself, State.setCounter_beside, State.beside_items, State.beside_items]

/-- The reserve of transmit frame counters is extended (R121). -/
theorem State.txfcRefill_running {s : State} (hrun : s.mac.txfcRefill = true) :
    s.txfcRefill = { s with mac := { s.mac with
      txfcLimit := Nat.min (s.mac.txfcLimit + 65536) (2 ^ 32), txfcRefill := false } }.setCounter 0 (counterValue s 0 + 1) := by
  rw [State.txfcRefill, if_pos hrun]

/-- The cipher state with one more block of nonces reserved (R291). -/
def Cry.moreNonces (c : Cry) : Cry :=
  { c with nonceFlash := c.nonceFlash + 1, nonceLimit := c.nonceLimit + 65536, nonceRefill := false }

/-- The reserve of nonces is extended: the blocks reserved go to flash and, with few left, NONCE_LOW is raised (R291). -/
theorem State.nonceRefill_running {s : State} (hrun : s.cry.nonceRefill = true) :
    s.nonceRefill.cry = s.cry.moreNonces ∧ s.nonceRefill.flc = (s.setCounter 1 (s.cry.nonceFlash + 1)).flc ∧
    s.nonceRefill.items = s.items := by
  have hblock : s.nonceRefill = if 2 ^ 32 ≤ s.cry.nonceFlash + 1 + 2 ^ 20
      then ((s.beside s.cry.moreNonces s.items).setCounter 1 (s.cry.nonceFlash + 1)).irq Blk.CRY 8
      else (s.beside s.cry.moreNonces s.items).setCounter 1 (s.cry.nonceFlash + 1) := by
    rw [State.nonceRefill, if_pos hrun]
    rfl
  rw [hblock, State.setCounter_beside]
  split <;> simp

/-- Settles O21: each expiry that is due leads to a scan of the candidates (scanFrom_candidate, scanFrom_none), and each
refill's end to a counter's write. -/
theorem trackingTimers : Obligations.TrackingTimers := by
  unfold Obligations.TrackingTimers
  refine ⟨?orphaned, ?lost, ?next, ?exhausted, ?retry, ?txfc, ?nonce⟩
  case orphaned =>
    rintro s x t j rfl hstate hdue rfl hnone
    exact ⟨_, congrArg Host.Outcome.next (State.recoveryTimeout_due hstate hdue), State.enterAcquire_none hnone⟩
  case lost =>
    rintro s x t j k rfl hstate hdue rfl hk
    exact ⟨_, congrArg Host.Outcome.next (State.recoveryTimeout_due hstate hdue), State.enterAcquire_candidate hk⟩
  case next =>
    rintro s x t k rfl hstate hdue hk
    have hscan := State.scanFrom_candidate hk
    simp only [State.trackKept, Prod.mk.injEq] at hscan
    obtain ⟨-, hcandidate, -, hsince, hstatus⟩ := hscan
    exact ⟨_, congrArg Host.Outcome.next (State.scanExpiry_due hstate hdue),
      (State.get_of_rd (f := F.MAC_SYNC_STATUS_STATE) hstatus).trans hstate, hcandidate, hsince⟩
  case exhausted =>
    rintro s x t rfl hstate hdue hnone
    exact ⟨_, congrArg Host.Outcome.next (State.scanExpiry_due hstate hdue), (State.scanFrom_none hnone).1⟩
  case retry =>
    rintro s x t k rfl hstate hdue hk
    exact ⟨_, congrArg Host.Outcome.next (State.orphanExpiry_due hstate hdue), State.enterAcquire_candidate hk⟩
  case txfc =>
    rintro s x t rfl hrun
    exact congrArg Host.Outcome.next (State.txfcRefill_running hrun)
  case nonce =>
    rintro s x t rfl hrun
    obtain ⟨hcry, hflc, hitems⟩ := State.nonceRefill_running hrun
    exact ⟨_, rfl, congrArg Cry.nonceFlash hcry, congrArg Cry.nonceLimit hcry, congrArg Cry.nonceRefill hcry, hflc, hitems⟩

/-! ### A window under a ring beyond eight bits (R203, R204) -/

/-- A host window of one frame that names ring 256. No descriptor comes from such a ring (R45); Table 6-3 has eight bits for
RING. -/
def ring256Window : Item where
  idx := 0
  seq := 0
  owner := .host
  ring := 256
  tag := 0
  opcode := 0x20
  cring := 16
  irq := false
  prio := 0
  eclass := 0
  deadline := 0
  committed := 0
  repairAt := none
  moved := false
  started := true
  startTime := 0
  decided := false
  entries := 2
  buffers := 1
  e1 := 0
  e2 := 0
  period := 0
  kind := .rx { (OwnWindow.mk .host 0 slotU 0).info with maxf := 1 }

/-- A PHY header of 20 bytes of payload. -/
def headerOf20 : Word := 0x34008A00

/-- A broadcast data frame of device 0 under KEYSEL 0b11, without payload. -/
def broadcastFrame : List Byte := [0, 7, 0xFF, 0xFF, 0xBF] ++ List.replicate 2 0 ++ [0x40] ++ List.replicate 12 0

/-- Lane 0 holds such a frame of that window, and one buffer is posted. -/
def ring256Frame : State :=
  { (((State.reset.put (F.BLK_EN Blk.MAC) 1).put (F.BLK_EN Blk.HRE) 1).put F.MUR_CFG_SIC_EN 0).put
      (F.MUR_LANE_STATE_STATE 0) 3 with
    mur.lanes := [⟨some 0, false, 0, true, some headerOf20⟩]
    items := [ring256Window]
    hre.buffers := [⟨0, false, 0, 512⟩] }

/-- The frame ends, and its record is decided. -/
def ring256Received : State := (ring256Frame.at 0).frameEnd 0 broadcastFrame (crc16 broadcastFrame) 0 ⟨0, 0⟩ false

/-- Word 4 of the record names ring 0. -/
theorem ring256Received_record : ring256Received.hre.outq.map Compl.w4 = [0] := by
  decide +kernel

/-- Refutes O23: its clause on a frame that is delivered says that word 4 of the record shows the window's ring, and does not
bound the ring; a record shows its low eight bits (State.deliver, Table 6-3). -/
theorem not_receivedFrames : ¬ Obligations.ReceivedFrames := by
  unfold Obligations.ReceivedFrames
  rintro ⟨-, -, hdelivered, -⟩
  obtain ⟨r, hexec, -, q, houtq, -, -, -, -, -, hw4⟩ := hdelivered ring256Frame (ring256Frame.at 0) 0 0
    (crc16 broadcastFrame) 0 broadcastFrame 0 ⟨0, 0⟩ headerOf20 ring256Window _ _ ⟨0, false, 0, 512⟩ [] rfl (by decide)
    (by decide +kernel) (by decide +kernel) (by decide +kernel) (by decide +kernel) (by decide +kernel) (by decide +kernel)
    (by decide +kernel) (by decide +kernel) (by decide +kernel) (by decide +kernel) rfl rfl rfl (by decide) rfl
    (by decide +kernel) (by decide +kernel) (by decide +kernel) (by decide +kernel)
  have hr : ring256Received = r := Host.Outcome.next.inj hexec
  have hempty : (ring256Frame.at 0).hre.outq = [] := by decide +kernel
  have hrecord : [q.w4] = [0] := by rw [← ring256Received_record, hr, houtq, hempty]; rfl
  rw [hw4] at hrecord
  exact absurd hrecord (by decide)

end Sys2Proof.Machine

/-! PROOFS. Modulation and detection (chapter 5): the energy detector's bins, and the lanes from a qualified preamble to the
header. -/

namespace Sys2Proof.Machine

/-! ### What a bin keeps through an energy window (R174, R175, R193, R194) -/

theorem State.bin_of_binState {s : State} {b : Int} {y : BinState} (h : s.binState b = some y) : y.bin = b := by
  simpa using List.find?_some h

/-- A change of bin states that leaves their bin numbers changes what is found under a number. -/
theorem find?_map_bin {f : BinState → BinState} (hf : ∀ x, (f x).bin = x.bin) (l : List BinState) (b : Int) :
    (l.map f).find? (fun x => x.bin == b) = (l.find? (fun x => x.bin == b)).map f := by
  have hp : ((fun x : BinState => x.bin == b) ∘ f) = fun x => x.bin == b := funext fun x => by simp [hf]
  rw [List.find?_map, hp]

/-- Reading a bin's state after setting one. -/
theorem State.binState_setBin (s : State) (y : BinState) (b : Int) :
    (s.setBin y).binState b = if y.bin = b then some y else s.binState b := by
  simp only [State.binState, State.setBin]
  split
  next hany =>
    rw [find?_map_bin (fun x => by split <;> simp_all)]
    cases hu : s.mur.bins.find? (fun x => x.bin == b) with
    | none =>
      obtain ⟨x, hx, hbin⟩ := List.any_eq_true.mp hany
      have hb : y.bin ≠ b := by
        rintro rfl
        exact List.find?_eq_none.mp hu x hx hbin
      rw [if_neg hb, Option.map_none]
    | some u =>
      obtain rfl : u.bin = b := State.bin_of_binState hu
      by_cases hb : y.bin = u.bin
      · simp [hb]
      · simp [hb, Ne.symm hb]
  next hnone =>
    have hnew : s.mur.bins.find? (fun x => x.bin == y.bin) = none := by simpa using hnone
    rw [List.find?_append]
    by_cases hb : y.bin = b
    · subst hb
      simp [hnew]
    · simp [hb]

/-- The detector's floor and hold of a bin, beside what the ring engine keeps. -/
def DetectorShows (h : Hre) (b : Int) (floor hold : Nat) (s : State) : Prop :=
  s.hre = h ∧ ∃ y, s.binState b = some y ∧ y.floor = floor ∧ y.hold = hold

section
variable {h : Hre} {b : Int} {floor hold : Nat} {s : State}

theorem DetectorShows.of_bins {r : State} (hs : DetectorShows h b floor hold s) (hhre : r.hre = s.hre)
    (hbins : r.mur.bins = s.mur.bins) : DetectorShows h b floor hold r := by
  unfold DetectorShows State.binState at *
  rwa [hhre, hbins]

theorem DetectorShows.put (hs : DetectorShows h b floor hold s) (f : Fld) (v : Nat) :
    DetectorShows h b floor hold (s.put f v) :=
  hs.of_bins rfl rfl

/-- A conditional update keeps what both of its branches keep. -/
theorem DetectorShows.ite {p : Prop} [Decidable p] {x z : State} (hx : DetectorShows h b floor hold x)
    (hz : DetectorShows h b floor hold z) : DetectorShows h b floor hold (if p then x else z) := by
  split
  · exact hx
  · exact hz

/-- A seat says nothing of floor and flag. -/
theorem DetectorShows.putSeat (hs : DetectorShows h b floor hold s) (c : Int) (seat : Option Nat) :
    DetectorShows h b floor hold (s.putSeat c seat) := by
  obtain ⟨hhre, y, hy, hfloor, hhold⟩ := hs
  unfold State.putSeat
  split
  next x hx =>
    obtain rfl : x.bin = c := State.bin_of_binState hx
    refine ⟨hhre, ?_⟩
    rw [State.binState_setBin]
    split
    next hb =>
      obtain rfl : x = y := by simpa [← hb, hx] using hy
      exact ⟨_, rfl, hfloor, hhold⟩
    next => exact ⟨y, hy, hfloor, hhold⟩
  next hnone =>
    have hc : c ≠ b := by
      rintro rfl
      simp [hy] at hnone
    split
    · exact ⟨hhre, y, (State.binState_setBin ..).trans (by rwa [if_neg hc]), hfloor, hhold⟩
    · exact ⟨hhre, y, hy, hfloor, hhold⟩

theorem DetectorShows.overload (hs : DetectorShows h b floor hold s) (c : Int) : DetectorShows h b floor hold (s.overload c) :=
  hs.of_bins (by simp [State.overload]) (by simp [State.overload])

theorem DetectorShows.dropSeats (hs : DetectorShows h b floor hold s) : DetectorShows h b floor hold s.dropSeats := by
  obtain ⟨hhre, y, hy, hfloor, hhold⟩ := hs
  have hkept : s.dropSeats.binState b = (s.binState b).map _ := find?_map_bin (fun x => by split <;> rfl) _ _
  rw [hy, Option.map_some] at hkept
  refine ⟨hhre, _, hkept, ?_, ?_⟩
  all_goals split <;> assumption

theorem DetectorShows.dropQueue (hs : DetectorShows h b floor hold s) : DetectorShows h b floor hold s.dropQueue :=
  foldl_inv (p := DetectorShows h b floor hold) (fun _ c hx => hx.overload c) _ _ (hs.of_bins rfl rfl)

theorem DetectorShows.serveQueue (l : List Int) (hs : DetectorShows h b floor hold s) :
    DetectorShows h b floor hold (s.serveQueue l) := by
  induction l generalizing s with
  | nil => exact hs.of_bins rfl rfl
  | cons c l ih =>
    unfold State.serveQueue
    split
    · exact hs.of_bins rfl rfl
    · exact ih (.ite ((hs.putSeat ..).overload c) (hs.putSeat ..))

theorem DetectorShows.seatAlways (hs : DetectorShows h b floor hold s) (c : Int) :
    DetectorShows h b floor hold (s.seatAlways c) := by
  unfold State.seatAlways
  split
  · exact hs
  split
  · exact hs.putSeat ..
  dsimp only
  split
  · exact hs
  · exact ((hs.putSeat ..).putSeat ..).of_bins rfl rfl

theorem DetectorShows.seatFlagged (hs : DetectorShows h b floor hold s) (c : Int) :
    DetectorShows h b floor hold (s.seatFlagged c) := by
  unfold State.seatFlagged
  split
  · exact hs
  split
  · exact hs.putSeat ..
  · exact hs.of_bins rfl rfl

theorem DetectorShows.seats (hs : DetectorShows h b floor hold s) : DetectorShows h b floor hold s.seats := by
  have hserved := hs.dropSeats.dropQueue.serveQueue s.dropSeats.dropQueue.mur.seatQueue
  have halways := foldl_inv (p := DetectorShows h b floor hold) (fun _ c hx => hx.seatAlways c) usableBins _ hserved
  have hflagged := foldl_inv (p := DetectorShows h b floor hold) (fun _ c hx => hx.seatFlagged c) usableBins _ halways
  unfold State.seats
  exact (hflagged.put ..).put ..

theorem DetectorShows.bufferSamples (hs : DetectorShows h b floor hold s) (w : BinWindow) :
    DetectorShows h b floor hold (s.bufferSamples w) := by
  unfold State.bufferSamples
  dsimp only
  split
  · exact hs
  · exact hs.of_bins rfl rfl

/-- After one bin's window, free of zero samples, the bin shows what the window has made of it. -/
theorem DetectorShows.energyWindows {w : BinWindow} (hen : s.en Blk.PHY = true)
    (hzero : zeroIn s (s.now - energyWindowU s) s.now = false)
    (hs : DetectorShows h b floor hold (s.binWindow false w)) : DetectorShows h b floor hold (s.energyWindows [w]) := by
  rw [State.energyWindows, if_neg (by simp [hen]), hzero, show byBin [w] = [w] from rfl]
  simp only [List.foldl_cons, List.foldl_nil]
  exact hs.seats.bufferSamples w

end

/-- Setting a bin's state. -/
theorem detectorShows_setBin {s : State} {y : BinState} :
    DetectorShows s.hre y.bin y.floor y.hold (s.setBin y) :=
  ⟨rfl, y, by rw [State.binState_setBin, if_pos rfl], rfl, rfl⟩

section
variable {s : State} {w : BinWindow} {y : BinState}

/-- A window of a bin within chain 0's span takes effect (R174). -/
theorem State.binWindow_seen (husable : binUsable w.bin = true) (hspan : inNarrowband s w.bin 1 = true) :
    ¬(!binUsable w.bin || !inNarrowband s w.bin 1) = true := by
  simp [husable, hspan]

/-- A bin's first window sets its floor (R175). -/
theorem State.binWindow_first (husable : binUsable w.bin = true) (hspan : inNarrowband s w.bin 1 = true)
    (hnew : s.binState w.bin = none) : DetectorShows s.hre w.bin w.level 0 (s.binWindow false w) := by
  rw [State.binWindow, if_neg (State.binWindow_seen husable hspan), hnew]
  exact detectorShows_setBin

/-- One that crosses the threshold flags the bin and leaves its floor (R174, R175). -/
theorem State.binWindow_crossing (husable : binUsable w.bin = true) (hspan : inNarrowband s w.bin 1 = true)
    (hknown : s.binState w.bin = some y) (hcross : w.level + s.get F.PHY_DET_ED_THRESH ≤ y.floor) :
    DetectorShows s.hre w.bin y.floor (s.get F.PHY_DET_ED_HOLD + 1) (s.binWindow false w) := by
  rw [State.binWindow, if_neg (State.binWindow_seen husable hspan), hknown, ← State.bin_of_binState hknown]
  simp only [hcross]
  exact detectorShows_setBin

/-- One of less power moves the floor at once (R175). -/
theorem State.binWindow_weaker (husable : binUsable w.bin = true) (hspan : inNarrowband s w.bin 1 = true)
    (hknown : s.binState w.bin = some y) (hfloor : y.floor < w.level) :
    DetectorShows s.hre w.bin w.level (y.hold - 1) (s.binWindow false w) := by
  have hcross : ¬ w.level + s.get F.PHY_DET_ED_THRESH ≤ y.floor := by omega
  rw [State.binWindow, if_neg (State.binWindow_seen husable hspan), hknown, ← State.bin_of_binState hknown]
  simp only [hcross, hfloor]
  exact detectorShows_setBin

end

/-! ### Registers of a lane and counters -/

/-- A saturating counter counts up to its field's highest value. -/
theorem State.get_count_same (s : State) (f : Fld) (hf : f.lo + f.width ≤ 32) :
    (s.count f).get f = Nat.min (s.get f + 1) (2 ^ f.width - 1) := by
  have hpos : 0 < 2 ^ f.width := Nat.two_pow_pos _
  rw [State.count, State.get_put_same _ _ _ hf, Nat.mod_eq_of_lt]
  exact Nat.lt_of_le_of_lt (Nat.min_le_right ..) (by omega)

theorem State.get_count_phy (s : State) (k : Nat) :
    (s.count (F.PHY_CNT_COUNT k)).get (F.PHY_CNT_COUNT k) = Nat.min (s.get (F.PHY_CNT_COUNT k) + 1) 0xFFFFFFFF :=
  State.get_count_same s _ (by simp [F.PHY_CNT_COUNT])

/-- A 64-bit register reads the same in two states whose words there are the same. -/
theorem State.rd64_of_rd {s r : State} {a : Nat} (hlo : r.rd a = s.rd a) (hhi : r.rd (a + 4) = s.rd (a + 4)) :
    r.rd64 a = s.rd64 a := by
  rw [State.rd64, hlo, hhi, State.rd64]

@[simp] theorem State.rd64_wr64_same (s : State) (a v : Nat) : (s.wr64 a v).rd64 a = v % 2 ^ 64 := by
  have hlo : (s.wr64 a v).rd a = loWord v := by simp [State.wr64]
  have hhi : (s.wr64 a v).rd (a + 4) = hiWord v := by simp [State.wr64]
  rw [State.rd64, hlo, hhi, loWord, hiWord, BitVec.toNat_ofNat, BitVec.toNat_ofNat]
  omega

theorem State.rd_wr64_other (s : State) {a b : Nat} (v : Nat) (hlo : b ≠ a) (hhi : b ≠ a + 4) :
    (s.wr64 a v).rd b = s.rd b := by
  rw [State.wr64, State.rd_wr_other _ _ hhi, State.rd_wr_other _ _ hlo]

theorem State.rd_syncLoad (s : State) {a : Nat} (ha : a ≠ Reg.MUR_LOAD) : s.syncLoad.rd a = s.rd a := by
  unfold State.syncLoad
  iterate 3 rw [State.rd_put_other _ _ _ ha]

theorem State.laneX_setLaneX_same (s : State) {n : Nat} (y : LaneX) (hn : n < s.mur.lanes.length) :
    (s.setLaneX n y).laneX n = y :=
  getD_modAt_same (fun _ => y) LaneX.reset s.mur.lanes n hn

/-! ### The assignment of a qualified preamble (R177, R197) -/

theorem mem_lanesWhere {p : Nat → Bool} {n k m : Nat} : m ∈ lanesWhere p n k ↔ (n ≤ m ∧ m < n + k) ∧ p m = true := by
  simp only [lanesWhere, List.mem_filter, List.mem_map, List.mem_range]
  refine and_congr_left fun _ => ⟨?_, fun hm => ⟨m - n, by omega, by omega⟩⟩
  rintro ⟨i, hi, rfl⟩
  omega

/-- A free lane is one of the 64. -/
theorem freeLane_lt {s : State} {n : Nat} (h : freeLane s = some n) : n < 64 := by
  unfold freeLane at h
  split at h
  next m l hl =>
    obtain rfl : m = n := Option.some.inj h
    have hmem := mem_lanesWhere.mp (hl ▸ List.mem_cons_self : m ∈ lanesWhere _ 0 60)
    omega
  next =>
    have hmem := mem_lanesWhere.mp (List.mem_of_mem_head? h)
    omega

/-- A preamble that the scanners qualify is counted and fires its event (R177). -/
def State.notePreamble (s : State) : State := (s.count (F.PHY_CNT_COUNT 0)).fire 40

/-- That leaves the receiver's registers alone. -/
theorem State.notePreamble_rd (s : State) {a : Nat} (ha : Reg.MUR_CFG ≤ a) : s.notePreamble.rd a = s.rd a := by
  refine State.rd_put_other _ _ _ ?_
  simp only [Reg.MUR_CFG] at ha
  simp only [F.PHY_CNT_COUNT, Reg.PHY_CNT]
  omega

theorem laneState_notePreamble (s : State) : laneState s.notePreamble = laneState s :=
  funext fun n => State.get_of_rd (s.notePreamble_rd (by
    simp only [Reg.MUR_CFG, F.MUR_LANE_STATE_STATE, Reg.MUR_LANE_STATE]
    omega))

theorem laneDet_notePreamble (s : State) : laneDet s.notePreamble = laneDet s := by
  funext n
  have htriple : s.notePreamble.rd (Reg.MUR_LANE_TRIPLE n) = s.rd (Reg.MUR_LANE_TRIPLE n) :=
    s.notePreamble_rd (by simp only [Reg.MUR_CFG, Reg.MUR_LANE_TRIPLE]; omega)
  have hmetric : s.notePreamble.rd (Reg.MUR_LANE_METRIC n) = s.rd (Reg.MUR_LANE_METRIC n) :=
    s.notePreamble_rd (by simp only [Reg.MUR_CFG, Reg.MUR_LANE_METRIC]; omega)
  have hstart : s.notePreamble.rd64 (Reg.MUR_LANE_START n) = s.rd64 (Reg.MUR_LANE_START n) :=
    State.rd64_of_rd (s.notePreamble_rd (by simp only [Reg.MUR_CFG, Reg.MUR_LANE_START]; omega))
      (s.notePreamble_rd (by simp only [Reg.MUR_CFG, Reg.MUR_LANE_START]; omega))
  simp only [laneDet, hstart, State.get_of_rd (f := F.MUR_LANE_TRIPLE_BIN n) htriple,
    State.get_of_rd (f := F.MUR_LANE_TRIPLE_SF_IDX n) htriple, State.get_of_rd (f := F.MUR_LANE_TRIPLE_CODE n) htriple,
    State.get_of_rd (f := F.MUR_LANE_METRIC_CFO n) hmetric, State.get_of_rd (f := F.MUR_LANE_METRIC_Q n) hmetric]

theorem laneHolds_notePreamble (s : State) : laneHolds s.notePreamble = laneHolds s :=
  funext fun n => by simp only [laneHolds, laneState_notePreamble]

theorem freeLane_notePreamble (s : State) : freeLane s.notePreamble = freeLane s := by
  have hwide (w : Nat) : s.notePreamble.rd (Reg.MUR_WIDE w) = s.rd (Reg.MUR_WIDE w) :=
    s.notePreamble_rd (by simp only [Reg.MUR_CFG, Reg.MUR_WIDE]; omega)
  simp only [freeLane, laneState_notePreamble, wideMode, State.on_of_rd (f := F.MUR_WIDE_EN _) (hwide _),
    State.get_of_rd (f := F.MUR_WIDE_MODE _) (hwide _)]

/-- A detection of an owned frame, its bin and spreading factor not full, goes to the free lane (R197). -/
theorem State.assign_free {s : State} {d : Detection} {n w level : Nat} (hown : ownerOf s d.bin d.start = some w)
    (hpair : (lanesWhere (fun k => laneHolds s k && (laneDet s k).bin == d.bin && (laneDet s k).sf == d.sf) 0 64).length < 8)
    (hbin : (lanesWhere (fun k => laneHolds s k && (laneDet s k).bin == d.bin) 0 64).length < 16) (hfree : freeLane s = some n) :
    s.assign d false level = s.giveLane n d (some w) false level := by
  simp only [State.assign, hown, hfree, Bool.false_and]
  rw [if_neg (by decide), if_neg (by omega)]

/-- One detection that passes the scanner's tests is the one that is handed over: it is no image of itself (R177). -/
theorem State.qualified_one {s : State} {d : Detection} (hphy : s.en Blk.PHY = true) (hmur : s.en Blk.MUR = true)
    (hpass : scannerPasses s d = true) : s.qualified [d] = s.handOver d := by
  have himage : isImage d d = false := by simp [isImage]
  have hone : qualifiedOf s [d] = [d] := by simp [qualifiedOf, hpass, himage, inTurn, insertBy]
  rw [State.qualified, if_neg (by simp [hphy, hmur]), hone, List.foldl_cons, List.foldl_nil]

/-- A seated bin's preamble, of a triple that no lane searches and of no locked frame, is counted and assigned (R177, R180). -/
theorem State.handOver_new {s : State} {d : Detection} (hseat : (seatOf s d.bin).isSome = true)
    (hsearch : searchingTriple s d = false)
    (hlocked : lanesWhere (fun k => laneState s k == 3 && sameFrame (laneDet s k) d) 0 64 = []) :
    s.handOver d = s.notePreamble.assign d false 0 := by
  have hseated : (seatOf s d.bin).isNone = false := by simpa [Option.isSome_iff_ne_none] using hseat
  simp only [State.handOver, hseated, hsearch, hlocked]
  rfl

/-- What a lane's registers show of a live detection that it searches for (Table 6-8). -/
def State.showDetection (s : State) (n : Nat) (d : Detection) : State :=
  (((s.wr (Reg.MUR_LANE_STATE n) 2).wr (Reg.MUR_LANE_TRIPLE n)
    (word (unsigned 8 d.bin + d.sf % 16 * 256 + d.code % 8 * 4096))).wr (Reg.MUR_LANE_METRIC n)
      (word (d.q % 256 + d.cfo % 65536 * 65536))).wr64 (Reg.MUR_LANE_START n) d.start

theorem State.showDetection_state (s : State) (n : Nat) (d : Detection) :
    (s.showDetection n d).rd (Reg.MUR_LANE_STATE n) = 2 := by
  rw [State.showDetection, State.rd_wr64_other, State.rd_wr_other, State.rd_wr_other, State.rd_wr_same]
  all_goals
    simp only [Reg.MUR_LANE_STATE, Reg.MUR_LANE_TRIPLE, Reg.MUR_LANE_METRIC, Reg.MUR_LANE_START]
    omega

theorem State.showDetection_triple (s : State) (n : Nat) (d : Detection) : (s.showDetection n d).rd (Reg.MUR_LANE_TRIPLE n) =
    word (unsigned 8 d.bin + d.sf % 16 * 256 + d.code % 8 * 4096) := by
  rw [State.showDetection, State.rd_wr64_other, State.rd_wr_other, State.rd_wr_same]
  all_goals
    simp only [Reg.MUR_LANE_TRIPLE, Reg.MUR_LANE_METRIC, Reg.MUR_LANE_START]
    omega

/-- A live detection's lane keeps its owner and shows it; MUR_CNT[0] and MUR_LOAD follow. -/
theorem State.giveLane_live (s : State) (n : Nat) (d : Detection) (w : Option Nat) : s.giveLane n d w false 0 =
    (((s.setLaneX n ⟨w, false, s.now, false, none⟩).showDetection n d).count (F.MUR_CNT_COUNT 0)).syncLoad := rfl

/-- So every register but those two reads as the detection is shown. -/
theorem State.giveLane_rd (s : State) (n : Nat) (d : Detection) (w : Option Nat) {a : Nat} (hcount : a ≠ Reg.MUR_CNT 0)
    (hload : a ≠ Reg.MUR_LOAD) : (s.giveLane n d w false 0).rd a = (s.showDetection n d).rd a := by
  rw [State.giveLane_live, State.rd_syncLoad _ hload]
  exact State.rd_put_other _ _ _ hcount

/-- The lane searches, and shows the detection's triple and start. -/
theorem State.giveLane_shows (s : State) (n : Nat) (d : Detection) (w : Option Nat) :
    laneState (s.giveLane n d w false 0) n = 2 ∧
    (s.giveLane n d w false 0).rd64 (Reg.MUR_LANE_START n) = d.start % 2 ^ 64 ∧
    (s.giveLane n d w false 0).rd (Reg.MUR_LANE_TRIPLE n) =
      word (unsigned 8 d.bin + d.sf % 16 * 256 + d.code % 8 * 4096) := by
  have hrd {a : Nat} (ha : Reg.MUR_LANE_STATE 0 ≤ a) : (s.giveLane n d w false 0).rd a = (s.showDetection n d).rd a := by
    simp only [Reg.MUR_LANE_STATE] at ha
    exact s.giveLane_rd n d w (by simp only [Reg.MUR_CNT]; omega) (by simp only [Reg.MUR_LOAD]; omega)
  refine ⟨?_, ?_, ?_⟩
  · have hstate : (s.giveLane n d w false 0).rd (Reg.MUR_LANE_STATE n) = 2 :=
      (hrd (by simp only [Reg.MUR_LANE_STATE]; omega)).trans (State.showDetection_state ..)
    exact (congrArg (F.MUR_LANE_STATE_STATE n).value hstate).trans (by simp [Fld.value, F.MUR_LANE_STATE_STATE])
  · rw [State.rd64_of_rd (hrd _) (hrd _), State.showDetection, State.rd64_wr64_same]
    all_goals simp only [Reg.MUR_LANE_STATE, Reg.MUR_LANE_START]; omega
  · exact (hrd (by simp only [Reg.MUR_LANE_STATE, Reg.MUR_LANE_TRIPLE]; omega)).trans (State.showDetection_triple ..)

/-- The scanners' counter of preambles is not among what changes. -/
theorem State.giveLane_phy (s : State) (n : Nat) (d : Detection) (w : Option Nat) :
    (s.giveLane n d w false 0).get (F.PHY_CNT_COUNT 0) = s.get (F.PHY_CNT_COUNT 0) := by
  refine State.get_of_rd ((s.giveLane_rd n d w (by decide) (by decide)).trans ?_)
  simp only [State.showDetection, F.PHY_CNT_COUNT, Reg.PHY_CNT, Reg.MUR_LANE_STATE, Reg.MUR_LANE_TRIPLE, Reg.MUR_LANE_METRIC,
    Reg.MUR_LANE_START]
  rw [State.rd_wr64_other, State.rd_wr_other, State.rd_wr_other, State.rd_wr_other]
  all_goals omega

/-- Nor is the promise table among it. -/
theorem State.giveLane_items (s : State) (n : Nat) (d : Detection) (w : Option Nat) :
    (s.giveLane n d w false 0).items = s.items := by
  simp [State.giveLane_live, State.showDetection]

/-- The lane keeps the owner, and has no sync word yet. -/
theorem State.giveLane_laneX (s : State) {n : Nat} (d : Detection) (w : Option Nat) (hn : n < s.mur.lanes.length) :
    (s.giveLane n d w false 0).laneX n = ⟨w, false, s.now, false, none⟩ := by
  have hmur : (s.giveLane n d w false 0).mur = (s.setLaneX n ⟨w, false, s.now, false, none⟩).mur := by
    simp [State.giveLane_live, State.showDetection]
  exact (congrArg (fun m : Mur => m.lanes.getD n LaneX.reset) hmur).trans (State.laneX_setLaneX_same s _ hn)

/-! ### Capture, sync and header (R178, R179, R181) -/

/-- A stronger preamble's metric and start replace those of the lane. -/
theorem State.relock_captures {s : State} {n q start : Nat} (hstate : laneState s n = 2) (hended : laneEnded s n = false)
    (hcap : s.get F.PHY_QUAL_CAPTURE ≠ 0) (hq : s.get (F.MUR_LANE_METRIC_Q n) + 2 * s.get F.PHY_QUAL_CAPTURE ≤ q) :
    s.relock n q start = (((s.put (F.MUR_LANE_METRIC_Q n) q).wr64 (Reg.MUR_LANE_START n) start).count
      (F.PHY_CNT_COUNT 2)).setLaneX n
        { s.laneX n with window := ownerOf s (laneDet s n).bin start, assignedAt := s.now } := by
  rw [State.relock, if_neg]
  simp only [hstate, hended, hcap, Nat.not_lt.mpr hq]
  decide

/-- The lane still searches, and shows the stronger preamble. -/
theorem State.relock_shows {s : State} {n q start : Nat} (hstate : laneState s n = 2) (hended : laneEnded s n = false)
    (hcap : s.get F.PHY_QUAL_CAPTURE ≠ 0) (hq : s.get (F.MUR_LANE_METRIC_Q n) + 2 * s.get F.PHY_QUAL_CAPTURE ≤ q)
    (hwidth : q < 256) :
    (s.relock n q start).get (F.MUR_LANE_METRIC_Q n) = q ∧
    (s.relock n q start).rd64 (Reg.MUR_LANE_START n) = start % 2 ^ 64 ∧ laneState (s.relock n q start) n = 2 ∧
    (s.relock n q start).items = s.items := by
  have hrd {a : Nat} (ha : Reg.MUR_CFG ≤ a) : (s.relock n q start).rd a =
      ((s.put (F.MUR_LANE_METRIC_Q n) q).wr64 (Reg.MUR_LANE_START n) start).rd a := by
    rw [State.relock_captures hstate hended hcap hq]
    refine State.rd_put_other _ _ _ ?_
    simp only [Reg.MUR_CFG] at ha
    simp only [F.PHY_CNT_COUNT, Reg.PHY_CNT]
    omega
  refine ⟨?_, ?_, ?_, ?_⟩
  · have hmetric : (s.relock n q start).rd (Reg.MUR_LANE_METRIC n) =
        (s.put (F.MUR_LANE_METRIC_Q n) q).rd (Reg.MUR_LANE_METRIC n) := by
      rw [hrd, State.rd_wr64_other]
      all_goals simp only [Reg.MUR_CFG, Reg.MUR_LANE_METRIC, Reg.MUR_LANE_START]; omega
    rw [State.get_of_rd (f := F.MUR_LANE_METRIC_Q n) hmetric, State.get_put_same _ _ _ (by simp [F.MUR_LANE_METRIC_Q])]
    exact Nat.mod_eq_of_lt hwidth
  · rw [State.rd64_of_rd (hrd _) (hrd _), State.rd64_wr64_same]
    all_goals simp only [Reg.MUR_CFG, Reg.MUR_LANE_START]; omega
  · have hlane : (s.relock n q start).rd (Reg.MUR_LANE_STATE n) = s.rd (Reg.MUR_LANE_STATE n) := by
      rw [hrd, State.rd_wr64_other, State.rd_put_other]
      all_goals
        simp only [Reg.MUR_CFG, F.MUR_LANE_METRIC_Q, Reg.MUR_LANE_METRIC, Reg.MUR_LANE_STATE, Reg.MUR_LANE_START]
        omega
    exact (State.get_of_rd (f := F.MUR_LANE_STATE_STATE n) hlane).trans hstate
  · rw [State.relock_captures hstate hended hcap hq, State.setLaneX_items, State.count_items, State.wr64_items, State.put_items]

/-- A live lane is in its sync search (R178). -/
theorem inSearch_live {s : State} {n : Nat} (hstate : laneState s n = 2) (hended : laneEnded s n = false) :
    inSearch s n = true := by
  simp [inSearch, hstate, hended]

/-- A sync word in time, with few enough errors, locks the lane (R178). -/
theorem State.synced_locks {s : State} {n errors : Nat} (hstate : laneState s n = 2) (hended : laneEnded s n = false)
    (herrors : errors ≤ s.get F.PHY_QUAL_SYNC_ERR) (htime : s.now ≤ syncEnd s n) :
    s.synced n errors = (s.put (F.MUR_LANE_STATE_STATE n) 3).syncLoad.setLaneX n { s.laneX n with synced := true } := by
  rw [State.synced, if_neg, if_pos hstate]
  simp [inSearch_live hstate hended, Nat.not_lt.mpr herrors, Nat.not_lt.mpr htime]

theorem State.synced_shows {s : State} {n errors : Nat} (hlanes : n < s.mur.lanes.length) (hstate : laneState s n = 2)
    (hended : laneEnded s n = false) (herrors : errors ≤ s.get F.PHY_QUAL_SYNC_ERR) (htime : s.now ≤ syncEnd s n) :
    laneState (s.synced n errors) n = 3 ∧ ((s.synced n errors).laneX n).synced = true ∧
    (s.synced n errors).items = s.items := by
  rw [State.synced_locks hstate hended herrors htime]
  refine ⟨?_, ?_, by rw [State.setLaneX_items, State.syncLoad_items, State.put_items]⟩
  · rw [laneState, State.setLaneX_get]
    exact (laneState_syncLoad ..).trans (State.get_put_same _ _ _ (by simp [F.MUR_LANE_STATE_STATE]))
  · rw [State.laneX_setLaneX_same]
    simpa using hlanes

/-- A window's counts are in the promise table. -/
theorem State.onWindow_mur (s : State) (w : Option Nat) (f : RxInfo → RxInfo) : (s.onWindow w f).mur = s.mur := by
  unfold State.onWindow
  split <;> rfl

theorem State.onWindow_regs (s : State) (w : Option Nat) (f : RxInfo → RxInfo) : (s.onWindow w f).regs = s.regs := by
  unfold State.onWindow
  split <;> rfl

/-- A lane whose frame has ended waits for its release in the next DSP cycle, and has no owner (R199). -/
theorem State.endLane_frees (s : State) {n : Nat} (hlanes : n < s.mur.lanes.length) :
    (s.endLane n).mur.freed = s.mur.freed ++ [n] ∧ ((s.endLane n).laneX n).window = none ∧ (s.endLane n).regs = s.regs := by
  have hmur : (s.chargeLane n).mur = s.mur := s.onWindow_mur _ _
  refine ⟨?_, ?_, s.onWindow_regs _ _⟩
  · show (s.chargeLane n).mur.freed ++ [n] = _
    rw [hmur]
  · exact congrArg LaneX.window ((s.chargeLane n).laneX_setLaneX_same { s.laneX n with window := none } (by rwa [hmur]))

/-- A frame that fails ends, and a PHY counter counts the failure. -/
theorem State.countEnd_shows (s : State) {n : Nat} (k : Nat) (hlanes : n < s.mur.lanes.length) :
    ((s.count (F.PHY_CNT_COUNT k)).endLane n).mur.freed = s.mur.freed ++ [n] ∧
    (((s.count (F.PHY_CNT_COUNT k)).endLane n).laneX n).window = none ∧
    ((s.count (F.PHY_CNT_COUNT k)).endLane n).get (F.PHY_CNT_COUNT k) =
      Nat.min (s.get (F.PHY_CNT_COUNT k) + 1) 0xFFFFFFFF := by
  obtain ⟨hfreed, hwindow, hregs⟩ := (s.count (F.PHY_CNT_COUNT k)).endLane_frees hlanes
  refine ⟨hfreed, hwindow, ?_⟩
  rw [State.get, State.rd, hregs]
  exact s.get_count_phy k

/-- The sync span has passed without a sync word (R178). -/
theorem State.syncLost_ends {s : State} {n : Nat} (hstate : laneState s n = 2) (hended : laneEnded s n = false)
    (htime : syncEnd s n ≤ s.now) : s.syncLost n = (s.count (F.PHY_CNT_COUNT 1)).endLane n := by
  rw [State.syncLost, if_neg]
  simp [inSearch_live hstate hended, Nat.not_lt.mpr htime]

section
variable {s : State} {n : Nat} (h : Word) (hstate : laneState s n = 3) (hended : laneEnded s n = false)
  (hsynced : (s.laneX n).synced = true) (hheader : (s.laneX n).header = none)
include hstate hended hsynced hheader

/-- A synced lane's header that fails a check ends the frame (R181). -/
theorem State.headerDecoded_fault {k : Nat} (hfault : headerFault s n h.toNat = some k) :
    s.headerDecoded n h = (s.count (F.PHY_CNT_COUNT k)).endLane n := by
  rw [State.headerDecoded]
  simp only [hstate, hended, hsynced, hheader, hfault]
  rfl

/-- One without fault is kept (R181). -/
theorem State.headerDecoded_kept (hfault : headerFault s n h.toNat = none) :
    s.headerDecoded n h = s.setLaneX n { s.laneX n with header := some h } := by
  rw [State.headerDecoded]
  simp only [hstate, hended, hsynced, hheader, hfault]
  rfl

end

/-- Settles O22: the seats leave what an energy window has made of its bin (DetectorShows.seats); an assignment sees the
receiver as it was before the preamble was counted (laneState_notePreamble and the lemmas after it), and a frame that ends
frees its lane (State.countEnd_shows). -/
theorem detectionAndLanes : Obligations.DetectionAndLanes := by
  unfold Obligations.DetectionAndLanes
  refine ⟨?first, ?crossing, ?weaker, ?preamble, ?capture, ?accepted, ?lost, ?fault, ?kept⟩
  case first =>
    rintro s x t w rfl hen husable hspan hzero hnew
    exact ⟨_, rfl, (State.binWindow_first husable hspan hnew).energyWindows hen hzero⟩
  case crossing =>
    rintro s x t w y rfl hen husable hspan hzero hknown hcross
    exact ⟨_, rfl, ((State.binWindow_crossing husable hspan hknown hcross).energyWindows hen hzero).2⟩
  case weaker =>
    rintro s x t w y rfl hen husable hspan hzero hknown hfloor
    exact ⟨_, rfl, ((State.binWindow_weaker husable hspan hknown hfloor).energyWindows hen hzero).2⟩
  case preamble =>
    rintro s x t n w d rfl hphy hmur hpass hseat hsearch hlocked hown hpair hbin hfree hlanes
    have hgiven : (s.at t).qualified [d] = (s.at t).notePreamble.giveLane n d (some w) false 0 := by
      rw [State.qualified_one hphy hmur hpass, State.handOver_new hseat hsearch hlocked]
      refine State.assign_free hown ?_ ?_ ((freeLane_notePreamble _).trans hfree)
      · rwa [laneHolds_notePreamble, laneDet_notePreamble]
      · rwa [laneHolds_notePreamble, laneDet_notePreamble]
    have hlaneX := (s.at t).notePreamble.giveLane_laneX d (some w) (n := n)
      (Nat.lt_of_lt_of_eq (freeLane_lt hfree) hlanes.symm)
    obtain ⟨hstate, hstart, htriple⟩ := (s.at t).notePreamble.giveLane_shows n d (some w)
    refine ⟨_, congrArg Host.Outcome.next hgiven, hstate, congrArg LaneX.window hlaneX, congrArg LaneX.synced hlaneX, hstart,
      htriple, ?_, State.giveLane_items ..⟩
    exact (State.giveLane_phy ..).trans (State.get_count_phy ..)
  case capture =>
    rintro s x t n q start rfl - hstate hended hcap hq hwidth
    exact ⟨_, rfl, State.relock_shows hstate hended hcap hq hwidth⟩
  case accepted =>
    rintro s x t n errors rfl hn hlanes hstate hended herrors htime
    exact ⟨_, rfl, State.synced_shows (Nat.lt_of_lt_of_eq hn hlanes.symm) hstate hended herrors htime⟩
  case lost =>
    rintro s x t n rfl hn hlanes hstate hended htime
    exact ⟨_, congrArg Host.Outcome.next (State.syncLost_ends hstate hended htime),
      State.countEnd_shows _ 1 (Nat.lt_of_lt_of_eq hn hlanes.symm)⟩
  case fault =>
    rintro s x t n k h rfl hn hlanes hstate hsynced hheader hfault hended
    exact ⟨_, congrArg Host.Outcome.next (State.headerDecoded_fault h hstate hended hsynced hheader hfault),
      State.countEnd_shows _ k (Nat.lt_of_lt_of_eq hn hlanes.symm)⟩
  case kept =>
    rintro s x t n h rfl hn hlanes hstate hsynced hheader hfault hended
    refine ⟨_, congrArg Host.Outcome.next (State.headerDecoded_kept h hstate hended hsynced hheader hfault), ?_, rfl, rfl⟩
    exact congrArg LaneX.header (State.laneX_setLaneX_same _ _ (Nat.lt_of_lt_of_eq hn hlanes.symm))

end Sys2Proof.Machine

/-! PROOFS. The multi-user receiver (chapter 6): interference cancellation, its job queue, the residue scan and the waiting
residue detections, and the read of the cancellation buffer. -/

namespace Sys2Proof.Machine

/-! ### What a dropped job and a started one leave (R210, R213) -/

/-- MUR_CNT counts up to all ones. -/
theorem State.get_count_mur (s : State) (k : Nat) :
    (s.count (F.MUR_CNT_COUNT k)).get (F.MUR_CNT_COUNT k) = Nat.min (s.get (F.MUR_CNT_COUNT k) + 1) 0xFFFFFFFF :=
  State.get_count_same s _ (by simp [F.MUR_CNT_COUNT])

/-- MUR_LOAD is not one of the counters. -/
theorem State.syncLoad_get_murCnt (s : State) (k : Nat) :
    s.syncLoad.get (F.MUR_CNT_COUNT k) = s.get (F.MUR_CNT_COUNT k) :=
  State.get_of_rd (s.rd_syncLoad (by simp only [F.MUR_CNT_COUNT, Reg.MUR_CNT, Reg.MUR_LOAD]; omega))

/-- A drop leaves the engine alone. -/
@[simp] theorem State.sicDrop_mur (s : State) (w : Option Nat) : (s.sicDrop w).mur = s.mur := by
  rw [State.sicDrop, State.irq_mur, State.count_mur, State.onWindow_mur]

/-- A drop counts in MUR_CNT[8]. -/
theorem State.sicDrop_counts (s : State) (w : Option Nat) :
    (s.sicDrop w).get (F.MUR_CNT_COUNT 8) = Nat.min (s.get (F.MUR_CNT_COUNT 8) + 1) 0xFFFFFFFF := by
  have hcnt (f : RxInfo → RxInfo) : (s.onWindow w f).get (F.MUR_CNT_COUNT 8) = s.get (F.MUR_CNT_COUNT 8) := by
    rw [State.get, State.rd, State.onWindow_regs, State.get, State.rd]
  rw [State.sicDrop, State.irq_get _ _ _ (by decide), State.get_count_mur, hcnt]

/-! ### The engine (R210, R211) -/

section
variable {s : State} {j : SicJob} (hidle : s.mur.running = none) (hfrozen : frozen s = false)
include hidle hfrozen

/-- An idle engine that is not frozen looks at the queue. -/
theorem State.sicStart_idle : s.sicStart = (s.startJob s.mur.jobs).syncLoad := by
  rw [State.sicStart, if_neg (by simp [hidle, hfrozen])]

/-- It takes the head of the queue, when that is not too old. -/
theorem State.sicStart_takes {rest : List SicJob} (hjobs : s.mur.jobs = j :: rest) (hage : tooOld s j.det = false) :
    s.sicStart = (({ s with mur := { s.mur with jobs := rest, running := some j, scanning := false } }).count
      (F.MUR_CNT_COUNT 5)).syncLoad := by
  rw [State.sicStart_idle hidle hfrozen, hjobs, State.startJob, if_neg (by simp [hage])]

/-- The only job is dropped when it is too old, and the engine stays idle. -/
theorem State.sicStart_drops (hjobs : s.mur.jobs = [j]) (hage : tooOld s j.det = true) :
    s.sicStart = { s.sicDrop j.window with mur := { s.mur with jobs := [] } }.syncLoad := by
  rw [State.sicStart_idle hidle hfrozen, hjobs, State.startJob, if_pos hage, State.startJob, State.sicDrop_mur]

end

/-- The state in which a running job's residue scan begins: its frame's samples are those left by the subtraction. -/
def State.scanBegun (s : State) (j : SicJob) (residue : List Word) : State :=
  let lo := s.localOf j.det.start
  { s with mur := { s.mur with
      scanning := true
      buffer := modAt (subtractIn lo (lo + j.span) residue) s.mur.buffer ((cancelSet s).idxOf j.det.bin) } }

/-- The subtraction of the running job ends in the scan, whose finds are counted and assigned in turn. -/
theorem State.sicSubtracted_scans {s : State} {j : SicJob} (residue : List Word) (found : List Detection)
    (hrun : s.mur.running = some j) (hscan : s.mur.scanning = false) :
    s.sicSubtracted residue found = (inTurn (found.filter (scanFinds s j))).foldl
      (fun x d => (x.count (F.MUR_CNT_COUNT 6)).assign d true (j.level + 1)) (s.scanBegun j residue) := by
  simp only [State.sicSubtracted, State.scanBegun, hrun]
  exact if_neg (by simp [hscan])

/-- A detection that no window owns is not assigned (R197). -/
theorem State.assign_unowned {s : State} {d : Detection} (residue : Bool) (level : Nat)
    (hown : ownerOf s d.bin d.start = none) : s.assign d residue level = s := by
  simp only [State.assign, hown]

/-- So the one detection found is counted, and that is all. -/
theorem State.sicSubtracted_unowned {s : State} {j : SicJob} {d : Detection} (residue : List Word)
    (hrun : s.mur.running = some j) (hscan : s.mur.scanning = false) (hfinds : scanFinds s j d = true)
    (hown : ownerOf s d.bin d.start = none) :
    s.sicSubtracted residue [d] = (s.scanBegun j residue).count (F.MUR_CNT_COUNT 6) := by
  have hone : inTurn ([d].filter (scanFinds s j)) = [d] := by simp [hfinds, inTurn, insertBy]
  rw [State.sicSubtracted_scans residue [d] hrun hscan, hone]
  exact State.assign_unowned true _ hown

/-- The one residue detection that waits goes when it is too old (R213). -/
theorem State.residueAge_drops {s : State} {y : Residue} (hone : s.mur.residues = [y]) (hage : tooOld s y.det = true) :
    s.residueAge = ({ s with mur := { s.mur with residues := [] } }).sicDrop y.window := by
  simp [State.residueAge, hone, hage]

/-! ### The read of the cancellation buffer (R537) -/

/-- The register shows nothing outside a debug session, and in one the sample of the entry named; SAMPLE advances. -/
theorem State.cbDataRead_shows (s : State) :
    s.cbDataRead.get F.MUR_CB_IDX_SAMPLE = (s.get F.MUR_CB_IDX_SAMPLE + 1) % 2 ^ F.MUR_CB_IDX_SAMPLE.width ∧
    s.cbDataRead.rd Reg.MUR_CB_DATA = if sessionOpen s then
      (s.mur.buffer[s.get F.MUR_CB_IDX_ENTRY]?).elim 0 (cbSample · (s.get F.MUR_CB_IDX_SAMPLE)) else 0 := by
  refine ⟨State.get_put_same _ _ _ (by decide), ?_⟩
  rw [State.cbDataRead, State.rd_put_other _ _ _ (by decide), State.rd_wr_same]
  cases s.mur.buffer[s.get F.MUR_CB_IDX_ENTRY]? <;> rfl

/-- Settles O24: a drop leaves the engine and counts (State.sicDrop_mur, State.sicDrop_counts), the engine takes or drops the
head of its queue (State.sicStart_takes, State.sicStart_drops), and an unowned detection is only counted
(State.sicSubtracted_unowned). -/
theorem cancellation : Obligations.Cancellation := by
  unfold Obligations.Cancellation
  refine ⟨?takes, ?tooOld, ?nothing, ?unowned, ?scanned, ?aged, ?hidden, ?shown⟩
  case takes =>
    rintro s x t j rest rfl hidle hfrozen hjobs hage
    refine ⟨_, congrArg Host.Outcome.next (State.sicStart_takes hidle hfrozen hjobs hage), ?_, ?_, ?_, ?_, ?_⟩
    · rw [State.syncLoad_mur, State.count_mur]
    · rw [State.syncLoad_mur, State.count_mur]
    · rw [State.syncLoad_mur, State.count_mur]
    · exact (State.syncLoad_get_murCnt ..).trans (State.get_count_mur ..)
    · rw [State.syncLoad_items, State.count_items]
  case tooOld =>
    rintro s x t j rfl hidle hfrozen hjobs hage
    refine ⟨_, congrArg Host.Outcome.next (State.sicStart_drops hidle hfrozen hjobs hage), ?_, ?_, ?_⟩
    · rwa [State.syncLoad_mur]
    · rw [State.syncLoad_mur]
    · exact (State.syncLoad_get_murCnt ..).trans (State.sicDrop_counts ..)
  case nothing =>
    rintro s x t residue j rfl hrun hscan
    exact ⟨_, congrArg Host.Outcome.next (State.sicSubtracted_scans residue [] hrun hscan), rfl, hrun, rfl⟩
  case unowned =>
    rintro s x t residue j d rfl hrun hscan hfinds hown
    exact ⟨_, congrArg Host.Outcome.next (State.sicSubtracted_unowned residue hrun hscan hfinds hown), rfl, rfl,
      State.get_count_mur ..⟩
  case scanned =>
    rintro s x t rfl hscan
    exact ⟨_, congrArg Host.Outcome.next (if_pos hscan), rfl, rfl, rfl, rfl⟩
  case aged =>
    rintro s x t y rfl hone hage
    refine ⟨_, congrArg Host.Outcome.next (State.residueAge_drops hone hage), ?_, State.sicDrop_counts ..⟩
    rw [State.sicDrop_mur]
  case hidden =>
    rintro s x t rfl hclosed
    obtain ⟨hsample, hdata⟩ := (s.at t).cbDataRead_shows
    refine ⟨_, rfl, ?_, hsample, rfl⟩
    rw [hdata, sessionOpen, hclosed, if_neg Bool.false_ne_true]
  case shown =>
    rintro s x t e rfl hopen hentry
    obtain ⟨hsample, hdata⟩ := (s.at t).cbDataRead_shows
    refine ⟨_, rfl, ?_, hsample⟩
    rw [hdata, sessionOpen, if_pos hopen, hentry, Option.elim_some]

end Sys2Proof.Machine

/-! PROOFS. The RF front end (chapter 7): gain steps, captures, the mask check, synthesiser lock and the antenna monitor. -/

namespace Sys2Proof.Machine

/-! ### What the end of an item leaves of the front end (R26, R207, R222) -/

/-- The word of one register beside Chanter's own state: what a lock loss shows once the slot's items have ended. -/
def State.frontKept (a : Nat) (s : State) : Chn × Word := (s.chn, s.rd a)

/-- A conditional update keeps what both of its branches keep. -/
theorem State.frontKept_ite {a : Nat} {p : Prop} [Decidable p] {s y z : State} (hy : y.frontKept a = s.frontKept a)
    (hz : z.frontKept a = s.frontKept a) : (if p then y else z).frontKept a = s.frontKept a := by
  split
  · exact hy
  · exact hz

theorem State.onWindow_frontKept (a : Nat) (s : State) (w : Option Nat) (f : RxInfo → RxInfo) :
    (s.onWindow w f).frontKept a = s.frontKept a := by
  unfold State.onWindow
  split <;> rfl

theorem State.putSeat_frontKept (a : Nat) (s : State) (b : Int) (seat : Option Nat) :
    (s.putSeat b seat).frontKept a = s.frontKept a := by
  unfold State.putSeat
  split
  · rfl
  · split <;> rfl

theorem State.seatAlways_frontKept (a : Nat) (s : State) (b : Int) : (s.seatAlways b).frontKept a = s.frontKept a := by
  unfold State.seatAlways
  split
  · rfl
  split
  · exact State.putSeat_frontKept ..
  dsimp only
  split
  · rfl
  · exact (State.putSeat_frontKept ..).trans (State.putSeat_frontKept ..)

theorem State.seatFlagged_frontKept (a : Nat) (s : State) (b : Int) : (s.seatFlagged b).frontKept a = s.frontKept a := by
  unfold State.seatFlagged
  split
  · rfl
  split
  · exact State.putSeat_frontKept ..
  · rfl

/-- Windows that are put off move in the promise table only (R98). -/
theorem State.delayWindows_frontKept (a : Nat) (s : State) (lo hi : Nat) (p : Item → Bool) :
    (s.delayWindows lo hi p).frontKept a = s.frontKept a := by
  unfold State.delayWindows
  exact foldl_keeps (p := State.frontKept a) (fun x i => show (x.delayOpening _ i).frontKept a = x.frontKept a from rfl) _ _

section
/-! The registers of RFE and PHY lie between those that the end of an item writes: HRE's below, MUR's and the later
blocks' above. -/
variable {a : Nat} (ha : 0x40050000 ≤ a ∧ a < 0x40070000)
include ha

theorem State.wr_frontKept (s : State) {b : Nat} (v : Word) (hb : b < 0x40050000 ∨ 0x40070000 ≤ b) :
    (s.wr b v).frontKept a = s.frontKept a := by
  rw [State.frontKept, State.rd_wr_other s v (by omega), State.wr_chn, State.frontKept]

theorem State.put_frontKept (s : State) (f : Fld) (v : Nat) (hf : f.addr < 0x40050000 ∨ 0x40070000 ≤ f.addr) :
    (s.put f v).frontKept a = s.frontKept a := State.wr_frontKept ha s _ hf

theorem irqTouches_front {b : Nat} (hb : b = Blk.MUR ∨ b = Blk.ESM) : irqTouches b a = false := by
  rcases hb with rfl | rfl <;>
    simp [irqTouches, isrOf, Blk.MUR, Blk.ESM, Reg.SUP_STATUS, Reg.CPX_PLIC_PEND, Reg.MUR_ISR, Reg.ESM_ISR] <;> omega

theorem State.irq_frontKept (s : State) {b : Nat} (mask : Nat) (hb : b = Blk.MUR ∨ b = Blk.ESM) :
    (s.irq b mask).frontKept a = s.frontKept a := by
  rw [State.frontKept, State.irq_rd s b mask (irqTouches_front ha hb), State.irq_chn, State.frontKept]

theorem State.syncLoad_frontKept (s : State) : s.syncLoad.frontKept a = s.frontKept a := by
  unfold State.syncLoad
  iterate 3 rw [State.put_frontKept ha _ _ _ (by decide)]

theorem State.releaseLane_frontKept (s : State) (n : Nat) : (s.releaseLane n).frontKept a = s.frontKept a := by
  unfold State.releaseLane State.clearLane State.wr64 State.chargeLane
  rw [State.syncLoad_frontKept ha]
  iterate 5 rw [State.wr_frontKept ha _ _ (by
    simp only [Reg.MUR_LANE_STATE, Reg.MUR_LANE_TRIPLE, Reg.MUR_LANE_METRIC, Reg.MUR_LANE_START]; omega)]
  exact State.onWindow_frontKept ..

theorem State.dropLanes_frontKept (s : State) (idx : Nat) : (s.dropLanes idx).frontKept a = s.frontKept a := by
  unfold State.dropLanes
  rw [State.syncLoad_frontKept ha]
  exact foldl_keeps (p := State.frontKept a) (State.releaseLane_frontKept ha) _ _

theorem State.overload_frontKept (s : State) (b : Int) : (s.overload b).frontKept a = s.frontKept a := by
  unfold State.overload
  rw [State.irq_frontKept ha _ _ (.inl rfl), State.count, State.put_frontKept ha _ _ _ (by decide)]
  rfl

theorem State.serveQueue_frontKept (l : List Int) (s : State) : (s.serveQueue l).frontKept a = s.frontKept a := by
  induction l generalizing s with
  | nil => rfl
  | cons b l ih =>
    unfold State.serveQueue
    split
    · rfl
    dsimp only
    rw [ih]
    exact State.frontKept_ite ((State.overload_frontKept ha _ _).trans (State.putSeat_frontKept ..))
      (State.putSeat_frontKept ..)

theorem State.coverage_frontKept (s : State) : s.coverage.frontKept a = s.frontKept a := by
  have hdrop : s.dropSeats.dropQueue.frontKept a = s.frontKept a :=
    foldl_keeps (p := State.frontKept a) (State.overload_frontKept ha) _ _
  have hseats : s.seats.frontKept a = s.frontKept a := by
    unfold State.seats
    rw [State.put_frontKept ha _ _ _ (by decide), State.put_frontKept ha _ _ _ (by decide),
      foldl_keeps (p := State.frontKept a) (State.seatFlagged_frontKept a),
      foldl_keeps (p := State.frontKept a) (State.seatAlways_frontKept a), State.serveQueue_frontKept ha, hdrop]
  refine (foldl_keeps (p := State.frontKept a) (fun x w => State.frontKept_ite ?_ rfl) _ _).trans hseats
  exact State.put_frontKept ha _ _ _ (by simp only [F.MUR_LANE_STATE_STATE, Reg.MUR_LANE_STATE]; omega)

theorem State.syncItems_frontKept (s : State) : s.syncItems.frontKept a = s.frontKept a := by
  unfold State.syncItems State.syncHold
  rw [State.put_frontKept ha _ _ _ (by decide), State.put_frontKept ha _ _ _ (by decide)]
  simp only [List.foldl_cons, List.foldl_nil]
  iterate 8 rw [State.put_frontKept ha _ _ _ (by decide)]

theorem State.ownerEnd_frontKept (s : State) (o : Owner) (status reason : Nat) :
    (s.ownerEnd o status reason).frontKept a = s.frontKept a := by
  unfold State.ownerEnd
  split
  case h_1 =>
    split
    · rfl
    refine State.frontKept_ite rfl ((State.irq_frontKept ha _ _ (.inr rfl)).trans ?_)
    rw [State.put_frontKept ha _ _ _ (by decide), State.put_frontKept ha _ _ _ (by decide)]
    rfl
  case h_2 => rfl
  case h_3 => exact State.frontKept_ite rfl rfl
  case h_4 => rfl

theorem State.decideFinal_frontKept (s : State) (idx status reason since : Nat) :
    (s.decideFinal idx status reason since).frontKept a = s.frontKept a := by
  unfold State.decideFinal
  split
  · rfl
  refine State.frontKept_ite rfl ?_
  dsimp only
  split
  · exact State.syncItems_frontKept ha _
  · exact (State.syncItems_frontKept ha _).trans
      (State.frontKept_ite (State.ownerEnd_frontKept ha ..) (State.ownerEnd_frontKept ha ..))

/-- The final of an item, whatever it is. -/
theorem State.finish_frontKept (s : State) (idx status reason : Nat) :
    (s.finish idx status reason).frontKept a = s.frontKept a := by
  unfold State.finish State.finishAt
  split
  · refine State.frontKept_ite ((State.coverage_frontKept ha _).trans ?_) (State.decideFinal_frontKept ha ..)
    exact (State.decideFinal_frontKept ha ..).trans (State.dropLanes_frontKept ha ..)
  · rfl

/-- The move of an item to its repair (R99, R100). -/
theorem State.moveToRepair_frontKept (s : State) (i : Item) (status reason : Nat) :
    (s.moveToRepair i status reason).frontKept a = s.frontKept a :=
  State.frontKept_ite (State.finish_frontKept ha ..)
    (State.frontKept_ite (State.finish_frontKept ha ..) (State.syncItems_frontKept ha _))

theorem State.moveSlotItems_frontKept (s : State) (lo hi : Nat) (p : Item → Bool) (status reason : Nat) :
    (s.moveSlotItems lo hi p status reason).frontKept a = s.frontKept a := by
  unfold State.moveSlotItems
  exact foldl_keeps (p := State.frontKept a) (fun x i => State.moveToRepair_frontKept ha x i _ _) _ _

end

theorem State.rampDown_regs (s : State) (status reason : Nat) : (s.rampDown status reason).regs = s.regs := by
  unfold State.rampDown
  split <;> rfl

/-- A lock loss mutes the present slot and writes no register of RFE or PHY (R107, R222). -/
theorem State.lockLoss_shows (s : State) {a : Nat} (ha : 0x40050000 ≤ a ∧ a < 0x40070000) :
    s.lockLoss.chn.pllLo = asn s.net ∧ s.lockLoss.chn.pllHi = asn s.net + 1 ∧ s.lockLoss.rd a = s.rd a := by
  have hkept : s.lockLoss.frontKept a = ({ s.rampDown 4 0x0202 with
      chn := { s.chn with pllLo := asn s.net, pllHi := asn s.net + 1 } } : State).frontKept a :=
    (State.delayWindows_frontKept ..).trans (State.moveSlotItems_frontKept ha ..)
  obtain ⟨hchn, hrd⟩ := Prod.mk.inj hkept
  refine ⟨by rw [hchn], by rw [hchn], hrd.trans ?_⟩
  rw [State.rd, State.rampDown_regs, State.rd]

/-! ### Counters and interrupt bits of the front end -/

/-- RFE_CNT counts up to all ones. -/
theorem State.get_count_rfe (s : State) (k n : Nat) :
    (s.count (F.RFE_CNT_COUNT k) n).get (F.RFE_CNT_COUNT k) = Nat.min (s.get (F.RFE_CNT_COUNT k) + n) 0xFFFFFFFF := by
  rw [State.count, State.get_put_same _ _ _ (by simp [F.RFE_CNT_COUNT])]
  exact Nat.mod_eq_of_lt (Nat.lt_of_le_of_lt (Nat.min_le_right ..) (by simp [F.RFE_CNT_COUNT]))

/-- A bit that is set in a word reads as 1. -/
theorem bits_or_bit (w : Word) {k : Nat} (hk : k < 32) : bits (w ||| BitVec.ofNat 32 (2 ^ k)).toNat k k = 1 := by
  have hset : (w ||| BitVec.ofNat 32 (2 ^ k)).getLsbD k = true := by
    simp only [BitVec.getLsbD_or, BitVec.getLsbD_ofNat, Nat.testBit_two_pow_self, hk, decide_true, Bool.and_true,
      Bool.or_true]
  rw [BitVec.getLsbD, Nat.testBit_eq_decide_div_mod_eq] at hset
  simpa [bits] using hset

/-- An interrupt bit of the front end that is raised reads as 1. -/
theorem State.irq_rfe_isr (s : State) {k : Nat} (hk : k < 32) :
    bits ((s.irq Blk.RFE (2 ^ k)).rd Reg.RFE_ISR).toNat k k = 1 := by
  rw [State.irq_isr _ _ rfl (by decide) (by decide)]
  exact bits_or_bit _ hk

/-! ### Gain steps (R223) -/

/-- AON local instants of a chain's last gain step, and of its last step down. -/
def State.gainAt (s : State) (c : Nat) : Nat := if c = 0 then s.rfe.gainAt0 else s.rfe.gainAt1
def State.downAt (s : State) (c : Nat) : Nat := if c = 0 then s.rfe.downAt0 else s.rfe.downAt1

/-- The registers after chain `c` has gone to gain state `g`, counted in RFE_CNT[k]. -/
def State.gainSet (s : State) (c g k : Nat) : State := (s.put (gainField c) g).count (F.RFE_CNT_COUNT k)

/-- The instants that a gain step of chain `c` at `now` notes. -/
def Rfe.gainNoted (f : Rfe) (c now : Nat) (down : Bool) : Rfe :=
  if c = 0 then { f with gainAt0 := now, downAt0 := if down then now else f.downAt0 }
  else { f with gainAt1 := now, downAt1 := if down then now else f.downAt1 }

/-- What holds a chain in its state: less than 10 µs since its last step, and upward the samples of the last step down. -/
def gainHeld (s : State) (c : Nat) (down : Bool) : Bool :=
  (decide (0 < s.gainAt c) && decide (s.now < s.gainAt c + usU 10)) ||
  (!down && decide (0 < s.downAt c) && decide (s.now < s.downAt c + msU (s.get (F.RFE_RX_HOLD_MS c))))

theorem gainHeld_eq_false {s : State} {c : Nat} {down : Bool} (hlast : s.gainAt c = 0 ∨ s.gainAt c + usU 10 ≤ s.now)
    (hloud : down = true ∨ s.downAt c = 0 ∨ s.downAt c + msU (s.get (F.RFE_RX_HOLD_MS c)) ≤ s.now) :
    gainHeld s c down = false := by
  simp only [gainHeld, Bool.or_eq_false_iff, Bool.and_eq_false_iff, decide_eq_false_iff_not, Bool.not_eq_false']
  rcases hloud with hdown | hloud
  · exact ⟨by omega, .inl (.inl hdown)⟩
  · omega

/-- A chain under AGC that nothing holds goes one state on. -/
theorem State.gainStep_moves {s : State} {c : Nat} {down : Bool} (hc : c < 2) (hen : s.en Blk.RFE = true)
    (hmode : s.get (F.RFE_RX_MODE c) = 0) (hchain : bits (s.get F.RFE_CFG_CHAIN_EN) c c = 1)
    (hheld : gainHeld s c down = false) (hroom : if down then s.get (gainField c) < 2 else 0 < s.get (gainField c)) :
    s.gainStep c down = { s.gainSet c (if down then s.get (gainField c) + 1 else s.get (gainField c) - 1)
      (if down then 0 else 1) with rfe := s.rfe.gainNoted c s.now down } := by
  obtain ⟨hrested, hquiet⟩ := Bool.or_eq_false_iff.mp hheld
  unfold State.gainAt at hrested
  unfold State.downAt at hquiet
  unfold State.gainStep
  refine if_neg ?_
  simp only [hen, hmode, hchain, hrested, hquiet, Nat.not_lt.mpr (Nat.le_of_lt_succ hc)]
  cases down
  case false => simp [Nat.ne_of_gt hroom]
  case true => simpa using hroom

theorem gainField_bits (c : Nat) : (gainField c).lo + (gainField c).width ≤ 32 ∧ 2 ^ (gainField c).width = 4 := by
  unfold gainField
  split <;> decide

/-- The chain stands in its new state, the other chain in its old one, and the step is counted. -/
theorem State.gainSet_shows (s : State) {c g : Nat} (k : Nat) (hc : c < 2) (hg : g < 4) :
    (s.gainSet c g k).get (gainField c) = g ∧ (s.gainSet c g k).get (gainField (1 - c)) = s.get (gainField (1 - c)) ∧
    (s.gainSet c g k).get (F.RFE_CNT_COUNT k) = Nat.min (s.get (F.RFE_CNT_COUNT k) + 1) 0xFFFFFFFF := by
  have hreg (d : Nat) : (gainField d).addr ≠ (F.RFE_CNT_COUNT k).addr := by
    unfold gainField
    split <;> simp only [F.RFE_STATUS_GAIN0, F.RFE_STATUS_GAIN1, F.RFE_CNT_COUNT, Reg.RFE_STATUS, Reg.RFE_CNT] <;> omega
  refine ⟨?_, ?_, ?_⟩
  · rw [State.gainSet, State.count, State.get_put_reg _ _ _ _ (hreg c)]
    exact (State.get_put_same _ _ _ (gainField_bits c).1).trans ((gainField_bits c).2 ▸ Nat.mod_eq_of_lt hg)
  · rw [State.gainSet, State.count, State.get_put_reg _ _ _ _ (hreg _)]
    refine State.get_put_field _ _ _ _ (gainField_bits c).1 ?_
    match c, hc with
    | 0, _ => decide
    | 1, _ => decide
  · rw [State.gainSet, State.get_count_rfe, State.get_put_reg _ _ _ _ (hreg c).symm]

/-! ### Captures and the mask check (R225, R226, R231 to R233) -/

/-- 4,096 samples complete a capture (R226). -/
theorem State.captureDone_complete {s : State} {v : List Word} (hcap : s.rfe.capturing = true) (hlen : v.length = 4096) :
    let s1 := (((s.count (F.RFE_CNT_COUNT 2) (v.filter clipped).length).put F.RFE_CAP_CTL_START 0).put
      F.RFE_CAP_CTL_DONE 1).irq Blk.RFE (2 ^ 3)
    s.captureDone v = { s1 with rfe := { s1.rfe with
      capturing := false, capNext := 0, capture := capturedWords s (s.get F.RFE_CAP_CTL_CHAIN) s.now v } } :=
  if_pos (by rw [hcap, hlen]; rfl)

/-- While samples are left a read presents the next one (R226). -/
theorem State.capDataRead_next {s : State} {v : Word} (hnext : s.rfe.capture[s.rfe.capNext]? = some v) :
    s.capDataRead = { s.wr Reg.RFE_CAP_DATA v with rfe := { s.rfe with capNext := s.rfe.capNext + 1 } } := by
  rw [State.capDataRead, hnext]

/-- The first mask point that the filter fails, if one does. -/
def maskVerdict (s : State) : Option Nat :=
  let hs := responses (firTaps s) ⟨fixOne, 0⟩ 256
  firstFail s (hs.headD 0) hs 0 0 8

/-- The check of a filter with a response at 0 Hz ends by its mask points (R232). -/
theorem State.firCheckDone_judged {s : State} (hcheck : s.on F.RFE_FIR_CTL_CHECK = true)
    (hresponse : (responses (firTaps s) ⟨fixOne, 0⟩ 256).headD 0 ≠ 0) :
    s.firCheckDone = (maskVerdict s).elim (((s.put F.RFE_FIR_CTL_CHECK 0).put F.RFE_FIR_CTL_PASS 1).put F.RFE_FIR_CTL_LOCK 1)
      (((s.put F.RFE_FIR_CTL_CHECK 0).put F.RFE_FIR_CTL_PASS 0).put F.RFE_FIR_CTL_FAIL_PT ·) := by
  rw [State.firCheckDone, if_neg (by simp [hcheck])]
  simp only [if_neg hresponse]
  change (match maskVerdict s with | none => _ | some m => _) = _
  cases maskVerdict s <;> rfl

/-- LOCK is let go while no TX_LEGACY is outstanding (R233). -/
theorem State.firUnlock_clears {s : State} (hdecided : ∀ i ∈ s.items, i.opcode = 0x14 → i.decided = true) :
    s.firUnlock = (s.put F.RFE_FIR_CTL_LOCK 0).put F.RFE_FIR_CTL_PASS 0 := by
  rw [State.firUnlock, if_neg]
  simpa using hdecided

/-! ### Band selection (R241) -/

/-- The receive synthesiser waits while a window is open. -/
theorem State.bandReselect_waits {s : State} (hopen : windowOpen s = true) :
    s.bandReselect false = { s with rfe := { s.rfe with
      bandRx := true, bandSince := if s.rfe.bandRx then s.rfe.bandSince else s.now } } := by
  rw [State.bandReselect, if_neg Bool.false_ne_true, if_pos (by rw [hopen, Bool.true_or])]

/-- An hour of waiting shows. -/
theorem State.recalDue_sets {s : State} (hwaits : s.rfe.bandRx = true) (hhour : s.rfe.bandSince + 3600 * secondU ≤ s.now) :
    s.recalDue = s.put F.RFE_STATUS_RECAL_DUE 1 :=
  if_pos (by rw [hwaits, Bool.true_and, decide_eq_true hhour])

/-! ### Lock, and the antenna monitor (R222, R237, R238) -/

/-- What the loss of the receive synthesiser's lock leaves. -/
theorem State.synthUnlock_rx {s : State} (hlock : s.on F.RFE_STATUS_RX_LOCK = true) :
    (s.synthUnlock false).on F.RFE_STATUS_RX_LOCK = false ∧ (s.synthUnlock false).chn.pllLo = asn s.net ∧
    (s.synthUnlock false).chn.pllHi = asn s.net + 1 ∧ bits ((s.synthUnlock false).rd Reg.RFE_ISR).toNat 2 2 = 1 := by
  let cleared := ({ s with rfe := { s.rfe with rxLostAt := some s.now } } : State).put F.RFE_STATUS_RX_LOCK 0
  let raised := (cleared.count (F.RFE_CNT_COUNT 4)).irq Blk.RFE (2 ^ 2)
  have hloss : s.synthUnlock false = raised.lockLoss.record 0x0500 0x0502 (w6 := 5) := if_neg (by simp [lockField, hlock])
  obtain ⟨hlo, hhi, hstatus⟩ := raised.lockLoss_shows (a := Reg.RFE_STATUS) (by decide)
  obtain ⟨-, -, hisr⟩ := raised.lockLoss_shows (a := Reg.RFE_ISR) (by decide)
  have hnet : raised.net = s.net := State.irq_net ..
  rw [hloss, State.record_chn, State.record_on, State.record_rd, hlo, hhi, hnet, hisr]
  refine ⟨?_, rfl, rfl, State.irq_rfe_isr _ (by decide)⟩
  rw [State.on_of_rd hstatus, State.irq_on _ _ _ (by decide), State.count, State.on_put_reg _ _ _ _ (by decide)]
  exact State.on_put_zero _ _ (by decide)

theorem faultClass_lt (phase : Nat) (external : Bool) : faultClass phase external < 4 := by
  simp only [faultClass]
  split
  · decide
  split
  · decide
  split <;> decide

/-- A fault latches with its class, and completes nothing. -/
theorem State.latchFault_shows (s : State) (i : Item) {c : Nat} (gamma ph fwd : Nat) (hc : c < 4) :
    (s.latchFault i c gamma ph fwd).on F.RFE_ANT_LATCHED = true ∧
    (s.latchFault i c gamma ph fwd).get F.RFE_ANT_LAST = c ∧
    (s.latchFault i c gamma ph fwd).hre.outq = s.hre.outq ∧ (s.latchFault i c gamma ph fwd).rfe.onAir = s.rfe.onAir := by
  let latched := (s.put F.RFE_ANT_LATCHED 1).put F.RFE_ANT_LAST c
  have hant : (s.latchFault i c gamma ph fwd).rd Reg.RFE_ANT = latched.rd Reg.RFE_ANT := by
    rw [State.latchFault, State.record_rd, State.fire_rd, State.irq_rd _ _ _ (by decide), State.count,
      State.rd_put_other _ _ _ (by decide), State.rd_update, State.rd_wr_other _ _ (by decide)]
  refine ⟨?_, ?_, ?_, ?_⟩
  · rw [State.on_of_rd hant, State.on_put_field _ _ _ _ (by decide) (by decide)]
    exact State.on_put_one _ _ (by decide) (by decide)
  · rw [State.get_of_rd hant, State.get_put_same _ _ _ (by decide)]
    exact Nat.mod_eq_of_lt hc
  · simp only [State.latchFault, State.record, State.fire_hre, State.irq_hre, State.count_hre, State.wr_hre, State.put_hre]
  · simp only [State.latchFault, State.record_rfe, State.fire_rfe, State.irq_rfe, State.count_rfe, State.wr_rfe,
      State.put_rfe]

/-- The transmission on air limited to a level, with the class of the fault it has seen. -/
def State.limitOnAir (s : State) (e : Emission) (c level : Nat) : State :=
  { s.setItem e.item (fun j => j.mapTx (fun y => { y with sent := level, doneReason := faultReason c })) with
    rfe := { s.rfe with onAir := some { e with level := level } } }

/-- A reflection on air with FOLD set latches and limits the level (R238). -/
theorem State.antennaFault_folds {s : State} {gamma fwd : Nat} (phase : Nat) {e : Emission} {i : Item}
    (hair : s.rfe.onAir = some e) (hitem : s.item e.item = some i) (hgamma : gammaFault gamma = true) (hfwd : 40 < fwd)
    (hfold : s.on F.RFE_ANT_FOLD = true) :
    let ph := (phase + s.get F.RFE_ANT_PHASE_OFS) % 256
    s.antennaFault gamma phase fwd false =
      (s.limitOnAir e (faultClass ph false) (Nat.min e.level 40)).latchFault i (faultClass ph false) gamma ph fwd := by
  rw [State.antennaFault, if_neg (by simp [hgamma, Nat.not_le.mpr hfwd]), if_neg (by simp), hair]
  simp only [hitem, if_pos hfold]
  rfl

/-- RETRY lets a latched fault go (R239). -/
theorem State.antennaRetry_latched {s : State} (hlatched : s.on F.RFE_ANT_LATCHED = true) :
    s.antennaRetry = (((s.put F.RFE_ANT_RETRY 1).put F.RFE_ANT_LATCHED 0).irq Blk.RFE (2 ^ 1)).record 0x0500 0 (w6 := 4) :=
  if_pos hlatched

/-- Settles O25: each command is one branch of its function (State.gainStep_moves, State.captureDone_complete,
State.firCheckDone_judged, State.antennaFault_folds), and a lock loss ends items without touching RFE
(State.lockLoss_shows). -/
theorem frontEnd : Obligations.FrontEnd := by
  unfold Obligations.FrontEnd
  refine ⟨?down, ?up, ?start, ?captured, ?read, ?check, ?pass, ?fail, ?unlocked, ?held, ?lost, ?relock, ?waits, ?due,
    ?fault, ?retry⟩
  case down =>
    rintro s x t rfl hen hmode hchain hlast hroom
    have hheld : gainHeld (s.at t) 0 true = false := gainHeld_eq_false hlast (.inl rfl)
    obtain ⟨hgain, hother, hcount⟩ := (s.at t).gainSet_shows (c := 0) (g := (s.at t).get F.RFE_STATUS_GAIN0 + 1) 0
      (by decide) (by omega)
    exact ⟨_, congrArg Host.Outcome.next (State.gainStep_moves (by decide) hen hmode hchain hheld hroom), hgain, hother,
      rfl, hcount, rfl⟩
  case up =>
    rintro s x t rfl hen hmode hchain hlast hloud hroom
    have hheld : gainHeld (s.at t) 1 false = false := gainHeld_eq_false hlast (.inr hloud)
    have hwidth : (s.at t).get F.RFE_STATUS_GAIN1 < 4 := Nat.mod_lt _ (by decide)
    obtain ⟨hgain, hother, hcount⟩ := (s.at t).gainSet_shows (c := 1) (g := (s.at t).get F.RFE_STATUS_GAIN1 - 1) 1
      (by decide) (by omega)
    exact ⟨_, congrArg Host.Outcome.next (State.gainStep_moves (by decide) hen hmode hchain hheld hroom), hgain, hother,
      rfl, rfl, hcount, rfl⟩
  case start =>
    rintro s x t rfl hen
    refine ⟨_, congrArg Host.Outcome.next (if_pos hen), rfl, ?_, ?_, rfl⟩
    · rw [State.on_update, State.on_put_field _ _ _ _ (by decide) (by decide)]
      exact State.on_put_one _ _ (by decide) (by decide)
    · exact State.on_put_zero _ _ (by decide)
  case captured =>
    rintro s x t v rfl hcap hlen
    refine ⟨_, congrArg Host.Outcome.next (State.captureDone_complete hcap hlen), rfl, rfl, ?_, ?_, ?_, ?_⟩
    · rw [State.on_update, State.irq_on _ _ _ (by decide)]
      exact State.on_put_one _ _ (by decide) (by decide)
    · rw [State.on_update, State.irq_on _ _ _ (by decide), State.on_put_field _ _ _ _ (by decide) (by decide)]
      exact State.on_put_zero _ _ (by decide)
    · rw [State.get_update, State.irq_get _ _ _ (by decide), State.get_put_reg _ _ _ _ (by decide),
        State.get_put_reg _ _ _ _ (by decide)]
      exact State.get_count_rfe ..
    · exact State.irq_items ..
  case read =>
    rintro s x t v rfl hnext
    refine ⟨_, congrArg Host.Outcome.next (State.capDataRead_next hnext), State.rd_wr_same .., rfl, rfl⟩
  case check =>
    rintro s x t rfl
    exact ⟨_, rfl, State.on_put_one _ _ (by decide) (by decide), fun a ha => State.rd_put_other _ _ _ ha, rfl⟩
  case pass =>
    rintro s x t rfl hcheck hresponse hmask
    have hdone := State.firCheckDone_judged hcheck hresponse
    rw [show maskVerdict (s.at t) = none from hmask, Option.elim_none] at hdone
    refine ⟨_, congrArg Host.Outcome.next hdone, ?_, ?_, ?_, rfl⟩
    · simp [F.RFE_FIR_CTL_CHECK, F.RFE_FIR_CTL_PASS, F.RFE_FIR_CTL_LOCK]
    · simp [F.RFE_FIR_CTL_PASS, F.RFE_FIR_CTL_LOCK]
    · simp [F.RFE_FIR_CTL_LOCK]
  case fail =>
    rintro s x t m rfl hcheck hresponse hmask
    have hdone := State.firCheckDone_judged hcheck hresponse
    rw [show maskVerdict (s.at t) = some m from hmask, Option.elim_some] at hdone
    refine ⟨_, congrArg Host.Outcome.next hdone, ?_, ?_, ?_, rfl⟩
    · simp [F.RFE_FIR_CTL_CHECK, F.RFE_FIR_CTL_PASS, F.RFE_FIR_CTL_FAIL_PT]
    · simp [F.RFE_FIR_CTL_PASS, F.RFE_FIR_CTL_FAIL_PT]
    · exact State.get_put_same _ _ _ (by decide)
  case unlocked =>
    rintro s x t rfl hdecided
    refine ⟨_, congrArg Host.Outcome.next (State.firUnlock_clears hdecided), ?_, ?_, rfl⟩
    · simp [F.RFE_FIR_CTL_PASS, F.RFE_FIR_CTL_LOCK]
    · simp [F.RFE_FIR_CTL_PASS]
  case held =>
    rintro s x t rfl hheld
    exact congrArg Host.Outcome.next (if_pos hheld)
  case lost =>
    rintro s x t rfl hlock
    exact ⟨_, rfl, State.synthUnlock_rx hlock⟩
  case relock =>
    rintro s x t rfl hen hlock
    exact ⟨_, congrArg Host.Outcome.next (if_neg (by simp [lockField, hen, hlock])),
      State.on_put_one _ _ (by decide) (by decide), rfl, rfl⟩
  case waits =>
    rintro s x t rfl hopen
    exact ⟨_, congrArg Host.Outcome.next (State.bandReselect_waits hopen), rfl, rfl, rfl⟩
  case due =>
    rintro s x t rfl hwaits hhour
    exact ⟨_, congrArg Host.Outcome.next (State.recalDue_sets hwaits hhour),
      State.on_put_one _ _ (by decide) (by decide), rfl⟩
  case fault =>
    rintro s x t gamma phase fwd e i rfl hair hitem hgamma hfwd hfold
    obtain ⟨hlatched, hlast, houtq, hair'⟩ := State.latchFault_shows _ i gamma _ fwd (faultClass_lt _ false)
    exact ⟨_, congrArg Host.Outcome.next (State.antennaFault_folds phase hair hitem hgamma hfwd hfold), hlatched, hlast,
      houtq, _, hair', Nat.min_le_right .., Nat.min_le_left ..⟩
  case retry =>
    rintro s x t rfl hlatched
    refine ⟨_, congrArg Host.Outcome.next (State.antennaRetry_latched hlatched), ?_, State.irq_rfe_isr _ (by decide),
      State.irq_items ..⟩
    rw [State.record_on, State.irq_on _ _ _ (by decide)]
    exact State.on_put_zero _ _ (by decide)

end Sys2Proof.Machine

/-! PROOFS. Endpoint state (chapter 8): the entries and the directory in flash, access pairs, whose statement the DIRTY bit of
R248 refutes, directory services, checkpoints, and joins. -/

namespace Sys2Proof.Machine

/-! ### Access pairs (R248, R510) -/

/-- An access of core 0 that opens a pair on entry 0, with another HWM in its lower half than the entry has. -/
def pairOpened : State := (State.reset.at 0).esmAccess 0 0x30000000 4 true 1 0

/-- The device comes there from reset by this command. -/
theorem exec_pairOpened : exec (.esmAccess 0 0 0x30000000 4 true 1 0) State.reset = .next pairOpened := rfl

/-- The store to the upper half writes the entry, and the change of its HWM sets DIRTY in the same access (R248). -/
theorem pairOpened_store_dirty :
    (((pairOpened.at 0).esmAccess 0 0x30000004 4 true 0 0).entry 0).dirty = true := by
  decide +kernel

/-- Refutes O26: its clause on the store to the upper half says that the entry keeps its DIRTY bit. The hardware sets DIRTY in
the access that changes HWM, from a core too (R248): here of a clean entry, whose HWM the pair changes from 0 to 1. -/
theorem not_esmPairs : ¬ Obligations.EsmPairs := by
  unfold Obligations.EsmPairs
  rintro ⟨-, hstore, -⟩
  obtain ⟨r, hexec, -, hdirty, -⟩ := hstore pairOpened (pairOpened.at 0) 0 0 0 1 0 0 rfl (by decide) (by decide +kernel)
    (by decide +kernel)
  have hr : r = (pairOpened.at 0).esmAccess 0 0x30000004 4 true 0 0 := (Host.Outcome.next.inj hexec).symm
  have hclean : ((pairOpened.at 0).entry 0).dirty = false := by decide +kernel
  rw [hr, pairOpened_store_dirty, hclean] at hdirty
  exact absurd hdirty (by decide)

/-! ### Entries (R245, R248, R251) -/

/-- The fields of an entry come back from its word, each cut to its width (Table 8-2). -/
theorem entryOf_word (e : Entry) : entryOf e.word =
    ⟨e.hwm % 2 ^ 32, e.heard % 2 ^ 16, e.lq % 2 ^ 8, e.gen % 16, e.state % 8, e.dirty⟩ := by
  obtain ⟨hwm, heard, lq, gen, state, dirty⟩ := e
  have hset : dirty = true ↔ dirty.toNat = 1 := by cases dirty <;> decide
  have hbit : dirty.toNat < 2 := Bool.toNat_lt dirty
  simp only [entryOf, Entry.word, BitVec.toNat_ofNat, bits, Entry.mk.injEq]
  refine ⟨?hwm, ?heard, ?lq, ?gen, ?state, ?dirty⟩
  case dirty =>
    rw [Bool.eq_iff_iff, beq_iff_eq, hset]
    generalize dirty.toNat = d at hbit
    omega
  all_goals omega

/-- An entry's HWM and GEN lie in their fields. -/
theorem State.entry_ranges (s : State) (n : Nat) : (s.entry n).hwm < 2 ^ 32 ∧ (s.entry n).gen < 16 := by
  simp only [State.entry, entryOf, bits]
  omega

/-- Writing an entry changes, beside the memory, at most the count of entries that wait for their rebuilding (R251). -/
theorem State.setEntryWord_eq (s : State) (n : Nat) (w : DWord) :
    s.setEntryWord n w = { s with
      regs := (s.setEntryWord n w).regs
      esm := { s.esm with
        entries := Sparse.set (fun _ => (0 : DWord)) s.esm.entries n w, bad := s.esm.bad.filter (fun k => k != n) } } := by
  unfold State.setEntryWord
  dsimp only
  split <;> rfl

theorem State.setEntryWord_esm (s : State) (n : Nat) (w : DWord) : (s.setEntryWord n w).esm = { s.esm with
    entries := Sparse.set (fun _ => (0 : DWord)) s.esm.entries n w, bad := s.esm.bad.filter (fun k => k != n) } := by
  rw [State.setEntryWord_eq]

/-- Reading an entry's word after writing one. -/
theorem State.entryWord_setEntryWord (s : State) (n k : Nat) (w : DWord) :
    (s.setEntryWord n w).entryWord k = if k = n then w else s.entryWord k := by
  rw [State.entryWord, State.setEntryWord_esm]
  exact Sparse.get_set s.esm.entries n k w

@[simp] theorem State.setEntryWord_flc (s : State) (n : Nat) (w : DWord) : (s.setEntryWord n w).flc = s.flc := by
  rw [State.setEntryWord_eq]
@[simp] theorem State.setEntryWord_items (s : State) (n : Nat) (w : DWord) : (s.setEntryWord n w).items = s.items := by
  rw [State.setEntryWord_eq]
@[simp] theorem State.setEntryWord_hre (s : State) (n : Nat) (w : DWord) : (s.setEntryWord n w).hre = s.hre := by
  rw [State.setEntryWord_eq]

/-- An entry without an error is written without a trace in the registers. -/
theorem State.setEntryWord_regs {s : State} {n : Nat} (w : DWord) (hgood : s.esm.bad.contains n = false) :
    (s.setEntryWord n w).regs = s.regs := by
  simp only [State.setEntryWord, hgood, Bool.false_eq_true, if_false]

/-- The fields of an entry after a write: as written, with DIRTY for a change of HWM (R248). -/
theorem State.entry_setEntry_same (s : State) (n : Nat) (e : Entry) : (s.setEntry n e).entry n =
    ⟨e.hwm % 2 ^ 32, e.heard % 2 ^ 16, e.lq % 2 ^ 8, e.gen % 16, e.state % 8, e.dirty || (s.entry n).hwm != e.hwm⟩ := by
  rw [State.entry, State.setEntry, State.entryWord_setEntryWord, if_pos rfl, entryOf_word]

theorem State.entryWord_setEntry_other (s : State) {n k : Nat} (e : Entry) (h : k ≠ n) :
    (s.setEntry n e).entryWord k = s.entryWord k := by
  rw [State.setEntry, State.entryWord_setEntryWord, if_neg h]

@[simp] theorem State.setEntry_flc (s : State) (n : Nat) (e : Entry) : (s.setEntry n e).flc = s.flc :=
  State.setEntryWord_flc ..

/-! ### Programs and erases (R366, R367) -/

/-- A state with its flash blotted out: all that programs and erases leave alone. -/
def State.offFlash (s : State) : State := { s with flc := State.reset.flc }

theorem State.programWord_offFlash (s : State) (a : Nat) (data : List Byte) (w : Nat) :
    (s.programWord a data w).offFlash = s.offFlash := by
  unfold State.programWord
  dsimp only
  split <;> rfl

theorem State.program_offFlash (s : State) (a : Nat) (data : List Byte) : (s.program a data).offFlash = s.offFlash :=
  foldl_keeps (p := State.offFlash) (fun x w => State.programWord_offFlash x a data w) _ _

theorem State.flashStore_offFlash (s : State) (a : Nat) (bs : List Byte) : (s.flashStore a bs).offFlash = s.offFlash := rfl

theorem State.oneSlot_offFlash (s : State) (a : Nat) : (s.oneSlot a).offFlash = s.offFlash := by
  simp only [State.oneSlot, State.offFlash]

theorem State.newDirRec_offFlash (s : State) (i : Nat) (r : DirRec) : (s.newDirRec i r).offFlash = s.offFlash := by
  rw [State.newDirRec, State.program_offFlash, State.program_offFlash]

theorem State.writeImage_offFlash (s : State) (b : Nat) : (s.writeImage b).offFlash = s.offFlash := by
  unfold State.writeImage
  dsimp only
  rw [State.oneSlot_offFlash]
  refine foldl_keeps (p := State.offFlash) (fun x i => foldl_keeps (p := State.offFlash) (fun y k => ?_) _ _) _ _
  split <;> rfl

theorem State.writeMarker_offFlash (s : State) (b q : Nat) : (s.writeMarker b q).offFlash = s.offFlash :=
  State.program_offFlash ..

theorem State.copyImage_offFlash (s : State) (b : Nat) : (s.copyImage b).offFlash = s.offFlash := by
  unfold State.copyImage
  rw [State.oneSlot_offFlash]
  exact foldl_keeps (p := State.offFlash) (fun x a => State.flashStore_offFlash x _ _) _ _

theorem State.writeApplied_offFlash (s : State) : s.writeApplied.offFlash = s.offFlash := State.program_offFlash ..

/-- Then flash is all that has changed. -/
theorem State.eq_of_offFlash {s r : State} (h : r.offFlash = s.offFlash) : r = { s with flc := r.flc } :=
  congrArg (fun y : State => { y with flc := r.flc }) h

theorem State.items_of_offFlash {s r : State} (h : r.offFlash = s.offFlash) : r.items = s.items := by
  rw [State.eq_of_offFlash h]
theorem State.esm_of_offFlash {s r : State} (h : r.offFlash = s.offFlash) : r.esm = s.esm := by
  rw [State.eq_of_offFlash h]

theorem State.newDirRec_esm (s : State) (i : Nat) (r : DirRec) : (s.newDirRec i r).esm = s.esm :=
  State.esm_of_offFlash (State.newDirRec_offFlash s i r)

/-- What a program makes of flash depends on flash alone. -/
theorem State.programWord_flc {s x : State} (h : s.flc = x.flc) (a : Nat) (data : List Byte) (w : Nat) :
    (s.programWord a data w).flc = (x.programWord a data w).flc := by
  have hbytes (b n : Nat) : flashBytes s b n = flashBytes x b n := by rw [flashBytes, h, flashBytes]
  simp only [State.programWord, hbytes]
  split
  · exact h
  · simp only [State.flashStore, slotsUsed, h]

theorem State.program_flc {s x : State} (h : s.flc = x.flc) (a : Nat) (data : List Byte) :
    (s.program a data).flc = (x.program a data).flc :=
  List.foldl_rel (r := fun y z : State => y.flc = z.flc) h (fun w _ _ _ hyz => State.programWord_flc hyz a data w)

theorem State.newDirRec_flc {s x : State} (h : s.flc = x.flc) (i : Nat) (r : DirRec) :
    (s.newDirRec i r).flc = (x.newDirRec i r).flc :=
  State.program_flc (State.program_flc h _ _) _ _

/-! ### The directory is read from flash alone (R254 to R257, R259) -/

section
variable {s x : State} (h : s.flc = x.flc)
include h

theorem flashBytes_of_flc (a n : Nat) : flashBytes s a n = flashBytes x a n := by
  rw [flashBytes, h, flashBytes]

theorem flashByte_of_flc (a : Nat) : flashByte s a = flashByte x a := by
  rw [flashByte, h, flashByte]

theorem listedIn_of_flc (lo hi : Nat) : listedIn s lo hi = listedIn x lo hi := by
  rw [listedIn, h, listedIn]

theorem journalFrom_of_flc (k n : Nat) : journalFrom s k n = journalFrom x k n := by
  induction n generalizing k with
  | zero => rfl
  | succ n ih => simp only [journalFrom, flashBytes_of_flc h, ih]

theorem dirJournal_of_flc : dirJournal s = dirJournal x := by
  simp only [dirJournal, writtenRecords, listedIn_of_flc h, journalFrom_of_flc h]

theorem markers_of_flc : markers s = markers x := by
  simp only [markers, writtenRecords, listedIn_of_flc h, flashBytes_of_flc h]

theorem imageOpen_of_flc : imageOpen s = imageOpen x := by
  simp only [imageOpen, markers_of_flc h, flashBytes_of_flc h]

theorem dirBytes_of_flc (i : Nat) : dirBytes s i = dirBytes x i := by
  have happlied (b : Nat) (e : List Byte) : appliedIn s b e = appliedIn x b e := by
    rw [appliedIn, markers_of_flc h, appliedIn]
  have hjournal (k : Nat) : journalByte s i k = journalByte x i k := by
    funext old e
    simp only [journalByte, happlied]
  simp only [dirBytes, dirJournal_of_flc h, hjournal, dirByte, imageOpen_of_flc h, flashByte_of_flc h]

theorem dirRec_of_flc (i : Nat) : s.dirRec i = x.dirRec i := by
  rw [State.dirRec, dirBytes_of_flc h, State.dirRec]

theorem dirIndexes_of_flc : dirIndexes s = dirIndexes x := by
  simp only [dirIndexes, dirJournal_of_flc h, listedIn_of_flc h, imageOpen_of_flc h]

theorem lookupEui_of_flc (hrelay : s.relay = x.relay) (u : Nat) : lookupEui s u = lookupEui x u := by
  have hfrom (k n : Nat) : lookupFrom s u k n = lookupFrom x u k n := by
    induction n generalizing k with
    | zero => rfl
    | succ n ih => simp only [lookupFrom, dirRec_of_flc h, hrelay, ih]
  exact hfrom 0 64

theorem insertFrom_of_flc (hbank : ∀ i, bankOn s i = bankOn x i) (u k n : Nat) :
    insertFrom s u k n = insertFrom x u k n := by
  induction n generalizing k with
  | zero => rfl
  | succ n ih => simp only [insertFrom, dirRec_of_flc h, hbank, ih]

/-- What a change of a record makes of flash depends on flash and the journal's next sequence number alone. -/
theorem State.setDirRec_flc (hseq : s.esm.journalSeq = x.esm.journalSeq) (i : Nat) (r : DirRec) :
    (s.setDirRec i r).flc = (x.setDirRec i r).flc := by
  simp only [State.setDirRec, dirJournal_of_flc h, hseq]
  split
  · exact h
  · exact State.program_flc h _ _

end

/-- A change of a record changes, beside flash, at most the journal's next sequence number. -/
theorem State.setDirRec_eq (s : State) (i : Nat) (r : DirRec) :
    ∃ c q, s.setDirRec i r = { s with flc := c, esm := { s.esm with journalSeq := q } } := by
  unfold State.setDirRec
  dsimp only
  split
  · exact ⟨s.flc, s.esm.journalSeq, rfl⟩
  · rw [State.eq_of_offFlash (State.program_offFlash s _ _)]
    exact ⟨_, _, rfl⟩

@[simp] theorem State.setDirRec_hre (s : State) (i : Nat) (r : DirRec) : (s.setDirRec i r).hre = s.hre := by
  obtain ⟨c, q, hrec⟩ := s.setDirRec_eq i r
  rw [hrec]
@[simp] theorem State.setDirRec_regs (s : State) (i : Nat) (r : DirRec) : (s.setDirRec i r).regs = s.regs := by
  obtain ⟨c, q, hrec⟩ := s.setDirRec_eq i r
  rw [hrec]
@[simp] theorem State.setDirRec_entries (s : State) (i : Nat) (r : DirRec) :
    (s.setDirRec i r).esm.entries = s.esm.entries := by
  obtain ⟨c, q, hrec⟩ := s.setDirRec_eq i r
  rw [hrec]
@[simp] theorem State.setDirRec_bad (s : State) (i : Nat) (r : DirRec) : (s.setDirRec i r).esm.bad = s.esm.bad := by
  obtain ⟨c, q, hrec⟩ := s.setDirRec_eq i r
  rw [hrec]
theorem State.setDirRec_firmware (s : State) (i : Nat) (r : DirRec) : (s.setDirRec i r).esm.firmware = s.esm.firmware := by
  obtain ⟨c, q, hrec⟩ := s.setDirRec_eq i r
  rw [hrec]
theorem State.setDirRec_accepts (s : State) (i : Nat) (r : DirRec) : (s.setDirRec i r).esm.accepts = s.esm.accepts := by
  obtain ⟨c, q, hrec⟩ := s.setDirRec_eq i r
  rw [hrec]
@[simp] theorem State.setDirRec_entryWord (s : State) (i k : Nat) (r : DirRec) :
    (s.setDirRec i r).entryWord k = s.entryWord k := by
  rw [State.entryWord, State.setDirRec_entries, State.entryWord]

/-! ### Service requests (R267, R274) -/

/-- A state once a descriptor has been taken out of its fetched ones. -/
def State.taken (s : State) (rest : List Fetched) : State := { s with hre := { s.hre with fetched := rest } }

@[simp] theorem State.taken_flc (s : State) (rest : List Fetched) : (s.taken rest).flc = s.flc := rfl
@[simp] theorem State.taken_esm (s : State) (rest : List Fetched) : (s.taken rest).esm = s.esm := rfl
@[simp] theorem State.taken_relay (s : State) (rest : List Fetched) : (s.taken rest).relay = s.relay := rfl
@[simp] theorem State.taken_en (s : State) (rest : List Fetched) (b : Nat) : (s.taken rest).en b = s.en b := rfl
@[simp] theorem State.taken_entry (s : State) (rest : List Fetched) (n : Nat) : (s.taken rest).entry n = s.entry n := rfl
@[simp] theorem State.taken_entryWord (s : State) (rest : List Fetched) (n : Nat) :
    (s.taken rest).entryWord n = s.entryWord n := rfl
@[simp] theorem State.taken_dirRec (s : State) (rest : List Fetched) (n : Nat) : (s.taken rest).dirRec n = s.dirRec n :=
  dirRec_of_flc (State.taken_flc s rest) n
@[simp] theorem dirBytes_taken (s : State) (rest : List Fetched) (n : Nat) : dirBytes (s.taken rest) n = dirBytes s n :=
  dirBytes_of_flc (State.taken_flc s rest) n

theorem statsOf_taken (s : State) (rest : List Fetched) : statsOf (s.taken rest) = statsOf s := by
  simp only [statsOf, dirIndexes_of_flc (State.taken_flc s rest), State.taken_dirRec, State.taken_esm]

/-- The next service request of a service and command that no undecided descriptor of its ring precedes is the one that
runs (R54, R274). -/
theorem State.onService_turn {s : State} {svc cmd : Nat} {f : Fetched} {rest : List Fetched} (k : State → Fetched → State)
    (hturn : takeTurn (fun f => wbits f.words 0 7 0 == 0x50 && wbits f.words 6 7 0 == svc && wbits f.words 6 15 8 == cmd &&
      s.upd.aliveBy.isNone) (busyRings s) s.hre.fetched = some (f, rest)) :
    s.onService svc cmd k = k (s.taken rest) f := by
  rw [State.onService, State.onTurn, hturn]
  rfl

/-- A lookup of an index that is found (R274). -/
theorem State.answerLookup_found (s : State) (f : Fetched) (i : Nat) : s.answerLookup f (some i) false =
    (s.bufWrite f.ring (wordAt f.words 4 + wordAt f.words 5 * 2 ^ 32) (dirBytes s i ++ leBytes 8 (s.entryWord i).toNat)).done
      f.ring f.words 0 (w4 := i % 2 ^ 20 + (s.entry i).state * 2 ^ 20 + 2 ^ 31) (w5 := 20) := by
  have hlength : (dirBytes s i ++ leBytes 8 (s.entryWord i).toNat).length = 20 := by simp [dirBytes, leBytes]
  simp only [State.answerLookup, Bool.false_eq_true, if_false, hlength]

section
variable {s : State} {f : Fetched} {i : Nat} {allowed : Nat → Bool}

@[simp] theorem State.done_entryWord (s : State) (ring : Nat) (ws : List Word) (reason w4 w5 w6 w7 n : Nat) :
    (s.done ring ws reason w4 w5 w6 w7).entryWord n = s.entryWord n := rfl
@[simp] theorem State.done_entry (s : State) (ring : Nat) (ws : List Word) (reason w4 w5 w6 w7 n : Nat) :
    (s.done ring ws reason w4 w5 w6 w7).entry n = s.entry n := rfl

/-- The completion that a DONE adds. -/
theorem State.done_outq (s : State) (ring : Nat) (ws : List Word) (reason w4 w5 w6 w7 : Nat) :
    (s.done ring ws reason w4 w5 w6 w7).hre.outq = s.hre.outq ++ [⟨complRing ring ws, wbits ws 0 31 16, 2, reason, ring, 0,
      s.net, word w4, word w5, word w6, word w7, wbits ws 0 8 8 == 1, none, true⟩] := rfl

/-- A change of an endpoint's state that its present state allows (R267). -/
theorem State.svcChange_allowed (dstate state : Nat) (hen : s.en Blk.ESM = true) (hi : i = wbits f.words 7 19 0)
    (hbank : bankOn s i = true) (hgood : s.esm.bad.contains i = false) (hallowed : allowed (s.entry i).state = true) :
    s.svcChange f allowed dstate state =
      ((s.setDirRec i { s.dirRec i with dstate := dstate }).setEntry i { s.entry i with state := state }).done f.ring f.words 0
        (w4 := i + state * 2 ^ 20 + 2 ^ 31) := by
  subst hi
  simp only [State.svcChange, hen, hbank, hgood, hallowed, Bool.not_true, Bool.false_eq_true, if_false]

/-- One that it does not allow (R267). -/
theorem State.svcChange_refused (dstate state : Nat) (hen : s.en Blk.ESM = true) (hi : i = wbits f.words 7 19 0)
    (hbank : bankOn s i = true) (hgood : s.esm.bad.contains i = false) (hallowed : allowed (s.entry i).state = false) :
    s.svcChange f allowed dstate state = s.refuse f.ring f.words (if (s.entry i).state = 4 then 0x0A05 else 0x0AF7) := by
  subst hi
  simp only [State.svcChange, hen, hbank, hgood, hallowed, Bool.not_true, Bool.not_false, Bool.false_eq_true, if_true, if_false]

/-- `r` is `x` after a change of endpoint `i` to STATE `state` in its entry and to `dstate` in its directory record, with a
DONE completion of the request (R267). -/
structure EndpointChanged (x r : State) (i dstate state : Nat) : Prop where
  state_eq : (r.entry i).state = state
  flc : r.flc = (x.setDirRec i { x.dirRec i with dstate := dstate }).flc
  hwm : (r.entry i).hwm = (x.entry i).hwm
  gen : (r.entry i).gen = (x.entry i).gen
  other : ∀ k, k ≠ i → r.entryWord k = x.entryWord k
  regs : r.regs = x.regs
  done : ∃ q, r.hre.outq = x.hre.outq ++ [q] ∧ q.status = 2 ∧ q.reason = 0

/-- An allowed change is one of the endpoint and its record, completed DONE. -/
theorem State.svcChange_changes {dstate state : Nat} (hstate : state < 8) (hen : s.en Blk.ESM = true)
    (hi : i = wbits f.words 7 19 0) (hbank : bankOn s i = true) (hgood : s.esm.bad.contains i = false)
    (hallowed : allowed (s.entry i).state = true) :
    EndpointChanged s (s.svcChange f allowed dstate state) i dstate state := by
  obtain ⟨hhwm, hgen⟩ := s.entry_ranges i
  rw [State.svcChange_allowed dstate state hen hi hbank hgood hallowed]
  constructor
  case state_eq => rw [State.done_entry, State.entry_setEntry_same, Nat.mod_eq_of_lt hstate]
  case flc => rw [State.done_flc, State.setEntry_flc]
  case hwm => rw [State.done_entry, State.entry_setEntry_same, Nat.mod_eq_of_lt hhwm]
  case gen => rw [State.done_entry, State.entry_setEntry_same, Nat.mod_eq_of_lt hgen]
  case other => intro k hk; rw [State.done_entryWord, State.entryWord_setEntry_other _ _ hk, State.setDirRec_entryWord]
  case regs =>
    rw [State.done_regs, State.setEntry, State.setEntryWord_regs _ (by rwa [State.setDirRec_bad]), State.setDirRec_regs]
  case done =>
    rw [State.done_outq, State.setEntry, State.setEntryWord_hre, State.setDirRec_hre]
    exact ⟨_, rfl, rfl, rfl⟩

end

/-- So it is for the request of a command whose turn it is. -/
theorem State.onService_changes {s : State} {cmd : Nat} {f : Fetched} {rest : List Fetched} {i dstate state : Nat}
    {allowed : Nat → Bool} (hstate : state < 8)
    (hturn : takeTurn (fun f => wbits f.words 0 7 0 == 0x50 && wbits f.words 6 7 0 == 1 && wbits f.words 6 15 8 == cmd &&
      s.upd.aliveBy.isNone) (busyRings s) s.hre.fetched = some (f, rest))
    (hen : s.en Blk.ESM = true) (hi : i = wbits f.words 7 19 0) (hbank : bankOn s i = true)
    (hgood : s.esm.bad.contains i = false) (hallowed : allowed (s.entry i).state = true) :
    EndpointChanged s (s.onService 1 cmd (fun x f => x.svcChange f allowed dstate state)) i dstate state := by
  rw [State.onService_turn _ hturn]
  obtain ⟨hs, hflc, hhwm, hgen, hother, hregs, hdone⟩ :=
    State.svcChange_changes (s := s.taken rest) (f := f) (dstate := dstate) hstate hen hi hbank hgood hallowed
  rw [State.taken_dirRec, State.setDirRec_flc (State.taken_flc s rest) rfl] at hflc
  exact ⟨hs, hflc, hhwm, hgen, hother, hregs, hdone⟩

/-- The request of a command whose turn it is, and which the present state does not allow. -/
theorem State.onService_refuses {s : State} {cmd : Nat} {f : Fetched} {rest : List Fetched} {i dstate state : Nat}
    {allowed : Nat → Bool}
    (hturn : takeTurn (fun f => wbits f.words 0 7 0 == 0x50 && wbits f.words 6 7 0 == 1 && wbits f.words 6 15 8 == cmd &&
      s.upd.aliveBy.isNone) (busyRings s) s.hre.fetched = some (f, rest))
    (hen : s.en Blk.ESM = true) (hi : i = wbits f.words 7 19 0) (hbank : bankOn s i = true)
    (hgood : s.esm.bad.contains i = false) (hallowed : allowed (s.entry i).state = false) :
    s.onService 1 cmd (fun x f => x.svcChange f allowed dstate state) =
      (s.taken rest).refuse f.ring f.words (if (s.entry i).state = 4 then 0x0A05 else 0x0AF7) := by
  rw [State.onService_turn _ hturn]
  exact State.svcChange_refused (s := s.taken rest) dstate state hen hi hbank hgood hallowed

/-- Settles O29: each request is the one whose turn it is (State.onService_turn); a change of state goes through the record and
then the entry (State.onService_changes), and lookups and counts read a directory that taking the request leaves alone. -/
theorem directoryServices : Obligations.DirectoryServices := by
  unfold Obligations.DirectoryServices
  refine ⟨?lookupEui, ?lookupIndex, ?suspend, ?resume, ?revoke, ?delete, ?stats, ?noSuspend, ?noResume, ?noRevoke, ?noDelete⟩
  case lookupEui =>
    rintro s x y t f rest fail rfl hturn hy hen hnone
    obtain rfl : y = (s.at t).taken rest := hy
    refine congrArg Host.Outcome.next ((State.onService_turn _ hturn).trans ?_)
    rw [State.svcLookupEui, if_neg (by simpa using hen), lookupEui_of_flc (State.taken_flc _ _) (State.taken_relay _ _), hnone]
    rfl
  case lookupIndex =>
    rintro s x y t i f rest rfl hturn hy hen rfl hused
    obtain rfl : y = (s.at t).taken rest := hy
    refine congrArg Host.Outcome.next ((State.onService_turn _ hturn).trans ?_)
    rw [State.svcLookupIndex, if_neg (by simpa using hen), State.taken_dirRec, if_neg hused, State.answerLookup_found,
      dirBytes_taken, State.taken_entry, State.taken_entryWord]
  case suspend =>
    rintro s x t i f rest rfl hturn hen hi hbank hgood hstate
    obtain ⟨hs, hflc, hhwm, hgen, hother, hregs, hdone⟩ := State.onService_changes (dstate := 2) (state := 3)
      (allowed := fun n => n == 2 || n == 5) (by decide) hturn hen hi hbank hgood (by simpa using hstate)
    exact ⟨_, rfl, hs, hflc, hhwm, hgen, hother, hregs, hdone⟩
  case resume =>
    rintro s x t i f rest rfl hturn hen hi hbank hgood hstate
    obtain ⟨hs, hflc, hhwm, hgen, hother, hregs, hdone⟩ := State.onService_changes (dstate := 1) (state := 5)
      (allowed := fun n => n == 3) (by decide) hturn hen hi hbank hgood (by simpa using hstate)
    exact ⟨_, rfl, hs, hflc, hhwm, hgen, hother, hregs, hdone⟩
  case revoke =>
    rintro s x t i f rest rfl hturn hen hi hbank hgood hlo hhi
    obtain ⟨hs, hflc, hhwm, hgen, hother, hregs, hdone⟩ := State.onService_changes (dstate := 3) (state := 4)
      (allowed := fun n => decide (1 ≤ n) && decide (n ≤ 5)) (by decide) hturn hen hi hbank hgood (by simp [hlo, hhi])
    exact ⟨_, rfl, hs, hflc, hhwm, hgen, hother, hregs, hdone⟩
  case delete =>
    rintro s x t i f rest rfl hturn hen hi hbank hgood hstate
    obtain ⟨hs, hflc, hhwm, hgen, hother, hregs, hdone⟩ := State.onService_changes (dstate := 4) (state := 0)
      (allowed := fun n => n == 4) (by decide) hturn hen hi hbank hgood (by simpa using hstate)
    exact ⟨_, rfl, hs, hflc, hhwm, hgen, hother, hregs, hdone⟩
  case stats =>
    rintro s x y t f rest rfl hturn hy hen
    obtain rfl : y = (s.at t).taken rest := hy
    refine congrArg Host.Outcome.next ((State.onService_turn _ hturn).trans ?_)
    rw [State.svcStats, if_neg (by simpa using hen), if_neg (by decide), statsOf_taken]
  case noSuspend =>
    rintro s x y t i f rest rfl hturn hy hen hi hbank hgood h2 h5
    rw [show y = (s.at t).taken rest from hy]
    exact congrArg Host.Outcome.next (State.onService_refuses hturn hen hi hbank hgood (by simp [h2, h5]))
  case noResume =>
    rintro s x y t i f rest rfl hturn hy hen hi hbank hgood h3
    rw [show y = (s.at t).taken rest from hy]
    exact congrArg Host.Outcome.next (State.onService_refuses hturn hen hi hbank hgood (by simp [h3]))
  case noRevoke =>
    rintro s x y t i f rest rfl hturn hy hen hi hbank hgood hstate
    have hrefused := State.onService_refuses (dstate := 3) (state := 4) (allowed := fun n => decide (1 ≤ n) && decide (n ≤ 5))
      hturn hen hi hbank hgood (by simp; omega)
    rw [if_neg (by omega)] at hrefused
    rw [show y = (s.at t).taken rest from hy]
    exact congrArg Host.Outcome.next hrefused
  case noDelete =>
    rintro s x y t i f rest rfl hturn hy hen hi hbank hgood h4
    have hrefused := State.onService_refuses (dstate := 4) (state := 0) (allowed := fun n => n == 4)
      hturn hen hi hbank hgood (by simp [h4])
    rw [if_neg h4] at hrefused
    rw [show y = (s.at t).taken rest from hy]
    exact congrArg Host.Outcome.next hrefused

/-! ### Checkpoints (R268 to R272) -/

/-- A checkpoint with banks left and no item in flight submits its next flash item (R270). -/
theorem State.ckptSubmit_submits {s : State} {c : Ckpt} (hckpt : s.esm.ckpt = some c) (hidle : c.inFlight = false)
    (hbanks : c.banks ≠ []) :
    ∃ l d w, s.ckptSubmit = { s with esm := { s.esm with entries := l, ckpt := some d },
                                     chn := { s.chn with awaiting := s.chn.awaiting ++ [w] } } ∧
      d.banks = c.banks ∧ d.closing = c.closing ∧ d.inFlight = true ∧ d.retryAt = none ∧ w.owner = .checkpoint := by
  obtain ⟨b, rest, hb⟩ := List.exists_cons_of_ne_nil hbanks
  simp only [State.ckptSubmit, hckpt, hidle, Bool.false_eq_true, if_false, hb]
  split
  · exact ⟨_, _, _, rfl, rfl, rfl, rfl, rfl, rfl⟩
  · exact ⟨_, _, _, rfl, rfl, rfl, rfl, rfl, rfl⟩

/-- One without banks submits nothing. -/
theorem State.ckptSubmit_empty {s : State} {c : Ckpt} (hckpt : s.esm.ckpt = some c) (hbanks : c.banks = []) :
    s.ckptSubmit = s := by
  simp only [State.ckptSubmit, hckpt, hbanks]
  split <;> rfl

/-- The state in which a checkpoint starts. -/
def State.ckptOpened (s : State) (closing : Bool) : State :=
  { s with esm := { s.esm with ckpt := some ⟨banksOn s, 0, closing, s.net, false, none⟩, startedAt := some s.now } }.put
    F.ESM_STATUS_CKPT_RUNNING 1

theorem State.ckptStart_eq (s : State) (closing : Bool) : s.ckptStart closing = (s.ckptOpened closing).ckptSubmit := rfl

/-- `r` is `s` after the start of a checkpoint of the powered banks, its first flash item waiting for admission. -/
structure CkptStarted (s r : State) (closing : Bool) : Prop where
  running : r.on F.ESM_STATUS_CKPT_RUNNING = true
  startedAt : r.esm.startedAt = some s.now
  ckpt : ∃ c, r.esm.ckpt = some c ∧ c.banks = banksOn s ∧ c.closing = closing ∧ c.inFlight = true
  awaits : ∃ w, r.chn.awaiting = s.chn.awaiting ++ [w] ∧ w.owner = .checkpoint
  other : ∀ a, a ≠ Reg.ESM_STATUS → r.rd a = s.rd a

theorem State.ckptStart_starts {s : State} (closing : Bool) (hbanks : banksOn s ≠ []) :
    CkptStarted s (s.ckptStart closing) closing := by
  obtain ⟨l, d, w, hr, hbank, hclose, hflight, -, howner⟩ :=
    State.ckptSubmit_submits (s := s.ckptOpened closing) rfl rfl hbanks
  rw [State.ckptStart_eq, hr]
  constructor
  case running => exact State.on_put_one _ _ (by decide) (by decide)
  case startedAt => rfl
  case ckpt => exact ⟨d, rfl, hbank, hclose, hflight⟩
  case awaits => exact ⟨w, rfl, howner⟩
  case other => exact fun a ha => State.rd_put_other _ _ _ ha

/-- Whatever banks are powered, a checkpoint then runs, and the service requests, completions and items are as before. -/
theorem State.ckptStart_keeps (s : State) (closing : Bool) : (s.ckptStart closing).esm.ckpt.isSome = true ∧
    (s.ckptStart closing).esm.waiting = s.esm.waiting ∧ (s.ckptStart closing).hre = s.hre ∧
    (s.ckptStart closing).items = s.items := by
  rw [State.ckptStart_eq]
  by_cases hbanks : banksOn s = []
  · rw [State.ckptSubmit_empty (s := s.ckptOpened closing) rfl hbanks]
    exact ⟨rfl, rfl, rfl, rfl⟩
  · obtain ⟨l, d, w, hr, -⟩ := State.ckptSubmit_submits (s := s.ckptOpened closing) rfl rfl hbanks
    rw [hr]
    exact ⟨rfl, rfl, rfl, rfl⟩

/-- An index record changes flash and shows its sequence number (R269). -/
theorem State.indexWrite_eq (s : State) (type bank slot time : Nat) :
    ∃ c n, s.indexWrite type bank slot time = { s with flc := c }.put F.ESM_CKPT_SEQ_SEQ n := by
  have herased (k : Nat) : (if k % 1024 = 0 then s.eraseRange (indexBase + k * 32) 32768 else s).offFlash = s.offFlash := by
    split <;> rfl
  unfold State.indexWrite
  dsimp only
  rw [State.eq_of_offFlash ((State.program_offFlash _ _ _).trans (herased _))]
  exact ⟨_, _, rfl⟩

/-- A checkpoint has ended: none runs, and the service requests that waited for it complete (R269, R274). -/
def State.ckptEnded (s : State) : State :=
  ((({ s with esm := { s.esm with ckpt := none } }.put F.ESM_STATUS_CKPT_RUNNING 0).irq Blk.ESM 4).count
    (F.ESM_CNT_COUNT 2)).ckptWaiters 0

/-- The end of a closing checkpoint whose banks are all written (R269, R272). -/
theorem State.ckptDone_closes {s : State} {c : Ckpt} (hckpt : s.esm.ckpt = some c) (hbanks : c.banks = [])
    (hclose : c.closing = true) : ∃ m n, s.ckptDone =
      (({ s.ckptEnded with flc := m }.put F.ESM_CKPT_SEQ_SEQ n).put F.ESM_STATUS_CLOSED 1).put F.ESM_CTL_CLOSE 0 := by
  have hdone : s.ckptDone = ((s.ckptEnded.indexWrite 2 0xFF (newestSlot s.ckptEnded) s.ckptEnded.net).put
      F.ESM_STATUS_CLOSED 1).put F.ESM_CTL_CLOSE 0 := by
    simp only [State.ckptDone, hckpt, hbanks, hclose]
    rfl
  obtain ⟨m, n, hindex⟩ := s.ckptEnded.indexWrite_eq 2 0xFF (newestSlot s.ckptEnded) s.ckptEnded.net
  exact ⟨m, n, by rw [hdone, hindex]⟩

theorem State.ckptEnded_shows (s : State) : s.ckptEnded.esm.ckpt = none ∧ s.ckptEnded.esm.waiting = [] ∧
    s.ckptEnded.hre.outq.length = s.hre.outq.length + s.esm.waiting.length ∧ s.ckptEnded.items = s.items ∧
    s.ckptEnded.on F.ESM_STATUS_CKPT_RUNNING = false := by
  refine ⟨?_, rfl, ?_, ?_, ?_⟩
  · simp [State.ckptEnded, State.ckptWaiters]
  · simp [State.ckptEnded, State.ckptWaiters]
  · simp [State.ckptEnded, State.ckptWaiters]
  · rw [State.ckptEnded, State.ckptWaiters, State.on_update, State.count, State.on_put_reg _ _ _ _ (by decide),
      State.irq_on _ _ _ (by decide)]
    exact State.on_put_zero _ _ (by decide)

/-- A state whose next interval expires at `n` (R270). -/
def State.dueNext (s : State) (n : Nat) : State := { s with esm := { s.esm with dueAt := n } }

theorem State.dueNext_get (s : State) (n : Nat) (f : Fld) : (s.dueNext n).get f = s.get f := rfl
theorem banksOn_dueNext (s : State) (n : Nat) : banksOn (s.dueNext n) = banksOn s := rfl
theorem State.dueNext_chn (s : State) (n : Nat) : (s.dueNext n).chn = s.chn := rfl
theorem State.dueNext_items (s : State) (n : Nat) : (s.dueNext n).items = s.items := rfl
theorem State.dueNext_ckpt (s : State) (n : Nat) : (s.dueNext n).esm.ckpt = s.esm.ckpt := rfl
theorem State.dueNext_dueAt (s : State) (n : Nat) : (s.dueNext n).esm.dueAt = n := rfl

/-- The interval expires while no checkpoint runs (R270). -/
theorem State.ckptTimer_due {s : State} (hen : s.en Blk.ESM = true) (hdue : s.esm.dueAt ≤ s.now) (hnone : s.esm.ckpt = none) :
    s.ckptTimer = if anyDirty s
      then (s.dueNext (s.esm.dueAt + s.get F.ESM_CKPT_INTERVAL_MIN * 60 * secondU)).ckptStart false
      else (s.dueNext (s.esm.dueAt + s.get F.ESM_CKPT_INTERVAL_MIN * 60 * secondU)).count (F.ESM_CNT_COUNT 3) := by
  rw [State.ckptTimer, if_neg (by simp [hen, hdue]), if_neg (by simp [hnone])]
  rfl

/-- CKPT_NOW too soon after the last start is refused (R271). -/
theorem State.ckptNow_soon {s : State} {a : Nat} (hen : s.en Blk.ESM = true) (hlast : s.esm.startedAt = some a)
    (hsoon : s.now < a + s.get F.ESM_CKPT_MIN_MINUTES * 60 * secondU) :
    s.ckptNow = s.put F.ESM_STATUS_CKPT_REASON 0x0A04 := by
  simp [State.ckptNow, hen, hlast, hsoon]

/-- The first CKPT_NOW starts a checkpoint (R271). -/
theorem State.ckptNow_first {s : State} (hen : s.en Blk.ESM = true) (hlast : s.esm.startedAt = none)
    (hnone : s.esm.ckpt = none) : s.ckptNow = s.ckptStart false := by
  simp [State.ckptNow, hen, hlast, hnone]

/-- CLOSE with no checkpoint running starts a closing one (R272). -/
theorem State.close_idle {s : State} (hen : s.en Blk.ESM = true) (hopen : s.on F.ESM_STATUS_CLOSED = false)
    (hnone : s.esm.ckpt = none) : s.close = (s.put F.ESM_CTL_CLOSE 1).ckptStart true := by
  rw [State.close, if_neg (by simp [hen, hopen]), if_neg (by simp [hnone])]

/-- A refused checkpoint item is submitted again when its second is over (R270). -/
theorem State.ckptRetry_due {s : State} {c : Ckpt} {a : Nat} (hckpt : s.esm.ckpt = some c) (hretry : c.retryAt = some a)
    (hdue : a ≤ s.now) :
    s.ckptRetry = { s with esm := { s.esm with ckpt := some { c with retryAt := none } } }.ckptSubmit := by
  simp only [State.ckptRetry, hckpt, hretry]
  exact if_neg (Nat.not_lt.mpr hdue)

/-- Settles O27: a checkpoint that starts submits its first item (State.ckptStart_starts), one that ends completes the
requests that wait (State.ckptEnded_shows), and a closing one writes its index record too (State.ckptDone_closes). -/
theorem checkpoints : Obligations.Checkpoints := by
  unfold Obligations.Checkpoints
  refine ⟨?skipped, ?timed, ?soon, ?now, ?close, ?done, ?retry, ?service⟩
  case skipped =>
    rintro s x t rfl hen hdue hnone hclean
    have hx := State.ckptTimer_due hen hdue hnone
    rw [hclean, if_neg Bool.false_ne_true] at hx
    refine ⟨_, congrArg Host.Outcome.next hx, ?_, ?_, ?_, ?_⟩
    · rw [State.count_esm, State.dueNext_ckpt, hnone]
    · rw [State.count_esm, State.dueNext_dueAt]
    · rw [State.get_count_same _ _ (by simp [F.ESM_CNT_COUNT]), State.dueNext_get]
    · rw [State.count_items, State.dueNext_items]
  case timed =>
    rintro s x t rfl hen hdue hnone hdirty hbanks
    have hx := State.ckptTimer_due hen hdue hnone
    rw [if_pos hdirty] at hx
    have hstart (n : Nat) := State.ckptStart_starts (s := (s.at t).dueNext n) false hbanks
    obtain ⟨hrun, -, hckpt, hawaits, -⟩ := hstart _
    rw [banksOn_dueNext] at hckpt
    rw [State.dueNext_chn] at hawaits
    exact ⟨_, congrArg Host.Outcome.next hx, hrun, hckpt, hawaits⟩
  case soon =>
    rintro s x t a rfl hen hlast hsoon
    exact ⟨_, congrArg Host.Outcome.next (State.ckptNow_soon hen hlast hsoon), State.get_put_same _ _ _ (by decide), rfl, rfl⟩
  case now =>
    rintro s x t rfl hen hlast hnone hbanks
    obtain ⟨hrun, hstart, ⟨c, hc, hcbanks, hclosing, -⟩, -, -⟩ := State.ckptStart_starts false hbanks
    exact ⟨_, congrArg Host.Outcome.next (State.ckptNow_first hen hlast hnone), hrun, hstart, c, hc, hcbanks, hclosing⟩
  case close =>
    rintro s x t rfl hen hopen hnone hbanks
    have hpowered : banksOn ((s.at t).put F.ESM_CTL_CLOSE 1) = banksOn (s.at t) := by
      rw [banksOn, State.get_put_reg _ _ _ _ (by decide), banksOn]
    obtain ⟨hrun, -, ⟨c, hc, -, hclosing, -⟩, -, hother⟩ :=
      State.ckptStart_starts (s := (s.at t).put F.ESM_CTL_CLOSE 1) true (by rwa [hpowered])
    refine ⟨_, congrArg Host.Outcome.next (State.close_idle hen hopen hnone), ?_, hrun, c, hc, hclosing⟩
    rw [State.on_of_rd (f := F.ESM_CTL_CLOSE) (hother Reg.ESM_CTL (by decide))]
    exact State.on_put_one _ _ (by decide) (by decide)
  case done =>
    rintro s x t c rfl hckpt hbanks hclose
    obtain ⟨m, n, hdone⟩ := State.ckptDone_closes hckpt hbanks hclose
    obtain ⟨hnone, hwaiting, houtq, hitems, hrun⟩ := (s.at t).ckptEnded_shows
    refine ⟨_, congrArg Host.Outcome.next hdone, hnone, ?_, State.on_put_zero _ _ (by decide), ?_, hwaiting, houtq, hitems⟩
    · rw [State.on_put_reg _ _ _ _ (by decide)]
      exact State.on_put_one _ _ (by decide) (by decide)
    · rw [State.on_put_reg _ _ _ _ (by decide), State.on_put_field _ _ _ _ (by decide) (by decide),
        State.on_put_reg _ _ _ _ (by decide)]
      exact hrun
  case retry =>
    rintro s x t a c rfl hckpt hidle hretry hdue hbanks
    obtain ⟨l, d, w, hr, -, -, hflight, hnone, howner⟩ := State.ckptSubmit_submits (c := { c with retryAt := none })
      (s := { s.at t with esm := { (s.at t).esm with ckpt := some { c with retryAt := none } } }) rfl hidle hbanks
    exact ⟨_, congrArg Host.Outcome.next ((State.ckptRetry_due hckpt hretry hdue).trans hr), ⟨d, rfl, hflight, hnone⟩,
      w, rfl, howner⟩
  case service =>
    rintro s x t f rest rfl hturn hen
    refine ⟨_, congrArg Host.Outcome.next (State.onService_turn State.svcCheckpoint hturn), ?_⟩
    rw [State.svcCheckpoint, if_neg (by simpa using hen)]
    dsimp only
    split
    case isTrue hruns => exact ⟨rfl, rfl, hruns, rfl, rfl⟩
    case isFalse =>
      obtain ⟨hruns, hwaiting, hhre, hitems⟩ := State.ckptStart_keeps _ false
      rw [hwaiting, hhre, hitems]
      exact ⟨rfl, rfl, hruns, rfl, rfl⟩

/-! ### Compaction (R260) -/

@[simp] theorem State.atStep_items (s : State) (c : Option (Nat × Nat × Nat)) : (s.atStep c).items = s.items := rfl
@[simp] theorem State.atStep_entries (s : State) (c : Option (Nat × Nat × Nat)) :
    (s.atStep c).esm.entries = s.esm.entries := rfl

section
variable {s : State} {b q : Nat}

/-- The steps of a block in progress (Table 8-5). -/
theorem State.compact_marker (h : s.esm.compaction = some (b, 2, q)) :
    s.compact = (s.writeMarker b q).atStep (some (b, 3, q)) := by
  simp only [State.compact, h]
theorem State.compact_erase (h : s.esm.compaction = some (b, 3, q)) :
    s.compact = (s.eraseRange (dirBase + b * 32768) 32768).atStep (some (b, 4, q)) := by
  simp only [State.compact, h]
theorem State.compact_copy (h : s.esm.compaction = some (b, 4, q)) :
    s.compact = (s.copyImage b).atStep (some (b, 5, q)) := by
  simp only [State.compact, h]
theorem State.compact_applied (h : s.esm.compaction = some (b, 5, q)) : s.compact = s.writeApplied.atStep none := by
  simp only [State.compact, h]

/-- With nothing begun, a journal less than 75 % full is left alone (R260). -/
theorem State.compact_unfilled (hnone : s.esm.compaction = none) (hopen : imageOpen s = none) (hfull : journalFull s = false) :
    s.compact = s := by
  simp [State.compact, hnone, hopen, hfull]

/-- Full, it begins with the image of the lowest block that the journal changes (Table 8-5). -/
theorem State.compact_begins (hnone : s.esm.compaction = none) (hopen : imageOpen s = none) (hfull : journalFull s = true)
    (hblock : nextBlock s = some b) : s.compact = (s.writeImage b).atStep (some (b, 2, s.esm.journalSeq - 1)) := by
  simp [State.compact, hnone, hopen, hfull, hblock]

/-- With no such block left, journal and markers are erased (R260). -/
theorem State.compact_clears (hnone : s.esm.compaction = none) (hopen : imageOpen s = none) (hfull : journalFull s = true)
    (hblock : nextBlock s = none) :
    s.compact = (s.eraseRange dirJournalBase (imageBase - dirJournalBase)).eraseRange markerBase 32768 := by
  simp [State.compact, hnone, hopen, hfull, hblock]

/-- With nothing begun, the entries and the promise table are left alone. -/
theorem State.compact_keeps (hnone : s.esm.compaction = none) (hopen : imageOpen s = none) :
    s.compact.esm.entries = s.esm.entries ∧ s.compact.items = s.items := by
  cases hfull : journalFull s with
  | false => rw [State.compact_unfilled hnone hopen hfull]; exact ⟨rfl, rfl⟩
  | true => cases hblock : nextBlock s with
    | none => rw [State.compact_clears hnone hopen hfull hblock]; exact ⟨rfl, rfl⟩
    | some b =>
      have himage := s.writeImage_offFlash b
      rw [State.compact_begins hnone hopen hfull hblock, State.atStep_entries, State.atStep_items,
        State.esm_of_offFlash himage, State.items_of_offFlash himage]
      exact ⟨rfl, rfl⟩

end

/-! ### Restore (R251, R273) -/

/-- Without a loss the one entry that holds an error is rebuilt (R251). -/
theorem State.esmRestore_one {s : State} {n : Nat} (hlost : s.on F.ESM_STATUS_LOST = false) (hbad : s.esm.bad = [n]) :
    s.esmRestore = s.restoreEntry false n := by
  rw [State.esmRestore, if_neg (by simp [hlost]), hbad]
  rfl

/-- After a loss LOST is cleared (R273). -/
theorem State.esmRestore_all {s : State} (hlost : s.on F.ESM_STATUS_LOST = true) : ∃ y : State,
    s.esmRestore = y.put F.ESM_STATUS_LOST 0 ∧ y.items = s.items := by
  rw [State.esmRestore, if_pos hlost]
  exact ⟨_, rfl, foldl_keeps (p := State.items) (fun x n => State.setEntryWord_items x n _) _ _⟩

/-! ### Joins (R263 to R266) -/

/-- What the use of keys leaves alone, of what a join is about: network time, the promise table, completions and records, flash
and the ESM. -/
def State.joinKept (s : State) : Nat × List Item × Hre × Flc × Esm := (s.net, s.items, s.hre, s.flc, s.esm)

theorem State.put_joinKept (s : State) (f : Fld) (v : Nat) : (s.put f v).joinKept = s.joinKept := rfl
theorem State.count_joinKept (s : State) (f : Fld) (n : Nat) : (s.count f n).joinKept = s.joinKept := rfl
theorem State.irq_joinKept (s : State) (b mask : Nat) : (s.irq b mask).joinKept = s.joinKept := by
  simp only [State.joinKept, State.irq_net, State.irq_items, State.irq_hre, State.irq_flc, State.irq_esm]

/-- A conditional update keeps what both of its branches keep. -/
theorem State.joinKept_ite {p : Prop} [Decidable p] {s y z : State} (hy : y.joinKept = s.joinKept)
    (hz : z.joinKept = s.joinKept) : (if p then y else z).joinKept = s.joinKept := by
  split
  · exact hy
  · exact hz

theorem State.setUse_joinKept (s : State) (n u : Nat) : (s.setUse n u).joinKept = s.joinKept := by
  unfold State.setUse
  dsimp only
  split
  · exact State.joinKept_ite rfl rfl
  · have hlow (y : State) (p : Prop) [Decidable p] (hy : y.joinKept = s.joinKept) :
        (if p then y.irq Blk.CRY 1 else y).joinKept = s.joinKept :=
      State.joinKept_ite ((State.irq_joinKept ..).trans hy) hy
    refine State.joinKept_ite ?_ (hlow _ _ (State.joinKept_ite rfl rfl))
    rw [State.irq_joinKept, State.put_joinKept]
    exact hlow _ _ (State.joinKept_ite rfl rfl)

theorem State.useSlotRx_joinKept (s : State) (n blocks : Nat) : (s.useSlotRx n blocks).joinKept = s.joinKept := by
  unfold State.useSlotRx
  refine State.joinKept_ite rfl ?_
  split
  · exact State.joinKept_ite rfl (State.setUse_joinKept ..)
  · exact State.setUse_joinKept ..

theorem State.cacheTouch_joinKept (s : State) (eui gen : Nat) : (s.cacheTouch eui gen).joinKept = s.joinKept := by
  unfold State.cacheTouch
  dsimp only
  split
  · unfold State.cacheHit
    split <;> rfl
  split
  · rfl
  split
  · rfl
  split <;> rfl

/-- A use of an endpoint's key counts blocks and moves in the cache of derived keys (R287, R288). -/
theorem State.useDerived_joinKept (s : State) (eui gen blocks : Nat) (rx : Bool) :
    (s.useDerived eui gen blocks rx).joinKept = s.joinKept := by
  unfold State.useDerived
  dsimp only
  rw [State.cryCompleted, State.count_joinKept, State.cacheTouch_joinKept]
  exact State.joinKept_ite (State.useSlotRx_joinKept ..) (State.setUse_joinKept ..)

theorem State.useNative_joinKept (s : State) (r : NativeReq) : (s.useNative r).joinKept = s.joinKept := by
  unfold State.useNative
  split
  · exact State.useDerived_joinKept ..
  · exact State.setUse_joinKept ..
  · exact State.setUse_joinKept ..
  · rfl

theorem State.takeTxfc_joinKept (s : State) : s.takeTxfc.joinKept = s.joinKept := by
  unfold State.takeTxfc
  dsimp only
  refine State.joinKept_ite ?_ (State.joinKept_ite rfl rfl)
  rw [State.txfcLow, State.irq_joinKept]
  exact State.joinKept_ite rfl rfl

theorem State.await_joinKept (s : State) (w : Waiting) : (s.await w).joinKept = s.joinKept := rfl

/-- So does a native frame that waits for admission. -/
theorem State.awaitNative_joinKept (s : State) (o : Owner) (ring : Nat) (ws : List Word) (r : NativeReq) (key : AesKey) :
    (s.awaitNative o ring ws r key).joinKept = s.joinKept := by
  unfold State.awaitNative
  rw [State.await_joinKept, State.takeTxfc_joinKept, State.useNative_joinKept]

/-- What a JOIN_ACCEPT's descriptor leaves alone beside: flash, the entries and the firmware queue. -/
def State.acceptKept (s : State) : Flc × List (Nat × DWord) × List FwFrame := (s.flc, s.esm.entries, s.esm.firmware)

theorem State.acceptKept_of_joinKept {s r : State} (h : r.joinKept = s.joinKept) : r.acceptKept = s.acceptKept :=
  congrArg (fun x : Nat × List Item × Hre × Flc × Esm => (x.2.2.2.1, x.2.2.2.2.entries, x.2.2.2.2.firmware)) h

theorem State.joinAccept_acceptKept (s : State) (fr : FwFrame) (idx eui g new : Nat) :
    (s.joinAccept fr idx eui g new).acceptKept = s.acceptKept := by
  unfold State.joinAccept
  dsimp only
  split
  · rfl
  split
  · rfl
  split
  · rfl
  · rw [State.acceptKept_of_joinKept (State.awaitNative_joinKept ..),
      State.acceptKept_of_joinKept (State.useDerived_joinKept ..)]
    rfl

/-- Is a frame of the firmware queue a join request (R264)? -/
def isJoinRequest (b : FwFrame) : Bool := match parseMac b.bytes with | some m => fctlType m.fctl == 4 | none => false

/-- A state once a frame has been taken out of the firmware queue. -/
def State.joinTaken (s : State) (rest : List FwFrame) : State := { s with esm := { s.esm with firmware := rest } }

/-- May the key of an endpoint check the MIC of a join request (R264, R288)? -/
def joinCheckable (s : State) (f : MacFrame) (eui g : Nat) : Bool :=
  (derivedRefuses s eui g (ccmBlocks f.header.length f.payload.length false)).isNone

/-- The state once the MIC of a join request has been checked, where its key may be used (R264, R288). -/
def State.joinChecked (s : State) (f : MacFrame) (eui g : Nat) : State :=
  if joinCheckable s f eui g then s.useDerived eui g (ccmBlocks f.header.length f.payload.length false) true else s

theorem State.joinChecked_joinKept (s : State) (f : MacFrame) (eui g : Nat) : (s.joinChecked f eui g).joinKept = s.joinKept :=
  State.joinKept_ite (State.useDerived_joinKept ..) rfl

theorem State.joinChecked_firmware (s : State) (rest : List FwFrame) (f : MacFrame) (eui g : Nat) :
    ((s.joinTaken rest).joinChecked f eui g).esm.firmware = rest :=
  congrArg (fun x : Nat × List Item × Hre × Flc × Esm => x.2.2.2.2.firmware) (State.joinChecked_joinKept ..)

theorem State.joinRefused_firmware (s : State) (eui code : Nat) : (s.joinRefused eui code).esm.firmware = s.esm.firmware := rfl

theorem State.fresh_esm (s : State) (n : Nat) : (s.fresh n).2.esm = s.esm := rfl

/-- A conditional update leaves the queue that both of its branches leave. -/
theorem State.firmware_ite {p : Prop} [Decidable p] {y z : State} {l : List FwFrame} (hy : y.esm.firmware = l)
    (hz : z.esm.firmware = l) : (if p then y else z).esm.firmware = l := by
  split
  · exact hy
  · exact hz

theorem State.setEntry_firmware (s : State) (n : Nat) (e : Entry) : (s.setEntry n e).esm.firmware = s.esm.firmware := by
  rw [State.setEntry, State.setEntryWord_esm]

theorem State.joinAccept_firmware (s : State) (fr : FwFrame) (idx eui g new : Nat) :
    (s.joinAccept fr idx eui g new).esm.firmware = s.esm.firmware :=
  congrArg (fun x : Flc × List (Nat × DWord) × List FwFrame => x.2.2) (State.joinAccept_acceptKept ..)

/-- So do a new or changed record, the entry and the descriptor of the JOIN_ACCEPT. -/
theorem State.joining_firmware (s : State) (p : Prop) [Decidable p] (fr : FwFrame) (i : Nat) (r r' : DirRec) (e : Entry)
    (eui g new : Nat) :
    (State.joinAccept (State.setEntry (if p then s.setDirRec i r else s.newDirRec i r') i e) fr i eui g new).esm.firmware =
      s.esm.firmware := by
  rw [State.joinAccept_firmware, State.setEntry_firmware]
  exact State.firmware_ite (State.setDirRec_firmware ..) (congrArg Esm.firmware (State.newDirRec_esm ..))

/-- The directory record of a new endpoint: generation 1, joining, to be confirmed (Table 8-3). -/
def joinRecord (s : State) (eui : Nat) : DirRec := ⟨eui, networkDay s, 1, 0, true, 255⟩

/-- Its entry: joining, with the request's frame counter (Table 8-2, R265). -/
def joinEntry (s : State) (fr : FwFrame) (f : MacFrame) (i : Nat) : Entry :=
  ⟨f.fcnt, heardNow s, compressLq fr.link, 1, 1, (s.entry i).dirty⟩

section
variable {s : State} {fr : FwFrame} {rest : List FwFrame} {f : MacFrame} {c : Nat}
  (htake : takeFirst isJoinRequest s.esm.firmware = some (fr, rest)) (hparse : parseMac fr.bytes = some f)
  (hctime : f.ctime = some c) (hfresh : ctimeOk s c fr.det.start = true)
include htake hparse hctime hfresh

/-- A request with a CTIME within tolerance whose MIC does not verify, or whose key may not be used, is refused (R264). -/
theorem State.joinRequest_unverified {eui g : Nat}
    (hbad : (joinCheckable (s.joinTaken rest) f eui g && joinVerified (s.joinTaken rest) f eui g) = false) :
    s.joinRequest eui g = ((s.joinTaken rest).joinChecked f eui g).joinRefused eui 0x0906 := by
  have hfresh' : ctimeOk (s.joinTaken rest) c fr.det.start = true := hfresh
  simp only [joinCheckable, State.joinTaken] at hbad hfresh'
  unfold State.joinRequest
  dsimp only
  erw [htake]
  simp only [hparse, hctime, hfresh', hbad]
  rfl

/-- One that verifies, of a new endpoint in generation 0, takes a free slot (R263 to R266). -/
theorem State.joinRequest_new {eui i : Nat} {y : State}
    (hgood : (joinCheckable (s.joinTaken rest) f eui 0 && joinVerified (s.joinTaken rest) f eui 0) = true)
    (heui : eui < 2 ^ 64 - 1) (hnew : lookupEui (s.joinTaken rest) eui = none)
    (hfree : insertFrom (s.joinTaken rest) eui 0 64 = some i) (hbank : bankOn (s.joinTaken rest) i = true)
    (hy : y = ((s.joinTaken rest).joinChecked f eui 0).newDirRec i (joinRecord (s.joinTaken rest) eui)) :
    s.joinRequest eui 0 = (y.setEntry i (joinEntry y fr f i)).joinAccept fr i eui 0 1 := by
  have hfresh' : ctimeOk (s.joinTaken rest) c fr.det.start = true := hfresh
  have hjoins : eui % 2 ^ 64 ≠ 2 ^ 64 - 1 := by omega
  simp only [joinCheckable, State.joinTaken] at hgood hfresh' hnew hfree hbank
  subst hy
  unfold State.joinRequest
  dsimp only
  erw [htake]
  simp only [hparse, hctime, hfresh', hgood, hnew, hfree, hbank, hjoins]
  rfl

/-- Whatever becomes of it, the request has left the queue. -/
theorem State.joinRequest_firmware (eui g : Nat) : (s.joinRequest eui g).esm.firmware = rest := by
  have hfresh' : ctimeOk (s.joinTaken rest) c fr.det.start = true := hfresh
  have hchecked := s.joinChecked_firmware rest f eui g
  simp only [joinCheckable, State.joinTaken, State.joinChecked] at hchecked hfresh'
  have hrefused (code : Nat) := (State.joinRefused_firmware _ eui code).trans hchecked
  unfold State.joinRequest
  dsimp only
  erw [htake]
  simp only [hparse, hctime, hfresh', Bool.not_true, Bool.false_eq_true, if_false]
  refine State.firmware_ite (hrefused _) (State.firmware_ite ?_ ?_)
  · rw [State.joinRefused_firmware, State.fresh_esm]
    exact hchecked
  split
  · exact hrefused _
  split
  · refine State.firmware_ite (hrefused _) ?_
    dsimp only
    refine State.firmware_ite (hrefused _) ?_
    rw [State.joining_firmware]
    exact hchecked
  · rw [if_neg Bool.false_ne_true]
    split
    · exact hrefused _
    · refine State.firmware_ite (hrefused _) ?_
      rw [State.joining_firmware]
      exact hchecked
end

theorem State.joinAccept_flc (s : State) (fr : FwFrame) (idx eui g new : Nat) :
    (s.joinAccept fr idx eui g new).flc = s.flc :=
  congrArg Prod.fst (State.joinAccept_acceptKept ..)

theorem State.joinAccept_entryWord (s : State) (fr : FwFrame) (idx eui g new n : Nat) :
    (s.joinAccept fr idx eui g new).entryWord n = s.entryWord n :=
  congrArg (fun x : Flc × List (Nat × DWord) × List FwFrame => Sparse.get (fun _ => (0 : DWord)) x.2.1 n)
    (State.joinAccept_acceptKept ..)

/-- The slot that an insert takes lies in a bank that is on (R256, R257). -/
theorem bankOn_of_insertFrom {s : State} {u k n i : Nat} (h : insertFrom s u k n = some i) : bankOn s i = true := by
  induction n generalizing k with
  | zero => simp [insertFrom] at h
  | succ n ih =>
    rw [insertFrom] at h
    split at h
    case isTrue hfree => exact Option.some.inj h ▸ hfree.2
    case isFalse => exact ih h

theorem State.joinTaken_flc (s : State) (rest : List FwFrame) : (s.joinTaken rest).flc = s.flc := rfl
theorem State.joinTaken_relay (s : State) (rest : List FwFrame) : (s.joinTaken rest).relay = s.relay := rfl
theorem bankOn_joinTaken (s : State) (rest : List FwFrame) : bankOn (s.joinTaken rest) = bankOn s := rfl

theorem lookupEui_joinTaken (s : State) (rest : List FwFrame) (u : Nat) : lookupEui (s.joinTaken rest) u = lookupEui s u :=
  lookupEui_of_flc (State.joinTaken_flc s rest) (State.joinTaken_relay s rest) u

theorem insertFrom_joinTaken (s : State) (rest : List FwFrame) (u k n : Nat) :
    insertFrom (s.joinTaken rest) u k n = insertFrom s u k n :=
  insertFrom_of_flc (State.joinTaken_flc s rest) (congrFun (bankOn_joinTaken s rest)) u k n

/-- Keys are the same for a request once it has left the queue. -/
theorem State.joinTaken_unverified {s : State} (rest : List FwFrame) {f : MacFrame} {eui g : Nat}
    (hbad : (derivedRefuses s eui g (ccmBlocks f.header.length f.payload.length false)).isSome = true ∨
      joinVerified s f eui g = false) :
    (joinCheckable (s.joinTaken rest) f eui g && joinVerified (s.joinTaken rest) f eui g) = false := by
  show ((derivedRefuses s eui g _).isNone && joinVerified s f eui g) = false
  obtain hkey | hmic := hbad
  · rw [Option.isNone_eq_false_iff.mpr hkey, Bool.false_and]
  · rw [hmic, Bool.and_false]

theorem State.joinTaken_verified {s : State} (rest : List FwFrame) {f : MacFrame} {eui g : Nat}
    (hkey : derivedRefuses s eui g (ccmBlocks f.header.length f.payload.length false) = none)
    (hmic : joinVerified s f eui g = true) :
    (joinCheckable (s.joinTaken rest) f eui g && joinVerified (s.joinTaken rest) f eui g) = true := by
  show ((derivedRefuses s eui g _).isNone && joinVerified s f eui g) = true
  rw [hkey, hmic]
  rfl

/-- A refusal after the check leaves entries, flash and items, and its record is the one of a refusal at once. -/
theorem State.joinChecked_refused (s : State) (rest : List FwFrame) (f : MacFrame) (eui g code : Nat) :
    (((s.joinTaken rest).joinChecked f eui g).joinRefused eui code).esm.entries = s.esm.entries ∧
    (((s.joinTaken rest).joinChecked f eui g).joinRefused eui code).flc = s.flc ∧
    (((s.joinTaken rest).joinChecked f eui g).joinRefused eui code).items = s.items ∧
    (((s.joinTaken rest).joinChecked f eui g).joinRefused eui code).hre = (s.joinRefused eui code).hre := by
  have hkept := (s.joinTaken rest).joinChecked_joinKept f eui g
  simp only [State.joinKept, Prod.mk.injEq] at hkept
  obtain ⟨hnet, hitems, hhre, hflc, hesm⟩ := hkept
  have hentries := congrArg Esm.entries hesm
  refine ⟨hentries, hflc, hitems, ?_⟩
  simp only [State.joinRefused, State.record, hhre, hnet]
  rfl

/-- A new endpoint's record is programmed, and its entry is joining with the request's frame counter (R263, R265). -/
theorem State.joined_shows (s : State) (rest : List FwFrame) (fr : FwFrame) (f : MacFrame) (eui i : Nat) (r : DirRec)
    (hfcnt : f.fcnt < 2 ^ 32) {y q : State} (hy : y = ((s.joinTaken rest).joinChecked f eui 0).newDirRec i r)
    (hq : q = (y.setEntry i (joinEntry y fr f i)).joinAccept fr i eui 0 1) :
    q.flc = (s.newDirRec i r).flc ∧ (q.entry i).state = 1 ∧ (q.entry i).gen = 1 ∧ (q.entry i).hwm = f.fcnt ∧
      ∀ k, k ≠ i → q.entryWord k = s.entryWord k := by
  have hkept := (s.joinTaken rest).joinChecked_joinKept f eui 0
  simp only [State.joinKept, Prod.mk.injEq] at hkept
  obtain ⟨-, -, -, hflc, hesm⟩ := hkept
  have hentry : q.entry i = (y.setEntry i (joinEntry y fr f i)).entry i := by
    rw [hq, State.entry, State.joinAccept_entryWord, State.entry]
  refine ⟨?_, ?_, ?_, ?_, fun k hk => ?_⟩
  · rw [hq, State.joinAccept_flc, State.setEntry_flc, hy]
    exact State.newDirRec_flc (x := s) hflc i r
  · rw [hentry, State.entry_setEntry_same]
    rfl
  · rw [hentry, State.entry_setEntry_same]
    rfl
  · rw [hentry, State.entry_setEntry_same]
    exact Nat.mod_eq_of_lt hfcnt
  · rw [hq, State.joinAccept_entryWord, State.entryWord_setEntry_other _ _ hk, State.entryWord, hy, State.newDirRec_esm, hesm]
    rfl

/-- A state once the end of a JOIN_ACCEPT has been taken. -/
def State.acceptTaken (s : State) (k : Nat) (rest : List (Nat × Bool)) : State :=
  { s with esm := { s.esm with accepts := rest, joins := s.esm.joins.filter (fun j => j.k != k) } }

/-- An accept that was not sent ends the join alone (R265). -/
theorem State.joinEnd_unsent {s : State} {k : Nat} {rest : List (Nat × Bool)} (haccepts : s.esm.accepts = (k, false) :: rest) :
    s.joinEnd = s.acceptTaken k rest := by
  rw [State.joinEnd, haccepts]
  dsimp only
  split <;> rfl

/-- One that was sent makes a record that is still joining active, and the entry with it (R265). -/
theorem State.joinEnd_sent {s : State} {k : Nat} {rest : List (Nat × Bool)} {j : Join}
    (haccepts : s.esm.accepts = (k, true) :: rest) (hjoin : s.esm.joins.find? (fun j => j.k == k) = some j)
    (hjoining : (s.dirRec j.idx).dstate = 0) (heui : (s.dirRec j.idx).eui = j.eui) :
    s.joinEnd = ((s.acceptTaken k rest).setDirRec j.idx { s.dirRec j.idx with dstate := 1 }).setEntry j.idx
      { s.entry j.idx with state := 2 } := by
  simp only [State.joinEnd, haccepts, hjoin, hjoining, heui, Bool.true_and, beq_self_eq_true, if_true]
  rfl

/-- What the end of an accept that was sent shows. -/
theorem State.joinEnd_shows {s : State} {k : Nat} {rest : List (Nat × Bool)} {j : Join}
    (haccepts : s.esm.accepts = (k, true) :: rest) (hjoin : s.esm.joins.find? (fun j => j.k == k) = some j)
    (hjoining : (s.dirRec j.idx).dstate = 0) (heui : (s.dirRec j.idx).eui = j.eui) :
    s.joinEnd.esm.accepts = rest ∧ s.joinEnd.flc = (s.setDirRec j.idx { s.dirRec j.idx with dstate := 1 }).flc ∧
      (s.joinEnd.entry j.idx).state = 2 ∧ (s.joinEnd.entry j.idx).hwm = (s.entry j.idx).hwm ∧
      ∀ n, n ≠ j.idx → s.joinEnd.entryWord n = s.entryWord n := by
  rw [State.joinEnd_sent haccepts hjoin hjoining heui]
  refine ⟨?_, ?_, ?_, ?_, fun n hn => ?_⟩
  · rw [State.setEntry, State.setEntryWord_esm]
    exact State.setDirRec_accepts ..
  · rw [State.setEntry_flc]
    exact State.setDirRec_flc (s := s.acceptTaken k rest) (x := s) rfl rfl _ _
  · rw [State.entry_setEntry_same]
    rfl
  · rw [State.entry_setEntry_same]
    exact Nat.mod_eq_of_lt (s.entry_ranges j.idx).1
  · rw [State.entryWord_setEntry_other _ _ hn, State.setDirRec_entryWord]
    rfl

/-- Settles O28: a join request is refused or takes a slot (State.joinRequest_unverified, State.joinRequest_new), the end of its
accept ends the join (State.joinEnd_shows), and restore and compaction are one branch of their functions each. -/
theorem joins : Obligations.Joins := by
  unfold Obligations.Joins
  refine ⟨?unverified, ?new, ?sent, ?unsent, ?rebuilt, ?lost, ?unfilled, ?begins, ?marker, ?erase, ?copy, ?applied⟩
  case unverified =>
    rintro s x t eui g fr rest f c rfl htake hparse hctime hfresh
    refine ⟨_, rfl, State.joinRequest_firmware htake hparse hctime hfresh eui g, fun hbad => ?_⟩
    rw [State.joinRequest_unverified htake hparse hctime hfresh (State.joinTaken_unverified rest hbad)]
    exact State.joinChecked_refused ..
  case new =>
    rintro s x t eui i fr rest f c rfl htake hparse hctime hfresh hkey hnew hfree heui hfcnt
    refine ⟨_, rfl, State.joinRequest_firmware htake hparse hctime hfresh eui 0, fun hverified => ?_⟩
    have hgood := State.joinTaken_verified rest hkey hverified
    have hnew' := (lookupEui_joinTaken (s.at t) rest eui).trans hnew
    have hfree' := (insertFrom_joinTaken (s.at t) rest eui 0 64).trans hfree
    have hjoins := State.joinRequest_new htake hparse hctime hfresh hgood heui hnew' hfree' (bankOn_of_insertFrom hfree') rfl
    exact State.joined_shows (s.at t) rest fr f eui i _ hfcnt rfl hjoins
  case sent =>
    rintro s x t k rest j rfl haccepts hjoin hjoining heui
    exact ⟨_, rfl, State.joinEnd_shows haccepts hjoin hjoining heui⟩
  case unsent =>
    rintro s x t k rest rfl haccepts
    exact ⟨_, congrArg Host.Outcome.next (State.joinEnd_unsent haccepts), rfl, rfl, rfl, rfl⟩
  case rebuilt =>
    rintro s x t n rfl hlost hbad
    refine ⟨_, congrArg Host.Outcome.next (State.esmRestore_one hlost hbad), ?_, ?_, fun k hk => ?_⟩
    · rw [State.restoreEntry, State.setEntryWord_esm, hbad]
      simp
    · rw [State.restoreEntry, State.entryWord_setEntryWord, if_pos rfl]
    · rw [State.restoreEntry, State.entryWord_setEntryWord, if_neg hk]
  case lost =>
    rintro s x t rfl hlost
    obtain ⟨y, hrestored, hitems⟩ := State.esmRestore_all hlost
    exact ⟨_, congrArg Host.Outcome.next hrestored, State.on_put_zero _ _ (by decide), hitems⟩
  case unfilled =>
    rintro s x t rfl hnone hopen hfull
    exact congrArg Host.Outcome.next (State.compact_unfilled hnone hopen hfull)
  case begins =>
    rintro s x t rfl hnone hopen
    obtain ⟨hentries, hitems⟩ := State.compact_keeps hnone hopen
    refine ⟨_, rfl, hentries, hitems, fun hfull b hblock => ?_, fun hfull hblock => ?_⟩
    · rw [State.compact_begins hnone hopen hfull hblock]
      exact ⟨rfl, rfl⟩
    · rw [State.compact_clears hnone hopen hfull hblock]
  case marker =>
    rintro s x t b q rfl hstep
    exact ⟨_, congrArg Host.Outcome.next (State.compact_marker hstep), rfl, rfl,
      (State.atStep_items ..).trans (State.items_of_offFlash (State.writeMarker_offFlash ..))⟩
  case erase =>
    rintro s x t b q rfl hstep
    exact ⟨_, congrArg Host.Outcome.next (State.compact_erase hstep), rfl, rfl, rfl⟩
  case copy =>
    rintro s x t b q rfl hstep
    exact ⟨_, congrArg Host.Outcome.next (State.compact_copy hstep), rfl, rfl,
      (State.atStep_items ..).trans (State.items_of_offFlash (State.copyImage_offFlash ..))⟩
  case applied =>
    rintro s x t b q rfl hstep
    exact ⟨_, congrArg Host.Outcome.next (State.compact_applied hstep), rfl, rfl,
      (State.atStep_items ..).trans (State.items_of_offFlash (State.writeApplied_offFlash ..))⟩

end Sys2Proof.Machine

/-! PROOFS. Crypto and identity (chapter 9), and the debug port (chapter 18): the cipher engine's requests and key imports, the
signature engine's operations and owner keys, and debug sessions. -/

namespace Sys2Proof.Machine

/-! ### Lists and fields -/

theorem length_modAt {α : Type} (f : α → α) (l : List α) (n : Nat) : (modAt f l n).length = l.length := by
  induction l generalizing n with
  | nil => rfl
  | cons x l ih => cases n with
    | zero => rfl
    | succ n => rw [modAt, List.length_cons, ih, List.length_cons]

/-- Changing an element of a list and reading another. -/
theorem getD_modAt_other {α : Type} (f : α → α) (d : α) (l : List α) {n k : Nat} (h : k ≠ n) :
    (modAt f l n).getD k d = l.getD k d := by
  induction l generalizing n k with
  | nil => rfl
  | cons x l ih => cases n with
    | zero => cases k with
      | zero => exact absurd rfl h
      | succ k => rfl
    | succ n => cases k with
      | zero => rfl
      | succ k => simpa [modAt] using ih (fun e => h (congrArg Nat.succ e))

theorem wbits_lt (ws : List Word) (i hi lo : Nat) : wbits ws i hi lo < 2 ^ (hi - lo + 1) := Nat.mod_lt _ (Nat.two_pow_pos _)

/-! ### Interrupts and the cores -/

/-- What an interrupt leaves alone of the cores: it may end a WFI, or wait for the completion of its source (R511). -/
def Cpx.uninterrupted (c : Cpx) : Cpx := { c with wfi := [], deferred := [] }

theorem State.wakeCore_uninterrupted (s : State) (c : Nat) :
    (s.wakeCore c).cpx.uninterrupted = s.cpx.uninterrupted := by
  unfold State.wakeCore
  split <;> rfl

theorem State.plic_uninterrupted (s : State) (src : Nat) : (s.plic src).cpx.uninterrupted = s.cpx.uninterrupted := by
  unfold State.plic
  split
  · rfl
  · exact foldl_keeps (p := fun y : State => y.cpx.uninterrupted) State.wakeCore_uninterrupted _ _

theorem State.vector_uninterrupted (s : State) (v src : Nat) :
    (s.vector v src).cpx.uninterrupted = s.cpx.uninterrupted := by
  have hsent : ({ s with msix := s.msix ++ [v] }.sendMsix v).cpx.uninterrupted = s.cpx.uninterrupted := by
    rw [State.sendMsix_cpx]
  unfold State.vector
  split
  · exact State.plic_uninterrupted ..
  · dsimp only
    split
    · rw [State.plic_uninterrupted, hsent]
    · exact hsent

theorem State.irq_uninterrupted (s : State) (b mask : Nat) : (s.irq b mask).cpx.uninterrupted = s.cpx.uninterrupted := by
  unfold State.irq
  split
  · rfl
  · dsimp only
    split
    · rfl
    · split
      · exact State.vector_uninterrupted ..
      · exact State.plic_uninterrupted ..

@[simp] theorem State.irq_session (s : State) (b mask : Nat) : (s.irq b mask).cpx.session = s.cpx.session :=
  (congrArg Cpx.session (State.irq_uninterrupted s b mask) :)
@[simp] theorem State.irq_scope (s : State) (b mask : Nat) : (s.irq b mask).cpx.scope = s.cpx.scope :=
  (congrArg Cpx.scope (State.irq_uninterrupted s b mask) :)
@[simp] theorem State.irq_halted (s : State) (b mask : Nat) : (s.irq b mask).cpx.halted = s.cpx.halted :=
  (congrArg Cpx.halted (State.irq_uninterrupted s b mask) :)
@[simp] theorem State.irq_verifying (s : State) (b mask : Nat) : (s.irq b mask).cpx.verifying = s.cpx.verifying :=
  (congrArg Cpx.verifying (State.irq_uninterrupted s b mask) :)
@[simp] theorem State.irq_failures (s : State) (b mask : Nat) : (s.irq b mask).cpx.failures = s.cpx.failures :=
  (congrArg Cpx.failures (State.irq_uninterrupted s b mask) :)

/-- A bit that an interrupt raises reads as 1 in the block's ISR. -/
theorem State.irq_isr_bit (s : State) {b isr ier src k : Nat} {vec : Option Nat} (hk : k < 32)
    (hb : isrOf b = some (isr, ier, vec, src)) (hs : isr ≠ Reg.SUP_STATUS)
    (hp : isr < Reg.CPX_PLIC_PEND 0 ∨ Reg.CPX_PLIC_PEND 8 ≤ isr) :
    bits ((s.irq b (2 ^ k)).rd isr).toNat k k = 1 := by
  rw [State.irq_isr s _ hb hs hp]
  exact bits_or_bit _ hk

/-! ### Taking a descriptor -/

/-- The descriptor whose turn it is satisfies the predicate that looks for it. -/
theorem takeTurn_satisfies {p : Fetched → Bool} {seen : List Nat} {l : List Fetched} {f : Fetched} {rest : List Fetched}
    (h : takeTurn p seen l = some (f, rest)) : p f = true := by
  induction l generalizing seen rest with
  | nil => cases h
  | cons g l ih =>
    rw [takeTurn] at h
    split at h
    next hturn =>
      obtain ⟨rfl, -⟩ := Prod.mk.inj (Option.some.inj h)
      exact (Bool.and_eq_true_iff.mp hturn).1
    next =>
      obtain ⟨⟨g', rest'⟩, hlater, heq⟩ := Option.map_eq_some_iff.mp h
      obtain ⟨rfl, -⟩ := Prod.mk.inj heq
      exact ih hlater

/-- The descriptor whose turn it is has been taken from those that were fetched. -/
theorem State.onFetched_taken {s : State} {op : Nat} {f : Fetched} {rest : List Fetched} (k : State → Fetched → State)
    (hturn : takeTurn (fun g => wbits g.words 0 7 0 == op) (busyRings s) s.hre.fetched = some (f, rest)) :
    s.onFetched op k = k (s.taken rest) f :=
  State.onFetched_turn k hturn

/-! ### Writes into a descriptor's buffer -/

/-- What a write into a buffer makes of the memories depends on the profile and on them only (R39). -/
theorem State.bufWrite_congr {s r : State} (hrelay : r.relay = s.relay) (hhost : r.hostMem = s.hostMem)
    (hsram : r.sram = s.sram) (ring a : Nat) (bs : List Byte) :
    (r.bufWrite ring a bs).hostMem = (s.bufWrite ring a bs).hostMem ∧
    (r.bufWrite ring a bs).sram = (s.bufWrite ring a bs).sram := by
  have hinside : (r.sramWrite a bs).sram = (s.sramWrite a bs).sram := by simp only [State.sramWrite, hsram]
  have houtside : (r.hostWrite a bs).hostMem = (s.hostWrite a bs).hostMem := by simp only [State.hostWrite, hhost]
  unfold State.bufWrite State.dma
  rw [hrelay]
  split
  · exact ⟨hhost, hinside⟩
  · split
    · exact ⟨hhost, hinside⟩
    · exact ⟨houtside, hsram⟩

/-- A write into a buffer changes memory only. -/
theorem State.bufWrite_eq (s : State) (ring a : Nat) (bs : List Byte) : s.bufWrite ring a bs =
    { s with hostMem := (s.bufWrite ring a bs).hostMem, sram := (s.bufWrite ring a bs).sram } := by
  unfold State.bufWrite State.dma
  split
  · rfl
  · split <;> rfl

@[simp] theorem State.bufWrite_items (s : State) (ring a : Nat) (bs : List Byte) :
    (s.bufWrite ring a bs).items = s.items := by
  rw [State.bufWrite_eq]
@[simp] theorem State.bufWrite_regs (s : State) (ring a : Nat) (bs : List Byte) : (s.bufWrite ring a bs).regs = s.regs := by
  rw [State.bufWrite_eq]
@[simp] theorem State.bufWrite_cry (s : State) (ring a : Nat) (bs : List Byte) : (s.bufWrite ring a bs).cry = s.cry := by
  rw [State.bufWrite_eq]
@[simp] theorem State.bufWrite_get (s : State) (ring a : Nat) (bs : List Byte) (f : Fld) :
    (s.bufWrite ring a bs).get f = s.get f := by
  rw [State.bufWrite_eq, State.get_update]

/-- Then it changes nothing that a completion shows. -/
theorem State.bufWrite_done_hre (s : State) (ring a : Nat) (bs : List Byte) (cring : Nat) (ws : List Word)
    (reason w4 w5 w6 w7 : Nat) :
    ((s.bufWrite ring a bs).done cring ws reason w4 w5 w6 w7).hre = (s.done cring ws reason w4 w5 w6 w7).hre := by
  rw [State.bufWrite_eq]
  rfl

/-! ### Usage of a slot (R288, R289) -/

/-- What the writes of the usage counter, its record in the key store, the interrupts and the EXHAUSTED bit keep, loading a
usage counter keeps. -/
theorem State.setUse_keeps {P : State → Prop} {s : State} {n u : Nat}
    (hwords : P ((s.put (F.CRY_SLOT_USE_LO_USE n) u).put (F.CRY_SLOT_USE_HI_USE n) (u / 2 ^ 32)))
    (hrecord : ∀ y v, P y → P (y.recordUse n v)) (hirq : ∀ y mask, P y → P (y.irq Blk.CRY mask))
    (hexhausted : ∀ y, P y → P (y.put (F.CRY_SLOT_ATTR_EXHAUSTED n) 1)) : P (s.setUse n u) := by
  have hite (p : Prop) [Decidable p] {y z : State} (hy : P y) (hz : P z) : P (if p then y else z) := by
    split
    · exact hy
    · exact hz
  have hnoted (p : Prop) [Decidable p] (v : Nat) := hite p (hrecord _ v hwords) hwords
  unfold State.setUse
  dsimp only
  split
  · exact hnoted _ _
  · have hlow (p q : Prop) [Decidable p] [Decidable q] (v : Nat) := hite q (hirq _ 1 (hnoted p v)) (hnoted p v)
    exact hite _ (hirq _ _ (hexhausted _ (hlow _ _ _))) (hlow _ _ _)

/-- Of the vault it changes at most the recorded usage in the key store. -/
theorem State.setUse_cry (s : State) (n u : Nat) : ∃ l, (s.setUse n u).cry = { s.cry with store := l } := by
  refine State.setUse_keeps (P := fun y => ∃ l, y.cry = { s.cry with store := l }) ⟨s.cry.store, rfl⟩ ?_ ?_ (fun _ h => h)
  · rintro y v ⟨l, h⟩
    rw [State.recordUse, h]
    exact ⟨_, rfl⟩
  · rintro y mask ⟨l, h⟩
    exact ⟨l, (State.irq_cry ..).trans h⟩

/-- No interrupt of the cipher engine touches the slots' registers. -/
theorem irqTouches_slot {a : Nat} (hlo : Reg.CRY_SLOT_ATTR 0 ≤ a) (hhi : a < Reg.CRY_SLOT_ATTR 64) :
    irqTouches Blk.CRY a = false := by
  simp only [Reg.CRY_SLOT_ATTR] at hlo hhi
  rw [Bool.eq_false_iff]
  intro htouch
  simp [irqTouches, isrOf, Blk.CRY, Reg.SUP_STATUS, Reg.CPX_PLIC_PEND, Reg.CRY_ISR] at htouch
  omega

/-- The type of the slot stays (R284). -/
theorem State.setUse_type (s : State) {n : Nat} (u : Nat) (hn : n < 64) :
    (s.setUse n u).on (F.CRY_SLOT_ATTR_TYPE n) = s.on (F.CRY_SLOT_ATTR_TYPE n) := by
  have htouch : irqTouches Blk.CRY (Reg.CRY_SLOT_ATTR n) = false :=
    irqTouches_slot (by simp only [Reg.CRY_SLOT_ATTR]; omega) (by simp only [Reg.CRY_SLOT_ATTR]; omega)
  refine State.setUse_keeps (P := fun y => y.on (F.CRY_SLOT_ATTR_TYPE n) = s.on (F.CRY_SLOT_ATTR_TYPE n)) ?_
    (fun _ _ h => h) (fun y mask h => (State.irq_on y _ mask htouch).trans h) (fun y h => ?_)
  · rw [State.on_put_reg, State.on_put_reg] <;>
      simp only [F.CRY_SLOT_ATTR_TYPE, F.CRY_SLOT_USE_LO_USE, F.CRY_SLOT_USE_HI_USE, Reg.CRY_SLOT_ATTR, Reg.CRY_SLOT_USE_LO,
        Reg.CRY_SLOT_USE_HI] <;> omega
  · rw [State.on_put_field _ _ _ _ (by simp [F.CRY_SLOT_ATTR_EXHAUSTED])
      (by simp [F.CRY_SLOT_ATTR_EXHAUSTED, F.CRY_SLOT_ATTR_TYPE]), h]

/-- A slot's usage reads the same in two states whose registers of it are the same. -/
theorem slotUse_of_rd {s r : State} {n : Nat} (hlo : r.rd (Reg.CRY_SLOT_USE_LO n) = s.rd (Reg.CRY_SLOT_USE_LO n))
    (hhi : r.rd (Reg.CRY_SLOT_USE_HI n) = s.rd (Reg.CRY_SLOT_USE_HI n)) : slotUse r n = slotUse s n := by
  rw [slotUse, State.get_of_rd (f := F.CRY_SLOT_USE_LO_USE n) hlo, State.get_of_rd (f := F.CRY_SLOT_USE_HI_USE n) hhi, slotUse]

/-- The usage counter reads as loaded, cut to its 48 bits. -/
theorem slotUse_setUse (s : State) {n : Nat} (u : Nat) (hn : n < 64) : slotUse (s.setUse n u) n = u % 2 ^ 48 := by
  have hlo : irqTouches Blk.CRY (Reg.CRY_SLOT_USE_LO n) = false :=
    irqTouches_slot (by simp only [Reg.CRY_SLOT_ATTR, Reg.CRY_SLOT_USE_LO]; omega)
      (by simp only [Reg.CRY_SLOT_ATTR, Reg.CRY_SLOT_USE_LO]; omega)
  have hhi : irqTouches Blk.CRY (Reg.CRY_SLOT_USE_HI n) = false :=
    irqTouches_slot (by simp only [Reg.CRY_SLOT_ATTR, Reg.CRY_SLOT_USE_HI]; omega)
      (by simp only [Reg.CRY_SLOT_ATTR, Reg.CRY_SLOT_USE_HI]; omega)
  refine State.setUse_keeps (P := fun y => slotUse y n = u % 2 ^ 48) ?_ (fun _ _ h => h) (fun y mask h => ?_) (fun y h => ?_)
  · have hreg : Reg.CRY_SLOT_USE_LO n ≠ Reg.CRY_SLOT_USE_HI n := by simp [Reg.CRY_SLOT_USE_LO, Reg.CRY_SLOT_USE_HI]
    rw [slotUse, State.get_put_reg _ _ _ _ hreg,
      State.get_put_same _ _ _ (by simp [F.CRY_SLOT_USE_LO_USE]), State.get_put_same _ _ _ (by simp [F.CRY_SLOT_USE_HI_USE])]
    simp only [F.CRY_SLOT_USE_LO_USE, F.CRY_SLOT_USE_HI_USE]
    omega
  · exact (slotUse_of_rd (State.irq_rd _ _ _ hlo) (State.irq_rd _ _ _ hhi)).trans h
  · refine (slotUse_of_rd (State.rd_put_other _ _ _ ?_) (State.rd_put_other _ _ _ ?_)).trans h <;>
      simp only [F.CRY_SLOT_ATTR_EXHAUSTED, Reg.CRY_SLOT_ATTR, Reg.CRY_SLOT_USE_LO, Reg.CRY_SLOT_USE_HI] <;> omega

/-! ### Cipher requests (R282, R283) -/

/-- CRY_STATUS and SIG_STATUS are all that follows the queues. -/
theorem State.syncCry_rd (s : State) {a : Nat} (hcry : a ≠ Reg.CRY_STATUS) (hsig : a ≠ Reg.SIG_STATUS) :
    s.syncCry.rd a = s.rd a := by
  rw [State.syncCry, State.rd_put_other _ _ _ hsig, State.rd_put_other _ _ _ hcry]

/-- They leave the types of the slots, and so the keys. -/
theorem slotKey_syncCry (s : State) (n : Nat) : slotKey s.syncCry n = slotKey s n := by
  have htype : s.syncCry.on (F.CRY_SLOT_ATTR_TYPE n) = s.on (F.CRY_SLOT_ATTR_TYPE n) := by
    rw [State.syncCry, State.on_put_field _ _ _ _ (by decide) (by simp [F.SIG_STATUS_BUSY, F.CRY_SLOT_ATTR_TYPE]),
      State.on_put_reg]
    simp only [F.CRY_SLOT_ATTR_TYPE, F.CRY_STATUS_QPEND, Reg.CRY_SLOT_ATTR, Reg.CRY_STATUS]
    omega
  rw [slotKey, htype]
  rfl

theorem keyNow_congr {s r : State} (h : ∀ n, slotKey r n = slotKey s n) (k : KeyName) : keyNow r k = keyNow s k := by
  cases k with
  | slot n => exact h n
  | derived m eui gen => rw [keyNow, derivedKey, h, keyNow, derivedKey]

/-- The key of a queue's first request is fixed as the slots hold it. -/
theorem startHead_congr {s r : State} (h : ∀ n, slotKey r n = slotKey s n) (q : Nat) (l : List CryReq) :
    startHead r q l = startHead s q l := by
  induction l with
  | nil => rfl
  | cons x l ih => rw [startHead, startHead, keyNow_congr h, ih]

/-- A request has joined the host's queue (R282). -/
def State.cryQueued (s : State) (q : CryReq) : State :=
  { s with cry := { s.cry with queue := startHead s hostQueue (s.cry.queue ++ [q]) } }.syncCry

theorem slotKey_cryQueued (s : State) (q : CryReq) (n : Nat) : slotKey (s.cryQueued q) n = slotKey s n :=
  slotKey_syncCry _ n

theorem State.cryQueued_queue (s : State) (q : CryReq) :
    (s.cryQueued q).cry.queue = startHead (s.cryQueued q) hostQueue (s.cry.queue ++ [q]) :=
  (startHead_congr (s := s) (r := s.cryQueued q) (fun n => slotKey_cryQueued s q n) _ _).symm

/-- What a request's blocks and the request itself change, of what the cipher engine shows. -/
theorem State.cryQueued_shows (s : State) {n : Nat} (hn : n < 64) (blocks : Nat) (q : CryReq) :
    ((s.useSlot n blocks).cryQueued q).cry.queue =
      startHead ((s.useSlot n blocks).cryQueued q) hostQueue (s.cry.queue ++ [q]) ∧
    slotKey ((s.useSlot n blocks).cryQueued q) n = slotKey s n ∧
    ((s.useSlot n blocks).cryQueued q).hre = s.hre ∧ ((s.useSlot n blocks).cryQueued q).items = s.items ∧
    slotUse ((s.useSlot n blocks).cryQueued q) n = (slotUse s n + blocks) % 2 ^ 48 := by
  have hkept : (s.useSlot n blocks).joinKept = s.joinKept := State.setUse_joinKept ..
  simp only [State.joinKept, Prod.mk.injEq] at hkept
  obtain ⟨-, hitems, hhre, -⟩ := hkept
  obtain ⟨l, hcry⟩ : ∃ l, (s.useSlot n blocks).cry = { s.cry with store := l } := State.setUse_cry ..
  refine ⟨?_, ?_, hhre, hitems, ?_⟩
  · rw [State.cryQueued_queue, hcry]
  · rw [slotKey_cryQueued, slotKey, hcry, State.useSlot, State.setUse_type s _ hn, slotKey]
  · have hregs (a : Nat) (hlo : Reg.CRY_SLOT_ATTR 0 ≤ a) (hhi : a < Reg.CRY_SLOT_ATTR 64) :
        ((s.useSlot n blocks).cryQueued q).rd a = (s.useSlot n blocks).rd a :=
      State.syncCry_rd _ (by simp only [Reg.CRY_SLOT_ATTR, Reg.CRY_STATUS] at *; omega)
        (by simp only [Reg.CRY_SLOT_ATTR, Reg.SIG_STATUS] at *; omega)
    refine (slotUse_of_rd (hregs _ ?_ ?_) (hregs _ ?_ ?_)).trans (slotUse_setUse s _ hn) <;>
      simp only [Reg.CRY_SLOT_ATTR, Reg.CRY_SLOT_USE_LO, Reg.CRY_SLOT_USE_HI] <;> omega

/-- A request that passes its checks, with a slot's key and no device nonce, is counted in the slot's usage and queued
(R283, R288). -/
theorem State.cryOp_accepts {s : State} {f : Fetched} (hpass : cryRefusal s f = none) (hslot : wbits f.words 6 4 4 = 0)
    (hnonce : wbits f.words 6 11 11 = 0) : s.cryOp f =
      (s.useSlot (wbits f.words 6 10 5) (cryBlocks f)).cryQueued ⟨hostQueue, f, .slot (wbits f.words 6 10 5), none, none⟩ := by
  rw [State.cryOp, hpass]
  dsimp only
  cases handleEntry s (wbits f.words 7 31 16) <;>
    simp only [hslot, hnonce, Nat.zero_ne_one, if_false] <;> rfl

theorem State.cryOp_refused {s : State} {f : Fetched} {c : Nat} (hrefused : cryRefusal s f = some c) :
    s.cryOp f = s.refuseCry f c := by
  rw [State.cryOp, hrefused]

/-- The oldest request has left the pipeline, and is counted (R282). -/
def State.cipherTaken (s : State) (q : CryReq) (rest : List CryReq) : State :=
  { s with cry := { s.cry with queue := startHead s q.queue rest } }.syncCry.count (F.CRY_CNT_COUNT 0)

theorem State.cipherTaken_count (s : State) (q : CryReq) (rest : List CryReq) :
    (s.cipherTaken q rest).get (F.CRY_CNT_COUNT 0) = Nat.min (s.get (F.CRY_CNT_COUNT 0) + 1) 0xFFFFFFFF := by
  rw [State.cipherTaken, State.get_count_same _ _ (by decide),
    State.get_of_rd (f := F.CRY_CNT_COUNT 0) (State.syncCry_rd _ (by decide) (by decide))]
  rfl

/-- What a request yields under a key, from its buffer and without a device nonce (Table 9-2). -/
def cipherResult (f : Fetched) (k : AesKey) : Option (List Byte × Nat) :=
  cipherOutput (cryMode f) (cryTagLen f) k (f.buf.take 16) (slice f.buf 16 (cryAad f))
    (slice f.buf (16 + cryAad f) (cryData f)) (slice f.buf (16 + cryAad f + cryData f) 16)

/-- The address of a request's data section (R283). -/
def cryDataAt (f : Fetched) : Nat := wordAt f.words 4 + wordAt f.words 5 * 2 ^ 32 + 16 + cryAad f

section
variable {s : State} {q : CryReq} {rest : List CryReq} {k : AesKey}

/-- The oldest request completes with its output (R283). -/
theorem State.cipherDone_yields {out : List Byte} {len : Nat} (hqueue : s.cry.queue = q :: rest) (hkey : q.key = some k)
    (hnonce : q.nonce = none) (hout : cipherResult q.f k = some (out, len)) : s.cipherDone false =
      ((s.cipherTaken q rest).bufWrite q.f.ring (cryDataAt q.f) out).done q.f.ring q.f.words 0 (w4 := len % 65536) := by
  rw [cipherResult] at hout
  rw [State.cipherDone, hqueue]
  simp only [hkey, hnonce, Option.getD_some, hout, Bool.false_eq_true, if_false]
  rfl

/-- A decryption whose tag fails leaves zeros in the place of the data (R283). -/
theorem State.cipherDone_tagFails (hqueue : s.cry.queue = q :: rest) (hkey : q.key = some k) (hnonce : q.nonce = none)
    (hout : cipherResult q.f k = none) : s.cipherDone false =
      ((s.cipherTaken q rest).bufWrite q.f.ring (cryDataAt q.f) (List.replicate (cryData q.f) 0)).done q.f.ring q.f.words
        0x0B05 := by
  rw [cipherResult] at hout
  rw [State.cipherDone, hqueue]
  simp only [hkey, hnonce, Option.getD_some, hout, Bool.false_eq_true, if_false]
  rfl

end

/-- A request that has left the pipeline and completed, with `bs` written in the place of its data. -/
theorem State.cipherTaken_completes (s : State) (q : CryReq) (rest : List CryReq) (bs : List Byte) (reason w4 : Nat)
    {r : State} (hr : r = ((s.cipherTaken q rest).bufWrite q.f.ring (cryDataAt q.f) bs).done q.f.ring q.f.words reason w4) :
    (r.cry.queue = startHead s q.queue rest ∧ r.items = s.items ∧
      r.get (F.CRY_CNT_COUNT 0) = Nat.min (s.get (F.CRY_CNT_COUNT 0) + 1) 0xFFFFFFFF) ∧
    r.hre = (s.done q.f.ring q.f.words reason w4).hre ∧
    r.hostMem = (s.bufWrite q.f.ring (cryDataAt q.f) bs).hostMem ∧ r.sram = (s.bufWrite q.f.ring (cryDataAt q.f) bs).sram := by
  subst hr
  obtain ⟨hhost, hsram⟩ := State.bufWrite_congr (s := s) (r := s.cipherTaken q rest) rfl rfl rfl q.f.ring (cryDataAt q.f) bs
  refine ⟨⟨?_, ?_, ?_⟩, State.bufWrite_done_hre .., hhost, hsram⟩
  · rw [State.done_cry, State.bufWrite_cry]; rfl
  · rw [State.done_items, State.bufWrite_items]; rfl
  · rw [State.done_get, State.bufWrite_get, State.cipherTaken_count]

/-! ### Key import (R286) -/

/-- A completion that is counted, after a change that joins also leave out of account, is the request's own. -/
theorem State.countedDone_of_joinKept {s r : State} (h : r.joinKept = s.joinKept) (fld : Fld) (ring : Nat) (ws : List Word) :
    ((r.count fld).done ring ws).hre = (s.done ring ws).hre ∧ ((r.count fld).done ring ws).items = s.items := by
  simp only [State.joinKept, Prod.mk.injEq] at h
  obtain ⟨hnet, hitems, hhre, -⟩ := h
  simp only [State.done, State.complete, State.count_hre, State.count_net, State.count_items, hnet, hhre, hitems, and_self]

/-- It leaves every register but its count. -/
theorem State.countedDone_rd (s : State) (fld : Fld) (ring : Nat) (ws : List Word) {a : Nat} (ha : a ≠ fld.addr) :
    ((s.count fld).done ring ws).rd a = s.rd a :=
  State.rd_put_other s fld _ ha

theorem State.countedDone_cry (s : State) (fld : Fld) (ring : Nat) (ws : List Word) :
    ((s.count fld).done ring ws).cry = s.cry := rfl

/-- The key-encryption key of a wrapped KEY_IMPORT has been used (R286, R288). -/
def State.kekUsed (s : State) (f : Fetched) : State :=
  if wbits f.words 6 7 6 == 0 then s.useSlot (wbits f.words 6 13 8) (if wbits f.words 6 14 14 = 0 then 12 else 24) else s

/-- A slot is noted as imported (R292). -/
def State.importNoted (s : State) (n : Nat) : State := { s with cry := { s.cry with imported := n :: s.cry.imported } }

@[simp] theorem State.importNoted_joinKept (s : State) (n : Nat) : (s.importNoted n).joinKept = s.joinKept := rfl
@[simp] theorem State.importNoted_rd (s : State) (n a : Nat) : (s.importNoted n).rd a = s.rd a := rfl
@[simp] theorem State.importNoted_vault (s : State) (n : Nat) : (s.importNoted n).cry.vault = s.cry.vault := rfl
@[simp] theorem State.importNoted_storing (s : State) (n : Nat) : (s.importNoted n).cry.storing = s.cry.storing := rfl

/-- A KEY_IMPORT has taken its effect on the vault. -/
def State.keyLoaded (s : State) (f : Fetched) : State :=
  let key := beNat ((importedKey s f).getD [])
  ((s.kekUsed f).loadSlot (wbits f.words 6 5 0) (importAttr f) key).importNoted (wbits f.words 6 5 0)

section
variable {s : State} {f : Fetched}

theorem State.keyImport_refused {c : Nat} (hrefused : importRefusal s f = some c) : s.keyImport f = s.refuseCry f c := by
  rw [State.keyImport, hrefused]

theorem State.keyImport_volatile (hpass : importRefusal s f = none) (hvolatile : wbits f.words 6 15 15 = 0) :
    s.keyImport f = ((s.keyLoaded f).count (F.CRY_CNT_COUNT 0)).done f.ring f.words := by
  rw [State.keyImport, hpass]
  exact if_neg (by rw [hvolatile]; decide)

theorem State.keyImport_persistent (hpass : importRefusal s f = none) (hpersist : wbits f.words 6 15 15 = 1) :
    s.keyImport f = (s.keyLoaded f).storeQueue f
      (.key ⟨wbits f.words 6 5 0, word (importAttr f), beNat ((importedKey s f).getD []), none⟩) := by
  rw [State.keyImport, hpass]
  exact if_pos hpersist

/-- Using the key-encryption key changes, beside registers, at most the recorded usage in the key store (R289). -/
theorem State.kekUsed_frame (s : State) (f : Fetched) :
    (s.kekUsed f).joinKept = s.joinKept ∧ ∃ l, (s.kekUsed f).cry = { s.cry with store := l } := by
  unfold State.kekUsed
  split
  · exact ⟨State.setUse_joinKept .., State.setUse_cry ..⟩
  · exact ⟨rfl, s.cry.store, rfl⟩

theorem State.loadSlot_joinKept (s : State) (n attr key : Nat) : (s.loadSlot n attr key).joinKept = s.joinKept := rfl
theorem State.loadSlot_vault (s : State) (n attr key : Nat) :
    (s.loadSlot n attr key).cry.vault = modAt (fun _ => key) s.cry.vault n := rfl
theorem State.loadSlot_storing (s : State) (n attr key : Nat) : (s.loadSlot n attr key).cry.storing = s.cry.storing := rfl

theorem State.keyLoaded_joinKept (s : State) (f : Fetched) : (s.keyLoaded f).joinKept = s.joinKept := by
  rw [State.keyLoaded, State.importNoted_joinKept, State.loadSlot_joinKept, (State.kekUsed_frame s f).1]

/-- Of the slots' keys an import changes one, and it leaves the writes of the key store. -/
theorem State.keyLoaded_cry (s : State) (f : Fetched) :
    (s.keyLoaded f).cry.vault = modAt (fun _ => beNat ((importedKey s f).getD [])) s.cry.vault (wbits f.words 6 5 0) ∧
    (s.keyLoaded f).cry.storing = s.cry.storing := by
  obtain ⟨-, l, hused⟩ := State.kekUsed_frame s f
  rw [State.keyLoaded, State.importNoted_vault, State.importNoted_storing, State.loadSlot_vault, State.loadSlot_storing, hused]
  exact ⟨rfl, rfl⟩

/-- The registers of a slot that has been loaded: its usage counter starts again (R286). -/
theorem State.loadSlot_rd (s : State) (n attr key : Nat) :
    (s.loadSlot n attr key).rd (Reg.CRY_SLOT_ATTR n) = word attr ∧
    (s.loadSlot n attr key).rd (Reg.CRY_SLOT_USE_LO n) = 0 ∧ (s.loadSlot n attr key).rd (Reg.CRY_SLOT_USE_HI n) = 0 := by
  have hlo : Reg.CRY_SLOT_ATTR n ≠ Reg.CRY_SLOT_USE_LO n := by simp only [Reg.CRY_SLOT_ATTR, Reg.CRY_SLOT_USE_LO]; omega
  have hhi : Reg.CRY_SLOT_ATTR n ≠ Reg.CRY_SLOT_USE_HI n := by simp only [Reg.CRY_SLOT_ATTR, Reg.CRY_SLOT_USE_HI]; omega
  have huse : Reg.CRY_SLOT_USE_LO n ≠ Reg.CRY_SLOT_USE_HI n := by simp only [Reg.CRY_SLOT_USE_LO, Reg.CRY_SLOT_USE_HI]; omega
  rw [State.loadSlot]
  simp only [State.rd_update, State.rd_wr_same, State.rd_wr_other _ _ hlo, State.rd_wr_other _ _ hhi,
    State.rd_wr_other _ _ huse, and_self]

theorem State.keyLoaded_rd (s : State) (f : Fetched) :
    (s.keyLoaded f).rd (Reg.CRY_SLOT_ATTR (wbits f.words 6 5 0)) = word (importAttr f) ∧
    (s.keyLoaded f).rd (Reg.CRY_SLOT_USE_LO (wbits f.words 6 5 0)) = 0 ∧
    (s.keyLoaded f).rd (Reg.CRY_SLOT_USE_HI (wbits f.words 6 5 0)) = 0 := by
  rw [State.keyLoaded, State.importNoted_rd, State.importNoted_rd, State.importNoted_rd]
  exact State.loadSlot_rd ..

/-- The fields of an imported key's ATTR word (Table 9-5). -/
theorem importAttr_fields (f : Fetched) (n : Nat) :
    (F.CRY_SLOT_ATTR_VALID n).value (word (importAttr f)) = 1 ∧
    (F.CRY_SLOT_ATTR_MODES n).value (word (importAttr f)) = wbits f.words 7 8 0 ∧
    (F.CRY_SLOT_ATTR_LIMIT_LOG2 n).value (word (importAttr f)) = wbits f.words 7 14 9 := by
  have htype := wbits_lt f.words 6 14 14
  have hpersist := wbits_lt f.words 6 15 15
  have hkek := wbits_lt f.words 6 16 16
  have hmodes := wbits_lt f.words 7 8 0
  have hlimit := wbits_lt f.words 7 14 9
  simp only [Fld.value, F.CRY_SLOT_ATTR_VALID, F.CRY_SLOT_ATTR_MODES, F.CRY_SLOT_ATTR_LIMIT_LOG2, word, importAttr,
    BitVec.toNat_ofNat]
  omega

/-- The imported key stands in its slot, and every other slot keeps its key (R286). -/
theorem State.keyLoaded_vault (s : State) (f : Fetched) (hvault : s.cry.vault.length = 64) :
    (s.keyLoaded f).cry.vault.getD (wbits f.words 6 5 0) 0 = beNat ((importedKey s f).getD []) ∧
    ((List.range 64).filter (fun k => k != wbits f.words 6 5 0)).map (fun k => (s.keyLoaded f).cry.vault.getD k 0) =
      ((List.range 64).filter (fun k => k != wbits f.words 6 5 0)).map (fun k => s.cry.vault.getD k 0) := by
  rw [(State.keyLoaded_cry s f).1]
  refine ⟨getD_modAt_same _ _ _ _ (by rw [hvault]; exact wbits_lt f.words 6 5 0), List.map_congr_left (fun k hk => ?_)⟩
  exact getD_modAt_other _ _ _ (by simpa using (List.mem_filter.mp hk).2)

/-- The imported slot's registers, in any state that has them as the import left them. -/
theorem slotImported_of_rd {s r : State} {f : Fetched} {n : Nat} (hn : n = wbits f.words 6 5 0)
    (hr : ∀ a, Reg.CRY_SLOT_ATTR 0 ≤ a → r.rd a = (s.keyLoaded f).rd a) :
    r.on (F.CRY_SLOT_ATTR_VALID n) = true ∧ r.get (F.CRY_SLOT_ATTR_MODES n) = wbits f.words 7 8 0 ∧
    r.get (F.CRY_SLOT_ATTR_LIMIT_LOG2 n) = wbits f.words 7 14 9 ∧ slotUse r n = 0 := by
  obtain ⟨hattr, hlo, hhi⟩ := State.keyLoaded_rd s f
  rw [← hr _ (by simp only [Reg.CRY_SLOT_ATTR]; omega), ← hn] at hattr
  rw [← hr _ (by simp only [Reg.CRY_SLOT_ATTR, Reg.CRY_SLOT_USE_LO]; omega), ← hn] at hlo
  rw [← hr _ (by simp only [Reg.CRY_SLOT_ATTR, Reg.CRY_SLOT_USE_HI]; omega), ← hn] at hhi
  obtain ⟨hvalid, hmodes, hlimit⟩ := importAttr_fields f n
  refine ⟨?_, ?_, ?_, ?_⟩
  · rw [State.on, State.get, show (F.CRY_SLOT_ATTR_VALID n).addr = Reg.CRY_SLOT_ATTR n from rfl, hattr, hvalid]
    rfl
  · rw [State.get, show (F.CRY_SLOT_ATTR_MODES n).addr = Reg.CRY_SLOT_ATTR n from rfl, hattr, hmodes]
  · rw [State.get, show (F.CRY_SLOT_ATTR_LIMIT_LOG2 n).addr = Reg.CRY_SLOT_ATTR n from rfl, hattr, hlimit]
  · rw [slotUse, State.get, State.get, show (F.CRY_SLOT_USE_LO_USE n).addr = Reg.CRY_SLOT_USE_LO n from rfl,
      show (F.CRY_SLOT_USE_HI_USE n).addr = Reg.CRY_SLOT_USE_HI n from rfl, hlo, hhi]
    simp [Fld.value]

end

/-! ### Writes of the key store (R294, R304) -/

/-- What starting the flash controller's waiting work leaves alone, of what a write of the key store is about: the rings, the
promise table, the slots' keys, the owner keys with their sequence, and how many writes are in progress. -/
def State.storeKept (s : State) : Hre × List Item × List Nat × List (Option (List Byte)) × Nat × Word :=
  (s.hre, s.items, s.cry.vault, s.cry.owners, s.cry.storing.length, s.rd Reg.SIG_OWNER_SEQ)

theorem State.storeKept_of_offFlash {s r : State} (h : r.offFlash = s.offFlash) : r.storeKept = s.storeKept := by
  have hkept := congrArg State.storeKept h
  exact hkept

theorem State.put_storeKept (s : State) (f : Fld) (v : Nat) (hf : Reg.SIG_OWNER_SEQ ≠ f.addr) :
    (s.put f v).storeKept = s.storeKept := by
  rw [State.storeKept, State.rd_put_other s f v hf]
  rfl

theorem State.irq_storeKept (s : State) (b mask : Nat) (h : irqTouches b Reg.SIG_OWNER_SEQ = false) :
    (s.irq b mask).storeKept = s.storeKept := by
  rw [State.storeKept, State.irq_rd s b mask h, State.irq_hre, State.irq_items, State.irq_cry, State.storeKept]

theorem State.storeKept_ite {p : Prop} [Decidable p] {s y z : State} (hy : y.storeKept = s.storeKept)
    (hz : z.storeKept = s.storeKept) : (if p then y else z).storeKept = s.storeKept := by
  split
  · exact hy
  · exact hz

theorem State.freshBytes_storeKept (s : State) (n : Nat) : (s.freshBytes n).2.storeKept = s.storeKept := by
  induction n generalizing s with
  | zero => rfl
  | succ n ih => exact ih (s.fresh 256).2

/-- A record of the operation journal is a change of flash (R381). -/
theorem State.openRecord_offFlash (s : State) (a kind source len : Nat) :
    (s.openRecord a kind source len).offFlash = s.offFlash := by
  have hprogram := State.program_offFlash s (opJournalAt s.flc.journalNext) (opRecord a kind source len s.flc.journalSeq)
  unfold State.openRecord
  dsimp only
  split
  · exact hprogram
  · exact hprogram

theorem State.journalOp_storeKept (s : State) (o : FlashOp) : (s.journalOp o).1.storeKept = s.storeKept := by
  unfold State.journalOp
  dsimp only
  split
  · rfl
  · exact State.storeKept_of_offFlash (State.openRecord_offFlash ..)

theorem State.beginOp_storeKept (s : State) (o : FlashOp) : (s.beginOp o).storeKept = s.storeKept :=
  State.journalOp_storeKept s o

/-- The oldest write of the key store has been issued, to the next page (R294). -/
def State.storeIssued (s : State) : State := { s with cry := { s.cry with
  storePage := s.cry.storePage + 1
  storing := modAt (fun j => { j with issued := true }) s.cry.storing 0 } }

theorem State.storeIssued_storeKept (s : State) : s.storeIssued.storeKept = s.storeKept := by
  simp only [State.storeKept, State.storeIssued, length_modAt]
  rfl

theorem State.beginStore_storeKept (s : State) : s.beginStore.storeKept = s.storeKept := by
  have hpage (p : Prop) [Decidable p] (a : Nat) : (if p then s.eraseRange a 32768 else s).storeKept = s.storeKept :=
    State.storeKept_ite rfl rfl
  exact (State.beginOp_storeKept _ _).trans ((State.storeIssued_storeKept _).trans
    ((State.freshBytes_storeKept _ _).trans (hpage _ _)))

theorem State.syncFlc_storeKept (s : State) : s.syncFlc.storeKept = s.storeKept := by
  unfold State.syncFlc
  dsimp only
  iterate 9 rw [State.put_storeKept _ _ _ (by decide)]

theorem State.startWaiting_storeKept (s0 : State) : s0.startWaiting.storeKept = s0.storeKept := by
  unfold State.startWaiting
  extract_lets +lift s flc s1 locked ready flc1 s2
  have hs : s.storeKept = s0.storeKept := State.storeKept_ite (State.beginStore_storeKept _) rfl
  have hs1 : s1.storeKept = s.storeKept := by
    simp only [s1]
    split
    · rfl
    · split
      · exact State.storeKept_ite (State.beginOp_storeKept _ _) rfl
      · refine State.storeKept_ite (State.storeKept_ite ?_ ?_) rfl
        · exact (State.irq_storeKept _ _ _ (by decide)).trans (State.put_storeKept _ _ _ (by decide))
        · exact State.journalOp_storeKept s _
  have hs2 : s2.storeKept = s1.storeKept := by
    simp only [s2]
    split
    · exact State.beginOp_storeKept _ _
    · rfl
  refine State.storeKept_ite (State.syncFlc_storeKept s0) ?_
  rw [State.syncFlc_storeKept, hs2, hs1, hs]

/-- A write that joins those of the key store: the rings, the promise table and the keys stay, and nothing completes. -/
theorem State.storeQueue_keeps (s : State) (f : Fetched) (e : StoreEntry) :
    (s.storeQueue f e).hre = s.hre ∧ (s.storeQueue f e).items = s.items ∧ (s.storeQueue f e).cry.vault = s.cry.vault ∧
    (s.storeQueue f e).cry.owners = s.cry.owners ∧ (s.storeQueue f e).cry.storing.length = s.cry.storing.length + 1 ∧
    (s.storeQueue f e).rd Reg.SIG_OWNER_SEQ = s.rd Reg.SIG_OWNER_SEQ := by
  have hkept := State.startWaiting_storeKept
    { s with cry := { s.cry with storing := s.cry.storing ++ [(⟨f, e, 2, false⟩ : StoreJob)] } }
  simp only [State.storeKept, Prod.mk.injEq, List.length_append, List.length_singleton] at hkept
  obtain ⟨hhre, hitems, hvault, howners, hstoring, hseq⟩ := hkept
  exact ⟨hhre, hitems, hvault, howners, hstoring, hseq⟩

/-- So it is of the write of an imported key, whose slot holds it at once (R294). -/
theorem State.keyLoaded_storeQueue (s : State) (f : Fetched) (e : StoreEntry) (hvault : s.cry.vault.length = 64) :
    ((s.keyLoaded f).storeQueue f e).cry.vault.getD (wbits f.words 6 5 0) 0 = beNat ((importedKey s f).getD []) ∧
    ((s.keyLoaded f).storeQueue f e).hre = s.hre ∧ ((s.keyLoaded f).storeQueue f e).items = s.items ∧
    ((s.keyLoaded f).storeQueue f e).cry.storing.length = s.cry.storing.length + 1 := by
  have hkept := State.keyLoaded_joinKept s f
  simp only [State.joinKept, Prod.mk.injEq] at hkept
  obtain ⟨-, hitems, hhre, -⟩ := hkept
  obtain ⟨hhre', hitems', hvault', -, hjobs, -⟩ := State.storeQueue_keeps (s.keyLoaded f) f e
  rw [hvault', hhre', hitems', hjobs, (State.keyLoaded_cry s f).2]
  exact ⟨(State.keyLoaded_vault s f hvault).1, hhre, hitems, rfl⟩

/-- Settles O30: a request is the one whose turn it is (State.onFetched_turn); what the vault, the slots' registers and the
rings are after it follows from one equation for each outcome (State.cryOp_accepts, State.cipherTaken_completes,
State.keyImport_volatile, State.keyImport_persistent). -/
theorem cipherEngine : Obligations.CipherEngine := by
  unfold Obligations.CipherEngine
  refine ⟨?accept, ?refuse, ?done, ?imports, ?persist, ?restart, ?noRestart⟩
  case accept =>
    rintro s x y t n f rest rfl hturn hy hpass hslot hnonce rfl
    obtain rfl : y = (s.at t).taken rest := hy
    have hn : wbits f.words 6 10 5 < 64 := wbits_lt f.words 6 10 5
    obtain ⟨hqueue, hkey, hhre, hitems, huse⟩ := State.cryQueued_shows ((s.at t).taken rest) (n := wbits f.words 6 10 5) hn
      (cryBlocks f) ⟨hostQueue, f, .slot (wbits f.words 6 10 5), none, none⟩
    have houtq := congrArg Hre.outq hhre
    exact ⟨_, congrArg Host.Outcome.next ((State.onFetched_taken _ hturn).trans (State.cryOp_accepts hpass hslot hnonce)),
      hqueue, hkey, houtq, hitems, fun _ => huse⟩
  case refuse =>
    rintro s x y t c f rest rfl hturn hy hrefused
    obtain rfl : y = (s.at t).taken rest := hy
    exact congrArg Host.Outcome.next ((State.onFetched_taken _ hturn).trans (State.cryOp_refused hrefused))
  case done =>
    rintro s x t q rest k z rfl hqueue hkey hnonce hz
    cases z with
    | none =>
      obtain ⟨⟨hq, hitems, hcount⟩, hhre, hhost, hsram⟩ :=
        State.cipherTaken_completes (s.at t) q rest (List.replicate (cryData q.f) 0) 0x0B05 0 rfl
      exact ⟨_, congrArg Host.Outcome.next (State.cipherDone_tagFails hqueue hkey hnonce hz.symm), hq, hitems, hcount,
        fun h => absurd h (by decide), fun _ => ⟨hhre, hhost, hsram⟩⟩
    | some out =>
      obtain ⟨⟨hq, hitems, hcount⟩, hhre, hhost, hsram⟩ :=
        State.cipherTaken_completes (s.at t) q rest out.1 0 (out.2 % 65536) rfl
      exact ⟨_, congrArg Host.Outcome.next (State.cipherDone_yields hqueue hkey hnonce hz.symm), hq, hitems, hcount,
        fun _ => ⟨hhre, hhost, hsram⟩, fun h => absurd h (by simp)⟩
  case imports =>
    rintro s x y t n f rest rfl hturn hy rfl hvault hvolatile
    obtain rfl : y = (s.at t).taken rest := hy
    cases himport : importRefusal ((s.at t).taken rest) f with
    | none =>
      obtain ⟨hhre, hitems⟩ := State.countedDone_of_joinKept (State.keyLoaded_joinKept ((s.at t).taken rest) f)
        (F.CRY_CNT_COUNT 0) f.ring f.words
      obtain ⟨hkey, hothers⟩ := State.keyLoaded_vault ((s.at t).taken rest) f hvault
      obtain ⟨hvalid, hmodes, hlimit, huse⟩ := slotImported_of_rd (f := f) rfl (fun a ha =>
        State.countedDone_rd (((s.at t).taken rest).keyLoaded f) (F.CRY_CNT_COUNT 0) f.ring f.words
          (by simp only [F.CRY_CNT_COUNT, Reg.CRY_CNT, Reg.CRY_SLOT_ATTR] at *; omega))
      rw [← State.countedDone_cry _ (F.CRY_CNT_COUNT 0) f.ring f.words] at hkey hothers
      exact ⟨_, congrArg Host.Outcome.next ((State.onFetched_taken _ hturn).trans
        (State.keyImport_volatile himport hvolatile)),
        hitems, hothers, fun _ => ⟨hkey, hvalid, hmodes, hlimit, fun _ => huse, hhre⟩, fun h => absurd h (by decide)⟩
    | some c =>
      refine ⟨_, congrArg Host.Outcome.next ((State.onFetched_taken _ hturn).trans
        (State.keyImport_refused himport)), rfl, rfl,
        fun h => absurd h (by simp), fun _ => ⟨rfl, rfl, ?_⟩⟩
      exact State.get_count_same ((s.at t).taken rest) (F.CRY_CNT_COUNT 1) (by decide)
  case persist =>
    rintro s x y t n f rest rfl hturn hy hpass hplain rfl hvault hpersist
    obtain rfl : y = (s.at t).taken rest := hy
    have himported : importedKey ((s.at t).taken rest) f = some f.buf := if_pos hplain
    obtain ⟨hkey, hhre, hitems, hjobs⟩ := State.keyLoaded_storeQueue ((s.at t).taken rest) f
      (.key ⟨wbits f.words 6 5 0, word (importAttr f), beNat ((importedKey ((s.at t).taken rest) f).getD []), none⟩) hvault
    have houtq := congrArg Hre.outq hhre
    exact ⟨_, congrArg Host.Outcome.next ((State.onFetched_taken _ hturn).trans (State.keyImport_persistent hpass hpersist)),
      hkey.trans (by rw [himported]; rfl), houtq, hitems, hjobs⟩
  case restart =>
    rintro s x t rfl hbeacon hlink
    exact ⟨_, congrArg Host.Outcome.next (if_pos (by rw [hbeacon, hlink]; rfl)), State.get_put_txfc _ 0, rfl, rfl, rfl, rfl⟩
  case noRestart =>
    rintro s x t rfl hnone
    have hrefused : (s.at t).txfcRestart = (s.at t).put F.CRY_STATUS_REASON 0x0BF7 := by
      rw [State.txfcRestart, hnone]
      rfl
    exact ⟨_, congrArg Host.Outcome.next hrefused, State.get_put_same _ _ _ (by decide), rfl,
      State.get_put_reg _ _ _ _ (by decide)⟩

/-! ### Signatures and hashes (R299, R300) -/

theorem sigRefusal_none {s : State} (hen : s.en Blk.SIG = true) (halarm : s.on F.SEC_ALARM_ACTIVE = false) :
    sigRefusal s = none := by
  simp only [sigRefusal, hen, halarm, Bool.not_true, Bool.false_eq_true, if_false]

/-- A queued operation shows the engine busy (Table 9-9). -/
theorem State.sigQueueUp_busy (s : State) (f : Fetched) (key : Nat) : (s.sigQueueUp f key).on F.SIG_STATUS_BUSY = true := by
  have hbusy : (s.cry.sigQueue ++ [(⟨f, key⟩ : SigReq)]).isEmpty = false := by simp
  unfold State.sigQueueUp State.syncCry
  dsimp only
  rw [hbusy]
  exact State.on_put_one _ _ (by decide) (by decide)

section
variable {s : State} {f : Fetched}

/-- SIG_SIGN with a restored identity key (R300). -/
theorem State.sigSign_accepts (hpass : sigRefusal s = none) (hidentity : s.cry.identity ≠ 0) :
    s.sigSign f = s.sigQueueUp f s.cry.identity := by
  rw [State.sigSign, hpass]
  exact if_neg hidentity

/-- SIG_VERIFY under the vendor's key of a buffer of the exact length (R300). -/
theorem State.sigVerify_accepts (hpass : sigRefusal s = none) (hvendor : wbits f.words 6 2 0 = 0)
    (hlength : f.buf.length = wbits f.words 7 15 0 + 114) : s.sigVerify f = s.sigQueueUp f 0 := by
  rw [State.sigVerify, hpass]
  simp [hvendor, hlength]

/-- The context of a first part of a hash is open (R300). -/
def State.hashOpened (s : State) (c : Nat) : State :=
  { s with cry := { s.cry with contexts := modAt (fun x => { x with isOpen := true }) s.cry.contexts c } }

theorem State.hashOpened_isOpen (s : State) {c : Nat} (hc : c < s.cry.contexts.length) :
    ((s.hashOpened c).cry.contexts.getD c HashCtx.closed).isOpen = true := by
  rw [State.hashOpened, getD_modAt_same _ _ _ _ hc]

/-- HASH with FIRST and not LAST in a closed context (R300). -/
theorem State.hashOp_opens (hpass : sigRefusal s = none) (hlo : 1 ≤ wbits f.words 6 10 0)
    (hhi : wbits f.words 6 10 0 ≤ 1024) (hfirst : wbits f.words 6 14 14 = 1) (hmore : wbits f.words 6 15 15 = 0)
    (hclosed : (s.cry.contexts.getD (wbits f.words 6 13 11) HashCtx.closed).isOpen = false) :
    s.hashOp f = (s.hashOpened (wbits f.words 6 13 11)).sigQueueUp f 0 := by
  rw [State.hashOp, hpass]
  dsimp only
  rw [if_neg (by omega), hclosed, hfirst, hmore]
  rfl

end

/-- The oldest operation has been taken (R299). -/
def State.sigTaken (s : State) (rest : List SigReq) : State :=
  { s with cry := { s.cry with sigQueue := rest } }.syncCry

theorem State.sigTaken_count (s : State) (rest : List SigReq) (n : Nat) :
    (s.sigTaken rest).get (F.SIG_CNT_COUNT n) = s.get (F.SIG_CNT_COUNT n) := by
  refine State.get_of_rd (State.syncCry_rd _ ?_ ?_) <;>
    simp only [F.SIG_CNT_COUNT, Reg.SIG_CNT, Reg.CRY_STATUS, Reg.SIG_STATUS] <;> omega

theorem State.get_count_sig (s : State) (n : Nat) :
    (s.count (F.SIG_CNT_COUNT n)).get (F.SIG_CNT_COUNT n) = Nat.min (s.get (F.SIG_CNT_COUNT n) + 1) 0xFFFFFFFF :=
  State.get_count_same s _ (by simp [F.SIG_CNT_COUNT])

section
variable {s : State} {q : SigReq} {rest : List SigReq}

/-- A signature ends (R300). -/
theorem State.sigDone_signs (hqueue : s.cry.sigQueue = q :: rest) (hop : wbits q.f.words 0 7 0 = 0x42) : s.sigDone false =
    (((s.sigTaken rest).count (F.SIG_CNT_COUNT 0)).bufWrite q.f.ring (sigOutAt q.f)
      (fit 114 (Config.ed448Sign q.key (asciiBytes "UARNAREN-HOST" ++ q.f.buf)))).done q.f.ring q.f.words := by
  rw [State.sigDone, hqueue]
  dsimp only
  rw [hop]
  rfl

/-- A verification that holds ends (R300). -/
theorem State.sigDone_verifies (fail : Bool) (hqueue : s.cry.sigQueue = q :: rest) (hop : wbits q.f.words 0 7 0 = 0x43)
    (hok : verifyOk s q.f = true) :
    s.sigDone fail = ((s.sigTaken rest).count (F.SIG_CNT_COUNT 1)).done q.f.ring q.f.words := by
  rw [State.sigDone, hqueue]
  dsimp only
  rw [hop, hok]
  rfl

/-- One that does not hold is counted and raises SIG_ISR.VERIFY_FAIL (R300). -/
theorem State.sigDone_rejects (fail : Bool) (hqueue : s.cry.sigQueue = q :: rest) (hop : wbits q.f.words 0 7 0 = 0x43)
    (hbad : verifyOk s q.f = false) : s.sigDone fail =
      ((((s.sigTaken rest).count (F.SIG_CNT_COUNT 1)).count (F.SIG_CNT_COUNT 2)).irq Blk.SIG 1).done q.f.ring q.f.words
        0x0C01 := by
  rw [State.sigDone, hqueue]
  dsimp only
  rw [hop, hbad]
  rfl

/-- The input that a hash context has absorbed (R300). -/
def State.hashAbsorbed (s : State) (c : Nat) (input : List Byte) : State :=
  { s with cry := { s.cry with contexts := modAt (fun x => { x with input := input }) s.cry.contexts c } }

theorem State.hashAbsorbed_input (s : State) {c : Nat} (input : List Byte) (hc : c < s.cry.contexts.length) :
    ((s.hashAbsorbed c input).cry.contexts.getD c HashCtx.closed).input = input := by
  rw [State.hashAbsorbed, getD_modAt_same _ _ _ _ hc]

/-- A hash that is not the last adds its bytes to its context (R300). -/
theorem State.sigDone_absorbs (hqueue : s.cry.sigQueue = q :: rest) (hop : wbits q.f.words 0 7 0 = 0x44)
    (hmore : wbits q.f.words 6 15 15 = 0) : s.sigDone false =
      ((s.sigTaken rest).hashAbsorbed (wbits q.f.words 6 13 11)
        ((s.cry.contexts.getD (wbits q.f.words 6 13 11) HashCtx.closed).input ++ q.f.buf)).done q.f.ring q.f.words := by
  rw [State.sigDone, hqueue]
  dsimp only
  rw [hop, hmore]
  rfl

end

/-! ### Attestation (R302) -/

theorem State.onAttest_taken {s : State} {form : Nat} {f : Fetched} {rest : List Fetched} (fail : Bool)
    (hturn : takeTurn (fun f => wbits f.words 0 7 0 == 0x51 && wbits f.words 6 0 0 == form) (busyRings s) s.hre.fetched =
      some (f, rest)) : s.onAttest form fail = (s.taken rest).attest fail f := by
  rw [State.onAttest, State.onTurn, hturn]
  rfl

/-- The bytes of an attestation report, signed with the identity key (Table 9-7). -/
def signedReport (s : State) (f : Fetched) : List Byte :=
  reportBody s (f.buf.take 32) ++
    fit 114 (Config.ed448Sign s.cry.identity (ascii "UARNAREN-ATTEST" ++ reportBody s (f.buf.take 32)))

theorem State.attest_reports {s : State} {f : Fetched} (hpass : sigRefusal s = none) (hform : wbits f.words 6 0 0 = 0)
    (hidentity : s.cry.identity ≠ 0) : s.attest false f =
      ((s.count (F.SIG_CNT_COUNT 0)).bufWrite f.ring (wordAt f.words 4 + wordAt f.words 5 * 2 ^ 32) (signedReport s f)).done
        f.ring f.words := by
  rw [State.attest, hpass]
  dsimp only
  rw [hform, if_neg (by decide), if_pos rfl, if_neg hidentity]
  rfl

theorem State.attest_chains {s : State} {f : Fetched} (hpass : sigRefusal s = none) (hform : wbits f.words 6 0 0 = 1) :
    s.attest false f = (s.bufWrite f.ring (wordAt f.words 4 + wordAt f.words 5 * 2 ^ 32) s.cry.chain).done f.ring f.words 0
      (w4 := s.cry.chain.length) := by
  rw [State.attest, hpass]
  dsimp only
  rw [hform, if_neg (by decide), if_neg (by decide)]

/-! ### Owner keys (R303, R304) -/

theorem State.ownerSet_refused {s : State} {f : Fetched} {c : Nat} (hpass : sigRefusal s = none)
    (hrefused : ownerRefusal s f.buf = some c) : s.ownerSet f = s.refuse f.ring f.words c := by
  rw [State.ownerSet, hpass, hrefused]

theorem State.ownerSet_accepts {s : State} {f : Fetched} (hpass : sigRefusal s = none) (hok : ownerRefusal s f.buf = none) :
    ∃ e, s.ownerSet f = s.storeQueue f e := by
  rw [State.ownerSet, hpass, hok]
  exact ⟨_, rfl⟩

theorem ownerRefusal_taken (s : State) (rest : List Fetched) (r : List Byte) :
    ownerRefusal (s.taken rest) r = ownerRefusal s r := rfl

/-- Settles O31: a request is the one whose turn it is, each outcome of an operation has its equation (State.sigDone_signs,
State.sigDone_verifies, State.sigDone_rejects, State.sigDone_absorbs), and an owner key that is being written changes neither
the keys nor the rings (State.storeQueue_keeps). -/
theorem signatureEngine : Obligations.SignatureEngine := by
  unfold Obligations.SignatureEngine
  refine ⟨?sign, ?verify, ?hash, ?signed, ?verified, ?hashed, ?report, ?chain, ?owner, ?waits⟩
  case sign =>
    rintro s x t f rest rfl hturn hen halarm hidentity
    exact ⟨_, congrArg Host.Outcome.next ((State.onFetched_taken _ hturn).trans
      (State.sigSign_accepts (s := (s.at t).taken rest) (sigRefusal_none hen halarm) hidentity)), rfl,
      State.sigQueueUp_busy .., rfl, rfl⟩
  case verify =>
    rintro s x t f rest rfl hturn hen halarm hvendor hlength
    exact ⟨_, congrArg Host.Outcome.next ((State.onFetched_taken _ hturn).trans
      (State.sigVerify_accepts (s := (s.at t).taken rest) (sigRefusal_none hen halarm) hvendor hlength)), rfl, rfl⟩
  case hash =>
    rintro s x t c f rest rfl hturn hen halarm hlo hhi rfl hfirst hmore hcontexts hclosed
    have hc : wbits f.words 6 13 11 < (s.at t).cry.contexts.length := by rw [hcontexts]; exact wbits_lt f.words 6 13 11
    exact ⟨_, congrArg Host.Outcome.next ((State.onFetched_taken _ hturn).trans
      (State.hashOp_opens (s := (s.at t).taken rest) (sigRefusal_none hen halarm) hlo hhi hfirst hmore hclosed)),
      State.hashOpened_isOpen ((s.at t).taken rest) hc, rfl, rfl⟩
  case signed =>
    rintro s x t q rest rfl hqueue hop
    refine ⟨_, congrArg Host.Outcome.next (State.sigDone_signs hqueue hop), ?_, ?_, State.bufWrite_done_hre ..,
      (State.bufWrite_congr (s := s.at t) (r := ((s.at t).sigTaken rest).count (F.SIG_CNT_COUNT 0)) rfl rfl rfl _ _ _).1⟩
    · rw [State.done_cry, State.bufWrite_cry]; rfl
    · rw [State.done_get, State.bufWrite_get, State.get_count_sig, State.sigTaken_count]
  case verified =>
    rintro s x t fail q rest rfl hqueue hop
    cases hverify : verifyOk (s.at t) q.f with
    | true =>
      refine ⟨_, congrArg Host.Outcome.next (State.sigDone_verifies fail hqueue hop hverify), rfl, ?_,
        fun _ => ⟨rfl, ?_⟩, fun h => absurd h (by decide)⟩
      · rw [State.done_get, State.get_count_sig, State.sigTaken_count]
      · rw [State.done_get, State.count, State.get_put_reg _ _ _ _ (by decide), State.sigTaken_count]
    | false =>
      refine ⟨_, congrArg Host.Outcome.next (State.sigDone_rejects fail hqueue hop hverify), ?_, ?_,
        fun h => absurd h (by decide), fun _ => ⟨?_, ?_, ?_⟩⟩
      · rw [State.done_cry, State.irq_cry]; rfl
      · rw [State.done_get, State.irq_get _ _ _ (by decide), State.count, State.get_put_reg _ _ _ _ (by decide),
          State.get_count_sig, State.sigTaken_count]
      · rw [State.done_outq, State.done_outq, State.irq_hre, State.irq_net]; rfl
      · rw [State.done_rd]
        exact State.irq_isr_bit (k := 0) _ (by decide) rfl (by decide) (by decide)
      · rw [State.done_get, State.irq_get _ _ _ (by decide), State.get_count_sig, State.count,
          State.get_put_reg _ _ _ _ (by decide), State.sigTaken_count]
  case hashed =>
    rintro s x t c q rest rfl hqueue hop hmore rfl hcontexts
    have hc : wbits q.f.words 6 13 11 < (s.at t).cry.contexts.length := by rw [hcontexts]; exact wbits_lt q.f.words 6 13 11
    exact ⟨_, congrArg Host.Outcome.next (State.sigDone_absorbs hqueue hop hmore), rfl, rfl,
      State.hashAbsorbed_input ((s.at t).sigTaken rest) _ hc⟩
  case report =>
    rintro s x t f rest rfl hturn hen halarm hidentity
    have hform : wbits f.words 6 0 0 = 0 := by simpa using (Bool.and_eq_true_iff.mp (takeTurn_satisfies hturn)).2
    refine ⟨_, congrArg Host.Outcome.next ((State.onAttest_taken false hturn).trans
      (State.attest_reports (s := (s.at t).taken rest) (sigRefusal_none hen halarm) hform hidentity)), ?_, ?_, ?_, ?_⟩
    · rw [State.bufWrite_done_hre]; rfl
    · rw [State.done_items, State.bufWrite_items]; rfl
    · rw [State.done_get, State.bufWrite_get, State.get_count_sig]; rfl
    · rw [State.bufWrite_done_hre]; exact ⟨_, rfl, rfl, rfl⟩
  case chain =>
    rintro s x t f rest rfl hturn hen halarm
    have hform : wbits f.words 6 0 0 = 1 := by simpa using (Bool.and_eq_true_iff.mp (takeTurn_satisfies hturn)).2
    refine ⟨_, congrArg Host.Outcome.next ((State.onAttest_taken false hturn).trans
      (State.attest_chains (s := (s.at t).taken rest) (sigRefusal_none hen halarm) hform)), ?_, ?_, ?_, ?_⟩
    · rw [State.bufWrite_done_hre]; rfl
    · rw [State.done_regs, State.bufWrite_regs]; rfl
    · rw [State.done_items, State.bufWrite_items]; rfl
    · rw [State.bufWrite_done_hre]; exact ⟨_, rfl, rfl, rfl, rfl⟩
  case owner =>
    rintro s x y t f rest rfl hturn hidle hy hen halarm
    obtain rfl : y = (s.at t).taken rest := hy
    have hpass : sigRefusal ((s.at t).taken rest) = none := sigRefusal_none hen halarm
    have hexec : exec (.ownerSet t) s = .next (((s.at t).taken rest).ownerSet f) := by
      refine congrArg Host.Outcome.next ((if_neg (by rw [hidle]; decide)).trans ?_)
      exact State.onService_turn _ hturn
    refine ⟨_, hexec, ?_⟩
    cases howner : ownerRefusal (s.at t) f.buf with
    | none =>
      obtain ⟨e, haccept⟩ := State.ownerSet_accepts hpass ((ownerRefusal_taken ..).trans howner)
      obtain ⟨hhre, hitems, -, howners, hjobs, hseq⟩ := State.storeQueue_keeps ((s.at t).taken rest) f e
      rw [haccept]
      exact ⟨howners, State.get_of_rd (f := F.SIG_OWNER_SEQ_SEQ) hseq, hitems, fun _ => ⟨hhre, hjobs⟩,
        fun h => absurd h (by decide)⟩
    | some c =>
      rw [State.ownerSet_refused hpass ((ownerRefusal_taken ..).trans howner)]
      exact ⟨rfl, rfl, rfl, fun h => absurd h (by simp), fun _ => rfl⟩
  case waits =>
    rintro s x t rfl hpending
    exact congrArg Host.Outcome.next (if_pos hpending)

/-! ### The debug port (R518 to R520) -/

@[simp] theorem State.syncWatchdogs_get (s : State) (f : Fld) : s.syncWatchdogs.get f = s.get f := rfl
@[simp] theorem State.syncWatchdogs_on (s : State) (f : Fld) : s.syncWatchdogs.on f = s.on f := rfl
@[simp] theorem State.syncWatchdogs_items (s : State) : s.syncWatchdogs.items = s.items := rfl
@[simp] theorem State.syncWatchdogs_session (s : State) : s.syncWatchdogs.cpx.session = s.cpx.session := rfl
@[simp] theorem State.syncWatchdogs_halted (s : State) : s.syncWatchdogs.cpx.halted = s.cpx.halted := rfl

/-- Ending the items that satisfy a predicate that none satisfies. -/
theorem State.endAll_none {s : State} {p : Item → Bool} (hnone : ∀ i ∈ s.items, p i = false) (status reason : Nat) :
    s.endAll p status reason = s := by
  rw [State.endAll, List.filter_eq_nil_iff.mpr (fun i hi => Bool.eq_false_iff.mp (hnone i hi)), List.foldl_nil]

/-- The mute ends nothing while no item has started (R520). -/
theorem State.muteOnAir_idle {s : State} (hidle : s.items.all (fun i => !i.started) = true) : s.muteOnAir = s := by
  unfold State.muteOnAir
  split
  · rfl
  · refine State.endAll_none (fun i hi => ?_) _ _
    have hstarted : i.started = false := by simpa using List.all_eq_true.mp hidle i hi
    rw [hstarted, Bool.false_and]

/-- The number that CPX_STATUS.HALTED shows, from the halts of the four cores. -/
def haltedNumber (h0 h1 h2 h3 : Bool) : Nat :=
  ((if h0 then 2 ^ 0 else 0) + (if h1 then 2 ^ 1 else 0) + (if h2 then 2 ^ 2 else 0) + (if h3 then 2 ^ 3 else 0)) % 2 ^ 4

/-- Each of its bits is the halt of one core. -/
theorem bits_haltedNumber : ∀ h0 h1 h2 h3 : Bool,
    bits (haltedNumber h0 h1 h2 h3) 0 0 = h0.toNat ∧ bits (haltedNumber h0 h1 h2 h3) 1 1 = h1.toNat ∧
    bits (haltedNumber h0 h1 h2 h3) 2 2 = h2.toNat ∧ bits (haltedNumber h0 h1 h2 h3) 3 3 = h3.toNat := by
  decide

theorem State.syncHalted_get (s : State) : s.syncHalted.get F.CPX_STATUS_HALTED =
    haltedNumber (s.cpx.halted.getD 0 false) (s.cpx.halted.getD 1 false) (s.cpx.halted.getD 2 false)
      (s.cpx.halted.getD 3 false) := by
  rw [State.syncHalted, State.syncWatchdogs_get]
  exact State.get_put_same _ _ _ (by decide)

theorem State.syncHalted_bit (s : State) {c : Nat} (hc : c < 4) :
    bits (s.syncHalted.get F.CPX_STATUS_HALTED) c c = (s.cpx.halted.getD c false).toNat := by
  obtain ⟨h0, h1, h2, h3⟩ := bits_haltedNumber (s.cpx.halted.getD 0 false) (s.cpx.halted.getD 1 false)
    (s.cpx.halted.getD 2 false) (s.cpx.halted.getD 3 false)
  rw [State.syncHalted_get]
  match c, hc with
  | 0, _ => exact h0
  | 1, _ => exact h1
  | 2, _ => exact h2
  | 3, _ => exact h3

/-- A state in which the cores in debug halt are `halted`, before CPX_STATUS shows them. -/
def State.withHalted (s : State) (halted : List Bool) : State := { s with cpx := { s.cpx with halted := halted } }

/-- Within a session, a core enters debug halt (R520). -/
theorem State.debugHalt_halts {s : State} {c : Nat} (hsession : s.cpx.session = true) (hc : c < 4)
    (hidle : s.items.all (fun i => !i.started) = true) :
    s.debugHalt c = (s.withHalted (modAt (fun _ => true) s.cpx.halted c)).syncHalted := by
  rw [State.debugHalt, if_neg (by simp [hsession, hc])]
  exact State.muteOnAir_idle hidle

/-- Within a session, a halted core resumes (R520). -/
theorem State.debugResume_resumes {s : State} {c : Nat} (hsession : s.cpx.session = true) (hc : c < 4) :
    s.debugResume c = (s.withHalted (modAt (fun _ => false) s.cpx.halted c)).syncHalted := by
  rw [State.debugResume, if_neg (by simp [hsession, hc])]
  rfl

/-- The end of a session clears its bit, every halt and the mute, and raises CPX_ISR.SESSION (R519, R520). -/
theorem State.endSession_ends {s : State} (hsession : s.cpx.session = true) :
    s.endSession.cpx.session = false ∧ s.endSession.cpx.halted = [false, false, false, false] ∧
    s.endSession.on F.CPX_STATUS_SESSION = false ∧ s.endSession.on F.CPX_DBG_DEBUG_MUTE = false ∧
    s.endSession.get F.CPX_STATUS_HALTED = 0 ∧ bits (s.endSession.rd Reg.CPX_ISR).toNat 1 1 = 1 ∧
    s.endSession.items = s.items := by
  rw [State.endSession, if_neg (by simp [hsession])]
  refine ⟨?session, ?halted, ?status, ?mute, ?cores, ?isr, ?items⟩
  case session => rw [State.syncWatchdogs_session, State.irq_session]; rfl
  case halted => rw [State.syncWatchdogs_halted, State.irq_halted]; rfl
  case status =>
    rw [State.syncWatchdogs_on, State.irq_on _ _ _ (by decide), State.on_put_reg _ _ _ _ (by decide),
      State.on_put_field _ _ _ _ (by decide) (by decide)]
    exact State.on_put_zero _ _ (by decide)
  case mute =>
    rw [State.syncWatchdogs_on, State.irq_on _ _ _ (by decide)]
    exact State.on_put_zero _ _ (by decide)
  case cores =>
    rw [State.syncWatchdogs_get, State.irq_get _ _ _ (by decide), State.get_put_reg _ _ _ _ (by decide)]
    exact State.get_put_same _ _ _ (by decide)
  case isr => exact State.irq_isr_bit (k := 1) _ (by decide) rfl (by decide) (by decide)
  case items => rw [State.syncWatchdogs_items, State.irq_items]; rfl

/-- The running verification has been taken (R519). -/
def State.verified (s : State) : State := { s with cpx := { s.cpx with verifying := none } }

/-- A session is open with its scope, and CPX_STATUS shows it (R519). -/
def State.sessionOpened (s : State) (scope : Nat) : State :=
  { s with cpx := { s.cpx with session := true, scope := scope } }.put F.CPX_STATUS_SESSION 1

/-- A failure is the only one within 60 s, and has its record (R519). -/
def State.failureNoted (s : State) : State := { s with cpx := { s.cpx with failures := [s.now] } }.record 0x1600 0x1607

/-- 8 ms after an attempt, one that holds opens the session (R519). -/
theorem State.debugAuthDone_holds {s : State} {a : DebugAuth} (hverifying : s.cpx.verifying = some a)
    (hdue : a.start + msU 8 ≤ s.now) (hholds : authHolds s a = true) :
    s.debugAuthDone = (s.verified.sessionOpened a.scope).irq Blk.CPX 2 := by
  rw [State.debugAuthDone, hverifying]
  exact (if_neg (Nat.not_lt.mpr hdue)).trans (if_pos hholds)

/-- One that fails, the first within 60 s, is noted, and raises no alarm (R519). -/
theorem State.debugAuthDone_fails {s : State} {a : DebugAuth} (hverifying : s.cpx.verifying = some a)
    (hdue : a.start + msU 8 ≤ s.now) (hfirst : s.cpx.failures = []) (hfails : authHolds s a = false) :
    s.debugAuthDone = s.verified.failureNoted.irq Blk.SEC 4 := by
  have hfailed : s.verified.debugFailed = s.verified.failureNoted.irq Blk.SEC 4 := by
    rw [State.debugFailed, show s.verified.cpx.failures = [] from hfirst]
    rfl
  rw [State.debugAuthDone, hverifying, ← hfailed]
  exact (if_neg (Nat.not_lt.mpr hdue)).trans (if_neg (Bool.eq_false_iff.mp hfails))

/-- Settles O54: outside a session each command of the port is a guard's first branch; within one, its effect is said once
(State.debugHalt_halts, State.debugResume_resumes, State.endSession_ends), and interrupts leave the session alone
(State.irq_uninterrupted). -/
theorem debugPort : Obligations.DebugPort := by
  unfold Obligations.DebugPort
  refine ⟨?challenge, ?auth, ?running, ?done, ?dmiIn, ?dmiRead, ?dmiWrite, ?noHalt, ?noResume, ?noMute, ?noEnd, ?halt, ?resume,
    ?mute, ?ends⟩
  case challenge =>
    rintro s x t rfl
    refine ⟨_, rfl, ?_, rfl, rfl, rfl⟩
    simp [State.debugChallenge, State.deliverWords]
  case auth =>
    rintro s x t scope sig rfl hnone
    refine ⟨_, congrArg Host.Outcome.next (if_neg (by simp [hnone])), rfl, rfl, rfl, rfl, rfl⟩
  case running =>
    rintro s x t scope sig a rfl hsome
    exact congrArg Host.Outcome.next (if_pos (by simp [hsome]))
  case done =>
    rintro s x t a rfl hverifying hdue hfirst
    cases hholds : authHolds (s.at t) a with
    | true =>
      refine ⟨_, congrArg Host.Outcome.next (State.debugAuthDone_holds hverifying hdue hholds), State.irq_verifying ..,
        State.irq_items .., State.irq_session .., State.irq_scope .., ?_,
        State.irq_isr_bit (k := 1) _ (by decide) rfl (by decide) (by decide)⟩
      rw [State.irq_on _ _ _ (by decide)]
      exact State.on_put_one _ _ (by decide) (by decide)
    | false =>
      exact ⟨_, congrArg Host.Outcome.next (State.debugAuthDone_fails hverifying hdue hfirst hholds), State.irq_verifying ..,
        State.irq_items .., State.irq_session .., State.irq_failures ..,
        State.irq_isr_bit (k := 2) _ (by decide) rfl (by decide) (by decide), by rw [State.irq_hre]; rfl⟩
  case dmiIn =>
    rintro s x t w rfl hsession
    exact congrArg Host.Outcome.next (if_pos hsession)
  case dmiRead =>
    rintro s x t rfl hnone
    exact ⟨_, congrArg Host.Outcome.next (if_neg (by simp [hnone])), rfl, rfl, rfl⟩
  case dmiWrite =>
    rintro s x t rfl hnone
    exact congrArg Host.Outcome.next (if_neg (by simp [hnone]))
  case noHalt =>
    rintro s x t c rfl hnone
    exact congrArg Host.Outcome.next (if_pos (by simp [hnone]))
  case noResume =>
    rintro s x t c rfl hnone
    exact congrArg Host.Outcome.next (if_pos (by simp [hnone]))
  case noMute =>
    rintro s x t rfl hnone
    exact congrArg Host.Outcome.next (if_pos (by simp [hnone]))
  case noEnd =>
    rintro s x t rfl hnone
    exact congrArg Host.Outcome.next (if_pos (by simp [hnone]))
  case halt =>
    rintro s x t c rfl hsession hc hcores hidle
    refine ⟨_, congrArg Host.Outcome.next (State.debugHalt_halts hsession hc hidle), ?_, ?_, hsession, rfl⟩
    · exact getD_modAt_same _ _ _ _ (by rwa [hcores])
    · rw [State.syncHalted_bit _ hc, State.withHalted, getD_modAt_same _ _ _ _ (by rwa [hcores])]
      rfl
  case resume =>
    rintro s x t c rfl hsession hc hcores
    refine ⟨_, congrArg Host.Outcome.next (State.debugResume_resumes hsession hc), ?_, ?_, hsession, rfl⟩
    · exact getD_modAt_same _ _ _ _ (by rwa [hcores])
    · rw [State.syncHalted_bit _ hc, State.withHalted, getD_modAt_same _ _ _ _ (by rwa [hcores])]
      rfl
  case mute =>
    rintro s x t v rfl hsession hidle
    have hwrites : (s.at t).debugMuteWrite v = (s.at t).put F.CPX_DBG_DEBUG_MUTE v.toNat := by
      rw [State.debugMuteWrite, if_neg (by simp [hsession])]
      exact State.muteOnAir_idle hidle
    refine ⟨_, congrArg Host.Outcome.next hwrites, ?_, rfl, rfl⟩
    cases v
    · exact State.on_put_zero _ _ (by decide)
    · exact State.on_put_one _ _ (by decide) (by decide)
  case ends =>
    rintro s x t rfl hsession
    exact ⟨_, rfl, State.endSession_ends hsession⟩

end Sys2Proof.Machine

/-! PROOFS. The skein's statements (chapter 10): lines and links, elections, and messages; the statements on frame boundaries
and on the tree are refuted by what the loss of the recovered clock brings with it (R326, R474, R477). -/

namespace Sys2Proof.Machine

/-! ### Frame boundaries while the skein clock is the reference (R313, R326, R474, R475) -/

/-- A frame boundary ends the use of the recovered clock of a device that is no member; XOSC is more than 20 ppm from it, so
the switch is a lock loss, and the transmission of the slot, which has no repair, ends. -/
theorem frameBoundary_onSkeinClock_ends :
    ((onSkeinClock.at frameUnit).frameBoundary 20001).items = [{ firstSlotTx with decided := true }] := by
  decide +kernel

/-- Refutes O37: its clause on a new frame says that the promise table stays, and does not ask that the reference stay; the
end of the use of the recovered clock moves the slot's transmissions to their repairs. -/
theorem not_skeinFrames : ¬ Obligations.SkeinFrames := by
  unfold Obligations.SkeinFrames
  rintro ⟨hboundary, -⟩
  obtain ⟨r, hexec, -, -, -, hitems, -⟩ := hboundary onSkeinClock (onSkeinClock.at frameUnit) frameUnit 1 0 20001 rfl
    (by decide +kernel) (by decide +kernel) (by decide +kernel) (by decide) (by decide +kernel)
  have hr : (onSkeinClock.at frameUnit).frameBoundary 20001 = r := Host.Outcome.next.inj hexec
  have hkept : (onSkeinClock.at frameUnit).items = [firstSlotTx] := by decide +kernel
  rw [← hr, frameBoundary_onSkeinClock_ends, hkept] at hitems
  exact absurd hitems (by decide)

/-! ### An id conflict on the upstream port while no other clock is valid (R322, R326, R477) -/

/-- A member whose upstream is port 2, on the recovered skein clock; neither XOSC nor HFRC is valid. -/
def onSkeinClockAlone : State :=
  (((((State.reset.put (F.BLK_EN Blk.SKN) 1).put (F.SKN_PORT_CFG_EN 2) 1).put (F.SKN_PORT_STATUS_LINK 2) 2).put
    F.SKN_STATUS_STATE 3).put F.SKN_STATUS_UPPORT 2).put F.CLK_STATUS_REF_SRC 1

/-- An ENUM record with that device's own id. -/
def ownEnum : Enum := ⟨0, 0, 0, 0, 0, false⟩

/-- The upstream's loss takes the last valid clock away: a clock-loss reset (cause 5), after which no port is blocked. -/
theorem enumIn_onSkeinClockAlone_resets : ((onSkeinClockAlone.at secondU).enumIn 2 ownEnum).get F.SYS_RST_CAUSE = 5 ∧
    linkOf ((onSkeinClockAlone.at secondU).enumIn 2 ownEnum) 2 = 0 := by
  decide +kernel

/-- Refutes O39: its clause on a record with this device's own id says that the port is blocked, and does not ask that
another clock be valid should the port be the upstream; without one, the device resets. -/
theorem not_skeinTree : ¬ Obligations.SkeinTree := by
  unfold Obligations.SkeinTree
  rintro ⟨-, hconflict, -⟩
  have hup : linkUp (onSkeinClockAlone.at secondU) 2 = true := by decide +kernel
  obtain ⟨r, hexec, hblocked, -⟩ := hconflict onSkeinClockAlone (onSkeinClockAlone.at secondU) secondU 2 ownEnum rfl hup
    (by decide +kernel)
  have hr : (onSkeinClockAlone.at secondU).enumIn 2 ownEnum = r :=
    (if_pos hup).symm.trans (Host.Outcome.next.inj hexec)
  rw [← hr, enumIn_onSkeinClockAlone_resets.2] at hblocked
  exact absurd hblocked (by decide)

end Sys2Proof.Machine

namespace Sys2Proof.Machine

/-! ### Items of the promise table (R4, R26) -/

theorem State.item_idx {s : State} {idx : Nat} {i : Item} (hitem : s.item idx = some i) : i.idx = idx := by
  simpa using List.find?_some hitem

/-- Reading the item changed, by a change that leaves its index. -/
theorem State.item_setItem {s : State} {idx : Nat} {i : Item} {f : Item → Item} (hitem : s.item idx = some i)
    (hf : ∀ j, (f j).idx = j.idx) : (s.setItem idx f).item idx = some (f i) := by
  have hkey : ((fun j : Item => j.idx == idx) ∘ fun j => if j.idx == idx then f j else j) = fun j => j.idx == idx := by
    funext j
    simp only [Function.comp]
    split <;> simp [*]
  rw [State.setItem, State.item, List.find?_map, hkey, show s.items.find? _ = some i from hitem, Option.map_some,
    if_pos (by simp [State.item_idx hitem])]

@[simp] theorem Item.mapSkein_idx (f : SkeinInfo → SkeinInfo) (i : Item) : (i.mapSkein f).idx = i.idx := by
  unfold Item.mapSkein; split <;> rfl

theorem Item.mapSkein_of_kind {i : Item} {k : SkeinInfo} (hkind : i.kind = .skein k) (f : SkeinInfo → SkeinInfo) :
    i.mapSkein f = { i with kind := .skein (f k) } := by
  simp only [Item.mapSkein, hkind]

theorem Item.isRx_of_skein {i : Item} {k : SkeinInfo} (hkind : i.kind = .skein k) : i.isRx = false := by
  simp only [Item.isRx, hkind]

section
/-! The registers of SKN from its member table on are none of those that follow the promise table. -/
variable {a : Nat} (ha : 0x400d0040 ≤ a ∧ a < 0x400e0000)
include ha

theorem State.put_sknRd (s : State) (f : Fld) (v : Nat) (hf : f.addr < 0x400d0040 ∨ 0x400e0000 ≤ f.addr) :
    (s.put f v).rd a = s.rd a := State.rd_put_other s f v (by omega)

theorem State.syncItems_sknRd (s : State) : s.syncItems.rd a = s.rd a := by
  unfold State.syncItems State.syncHold
  rw [State.put_sknRd ha _ _ _ (by decide), State.put_sknRd ha _ _ _ (by decide)]
  simp only [List.foldl_cons, List.foldl_nil]
  iterate 8 rw [State.put_sknRd ha _ _ _ (by decide)]

end

/-- The registers that follow the promise table are written field by field. -/
theorem State.syncItems_keeps {β : Type} {p : State → β} (hput : ∀ x f v, p (State.put x f v) = p x) (s : State) :
    p s.syncItems = p s := by
  unfold State.syncItems State.syncHold
  simp only [List.foldl_cons, List.foldl_nil, hput]

@[simp] theorem State.syncItems_items (s : State) : s.syncItems.items = s.items :=
  State.syncItems_keeps State.put_items s
theorem State.syncItems_item (s : State) (idx : Nat) : s.syncItems.item idx = s.item idx := by
  rw [State.item, State.syncItems_items, State.item]
@[simp] theorem State.syncItems_hre (s : State) : s.syncItems.hre = s.hre := State.syncItems_keeps State.put_hre s

/-- The final of a host's item that is no window: the item is decided, its completion joins those of its ring, and the
registers of SKN from the member table on stay (R4, R26). -/
theorem State.finish_host {s : State} {idx : Nat} {i : Item} (status reason : Nat) (hitem : s.item idx = some i)
    (hhost : i.owner = .host) (hwaits : i.decided = false) (hrx : i.isRx = false) :
    (∃ j, (s.finish idx status reason).item idx = some j ∧ j.decided = true) ∧
    (∃ q, (s.finish idx status reason).hre.outq = s.hre.outq ++ [q] ∧ q.status = status ∧ q.reason = reason ∧ q.tag = i.tag) ∧
    ∀ a, 0x400d0040 ≤ a ∧ a < 0x400e0000 → (s.finish idx status reason).rd a = s.rd a := by
  have hfinish : s.finish idx status reason = s.decideFinal idx status reason s.net := by
    simp only [State.finish, State.finishAt, hitem, hrx, Bool.false_and, Bool.false_eq_true, if_false]
  rw [hfinish, State.decideFinal, hitem]
  simp only [hwaits, Bool.false_eq_true, if_false, hhost]
  refine ⟨⟨_, (State.syncItems_item ..).trans (State.item_setItem (i := i) hitem fun _ => rfl), rfl⟩,
    ⟨_, congrArg Hre.outq (State.syncItems_hre _), rfl, rfl, rfl⟩, fun a ha => ?_⟩
  exact State.syncItems_sknRd ha _

/-! ### The hold memory (R330, R336) -/

/-- With room in the hold memory a message waits for admission. -/
theorem State.hold_waits {s : State} {f : Fetched} {k : SkeinInfo} (hcount : (heldMessages s).length < 1024)
    (hbytes : heldBytes s + k.payload.length ≤ 524288) : s.hold f k = (s.await (skeinWaiting f k)).syncHold := by
  rw [State.hold, if_neg (by omega)]

/-- A message to another device waits with its payload and the device's next sequence number. -/
theorem State.sknSend_waits {s : State} {f : Fetched} (hen : s.en Blk.SKN = true) (hbcast : wbits f.words 6 10 10 = 0)
    (hhead : wbits f.words 6 11 11 = 0) (hdest : wbits f.words 6 9 0 ≠ sknId s)
    (hcount : (heldMessages s).length < 1024) (hbytes : heldBytes s + f.buf.length ≤ 524288) :
    ∃ k : SkeinInfo, s.sknSend f = (s.nextSeq.2.await (skeinWaiting f k)).syncHold ∧ k.payload = f.buf ∧
      k.dest = wbits f.words 6 9 0 ∧ k.seq = s.skn.seq ∧ k.bcast = false := by
  rw [State.sknSend, if_neg (by simp [hen]), if_neg (by simp [hbcast, hhead, hdest])]
  exact ⟨_, State.hold_waits hcount hbytes, rfl, rfl, rfl, by simp [hbcast]⟩

/-- Only the head resets other devices (R336). -/
theorem State.sknRemoteReset_notHead {s : State} {f : Fetched} (hen : s.en Blk.SKN = true)
    (hkind : wbits f.words 6 11 10 < 2) (hstate : sknState s ≠ 4) :
    s.sknRemoteReset f = s.refuse f.ring f.words 0x0D06 := by
  rw [State.sknRemoteReset, if_neg (by simp [hen]), if_neg (by omega), if_pos (.inl hstate)]

theorem length_leBytes (n v : Nat) : (leBytes n v).length = n := by
  induction n generalizing v with
  | zero => rfl
  | succ n ih => rw [leBytes, List.length_cons, ih]

/-- The head's remote reset waits as a message of kind 2. -/
theorem State.sknRemoteReset_waits {s : State} {f : Fetched} (hen : s.en Blk.SKN = true)
    (hkind : wbits f.words 6 11 10 < 2) (hstate : sknState s = 4) (hdest : wbits f.words 6 9 0 ≠ sknId s)
    (hkey : slotRefuses s (s.get F.SKN_CFG_RESET_SLOT) 2 = none) (hmode : slotMode s (s.get F.SKN_CFG_RESET_SLOT) 6 = true)
    (hcount : (heldMessages s).length < 1024) (hbytes : heldBytes s + 16 ≤ 524288) :
    ∃ k : SkeinInfo, s.sknRemoteReset f = (s.nextSeq.2.await (skeinWaiting f k)).syncHold ∧ k.kind = 2 ∧
      k.dest = wbits f.words 6 9 0 := by
  rw [State.sknRemoteReset, if_neg (by simp [hen]), if_neg (by omega), if_neg (by simp [hstate, hdest])]
  simp only [hkey, hmode, Bool.not_true, Bool.false_eq_true, if_false]
  refine ⟨_, State.hold_waits hcount ?_, rfl, rfl⟩
  rw [List.length_append, length_leBytes, List.length_replicate]
  exact hbytes

/-! ### Departures (R331, R333, R335) -/

/-- Sending on a list of ports changes the skein's own state only. -/
theorem State.sendOwns_skn (l : List Nat) (m : SknMsg) (s : State) :
    ∃ k, l.foldl (fun x p => x.sendOwn p m) s = { s with skn := k } := by
  induction l generalizing s with
  | nil => exact ⟨s.skn, rfl⟩
  | cons p l ih =>
    obtain ⟨k, hk⟩ : ∃ k, s.sendOwn p m = { s with skn := k } := by
      unfold State.sendOwn
      split <;> exact ⟨_, rfl⟩
    obtain ⟨k', hk'⟩ := ih { s with skn := k }
    exact ⟨k', by rw [List.foldl_cons, hk, hk']⟩

theorem State.get_count_skn (s : State) (n : Nat) :
    (s.count (F.SKN_CNT_COUNT n)).get (F.SKN_CNT_COUNT n) = Nat.min (s.get (F.SKN_CNT_COUNT n) + 1) 0xFFFFFFFF :=
  State.get_count_same s _ (by simp [F.SKN_CNT_COUNT])

/-- The first departure of a broadcast is counted in SKN_CNT[0] and completes it DONE. -/
theorem State.depart_broadcast {s : State} {i : Item} {k : SkeinInfo} (hitem : s.item i.idx = some i)
    (hkind : i.kind = .skein k) (hfirst : i.started = false) (hdata : k.kind = 0) (hbcast : k.bcast = true) :
    ∃ x : State, s.depart i k = x.finish i.idx 2 (if k.held then 0x0D01 else 0) ∧
      (∃ j, x.item i.idx = some j ∧ j.isRx = false ∧ j.owner = i.owner ∧ j.decided = i.decided ∧ j.tag = i.tag) ∧
      x.hre = s.hre ∧ x.get (F.SKN_CNT_COUNT 0) = Nat.min (s.get (F.SKN_CNT_COUNT 0) + 1) 0xFFFFFFFF := by
  have hnot : k.kind ≠ 2 := by omega
  simp only [State.depart, hfirst, hbcast, Bool.false_eq_true, if_false, if_true, if_neg hnot]
  obtain ⟨skn, hsent⟩ := State.sendOwns_skn (treePorts s) (departing s i k) (State.count { s with skn := { s.skn with
    bucket := bucketAt s (s.net / frameUnit) - msgSize (departing s i k), bucketFrame := s.net / frameUnit } }
    (F.SKN_CNT_COUNT 0))
  rw [hsent]
  refine ⟨_, rfl, ?_, rfl, State.get_count_skn ..⟩
  refine ⟨_, State.item_setItem (i := i) hitem (fun _ => by rw [Item.mapSkein_idx]), ?_⟩
  rw [Item.mapSkein_of_kind (i := { i with started := true, startTime := s.net }) hkind]
  exact ⟨rfl, rfl, rfl, rfl⟩

/-- In its committed frame, with nothing that voids it, a message departs, or is held while its path is lost. -/
theorem State.skeinDepart_due {s : State} {idx : Nat} {i : Item} {k : SkeinInfo} (hitem : s.item idx = some i)
    (hkind : i.kind = .skein k) (hwaits : i.decided = false) (hfirst : i.started = false) (hheld : k.held = false)
    (hdue : isDue s i = true) (hframe : s.net / frameUnit = i.due / frameUnit) (hvoid : dueVoid s = none)
    (hquench : slotQuenched s (asn i.due) (asn i.due + 1) = false) :
    s.skeinDepart idx = if pathLost s k then s.setItem idx (fun j => j.mapSkein (fun y => { y with held := true, lastFail := 0 }))
      else s.depart i k := by
  simp only [State.skeinDepart, hitem, hkind, hwaits, hfirst, hheld, hdue, hvoid, hquench, Bool.not_true,
    Bool.false_eq_true, if_false, hframe, ne_eq, not_true_eq_false]

/-! ### Arrivals (R332) -/

/-- The way to a device depends on the member table and SKN_STATUS only. -/
theorem routeTo_congr {s r : State} (hmembers : r.skn.members = s.skn.members)
    (hstatus : r.rd Reg.SKN_STATUS = s.rd Reg.SKN_STATUS) (dest : Nat) : routeTo r dest = routeTo s dest := by
  have hstate : sknState r = sknState s := State.get_of_rd (f := F.SKN_STATUS_STATE) hstatus
  have hup : upPort r = upPort s := State.get_of_rd (f := F.SKN_STATUS_UPPORT) hstatus
  rw [routeTo, routeTo, memberOf, memberOf, hmembers, hstate, hup]

theorem State.sendAck_noRoute {s : State} {m : SknMsg} (hroute : routeTo s m.origin = none) (result : Nat) :
    s.sendAck m result = s := by
  simp only [State.sendAck, hroute, ite_self]

/-- A message noted as delivered is among the last 1,024 of its origin. -/
theorem wasDelivered_noteDelivered (s : State) (m : SknMsg) : wasDelivered (s.noteDelivered m) m = true := by
  simp [wasDelivered, State.noteDelivered]

theorem wasDelivered_count (s : State) (f : Fld) (m : SknMsg) : wasDelivered (s.count f) m = wasDelivered s m := rfl

/-- A new message for channel 0, from an origin without a route, goes to the firmware, unacknowledged. -/
theorem State.deliverMsg_firmware {s : State} {m : SknMsg} (hnew : wasDelivered s m = false) (hchannel : m.channel = 0)
    (hroute : routeTo s m.origin = none) (fail : Bool) :
    s.deliverMsg m fail = ((s.messageToFirmware m).noteDelivered m).count (F.SKN_CNT_COUNT 1) := by
  have hstatus : (s.messageToFirmware m).rd Reg.SKN_STATUS = s.rd Reg.SKN_STATUS :=
    State.plic_rd _ _ (by decide) (by decide)
  have hmembers : (s.messageToFirmware m).skn.members = s.skn.members := by rw [State.messageToFirmware, State.plic_skn]
  have hnoRoute : routeTo (((s.messageToFirmware m).noteDelivered m).count (F.SKN_CNT_COUNT 1)) m.origin = none :=
    (routeTo_congr (s := s) (by exact hmembers) ((State.rd_put_other _ _ _ (by decide)).trans hstatus) _).trans hroute
  rw [State.deliverMsg, if_neg (by simp [hnew]), if_pos hchannel, State.sendAck_noRoute hnoRoute]

/-- Settles O40: each command is one branch of its operation; a final is one of a host's item that is no window
(State.finish_host). -/
theorem skeinMessages : Obligations.SkeinMessages := by
  unfold Obligations.SkeinMessages
  refine ⟨?send, ?notHead, ?reset, ?departs, ?held, ?badCrc, ?arrives, ?acked, ?resent, ?expired⟩
  case send =>
    rintro s x t f rest rfl hturn hen hbcast hhead hdest hcount hbytes
    obtain ⟨k, hsend, hk⟩ := State.sknSend_waits (s := (s.at t).taken rest) hen hbcast hhead hdest hcount hbytes
    exact ⟨_, congrArg Host.Outcome.next ((State.onFetched_taken _ hturn).trans hsend), rfl, rfl, rfl, _, k, rfl, rfl, rfl, hk⟩
  case notHead =>
    rintro s x y t f rest rfl hturn rfl hen hkind hstate
    exact congrArg Host.Outcome.next ((State.onFetched_taken _ hturn).trans
      (State.sknRemoteReset_notHead (s := (s.at t).taken rest) hen hkind hstate))
  case reset =>
    rintro s x t f rest rfl hturn hen hkind hstate hdest hkey hmode hcount hbytes
    obtain ⟨k, hreset, hk⟩ := State.sknRemoteReset_waits (s := (s.at t).taken rest) hen hkind hstate hdest hkey hmode hcount hbytes
    exact ⟨_, congrArg Host.Outcome.next ((State.onFetched_taken _ hturn).trans hreset), rfl, _, k, rfl, rfl, hk⟩
  case departs =>
    rintro s x t idx i k rfl hitem hkind hwaits hfirst hheld hdue hframe hvoid hquench hpath hdata hbcast hhost
    have hdepart := State.skeinDepart_due hitem hkind hwaits hfirst hheld hdue hframe hvoid hquench
    rw [hpath, if_neg Bool.false_ne_true] at hdepart
    obtain rfl : i.idx = idx := State.item_idx hitem
    obtain ⟨y, hy, ⟨j, hj, hrx, howner, hdecided, htag⟩, hhre, hcount⟩ :=
      State.depart_broadcast hitem hkind hfirst hdata hbcast
    rw [hy, hheld, if_neg Bool.false_ne_true] at hdepart
    obtain ⟨hdone, ⟨q, hq, hstatus, hreason, hqtag⟩, hregs⟩ := State.finish_host 2 0 hj (howner.trans hhost)
      (hdecided.trans hwaits) hrx
    refine ⟨_, congrArg Host.Outcome.next hdepart, hdone, ?_, q, hhre ▸ hq, hstatus, hreason, hqtag.trans htag⟩
    exact (State.get_of_rd (f := F.SKN_CNT_COUNT 0) (hregs _ (by decide))).trans hcount
  case held =>
    rintro s x t idx i k rfl hitem hkind hwaits hfirst hheld hdue hframe hvoid hquench hpath
    have hdepart := State.skeinDepart_due hitem hkind hwaits hfirst hheld hdue hframe hvoid hquench
    rw [hpath, if_pos rfl] at hdepart
    refine ⟨_, congrArg Host.Outcome.next hdepart, rfl, rfl, _, State.item_setItem hitem (Item.mapSkein_idx _), ?_⟩
    rw [Item.mapSkein_of_kind hkind]
    exact ⟨rfl, hwaits⟩
  case badCrc =>
    rintro s x t p m fail rfl hup hstandby
    refine congrArg Host.Outcome.next ?_
    rw [State.messageIn, if_neg (by simp [hup, hstandby]), if_pos (by decide)]
  case arrives =>
    rintro s x t p m rfl hup hstandby hbcast hdest hkind hchannel hnew hroute
    have harrive : (s.at t).messageIn p m true false =
        (((s.at t).messageToFirmware m).noteDelivered m).count (F.SKN_CNT_COUNT 1) := by
      rw [State.messageIn, if_neg (by simp [hup, hstandby]), if_neg (by decide), if_neg (by simp [hbcast]), if_pos hdest,
        if_neg (by omega), if_neg (by omega), if_pos hkind, State.deliverMsg_firmware hnew hchannel hroute]
    refine ⟨_, congrArg Host.Outcome.next harrive, ?_, ?_, ?_, ?_⟩
    · simp [State.noteDelivered, State.messageToFirmware]
    · rw [wasDelivered_count, wasDelivered_noteDelivered]
    · simp [State.noteDelivered, State.messageToFirmware]
    · simp [State.noteDelivered, State.messageToFirmware]
  case acked =>
    rintro s x t seq i k rfl hfind hkind hitem hhost hresends hheld
    have hwaits : i.decided = false := by
      have hhit := List.find?_some hfind
      simp only [Bool.and_eq_true, Bool.not_eq_true'] at hhit
      exact hhit.1.1
    have hack : (s.at t).ackIn seq 0 = (s.at t).finish i.idx 2 0 := by
      rw [State.ackIn, hfind]
      simp [hkind, hresends, hheld]
    obtain ⟨hdone, hq, -⟩ := State.finish_host 2 0 hitem hhost hwaits (Item.isRx_of_skein hkind)
    exact ⟨_, congrArg Host.Outcome.next hack, hdone, hq⟩
  case resent =>
    rintro s x t idx d i k rfl hitem hkind hsent hwaits hresend hrate hlate
    have hlater : (s.at t).ackTimeout idx = (s.at t).resendLater idx 0 := by
      simp only [State.ackTimeout, hitem, hkind, hsent, hrate, hwaits, hresend]
      rw [if_neg (by simpa using hlate)]
    refine ⟨_, congrArg Host.Outcome.next hlater, rfl, _,
      { k with resendAt := some (((s.at t).net / frameUnit + 1) * frameUnit), lastFail := 0 }, State.item_setItem hitem (Item.mapSkein_idx _), ?_⟩
    rw [Item.mapSkein_of_kind hkind]
    exact ⟨rfl, rfl, hwaits⟩
  case expired =>
    rintro s x t idx i k rfl hitem hkind hwaits hhost hlate hnone
    have hexpire : (s.at t).holdExpiry idx = ((s.at t).count (F.SKN_CNT_COUNT 7)).finish idx 4 0x0D01 := by
      simp only [State.holdExpiry, hitem, hkind, hwaits, hnone]
      rw [if_neg (by simpa using hlate), if_neg (by decide)]
    obtain ⟨hdone, hq, -⟩ := State.finish_host (s := (s.at t).count (F.SKN_CNT_COUNT 7)) 4 0x0D01 hitem hhost hwaits
      (Item.isRx_of_skein hkind)
    exact ⟨_, congrArg Host.Outcome.next hexpire, hdone, hq⟩

end Sys2Proof.Machine

namespace Sys2Proof.Machine

/-! ### Ports (R308 to R318) -/

@[simp] theorem State.setPort_rd (s : State) (p : Nat) (f : Port → Port) (a : Nat) : (s.setPort p f).rd a = s.rd a := rfl
@[simp] theorem State.setPort_get (s : State) (p : Nat) (f : Port → Port) (g : Fld) : (s.setPort p f).get g = s.get g := rfl
@[simp] theorem State.setPort_items (s : State) (p : Nat) (f : Port → Port) : (s.setPort p f).items = s.items := rfl

theorem State.port_setPort_same (s : State) {p : Nat} (f : Port → Port) (hp : p < s.skn.ports.length) :
    (s.setPort p f).port p = f (s.port p) := getD_modAt_same f _ _ _ hp

theorem State.port_setPort_other (s : State) {p q : Nat} (f : Port → Port) (h : q ≠ p) :
    (s.setPort p f).port q = s.port q := getD_modAt_other f _ _ h

theorem modAt_of_length_le {α : Type} (f : α → α) {l : List α} {n : Nat} (h : l.length ≤ n) : modAt f l n = l := by
  induction l generalizing n with
  | nil => rfl
  | cons x l ih => cases n with
    | zero => exact absurd h (by simp)
    | succ n => rw [modAt, ih (by simpa using h)]

/-- A change of a port that leaves one of its values leaves that value of every port. -/
theorem State.setPort_keeps {β : Type} {v : Port → β} {f : Port → Port} (hf : ∀ x, v (f x) = v x) (s : State) (p q : Nat) :
    v ((s.setPort p f).port q) = v (s.port q) := by
  by_cases hq : q = p
  · subst hq
    by_cases hlen : q < s.skn.ports.length
    · rw [State.port_setPort_same s f hlen, hf]
    · rw [State.port, State.setPort, modAt_of_length_le f (Nat.le_of_not_lt hlen), State.port]
  · rw [State.port_setPort_other s f hq]

/-- The registers of the three ports of the skein. -/
def isPortReg (a : Nat) : Bool := decide (0x400d0100 ≤ a) && decide (a < 0x400d01c0)

theorem isPortReg_status {p : Nat} (hp : p < 3) : isPortReg (Reg.SKN_PORT_STATUS p) = true := by
  rw [isPortReg, Reg.SKN_PORT_STATUS, Bool.and_eq_true, decide_eq_true_eq, decide_eq_true_eq]
  omega

theorem isPortReg_peer {p : Nat} (hp : p < 3) : isPortReg (Reg.SKN_PORT_PEER p) = true := by
  rw [isPortReg, Reg.SKN_PORT_PEER, Bool.and_eq_true, decide_eq_true_eq, decide_eq_true_eq]
  omega

/-- An interrupt of SKN or CLK writes no register of a port. -/
theorem irqTouches_port {a b : Nat} (ha : isPortReg a = true) (hb : b = Blk.SKN ∨ b = Blk.CLK) : irqTouches b a = false := by
  simp only [isPortReg, Bool.and_eq_true, decide_eq_true_eq] at ha
  rcases hb with rfl | rfl <;>
    simp [irqTouches, isrOf, Blk.SKN, Blk.CLK, Reg.SUP_STATUS, Reg.CPX_PLIC_PEND, Reg.SKN_ISR, Reg.CLK_ISR] <;> omega

/-! ### What the upkeep of the tree keeps (R319 to R321, R338, R339) -/

/-- A link that is up may change between upstream, downstream and standby; any other stays. -/
def LinkKept (s r : State) (p : Nat) : Prop :=
  linkOf r p = linkOf s p ∨ (2 ≤ linkOf s p ∧ linkOf s p ≤ 4 ∧ 2 ≤ linkOf r p ∧ linkOf r p ≤ 4)

/-- What the upkeep of the tree keeps: the promise table, the peers that the ports show and the peers' views; and a link
that is up stays up, any other as it is. -/
structure TreeKept (s r : State) : Prop where
  items : r.items = s.items
  peer : ∀ p, p < 3 → r.rd (Reg.SKN_PORT_PEER p) = s.rd (Reg.SKN_PORT_PEER p)
  viewHead : ∀ p, (r.port p).viewHead = (s.port p).viewHead
  viewDep : ∀ p, (r.port p).viewDep = (s.port p).viewDep
  link : ∀ p, p < 3 → LinkKept s r p

theorem LinkKept.trans {s y r : State} {p : Nat} (h : LinkKept s y p) (h' : LinkKept y r p) : LinkKept s r p := by
  unfold LinkKept at *
  omega

theorem TreeKept.trans {s y r : State} (h : TreeKept s y) (h' : TreeKept y r) : TreeKept s r where
  items := h'.items.trans h.items
  peer p hp := (h'.peer p hp).trans (h.peer p hp)
  viewHead p := (h'.viewHead p).trans (h.viewHead p)
  viewDep p := (h'.viewDep p).trans (h.viewDep p)
  link p hp := (h.link p hp).trans (h'.link p hp)

/-- A step that writes no register of a port and leaves the promise table and the ports. -/
theorem TreeKept.of_portRegs {s r : State} (hitems : r.items = s.items) (hports : r.skn.ports = s.skn.ports)
    (hregs : ∀ a, isPortReg a = true → r.rd a = s.rd a) : TreeKept s r where
  items := hitems
  peer _ hp := hregs _ (isPortReg_peer hp)
  viewHead _ := by rw [State.port, hports, State.port]
  viewDep _ := by rw [State.port, hports, State.port]
  link _ hp := .inl (State.get_of_rd (hregs _ (isPortReg_status hp)))

theorem TreeKept.refl {s : State} : TreeKept s s := .of_portRegs rfl rfl fun _ _ => rfl

section
/-! Each lemma extends what is kept by one more step. -/
variable {s y : State} (h : TreeKept s y)
include h

/-- An update of the skein's own state beside its ports. -/
theorem TreeKept.skn {k : Skn} (hports : k.ports = y.skn.ports) : TreeKept s { y with skn := k } :=
  h.trans (.of_portRegs rfl hports fun _ _ => rfl)

theorem TreeKept.wr {b : Nat} (v : Word) (hb : isPortReg b = false) : TreeKept s (y.wr b v) :=
  h.trans (.of_portRegs rfl rfl fun a ha => State.rd_wr_other y v (fun e => by rw [e, hb] at ha; cases ha))

theorem TreeKept.put {f : Fld} (v : Nat) (hf : isPortReg f.addr = false) : TreeKept s (y.put f v) := h.wr _ hf

theorem TreeKept.irq (mask : Nat) : TreeKept s (y.irq Blk.SKN mask) :=
  h.trans (.of_portRegs (State.irq_items ..) (by rw [State.irq_skn]) fun _ ha => State.irq_rd _ _ _ (irqTouches_port ha (.inl rfl)))

theorem TreeKept.fire (e : Nat) : TreeKept s (y.fire e) := h.trans (.of_portRegs rfl rfl fun _ _ => rfl)

theorem TreeKept.setPort (p : Nat) {f : Port → Port} (hhead : ∀ x, (f x).viewHead = x.viewHead)
    (hdep : ∀ x, (f x).viewDep = x.viewDep) : TreeKept s (y.setPort p f) where
  items := h.items
  peer := h.peer
  viewHead q := (State.setPort_keeps hhead y p q).trans (h.viewHead q)
  viewDep q := (State.setPort_keeps hdep y p q).trans (h.viewDep q)
  link := h.link

theorem TreeKept.foldl {α : Type} {f : State → α → State} (hf : ∀ x a, TreeKept s x → TreeKept s (f x a)) (l : List α) :
    TreeKept s (l.foldl f y) :=
  foldl_inv hf l y h

theorem TreeKept.sendRec (r : SknRec) (p : Nat) : TreeKept s (y.sendRec r p) := h.setPort p (fun _ => rfl) (fun _ => rfl)

theorem TreeKept.raiseNotice (kind except : Nat) : TreeKept s (y.raiseNotice kind except) := by
  unfold State.raiseNotice State.spreadNotice
  refine TreeKept.foldl ?_ (fun x p hx => ?_) _
  · exact h.skn rfl
  · exact hx.setPort p (fun _ => rfl) (fun _ => rfl)

theorem TreeKept.updateView : TreeKept s y.updateView := by
  unfold State.updateView
  dsimp only
  have hview : TreeKept s (if headOf y == y.skn.viewHead && deputyOf y (headOf y) == y.skn.viewDep then y else
      { y with skn := { y.skn with viewHead := headOf y, viewDep := deputyOf y (headOf y), viewAt := y.now } }) := by
    split
    · exact h
    · exact h.skn rfl
  split
  · exact ((hview.put _ (by decide)).put _ (by decide)).put _ (by decide)
  · exact (hview.wr _ (by decide)).put _ (by decide)

theorem TreeKept.syncHoldover : TreeKept s y.syncHoldover := by
  unfold State.syncHoldover
  split
  · exact (h.put _ (by decide)).skn rfl
  · exact (h.put _ (by decide)).skn rfl

theorem TreeKept.setHead (id : Nat) : TreeKept s (y.setHead id) := by
  unfold State.setHead
  split
  · exact h
  · exact ((h.put _ (by decide)).irq _).fire _

theorem TreeKept.sendEnum : TreeKept s y.sendEnum := by
  unfold State.sendEnum
  dsimp only
  split
  · exact h
  · refine TreeKept.sendRec ?_ _ _
    exact h.skn rfl

theorem TreeKept.takeUpstream (p : Nat) : TreeKept s (y.takeUpstream p) := by
  unfold State.takeUpstream
  dsimp only
  have hmembers : TreeKept s (if upPort y = p then y else
      { y with skn := { y.skn with members := y.skn.members.filter (fun m => m.port != p) } }) := by
    split
    · exact h
    · exact h.skn rfl
  split
  · exact ((hmembers.put _ (by decide)).put _ (by decide)).setHead _
  · exact (hmembers.put _ (by decide)).put _ (by decide)

end

theorem linkUp_range {s : State} {p : Nat} (hup : linkUp s p = true) : p < 3 ∧ 2 ≤ linkOf s p ∧ linkOf s p ≤ 4 := by
  simp only [linkUp, portOn, Bool.and_eq_true, decide_eq_true_eq] at hup
  exact ⟨hup.1.1.1.2, hup.1.2, hup.2⟩

theorem mem_upPorts {s : State} {p : Nat} (hp : p ∈ upPorts s) : linkUp s p = true := (List.mem_filter.mp hp).2

theorem linkOf_put_link (s : State) (p k : Nat) : linkOf (s.put (F.SKN_PORT_STATUS_LINK p) k) p = k % 8 :=
  State.get_put_same s _ _ (by simp [F.SKN_PORT_STATUS_LINK])

theorem linkOf_put_link_other (s : State) {p q : Nat} (k : Nat) (h : q ≠ p) :
    linkOf (s.put (F.SKN_PORT_STATUS_LINK p) k) q = linkOf s q :=
  State.get_put_reg s _ _ _ (by simp [F.SKN_PORT_STATUS_LINK, Reg.SKN_PORT_STATUS, h])

/-- An up link takes another of the values of up links. -/
theorem TreeKept.putLink {s y : State} {p k : Nat} (h : TreeKept s y) (hup : linkUp s p = true) (hk : 2 ≤ k ∧ k ≤ 4) :
    TreeKept s (y.put (F.SKN_PORT_STATUS_LINK p) k) := by
  have hpeer (q : Nat) (hq : q < 3) : Reg.SKN_PORT_PEER q ≠ (F.SKN_PORT_STATUS_LINK p).addr := by
    simp only [Reg.SKN_PORT_PEER, F.SKN_PORT_STATUS_LINK, Reg.SKN_PORT_STATUS]
    omega
  refine ⟨h.items, fun q hq => (State.rd_put_other _ _ _ (hpeer q hq)).trans (h.peer q hq), h.viewHead, h.viewDep,
    fun q hq => ?_⟩
  obtain ⟨-, hlo, hhi⟩ := linkUp_range hup
  by_cases hqp : q = p
  · subst hqp
    refine .inr ⟨hlo, hhi, ?_⟩
    rw [linkOf_put_link]
    omega
  · rw [LinkKept, linkOf_put_link_other _ _ hqp]
    exact h.link q hq

theorem TreeKept.classify {s y : State} (h : TreeKept s y) : TreeKept s y.classify := by
  refine h.trans ?_
  unfold State.classify
  refine List.foldlRecOn (motive := TreeKept y) _ _ .refl fun x hx p hp => ?_
  dsimp only
  have hvalue (c d : Bool) : 2 ≤ (if c then 2 else if d then 3 else 4) ∧ (if c then 2 else if d then 3 else 4) ≤ 4 := by
    cases c <;> cases d <;> decide
  split
  · refine TreeKept.setPort ?_ _ (fun _ => rfl) (fun _ => rfl)
    exact hx.putLink (mem_upPorts hp) (hvalue _ _)
  · exact hx.putLink (mem_upPorts hp) (hvalue _ _)

theorem TreeKept.reroute {s y : State} (h : TreeKept s y) : TreeKept s y.reroute := by
  unfold State.reroute
  split
  · exact h
  dsimp only
  split
  · refine .classify ?_
    split
    · exact h.takeUpstream _
    · exact (h.takeUpstream _).sendEnum
  · exact h.classify

/-- The upstream that a device attaches by, if one is known. -/
def State.upstreamTaken (s : State) : Option Nat → State
  | some p => (s.takeUpstream p).sendEnum
  | none => (s.put F.SKN_STATUS_UPPORT 3).put F.SKN_STATUS_HOPS 0x7FF

/-- A device becomes a member (Table 10-4). -/
def State.madeMember (s : State) : State :=
  { s.put F.SKN_STATUS_STATE 3 with skn := { s.skn with fromOrphan := false, lostHead := none, incumbent := false } }

theorem State.attach_eq (s : State) (p : Option Nat) (again : Bool) : s.attach p again =
    (if again then ((s.upstreamTaken p).madeMember.classify.irq Blk.SKN 2).raiseNotice 2 (p.getD 3)
      else (s.upstreamTaken p).madeMember.classify).syncHoldover := by
  cases p <;> rfl

theorem TreeKept.upstreamTaken {s y : State} (h : TreeKept s y) (p : Option Nat) : TreeKept s (y.upstreamTaken p) :=
  match p with
  | some p => (h.takeUpstream p).sendEnum
  | none => (h.put _ (by decide)).put _ (by decide)

theorem TreeKept.madeMember {s y : State} (h : TreeKept s y) : TreeKept s y.madeMember :=
  TreeKept.skn (h.put 3 (f := F.SKN_STATUS_STATE) (by decide)) rfl

theorem TreeKept.attach {s y : State} (h : TreeKept s y) (p : Option Nat) (again : Bool) : TreeKept s (y.attach p again) := by
  have hmember := (h.upstreamTaken p).madeMember.classify
  rw [State.attach_eq]
  refine .syncHoldover ?_
  split
  · exact (hmember.irq _).raiseNotice _ _
  · exact hmember

/-- What follows from a changed view or offer, in every state (Table 10-4). -/
theorem TreeKept.follow {s y : State} (h : TreeKept s y) : TreeKept s y.follow := by
  unfold State.follow
  have hview := h.updateView
  dsimp only
  split
  · exact hview.reroute
  split
  · split
    · split
      · exact hview.attach _ _
      · exact hview.classify
    · exact hview.classify
  split
  · split
    · exact hview.attach _ _
    · exact hview.classify
  · exact hview.classify

end Sys2Proof.Machine

namespace Sys2Proof.Machine

/-! ### Elections (R319, R338, R339) -/

/-- This device's role in the skein: its state, its distance from the head, and since when it is head. -/
def State.role (s : State) : Nat × Nat × Nat := (sknState s, s.get F.SKN_STATUS_HOPS, s.skn.headSince)

theorem State.put_role (s : State) {f : Fld} (v : Nat) (hf : Reg.SKN_STATUS ≠ f.addr) : (s.put f v).role = s.role := by
  rw [State.role, sknState, State.get_put_reg _ _ _ _ hf, State.get_put_reg _ _ _ _ hf, State.put_skn, State.role, sknState]

theorem State.wr_role (s : State) {a : Nat} (v : Word) (ha : Reg.SKN_STATUS ≠ a) : (s.wr a v).role = s.role := by
  rw [State.role, sknState, State.get_wr_other _ _ _ ha, State.get_wr_other _ _ _ ha, State.wr_skn, State.role, sknState]

theorem State.put_deputy_role (s : State) (v : Nat) : (s.put F.SKN_STATUS_DEPUTY v).role = s.role := by
  rw [State.role, sknState, State.get_put_field _ _ _ _ (by decide) (by decide),
    State.get_put_field _ _ _ _ (by decide) (by decide), State.put_skn, State.role, sknState]

theorem State.classify_role (s : State) : s.classify.role = s.role := by
  unfold State.classify
  refine foldl_keeps (p := State.role) (fun x p => ?_) _ _
  have hput (k : Nat) : (x.put (F.SKN_PORT_STATUS_LINK p) k).role = x.role :=
    State.put_role _ _ (by simp only [F.SKN_PORT_STATUS_LINK, Reg.SKN_PORT_STATUS, Reg.SKN_STATUS]; omega)
  dsimp only
  split
  · exact hput _
  · exact hput _

theorem State.sendQuench_role (s : State) : s.sendQuench.role = s.role := by
  unfold State.sendQuench
  split
  · refine (foldl_keeps (p := State.role) ?_ _ _).trans ?_
    · exact fun _ _ => rfl
    · rfl
  · rfl

theorem State.syncHoldover_role (s : State) : s.syncHoldover.role = s.role := by
  unfold State.syncHoldover
  split
  · exact State.put_role s _ (by decide)
  · exact State.put_role s _ (by decide)

theorem State.raiseNotice_role (s : State) (kind except : Nat) : (s.raiseNotice kind except).role = s.role := by
  unfold State.raiseNotice State.spreadNotice
  refine (foldl_keeps (p := State.role) ?_ _ _).trans ?_
  · exact fun _ _ => rfl
  · rfl

/-- The view as it is computed afresh; its time is that of its last change. -/
theorem State.updateView_shows (s : State) : s.updateView.role = s.role ∧ s.updateView.skn.incumbent = s.skn.incumbent ∧
    (s.updateView.skn.viewAt = s.now ∨ s.updateView.skn.viewAt = s.skn.viewAt) := by
  obtain ⟨y, hy, hrole, hincumbent, hat⟩ : ∃ y : State, (if headOf s == s.skn.viewHead && deputyOf s (headOf s) == s.skn.viewDep
      then s else { s with skn := { s.skn with viewHead := headOf s, viewDep := deputyOf s (headOf s), viewAt := s.now } }) = y ∧
      y.role = s.role ∧ y.skn.incumbent = s.skn.incumbent ∧ (y.skn.viewAt = s.now ∨ y.skn.viewAt = s.skn.viewAt) := by
    refine ⟨_, rfl, ?_⟩
    split
    · exact ⟨rfl, rfl, .inr rfl⟩
    · exact ⟨rfl, rfl, .inl rfl⟩
  unfold State.updateView
  dsimp only
  rw [hy]
  split
  · rw [State.put_deputy_role, State.put_role _ _ (by decide), State.put_role _ _ (by decide)]
    exact ⟨hrole, hincumbent, hat⟩
  · rw [State.put_deputy_role, State.wr_role _ _ (by decide)]
    exact ⟨hrole, hincumbent, hat⟩

theorem TreeKept.sendQuench {s y : State} (h : TreeKept s y) : TreeKept s y.sendQuench := by
  unfold State.sendQuench
  split
  · refine TreeKept.foldl ?_ (fun x p hx => hx.sendRec _ _) _
    exact h.skn rfl
  · exact h

/-- A device that has just become head, before its links and its quench state follow. -/
def State.madeHead (s : State) : State :=
  let y := ((s.setHead (sknId s)).put F.SKN_STATUS_STATE 4).put F.SKN_STATUS_UPPORT 3
  { y.put F.SKN_STATUS_HOPS 0 with skn := { y.skn with headSince := s.now, fromOrphan := false } }

theorem State.becomeHead_eq (s : State) : s.becomeHead = s.madeHead.classify.sendQuench.syncHoldover := by
  simp only [State.becomeHead, State.madeHead]

/-- The new head is in state HEAD at distance 0 from now. -/
theorem State.madeHead_role (s : State) : s.madeHead.role = (4, 0, s.now) := by
  refine Prod.ext ?state (Prod.ext ?hops rfl)
  case state =>
    rw [State.role, State.madeHead, sknState, State.get_update, State.get_put_field _ _ _ _ (by decide) (by decide),
      State.get_put_field _ _ _ _ (by decide) (by decide), State.get_put_same _ _ _ (by decide)]
    rfl
  case hops =>
    rw [State.role, State.madeHead, State.get_update, State.get_put_same _ _ _ (by decide)]
    rfl

theorem State.becomeHead_role (s : State) : s.becomeHead.role = (4, 0, s.now) := by
  rw [State.becomeHead_eq, State.syncHoldover_role, State.sendQuench_role, State.classify_role, State.madeHead_role]

theorem TreeKept.becomeHead {s y : State} (h : TreeKept s y) : TreeKept s y.becomeHead := by
  have hmade : TreeKept s y.madeHead := by
    unfold State.madeHead
    refine TreeKept.skn ?_ rfl
    exact (((h.setHead _).put _ (by decide)).put _ (by decide)).put _ (by decide)
  rw [State.becomeHead_eq]
  exact hmade.classify.sendQuench.syncHoldover

/-- A device that starts an election, before its view follows. -/
def State.madeElector (s : State) (fromOrphan : Bool) : State :=
  let y := ((s.put F.SKN_STATUS_STATE 2).put F.SKN_STATUS_UPPORT 3).put F.SKN_STATUS_HOPS 0x7FF
  { y with skn := { y.skn with
      viewAt := s.now, incumbent := false, fromOrphan := fromOrphan
      lostHead := if fromOrphan then some (s.get F.SKN_STATUS_HEAD_ID) else none
      ports := if fromOrphan then y.skn.ports.map (fun (p : Port) => { p with viewHead := none, viewDep := none })
        else y.skn.ports } }

theorem State.elect_eq (s : State) (fromOrphan : Bool) :
    s.elect fromOrphan = (s.madeElector fromOrphan).updateView.syncHoldover := rfl

theorem State.syncHoldover_viewAt (s : State) : s.syncHoldover.skn.viewAt = s.skn.viewAt := by
  unfold State.syncHoldover
  split <;> rfl

theorem State.madeElector_state (s : State) (fromOrphan : Bool) : sknState (s.madeElector fromOrphan) = 2 := by
  rw [State.madeElector, sknState, State.get_update, State.get_put_field _ _ _ _ (by decide) (by decide),
    State.get_put_field _ _ _ _ (by decide) (by decide), State.get_put_same _ _ _ (by decide)]
  rfl

theorem State.madeElector_viewAt (s : State) (fromOrphan : Bool) : (s.madeElector fromOrphan).skn.viewAt = s.now := rfl
theorem State.madeElector_now (s : State) (fromOrphan : Bool) : (s.madeElector fromOrphan).now = s.now := rfl
theorem State.madeElector_items (s : State) (fromOrphan : Bool) : (s.madeElector fromOrphan).items = s.items := rfl

/-- The elector is in state ELECTION, and its view counts from now. -/
theorem State.elect_starts (s : State) (fromOrphan : Bool) :
    sknState (s.elect fromOrphan) = 2 ∧ (s.elect fromOrphan).skn.viewAt = s.now ∧ (s.elect fromOrphan).items = s.items := by
  obtain ⟨hrole, -, hat⟩ := (s.madeElector fromOrphan).updateView_shows
  have hkept : TreeKept (s.madeElector fromOrphan) (s.elect fromOrphan) := (TreeKept.updateView .refl).syncHoldover
  rw [State.madeElector_now, State.madeElector_viewAt, or_self] at hat
  refine ⟨?_, (State.syncHoldover_viewAt _).trans hat, hkept.items.trans (State.madeElector_items ..)⟩
  exact (congrArg Prod.fst ((State.syncHoldover_role _).trans hrole)).trans (State.madeElector_state ..)

/-- A device without a candidate for its head is headless, and reports it. -/
def State.madeHeadless (s : State) : State :=
  ({ s.put F.SKN_STATUS_STATE 6 with skn := { s.skn with fromOrphan := false } }.irq Blk.SKN 8).record 0x0D00 0x0D03

/-- The deputy takes over from the head that was lost: its ports' views are forgotten (Table 10-4). -/
def State.headLost (s : State) : State :=
  { s with skn := { s.skn with lostHead := some (s.get F.SKN_STATUS_HEAD_ID)
                               ports := s.skn.ports.map (fun (p : Port) => { p with viewHead := none, viewDep := none }) } }

theorem TreeKept.record {s y : State} (h : TreeKept s y) (tag reason w4 : Nat) :
    TreeKept s (y.record tag reason (w4 := w4)) := h.trans (.of_portRegs rfl rfl fun _ _ => rfl)

theorem State.syncHoldover_rd (s : State) {a : Nat} (ha : a ≠ Reg.SKN_HOLDOVER) : s.syncHoldover.rd a = s.rd a := by
  unfold State.syncHoldover
  split
  · exact State.rd_put_other _ _ _ ha
  · exact State.rd_put_other _ _ _ ha

/-- Settles O38: each command is one transition of Table 10-4; the promise table outlives the upkeep of the tree (TreeKept),
and a role outlives what follows it (State.becomeHead_role, State.elect_starts). -/
theorem skeinElections : Obligations.SkeinElections := by
  unfold Obligations.SkeinElections
  refine ⟨?record, ?incumbent, ?headless, ?head, ?deputy, ?electing, ?otherState⟩
  case record =>
    rintro s x t p h d rfl hports hup
    have hp : p < (s.at t).skn.ports.length := by have := (linkUp_range hup).1; omega
    have hkept : TreeKept _ (State.follow ((s.at t).setPort p fun y => { y with viewHead := some h, viewDep := d })) :=
      .follow .refl
    refine ⟨_, congrArg Host.Outcome.next (if_neg (by simp [hup])), ?_, ?_, hkept.items⟩
    · rw [hkept.viewHead, State.port_setPort_same _ _ hp]
    · rw [hkept.viewDep, State.port_setPort_same _ _ hp]
  case incumbent =>
    rintro s x t rfl hstate hnew hlong
    obtain ⟨hrole, hincumbent, -⟩ := State.updateView_shows
      { s.at t with skn := { (s.at t).skn with incumbent := true } }
    exact ⟨_, congrArg Host.Outcome.next (if_pos ⟨hstate, by rw [hnew]; rfl, hlong⟩), hincumbent,
      (congrArg Prod.fst hrole).trans hstate, (TreeKept.updateView .refl).items⟩
  case headless =>
    rintro s x t rfl hstate hlong hview
    have hsettle : (s.at t).settleElection = (s.at t).madeHeadless.syncHoldover := by
      rw [State.settleElection, if_neg (by omega), hview]
      rfl
    refine ⟨_, congrArg Host.Outcome.next hsettle, ?_, ?_, ?_⟩
    · refine (congrArg Prod.fst (State.syncHoldover_role _)).trans ?_
      exact (State.irq_get _ _ _ (by decide)).trans (State.get_put_same _ _ _ (by decide))
    · rw [State.syncHoldover_rd _ (by decide)]
      exact State.irq_isr_bit (k := 3) _ (by decide) rfl (by decide) (by decide)
    · exact (TreeKept.syncHoldover .refl).items.trans (State.irq_items ..)
  case head =>
    rintro s x t c rfl hstate hlong hview hown
    have hsettle : (s.at t).settleElection = (s.at t).becomeHead := by
      rw [State.settleElection, if_neg (by omega), hview]
      exact if_pos hown
    have hrole := (s.at t).becomeHead_role
    exact ⟨_, congrArg Host.Outcome.next hsettle, congrArg Prod.fst hrole, congrArg (fun r => r.2.1) hrole,
      congrArg (fun r => r.2.2) hrole, (TreeKept.becomeHead .refl).items⟩
  case deputy =>
    rintro s x t rfl hstate hlong hdeputy
    have htimeout : (s.at t).orphanTimeout = ((s.at t).headLost.becomeHead.updateView).raiseNotice 2 3 := by
      rw [State.orphanTimeout, if_neg (by omega), if_pos hdeputy]
      rfl
    have hrole : (((s.at t).headLost.becomeHead.updateView).raiseNotice 2 3).role = (4, 0, (s.at t).now) := by
      rw [State.raiseNotice_role, (State.updateView_shows _).1, State.becomeHead_role]
      rfl
    exact ⟨_, congrArg Host.Outcome.next htimeout, congrArg Prod.fst hrole, congrArg (fun r => r.2.1) hrole,
      ((TreeKept.becomeHead .refl).updateView.raiseNotice 2 3).items⟩
  case electing =>
    rintro s x t rfl hstate hlong hdeputy
    have htimeout : (s.at t).orphanTimeout = (s.at t).elect true := by
      rw [State.orphanTimeout, if_neg (by omega), if_neg (by simp [hdeputy])]
    exact ⟨_, congrArg Host.Outcome.next htimeout, State.elect_starts _ _⟩
  case otherState =>
    rintro s x t rfl hstate
    exact congrArg Host.Outcome.next (if_pos (.inl hstate))

end Sys2Proof.Machine

namespace Sys2Proof.Machine

/-! ### The skein's registers through the loss of the recovered clock (R26, R107, R326, R474, R477, R498)

The loss may be a lock loss, which ends items, or a clock-loss reset.  Neither writes a register of SKN from the member table
on, but that a reset returns them to their reset words. -/

theorem lanesWhere_lt {p : Nat → Bool} {n : Nat} (h : n ∈ lanesWhere p 0 64) : n < 64 := by
  obtain ⟨i, hi, rfl⟩ := List.mem_map.mp (List.mem_filter.mp h).1
  rw [Nat.zero_add]
  exact List.mem_range.mp hi

theorem State.rd_ite {c : Prop} [Decidable c] {y z : State} {a : Nat} {w : Word} (hy : y.rd a = w) (hz : z.rd a = w) :
    (if c then y else z).rd a = w := by
  split
  · exact hy
  · exact hz

section
variable {a : Nat} (ha : 0x400d0040 ≤ a ∧ a < 0x400e0000)
include ha

theorem State.wr_sknRd (s : State) {b : Nat} (v : Word) (hb : b < 0x400d0040 ∨ 0x400e0000 ≤ b) :
    (s.wr b v).rd a = s.rd a := State.rd_wr_other s v (by omega)

theorem State.count_sknRd (s : State) (f : Fld) (n : Nat) (hf : f.addr < 0x400d0040 ∨ 0x400e0000 ≤ f.addr) :
    (s.count f n).rd a = s.rd a := State.put_sknRd ha s f _ hf

theorem State.irq_sknRd (s : State) {b : Nat} (mask : Nat) (hb : b = Blk.MUR ∨ b = Blk.ESM ∨ b = Blk.CLK) :
    (s.irq b mask).rd a = s.rd a := by
  refine State.irq_rd s b mask ?_
  rcases hb with rfl | rfl | rfl <;>
    simp [irqTouches, isrOf, Blk.MUR, Blk.ESM, Blk.CLK, Reg.SUP_STATUS, Reg.CPX_PLIC_PEND, Reg.MUR_ISR, Reg.ESM_ISR,
      Reg.CLK_ISR] <;> omega

theorem State.syncLoad_sknRd (s : State) : s.syncLoad.rd a = s.rd a := by
  unfold State.syncLoad
  iterate 3 rw [State.put_sknRd ha _ _ _ (by decide)]

theorem State.releaseLane_sknRd (s : State) {n : Nat} (hn : n < 64) : (s.releaseLane n).rd a = s.rd a := by
  unfold State.releaseLane State.clearLane State.wr64 State.chargeLane
  rw [State.syncLoad_sknRd ha]
  iterate 5 rw [State.wr_sknRd ha _ _ (by
    simp only [Reg.MUR_LANE_STATE, Reg.MUR_LANE_TRIPLE, Reg.MUR_LANE_METRIC, Reg.MUR_LANE_START]; omega)]
  exact congrArg Prod.snd (State.onWindow_frontKept a ..)

theorem State.dropLanes_sknRd (s : State) (idx : Nat) : (s.dropLanes idx).rd a = s.rd a := by
  unfold State.dropLanes
  rw [State.syncLoad_sknRd ha]
  exact List.foldlRecOn (motive := fun x : State => x.rd a = s.rd a) _ State.releaseLane rfl
    fun x hx n hn => (State.releaseLane_sknRd ha x (lanesWhere_lt hn)).trans hx

theorem State.overload_sknRd (s : State) (b : Int) : (s.overload b).rd a = s.rd a := by
  unfold State.overload
  rw [State.irq_sknRd ha _ _ (.inl rfl), State.count_sknRd ha _ _ _ (by decide)]
  rfl

theorem State.serveQueue_sknRd (l : List Int) (s : State) : (s.serveQueue l).rd a = s.rd a := by
  induction l generalizing s with
  | nil => rfl
  | cons b l ih =>
    have hseat (k : Option Nat) : (s.putSeat b k).rd a = s.rd a := congrArg Prod.snd (State.putSeat_frontKept a s b k)
    unfold State.serveQueue
    split
    · rfl
    dsimp only
    rw [ih]
    exact State.rd_ite ((State.overload_sknRd ha _ _).trans (hseat _)) (hseat _)

theorem State.coverage_sknRd (s : State) : s.coverage.rd a = s.rd a := by
  have hdrop : s.dropSeats.dropQueue.rd a = s.rd a :=
    foldl_keeps (p := fun x : State => x.rd a) (State.overload_sknRd ha) _ _
  have hflagged (x : State) (b : Int) : (x.seatFlagged b).rd a = x.rd a :=
    congrArg Prod.snd (State.seatFlagged_frontKept a x b)
  have halways (x : State) (b : Int) : (x.seatAlways b).rd a = x.rd a :=
    congrArg Prod.snd (State.seatAlways_frontKept a x b)
  have hseats : s.seats.rd a = s.rd a := by
    unfold State.seats
    rw [State.put_sknRd ha _ _ _ (by decide), State.put_sknRd ha _ _ _ (by decide),
      foldl_keeps (p := fun x : State => x.rd a) hflagged,
      foldl_keeps (p := fun x : State => x.rd a) halways, State.serveQueue_sknRd ha, hdrop]
  unfold State.coverage State.listening
  refine List.foldlRecOn (motive := fun x : State => x.rd a = s.rd a) _ _ hseats fun x hx w hw => ?_
  have hw4 : w < 4 := by simp only [List.mem_cons, List.not_mem_nil, or_false] at hw; omega
  split
  · refine (State.put_sknRd ha x _ _ ?_).trans hx
    simp only [F.MUR_LANE_STATE_STATE, Reg.MUR_LANE_STATE]
    omega
  · exact hx

theorem State.ownerEnd_sknRd (s : State) (o : Owner) (status reason : Nat) : (s.ownerEnd o status reason).rd a = s.rd a := by
  unfold State.ownerEnd
  split
  case h_1 =>
    split
    · rfl
    split
    · rfl
    · refine (State.irq_sknRd ha _ _ (.inr (.inl rfl))).trans ?_
      rw [State.put_sknRd ha _ _ _ (by decide), State.put_sknRd ha _ _ _ (by decide)]
      rfl
  case h_2 => rfl
  case h_3 => split <;> rfl
  case h_4 => rfl

theorem State.decideFinal_sknRd (s : State) (idx status reason since : Nat) :
    (s.decideFinal idx status reason since).rd a = s.rd a := by
  unfold State.decideFinal
  split
  · rfl
  split
  · rfl
  dsimp only
  split
  · exact State.syncItems_sknRd ha _
  · refine (State.syncItems_sknRd ha _).trans ?_
    split
    · exact State.ownerEnd_sknRd ha ..
    · exact State.ownerEnd_sknRd ha ..

theorem State.finish_sknRd (s : State) (idx status reason : Nat) : (s.finish idx status reason).rd a = s.rd a := by
  unfold State.finish State.finishAt
  split
  · split
    · exact (State.coverage_sknRd ha _).trans ((State.decideFinal_sknRd ha ..).trans (State.dropLanes_sknRd ha ..))
    · exact State.decideFinal_sknRd ha ..
  · rfl

theorem State.moveToRepair_sknRd (s : State) (i : Item) (status reason : Nat) :
    (s.moveToRepair i status reason).rd a = s.rd a := by
  unfold State.moveToRepair
  split
  · exact State.finish_sknRd ha ..
  split
  · exact State.finish_sknRd ha ..
  · exact State.syncItems_sknRd ha _

theorem State.lockLoss_sknRd (s : State) : s.lockLoss.rd a = s.rd a := by
  have hslot : s.lockLoss.rd a = (s.rampDown 4 0x0202).rd a :=
    (congrArg Prod.snd (State.delayWindows_frontKept a ..) :).trans
      (foldl_keeps (p := fun x : State => x.rd a) (fun x i => State.moveToRepair_sknRd ha x i _ _) _ _)
  rw [hslot, State.rd, State.rampDown_regs, State.rd]

theorem State.pllUnlock_sknRd (s : State) : s.pllUnlock.rd a = s.rd a := by
  have hswitch (x : State) : x.switchIslands.rd a = x.rd a := by
    unfold State.switchIslands pllIslands State.switchDomain
    simp only [List.foldl_cons, List.foldl_nil]
    iterate 6 rw [State.count_sknRd ha _ _ _ (by decide)]
  unfold State.pllUnlock
  split
  · rfl
  dsimp only
  have hunlock : ((((s.put F.CLK_STATUS_SYS_LOCK 0).irq Blk.CLK 32).count (F.CLK_CNT_COUNT 2)).switchIslands).rd a = s.rd a := by
    rw [hswitch, State.count_sknRd ha _ _ _ (by decide), State.irq_sknRd ha _ _ (.inr (.inr rfl)),
      State.put_sknRd ha _ _ _ (by decide)]
  split
  · exact (State.lockLoss_sknRd ha _).trans hunlock
  · exact hunlock

theorem State.syncRef_sknRd (s : State) : s.syncRef.rd a = s.rd a := by
  unfold State.syncRef
  dsimp only
  split
  · rfl
  · rw [State.irq_sknRd ha _ _ (.inr (.inr rfl)), State.put_sknRd ha _ _ _ (by decide)]

theorem State.selectRef_sknRd (s : State) (src : Nat) (hitless : Bool) : (s.selectRef src hitless).rd a = s.rd a := by
  unfold State.selectRef
  split
  · rfl
  have hcount : ((s.put F.CLK_STATUS_REF_SRC src).count (F.CLK_CNT_COUNT 4)).rd a = s.rd a := by
    rw [State.count_sknRd ha _ _ _ (by decide), State.put_sknRd ha _ _ _ (by decide)]
  refine (State.syncRef_sknRd ha _).trans ?_
  cases hitless with
  | true => exact hcount
  | false => exact (State.pllUnlock_sknRd ha _).trans hcount

/-! A device reset -/

theorem State.keepRun_sknRd (old : State) (n : Nat) : ∀ (s : State) (b : Nat), b + 4 * n ≤ 0x400d0040 ∨ 0x400e0000 ≤ b →
    (s.keepRun old b n).rd a = s.rd a := by
  induction n with
  | zero => exact fun _ _ _ => rfl
  | succ n ih =>
    intro s b hb
    rw [State.keepRun, ih _ _ (by omega), State.wr_sknRd ha _ _ (by omega)]

theorem State.wr64_sknRd (s : State) {b : Nat} (v : Nat) (hb : b + 4 < 0x400d0040 ∨ 0x400e0000 ≤ b) :
    (s.wr64 b v).rd a = s.rd a := by
  rw [State.wr64, State.wr_sknRd ha _ _ (by omega), State.wr_sknRd ha _ _ (by omega)]

theorem State.shadowFromModel_sknRd (s : State) : s.shadowFromModel.rd a = s.rd a := by
  unfold State.shadowFromModel
  dsimp only
  refine List.foldlRecOn (motive := fun x : State => x.rd a = s.rd a) _ _ ?_ fun x hx h hh => ?_
  · refine List.foldlRecOn (motive := fun x : State => x.rd a = s.rd a) _ _ ?_ fun x hx c hc => ?_
    · iterate 5 rw [State.put_sknRd ha _ _ _ (by decide)]
    · have := List.mem_range.mp hc
      exact (State.put_sknRd ha x _ _ (by simp only [F.BLW_FLOOR_MJ, Reg.BLW_FLOOR]; omega)).trans hx
  · have := List.mem_range.mp hh
    exact (State.put_sknRd ha x _ _ (by simp only [F.BLW_HARVEST_J, Reg.BLW_HARVEST]; omega)).trans hx

theorem State.resetRegisters_sknRd (s : State) (full : Bool) : (s.resetRegisters full).rd a = resetWord a := by
  unfold State.resetRegisters
  extract_lets r r1 k1 k2 r2 r3
  have hr1 : r1.rd a = resetWord a := by
    unfold r1
    rw [State.wr_sknRd ha _ _ (by decide)]
    iterate 3 rw [State.keepRun_sknRd ha _ _ _ _ (by decide)]
    rfl
  clear_value r1
  have hk1 : k1.rd a = resetWord a := by
    unfold k1
    iterate 4 rw [State.keepRun_sknRd ha _ _ _ _ (by decide)]
    exact hr1
  clear_value k1
  have hk2 : k2.rd a = resetWord a := by
    unfold k2
    rw [State.put_sknRd ha _ _ _ (by decide)]
    iterate 4 rw [State.keepRun_sknRd ha _ _ _ _ (by decide)]
    rw [State.shadowFromModel_sknRd ha, hk1]
  clear_value k2
  have hr2 : r2.rd a = resetWord a := by
    unfold r2
    split
    · rw [State.keepRun_sknRd ha _ _ _ _ (by decide), hr1]
    · rw [State.put_sknRd ha _ _ _ (by decide), State.put_sknRd ha _ _ _ (by decide), hk2]
  clear_value r2
  have hr3 : r3.rd a = resetWord a := by
    unfold r3
    split
    · exact hr2
    · rw [State.keepRun_sknRd ha _ _ _ _ (by decide), hr2]
  clear_value r3
  unfold State.showStrap
  iterate 2 rw [State.put_sknRd ha _ _ _ (by decide)]
  rw [State.keepRun_sknRd ha _ _ _ _ (by decide)]
  iterate 2 rw [State.put_sknRd ha _ _ _ (by decide)]
  rw [State.wr64_sknRd ha _ _ (by decide), State.wr_sknRd ha _ _ (by decide)]
  exact hr3

theorem State.resetUsage_sknRd (s old : State) (lost : Bool) : (s.resetUsage old lost).rd a = s.rd a := by
  unfold State.resetUsage
  refine List.foldlRecOn (motive := fun x : State => x.rd a = s.rd a) _ _ rfl fun x hx n hn => ?_
  have := List.mem_range.mp hn
  split
  · exact (State.keepRun_sknRd ha old 2 x _ (by simp only [Reg.CRY_SLOT_USE_LO]; omega)).trans hx
  · split
    · exact (State.wr64_sknRd ha x _ (by simp only [Reg.CRY_SLOT_USE_LO]; omega)).trans hx
    · exact (State.wr64_sknRd ha x _ (by simp only [Reg.CRY_SLOT_USE_LO]; omega)).trans hx

/-- A device reset returns the registers of SKN to their reset words (R498). -/
theorem State.deviceReset_sknRd (s : State) (cause : Nat) : (s.deviceReset cause).rd a = resetWord a := by
  unfold State.deviceReset
  extract_lets reason full lost esmLost s1 s2 s3 r r1 r2
  have hr : r.rd a = resetWord a := (State.resetUsage_sknRd ha ..).trans (State.resetRegisters_sknRd ha ..)
  have hr1 : r1.rd a = resetWord a :=
    State.rd_ite ((State.put_sknRd ha _ _ _ (by decide)).trans hr) ((State.put_sknRd ha _ _ _ (by decide)).trans hr)
  have hr2 : r2.rd a = resetWord a := (State.put_sknRd ha _ _ _ (by decide)).trans hr1
  exact (State.syncItems_sknRd ha _).trans hr2

/-! The loss itself -/

/-- A fall back to a source keeps the registers that its switch keeps, or is a clock-loss reset (R477, R478). -/
theorem State.fallBack_sknRd {s : State} {src : Nat} {go : State → State} (hgo : (go s).rd a = s.rd a) :
    (s.fallBack src go).rd a = s.rd a ∨ (s.fallBack src go).rd a = resetWord a := by
  unfold State.fallBack
  split
  · exact .inl hgo
  split
  · exact .inl (State.put_sknRd ha _ _ _ (by decide))
  · exact .inr (State.deviceReset_sknRd ha ..)

/-- The recovered clock ceases to be the reference (R326, R477). -/
theorem State.loseSkeinRef_sknRd (s : State) : s.loseSkeinRef.rd a = s.rd a ∨ s.loseSkeinRef.rd a = resetWord a := by
  unfold State.loseSkeinRef State.dropSkeinRef
  generalize hx : s.put F.MAC_FREQ_EST_EST _ = x
  have hput : x.rd a = s.rd a := hx ▸ State.put_sknRd ha s _ _ (by decide)
  have hirq : (x.irq Blk.CLK 16).rd a = s.rd a := (State.irq_sknRd ha x 16 (.inr (.inr rfl))).trans hput
  split
  swap
  · exact .inl rfl
  split
  · exact .inl hput
  dsimp only
  split
  · exact .inl ((State.selectRef_sknRd ha ..).trans hirq)
  · rw [← hirq]
    exact State.fallBack_sknRd ha (State.selectRef_sknRd ha ..)

end

end Sys2Proof.Machine

namespace Sys2Proof.Machine

/-! ### Line tests and rates (R309 to R312) -/

/-- A port after its link has gone: it shows no peer and transmits at its own rate, and has no lock (R318). -/
def State.linkCleared (s : State) (p k : Nat) : State :=
  (((s.put (F.SKN_PORT_STATUS_LINK p) k).put (F.SKN_PORT_PEER_V p) 0).put (F.SKN_PORT_STATUS_LOW_RATE p) (ownRate s p)).setPort p
    (fun x => { x with
      marks := 0, misses := 0, peer := none, t21 := none, viewHead := none, viewDep := none
      tree := false, locked := false, unlockedAt := s.now })

theorem State.linkCleared_shows (s : State) {p k : Nat} (hk : k < 8) :
    linkOf (s.linkCleared p k) p = k ∧ (s.linkCleared p k).on (F.SKN_PORT_PEER_V p) = false ∧
    (s.linkCleared p k).get (F.SKN_PORT_STATUS_FAULT p) = s.get (F.SKN_PORT_STATUS_FAULT p) := by
  simp [State.linkCleared, linkOf, State.on, F.SKN_PORT_STATUS_LINK, F.SKN_PORT_PEER_V, F.SKN_PORT_STATUS_LOW_RATE,
    F.SKN_PORT_STATUS_FAULT, Reg.SKN_PORT_STATUS, Reg.SKN_PORT_PEER, Nat.mod_eq_of_lt hk]

theorem State.linkCleared_items (s : State) (p k : Nat) : (s.linkCleared p k).items = s.items := by
  simp only [State.linkCleared, State.setPort_items, State.put_items]

theorem State.linkCleared_locked (s : State) {p : Nat} (k : Nat) (hport : p < s.skn.ports.length) :
    ((s.linkCleared p k).port p).locked = false :=
  (congrArg Port.locked (State.port_setPort_same _ _ hport) :)

/-- A link that was not up is cleared, and nothing else follows. -/
theorem State.dropLink_notUp {s : State} {p : Nat} (hup : linkUp s p = false) (k : Nat) : s.dropLink p k = s.linkCleared p k := by
  unfold State.dropLink
  exact if_pos (by rw [hup]; rfl)

/-- The registers of a port show a fault (Table 10-2). -/
def State.faultShown (s : State) (p fault pair dist : Nat) : State :=
  ((s.put (F.SKN_PORT_STATUS_FAULT p) fault).put (F.SKN_PORT_STATUS_FAULT_PAIR p) pair).put (F.SKN_PORT_STATUS_FAULT_DIST p)
    (Nat.min dist 511)

theorem State.faultShown_shows (s : State) {p fault : Nat} (pair dist : Nat) (hfault : fault < 8) :
    (s.faultShown p fault pair dist).get (F.SKN_PORT_STATUS_FAULT p) = fault ∧
    linkOf (s.faultShown p fault pair dist) p = linkOf s p := by
  simp [State.faultShown, linkOf, F.SKN_PORT_STATUS_LINK, F.SKN_PORT_STATUS_FAULT, F.SKN_PORT_STATUS_FAULT_PAIR,
    F.SKN_PORT_STATUS_FAULT_DIST, Nat.mod_eq_of_lt hfault]

theorem State.faultShown_items (s : State) (p fault pair dist : Nat) : (s.faultShown p fault pair dist).items = s.items := by
  simp only [State.faultShown, State.put_items]

theorem linkUp_of_le_one {s : State} {p : Nat} (h : linkOf s p ≤ 1) : linkUp s p = false := by
  rw [linkUp, decide_eq_false (by omega), Bool.and_false, Bool.false_and]

theorem State.lineFault_eq (s : State) (p fault pair dist : Nat) : s.lineFault p fault pair dist =
    if s.get (F.SKN_PORT_STATUS_FAULT p) = fault then (s.faultShown p fault pair dist).dropLink p (if linkOf s p = 5 then 5 else 0)
    else (((s.faultShown p fault pair dist).dropLink p (if linkOf s p = 5 then 5 else 0)).irq Blk.SKN 16).record 0x0D00 0x0D04
      (w4 := p % 4 + fault % 8 * 256) := by
  simp only [State.lineFault, State.faultShown]

/-- A fault of an off or training port is shown, and the port is off and unlocked (R311, R312). -/
theorem State.lineFault_off {s : State} {p fault : Nat} (pair dist : Nat) (hp : p < 3) (hport : p < s.skn.ports.length)
    (hlink : linkOf s p ≤ 1) (hfault : fault < 8) :
    linkOf (s.lineFault p fault pair dist) p = 0 ∧ (s.lineFault p fault pair dist).get (F.SKN_PORT_STATUS_FAULT p) = fault ∧
    ((s.lineFault p fault pair dist).port p).locked = false ∧ (s.lineFault p fault pair dist).items = s.items := by
  obtain ⟨hshown, hkept⟩ := s.faultShown_shows (p := p) pair dist hfault
  obtain ⟨hoff, -, hstays⟩ := (s.faultShown p fault pair dist).linkCleared_shows (p := p) (k := 0) (by decide)
  have hlocked := (s.faultShown p fault pair dist).linkCleared_locked 0 hport
  have hitems : ((s.faultShown p fault pair dist).linkCleared p 0).items = s.items := by
    rw [State.linkCleared_items, State.faultShown_items]
  have htouch : irqTouches Blk.SKN (Reg.SKN_PORT_STATUS p) = false := irqTouches_port (isPortReg_status hp) (.inl rfl)
  rw [State.lineFault_eq, if_neg (by omega : ¬ linkOf s p = 5), State.dropLink_notUp (linkUp_of_le_one (by omega))]
  split
  · exact ⟨hoff, hstays.trans hshown, hlocked, hitems⟩
  · refine ⟨(State.irq_get _ _ _ htouch).trans hoff, (State.irq_get _ _ _ htouch).trans (hstays.trans hshown), ?_,
      (State.irq_items ..).trans hitems⟩
    rw [State.port, State.record_skn, State.irq_skn]
    exact hlocked

/-- A due line test that passes clears the fault of an off port and starts its training (R311). -/
theorem State.lineTest_passes {s : State} {p : Nat} (pair dist : Nat) (hon : portOn s p = true) (hlink : linkOf s p = 0)
    (hdue : (s.port p).testAt ≤ s.now) : s.lineTest p 0 pair dist =
      (((s.setPort p fun x => { x with testAt := s.now + msU 100 }).put (F.SKN_PORT_STATUS_FAULT p) 0).put
        (F.SKN_PORT_STATUS_FAULT_PAIR p) 0).put (F.SKN_PORT_STATUS_LINK p) 1 := by
  rw [State.lineTest, if_neg (by simp [hon, hlink, hdue]), if_pos rfl, if_pos hlink]

theorem State.lineTest_fails {s : State} {p fault : Nat} (pair dist : Nat) (hon : portOn s p = true) (hlink : linkOf s p ≤ 1)
    (hdue : (s.port p).testAt ≤ s.now) (hfault : fault ≠ 0) : s.lineTest p fault pair dist =
      (s.setPort p fun x => { x with testAt := s.now + msU 100 }).lineFault p fault pair dist := by
  rw [State.lineTest, if_neg (by simp [hon, hdue]; omega), if_neg hfault]

theorem portOn_lt {s : State} {p : Nat} (hon : portOn s p = true) : p < 3 := by
  simp only [portOn, Bool.and_eq_true, decide_eq_true_eq] at hon
  exact hon.1.2

theorem State.length_setPort (s : State) (p : Nat) (f : Port → Port) :
    (s.setPort p f).skn.ports.length = s.skn.ports.length := length_modAt ..

/-! ### Links (R318) -/

/-- A port whose link is off and that shows no peer. -/
def PortDown (s : State) (p : Nat) : Prop := linkOf s p = 0 ∧ s.on (F.SKN_PORT_PEER_V p) = false

theorem PortDown.of_treeKept {s r : State} {p : Nat} (hp : p < 3) (hdown : PortDown s p) (h : TreeKept s r) : PortDown r p := by
  obtain ⟨hoff, hpeer⟩ := hdown
  refine ⟨?_, (State.on_of_rd (h.peer p hp)).trans hpeer⟩
  have hlink := h.link p hp
  unfold LinkKept at hlink
  omega

theorem isPortReg_range {a : Nat} (ha : isPortReg a = true) : 0x400d0040 ≤ a ∧ a < 0x400e0000 := by
  simp only [isPortReg, Bool.and_eq_true, decide_eq_true_eq] at ha
  omega

/-- The loss of the recovered clock leaves a port down, through a lock loss as through a device reset. -/
theorem PortDown.loseSkeinRef {s : State} {p : Nat} (hp : p < 3) (hdown : PortDown s p) : PortDown s.loseSkeinRef p := by
  obtain ⟨hoff, hpeer⟩ := hdown
  have hreset : ∀ p, p < 3 → (F.SKN_PORT_STATUS_LINK p).value (resetWord (Reg.SKN_PORT_STATUS p)) = 0 ∧
      (F.SKN_PORT_PEER_V p).value (resetWord (Reg.SKN_PORT_PEER p)) = 0 := by decide
  constructor
  · rcases State.loseSkeinRef_sknRd (isPortReg_range (isPortReg_status hp)) s with hrd | hrd
    · exact (State.get_of_rd hrd).trans hoff
    · exact (congrArg _ hrd).trans (hreset p hp).1
  · rcases State.loseSkeinRef_sknRd (isPortReg_range (isPortReg_peer hp)) s with hrd | hrd
    · exact (State.on_of_rd hrd).trans hpeer
    · have hv : s.loseSkeinRef.get (F.SKN_PORT_PEER_V p) = 0 := (congrArg _ hrd).trans (hreset p hp).2
      rw [State.on, hv]
      rfl

theorem TreeKept.count {s y : State} (h : TreeKept s y) {f : Fld} (n : Nat) (hf : isPortReg f.addr = false) :
    TreeKept s (y.count f n) := h.put _ hf

/-- A device whose upstream is lost, before its notice and its links follow (Table 10-4). -/
def State.madeOrphan (s : State) (since : Nat) : State :=
  let y := ((s.put F.SKN_STATUS_STATE 5).put F.SKN_STATUS_UPPORT 3).put F.SKN_STATUS_HOPS 0x7FF
  ({ y with skn := { y.skn with orphanSince := since } }.irq Blk.SKN 1).count (F.SKN_CNT_COUNT 6)

theorem State.orphan_member {s : State} (hstate : sknState s = 3) (own : Bool) : s.orphan own =
    (if own then (s.loseSkeinRef.madeOrphan s.now).raiseNotice 1 (upPort s)
      else s.loseSkeinRef.madeOrphan s.now).classify.syncHoldover := by
  rw [State.orphan, if_neg (by simp [hstate])]
  simp only [State.madeOrphan]

theorem TreeKept.madeOrphan {s y : State} (h : TreeKept s y) (since : Nat) : TreeKept s (y.madeOrphan since) := by
  have hput := ((h.put 5 (f := F.SKN_STATUS_STATE) (by decide)).put 3 (f := F.SKN_STATUS_UPPORT) (by decide)).put 0x7FF
    (f := F.SKN_STATUS_HOPS) (by decide)
  exact ((hput.skn (by rfl)).irq 1).count 1 (by decide)

theorem PortDown.orphan {s : State} {p : Nat} (hp : p < 3) (hdown : PortDown s p) (own : Bool) : PortDown (s.orphan own) p := by
  by_cases hstate : sknState s = 3
  · rw [State.orphan_member hstate]
    have horphan := TreeKept.madeOrphan (s := s.loseSkeinRef) .refl s.now
    refine (hdown.loseSkeinRef hp).of_treeKept hp (.syncHoldover (.classify ?_))
    split
    · exact horphan.raiseNotice _ _
    · exact horphan
  · rw [State.orphan, if_pos hstate]
    exact hdown

theorem TreeKept.dropMembers {s y : State} (h : TreeKept s y) (q : Member → Bool) : TreeKept s (y.dropMembers q) := by
  unfold State.dropMembers
  split
  · dsimp only
    split
    · refine .count (.irq ?_ _) _ (by decide)
      exact h.skn rfl
    · exact h.skn rfl
  · exact h

theorem TreeKept.alone {s y : State} (h : TreeKept s y) : TreeKept s y.alone := by
  unfold State.alone
  split
  · dsimp only
    refine .syncHoldover (.updateView (.skn ?_ rfl))
    exact (((h.put _ (by decide)).put _ (by decide)).put _ (by decide)).put _ (by decide)
  · exact h

/-- What follows a dropped link: the loss of the upstream, or the end of a subtree, which is announced (R318, R321). -/
def State.linkLost (s : State) (own p was : Nat) : State :=
  let y := if was = 2 then s.orphan true else s
  if was = 3 then
    let x := y.dropMembers (fun m => m.port == p)
    if sknState x = 3 ∧ upPort x ≠ 3 then x.sendRec (.prune own p) (upPort x) else x
  else y

theorem PortDown.linkLost {s : State} {p : Nat} (hp : p < 3) (hdown : PortDown s p) (own was : Nat) :
    PortDown (s.linkLost own p was) p := by
  have horphan : PortDown (if was = 2 then s.orphan true else s) p := by
    split
    · exact hdown.orphan hp true
    · exact hdown
  unfold State.linkLost
  dsimp only
  generalize (if was = 2 then s.orphan true else s) = y at *
  split
  · refine horphan.of_treeKept hp ?_
    split
    · exact (TreeKept.refl.dropMembers _).sendRec _ _
    · exact TreeKept.refl.dropMembers _
  · exact horphan

theorem State.dropLink_up {s : State} {p : Nat} (hup : linkUp s p = true) (k : Nat) :
    s.dropLink p k = ((((s.linkCleared p k).fire 43).linkLost (sknId s) p (linkOf s p)).alone).follow := by
  unfold State.dropLink
  exact if_neg (by rw [hup]; decide)

/-- A link that is dropped to off stays off, whatever the loss brings with it (R318, R321, R326, Table 10-4). -/
theorem State.dropLink_down (s : State) {p : Nat} (hp : p < 3) : PortDown (s.dropLink p 0) p := by
  have hclear : PortDown (s.linkCleared p 0) p := by
    obtain ⟨hoff, hpeer, -⟩ := s.linkCleared_shows (p := p) (k := 0) (by decide)
    exact ⟨hoff, hpeer⟩
  cases hup : linkUp s p with
  | false => exact State.dropLink_notUp hup 0 ▸ hclear
  | true =>
    rw [State.dropLink_up hup]
    have hfire : PortDown ((s.linkCleared p 0).fire 43) p := hclear
    exact (hfire.linkLost hp _ _).of_treeKept hp TreeKept.refl.alone.follow

/-- The link of a port that comes up is standby, and shows its peer. -/
def State.peerShown (s : State) (p : Nat) (m : Mark) : State :=
  (((s.put (F.SKN_PORT_STATUS_LINK p) 4).put (F.SKN_PORT_PEER_ID p) m.sender).put (F.SKN_PORT_PEER_PORT p) m.sport).put
    (F.SKN_PORT_PEER_V p) 1

theorem State.peerShown_shows (s : State) (p : Nat) (m : Mark) : linkOf (s.peerShown p m) p = 4 ∧
    (s.peerShown p m).get (F.SKN_PORT_PEER_ID p) = m.sender % 1024 ∧ (s.peerShown p m).on (F.SKN_PORT_PEER_V p) = true := by
  simp [State.peerShown, linkOf, State.on, F.SKN_PORT_STATUS_LINK, F.SKN_PORT_PEER_ID, F.SKN_PORT_PEER_PORT,
    F.SKN_PORT_PEER_V, Reg.SKN_PORT_STATUS, Reg.SKN_PORT_PEER]

/-- The election of a device that had no link leaves the views of its ports (R319). -/
theorem TreeKept.elect {s y : State} (h : TreeKept s y) : TreeKept s (y.elect false) := by
  have helector : TreeKept s (y.madeElector false) := by
    unfold State.madeElector
    have hput := ((h.put 2 (f := F.SKN_STATUS_STATE) (by decide)).put 3 (f := F.SKN_STATUS_UPPORT) (by decide)).put 0x7FF
      (f := F.SKN_STATUS_HOPS) (by decide)
    exact hput.skn (by rfl)
  rw [State.elect_eq]
  exact helector.updateView.syncHoldover

theorem State.bringUp_up {s : State} {p : Nat} {m : Mark} (hon : portOn s p = true) (hlink : linkOf s p = 1)
    (hpeer : (s.port p).peer = some m) (hmarks : 16 ≤ (s.port p).marks) : s.bringUp p =
      (if sknState (s.peerShown p m) = 1 then ((s.peerShown p m).elect false).classify else s.peerShown p m).follow := by
  simp only [State.bringUp, hpeer]
  exact if_neg (by simp [hon, hlink, hmarks])

/-- A link that comes up stays up through the upkeep of the tree that follows. -/
theorem State.bringUp_kept {s : State} {p : Nat} {m : Mark} (hon : portOn s p = true) (hlink : linkOf s p = 1)
    (hpeer : (s.port p).peer = some m) (hmarks : 16 ≤ (s.port p).marks) : TreeKept (s.peerShown p m) (s.bringUp p) := by
  rw [State.bringUp_up hon hlink hpeer hmarks]
  refine .follow ?_
  split
  · exact TreeKept.refl.elect.classify
  · exact .refl

/-- One port of UNBLOCK at the time `now` (R322). -/
def State.unblockPort (s : State) (now p : Nat) : State :=
  if linkOf s p = 5 then (s.put (F.SKN_PORT_STATUS_LINK p) 1).setPort p (fun y => { y with unlockedAt := now }) else s

theorem State.unblock_eq (s : State) :
    s.unblock = ((s.unblockPort s.now 0).unblockPort s.now 1).unblockPort s.now 2 := by
  have hfold : s.unblock = [0, 1, 2].foldl (fun x p => x.unblockPort s.now p) s := rfl
  rw [hfold, List.foldl_cons, List.foldl_cons, List.foldl_cons, List.foldl_nil]

theorem linkOf_unblockPort (s : State) (now p q : Nat) :
    linkOf (s.unblockPort now p) q = if q = p ∧ linkOf s p = 5 then 1 else linkOf s q := by
  unfold State.unblockPort
  by_cases hblocked : linkOf s p = 5
  · rw [if_pos hblocked]
    by_cases hq : q = p
    · subst hq
      rw [if_pos ⟨rfl, hblocked⟩]
      exact linkOf_put_link s q 1
    · rw [if_neg (fun h => hq h.1)]
      exact linkOf_put_link_other s 1 hq
  · rw [if_neg hblocked, if_neg (fun h => hblocked h.2)]

theorem State.unblockPort_items (s : State) (now p : Nat) : (s.unblockPort now p).items = s.items := by
  unfold State.unblockPort
  split <;> rfl

theorem State.rateFallback_falls {s : State} {p : Nat} (hon : portOn s p = true) (hrate : s.get (F.SKN_PORT_CFG_RATE p) = 2)
    (hunlocked : (s.port p).locked = false) (hlong : (s.port p).unlockedAt + secondU ≤ s.now) (hblocked : linkOf s p ≠ 5) :
    s.rateFallback p = s.put (F.SKN_PORT_STATUS_LOW_RATE p) 1 := by
  rw [State.rateFallback]
  exact if_pos (by simp [hon, hrate, hunlocked, hlong, hblocked])

theorem State.lockAtRate_locks {s : State} {p : Nat} (low inverted : Bool) (hon : portOn s p = true) (hlink : linkOf s p = 1)
    (hrate : s.get (F.SKN_PORT_CFG_RATE p) = 2) : s.lockAtRate p low inverted =
      ((s.put (F.SKN_PORT_STATUS_LOW_RATE p) low.toNat).put (F.SKN_PORT_STATUS_POL_INV p) inverted.toNat).setPort p
        (fun x => { x with locked := true, marks := 0, misses := 0 }) := by
  rw [State.lockAtRate]
  exact if_neg (by simp [hon, hlink, hrate])

/-- A flag written with a Boolean reads as it. -/
theorem State.on_put_toNat (s : State) {f : Fld} (b : Bool) (hf : f.lo + f.width ≤ 32) (hw : f.width ≠ 0) :
    (s.put f b.toNat).on f = b := by
  cases b
  · exact State.on_put_zero s f hf
  · exact State.on_put_one s f hf hw

/-- Settles O36: the first five commands and UNBLOCK write registers of the port; a link that comes up or goes is
followed by the upkeep of the tree, which keeps an up link up and a port that is down, down (TreeKept, State.dropLink_down). -/
theorem skeinLines : Obligations.SkeinLines := by
  unfold Obligations.SkeinLines
  refine ⟨?passes, ?fails, ?short, ?fallback, ?lock, ?up, ?down, ?unblock⟩
  case passes =>
    rintro s x t p pair dist rfl hports hon hlink hdue
    have hp := portOn_lt hon
    refine ⟨_, congrArg Host.Outcome.next (State.lineTest_passes pair dist hon hlink hdue), linkOf_put_link .., ?_, ?_, rfl⟩
    · simp [F.SKN_PORT_STATUS_LINK, F.SKN_PORT_STATUS_FAULT, F.SKN_PORT_STATUS_FAULT_PAIR]
    · exact (congrArg Port.testAt (State.port_setPort_same _ _ (by exact hports ▸ hp)) :)
  case fails =>
    rintro s x t p fault pair dist rfl hports hon hlink hdue hlo hhi
    have hp := portOn_lt hon
    have hfault : fault % 6 = fault := Nat.mod_eq_of_lt (by omega)
    refine ⟨_, congrArg Host.Outcome.next (State.lineTest_fails pair dist hon hlink hdue (by omega)), ?_⟩
    rw [hfault]
    exact State.lineFault_off pair dist hp (by rw [State.length_setPort]; omega) hlink (by omega)
  case short =>
    rintro s x t p pair v rfl hports hon hlink
    have hp := portOn_lt hon
    refine ⟨_, congrArg Host.Outcome.next (if_neg (by simp [hon])), ?_⟩
    obtain ⟨hoff, hfault, -, hitems⟩ := State.lineFault_off (fault := if v then 4 else 3) pair
      ((s.at t).get (F.SKN_PORT_STATUS_FAULT_DIST p)) hp
      (s := (s.at t).setPort p fun y => { y with testAt := (s.at t).now + msU 100 })
      (by rw [State.length_setPort]; omega) hlink (by split <;> decide)
    exact ⟨hoff, hfault, hitems⟩
  case fallback =>
    rintro s x t p rfl hon hrate hunlocked hlong hblocked
    refine ⟨_, congrArg Host.Outcome.next (State.rateFallback_falls hon hrate hunlocked hlong hblocked), ?_, ?_, rfl⟩
    · exact State.on_put_one _ _ (by simp [F.SKN_PORT_STATUS_LOW_RATE]) (by simp [F.SKN_PORT_STATUS_LOW_RATE])
    · simp [linkOf, F.SKN_PORT_STATUS_LINK, F.SKN_PORT_STATUS_LOW_RATE]
  case lock =>
    rintro s x t p low inv rfl hports hon hlink hrate
    have hp := portOn_lt hon
    refine ⟨_, congrArg Host.Outcome.next (State.lockAtRate_locks low inv hon hlink hrate), ?_, ?_, ?_, rfl⟩
    · refine (State.on_put_field _ _ _ _ (by simp [F.SKN_PORT_STATUS_POL_INV])
        (by simp [F.SKN_PORT_STATUS_POL_INV, F.SKN_PORT_STATUS_LOW_RATE])).trans ?_
      exact State.on_put_toNat _ _ (by simp [F.SKN_PORT_STATUS_LOW_RATE]) (by simp [F.SKN_PORT_STATUS_LOW_RATE])
    · exact State.on_put_toNat _ _ (by simp [F.SKN_PORT_STATUS_POL_INV]) (by simp [F.SKN_PORT_STATUS_POL_INV])
    · exact (congrArg Port.locked (State.port_setPort_same _ _ (by exact hports ▸ hp)) :)
  case up =>
    rintro s x t p m rfl hon hlink hpeer hmarks
    have hp := portOn_lt hon
    have hkept := State.bringUp_kept hon hlink hpeer hmarks
    obtain ⟨hstandby, hid, hvalid⟩ := (s.at t).peerShown_shows p m
    have hup := hkept.link p hp
    unfold LinkKept at hup
    refine ⟨_, rfl, (State.get_of_rd (hkept.peer p hp)).trans hid, (State.on_of_rd (hkept.peer p hp)).trans hvalid,
      by omega, by omega, hkept.items⟩
  case down =>
    rintro s x t p rfl hup
    exact ⟨_, congrArg Host.Outcome.next (if_pos (by simp [hup])), State.dropLink_down _ (linkUp_range hup).1⟩
  case unblock =>
    rintro s x t rfl
    refine ⟨_, congrArg Host.Outcome.next (State.unblock_eq _), ?_, ?_⟩
    · rw [State.unblockPort_items, State.unblockPort_items, State.unblockPort_items]
    · simp [List.range, List.range.loop, linkOf_unblockPort]

end Sys2Proof.Machine

/-! PROOFS. What every command keeps: the queue of the commands behind it, and the canonical form of the register file and
of the memories. `Keeps` joins the two; each state operation has one rule that carries it through the operation, so that a
command's proof is the chain of its operations. -/

namespace Sys2Proof.Machine

-- The many short proofs, checked at once, would ask for more threads than a run may have.
set_option Elab.async false

/-- New values under the old keys, without the default ones, keep a canonical form. -/
theorem Sparse.wfFrom_filter_map {V : Type} [DecidableEq V] {d : Nat → V} {f : Nat × V → Nat × V} {p : Nat × V → Bool}
    (hf : ∀ x, (f x).1 = x.1) (hp : ∀ x, p x = true → x.2 ≠ d x.1) {m : List (Nat × V)} {lo : Nat}
    (h : Sparse.wfFrom d lo m = true) : Sparse.wfFrom d lo ((m.map f).filter p) = true := by
  induction m generalizing lo with
  | nil => exact h
  | cons x m ih =>
    simp only [Sparse.wfFrom, Bool.and_eq_true, decide_eq_true_eq] at h
    obtain ⟨⟨hlo, -⟩, hm⟩ := h
    rw [List.map_cons, List.filter_cons]
    split
    next hx =>
      simp only [Sparse.wfFrom, Bool.and_eq_true, decide_eq_true_eq, Bool.not_eq_true', decide_eq_false_iff_not]
      exact ⟨⟨hf x ▸ hlo, hp _ hx⟩, hf x ▸ ih hm⟩
    next => exact Sparse.wfFrom_mono (ih hm) (by omega)

/-- A state `t` that a command may reach from `s₀`: with its queue, and in canonical form if `s₀` is. -/
def Keeps (s₀ t : State) : Prop := t.pending = s₀.pending ∧ (s₀.canonical → t.canonical)

variable {s₀ s t : State}

theorem Keeps.refl (s : State) : Keeps s s := ⟨rfl, id⟩

/-- What has the queue of `s` and keeps its canonical form. -/
theorem Keeps.step (h : Keeps s₀ s) (hpending : t.pending = s.pending) (hcanonical : s.canonical → t.canonical) :
    Keeps s₀ t :=
  ⟨hpending.trans h.1, hcanonical ∘ h.2⟩

/-- An update of neither the queue nor the register file nor the memories. -/
theorem Keeps.update {now_ net_ relay_ freeCtr_ msix_ pcie_ items_ hre_ chn_ mac_ blw_ mur_ rfe_ esm_ cry_ skn_ flc_ evf_ cpx_
    per_ upd_ tag_ tmb_ clk_ sup_} (h : Keeps s₀ s) (hcells : Chn.cells chn_ = s.chn.cells := by rfl)
    (hmem : Flc.mem flc_ = s.flc.mem := by rfl) (hslots : flc_.slots = s.flc.slots := by rfl)
    (hentries : Esm.entries esm_ = s.esm.entries := by rfl) (hseq : Cry.cacheSeq cry_ = s.cry.cacheSeq := by rfl)
    (htable : Pcie.table pcie_ = s.pcie.table := by rfl) (hconfig : pcie_.config = s.pcie.config := by rfl) :
    Keeps s₀ (State.mk s.pending now_ net_ relay_ freeCtr_ s.regs msix_ pcie_ s.hostMem s.sram items_ hre_
      chn_ mac_ blw_ mur_ rfe_ esm_ cry_ skn_ flc_ evf_ cpx_ per_ upd_ tag_ tmb_ clk_ sup_) := by
  simp only [Keeps, State.canonical, regsWf, memoriesWf, hcells, hmem, hslots, hentries, hseq, htable, hconfig] at h ⊢
  exact h

theorem Keeps.ite {c : Prop} {d : Decidable c} (h : Keeps s₀ s) (h' : Keeps s₀ t) :
    Keeps s₀ (if c then s else t) := by
  split <;> assumption

theorem Keeps.fst_ite {α : Type} {c : Prop} {d : Decidable c} {x y : State × α} (h : Keeps s₀ x.1) (h' : Keeps s₀ y.1) :
    Keeps s₀ (if c then x else y).1 := by
  split <;> assumption

theorem Keeps.foldl {α : Type} {f : State → α → State} {l : List α} (h : Keeps s₀ s)
    (step : ∀ x a, Keeps s₀ x → Keeps s₀ (f x a)) : Keeps s₀ (l.foldl f s) :=
  foldl_inv (p := Keeps s₀) step l s h

theorem Keeps.wr {a v} (h : Keeps s₀ s) : Keeps s₀ (s.wr a v) :=
  ⟨h.1, fun hr => ⟨State.wr_regsWf (h.2 hr).1 a v, (h.2 hr).2⟩⟩

theorem Keeps.setItem {idx f} (h : Keeps s₀ s) : Keeps s₀ (s.setItem idx f) := h.update

theorem Keeps.onWindow {w f} (h : Keeps s₀ s) : Keeps s₀ (s.onWindow w f) := by
  unfold State.onWindow
  split
  exacts [h.setItem, h]

theorem Keeps.chargeLane {n} (h : Keeps s₀ s) : Keeps s₀ (s.chargeLane n) := h.onWindow
theorem Keeps.setLaneX {n x} (h : Keeps s₀ s) : Keeps s₀ (s.setLaneX n x) := h.update
theorem Keeps.wr64 {a v} (h : Keeps s₀ s) : Keeps s₀ (s.wr64 a v) := h.wr.wr
theorem Keeps.clearLane {n} (h : Keeps s₀ s) : Keeps s₀ (s.clearLane n) := h.setLaneX.wr.wr.wr.wr64
theorem Keeps.put {f v} (h : Keeps s₀ s) : Keeps s₀ (s.put f v) := h.wr
theorem Keeps.syncLoad (h : Keeps s₀ s) : Keeps s₀ s.syncLoad := h.put.put.put
theorem Keeps.releaseLane {n} (h : Keeps s₀ s) : Keeps s₀ (s.releaseLane n) := h.chargeLane.clearLane.syncLoad
theorem Keeps.count {f n} (h : Keeps s₀ s) : Keeps s₀ (s.count f n) := h.put

theorem Keeps.giveLane {n d w residue level} (h : Keeps s₀ s) : Keeps s₀ (s.giveLane n d w residue level) :=
  (Keeps.ite h.setLaneX.wr.wr.wr.wr64 h.setLaneX.wr.wr.wr.wr64.count).syncLoad

theorem Keeps.wakeCore {c} (h : Keeps s₀ s) : Keeps s₀ (s.wakeCore c) := .ite h.update.put h

theorem Keeps.plic {src} (h : Keeps s₀ s) : Keeps s₀ (s.plic src) :=
  .ite h.update (.foldl h.wr fun _ _ h => h.wakeCore)

theorem Keeps.sendMsix {v} (h : Keeps s₀ s) : Keeps s₀ (s.sendMsix v) := .ite h.update h.update

theorem Keeps.vector {v src} (h : Keeps s₀ s) : Keeps s₀ (s.vector v src) :=
  .ite h.plic (.ite h.update.sendMsix.plic h.update.sendMsix)

theorem Keeps.irq {b mask} (h : Keeps s₀ s) : Keeps s₀ (s.irq b mask) := by
  unfold State.irq
  split
  · exact h
  · refine .ite h.wr ?_
    split
    exacts [h.wr.vector, h.wr.plic]

theorem Keeps.assign {d residue level} (h : Keeps s₀ s) : Keeps s₀ (s.assign d residue level) := by
  unfold State.assign
  split
  · exact h
  · refine .ite h (.ite h.onWindow.count.irq ?_)
    split
    · exact h.giveLane
    · refine .ite h.update ?_
      split
      exacts [h.releaseLane.count.count.giveLane, h.onWindow.count.irq]

theorem Keeps.sicDrop {w} (h : Keeps s₀ s) : Keeps s₀ (s.sicDrop w) := h.onWindow.count.irq

theorem Keeps.serveResidues {k} (h : Keeps s₀ s) : Keeps s₀ (s.serveResidues k) := by
  induction k generalizing s with
  | zero => exact h
  | succ k ih =>
    unfold State.serveResidues
    split
    · exact h
    · exact .ite (ih h.update.sicDrop) (.ite (ih h.update.assign) h)

theorem Keeps.listening (h : Keeps s₀ s) : Keeps s₀ s.listening := .foldl h fun _ _ h => (Keeps.ite h.put h)

theorem Keeps.dspCycles {t} (h : Keeps s₀ s) : Keeps s₀ (s.dspCycles t) :=
  .ite h (.ite (Keeps.foldl h.update fun _ _ h => h.clearLane).syncLoad.listening.serveResidues (Keeps.foldl h.update
    fun _ _ h => h.clearLane).syncLoad.listening)

theorem Keeps.clockAt {t} (h : Keeps s₀ s) : Keeps s₀ (s.clockAt t) := h.update
theorem Keeps.syncFem (h : Keeps s₀ s) : Keeps s₀ s.syncFem := h.update
theorem Keeps.at {t} (h : Keeps s₀ s) : Keeps s₀ (s.at t) := h.dspCycles.clockAt.syncFem
theorem Keeps.securityFault (h : Keeps s₀ s) : Keeps s₀ s.securityFault := h.update
theorem Keeps.accessFault {core} (h : Keeps s₀ s) : Keeps s₀ (s.accessFault core) := h.update

theorem Keeps.faultOn {req} (h : Keeps s₀ s) : Keeps s₀ (s.faultOn req) := by
  unfold State.faultOn
  split
  exacts [h.accessFault, h.securityFault, h]

theorem Keeps.setEntryWord {n w} (h : Keeps s₀ s) : Keeps s₀ (s.setEntryWord n w) := by
  have hs : Keeps s₀ { s with esm := { s.esm with
      entries := Sparse.set (fun _ => (0 : DWord)) s.esm.entries n w, bad := s.esm.bad.filter (fun k => k != n) } } :=
    h.step rfl fun ⟨hr, hh, ha, hc, hm, hl, he, hk, ht, hp⟩ => ⟨hr, hh, ha, hc, hm, hl, Sparse.set_wf he n w, hk, ht, hp⟩
  exact .ite hs.put hs

theorem Keeps.setEntry {n e} (h : Keeps s₀ s) : Keeps s₀ (s.setEntry n e) := h.setEntryWord
theorem Keeps.deliverLoad {core w} (h : Keeps s₀ s) : Keeps s₀ (s.deliverLoad core w) := h.update

theorem Keeps.record {tag reason w4 w5 w6 w7} (h : Keeps s₀ s) : Keeps s₀ (s.record tag reason w4 w5 w6 w7) :=
  h.update

theorem Keeps.entryUncorrectable {n} (h : Keeps s₀ s) : Keeps s₀ (s.entryUncorrectable n) :=
  (Keeps.ite h h.update).count.put.put.irq.record

theorem Keeps.entryRead {n err} (h : Keeps s₀ s) : Keeps s₀ (s.entryRead n err) :=
  .ite h (.ite h.count.irq h.entryUncorrectable)

theorem Keeps.esmAccess {core a size write v err} (h : Keeps s₀ s) :
    Keeps s₀ (s.esmAccess core a size write v err) := by
  refine .ite h.update.accessFault (.ite (.ite h.update.accessFault (.ite h.update.update (.ite
    h.update.entryRead.accessFault h.update.entryRead.update.deliverLoad))) ?_)
  split
  exacts [Keeps.ite h.update.accessFault (.ite h.update.setEntry h.update.deliverLoad), h.update.accessFault]

theorem Keeps.esmWindow {req a size write v} (h : Keeps s₀ s) : Keeps s₀ (s.esmWindow req a size write v) := by
  unfold State.esmWindow
  split
  exacts [h.esmAccess, h.faultOn]

theorem Keeps.deliverWords {ws} (h : Keeps s₀ s) : Keeps s₀ (s.deliverWords ws) := h.update

theorem Keeps.lowerWordRead {req a} (h : Keeps s₀ s) : Keeps s₀ (s.lowerWordRead req a) := by
  refine .ite h (.ite h ?_)
  split
  exacts [h.deliverWords, Keeps.ite h.faultOn (.ite h.esmWindow (.ite h h.update.deliverWords))]

theorem Keeps.hostWrite {a bs} (h : Keeps s₀ s) : Keeps s₀ (s.hostWrite a bs) :=
  h.step rfl fun ⟨hr, hh, hrest⟩ => ⟨hr, Sparse.setMany_wf hh a bs, hrest⟩

theorem Keeps.sramWrite {a bs} (h : Keeps s₀ s) : Keeps s₀ (s.sramWrite a bs) := by
  refine h.step rfl fun ⟨hr, hh, ha, hrest⟩ => ⟨hr, hh, ?_, hrest⟩
  dsimp only [State.sramWrite]
  split
  · exact Sparse.setMany_wf ha a bs
  · exact ha

theorem Keeps.dma {a bs} (h : Keeps s₀ s) : Keeps s₀ (s.dma a bs) := .ite h.sramWrite h.hostWrite

theorem Keeps.toRing9 {cr data w4 w5 w6 w7} (h : Keeps s₀ s) (ht : s.toRing9 cr data w4 w5 w6 w7 = some t) : Keeps s₀
    t := by
  unfold State.toRing9 at ht
  split at ht
  · cases ht
  · split at ht
    · cases ht
    · cases ht
      exact h.dma.update

theorem Keeps.fresh {n} (h : Keeps s₀ s) : Keeps s₀ (s.fresh n).2 := h.update

theorem Keeps.mergedCopy {first frame others fail} (h : Keeps s₀ s) : Keeps s₀ (s.mergedCopy first frame others fail)
    := by
  unfold State.mergedCopy
  refine .ite h (.ite h.irq ?_)
  dsimp only
  split
  next hx => exact (h.fresh.fresh.fresh.fresh.toRing9 hx).update
  next => exact h

theorem Keeps.setPort {p f} (h : Keeps s₀ s) : Keeps s₀ (s.setPort p f) := h.update

theorem Keeps.lockAtRate {p low inverted} (h : Keeps s₀ s) : Keeps s₀ (s.lockAtRate p low inverted) :=
  .ite h h.put.put.setPort

theorem Keeps.syncHold (h : Keeps s₀ s) : Keeps s₀ s.syncHold := h.put.put

theorem Keeps.syncItems (h : Keeps s₀ s) : Keeps s₀ s.syncItems :=
  (Keeps.foldl h.put.put.put.put fun _ _ h => h.put).syncHold

theorem Keeps.showStrap (h : Keeps s₀ s) : Keeps s₀ s.showStrap := h.put.put

theorem Keeps.shadowFromModel (h : Keeps s₀ s) : Keeps s₀ s.shadowFromModel :=
  .foldl (.foldl h.put.put.put.put.put fun _ _ h => h.put) fun _ _ h => h.put

theorem Keeps.keepRun {old a n} (h : Keeps s₀ s) : Keeps s₀ (s.keepRun old a n) := by
  induction n generalizing s a with
  | zero => exact h
  | succ n ih => exact ih h.wr

theorem Keeps.resetRegisters {full} (h : Keeps s₀ s) : Keeps s₀ (s.resetRegisters full) := by
  unfold State.resetRegisters
  extract_lets r r1 k1 k2 r2 r3
  have h1 : Keeps s₀ r1 := by
    have hr : Keeps s₀ r := h.step rfl fun ⟨_, hm⟩ => ⟨rfl, hm⟩
    exact hr.keepRun.keepRun.keepRun.wr
  have hk : Keeps s₀ k2 := h1.keepRun.keepRun.keepRun.keepRun.shadowFromModel.keepRun.keepRun.keepRun.keepRun.put
  have h3 : Keeps s₀ r3 := .ite (.ite h1.keepRun hk.put.put) (Keeps.keepRun (.ite h1.keepRun hk.put.put))
  exact h3.wr.wr64.put.put.keepRun.showStrap

theorem Keeps.resetUsage {old lost} (h : Keeps s₀ s) : Keeps s₀ (s.resetUsage old lost) := by
  exact .foldl h fun _ _ h => (.ite h.keepRun (by split; exacts [h.wr64, h.wr64]))

theorem Keeps.takeBackRecord (h : Keeps s₀ s) : Keeps s₀ s.takeBackRecord := h.put.wr
theorem Keeps.clearRecord (h : Keeps s₀ s) : Keeps s₀ s.clearRecord := .foldl h.wr.update fun _ _ h => h.put

theorem Keeps.newRecord {cause scope reason} (h : Keeps s₀ s) : Keeps s₀ (s.newRecord cause scope reason) :=
  h.wr.wr.wr64.count.update

theorem Keeps.loadRecord {cause scope reason} (h : Keeps s₀ s) : Keeps s₀ (s.loadRecord cause scope reason) :=
  .ite h.clearRecord.newRecord (.ite (.ite h h.takeBackRecord.newRecord) h.newRecord)

theorem Keeps.settle {i} (h : Keeps s₀ s) : Keeps s₀ (s.settle i) := h.update

theorem Keeps.dropLanes {idx} (h : Keeps s₀ s) : Keeps s₀ (s.dropLanes idx) :=
  (Keeps.foldl h fun _ _ h => h.releaseLane).update.syncLoad

theorem Keeps.ckptWaiters {reason} (h : Keeps s₀ s) : Keeps s₀ (s.ckptWaiters reason) := h.update

theorem Keeps.ownerEnd {o status reason} (h : Keeps s₀ s) : Keeps s₀ (s.ownerEnd o status reason) := by
  unfold State.ownerEnd
  split
  · split
    exacts [h, Keeps.ite h.update h.update.put.put.irq.ckptWaiters]
  · exact h.update
  · exact .ite h.update h
  · exact h

theorem Keeps.overrule {idx status reason} (h : Keeps s₀ s) : Keeps s₀ (s.overrule idx status reason) := h.update

theorem Keeps.decideFinal {idx status reason since} (h : Keeps s₀ s) : Keeps s₀ (s.decideFinal idx status reason
    since) := by
  unfold State.decideFinal
  split
  · exact h
  · refine .ite h.overrule ?_
    dsimp only
    split
    · exact h.settle.update.setItem.syncItems
    · exact Keeps.syncItems (.ite h.settle.update.ownerEnd h.settle.update.ownerEnd.record)

theorem Keeps.setBin {x} (h : Keeps s₀ s) : Keeps s₀ (s.setBin x) := h.update

theorem Keeps.putSeat {b seat} (h : Keeps s₀ s) : Keeps s₀ (s.putSeat b seat) := by
  unfold State.putSeat
  split
  exacts [h.setBin, Keeps.ite h.setBin h]

theorem Keeps.seatFlagged {b} (h : Keeps s₀ s) : Keeps s₀ (s.seatFlagged b) := by
  refine .ite h ?_
  split
  exacts [h.putSeat, h.update]

theorem Keeps.seatAlways {b} (h : Keeps s₀ s) : Keeps s₀ (s.seatAlways b) := by
  refine .ite h ?_
  split
  · exact h.putSeat
  · dsimp only
    split
    exacts [h, h.putSeat.putSeat.update]

theorem Keeps.overload {b} (h : Keeps s₀ s) : Keeps s₀ (s.overload b) := h.update.count.irq

theorem Keeps.serveQueue {l} (h : Keeps s₀ s) : Keeps s₀ (s.serveQueue l) := by
  induction l generalizing s with
  | nil => exact h.update
  | cons b l ih =>
    unfold State.serveQueue
    split
    · exact h.update
    · exact ih (.ite h.putSeat.overload h.putSeat)

theorem Keeps.dropSeats (h : Keeps s₀ s) : Keeps s₀ s.dropSeats := h.update
theorem Keeps.dropQueue (h : Keeps s₀ s) : Keeps s₀ s.dropQueue := .foldl h.update fun _ _ h => h.overload

theorem Keeps.seats (h : Keeps s₀ s) : Keeps s₀ s.seats :=
  (Keeps.foldl (.foldl h.dropSeats.dropQueue.serveQueue fun _ _ h => h.seatAlways) fun _ _ h => h.seatFlagged).put.put

theorem Keeps.coverage (h : Keeps s₀ s) : Keeps s₀ s.coverage := h.seats.listening

theorem Keeps.finishAt {idx status reason since} (h : Keeps s₀ s) :
    Keeps s₀ (s.finishAt idx status reason since) := by
  unfold State.finishAt
  split
  exacts [Keeps.ite h.dropLanes.decideFinal.coverage.syncFem h.decideFinal, h]

theorem Keeps.finish {idx status reason} (h : Keeps s₀ s) : Keeps s₀ (s.finish idx status reason) := h.finishAt

theorem Keeps.endForReset {status reason} (h : Keeps s₀ s) : Keeps s₀ (s.endForReset status reason) := by
  exact .foldl h fun _ _ h => (by split; exacts [h.finish, h.settle.update])

theorem Keeps.flashStore {a bs} (h : Keeps s₀ s) : Keeps s₀ (s.flashStore a bs) :=
  h.step rfl fun ⟨hr, hh, ha, hc, hm, hrest⟩ => ⟨hr, hh, ha, hc, Sparse.setMany_wf hm a bs, hrest⟩

theorem Keeps.freshBytes {n} (h : Keeps s₀ s) : Keeps s₀ (s.freshBytes n).2 := by
  induction n generalizing s with
  | zero => exact h
  | succ n ih => exact ih (h.fresh (n := 256))

theorem Keeps.scramble {a n} (h : Keeps s₀ s) : Keeps s₀ (s.scramble a n) := h.freshBytes.flashStore

theorem Keeps.eraseRange {a n} (h : Keeps s₀ s) : Keeps s₀ (s.eraseRange a n) :=
  h.step rfl fun ⟨hr, hh, ha, hc, hm, hl, hrest⟩ =>
    ⟨hr, hh, ha, hc, Sparse.clear_wf hm _ _, Sparse.clear_wf hl _ _, hrest⟩

theorem Keeps.programWord {a data w} (h : Keeps s₀ s) : Keeps s₀ (s.programWord a data w) := by
  unfold State.programWord
  dsimp only
  generalize List.map _ _ = new
  refine .ite h (h.flashStore (a := (wordPart a data w).1) (bs := new) |>.step rfl ?_)
  intro ⟨hr, hh, ha, hc, hm, hl, hrest⟩
  exact ⟨hr, hh, ha, hc, hm, Sparse.set_wf hl _ _, hrest⟩

theorem Keeps.program {a data} (h : Keeps s₀ s) : Keeps s₀ (s.program a data) := .foldl h fun _ _ h => h.programWord
theorem Keeps.counterPut {copy n type v} (h : Keeps s₀ s) : Keeps s₀ (s.counterPut copy n type v) := h.program

theorem Keeps.counterWrite {copy n v} (h : Keeps s₀ s) : Keeps s₀ (s.counterWrite copy n v) :=
  .ite (Keeps.foldl h fun _ _ h => h.counterPut).eraseRange.counterPut h.counterPut

theorem Keeps.cutOps (h : Keeps s₀ s) : Keeps s₀ s.cutOps :=
  .foldl h fun _ _ h => (.ite (.ite h.fresh h.fresh.counterWrite) (.ite h (.ite h.scramble h.scramble)))

theorem Keeps.syncOwners (h : Keeps s₀ s) : Keeps s₀ s.syncOwners := h.put.put
theorem Keeps.setOwner {i key} (h : Keeps s₀ s) : Keeps s₀ (s.setOwner i key) := h.update.syncOwners.put.irq

theorem Keeps.commitStore {e} (h : Keeps s₀ s) : Keeps s₀ (s.commitStore e) := by
  unfold State.commitStore
  split
  exacts [h.update, h.setOwner]

theorem Keeps.cutStore (h : Keeps s₀ s) : Keeps s₀ s.cutStore := by
  unfold State.cutStore
  split
  exacts [Keeps.ite (.ite h.fresh h.fresh.commitStore) h, h]

theorem Keeps.deviceReset {cause} (h : Keeps s₀ s) : Keeps s₀ (s.deviceReset cause) := by
  unfold State.deviceReset
  extract_lets reason full lost esmLost s1 s2 s3 r r1 r2
  have h3 : Keeps s₀ s3 := Keeps.loadRecord (.ite h.cutOps.cutStore.update h.cutOps.cutStore.endForReset)
  have h2 : Keeps s₀ r2 := Keeps.put (.ite h3.resetRegisters.resetUsage.put h3.resetRegisters.resetUsage.put)
  refine Keeps.syncItems ⟨h2.1, fun h0 => ?_⟩
  obtain ⟨-, -, -, -, hm, hl, he, hk, -⟩ := h3.2 h0
  obtain ⟨hr, hh, -⟩ := h2.2 h0
  refine ⟨hr, hh, rfl, rfl, hm, hl, ?_, hk, rfl, rfl⟩
  change Sparse.wf _ (if esmLost then [] else s3.esm.entries) = true
  split
  exacts [rfl, he]

theorem Keeps.aonLost (h : Keeps s₀ s) : Keeps s₀ s.aonLost := .ite h h.deviceReset.update
theorem Keeps.setUart {i u} (h : Keeps s₀ s) : Keeps s₀ (s.setUart i u) := h.update.put.put
theorem Keeps.uartSent {i} (h : Keeps s₀ s) : Keeps s₀ (s.uartSent i) := .ite h h.setUart
theorem Keeps.setSpi {i x} (h : Keeps s₀ s) : Keeps s₀ (s.setSpi i x) := h.update.put.put.put
theorem Keeps.spiEnd {i v} (h : Keeps s₀ s) : Keeps s₀ (s.spiEnd i v) := .ite h h.setSpi
theorem Keeps.callResult {r} (h : Keeps s₀ s) : Keeps s₀ (s.callResult r) := h.update
theorem Keeps.setRing {n f} (h : Keeps s₀ s) : Keeps s₀ (s.setRing n f) := h.update
theorem Keeps.drained {idx} (h : Keeps s₀ s) : Keeps s₀ (s.drained idx) := .ite h.update.put.irq h.update

theorem Keeps.afterWrite {c} (h : Keeps s₀ s) : Keeps s₀ (s.afterWrite c) := by
  unfold State.afterWrite
  extract_lets s1 s2
  have h1 : Keeps s₀ s1 := by
    unfold s1
    split
    exacts [.ite h.update.drained h.setItem, h]
  exact (Keeps.ite h1.setRing h1).syncItems

theorem Keeps.serveWait {addr} (h : Keeps s₀ s) (ht : s.serveWait addr = some t) : Keeps s₀ t := by
  unfold State.serveWait at ht
  split at ht
  · cases ht
  · cases ht
    exact h.fresh.sramWrite.update.afterWrite.callResult

theorem Keeps.waitEnd (h : Keeps s₀ s) : Keeps s₀ s.waitEnd := by
  unfold State.waitEnd
  split
  · exact h
  · split
    next ht => exact h.serveWait ht
    next => exact .ite h h.update.callResult

theorem Keeps.syncWatchdogs (h : Keeps s₀ s) : Keeps s₀ s.syncWatchdogs := h.update
theorem Keeps.syncHalted (h : Keeps s₀ s) : Keeps s₀ s.syncHalted := h.put.syncWatchdogs
theorem Keeps.debugResume {c} (h : Keeps s₀ s) : Keeps s₀ (s.debugResume c) := .ite h h.update.syncHalted

theorem Keeps.noteDead {since} (h : Keeps s₀ s) : Keeps s₀ (s.noteDead since) := by
  unfold State.noteDead
  split
  exacts [h.update, h]

theorem Keeps.synthRelock {tx} (h : Keeps s₀ s) : Keeps s₀ (s.synthRelock tx) :=
  .ite h (.ite h.put.update h.put.noteDead.update)

theorem Keeps.shrDetected {n start cfo q} (h : Keeps s₀ s) : Keeps s₀ (s.shrDetected n start cfo q) := by
  unfold State.shrDetected
  split
  · exact h
  · refine .ite h ?_
    split
    exacts [h, h.setLaneX.put.wr.wr.wr64]

theorem Keeps.setOp {bank o} (h : Keeps s₀ s) : Keeps s₀ (s.setOp bank o) := h.update
theorem Keeps.setCache {c l} (h : Keeps s₀ s) : Keeps s₀ (s.setCache c l) := h.update

theorem Keeps.fillLine {c line bs} (h : Keeps s₀ s) : Keeps s₀ (s.fillLine c line bs) :=
  .ite h.setCache h.fresh.setCache

theorem Keeps.countEcc {corrected bad} (h : Keeps s₀ s) : Keeps s₀ (s.countEcc corrected bad) := by
  unfold State.countEcc
  dsimp only
  split
  exacts [h.count, h.count.count.irq.put.put]

theorem Keeps.suspendedRead {a} (h : Keeps s₀ s) : Keeps s₀ (s.suspendedRead a) := h.count.irq.put.put

theorem Keeps.coreReads {c a fetch} (h : Keeps s₀ s) : Keeps s₀ (s.coreReads c a fetch) :=
  .ite h.accessFault.deliverLoad (.ite h.suspendedRead.accessFault.deliverLoad (.ite h.countEcc.accessFault (.ite
    h.deliverLoad.fillLine h.deliverLoad)))

theorem Keeps.serveStalled {bank} (h : Keeps s₀ s) : Keeps s₀ (s.serveStalled bank) := by
  refine .ite h ?_
  exact .foldl h.update fun _ _ h => (by split; exacts [h, h.coreReads, h.coreReads])

theorem Keeps.openRecord {a kind source len} (h : Keeps s₀ s) : Keeps s₀ (s.openRecord a kind source len) :=
  (Keeps.ite h.program.eraseRange h.program).update

theorem Keeps.journalOp {o} (h : Keeps s₀ s) : Keeps s₀ (s.journalOp o).1 := by
  unfold State.journalOp
  dsimp only
  split
  · exact h
  · exact h.openRecord

theorem Keeps.beginOp {o} (h : Keeps s₀ s) : Keeps s₀ (s.beginOp o) := h.journalOp.setOp

theorem Keeps.beginStore (h : Keeps s₀ s) : Keeps s₀ s.beginStore := by
  unfold State.beginStore
  extract_lets a p
  have hp : Keeps s₀ p.2 := Keeps.freshBytes (.ite h.eraseRange h)
  clear_value p
  exact hp.update.beginOp

theorem Keeps.syncFlc (h : Keeps s₀ s) : Keeps s₀ s.syncFlc := h.put.put.put.put.put.put.put.put.put

theorem Keeps.startWaiting (h : Keeps s₀ s) : Keeps s₀ s.startWaiting := by
  unfold State.startWaiting
  extract_lets s1 _ s2 locked ready _ s3
  have h1 : Keeps s₀ s1 := .ite h.beginStore h
  have h2 : Keeps s₀ s2 := by
    unfold s2
    split
    · exact h1
    · dsimp only
      split
      · exact .ite h1.update.beginOp h1
      · exact .ite (.ite h1.update.put.irq h1.journalOp.update) h1
  refine .ite h.syncFlc (Keeps.syncFlc ?_)
  unfold s3
  split
  exacts [h2.update.beginOp, h2]

theorem Keeps.suspendOp {bank o} (h : Keeps s₀ s) : Keeps s₀ (s.suspendOp bank o) :=
  h.setOp.count.serveStalled.startWaiting

theorem Keeps.guardMet {bank} (h : Keeps s₀ s) : Keeps s₀ (s.guardMet bank) := by
  unfold State.guardMet
  split
  exacts [Keeps.ite h.suspendOp h, h]

theorem Keeps.learn {reg sample} (h : Keeps s₀ s) : Keeps s₀ (s.learn reg sample) := .ite h h.wr

theorem Keeps.learnSpan {uj u} (h : Keeps s₀ s) : Keeps s₀ (s.learnSpan uj u) := by
  refine .ite h ?_
  split
  exacts [Keeps.ite h h.learn, Keeps.foldl h fun _ _ h => (.ite h.learn h)]

theorem Keeps.checkOverdraw (h : Keeps s₀ s) : Keeps s₀ s.checkOverdraw :=
  .ite h (.ite h.put.irq.record h.put.irq)

theorem Keeps.syncBellows (h : Keeps s₀ s) : Keeps s₀ (syncBellows s) := h.put.put.put.put.put
theorem Keeps.measured {mv} (h : Keeps s₀ s) : Keeps s₀ (s.measured mv) := h.update.put
theorem Keeps.setStore {uj} (h : Keeps s₀ s) : Keeps s₀ (s.setStore uj) := .ite h.update.put.irq h.update.put

theorem Keeps.meterSample {uj mv} (h : Keeps s₀ s) : Keeps s₀ (s.meterSample uj mv) :=
  .ite (Keeps.ite h.update.wr64.setStore h.update.wr64).measured.learnSpan.checkOverdraw.syncBellows (Keeps.ite
    h.update.wr64.setStore h.update.wr64).measured

theorem Keeps.waitForInterrupt {core} (h : Keeps s₀ s) : Keeps s₀ (s.waitForInterrupt core) :=
  .ite h (.ite h.update.update.put h.update)

theorem Keeps.linkTrained (h : Keeps s₀ s) : Keeps s₀ s.linkTrained := .ite h h.put
theorem Keeps.cbDataRead (h : Keeps s₀ s) : Keeps s₀ s.cbDataRead := h.wr.put
theorem Keeps.fire {e} (h : Keeps s₀ s) : Keeps s₀ (s.fire e) := h.update

theorem Keeps.hkaEntry {j r} (h : Keeps s₀ s) : Keeps s₀ (s.hkaEntry j r) :=
  .ite h (.ite (Keeps.ite h.put.put.irq.fire h.put.put).irq.record (.ite h.put.put.irq.fire h.put.put))

theorem Keeps.hkaEntries {j l} (h : Keeps s₀ s) : Keeps s₀ (s.hkaEntries j l) := by
  induction l generalizing s j with
  | nil => exact h
  | cons x l ih => exact .ite (ih h.hkaEntry) h

theorem Keeps.hkaDone {results} (h : Keeps s₀ s) : Keeps s₀ (s.hkaDone results) := .ite h h.hkaEntries.put.irq.fire
theorem Keeps.hkaStart (h : Keeps s₀ s) : Keeps s₀ s.hkaStart := .ite h (Keeps.ite h.irq.put h.put.put)
theorem Keeps.cut {idx status reason ramped} (h : Keeps s₀ s) : Keeps s₀ (s.cut idx status reason ramped) := h.setItem

theorem Keeps.endItem {status reason i} (h : Keeps s₀ s) : Keeps s₀ (State.endItem status reason s i) := by
  refine .ite h.finish ?_
  split
  exacts [Keeps.ite h.cut h.finish, h.finish]

theorem Keeps.endAll {p status reason} (h : Keeps s₀ s) : Keeps s₀ (s.endAll p status reason) :=
  .foldl h fun _ _ h => h.endItem

theorem Keeps.syncCry (h : Keeps s₀ s) : Keeps s₀ s.syncCry := h.put.put

theorem Keeps.complete {ring ws status reason w4 w5 w6 w7 cring} (h : Keeps s₀ s) : Keeps s₀ (s.complete ring ws
    status reason w4 w5 w6 w7 cring) :=
  h.update

theorem Keeps.zeroise (h : Keeps s₀ s) : Keeps s₀ s.zeroise :=
  (Keeps.foldl (Keeps.foldl h fun _ _ h => h.wr).update.count fun _ _ h => h.complete).put.put.irq.syncCry

theorem Keeps.endSession (h : Keeps s₀ s) : Keeps s₀ s.endSession := .ite h h.update.put.put.put.irq.syncWatchdogs

theorem Keeps.alarm {src} (h : Keeps s₀ s) : Keeps s₀ (s.alarm src) :=
  .ite h (.ite h.put.put.count.update.irq.fire.zeroise.endSession.endAll.deviceReset
    h.put.put.count.update.irq.fire.zeroise.endSession.endAll)

theorem Keeps.tamperTest {n line level} (h : Keeps s₀ s) : Keeps s₀ (s.tamperTest n line level) :=
  .ite h (.ite (.ite h.wr.alarm h.wr) (.ite h.wr h.wr.irq.record))

theorem Keeps.setI2c {i x} (h : Keeps s₀ s) : Keeps s₀ (s.setI2c i x) := h.update

theorem Keeps.i2cEnd {i nack arb bytes} (h : Keeps s₀ s) : Keeps s₀ (s.i2cEnd i nack arb bytes) :=
  .ite h (.ite (Keeps.ite h.setI2c.put.put h.setI2c.put).put (.ite h.setI2c.put.put h.setI2c.put))

theorem Keeps.i2cData {i write b} (h : Keeps s₀ s) : Keeps s₀ (s.i2cData i write b) := by
  refine .ite h (.ite (.ite h h.setI2c) ?_)
  split
  exacts [h.setI2c.put, h.fresh.put]

theorem Keeps.i2cGo {i v} (h : Keeps s₀ s) : Keeps s₀ (s.i2cGo i v) := .ite h (Keeps.ite h.wr h.wr.put)

theorem Keeps.spiRead {i} (h : Keeps s₀ s) : Keeps s₀ (s.spiRead i) := by
  refine .ite h ?_
  split
  exacts [h.setSpi.wr, h.fresh.wr]

theorem Keeps.spiWrite {i v} (h : Keeps s₀ s) : Keeps s₀ (s.spiWrite i v) := .ite h h.setSpi

theorem Keeps.uartReceive {i b bad} (h : Keeps s₀ s) : Keeps s₀ (s.uartReceive i b bad) :=
  .ite h (.ite (Keeps.ite h.put h).put (Keeps.ite h.put h).setUart)

theorem Keeps.uartRead {i} (h : Keeps s₀ s) : Keeps s₀ (s.uartRead i) := by
  refine .ite h ?_
  split
  exacts [h.setUart.put, h.fresh.put]

theorem Keeps.uartWrite {i b} (h : Keeps s₀ s) : Keeps s₀ (s.uartWrite i b) := .ite h h.setUart

theorem Keeps.gpioEdge {u rising} (h : Keeps s₀ s) : Keeps s₀ (s.gpioEdge u rising) :=
  .ite h (.ite h.wr.fire h.wr)

theorem Keeps.plicComplete {ctx id} (h : Keeps s₀ s) : Keeps s₀ (s.plicComplete ctx id) :=
  .ite h (.ite h.update.plic h.update)

theorem Keeps.plicClaim {ctx} (h : Keeps s₀ s) : Keeps s₀ (s.plicClaim ctx) :=
  .ite h (.ite h.deliverWords h.wr.update.deliverWords)

theorem Keeps.muteOnAir (h : Keeps s₀ s) : Keeps s₀ s.muteOnAir := .ite h h.endAll
theorem Keeps.debugMuteWrite {v} (h : Keeps s₀ s) : Keeps s₀ (s.debugMuteWrite v) := .ite h h.put.muteOnAir
theorem Keeps.debugHalt {c} (h : Keeps s₀ s) : Keeps s₀ (s.debugHalt c) := .ite h h.update.syncHalted.muteOnAir

theorem Keeps.dmiAccess {write} (h : Keeps s₀ s) : Keeps s₀ (s.dmiAccess write) :=
  .ite h (.ite h.alarm h.deliverWords)

theorem Keeps.debugFailed (h : Keeps s₀ s) : Keeps s₀ s.debugFailed :=
  .ite h.update.record.irq.alarm h.update.record.irq

theorem Keeps.debugAuthDone (h : Keeps s₀ s) : Keeps s₀ s.debugAuthDone := by
  unfold State.debugAuthDone
  split
  exacts [h, Keeps.ite h (.ite h.update.update.put.irq h.update.debugFailed)]

theorem Keeps.debugAuth {scope sig} (h : Keeps s₀ s) : Keeps s₀ (s.debugAuth scope sig) := .ite h h.update
theorem Keeps.debugChallenge (h : Keeps s₀ s) : Keeps s₀ s.debugChallenge := h.deliverWords

theorem Keeps.partitionFault {mcause} (h : Keeps s₀ s) : Keeps s₀ (s.partitionFault mcause) :=
  .ite h h.update.put.irq.record

theorem Keeps.waitCall {addr ms} (h : Keeps s₀ s) : Keeps s₀ (s.waitCall addr ms) := by
  unfold State.waitCall
  refine .ite h (.ite h.callResult ?_)
  split
  next ht => exact h.serveWait ht
  next => exact h.update

theorem Keeps.submit {ring addr} (h : Keeps s₀ s) : Keeps s₀ (s.submit ring addr) := by
  refine .ite h (.ite h.callResult ?_)
  exact Keeps.callResult (by split; exacts [h.complete, h.update])

theorem Keeps.doubleFault {c mepc} (h : Keeps s₀ s) : Keeps s₀ (s.doubleFault c mepc) :=
  .ite h (.ite h.deviceReset h.put.irq.record)

theorem Keeps.outputShort {pin} (h : Keeps s₀ s) : Keeps s₀ (s.outputShort pin) := by
  have hr : Keeps s₀ (if pin < 40 then (pin, s) else s.fresh (2 ^ 32)).2 := by
    split
    · exact h
    · exact h.fresh
  exact hr.irq.record

theorem Keeps.restartCores (h : Keeps s₀ s) : Keeps s₀ s.restartCores := h.update.put.put

theorem Keeps.startPartition (h : Keeps s₀ s) : Keeps s₀ s.startPartition :=
  .ite h.put (.ite h.put h.put.irq.record)

theorem Keeps.appReset {cause} (h : Keeps s₀ s) : Keeps s₀ (s.appReset cause) :=
  .ite h.deviceReset h.loadRecord.restartCores.startPartition

theorem Keeps.wdtCore (h : Keeps s₀ s) : Keeps s₀ s.wdtCore := .ite h.appReset h
theorem Keeps.coreKick {v} (h : Keeps s₀ s) : Keeps s₀ (s.coreKick v) := .ite h.update.syncWatchdogs h.appReset

theorem Keeps.sysWdtWrite {v} (h : Keeps s₀ s) : Keeps s₀ (s.sysWdtWrite v) :=
  (Keeps.ite (.ite (Keeps.ite h h.put).put (.ite h h.put)) (Keeps.ite (Keeps.ite h h.put).put (.ite h
    h.put)).update).syncWatchdogs

theorem Keeps.wdtSystem (h : Keeps s₀ s) : Keeps s₀ s.wdtSystem := .ite h.deviceReset h
theorem Keeps.wdtHalf (h : Keeps s₀ s) : Keeps s₀ s.wdtHalf := .ite h.irq h
theorem Keeps.wdtKick {v} (h : Keeps s₀ s) : Keeps s₀ (s.wdtKick v) := .ite h.update.syncWatchdogs h.deviceReset

theorem Keeps.sysCtlWrite {v} (h : Keeps s₀ s) : Keeps s₀ (s.sysCtlWrite v) :=
  .ite h (.ite h.deviceReset (.ite h.appReset h))

theorem Keeps.powerOnReset {iosel long} (h : Keeps s₀ s) : Keeps s₀ (s.powerOnReset iosel long) :=
  h.update.deviceReset.put.update

theorem Keeps.resetPinLong {iosel} (h : Keeps s₀ s) : Keeps s₀ (s.resetPinLong iosel) := by
  unfold State.resetPinLong
  split
  exacts [Keeps.ite h.powerOnReset h, h]

theorem Keeps.resetPin {low} (h : Keeps s₀ s) : Keeps s₀ (s.resetPin low) :=
  .ite h.update (.ite h h.deviceReset.update)

theorem Keeps.startClocks (h : Keeps s₀ s) : Keeps s₀ s.startClocks := by
  have hstart : ∀ {x : State} src, Keeps s₀ x → Keeps s₀ (if x.clk.running.getD src false then x
      else { x with clk := { x.clk with
        running := modAt (fun _ => true) x.clk.running src
        startedAt := modAt (fun _ => x.now) x.clk.startedAt src
        measured := modAt (fun _ => false) x.clk.measured src } }) := fun _ hx => .ite hx hx.update
  exact hstart 0 (hstart 2 h)

theorem Keeps.wake {src} (h : Keeps s₀ s) : Keeps s₀ (s.wake src) := by
  refine .ite h ?_
  split
  exacts [h.update.startClocks.put.put.irq.put.syncWatchdogs, h.deviceReset.put, h, Keeps.ite h.put.put.put.irq h]

theorem Keeps.enterHibernate (h : Keeps s₀ s) : Keeps s₀ s.enterHibernate := by
  have hoff : Keeps s₀ { s with sram := [] } := h.step rfl fun ⟨hr, hh, _, hrest⟩ => ⟨hr, hh, rfl, hrest⟩
  exact (hoff.count.put.put.put.update).syncWatchdogs.syncFem

theorem Keeps.syncRef (h : Keeps s₀ s) : Keeps s₀ s.syncRef := .ite h h.put.irq
theorem Keeps.setOk {src v} (h : Keeps s₀ s) : Keeps s₀ (s.setOk src v) := h.put
theorem Keeps.stopClocks (h : Keeps s₀ s) : Keeps s₀ s.stopClocks := .ite h h.setOk.setOk.put.put.update.syncRef

theorem Keeps.dropSegments (h : Keeps s₀ s) : Keeps s₀ s.dropSegments :=
  h.step rfl fun ⟨hr, hh, ha, hrest⟩ => ⟨hr, hh, Sparse.filter_wf ha _, hrest⟩

theorem Keeps.enterSleep (h : Keeps s₀ s) : Keeps s₀ s.enterSleep :=
  (Keeps.foldl h.dropSegments.count.put.put fun _ _ h => (.ite h.releaseLane h)).put.stopClocks.update.syncWatchdogs

theorem Keeps.enterPower (h : Keeps s₀ s) : Keeps s₀ s.enterPower :=
  .ite h (.ite h.enterSleep (.ite h.enterHibernate h))

theorem Keeps.refusePower {code} (h : Keeps s₀ s) : Keeps s₀ (s.refusePower code) := h.put.put.put.irq

theorem Keeps.powerRequest {req} (h : Keeps s₀ s) : Keeps s₀ (s.powerRequest req) :=
  .ite h.put.put (.ite h (.ite h.refusePower (.ite h.refusePower h.put.put)))

theorem Keeps.economyCut (h : Keeps s₀ s) : Keeps s₀ s.economyCut := .foldl h fun _ _ h => h.cut

theorem Keeps.supplyWarning {mv} (h : Keeps s₀ s) : Keeps s₀ (s.supplyWarning mv) :=
  .ite h.measured (.ite h.measured.put.irq.count.fire.put (Keeps.ite
    h.measured.put.irq.count.fire.update.put.irq.count.record
    h.measured.put.irq.count.fire.update.put.irq.count).economyCut)

theorem Keeps.writeByCode {a v} (h : Keeps s₀ s) : Keeps s₀ (s.writeByCode a v) := by
  unfold State.writeByCode
  split
  exacts [h, h.wr]

theorem Keeps.supCfgWrite {v mv} (h : Keeps s₀ s) : Keeps s₀ (s.supCfgWrite v mv) :=
  .ite h.writeByCode.put h.writeByCode.supplyWarning

theorem Keeps.vioRetry (h : Keeps s₀ s) : Keeps s₀ s.vioRetry := .ite h.put h
theorem Keeps.vioFault (h : Keeps s₀ s) : Keeps s₀ s.vioFault := h.put.irq.count.update

theorem Keeps.releaseSupply {iosel} (h : Keeps s₀ s) : Keeps s₀ (s.releaseSupply iosel) :=
  .ite h.update.powerOnReset h.update

theorem Keeps.overvoltage {mv} (h : Keeps s₀ s) : Keeps s₀ (s.overvoltage mv) :=
  .ite h (.ite h.deviceReset.update (.ite h.update h))

theorem Keeps.brownOut {mv} (h : Keeps s₀ s) : Keeps s₀ (s.brownOut mv) := .ite h h.deviceReset.update
theorem Keeps.chanterWake (h : Keeps s₀ s) : Keeps s₀ s.chanterWake := .ite h.wake h
theorem Keeps.relockTimeout (h : Keeps s₀ s) : Keeps s₀ s.relockTimeout := .ite h.deviceReset h
theorem Keeps.switchDomain {island} (h : Keeps s₀ s) : Keeps s₀ (s.switchDomain island) := h.count
theorem Keeps.switchIslands (h : Keeps s₀ s) : Keeps s₀ s.switchIslands := .foldl h fun _ _ h => h.switchDomain
theorem Keeps.endMute (h : Keeps s₀ s) : Keeps s₀ s.endMute := h.update

theorem Keeps.pllRelock {dsp} (h : Keeps s₀ s) : Keeps s₀ (s.pllRelock dsp) :=
  .ite h (.ite (.ite h (.ite h.put.noteDead.update.irq.endMute h.put)) (.ite h (Keeps.ite
    h.put.switchIslands.irq.endMute h.put.switchIslands).update.syncRef))

theorem Keeps.moveToRepair {i status reason} (h : Keeps s₀ s) : Keeps s₀ (s.moveToRepair i status reason) :=
  .ite h.finish (.ite h.finish h.setItem.syncItems)

theorem Keeps.moveSlotItems {lo hi p status reason} (h : Keeps s₀ s) : Keeps s₀ (s.moveSlotItems lo hi p status
    reason) :=
  .foldl h fun _ _ h => h.moveToRepair

theorem Keeps.delayOpening {slot i} (h : Keeps s₀ s) : Keeps s₀ (s.delayOpening slot i) := h.setItem

theorem Keeps.delayWindows {lo hi p} (h : Keeps s₀ s) : Keeps s₀ (s.delayWindows lo hi p) :=
  .foldl h fun _ _ h => h.delayOpening

theorem Keeps.rampDown {status reason} (h : Keeps s₀ s) : Keeps s₀ (s.rampDown status reason) := by
  unfold State.rampDown
  split
  exacts [h, h.cut]

theorem Keeps.lockLoss (h : Keeps s₀ s) : Keeps s₀ s.lockLoss := by
  have hmute {lo hi} : Keeps s₀ { s.rampDown 4 0x0202 with chn := { s.chn with pllLo := lo, pllHi := hi } } := by
    refine ⟨h.rampDown.1, fun h0 => ?_⟩
    obtain ⟨-, -, -, hcells, -⟩ := h.2 h0
    obtain ⟨hr, hh, ha, -, hrest⟩ := (Keeps.rampDown h).2 h0
    exact ⟨hr, hh, ha, hcells, hrest⟩
  exact hmute.moveSlotItems.delayWindows.record

theorem Keeps.dspUnlock (h : Keeps s₀ s) : Keeps s₀ s.dspUnlock :=
  .ite h (.ite h.put.irq.count.update.lockLoss h.put.irq.count.update)

theorem Keeps.pllUnlock (h : Keeps s₀ s) : Keeps s₀ s.pllUnlock :=
  .ite h (.ite h.put.irq.count.switchIslands.update.lockLoss h.put.irq.count.switchIslands.update)

theorem Keeps.trim {hf lf} (h : Keeps s₀ s) : Keeps s₀ (s.trim hf lf) :=
  .ite (Keeps.ite (.ite h h.put) (Keeps.ite h h.put).put).put.put (Keeps.ite (.ite h h.put) (Keeps.ite h
    h.put).put).put.put.count

theorem Keeps.moveLf {lfrc} (h : Keeps s₀ s) : Keeps s₀ (s.moveLf lfrc) := .ite h h.put.switchDomain

theorem Keeps.selectRef {src hitless} (h : Keeps s₀ s) : Keeps s₀ (s.selectRef src hitless) :=
  .ite h (Keeps.ite h.put.count h.put.count.pllUnlock).update.syncRef

theorem Keeps.fallBack {src go} (h : Keeps s₀ s) (hgo : Keeps s₀ (go s)) : Keeps s₀ (s.fallBack src go) :=
  .ite hgo (.ite h.put h.deviceReset)

theorem Keeps.sourceFailed {src} (h : Keeps s₀ s) : Keeps s₀ (s.sourceFailed src) := by
  unfold State.sourceFailed
  dsimp only
  split
  · exact .ite (h.fallBack h.selectRef).syncRef h.syncRef
  · exact .ite h (h.fallBack h.moveLf)
  · exact .ite (h.fallBack h.selectRef) h
  · exact .ite (h.fallBack h.moveLf) h

theorem Keeps.dropSkeinRef (h : Keeps s₀ s) : Keeps s₀ s.dropSkeinRef :=
  .ite h (.ite h.irq.selectRef (h.irq.fallBack h.irq.selectRef))

theorem Keeps.loseSkeinRef (h : Keeps s₀ s) : Keeps s₀ s.loseSkeinRef := .ite h.put.dropSkeinRef h

theorem Keeps.clockTrip {src} (h : Keeps s₀ s) : Keeps s₀ (s.clockTrip src) :=
  .ite h.loseSkeinRef (.ite h (Keeps.ite h.setOk.irq.count h.setOk.irq).update.sourceFailed)

theorem Keeps.enterService {src} (h : Keeps s₀ s) : Keeps s₀ (s.enterService src) := by
  unfold State.enterService
  dsimp only
  split
  · exact (Keeps.ite h.setOk.put h.setOk.put.selectRef).syncRef
  · exact .ite h.setOk.put h.setOk.put.moveLf
  · exact .ite h.setOk.put.selectRef h.setOk.put
  · exact .ite h.setOk.put h.setOk.put.moveLf

theorem Keeps.startDelayEnd {src valid meas} (h : Keeps s₀ s) : Keeps s₀ (s.startDelayEnd src valid meas) :=
  .ite h (.ite (Keeps.ite h.put (.ite h.put h)).update.enterService (.ite (Keeps.ite h.put (.ite h.put
    h)).update.deviceReset (Keeps.ite (Keeps.ite h.put (.ite h.put h)).update.irq.count (Keeps.ite h.put (.ite h.put
    h)).update.irq).update.sourceFailed))

theorem Keeps.timerCtl {n v} (h : Keeps s₀ s) : Keeps s₀ (s.timerCtl n v) := .ite h.put.irq.put h.put.put
theorem Keeps.stagger {v} (h : Keeps s₀ s) : Keeps s₀ (s.stagger v) := .foldl h fun _ _ h => h.put
theorem Keeps.snapTimer {n} (h : Keeps s₀ s) : Keeps s₀ (s.snapTimer n) := h.update
theorem Keeps.loadTimer {n} (h : Keeps s₀ s) : Keeps s₀ (s.loadTimer n) := h.put.update
theorem Keeps.timerReload {n} (h : Keeps s₀ s) : Keeps s₀ (s.timerReload n) := h.snapTimer.loadTimer

theorem Keeps.timerGroup {v f} (h : Keeps s₀ s) (hf : ∀ x n, Keeps s₀ x → Keeps s₀ (f x n)) : Keeps s₀ (s.timerGroup v
    f) :=
  .ite (.foldl h hf) h

theorem Keeps.timerStop {n} (h : Keeps s₀ s) : Keeps s₀ (s.timerStop n) := h.snapTimer.put.update

theorem Keeps.timerStart {n} (h : Keeps s₀ s) : Keeps s₀ (s.timerStart n) :=
  .ite h (.ite h.snapTimer.loadTimer h.snapTimer.loadTimer.put)

theorem Keeps.timerTick {n} (h : Keeps s₀ s) : Keeps s₀ (s.timerTick n) := by
  unfold State.timerTick
  extract_lets c p next _ _ s1 s2 s3 s4
  have h2 : Keeps s₀ s2 := .ite h.put.update.fire h.put.update
  have h4 : Keeps s₀ s4 := .ite (Keeps.ite h2 h2.fire).irq.put (.ite h2 h2.fire)
  exact .ite h (.ite h4.put h4)

theorem Keeps.pubSubWrite {a v} (h : Keeps s₀ s) : Keeps s₀ (s.pubSubWrite a v) :=
  .ite h (.ite h.put h.writeByCode)

theorem Keeps.groupChange {c enable disable} (h : Keeps s₀ s) : Keeps s₀ (s.groupChange c enable disable) :=
  (Keeps.ite h h.update).update.put

theorem Keeps.grpClr {v} (h : Keeps s₀ s) : Keeps s₀ (s.grpClr v) := h.groupChange
theorem Keeps.grpSet {v} (h : Keeps s₀ s) : Keeps s₀ (s.grpSet v) := h.groupChange.put
theorem Keeps.captureStart (h : Keeps s₀ s) : Keeps s₀ s.captureStart := .ite h.put.put.update h
theorem Keeps.timerCapture {n} (h : Keeps s₀ s) : Keeps s₀ (s.timerCapture n) := h.put

theorem Keeps.taskEffect {c t} (h : Keeps s₀ s) : Keeps s₀ (State.taskEffect c s t) :=
  .ite (.ite h.timerStart h) (.ite (.ite h.timerStop h) (.ite (.ite h.timerReload h) (.ite (.ite h.timerCapture h)
    (.ite (.ite h h.groupChange) (.ite h.groupChange (.ite h.wr64 (.ite h.irq.plic (.ite h.hkaStart (.ite
    h.captureStart h)))))))))

theorem Keeps.drivePads {k} (h : Keeps s₀ s) : Keeps s₀ (s.drivePads k) := .ite h.wr h
theorem Keeps.writeLatches {k w} (h : Keeps s₀ s) : Keeps s₀ (s.writeLatches k w) := h.wr.drivePads
theorem Keeps.setLatch {pin f} (h : Keeps s₀ s) : Keeps s₀ (s.setLatch pin f) := h.writeLatches

theorem Keeps.gpioAction {u} (h : Keeps s₀ s) : Keeps s₀ (s.gpioAction u) := by
  refine .ite h ?_
  split
  exacts [h.setLatch, h.setLatch, h.setLatch, h]

theorem Keeps.gpioActions {units} (h : Keeps s₀ s) : Keeps s₀ (s.gpioActions units) :=
  foldl_inv (p := fun x : State × List Nat => Keeps s₀ x.1) (fun x u hx => by
    dsimp only
    split
    · exact hx
    · exact hx.gpioAction) units (s, []) h

theorem Keeps.effects {c ts} (h : Keeps s₀ s) : Keeps s₀ (s.effects c ts) :=
  (Keeps.foldl h fun _ _ h => h.taskEffect).gpioActions

theorem Keeps.reach {c u n} {x : State × List Nat} (h : Keeps s₀ x.1) : Keeps s₀ (State.reach c u x n).1 := by
  unfold State.reach
  exact .fst_ite (Keeps.ite h.count h) (.fst_ite h.update.count h.update.count.update)

theorem Keeps.trigger {ch c u} (h : Keeps s₀ s) : Keeps s₀ (s.trigger ch c u) := by
  have hreach := foldl_inv (p := fun x : State × List Nat => Keeps s₀ x.1) (f := State.reach c u) fun _ _ hx => Keeps.reach hx
  exact (hreach (subscribers s ch) (s, []) h).effects

theorem Keeps.trip {ch c} (h : Keeps s₀ s) : Keeps s₀ (s.trip ch c) := h.groupChange.put.put.irq.count.record

theorem Keeps.arrive {ch c} (h : Keeps s₀ s) : Keeps s₀ (s.arrive ch c).2 := by
  unfold State.arrive
  split
  · exact h.count
  · dsimp only
    split
    · exact h.update.count
    · exact h.update

theorem Keeps.arrive_some {ch c} {y : State} (h : Keeps s₀ s) (hs : s.arrive ch c = (some t, y)) : Keeps s₀ t := by
  unfold State.arrive at hs
  split at hs
  · cases hs
  · dsimp only at hs
    split at hs
    · cases hs
    · cases hs
      exact h.update

theorem Keeps.fireSkein {c u n} (h : Keeps s₀ s) : Keeps s₀ (State.fireSkein c u s n) := by
  unfold State.fireSkein
  split
  next hs =>
    have hc := h.arrive (ch := 128 + n) (c := c)
    rw [hs] at hc
    exact hc
  next hs => exact .ite (h.arrive_some hs).update.trigger.trip (h.arrive_some hs).update.trigger

theorem Keeps.forwardSkc {v except} (h : Keeps s₀ s) : Keeps s₀ (s.forwardSkc v except) :=
  .foldl h fun _ _ h => h.setPort

theorem Keeps.originate {n} (h : Keeps s₀ s) : Keeps s₀ (s.originate n) := .ite h h.forwardSkc

theorem Keeps.publish {ch c u} (h : Keeps s₀ s) : Keeps s₀ (s.publish ch c u) := by
  unfold State.publish
  split
  next hs =>
    have hc := h.arrive (ch := ch) (c := c)
    rw [hs] at hc
    exact hc
  next hs =>
    exact .ite (h.arrive_some hs).update.trip
      (.foldl (h.arrive_some hs).update.trigger fun _ _ hx => hx.fireSkein.originate)

theorem Keeps.swBit {c ch} (h : Keeps s₀ s) : Keeps s₀ (State.swBit c s ch) := .ite h.count.irq.put h.publish
theorem Keeps.swfire {k v} (h : Keeps s₀ s) : Keeps s₀ (s.swfire k v) := .ite h (Keeps.foldl h fun _ _ h => h.swBit)

theorem Keeps.eventFire (h : Keeps s₀ s) : Keeps s₀ s.eventFire := by
  refine .ite h.update.effects ?_
  split
  exacts [h, Keeps.ite h.update.publish h.update]

theorem Keeps.coilTest {result ball} (h : Keeps s₀ s) : Keeps s₀ (s.coilTest result ball) :=
  .ite h (.ite h.put h.put.irq.record)

theorem Keeps.unquiet (h : Keeps s₀ s) : Keeps s₀ s.unquiet := .ite h h.update.put
theorem Keeps.tagIrq {m} (h : Keeps s₀ s) : Keeps s₀ (s.tagIrq m) := .ite h.irq h
theorem Keeps.endTagSession {x} (h : Keeps s₀ s) : Keeps s₀ (s.endTagSession x) := h.update.put
theorem Keeps.fieldLost (h : Keeps s₀ s) : Keeps s₀ s.fieldLost := h.endTagSession.put.update.tagIrq

theorem Keeps.fieldOn (h : Keeps s₀ s) : Keeps s₀ s.fieldOn :=
  .ite h (.ite (.ite h.put.tagIrq.update.fire h.put.tagIrq.update) (Keeps.ite h.put.tagIrq.update.fresh
    h.put.tagIrq.update).update)

theorem Keeps.tagCount {k} (h : Keeps s₀ s) : Keeps s₀ (s.tagCount k) := .ite h.count h
theorem Keeps.answer {bs} (h : Keeps s₀ s) : Keeps s₀ (s.answer bs) := h.update

theorem Keeps.respond {data sw} (h : Keeps s₀ s) : Keeps s₀ (s.respond data sw) :=
  .ite h.tagCount.answer (.ite h.tagCount.answer.tagCount.put h.tagCount.answer.tagCount)

theorem Keeps.statusBytes (h : Keeps s₀ s) : Keeps s₀ (statusBytes s).2 := by
  unfold Machine.statusBytes
  split
  · exact h
  · exact h.freshBytes

theorem Keeps.statusApdu (h : Keeps s₀ s) : Keeps s₀ s.statusApdu := h.statusBytes.respond

theorem Keeps.vendorApdu {cla k} (h : Keeps s₀ s) (hk : Keeps s₀ (k s)) : Keeps s₀ (s.vendorApdu cla k) :=
  .ite h (.ite h.respond hk)

theorem Keeps.writeAbort (h : Keeps s₀ s) : Keeps s₀ s.writeAbort := h.update.respond
theorem Keeps.syncTag (h : Keeps s₀ s) : Keeps s₀ s.syncTag := h.put.put.put.put.wr.wr

/-- A step of a record write that keeps queue and canonical form, run whole or cut off. -/
def TagStep.Keeping (x : TagStep) : Prop :=
  (∀ s₀ s, Keeps s₀ s → Keeps s₀ (x.whole s)) ∧ ∀ s₀ cut s, Keeps s₀ s → Keeps s₀ (x.cutOff cut s)

theorem Keeps.runSteps {collapse l} (hl : ∀ x ∈ l, x.Keeping) (h : Keeps s₀ s) :
    Keeps s₀ (runSteps s collapse l).1 := by
  induction l generalizing s with
  | nil => exact h
  | cons x l ih =>
    obtain ⟨hx, hl⟩ := List.forall_mem_cons.mp hl
    unfold Machine.runSteps
    split
    · split
      · exact hx.2 _ _ _ h
      · exact ih hl (hx.1 _ _ h)
    · exact ih hl (hx.1 _ _ h)

theorem Keeps.cutWord {a cut bs} (h : Keeps s₀ s) : Keeps s₀ (s.cutWord a cut bs) :=
  .ite h (.ite h.program h.update)

theorem Keeps.counterRecord {sector v twice} (h : Keeps s₀ s) : Keeps s₀ (s.counterRecord sector v twice) := by
  unfold State.counterRecord
  dsimp only
  split
  exacts [h.eraseRange.program, Keeps.ite h.program.program h.program]

theorem Keeps.cutRecord {sector v cut twice} (h : Keeps s₀ s) : Keeps s₀ (s.cutRecord sector v cut twice) :=
  .ite h (.ite h.counterRecord h.update)

theorem Keeps.failedCommit {steps} (hl : ∀ x ∈ steps, x.Keeping) (h : Keeps s₀ s) :
    Keeps s₀ (s.failedCommit steps) := by
  unfold State.failedCommit
  extract_lets k c x y
  have hx : Keeps s₀ x := .runSteps (fun z hz => hl z (List.mem_of_mem_take hz)) (h.fresh (n := steps.length)).fresh
  have hy : Keeps s₀ y := by
    unfold y
    split
    next hst => exact (hl _ (List.mem_of_getElem? hst)).2 _ _ _ hx
    next => exact hx
  exact .ite hy.syncTag hy

theorem commitSteps_keeping (s : State) (bs : List Byte) : ∀ x ∈ commitSteps s bs, x.Keeping := by
  unfold commitSteps
  extract_lets counter c v a k flag base head spoil flagged
  have hspoil {x y : State} (hy : Keeps x y) : Keeps x (spoil y) := hy.update
  clear_value base head flagged spoil
  intro x hx
  rcases List.mem_append.mp hx with hx | hx
  · split at hx
    · simp only [List.mem_cons, List.not_mem_nil, or_false] at hx
      rcases hx with rfl | rfl
      · exact ⟨fun _ _ h => h.counterRecord, fun _ _ _ h => h.cutRecord⟩
      · exact ⟨fun _ _ h => h.counterRecord, fun _ _ _ h => h.cutRecord⟩
    · cases hx
  · simp only [List.mem_cons, List.not_mem_nil, or_false] at hx
    rcases hx with rfl | rfl | rfl | rfl
    · exact ⟨fun _ _ h => h.eraseRange, fun _ _ _ h => hspoil h.scramble⟩
    · exact ⟨fun _ _ h => h.program, fun _ _ _ h => h.scramble⟩
    · exact ⟨fun _ _ h => h.program, fun _ _ _ h => h.cutWord⟩
    · exact ⟨fun _ _ h => h.program, fun _ _ _ h => h.cutWord⟩

theorem Keeps.writeCommit {data collapse verifyFail} (h : Keeps s₀ s) : Keeps s₀ (s.writeCommit data collapse
    verifyFail) := by
  unfold State.writeCommit
  split
  · exact h.respond
  next b _ =>
    have hsteps := commitSteps_keeping s b.bytes
    generalize commitSteps s b.bytes = steps at hsteps ⊢
    have hr := Keeps.runSteps (collapse := if vsupOn s then none else collapse) hsteps h
    generalize Machine.runSteps s (if vsupOn s then none else collapse) steps = r at hr ⊢
    refine .ite h.respond (.ite h.respond (.ite h.respond (.ite (Keeps.failedCommit hsteps h).update.respond
      (.ite hr.fieldLost ?_))))
    exact .ite (Keeps.ite hr.update.syncTag hr.update).tagCount.tagIrq.statusBytes.respond.answer.fieldLost
      (Keeps.ite hr.update.syncTag hr.update).tagCount.tagIrq.statusBytes.respond

theorem Keeps.writeData {offset data} (h : Keeps s₀ s) : Keeps s₀ (State.writeData offset data s) := by
  unfold State.writeData
  split
  exacts [h.respond, Keeps.ite h.respond (.ite h.respond h.update.respond)]

theorem Keeps.writeBegin {data} (h : Keeps s₀ s) : Keeps s₀ (State.writeBegin data s) :=
  .ite h.respond (.ite h.respond (.ite h.respond h.freshBytes.update.respond))

theorem Keeps.respondOpen (h : Keeps s₀ s) : Keeps s₀ s.respondOpen := h.fresh.respond

theorem Keeps.readBinary {offset n} (h : Keeps s₀ s) : Keeps s₀ (s.readBinary offset n) :=
  .ite h (.ite h.respond h.respondOpen)

theorem Keeps.ndefSelect {byName name} (h : Keeps s₀ s) : Keeps s₀ (s.ndefSelect byName name) :=
  .ite h (.ite (.ite h.update.respond (.ite h.update.respond h.respondOpen))
    (.ite h.update.respond (.ite h.update.respond h.respondOpen)))

theorem Keeps.startQuiet (h : Keeps s₀ s) : Keeps s₀ s.startQuiet := .ite h.update.put.irq.record h.update.put
theorem Keeps.tagState {x} (h : Keeps s₀ s) : Keeps s₀ (s.tagState x) := h.update

theorem Keeps.deselect {hlta} (h : Keeps s₀ s) : Keeps s₀ (s.deselect hlta) := by
  refine .ite h ?_
  refine .ite ?_ ?_
  · split
    · exact h.tagState.answer
    · exact h.tagState.answer
    · exact h.tagState.answer
    · exact .ite h.endTagSession.startQuiet.answer h.endTagSession.answer
    · exact h
  · exact .ite (.ite h.endTagSession.answer.startQuiet h.endTagSession.answer) h

theorem Keeps.pps {_rate} (h : Keeps s₀ s) : Keeps s₀ (s.pps _rate) := .ite h.answer h
theorem Keeps.rats (h : Keeps s₀ s) : Keeps s₀ s.rats := .ite h.update.put.tagCount.answer h

theorem Keeps.selectUid {level uid} (h : Keeps s₀ s) : Keeps s₀ (s.selectUid level uid) :=
  .ite (.ite (.ite h.tagState.answer h.tagState.answer) h.tagState.answer) h

theorem Keeps.anticollision {level known} (h : Keeps s₀ s) : Keeps s₀ (s.anticollision level known) :=
  .ite (.ite h.answer h.answer) h

theorem Keeps.reqa {wupa} (h : Keeps s₀ s) : Keeps s₀ (s.reqa wupa) := by
  refine .ite h (.ite h.tagCount.answer ?_)
  split
  exacts [h.tagState.answer, Keeps.ite h.tagState.answer h.answer, h.answer, h.tagState.answer]

theorem Keeps.setDist {d f} (h : Keeps s₀ s) : Keeps s₀ (s.setDist d f) := h.update

theorem Keeps.appendLog {base keep e} (h : Keeps s₀ s) : Keeps s₀ (s.appendLog base keep e) :=
  .ite h.program h.eraseRange.program.eraseRange

theorem Keeps.snapshot {d} (h : Keeps s₀ s) : Keeps s₀ (s.snapshot d) := h.eraseRange.program.appendLog.setDist

theorem Keeps.takeReport {f} (h : Keeps s₀ s) : Keeps s₀ (s.takeReport f) := by
  unfold State.takeReport
  split
  exacts [h, Keeps.foldl h fun _ _ h => (.ite h.setDist h)]

theorem Keeps.takeReports (h : Keeps s₀ s) : Keeps s₀ s.takeReports := .foldl h.update fun _ _ h => h.takeReport

theorem Keeps.distSnapshot {d} (h : Keeps s₀ s) : Keeps s₀ (s.distSnapshot d) :=
  .ite h.takeReports (.ite h.takeReports.snapshot h.takeReports.setDist)

theorem Keeps.recordUse {n u} (h : Keeps s₀ s) : Keeps s₀ (s.recordUse n u) := h.update

theorem Keeps.setUse {n u} (h : Keeps s₀ s) : Keeps s₀ (s.setUse n u) := by
  unfold State.setUse
  extract_lets old s1 s2
  have h2 : Keeps s₀ s2 := .ite h.put.put.recordUse h.put.put
  split
  · exact h2
  · exact .ite (Keeps.ite h2.irq h2).put.irq (.ite h2.irq h2)

theorem Keeps.useSlot {n blocks} (h : Keeps s₀ s) : Keeps s₀ (s.useSlot n blocks) := h.setUse
theorem Keeps.cryCompleted (h : Keeps s₀ s) : Keeps s₀ s.cryCompleted := h.count

theorem Keeps.useSlotRx {n blocks} (h : Keeps s₀ s) : Keeps s₀ (s.useSlotRx n blocks) := by
  refine .ite h ?_
  split
  exacts [Keeps.ite h h.setUse, h.useSlot]

theorem Keeps.cacheEnter {n master eui gen rest} (h : Keeps s₀ s) : Keeps s₀ (s.cacheEnter n master eui gen rest) :=
  h.step rfl fun ⟨hr, hh, ha, hc, hm, hl, he, hk, hrest⟩ => ⟨hr, hh, ha, hc, hm, hl, he, Sparse.set_wf hk _ _, hrest⟩

theorem Keeps.cacheHit {p} (h : Keeps s₀ s) : Keeps s₀ (s.cacheHit p) := by
  unfold State.cacheHit
  split
  exacts [h.update, h]

theorem Keeps.cacheTouch {eui gen} (h : Keeps s₀ s) : Keeps s₀ (s.cacheTouch eui gen) := by
  unfold State.cacheTouch
  refine .ite h.cacheHit ?_
  dsimp only
  split
  · exact h.count.cacheEnter
  · refine .ite h.count.cacheEnter ?_
    split
    exacts [h.count.cacheEnter, h.count]

theorem Keeps.useDerived {eui gen blocks rx} (h : Keeps s₀ s) : Keeps s₀ (s.useDerived eui gen blocks rx) :=
  (Keeps.ite h.useSlotRx h.useSlot).cacheTouch.cryCompleted

theorem Keeps.useNative {r} (h : Keeps s₀ s) : Keeps s₀ (s.useNative r) := by
  unfold State.useNative
  split
  exacts [h.useDerived, h.useSlot.cryCompleted, h.useSlot.cryCompleted, h]

theorem Keeps.txfcLow (h : Keeps s₀ s) : Keeps s₀ s.txfcLow := h.update.irq

theorem Keeps.takeTxfc (h : Keeps s₀ s) : Keeps s₀ s.takeTxfc := by
  unfold State.takeTxfc
  exact .ite (Keeps.txfcLow (.ite h.put.update h.put)) (.ite h.put.update h.put)

theorem Keeps.await {w} (h : Keeps s₀ s) : Keeps s₀ (s.await w) := h.update

theorem Keeps.awaitNative {o ring ws r key} (h : Keeps s₀ s) : Keeps s₀ (s.awaitNative o ring ws r key) :=
  h.useNative.takeTxfc.await

theorem Keeps.distSubmit {d c m} (h : Keeps s₀ s) : Keeps s₀ (s.distSubmit d c m) := by
  unfold State.distSubmit
  dsimp only
  split
  exacts [h.setDist.awaitNative, h]

theorem Keeps.distEnd {d} (h : Keeps s₀ s) : Keeps s₀ (s.distEnd d) := h.record.setDist

theorem Keeps.carousel {d} (h : Keeps s₀ s) : Keeps s₀ (s.carousel d) := by
  unfold State.carousel
  dsimp only
  split
  · exact h.takeReports
  · exact .ite h.takeReports (.ite h.takeReports.snapshot.distEnd (.ite h.takeReports.distEnd (.ite h.takeReports
      h.takeReports.setDist.distSubmit)))

theorem Keeps.done {ring ws reason w4 w5 w6 w7} (h : Keeps s₀ s) : Keeps s₀ (s.done ring ws reason w4 w5 w6 w7) :=
  h.complete

theorem Keeps.refuse {ring ws reason w4 w5} (h : Keeps s₀ s) : Keeps s₀ (s.refuse ring ws reason w4 w5) := h.complete

theorem Keeps.distClear {d f} (h : Keeps s₀ s) : Keeps s₀ (s.distClear d f) :=
  .ite h.refuse h.eraseRange.eraseRange.update.setDist.done

theorem Keeps.onTurn {p k} (h : Keeps s₀ s) (hk : ∀ x f, Keeps s₀ x → Keeps s₀ (k x f)) :
    Keeps s₀ (s.onTurn p k) := by
  unfold State.onTurn
  split
  · exact hk _ _ h.update
  · exact h

theorem Keeps.onDist {cmd k} (h : Keeps s₀ s) (hk : ∀ x d f, Keeps s₀ x → Keeps s₀ (k x d f)) : Keeps s₀ (s.onDist cmd
    k) :=
  h.onTurn fun _ _ hx => .ite (hk _ _ _ hx) hx.refuse

theorem Keeps.bufWrite {ring a bs} (h : Keeps s₀ s) : Keeps s₀ (s.bufWrite ring a bs) := .ite h.sramWrite h.dma
theorem Keeps.abortDma {f} (h : Keeps s₀ s) : Keeps s₀ (s.abortDma f) := h.irq.complete

theorem Keeps.distReply {fail d f} (h : Keeps s₀ s) : Keeps s₀ (State.distReply fail s d f) :=
  .ite h.takeReports.abortDma h.takeReports.bufWrite.done

theorem Keeps.distStop {d f} (h : Keeps s₀ s) : Keeps s₀ (s.distStop d f) := h.setDist.done
theorem Keeps.distStart {d f} (h : Keeps s₀ s) : Keeps s₀ (s.distStart d f) := .ite h.refuse h.setDist.done
theorem Keeps.requestRevert (h : Keeps s₀ s) : Keeps s₀ s.requestRevert := .ite h h.irq.update

theorem Keeps.syncUpd (h : Keeps s₀ s) : Keeps s₀ s.syncUpd := by
  unfold State.syncUpd
  dsimp only
  split
  exacts [h.put.put.wr.put.put, h.put.put.put.put.put.put]

theorem Keeps.actRecord {kind bobbin reason epoch version trial} (h : Keeps s₀ s) : Keeps s₀ (s.actRecord kind bobbin
    reason epoch version trial) :=
  h.appendLog

theorem Keeps.actFor {kind bobbin reason m trial} (h : Keeps s₀ s) : Keeps s₀ (s.actFor kind bobbin reason m trial) :=
  h.actRecord

theorem Keeps.abandonArmed {code} (h : Keeps s₀ s) : Keeps s₀ (s.abandonArmed code) := h.actFor.put.put.update

theorem Keeps.quiesceTimeout (h : Keeps s₀ s) : Keeps s₀ s.quiesceTimeout :=
  .ite h.abandonArmed (.ite h.deviceReset h)

theorem Keeps.eraseSlot {k} (h : Keeps s₀ s) : Keeps s₀ (s.eraseSlot k) := h.eraseRange
theorem Keeps.eraseSessions (h : Keeps s₀ s) : Keeps s₀ s.eraseSessions := h.eraseSlot.eraseSlot
theorem Keeps.abandon (h : Keeps s₀ s) : Keeps s₀ s.abandon := .ite h h.eraseSessions.put.syncUpd
theorem Keeps.setCounter {n v} (h : Keeps s₀ s) : Keeps s₀ (s.setCounter n v) := h.counterWrite.counterWrite.put
theorem Keeps.raiseCounter2 {v} (h : Keeps s₀ s) : Keeps s₀ (s.raiseCounter2 v) := .ite h h.setCounter

theorem Keeps.confirm {req} (h : Keeps s₀ s) : Keeps s₀ (s.confirm req) :=
  .ite h h.actFor.raiseCounter2.eraseSessions.put.irq.update.syncUpd

theorem Keeps.alive {req} (h : Keeps s₀ s) : Keeps s₀ (s.alive req) := .ite h h.actFor.put.update.syncUpd
theorem Keeps.measureImage {m} (h : Keeps s₀ s) : Keeps s₀ (s.measureImage m) := h.update

theorem Keeps.window {b} (h : Keeps s₀ s) : Keeps s₀ (s.window b) :=
  h.measureImage.put.put.put.update.restartCores.startPartition

theorem Keeps.revertOver (h : Keeps s₀ s) : Keeps s₀ s.revertOver := h.actFor.window.put.put.irq.count.update.syncUpd

theorem Keeps.switchOver (h : Keeps s₀ s) : Keeps s₀ s.switchOver :=
  .ite h.abandonArmed h.actFor.window.put.irq.update.syncUpd

theorem Keeps.handover {req} (h : Keeps s₀ s) : Keeps s₀ (s.handover req) :=
  .ite h (.ite h.switchOver (.ite h.revertOver h))

theorem Keeps.activate (h : Keeps s₀ s) : Keeps s₀ s.activate := .ite h h.put.actFor.irq.update

theorem Keeps.stagingCheck {target} (h : Keeps s₀ s) : Keeps s₀ (s.stagingCheck target) := by
  refine .ite h ?_
  split
  · exact h
  · exact .ite (Keeps.ite h.update.actFor h.update).irq.syncUpd (Keeps.ite h.eraseSessions
      h.eraseRange).record.syncUpd

theorem Keeps.mark {base k} (h : Keeps s₀ s) : Keeps s₀ (s.mark base k) := h.program

theorem Keeps.pieceEnd {f target code} (h : Keeps s₀ s) : Keeps s₀ (s.pieceEnd f target code) := by
  unfold State.pieceEnd
  dsimp only
  split
  · exact h.syncUpd
  · split
    exacts [h.syncUpd.refuse, h.syncUpd.done]

theorem Keeps.pieceData {f src b} (h : Keeps s₀ s) : Keeps s₀ (s.pieceData f src b) := by
  unfold State.pieceData
  dsimp only
  split
  · exact h.pieceEnd
  · split
    · exact h.pieceEnd
    · exact .ite h.count.pieceEnd (.ite h.pieceEnd (.ite h.pieceEnd (.ite h.count.pieceEnd
        h.program.mark.count.pieceEnd)))

theorem Keeps.onPiece {src bytes ty k} (h : Keeps s₀ s) (hk : ∀ x f n bs, Keeps s₀ x → Keeps s₀ (k x f n bs)) :
    Keeps s₀ (s.onPiece src bytes ty k) :=
  .ite (h.onTurn fun _ _ hx => hk _ _ _ _ hx) (.ite (hk _ _ _ _ h) h)

theorem Keeps.reusePages {q m j leaves} (h : Keeps s₀ s) : Keeps s₀ (s.reusePages q m j leaves) :=
  .ite (.foldl h fun _ _ h => h.mark) h.eraseRange

theorem Keeps.pieceHash {f src b} (h : Keeps s₀ s) : Keeps s₀ (s.pieceHash f src b) := by
  unfold State.pieceHash
  dsimp only
  split
  · exact h.pieceEnd
  · split
    · exact h.pieceEnd
    · exact .ite h.pieceEnd (.ite h.count.pieceEnd (Keeps.ite h.program.mark.count.reusePages
        h.program.mark.count).pieceEnd)

theorem Keeps.newSession {k m src} (h : Keeps s₀ s) : Keeps s₀ (s.newSession k m src) :=
  h.update.eraseSlot.program.put

theorem Keeps.offer {m src} (h : Keeps s₀ s) (ht : s.offer m src = some t) : Keeps s₀ t := by
  unfold State.offer at ht
  split at ht
  · split at ht
    · cases ht; exact h
    · split at ht
      · cases ht; exact h.newSession.irq.count.record
      · cases ht
  · cases ht; exact h.eraseRange.newSession

theorem Keeps.pieceManifest {f src b} (h : Keeps s₀ s) : Keeps s₀ (s.pieceManifest f src b) := by
  unfold State.pieceManifest
  dsimp only
  split
  · exact h.pieceEnd
  · refine .ite h.pieceEnd ?_
    split
    · exact h.pieceEnd
    · refine .ite ?_ ?_
      · split
        next ht => exact (h.offer ht).pieceEnd
        next => exact h.pieceEnd
      · exact Keeps.pieceEnd (by split; exacts [h, h.eraseRange.eraseRange.eraseRange.program])

theorem Keeps.modeLog {mode quiet wr} (h : Keeps s₀ s) : Keeps s₀ (s.modeLog mode quiet wr) := by
  unfold State.modeLog
  dsimp only
  split
  exacts [h.program, h.eraseRange.program]

theorem Keeps.bootMode {mode} (h : Keeps s₀ s) : Keeps s₀ (s.bootMode mode) := .ite h h.modeLog
theorem Keeps.loadStore (h : Keeps s₀ s) : Keeps s₀ s.loadStore := (Keeps.foldl h fun _ _ h => h.wr.update).update

theorem Keeps.bootRestore (h : Keeps s₀ s) : Keeps s₀ s.bootRestore :=
  (Keeps.ite (Keeps.ite h.update h.loadStore).syncOwners.put (Keeps.ite h.update
    h.loadStore).syncOwners).put.put.syncTag

theorem Keeps.release (h : Keeps s₀ s) : Keeps s₀ s.release := h.update.restartCores.startPartition
theorem Keeps.enable {b} (h : Keeps s₀ s) : Keeps s₀ (s.enable b) := .ite h h.put.put.put.wr

theorem Keeps.bootRecovery (h : Keeps s₀ s) : Keeps s₀ s.bootRecovery :=
  .foldl h.bootMode.bootRestore.put.release.syncUpd fun _ _ h => h.enable

theorem Keeps.bootImage {b applied} (h : Keeps s₀ s) : Keeps s₀ (s.bootImage b applied) := by
  unfold State.bootImage
  extract_lets m s1 s2 s3
  have h1 : Keeps s₀ s1 := .ite h h.raiseCounter2
  have h3 : Keeps s₀ s3 := (Keeps.ite h1.bootMode h1).measureImage.bootRestore.put.put.put
  exact h3.release.syncUpd

theorem Keeps.bootRevert {b} (h : Keeps s₀ s) : Keeps s₀ (s.bootRevert b) := h.actFor.put.irq.count

theorem Keeps.bootChoose {applied} (h : Keeps s₀ s) : Keeps s₀ (s.bootChoose applied) := by
  refine .ite ?_ ?_
  · exact Keeps.bootImage (by split; exacts [h.bootRevert, h])
  · refine .ite ?_ ?_
    · exact (Keeps.put (by split; exacts [h.bootRevert, h])).bootImage
    · exact Keeps.bootRecovery (by split; exacts [h.bootRevert, h])

theorem Keeps.factoryCosts (h : Keeps s₀ s) : Keeps s₀ s.factoryCosts := .ite h.put.put.put h

theorem Keeps.applyConfig {c} (h : Keeps s₀ s) : Keeps s₀ (s.applyConfig c) :=
  h.update.put.put.put.put.put.wr.put.put.put.put.put.put.put.put.put.update.factoryCosts

theorem Keeps.bootEnable {b} (h : Keeps s₀ s) : Keeps s₀ (s.bootEnable b) := h.put.put

theorem Keeps.bootEnables (h : Keeps s₀ s) : Keeps s₀ s.bootEnables := by
  unfold State.bootEnables
  dsimp only
  split
  exacts [h.bootEnable.bootEnable.bootEnable, h.bootEnable.bootEnable.put.put.put.bootEnable]

theorem Keeps.setApplied {k v} (h : Keeps s₀ s) : Keeps s₀ (s.setApplied k v) := h.program

theorem Keeps.applyRecord {formOk ownerKey} (h : Keeps s₀ s) : Keeps s₀ (s.applyRecord formOk ownerKey).1 := by
  unfold State.applyRecord
  split
  · exact h
  · dsimp only
    split
    · exact h
    · split
      · exact h.setApplied.record
      · split
        · exact h.setApplied.record
        · exact (Keeps.setApplied (by split; exacts [.ite h.update h.update.setOwner, h.update])).irq

theorem Keeps.measure {k bs} (h : Keeps s₀ s) : Keeps s₀ (s.measure k bs) := h.update

theorem Keeps.boot {loaderOk cfg recordOk ownerKey step2Ok} (h : Keeps s₀ s) : Keeps s₀ (s.boot loaderOk cfg recordOk
    ownerKey step2Ok) :=
  .ite h (.ite h.measure.update (.ite h.measure.update.applyRecord.applyConfig.bootEnables.measure.measure.bootChoose
    h.measure.update.applyRecord.applyConfig.bootEnables.measure.measure.bootRecovery))

theorem Keeps.scrub {a errors} (h : Keeps s₀ s) : Keeps s₀ (s.scrub a errors) :=
  .ite h (.ite h.update.countEcc.record (.ite h.countEcc h.countEcc.update.startWaiting))

theorem Keeps.storeDone {j} (h : Keeps s₀ s) : Keeps s₀ (s.storeDone j) := by
  unfold State.storeDone
  split
  exacts [h.count.done, h.done]

theorem Keeps.storeStep {ok} (h : Keeps s₀ s) : Keeps s₀ (s.storeStep ok) := by
  unfold State.storeStep
  split
  exacts [h, Keeps.ite h (.ite h.update (.ite h.update h.update.commitStore.storeDone))]

theorem Keeps.closeRecord {k} (h : Keeps s₀ s) : Keeps s₀ (s.closeRecord k) := h.program

theorem Keeps.journalDone {o} (h : Keeps s₀ s) : Keeps s₀ (s.journalDone o) := by
  unfold State.journalDone
  split
  exacts [h.closeRecord, h]

theorem Keeps.occupancyStop {bank} (h : Keeps s₀ s) : Keeps s₀ (s.occupancyStop bank) := by
  unfold State.occupancyStop
  split
  · exact h
  · extract_lets due s1 _ s2 s3 s4
    have h2 : Keeps s₀ s2 := by
      unfold s2
      split
      exacts [h.setOp.scramble, h.setOp.scramble, h.setOp.update]
    have h3 : Keeps s₀ s3 := h2.journalDone
    exact .ite h (Keeps.ite h3.put.irq (.ite h3.storeStep h3)).serveStalled.startWaiting

theorem Keeps.flashResume {bank} (h : Keeps s₀ s) : Keeps s₀ (s.flashResume bank) := by
  unfold State.flashResume
  split
  exacts [h, Keeps.ite h.setOp.syncFlc h]

theorem Keeps.flashAccess {a} (h : Keeps s₀ s) : Keeps s₀ (s.flashAccess a) := by
  unfold State.flashAccess
  dsimp only
  split
  · exact h
  · exact .ite h.count (.ite h.setOp (.ite h.suspendOp h.setOp.count))

theorem Keeps.coreAccess {c a r fetch} (h : Keeps s₀ s) : Keeps s₀ (s.coreAccess c a r fetch) :=
  .ite h.coreReads (.ite h.flashAccess.update h.flashAccess.coreReads)

theorem Keeps.flashSuspend {a rd} (h : Keeps s₀ s) : Keeps s₀ (s.flashSuspend a rd) := by
  unfold State.flashSuspend
  split
  · exact .ite h.flashAccess.suspendedRead h.flashAccess
  · exact h.coreAccess
  next c fence =>
    have h0 : Keeps s₀ (if fence then s.setCache c [] else s) := .ite h.setCache h
    dsimp only
    split
    · exact h0.deliverLoad
    · exact h0.coreAccess

theorem Keeps.reportOp {o e} (h : Keeps s₀ s) : Keeps s₀ (s.reportOp o e) := by
  unfold State.reportOp
  extract_lets s1
  have h1 : Keeps s₀ s1 := by
    unfold s1
    split
    exacts [h.setItem.finish, .ite h.storeStep h]
  exact .ite h1.put.irq h1

theorem Keeps.oneSlot {a} (h : Keeps s₀ s) : Keeps s₀ (s.oneSlot a) := by
  unfold State.oneSlot
  generalize blockStart a / 32 = w0
  generalize List.range 1024 = l
  exact h.step rfl fun ⟨hr, hh, ha, hc, hm, hl, hrest⟩ => ⟨hr, hh, ha, hc, hm,
    foldl_inv (p := fun m => Sparse.wf (fun _ => 0) m = true) (fun _ _ hx => Sparse.set_wf hx _ _) _ _ hl, hrest⟩

theorem Keeps.mapPut {copy e} (h : Keeps s₀ s) : Keeps s₀ (s.mapPut copy e) := h.program

theorem Keeps.rewriteMap {copy entries} (h : Keeps s₀ s) : Keeps s₀ (s.rewriteMap copy entries) :=
  .foldl h.eraseRange fun _ _ h => h.program

theorem Keeps.mapWrite {block physical weak} (h : Keeps s₀ s) : Keeps s₀ (s.mapWrite block physical weak) :=
  (Keeps.ite h h.rewriteMap.rewriteMap).mapPut.mapPut

theorem Keeps.remap {a keepOld n} (h : Keeps s₀ s) (ht : s.remap a keepOld = some (n, t)) : Keeps s₀ t := by
  unfold State.remap at ht
  dsimp only at ht
  split at ht
  · cases ht
  · cases ht
    exact .ite h.fresh.update.mapWrite.put.irq h.fresh.update.mapWrite.put

theorem Keeps.endRefresh {o} (h : Keeps s₀ s) : Keeps s₀ (s.endRefresh o).1 := by
  unfold State.endRefresh
  split
  next ht => exact (h.remap ht).oneSlot.count.irq
  next => exact h

theorem Keeps.endCounter {n fail} (h : Keeps s₀ s) : Keeps s₀ (s.endCounter n fail).1 := by
  unfold State.endCounter
  extract_lets v s0 s1 s2
  have h0 : Keeps s₀ s0 := .ite h.counterWrite h
  have h1 : Keeps s₀ s1 := .ite h0.counterWrite h0
  have h2 : Keeps s₀ s2 := h1.put
  exact .fst_ite h (.fst_ite h.irq (Keeps.ite h2 h2.irq))

theorem Keeps.endErase {o failed} (h : Keeps s₀ s) : Keeps s₀ (s.endErase o failed).1 := by
  unfold State.endErase
  dsimp only
  split
  · exact h.eraseRange
  · split
    next ht => exact (h.eraseRange.count.remap ht).irq
    next => exact h.eraseRange.count.scramble

theorem Keeps.endProgram {o badWord} (h : Keeps s₀ s) : Keeps s₀ (s.endProgram o badWord).1 := by
  unfold State.endProgram
  dsimp only
  split
  · exact h
  · split
    · exact h.program
    · exact .ite h.program.scramble.count h.program.scramble.count.mapWrite

theorem Keeps.endOp {o badWord fail} (h : Keeps s₀ s) : Keeps s₀ (s.endOp o badWord fail).1 := by
  unfold State.endOp
  split
  exacts [h.endProgram, h.endErase, h.endCounter, h.endRefresh]

theorem Keeps.flashOpEnd {bank badWord fail} (h : Keeps s₀ s) : Keeps s₀ (s.flashOpEnd bank badWord fail) := by
  unfold State.flashOpEnd
  dsimp only
  split
  · exact .ite h h.update.endOp.journalDone.reportOp.serveStalled.startWaiting
  · split
    · exact h
    · exact .ite h h.setOp.endOp.journalDone.reportOp.serveStalled.startWaiting

theorem Keeps.indexWrite {type bank slot time} (h : Keeps s₀ s) : Keeps s₀ (s.indexWrite type bank slot time) :=
  (Keeps.ite h.eraseRange h).program.put

theorem Keeps.ckptBank (h : Keeps s₀ s) : Keeps s₀ s.ckptBank := by
  unfold State.ckptBank
  split
  · exact h
  · split
    exacts [h, Keeps.ite h h.update.indexWrite]

theorem Keeps.clearDirty {lo n} (h : Keeps s₀ s) : Keeps s₀ (s.clearDirty lo n) := by
  refine h.step rfl fun ⟨hr, hh, ha, hc, hm, hl, he, hrest⟩ =>
    ⟨hr, hh, ha, hc, hm, hl, Sparse.wfFrom_filter_map (fun x => ?_) (fun x hx => ?_) he, hrest⟩
  · split <;> rfl
  · simpa using hx

theorem Keeps.ckptSubmit (h : Keeps s₀ s) : Keeps s₀ s.ckptSubmit := by
  unfold State.ckptSubmit
  split
  · exact h
  · refine .ite h ?_
    split
    · exact h
    · exact .ite h.update.await h.clearDirty.update.await

theorem Keeps.ckptNext (h : Keeps s₀ s) : Keeps s₀ s.ckptNext := by
  unfold State.ckptNext
  split
  exacts [Keeps.ite h h.ckptBank.ckptSubmit, h]

theorem Keeps.directGo {req v op} (h : Keeps s₀ s) : Keeps s₀ (s.directGo req v op) := by
  unfold State.directGo
  refine .ite h.put ?_
  dsimp only
  split
  · exact h.wr.put
  · exact h.wr.update.startWaiting

theorem Keeps.awaitFlash {f x} (h : Keeps s₀ s) : Keeps s₀ (s.awaitFlash f x) := h.await

theorem Keeps.flCounter {f} (h : Keeps s₀ s) : Keeps s₀ (s.flCounter f) :=
  .ite h.refuse (.ite h.refuse (.ite h.refuse h.awaitFlash))

theorem Keeps.onFetched {op k} (h : Keeps s₀ s) (hk : ∀ x f, Keeps s₀ x → Keeps s₀ (k x f)) : Keeps s₀ (s.onFetched op
    k) :=
  h.onTurn hk

theorem Keeps.flErase {f} (h : Keeps s₀ s) : Keeps s₀ (s.flErase f) := by
  refine .ite h.refuse ?_
  split
  exacts [h.refuse, Keeps.ite h.refuse h.awaitFlash]

theorem Keeps.flProgram {f} (h : Keeps s₀ s) : Keeps s₀ (s.flProgram f) := by
  unfold State.flProgram
  dsimp only
  split
  exacts [h.refuse, Keeps.ite h.refuse h.awaitFlash]

theorem Keeps.flRead {f corrected found fail} {s0 : State} (h0 : Keeps s₀ s0) (h : Keeps s₀ s) :
    Keeps s₀ (s0.flRead s f corrected found fail) := by
  unfold State.flRead
  extract_lets field n a s1 bad hidden data s2 s3 s4 rel
  have h3 : Keeps s₀ s3 := by
    unfold s3
    split
    exacts [h.flashAccess.countEcc.suspendedRead, h.flashAccess.countEcc]
  refine .ite h.refuse (.ite h.refuse (.ite h0.flashAccess (.ite h3.abortDma ?_)))
  split
  · exact h3.bufWrite.done
  · split
    exacts [h3.bufWrite.done, h3.bufWrite.done]

theorem Keeps.resumePulses (h : Keeps s₀ s) : Keeps s₀ s.resumePulses := h.update
theorem Keeps.voidDue {i code} (h : Keeps s₀ s) : Keeps s₀ (s.voidDue i code) := (Keeps.ite h.update h).finish

theorem Keeps.holdEnd (h : Keeps s₀ s) : Keeps s₀ s.holdEnd :=
  .ite h (Keeps.ite (Keeps.foldl h fun _ _ h => h.voidDue).put.put.irq.fire.record (Keeps.foldl h fun _ _ h =>
    h.voidDue).put.put.irq.fire).resumePulses.startWaiting

theorem Keeps.warningClear {mv} (h : Keeps s₀ s) : Keeps s₀ (s.warningClear mv) :=
  .ite h.measured (.ite h.measured.put.irq.update.put h.measured.put.irq)

theorem Keeps.harvestHour (h : Keeps s₀ s) : Keeps s₀ s.harvestHour :=
  .ite h (.ite h.update.put (.ite h.update.put h.update.put.setStore))

theorem Keeps.budgetAt {a store} (h : Keeps s₀ s) : Keeps s₀ (budgetAt s a store).2 := by
  unfold Machine.budgetAt
  extract_lets pm above r
  split
  · split
    · exact h.fresh (n := above + 1)
    · exact h
  · exact h

theorem Keeps.setNext (h : Keeps s₀ s) : Keeps s₀ s.setNext := h.budgetAt.update.syncBellows

theorem Keeps.startPeriod {start} (h : Keeps s₀ s) : Keeps s₀ (s.startPeriod start) :=
  h.update.budgetAt.update.put.irq.setNext.put.checkOverdraw

theorem Keeps.budgetPeriod (h : Keeps s₀ s) : Keeps s₀ s.budgetPeriod :=
  .ite h (Keeps.ite h.record h).update.startPeriod

theorem Keeps.checkRefused {b code field} (h : Keeps s₀ s) : Keeps s₀ (s.checkRefused b code field) := h.put.put.wr

theorem Keeps.commitModel (h : Keeps s₀ s) : Keeps s₀ s.commitModel := by
  unfold State.commitModel
  dsimp only
  split
  exacts [h.checkRefused, h.update.put.setNext.put]

theorem Keeps.setSquench {on} (h : Keeps s₀ s) : Keeps s₀ (s.setSquench on) :=
  .ite h (.ite h.put.irq.rampDown h.put.irq)

theorem Keeps.unblock (h : Keeps s₀ s) : Keeps s₀ s.unblock := .foldl h fun _ _ h => (Keeps.ite h.put.setPort h)

theorem Keeps.resetExecute (h : Keeps s₀ s) : Keeps s₀ s.resetExecute := by
  unfold State.resetExecute
  split
  exacts [h, Keeps.ite h (.ite h.update.deviceReset h.update.appReset)]

theorem Keeps.noteDelivered {m} (h : Keeps s₀ s) : Keeps s₀ (s.noteDelivered m) := h.update
theorem Keeps.sendNow {p m} (h : Keeps s₀ s) : Keeps s₀ (s.sendNow p m) := h.setPort
theorem Keeps.forward {p m} (h : Keeps s₀ s) : Keeps s₀ (s.forward p m) := .ite h.sendNow h.setPort
theorem Keeps.nextSeq (h : Keeps s₀ s) : Keeps s₀ s.nextSeq.2 := h.update

theorem Keeps.sendAck {m result} (h : Keeps s₀ s) : Keeps s₀ (s.sendAck m result) := by
  refine .ite h ?_
  split
  exacts [h, h.nextSeq.forward]

theorem Keeps.resetIn {m} (h : Keeps s₀ s) : Keeps s₀ (s.resetIn m) :=
  .ite h (.ite h.sendAck (.ite h.useSlot.cryCompleted.update.noteDelivered.sendAck h.sendAck.irq.record))

theorem Keeps.holdExpiry {idx} (h : Keeps s₀ s) : Keeps s₀ (s.holdExpiry idx) := by
  unfold State.holdExpiry
  split
  · exact h
  · split
    exacts [Keeps.ite h h.count.finish, h]

theorem Keeps.resendLater {idx fail} (h : Keeps s₀ s) : Keeps s₀ (s.resendLater idx fail) := h.setItem

theorem Keeps.ackTimeout {idx} (h : Keeps s₀ s) : Keeps s₀ (s.ackTimeout idx) := by
  unfold State.ackTimeout
  split
  · exact h
  · split
    · split
      exacts [h, Keeps.ite h h.resendLater]
    · exact h

theorem Keeps.ackIn {seq result} (h : Keeps s₀ s) : Keeps s₀ (s.ackIn seq result) := by
  unfold State.ackIn
  dsimp only
  split
  · exact h
  · split
    exacts [Keeps.ite h.finish (.ite h.finish (.ite h.finish (.ite h.resendLater (.ite h.resendLater h)))), h]

theorem Keeps.messageToFirmware {m} (h : Keeps s₀ s) : Keeps s₀ (s.messageToFirmware m) := h.update.plic

theorem Keeps.deliverMsg {m fail} (h : Keeps s₀ s) : Keeps s₀ (s.deliverMsg m fail) := by
  unfold State.deliverMsg
  refine .ite h.sendAck (.ite h.messageToFirmware.noteDelivered.count.sendAck (.ite h.irq.sendAck ?_))
  split
  next ht => exact (h.toRing9 ht).noteDelivered.count.sendAck
  next => exact h.sendAck

theorem Keeps.passOn {p m} (h : Keeps s₀ s) : Keeps s₀ (s.passOn p m) := .ite h.count.sendAck h.forward.count

theorem Keeps.messageIn {p m crcOk fail} (h : Keeps s₀ s) : Keeps s₀ (s.messageIn p m crcOk fail) := by
  refine .ite h (.ite h.count (.ite (.ite h (Keeps.foldl h fun _ _ h => h.passOn).deliverMsg) (.ite (.ite h.ackIn
    (.ite h.resetIn (.ite h.deliverMsg h))) ?_)))
  split
  exacts [h.count.sendAck, Keeps.ite h.count.sendAck h.passOn]

theorem Keeps.sendOwn {p m} (h : Keeps s₀ s) : Keeps s₀ (s.sendOwn p m) := .ite h.setPort h.sendNow

theorem Keeps.depart {i k} (h : Keeps s₀ s) : Keeps s₀ (s.depart i k) :=
  .ite (Keeps.foldl (.ite h.update.count.useSlotRx.cryCompleted h.update.count) fun _ _ h => h.sendOwn).setItem.finish
    (Keeps.foldl (.ite h.update.count.useSlotRx.cryCompleted h.update.count) fun _ _ h => h.sendOwn).setItem

theorem Keeps.skeinDepart {idx} (h : Keeps s₀ s) : Keeps s₀ (s.skeinDepart idx) := by
  unfold State.skeinDepart
  split
  · exact h
  · split
    · refine .ite h ?_
      refine .ite ?_ ?_
      · split
        exacts [h, Keeps.ite h h.depart]
      · refine .ite (.ite h h.depart) (.ite h (.ite h ?_))
        split
        exacts [h.voidDue, Keeps.ite h.moveToRepair (.ite h.setItem h.depart)]
    · exact h

theorem Keeps.hold {f k} (h : Keeps s₀ s) : Keeps s₀ (s.hold f k) := .ite h.refuse h.await.syncHold
theorem Keeps.cryRefused (h : Keeps s₀ s) : Keeps s₀ s.cryRefused := h.count

theorem Keeps.sknRemoteReset {f} (h : Keeps s₀ s) : Keeps s₀ (s.sknRemoteReset f) := by
  refine .ite h.refuse (.ite h.refuse (.ite h.refuse ?_))
  split
  exacts [h.cryRefused.refuse, Keeps.ite h.cryRefused.refuse h.nextSeq.hold]

theorem Keeps.sknSend {f} (h : Keeps s₀ s) : Keeps s₀ (s.sknSend f) :=
  .ite h.refuse (.ite h.refuse h.nextSeq.hold)

theorem Keeps.updateView (h : Keeps s₀ s) : Keeps s₀ s.updateView := by
  unfold State.updateView
  dsimp only
  split
  exacts [(Keeps.ite h h.update).put.put.put, (Keeps.ite h h.update).wr.put]

theorem Keeps.syncHoldover (h : Keeps s₀ s) : Keeps s₀ s.syncHoldover := .ite h.put.update h.put.update

theorem Keeps.elect {fromOrphan} (h : Keeps s₀ s) : Keeps s₀ (s.elect fromOrphan) :=
  h.put.put.put.update.updateView.syncHoldover

theorem Keeps.classify (h : Keeps s₀ s) : Keeps s₀ s.classify := .foldl h fun _ _ h => (Keeps.ite h.put.setPort h.put)
theorem Keeps.sendRec {r p} (h : Keeps s₀ s) : Keeps s₀ (s.sendRec r p) := h.setPort

theorem Keeps.sendQuench (h : Keeps s₀ s) : Keeps s₀ s.sendQuench :=
  .ite (.foldl h.update fun _ _ h => h.sendRec) h

theorem Keeps.setHead {id} (h : Keeps s₀ s) : Keeps s₀ (s.setHead id) := .ite h h.put.irq.fire

theorem Keeps.becomeHead (h : Keeps s₀ s) : Keeps s₀ s.becomeHead :=
  h.setHead.put.put.put.update.classify.sendQuench.syncHoldover

theorem Keeps.spreadNotice {n except} (h : Keeps s₀ s) : Keeps s₀ (s.spreadNotice n except) :=
  .foldl h fun _ _ h => h.setPort

theorem Keeps.raiseNotice {kind except} (h : Keeps s₀ s) : Keeps s₀ (s.raiseNotice kind except) :=
  h.update.spreadNotice

theorem Keeps.orphanTimeout (h : Keeps s₀ s) : Keeps s₀ s.orphanTimeout :=
  .ite h (.ite h.update.becomeHead.updateView.raiseNotice h.elect)

theorem Keeps.takeUpstream {p} (h : Keeps s₀ s) : Keeps s₀ (s.takeUpstream p) := by
  unfold State.takeUpstream
  dsimp only
  split
  exacts [(Keeps.ite h h.update).put.put.setHead, (Keeps.ite h h.update).put.put]

theorem Keeps.sendEnum (h : Keeps s₀ s) : Keeps s₀ s.sendEnum := .ite h h.update.sendRec

theorem Keeps.attach {p again} (h : Keeps s₀ s) : Keeps s₀ (s.attach p again) := by
  exact (Keeps.ite (Keeps.put (by split; exacts [h.takeUpstream.sendEnum, h.put.put])).update.classify.irq.raiseNotice
    (Keeps.put (by split; exacts [h.takeUpstream.sendEnum, h.put.put])).update.classify).syncHoldover

theorem Keeps.settleElection (h : Keeps s₀ s) : Keeps s₀ s.settleElection := by
  refine .ite h ?_
  split
  exacts [h.put.update.irq.record.syncHoldover, Keeps.ite h.becomeHead h.setHead.attach]

theorem Keeps.incumbency (h : Keeps s₀ s) : Keeps s₀ s.incumbency := .ite h.update.updateView h

theorem Keeps.dropMembers {p} (h : Keeps s₀ s) : Keeps s₀ (s.dropMembers p) :=
  .ite (.ite h.update.irq.count h.update) h

theorem Keeps.memberTimeout {id} (h : Keeps s₀ s) : Keeps s₀ (s.memberTimeout id) := h.dropMembers
theorem Keeps.enumRefresh (h : Keeps s₀ s) : Keeps s₀ s.enumRefresh := .ite h.sendEnum h

theorem Keeps.quenchIn {p head set n} (h : Keeps s₀ s) : Keeps s₀ (s.quenchIn p head set n) :=
  .ite h (.ite h (Keeps.foldl h.update fun _ _ h => h.sendRec).setSquench)

theorem Keeps.prune {id port} (h : Keeps s₀ s) : Keeps s₀ (s.prune id port) :=
  .ite h.dropMembers.sendRec h.dropMembers

theorem Keeps.alone (h : Keeps s₀ s) : Keeps s₀ s.alone := .ite h.put.put.put.put.update.updateView.syncHoldover h

theorem Keeps.reroute (h : Keeps s₀ s) : Keeps s₀ s.reroute := by
  refine .ite h ?_
  dsimp only
  split
  exacts [(Keeps.ite h.takeUpstream h.takeUpstream.sendEnum).classify, h.classify]

theorem Keeps.follow (h : Keeps s₀ s) : Keeps s₀ s.follow := by
  refine .ite h.updateView.reroute ?_
  refine .ite ?_ ?_
  · split
    exacts [Keeps.ite h.updateView.attach h.updateView.classify, h.updateView.classify]
  · refine .ite ?_ ?_
    · split
      exacts [h.updateView.attach, h.updateView.classify]
    · exact h.updateView.classify

theorem Keeps.orphan {own} (h : Keeps s₀ s) : Keeps s₀ (s.orphan own) :=
  .ite h (Keeps.ite h.loseSkeinRef.put.put.put.update.irq.count.raiseNotice
    h.loseSkeinRef.put.put.put.update.irq.count).classify.syncHoldover

theorem Keeps.dropLink {p k} (h : Keeps s₀ s) : Keeps s₀ (s.dropLink p k) :=
  .ite h.put.put.put.setPort (Keeps.ite (.ite (Keeps.ite h.put.put.put.setPort.fire.orphan
    h.put.put.put.setPort.fire).dropMembers.sendRec (Keeps.ite h.put.put.put.setPort.fire.orphan
    h.put.put.put.setPort.fire).dropMembers) (.ite h.put.put.put.setPort.fire.orphan
    h.put.put.put.setPort.fire)).alone.follow

theorem Keeps.idConflict {p id} (h : Keeps s₀ s) : Keeps s₀ (s.idConflict p id) := h.dropLink.irq.record

theorem Keeps.enumIn {p e} (h : Keeps s₀ s) : Keeps s₀ (s.enumIn p e) := by
  refine .ite h.idConflict ?_
  split
  · exact .ite h.idConflict (.ite h.update.sendRec h.update)
  · exact .ite (Keeps.ite h.update.irq h.update).sendRec (.ite h.update.irq h.update)

theorem Keeps.electRecord {p head dep} (h : Keeps s₀ s) : Keeps s₀ (s.electRecord p head dep) :=
  .ite h h.setPort.follow

theorem Keeps.delayRecord {p r} (h : Keeps s₀ s) : Keeps s₀ (s.delayRecord p r) := by
  unfold State.delayRecord
  split
  exacts [h, Keeps.ite h (.ite h.put.update h.put)]

theorem Keeps.pathNotice {p kind origin seq} (h : Keeps s₀ s) : Keeps s₀ (s.pathNotice p kind origin seq) :=
  .ite h (.ite (.ite h.update.spreadNotice.orphan h.update.spreadNotice) (.ite h.update.spreadNotice.attach
    h.update.spreadNotice))

theorem Keeps.eventCell {p valid skc kind origin seq} (h : Keeps s₀ s) : Keeps s₀ (s.eventCell p valid skc kind origin
    seq) :=
  .ite h (.ite (.ite h.count h) (.ite h.forwardSkc.pathNotice (.foldl h.forwardSkc.pathNotice fun _ _ h =>
    h.fireSkein)))

theorem Keeps.linkDown {p quiet} (h : Keeps s₀ s) : Keeps s₀ (s.linkDown p quiet) := .ite h.setPort.dropLink h

theorem Keeps.bringUp {p} (h : Keeps s₀ s) : Keeps s₀ (s.bringUp p) := by
  unfold State.bringUp
  dsimp only
  split
  exacts [h, Keeps.ite h (Keeps.ite h.put.put.put.put.elect.classify h.put.put.put.put).follow]

theorem Keeps.timeMark {p m valid violations} (h : Keeps s₀ s) : Keeps s₀ (s.timeMark p m valid violations) :=
  .ite h (.ite h.count.setPort (.ite h.count.setPort.follow.syncHoldover h.count.setPort))

theorem Keeps.steer (h : Keeps s₀ s) : Keeps s₀ s.steer :=
  .ite h (.ite h.put.update (.ite h.put.update.update (Keeps.ite h.put.update h.put.update.put).update.put))

theorem Keeps.takeSkeinRef (h : Keeps s₀ s) : Keeps s₀ s.takeSkeinRef := h.selectRef
theorem Keeps.steerRef (h : Keeps s₀ s) : Keeps s₀ s.steerRef := .ite h.takeSkeinRef h.loseSkeinRef

theorem Keeps.frameBoundary {xo} (h : Keeps s₀ s) : Keeps s₀ (s.frameBoundary xo) :=
  .ite h (Keeps.ite (Keeps.foldl h.update fun _ _ h => h.setPort).fire.put.steer (Keeps.foldl h.update fun _ _ h =>
    h.setPort).fire.put).steerRef.syncHoldover

theorem Keeps.rateFallback {p} (h : Keeps s₀ s) : Keeps s₀ (s.rateFallback p) := .ite h.put h

theorem Keeps.lineFault {p fault pair dist} (h : Keeps s₀ s) : Keeps s₀ (s.lineFault p fault pair dist) :=
  .ite h.put.put.put.dropLink h.put.put.put.dropLink.irq.record

theorem Keeps.lineShort {p toVsup pair} (h : Keeps s₀ s) : Keeps s₀ (s.lineShort p toVsup pair) :=
  .ite h h.setPort.lineFault

theorem Keeps.lineTest {p fault pair dist} (h : Keeps s₀ s) : Keeps s₀ (s.lineTest p fault pair dist) :=
  .ite h (.ite (.ite h.setPort.put.put.put h.setPort.put.put) h.setPort.lineFault)

theorem Keeps.restoreDone (h : Keeps s₀ s) : Keeps s₀ s.restoreDone := .ite h h.loadStore.put.put.irq
theorem Keeps.startRestore (h : Keeps s₀ s) : Keeps s₀ s.startRestore := h.update.put
theorem Keeps.keyRestore (h : Keeps s₀ s) : Keeps s₀ s.keyRestore := .ite h h.startRestore

theorem Keeps.alarmClear {mask present} (h : Keeps s₀ s) : Keeps s₀ (s.alarmClear mask present) :=
  .ite h.put (.ite h.put.put.startRestore h.put.put)

theorem Keeps.txfcRestart (h : Keeps s₀ s) : Keeps s₀ s.txfcRestart := .ite h.update.put h.put

theorem Keeps.attest {fail f} (h : Keeps s₀ s) : Keeps s₀ (s.attest fail f) := by
  unfold State.attest
  split
  exacts [h.refuse, Keeps.ite h.abortDma (.ite (.ite h.refuse h.count.bufWrite.done) h.bufWrite.done)]

theorem Keeps.onAttest {form fail} (h : Keeps s₀ s) : Keeps s₀ (s.onAttest form fail) :=
  h.onTurn fun _ _ hx => hx.attest

theorem Keeps.sigDone {fail} (h : Keeps s₀ s) : Keeps s₀ (s.sigDone fail) := by
  unfold State.sigDone
  split
  · exact h
  · dsimp only
    split
    · exact .ite h.update.syncCry.abortDma h.update.syncCry.count.bufWrite.done
    · exact .ite h.update.syncCry.count.done h.update.syncCry.count.count.irq.done
    · exact .ite h.update.syncCry.update.done (.ite h.update.syncCry.update.abortDma
        h.update.syncCry.update.count.bufWrite.done)

theorem Keeps.sigQueueUp {f key} (h : Keeps s₀ s) : Keeps s₀ (s.sigQueueUp f key) := h.update.syncCry

theorem Keeps.hashOp {f} (h : Keeps s₀ s) : Keeps s₀ (s.hashOp f) := by
  unfold State.hashOp
  dsimp only
  split
  exacts [h.refuse, Keeps.ite h.refuse (.ite h.refuse h.update.sigQueueUp)]

theorem Keeps.sigVerify {f} (h : Keeps s₀ s) : Keeps s₀ (s.sigVerify f) := by
  unfold State.sigVerify
  dsimp only
  split
  exacts [h.refuse, Keeps.ite h.refuse (.ite h.refuse h.sigQueueUp)]

theorem Keeps.sigSign {f} (h : Keeps s₀ s) : Keeps s₀ (s.sigSign f) := by
  unfold State.sigSign
  split
  exacts [h.refuse, Keeps.ite h.refuse h.sigQueueUp]

theorem Keeps.storeQueue {f e} (h : Keeps s₀ s) : Keeps s₀ (s.storeQueue f e) := h.update.startWaiting
theorem Keeps.loadSlot {n attr key} (h : Keeps s₀ s) : Keeps s₀ (s.loadSlot n attr key) := h.wr.wr.wr.update
theorem Keeps.refuseCry {f code} (h : Keeps s₀ s) : Keeps s₀ (s.refuseCry f code) := h.count.refuse

theorem Keeps.keyImport {f} (h : Keeps s₀ s) : Keeps s₀ (s.keyImport f) := by
  unfold State.keyImport
  split
  · exact h.refuseCry
  · exact .ite (Keeps.ite h.useSlot h).loadSlot.update.storeQueue (Keeps.ite h.useSlot h).loadSlot.update.count.done

theorem Keeps.cipherDone {fail} (h : Keeps s₀ s) : Keeps s₀ (s.cipherDone fail) := by
  unfold State.cipherDone
  split
  · exact h
  · refine .ite h.update.syncCry.count.abortDma ?_
    split
    · exact h.update.syncCry.count.bufWrite.done
    · dsimp only
      split
      exacts [h.update.syncCry.count.bufWrite.bufWrite.done, h.update.syncCry.count.bufWrite.done]

theorem Keeps.takeNonce (h : Keeps s₀ s) : Keeps s₀ s.takeNonce.2 := .ite h.wr64.update h.wr64

theorem Keeps.cryOp {f} (h : Keeps s₀ s) : Keeps s₀ (s.cryOp f) := by
  unfold State.cryOp
  split
  · exact h.refuseCry
  · have hslot : ∀ n, Keeps s₀ (if wbits f.words 6 4 4 = 1
        then (s.useSlot n (cryBlocks f)).cacheHit (fun d => d.entry == wbits f.words 7 31 16 % 4096)
        else s.useSlot n (cryBlocks f)) := fun _ => .ite h.useSlot.cacheHit h.useSlot
    dsimp only
    split
    · exact (hslot _).takeNonce.update.syncCry
    · exact (hslot _).update.syncCry

theorem Keeps.ownerSet {f} (h : Keeps s₀ s) : Keeps s₀ (s.ownerSet f) := by
  unfold State.ownerSet
  split
  · exact h.refuse
  · split
    exacts [h.refuse, h.storeQueue]

theorem Keeps.onService {svc cmd k} (h : Keeps s₀ s) (hk : ∀ x f, Keeps s₀ x → Keeps s₀ (k x f)) :
    Keeps s₀ (s.onService svc cmd k) :=
  h.onTurn hk

theorem Keeps.svcStats {f fail} (h : Keeps s₀ s) : Keeps s₀ (s.svcStats f fail) :=
  .ite h.refuse (.ite h.abortDma h.bufWrite.done)

theorem Keeps.ckptStart {closing} (h : Keeps s₀ s) : Keeps s₀ (s.ckptStart closing) := h.update.put.ckptSubmit

theorem Keeps.svcCheckpoint {f} (h : Keeps s₀ s) : Keeps s₀ (s.svcCheckpoint f) :=
  .ite h.refuse (.ite h.update h.update.ckptStart)

theorem Keeps.setDirRec {i r} (h : Keeps s₀ s) : Keeps s₀ (s.setDirRec i r) := .ite h h.program.update

theorem Keeps.svcChange {f allowed dstate state} (h : Keeps s₀ s) : Keeps s₀ (s.svcChange f allowed dstate state) :=
  .ite h.refuse (.ite h.refuse (.ite h.refuse (.ite h.refuse h.setDirRec.setEntry.done)))

theorem Keeps.answerLookup {f found fail} (h : Keeps s₀ s) : Keeps s₀ (s.answerLookup f found fail) := by
  unfold State.answerLookup
  split
  exacts [h.done, Keeps.ite h.abortDma h.bufWrite.done]

theorem Keeps.svcLookupIndex {f fail} (h : Keeps s₀ s) : Keeps s₀ (s.svcLookupIndex f fail) :=
  .ite h.refuse h.answerLookup

theorem Keeps.svcLookupEui {f fail} (h : Keeps s₀ s) : Keeps s₀ (s.svcLookupEui f fail) :=
  .ite h.refuse h.answerLookup

theorem Keeps.writeImage {b} (h : Keeps s₀ s) : Keeps s₀ (s.writeImage b) :=
  (Keeps.foldl h.eraseRange fun _ _ h => (.foldl h fun _ _ h => (.ite h.flashStore h))).oneSlot

theorem Keeps.writeApplied (h : Keeps s₀ s) : Keeps s₀ s.writeApplied := h.program

theorem Keeps.copyImage {b} (h : Keeps s₀ s) : Keeps s₀ (s.copyImage b) :=
  (Keeps.foldl h fun _ _ h => h.flashStore).oneSlot

theorem Keeps.writeMarker {b seq} (h : Keeps s₀ s) : Keeps s₀ (s.writeMarker b seq) := h.program
theorem Keeps.atStep {c} (h : Keeps s₀ s) : Keeps s₀ (s.atStep c) := h.update

theorem Keeps.compact (h : Keeps s₀ s) : Keeps s₀ s.compact := by
  unfold State.compact
  split
  · exact h.writeMarker.atStep
  · exact h.copyImage.atStep
  · exact h.writeApplied.atStep
  · exact h.eraseRange.atStep
  · exact h.eraseRange.atStep
  · refine .ite h ?_
    split
    exacts [h.writeImage.atStep, h.eraseRange.eraseRange]

theorem Keeps.joinEnd (h : Keeps s₀ s) : Keeps s₀ s.joinEnd := by
  unfold State.joinEnd
  split
  · exact h
  · dsimp only
    split
    exacts [h.update, Keeps.ite h.update.setDirRec.setEntry h.update]

theorem Keeps.joinAccept {fr idx eui g newGen} (h : Keeps s₀ s) : Keeps s₀ (s.joinAccept fr idx eui g newGen) := by
  unfold State.joinAccept
  dsimp only
  split
  · exact h.fresh.fresh.fresh.update.ownerEnd.record
  · split
    · exact h.fresh.fresh.fresh.update.ownerEnd.record
    · exact .ite h.fresh.fresh.fresh.update.ownerEnd.record h.fresh.fresh.fresh.update.useDerived.awaitNative

theorem Keeps.newDirRec {i r} (h : Keeps s₀ s) : Keeps s₀ (s.newDirRec i r) := h.program.program
theorem Keeps.joinRefused {eui code} (h : Keeps s₀ s) : Keeps s₀ (s.joinRefused eui code) := h.record

theorem Keeps.joinRequest {eui g} (h : Keeps s₀ s) : Keeps s₀ (s.joinRequest eui g) := by
  unfold State.joinRequest
  dsimp only
  split
  · exact h
  · split
    · exact h.update
    next f _ =>
      have hused {P : Prop} [Decidable P] {a b c : Nat} {r : Bool} {x : State} (hx : Keeps s₀ x) :
        Keeps s₀ (if P then x.useDerived a b c r else x) := .ite hx.useDerived hx
      refine .ite h.update.joinRefused (.ite (hused h.update).joinRefused (.ite (hused h.update).fresh.joinRefused ?_))
      split
      · exact (hused h.update).joinRefused
      · refine .ite (hused h.update).joinRefused ?_
        split
        · exact (hused h.update).joinRefused
        · exact .ite (hused h.update).joinRefused
            (Keeps.ite (hused h.update).setDirRec (hused h.update).newDirRec).setEntry.joinAccept

theorem Keeps.restoreEntry {closed n} (h : Keeps s₀ s) : Keeps s₀ (s.restoreEntry closed n) := h.setEntryWord

theorem Keeps.esmRestore (h : Keeps s₀ s) : Keeps s₀ s.esmRestore :=
  .ite (Keeps.foldl h fun _ _ h => h.restoreEntry).put (.foldl h fun _ _ h => h.restoreEntry)

theorem Keeps.ckptRetry (h : Keeps s₀ s) : Keeps s₀ s.ckptRetry := by
  unfold State.ckptRetry
  split
  · split
    exacts [Keeps.ite h h.update.ckptSubmit, h]
  · exact h

theorem Keeps.ckptDone (h : Keeps s₀ s) : Keeps s₀ s.ckptDone := by
  unfold State.ckptDone
  split
  · exact h
  · exact .ite h (.ite h.update.put.irq.count.ckptWaiters.indexWrite.put.put (.ite
      h.update.put.irq.count.ckptWaiters.ckptStart h.update.put.irq.count.ckptWaiters))

theorem Keeps.close (h : Keeps s₀ s) : Keeps s₀ s.close := .ite h (Keeps.ite h.put h.put.ckptStart)
theorem Keeps.ckptNow (h : Keeps s₀ s) : Keeps s₀ s.ckptNow := .ite h (Keeps.ite h.put h.ckptStart)

theorem Keeps.ckptTimer (h : Keeps s₀ s) : Keeps s₀ s.ckptTimer :=
  .ite h (.ite h.irq (.ite h.update.ckptStart h.update.count))

theorem Keeps.esmScrub {n err} (h : Keeps s₀ s) : Keeps s₀ (s.esmScrub n err) := .ite h h.entryRead
theorem Keeps.recalDue (h : Keeps s₀ s) : Keeps s₀ s.recalDue := .ite h.put h

theorem Keeps.bandReselect {tx} (h : Keeps s₀ s) : Keeps s₀ (s.bandReselect tx) :=
  .ite (.ite h.update h.update) (.ite h.update h.put.update)

theorem Keeps.synthUnlock {tx} (h : Keeps s₀ s) : Keeps s₀ (s.synthUnlock tx) :=
  .ite h (Keeps.ite h h.update).put.count.irq.lockLoss.record

theorem Keeps.antennaRetry (h : Keeps s₀ s) : Keeps s₀ s.antennaRetry := .ite h.put.put.irq.record h.put

theorem Keeps.latchFault {i c gamma ph fwd} (h : Keeps s₀ s) : Keeps s₀ (s.latchFault i c gamma ph fwd) :=
  h.put.put.wr.update.count.irq.fire.record

theorem Keeps.antennaFault {gamma phase fwd external} (h : Keeps s₀ s) : Keeps s₀ (s.antennaFault gamma phase fwd
    external) := by
  refine .ite h (.ite h ?_)
  split
  · split
    exacts [h, h.setItem.latchFault]
  · split
    exacts [h, h.setItem.update.latchFault]

theorem Keeps.firUnlock (h : Keeps s₀ s) : Keeps s₀ s.firUnlock := .ite h.put h.put.put

theorem Keeps.firCheckDone (h : Keeps s₀ s) : Keeps s₀ s.firCheckDone := by
  unfold State.firCheckDone
  extract_lets hs h0 q r s1
  have h1 : Keeps s₀ s1 := by
    refine Keeps.put ?_
    unfold r
    split
    exacts [h.fresh (n := 9), h]
  clear_value s1 r
  refine .ite h ?_
  split
  exacts [h1.put.put, h1.put.put]

theorem Keeps.firCheck (h : Keeps s₀ s) : Keeps s₀ s.firCheck := h.put

theorem Keeps.capDataRead (h : Keeps s₀ s) : Keeps s₀ s.capDataRead := by
  unfold State.capDataRead
  split
  exacts [h.wr.update, h.fresh.wr]

theorem Keeps.captureDone {samples} (h : Keeps s₀ s) : Keeps s₀ (s.captureDone samples) :=
  .ite h.count.put.put.irq.update h

theorem Keeps.gainStep {c down} (h : Keeps s₀ s) : Keeps s₀ (s.gainStep c down) := .ite h h.put.count.update
theorem Keeps.residueAge (h : Keeps s₀ s) : Keeps s₀ s.residueAge := .foldl h.update fun _ _ h => h.sicDrop
theorem Keeps.sicScanned (h : Keeps s₀ s) : Keeps s₀ s.sicScanned := .ite h.update h

theorem Keeps.sicSubtracted {residue found} (h : Keeps s₀ s) : Keeps s₀ (s.sicSubtracted residue found) := by
  unfold State.sicSubtracted
  split
  exacts [h, Keeps.ite h (.foldl h.update fun _ _ h => h.count.assign)]

theorem Keeps.startJob {l} (h : Keeps s₀ s) : Keeps s₀ (s.startJob l) := by
  induction l generalizing s with
  | nil => exact h.update
  | cons j l ih => exact .ite (ih h.sicDrop) h.update.count

theorem Keeps.sicStart (h : Keeps s₀ s) : Keeps s₀ s.sicStart := .ite h h.startJob.syncLoad

theorem Keeps.deliver {w x data fail} (h : Keeps s₀ s) : Keeps s₀ (s.deliver w x data fail) := by
  refine .ite h.onWindow ?_
  split
  exacts [h, Keeps.ite h.update.irq.endItem h.update.dma.update.setItem.onWindow.syncItems]

theorem Keeps.countOver {w} (h : Keeps s₀ s) : Keeps s₀ (s.countOver w) := h.onWindow
theorem Keeps.endLane {n} (h : Keeps s₀ s) : Keeps s₀ (s.endLane n) := h.chargeLane.setLaneX.update

theorem Keeps.frameEnd154 {n psdu fcs link fail} (h : Keeps s₀ s) :
    Keeps s₀ (s.frameEnd154 n psdu fcs link fail) := by
  refine .ite h ?_
  dsimp only
  split
  · exact (Keeps.ite h h.count).endLane
  · split
    · exact .ite (Keeps.ite h h.count).endLane (.ite (Keeps.ite h h.count).endLane.countOver (Keeps.ite h
        h.count).endLane.deliver)
    · exact (Keeps.ite h h.count).endLane

theorem Keeps.dropOwn {p} (h : Keeps s₀ s) : Keeps s₀ (s.dropOwn p) := .foldl h fun _ _ h => h.finish
theorem Keeps.trackState {st} (h : Keeps s₀ s) : Keeps s₀ (s.trackState st) := h.update.put
theorem Keeps.countBellows {code} (h : Keeps s₀ s) : Keeps s₀ (countBellows s code) := .ite h.count h

theorem Keeps.notice {w idx committed rep} (h : Keeps s₀ s) : Keeps s₀ (s.notice w idx committed rep) :=
  .ite h.update h

theorem Keeps.accept {w idx k committed rep entries buffers e1 e2} (h : Keeps s₀ s) : Keeps s₀ (s.accept w idx k
    committed rep entries buffers e1 e2) :=
  h.update.syncItems.notice

theorem Keeps.takeOwn {w} (h : Keeps s₀ s) : Keeps s₀ (s.takeOwn w) := by
  unfold State.takeOwn
  dsimp only
  split
  exacts [h, h.accept]

theorem Keeps.takeAll {l} (h : Keeps s₀ s) (ht : s.takeAll l = .inl t) : Keeps s₀ t := by
  induction l generalizing s with
  | nil => cases ht; exact h
  | cons w l ih =>
    unfold State.takeAll at ht
    split at ht
    · cases ht
    · exact ih h.takeOwn ht

theorem Keeps.admitOwn {ws} (h : Keeps s₀ s) : Keeps s₀ (s.admitOwn ws).1 := by
  unfold State.admitOwn
  split
  next ht => exact h.takeAll ht
  next => exact h.countBellows.record

theorem Keeps.scanFrom {j} (h : Keeps s₀ s) : Keeps s₀ (s.scanFrom j) := by
  unfold State.scanFrom
  dsimp only
  split
  exacts [h.dropOwn.update.admitOwn, h.dropOwn.trackState.irq]

theorem Keeps.enterAcquire {skip} (h : Keeps s₀ s) : Keeps s₀ (s.enterAcquire skip) := h.trackState.update.scanFrom

theorem Keeps.loseParent (h : Keeps s₀ s) : Keeps s₀ s.loseParent :=
  .ite h.endAll.irq.trackState.admitOwn h.endAll.irq.trackState.admitOwn.enterAcquire

theorem Keeps.submitTracking (h : Keeps s₀ s) : Keeps s₀ s.submitTracking.1 :=
  (Keeps.dropOwn (.ite h.put.irq h.put)).update.admitOwn

theorem Keeps.missPeriods {n} (h : Keeps s₀ s) : Keeps s₀ (State.missPeriods n s) := by
  induction n generalizing s with
  | zero => exact h
  | succ n ih =>
    unfold State.missPeriods
    extract_lets _ s1 next
    have h1 : Keeps s₀ s1 := h.update.irq.fire
    have hnext (k : Nat) : Keeps s₀ (next k) :=
      .ite h1.trackState.submitTracking (ih h1.trackState.submitTracking)
    split
    exacts [hnext 3, hnext 4, h1.loseParent, h1]

theorem Keeps.periodMissed (h : Keeps s₀ s) : Keeps s₀ s.periodMissed := h.missPeriods

theorem Keeps.placeTracking (h : Keeps s₀ s) : Keeps s₀ s.placeTracking :=
  .ite h.submitTracking h.submitTracking.periodMissed

theorem Keeps.beaconVerified {j payload repaired firstChip eps lq} (h : Keeps s₀ s) :
    Keeps s₀ (s.beaconVerified j payload repaired firstChip eps lq) := by
  unfold State.beaconVerified
  refine .ite (.ite ?_ h.put.put) (.ite (.ite ?_ h.put.put) (.ite ?_ h.put.put))
  · exact h.put.put.update.put.put.put.put.update.dropOwn.trackState.fire.placeTracking
  · exact h.put.put.put.put.put.put.update.put.dropOwn.trackState.fire.placeTracking.irq
  · exact h.put.put.put.put.update.put.dropOwn.trackState.fire.placeTracking

theorem Keeps.beaconIn {f x} (h : Keeps s₀ s) : Keeps s₀ (s.beaconIn f x) := by
  unfold State.beaconIn
  split
  exacts [Keeps.ite h.beaconVerified h, h]

theorem Keeps.frameToFirmware {f} (h : Keeps s₀ s) : Keeps s₀ (s.frameToFirmware f) := h.update.plic
theorem Keeps.countFirmware {w} (h : Keeps s₀ s) : Keeps s₀ (s.countFirmware w) := h.onWindow
theorem Keeps.noteUplink {f link} (h : Keeps s₀ s) : Keeps s₀ (s.noteUplink f link) := .ite h.update h
theorem Keeps.rxcnt {k} (h : Keeps s₀ s) : Keeps s₀ (s.rxcnt k) := h.count

theorem Keeps.checkDevice {f} (h : Keeps s₀ s) : Keeps s₀ (s.checkDevice f).1 := by
  have hused {P : Prop} [Decidable P] {n b : Nat} :
      Keeps s₀ (if P then (s.useSlotRx n b).cryCompleted else s.cryRefused) :=
    .ite h.useSlotRx.cryCompleted h.cryRefused
  unfold State.checkDevice
  split
  · exact .fst_ite h h.rxcnt
  · dsimp only
    split
    · exact h.rxcnt
    · exact .fst_ite hused.rxcnt hused.put

theorem Keeps.entryUpdate {n f link} (h : Keeps s₀ s) : Keeps s₀ (s.entryUpdate n f link) :=
  .ite h.setEntry.setDirRec h.setEntry

theorem Keeps.entryCheck {n err} (h : Keeps s₀ s) : Keeps s₀ (s.entryCheck n err).1 := by
  unfold State.entryCheck
  extract_lets x e
  have hx : Keeps s₀ x := .ite h.entryRead h
  exact .fst_ite hx.count (.fst_ite hx.count (.fst_ite hx.rxcnt (.fst_ite hx.rxcnt (.fst_ite hx hx.rxcnt))))

theorem Keeps.checkEndpoint {f start err link} (h : Keeps s₀ s) : Keeps s₀ (s.checkEndpoint f start err link).1 := by
  unfold State.checkEndpoint
  split
  · exact h.rxcnt
  next n _ =>
    have hc := h.entryCheck (n := n) (err := err)
    split
    next hs => rw [hs] at hc; exact hc
    next s1 hs =>
      replace hc : Keeps s₀ s1 := by rw [hs] at hc; exact hc
      have hused {P Q : Prop} [Decidable P] [Decidable Q] {a b c k : Nat} {r : Bool} :
          Keeps s₀ (if P then (if Q then s1.rxcnt k else s1).useDerived a b c r else (if Q then s1.rxcnt k else s1).cryRefused) :=
        .ite (Keeps.useDerived (.ite hc.rxcnt hc)) (Keeps.cryRefused (.ite hc.rxcnt hc))
      exact .fst_ite hc.rxcnt (.fst_ite hc.rxcnt (.fst_ite hused.rxcnt (.fst_ite hused.count hused.entryUpdate)))

theorem Keeps.macCheck {f start err link} (h : Keeps s₀ s) : Keeps s₀ (s.macCheck f start err link).1 := by
  unfold State.macCheck
  split
  · exact h.rxcnt
  · split
    exacts [h.checkEndpoint, h, h.checkDevice]

theorem Keeps.macFrame {w x payload err fail} (h : Keeps s₀ s) : Keeps s₀ (s.macFrame w x payload err fail) := by
  unfold State.macFrame
  refine .ite h.countOver ?_
  split
  · exact h.rxcnt
  next f _ =>
    have hc := h.macCheck (f := f) (start := x.det.start) (err := err) (link := x.link)
    dsimp only
    split
    next hs => rw [hs] at hc; exact hc
    next hs => rw [hs] at hc; exact .ite hc.deliver hc
    next hs =>
      rw [hs] at hc
      exact .ite hc.noteUplink.frameToFirmware.countFirmware (.ite
        (.ite hc.noteUplink.countFirmware.beaconIn.deliver hc.noteUplink.countFirmware.beaconIn) hc.noteUplink.deliver)

theorem Keeps.noteDecoded {d} (h : Keeps s₀ s) : Keeps s₀ (s.noteDecoded d) := h.update

theorem Keeps.queueJob {d hdr level rssi w} (h : Keeps s₀ s) : Keeps s₀ (s.queueJob d hdr level rssi w) :=
  .ite h (.ite h.count (.ite h.sicDrop h.update.syncLoad))

theorem Keeps.frameEnd {n payload crc err link fail} (h : Keeps s₀ s) : Keeps s₀ (s.frameEnd n payload crc err link
    fail) := by
  have hwin {P : Prop} [Decidable P] {x : State} {k w f} (hx : Keeps s₀ x) :
      Keeps s₀ (if P then (x.count k).onWindow w f else x) := .ite hx.count.onWindow hx
  unfold State.frameEnd
  extract_lets x
  split
  · exact h
  · refine .ite h ?_
    split
    · exact h.count.endLane
    · dsimp only
      split
      · exact (hwin h.count.fire.count).noteDecoded.queueJob.endLane
      · exact .ite (hwin h.count.fire.count).noteDecoded.queueJob.endLane (hwin h.count.fire.count).noteDecoded.queueJob.endLane.macFrame

theorem Keeps.headerDecoded {n hdr} (h : Keeps s₀ s) : Keeps s₀ (s.headerDecoded n hdr) := by
  refine .ite h ?_
  split
  exacts [h.count.endLane, h.setLaneX]

theorem Keeps.syncLost {n} (h : Keeps s₀ s) : Keeps s₀ (s.syncLost n) := .ite h h.count.endLane

theorem Keeps.synced {n errors} (h : Keeps s₀ s) : Keeps s₀ (s.synced n errors) :=
  .ite h (Keeps.ite h.put.syncLoad h).setLaneX

theorem Keeps.relock {n q start} (h : Keeps s₀ s) : Keeps s₀ (s.relock n q start) := .ite h h.put.wr64.count.setLaneX

theorem Keeps.handOver {d} (h : Keeps s₀ s) : Keeps s₀ (s.handOver d) :=
  .ite h (.ite h.count.fire h.count.fire.assign)

theorem Keeps.qualified {found} (h : Keeps s₀ s) : Keeps s₀ (s.qualified found) :=
  .ite h (.foldl h fun _ _ h => h.handOver)

theorem Keeps.binWindow {zero w} (h : Keeps s₀ s) : Keeps s₀ (s.binWindow zero w) := by
  refine .ite h ?_
  split
  exacts [Keeps.ite h h.setBin, h.setBin]

theorem Keeps.bufferSamples {w} (h : Keeps s₀ s) : Keeps s₀ (s.bufferSamples w) := .ite h h.update

theorem Keeps.energyWindows {l} (h : Keeps s₀ s) : Keeps s₀ (s.energyWindows l) :=
  .ite h (.foldl (Keeps.foldl h fun _ _ h => h.binWindow).seats fun _ _ h => h.bufferSamples)

theorem Keeps.nonceRefill (h : Keeps s₀ s) : Keeps s₀ s.nonceRefill :=
  .ite (.ite h.update.setCounter.irq h.update.setCounter) h

theorem Keeps.txfcRefill (h : Keeps s₀ s) : Keeps s₀ s.txfcRefill := .ite h.update.setCounter h
theorem Keeps.orphanExpiry (h : Keeps s₀ s) : Keeps s₀ s.orphanExpiry := .ite h.enterAcquire h

theorem Keeps.scanExpiry (h : Keeps s₀ s) : Keeps s₀ s.scanExpiry := by
  refine .ite ?_ ?_
  · split
    · exact h.scanFrom
    · split
      exacts [h.scanFrom, h.scanFrom]
    · exact h
  · exact h

theorem Keeps.recoveryTimeout (h : Keeps s₀ s) : Keeps s₀ s.recoveryTimeout := .ite h.enterAcquire h

theorem Keeps.droneBeacon (h : Keeps s₀ s) : Keeps s₀ s.droneBeacon := by
  unfold State.droneBeacon
  refine .ite h ?_
  dsimp only
  split
  · exact h.update.record
  · split
    · exact h.update.record.cryRefused
    · split
      · exact h.update.record
      · exact h.update.awaitNative

theorem Keeps.loadPreset {n p} (h : Keeps s₀ s) : Keeps s₀ (s.loadPreset n p) := h.wr.wr.wr.wr.wr

theorem Keeps.loadPresets {n l} (h : Keeps s₀ s) : Keeps s₀ (s.loadPresets n l) := by
  induction l generalizing s n with
  | nil => exact h
  | cons p l ih => exact ih h.loadPreset

theorem Keeps.regionLoad {r} (h : Keeps s₀ s) : Keeps s₀ (s.regionLoad r) :=
  .ite h (.ite h.put (Keeps.foldl h.put fun _ _ h => h.put).loadPresets)

theorem Keeps.cellWrite {v} (h : Keeps s₀ s) : Keeps s₀ (s.cellWrite v) := by
  unfold State.cellWrite
  refine .ite h.irq (Keeps.put (Keeps.put (h.step rfl ?_)))
  exact fun ⟨hr, hh, ha, hc, hrest⟩ => ⟨hr, hh, ha, Sparse.set_wf hc _ _, hrest⟩

theorem Keeps.loseCell {c} (h : Keeps s₀ s) : Keeps s₀ (s.loseCell c) := by
  exact .foldl h.update fun _ _ h => (by split; exacts [h.delayOpening, h.moveToRepair])

theorem Keeps.muteNow {status reason} (h : Keeps s₀ s) : Keeps s₀ (s.muteNow status reason) := by
  unfold State.muteNow
  split
  exacts [h.update.syncFem, h.cut.update.syncFem]

theorem Keeps.chanterFault (h : Keeps s₀ s) : Keeps s₀ s.chanterFault := by
  unfold State.chanterFault
  dsimp only
  split
  · exact .ite h.muteNow.endAll.update.put.irq.coverage.syncFem.deviceReset
      h.muteNow.endAll.update.put.irq.coverage.syncFem
  · exact h.muteNow.endAll.update.put.irq.coverage.syncFem

theorem Keeps.mismatch (h : Keeps s₀ s) : Keeps s₀ s.mismatch :=
  .ite h (.ite h.deviceReset (.ite
    h.muteNow.update.count.put.irq.fire.record.moveSlotItems.delayWindows.syncFem.chanterFault
    h.muteNow.update.count.put.irq.fire.record.moveSlotItems.delayWindows.syncFem))

theorem Keeps.eccError {corrected cell} (h : Keeps s₀ s) : Keeps s₀ (s.eccError corrected cell) := by
  refine .ite h.count.irq ?_
  exact Keeps.mismatch (by split; exacts [h.count.irq, h.count.irq.loseCell])

theorem Keeps.restored (h : Keeps s₀ s) : Keeps s₀ s.restored := .ite h.update h
theorem Keeps.syncUsed (h : Keeps s₀ s) : Keeps s₀ s.syncUsed := .foldl h fun _ _ h => h.put

theorem Keeps.slotBoundary (h : Keeps s₀ s) : Keeps s₀ s.slotBoundary :=
  .ite h (Keeps.ite (Keeps.ite h.update.put.put h.update.put).put.update (.ite h.update.put.put
    h.update.put)).syncFem.syncUsed.fire.startWaiting

theorem Keeps.flashIssue {idx} (h : Keeps s₀ s) : Keeps s₀ (s.flashIssue idx) := by
  unfold State.flashIssue
  split
  · exact h
  · split
    · refine .ite h ?_
      split
      exacts [h.voidDue, Keeps.ite h.moveToRepair (.ite h.finish h.setItem.beginOp.syncFlc)]
    · exact h

theorem Keeps.trackingClosed (h : Keeps s₀ s) : Keeps s₀ s.trackingClosed := .ite h h.periodMissed

theorem Keeps.rxFinal {idx} (h : Keeps s₀ s) : Keeps s₀ (s.rxFinal idx) := by
  unfold State.rxFinal
  split
  · exact h
  · split
    exacts [Keeps.ite h (.ite (Keeps.ite h.finish.record h.finish).trackingClosed h.finish), h]

theorem Keeps.rxClose {idx} (h : Keeps s₀ s) : Keeps s₀ (s.rxClose idx) := by
  unfold State.rxClose
  split
  · exact h
  · split
    exacts [Keeps.ite h (.ite h.setItem.coverage.syncFem.fire h.setItem.coverage.syncFem.fire.rxFinal), h]

theorem Keeps.openWindow {i} (h : Keeps s₀ s) : Keeps s₀ (s.openWindow i) := h.setItem.coverage.syncFem.fire

theorem Keeps.rxOpen {idx} (h : Keeps s₀ s) : Keeps s₀ (s.rxOpen idx) := by
  unfold State.rxOpen
  split
  · exact h
  · split
    · refine .ite h ?_
      split
      exacts [h.voidDue, Keeps.ite (.ite h.delayOpening h.delayOpening.openWindow) h.openWindow]
    · exact h

theorem Keeps.settleQuench (h : Keeps s₀ s) : Keeps s₀ s.settleQuench := .ite h.put.irq h

theorem Keeps.antennaMeasured {i x gamma phase fwd} (h : Keeps s₀ s) : Keeps s₀ (s.antennaMeasured i x gamma phase
    fwd) :=
  .ite h.wr.put.irq.record h.wr

theorem Keeps.noteBlank {x} (h : Keeps s₀ s) : Keeps s₀ (s.noteBlank x) := h.update

theorem Keeps.endTx {idx gamma phase fwd} (h : Keeps s₀ s) : Keeps s₀ (s.endTx idx gamma phase fwd) := by
  unfold State.endTx
  split
  · exact h
  · split
    · refine .ite h ?_
      exact (Keeps.fire (by split; exacts [h.antennaMeasured.noteBlank.update.finishAt,
        h.antennaMeasured.noteBlank.update.finish])).syncFem.settleQuench.syncUsed
    · exact h

theorem Keeps.vsupAt {u} (h : Keeps s₀ s) : Keeps s₀ (s.vsupAt u).2 := by
  unfold State.vsupAt
  split
  · exact h
  · exact h.fresh

theorem Keeps.startTx {idx} (h : Keeps s₀ s) : Keeps s₀ (s.startTx idx) := by
  unfold State.startTx
  split
  · exact h
  · split
    · refine .ite h ?_
      split
      · exact h.voidDue
      · exact .ite h.finish (.ite h.moveToRepair (.ite h.moveToRepair (.ite h.moveToRepair (.ite h
          h.vsupAt.setItem.put.put.update.syncFem.fire))))
    · exact h

theorem Keeps.listen {idx dbm} (h : Keeps s₀ s) : Keeps s₀ (s.listen idx dbm) := by
  unfold State.listen
  split
  · exact h
  · split
    exacts [Keeps.ite h (.ite h.moveToRepair h.setItem), h]

theorem Keeps.postBuffer {f} (h : Keeps s₀ s) : Keeps s₀ (s.postBuffer f) := h.update

theorem Keeps.rxWindow {f} (h : Keeps s₀ s) : Keeps s₀ (s.rxWindow f) := by
  unfold State.rxWindow
  split
  · exact h.refuse
  · split
    exacts [h.refuse, h.await]

theorem Keeps.readDst {r err} (h : Keeps s₀ s) : Keeps s₀ (s.readDst r err) := .ite h.entryRead h

theorem Keeps.nativeTx {f req err} (h : Keeps s₀ s) : Keeps s₀ (s.nativeTx f req err) := by
  unfold State.nativeTx
  split
  · exact h.refuse
  · split
    · exact h.refuse
    · split
      · exact h.refuse
      · dsimp only
        split
        · exact (Keeps.ite h.readDst.count h.readDst).refuse
        · split
          · exact h.readDst.cryRefused.refuse
          · split
            exacts [h.readDst.refuse, h.readDst.awaitNative]

theorem Keeps.tx154 {f} (h : Keeps s₀ s) : Keeps s₀ (s.tx154 f) := by
  unfold State.tx154
  split
  · exact h.refuse
  · split
    exacts [h.refuse, h.await]

theorem Keeps.timeSlew {f} (h : Keeps s₀ s) : Keeps s₀ (s.timeSlew f) := .ite h.refuse h.update.put.done

theorem Keeps.onTimeSet {mode k} (h : Keeps s₀ s) (hk : ∀ x f, Keeps s₀ x → Keeps s₀ (k x f)) : Keeps s₀ (s.onTimeSet
    mode k) :=
  h.onTurn hk

theorem Keeps.timeStep {f} (h : Keeps s₀ s) : Keeps s₀ (s.timeStep f) :=
  .ite h.refuse (.ite h.refuse h.update.put.done)

theorem Keeps.swapEffect (h : Keeps s₀ s) : Keeps s₀ s.swapEffect := by
  unfold State.swapEffect
  split
  exacts [h, h.put.finish.irq]

theorem Keeps.bankSwap {f} (h : Keeps s₀ s) : Keeps s₀ (s.bankSwap f) := by
  refine .ite h.refuse (.ite h.refuse (.ite h.refuse (.ite h.refuse ?_)))
  split
  · exact Keeps.refuse (by split; exacts [h.put, h])
  · split
    · exact h.refuse
    · refine .ite h.refuse ?_
      split
      exacts [h.refuse, h.accept]

theorem Keeps.swapReaches (h : Keeps s₀ s) : Keeps s₀ s.swapReaches := by
  unfold State.swapReaches
  refine .ite (h.onFetched fun _ _ hx => hx.update) ?_
  split
  exacts [h.update.bankSwap, h.onFetched fun _ _ hx => hx.bankSwap]

theorem Keeps.fenceDone (h : Keeps s₀ s) : Keeps s₀ s.fenceDone := by
  unfold State.fenceDone
  split
  exacts [h, Keeps.ite h h.update]

theorem Keeps.fenceAll {f} (h : Keeps s₀ s) : Keeps s₀ (s.fenceAll f) := h.update

theorem Keeps.setQuench {on} (h : Keeps s₀ s) : Keeps s₀ (s.setQuench on) :=
  .ite h (.ite h.put.put.rampDown.settleQuench.sendQuench h.put.put.sendQuench)

theorem Keeps.quenchItem {f} (h : Keeps s₀ s) : Keeps s₀ (s.quenchItem f) := h.setQuench.done

theorem Keeps.cancelItem {f} (h : Keeps s₀ s) : Keeps s₀ (s.cancelItem f) := by
  unfold State.cancelItem
  dsimp only
  split
  exacts [h.finish.done, h.done]

theorem Keeps.resetRegs {b} (h : Keeps s₀ s) : Keeps s₀ (s.resetRegs b) :=
  h.step rfl fun ⟨hr, hm⟩ => ⟨Sparse.clear_wf hr _ _, hm⟩

theorem Keeps.stopHre (h : Keeps s₀ s) : Keeps s₀ s.stopHre := h.resetRegs.wr.wr.put.wr.put.update.syncItems

theorem Keeps.hostReset {linkLost} (h : Keeps s₀ s) : Keeps s₀ (s.hostReset linkLost) :=
  .ite h (.ite h.stopHre.put h.stopHre)

theorem Keeps.advanceHead {n} (h : Keeps s₀ s) : Keeps s₀ (s.advanceHead n) := .ite h.put.put h.put
theorem Keeps.writeEntry {n ws} (h : Keeps s₀ s) : Keeps s₀ (s.writeEntry n ws) := h.dma.advanceHead.setRing
theorem Keeps.signalRing {n} (h : Keeps s₀ s) : Keeps s₀ (s.signalRing n) := .ite h.setRing.vector h.setRing
theorem Keeps.signalled {n} (h : Keeps s₀ s) : Keeps s₀ (s.signalled n) := .ite h.setRing.irq.signalRing h.setRing.irq
theorem Keeps.putRecord {r} (h : Keeps s₀ s) : Keeps s₀ (s.putRecord r) := h.writeEntry.signalled
theorem Keeps.stopRing {n reason} (h : Keeps s₀ s) : Keeps s₀ (s.stopRing n reason) := h.put.put.irq
theorem Keeps.failWrite {n} (h : Keeps s₀ s) : Keeps s₀ (s.failWrite n) := h.stopRing.irq
theorem Keeps.dropRecord (h : Keeps s₀ s) : Keeps s₀ s.dropRecord := .ite h.update.count.irq h.update

theorem Keeps.eventRecord {fail} (h : Keeps s₀ s) : Keeps s₀ (s.eventRecord fail) := by
  refine .ite h ?_
  refine .ite ?_ ?_
  · split
    exacts [h, Keeps.ite h h.update.dropRecord]
  · split
    exacts [h, Keeps.ite h.update.failWrite h.update.putRecord]

theorem Keeps.modTime {n} (h : Keeps s₀ s) : Keeps s₀ (s.modTime n) := .ite h.signalRing h

theorem Keeps.writeCompletion {n fail} (h : Keeps s₀ s) : Keeps s₀ (s.writeCompletion n fail) := by
  refine .ite h ?_
  split
  · exact h
  · exact .ite h.update.failWrite (.ite h.writeEntry.update.afterWrite.signalled h.writeEntry.update.afterWrite)

theorem Keeps.refuseItem {w code w4 w5} (h : Keeps s₀ s) : Keeps s₀ (s.refuseItem w code w4 w5) := by
  unfold State.refuseItem
  dsimp only
  split
  · exact h.countBellows.refuse
  · exact .ite h.countBellows.update h.countBellows.ownerEnd.record
  · exact h.countBellows.update.record
  · exact h.countBellows.update.record
  · exact h.countBellows.record

theorem Keeps.energyAndAccept {w idx k committed spanU rep entries buffers} (h : Keeps s₀ s) : Keeps s₀
    (s.energyAndAccept w idx k committed spanU rep entries buffers) := by
  unfold State.energyAndAccept
  dsimp only
  split
  exacts [h.refuseItem, h.accept]

theorem Keeps.placeOther {w idx} (h : Keeps s₀ s) : Keeps s₀ (s.placeOther w idx) := by
  refine .ite h.refuseItem ?_
  dsimp only
  split
  exacts [h.refuseItem, h.energyAndAccept]

theorem Keeps.placeRadio {w idx} (h : Keeps s₀ s) : Keeps s₀ (s.placeRadio w idx) := by
  unfold State.placeRadio
  refine .ite h.refuseItem (.ite h.refuseItem ?_)
  dsimp only
  generalize (searchWaiting s w (reqOf w)).pair = p
  cases p with
  | none => exact h.refuseItem
  | some c =>
    refine .ite h.refuseItem (.ite h.refuseItem ?_)
    split
    · split
      exacts [h.refuseItem, h.energyAndAccept]
    · exact h.energyAndAccept
    · exact h

theorem Keeps.bookWaiting {w path} (h : Keeps s₀ s) : Keeps s₀ (s.bookWaiting w path) := by
  unfold State.bookWaiting
  dsimp only
  split
  · exact h.refuseItem
  · refine .ite h.refuseItem ?_
    split
    · exact h.refuseItem
    · refine .ite h.refuseItem (.ite h.refuseItem (.ite h.refuseItem ?_))
      split
      · exact h.refuseItem
      · split
        exacts [h.placeRadio, h.placeRadio, h.placeOther]

theorem Keeps.admitNext (h : Keeps s₀ s) : Keeps s₀ s.admitNext := by
  refine .ite h ?_
  split
  exacts [h, h.update.bookWaiting.syncHold]

theorem Keeps.refuseFetched {n ws code} (h : Keeps s₀ s) : Keeps s₀ (s.refuseFetched n ws code) :=
  .ite h.complete h.setRing.stopRing

theorem Keeps.served {n} (h : Keeps s₀ s) : Keeps s₀ (s.served n) := .ite h (Keeps.ite h.update h.update)

theorem Keeps.fetch {ws buf fail} (h : Keeps s₀ s) : Keeps s₀ (s.fetch ws buf fail) := by
  unfold State.fetch
  split
  · exact h
  · refine .ite h.setRing (.ite h.setRing ?_)
    dsimp only
    split
    · exact .ite h.setRing (.ite h.advanceHead.served.setRing.refuseFetched.irq
        h.advanceHead.served.setRing.refuseFetched)
    · exact h.advanceHead.served.setRing.update

theorem Keeps.doorbell {n idx} (h : Keeps s₀ s) : Keeps s₀ (s.doorbell n idx) :=
  .ite h.setRing (.ite h.setRing h)

theorem Keeps.ringDisable {n} (h : Keeps s₀ s) : Keeps s₀ (s.ringDisable n) := .ite h (Keeps.ite h.put h.put)

theorem Keeps.ringEnable {n} (h : Keeps s₀ s) : Keeps s₀ (s.ringEnable n) := by
  refine .ite h ?_
  split
  exacts [h.put, h.put.put.put.put.put.setRing]

theorem Keeps.portCheck {port finding} (h : Keeps s₀ s) : Keeps s₀ (s.portCheck port finding) :=
  .ite h.put h.put.record

theorem Keeps.calibrated {rx0 rx1} (h : Keeps s₀ s) : Keeps s₀ (s.calibrated rx0 rx1) :=
  .ite h h.portCheck.portCheck.put.put.put.update.irq.syncFem

theorem Keeps.repairInterrupted {r} (h : Keeps s₀ s) : Keeps s₀ (s.repairInterrupted r) :=
  .ite (Keeps.ite h.scramble (.ite h.eraseRange h)).closeRecord (Keeps.ite h.scramble (.ite h.eraseRange
    h)).closeRecord.irq.record

theorem Keeps.repairMap (h : Keeps s₀ s) : Keeps s₀ s.repairMap :=
  .foldl h fun _ _ h => (.foldl h fun _ _ h => (.ite h h.mapPut))

theorem Keeps.repairCounters (h : Keeps s₀ s) : Keeps s₀ s.repairCounters :=
  .foldl h fun _ _ h => (Keeps.foldl h fun _ _ h => (.ite h.counterWrite h)).put

theorem Keeps.flcReady (h : Keeps s₀ s) : Keeps s₀ s.flcReady :=
  .ite h (Keeps.foldl h.repairMap.repairCounters fun _ _ h => h.repairInterrupted).put.startWaiting

theorem Keeps.onDisabled {b} (h : Keeps s₀ s) : Keeps s₀ (s.onDisabled b) :=
  .ite h.stopHre (.ite (.foldl h fun _ _ h => h.put) (.ite (Keeps.foldl h.loseSkeinRef fun _ _ h =>
    h.put.put).put.put.put.put.put.syncHoldover (.ite h.put.update (.ite (Keeps.foldl h.update fun _ _ h =>
    h.clearLane).syncLoad h))))

theorem Keeps.disable {b} (h : Keeps s₀ s) : Keeps s₀ (s.disable b) := by
  refine .ite h ?_
  split
  exacts [h.checkRefused, Keeps.ite h.checkRefused h.put.onDisabled.syncFem]

theorem Keeps.abandonCheck {b} (h : Keeps s₀ s) : Keeps s₀ (s.abandonCheck b) := .ite h h.put.put.put

theorem Keeps.clearRun {a n} (h : Keeps s₀ s) : Keeps s₀ (s.clearRun a n) := by
  induction n generalizing s a with
  | zero => exact h
  | succ n ih => exact ih h.wr

theorem Keeps.clearCounters {b} (h : Keeps s₀ s) : Keeps s₀ (s.clearCounters b) :=
  .ite h.put (.ite h.clearRun (.ite h.clearRun (.ite (.foldl h.clearRun fun _ _ h => h.put) (.ite h.clearRun (.ite
    h.clearRun (.ite h.clearRun (.ite h.clearRun (.ite (.foldl h.clearRun fun _ _ h => h.put) (.ite h.clearRun (.ite
    h.clearRun (.ite h.clearRun (.ite h.clearRun.clearRun h))))))))))))

theorem Keeps.evfEnabled (h : Keeps s₀ s) : Keeps s₀ s.evfEnabled := h.update
theorem Keeps.lostCommit (h : Keeps s₀ s) : Keeps s₀ s.lostCommit := .ite h.record.irq.count h
theorem Keeps.tagEnabled (h : Keeps s₀ s) : Keeps s₀ s.tagEnabled := (Keeps.ite h.modeLog h).lostCommit.syncTag
theorem Keeps.flcEnabled (h : Keeps s₀ s) : Keeps s₀ s.flcEnabled := h.put

theorem Keeps.sknEnabled (h : Keeps s₀ s) : Keeps s₀ s.sknEnabled :=
  (Keeps.foldl h.update fun _ _ h => h.wr.put.wr).put.alone

theorem Keeps.esmEnabled (h : Keeps s₀ s) : Keeps s₀ s.esmEnabled := by
  have hs : Keeps s₀ { s with esm := { s.esm with
      entries := s.esm.entries.filter (fun x => bankOn s x.1)
      bad := s.esm.bad.filter (bankOn s)
      dueAt := s.now + s.get F.ESM_CKPT_INTERVAL_MIN * 60 * secondU } } :=
    h.step rfl fun ⟨hr, hh, ha, hc, hm, hl, he, hrest⟩ => ⟨hr, hh, ha, hc, hm, hl, Sparse.filter_wf he _, hrest⟩
  exact .ite hs.put.put.put.indexWrite hs.put.put.put

theorem Keeps.macEnabled (h : Keeps s₀ s) : Keeps s₀ s.macEnabled :=
  .ite h.dropOwn.put.update.trackState.scanFrom h.dropOwn.put.update.trackState

theorem Keeps.chnEnabled (h : Keeps s₀ s) : Keeps s₀ s.chnEnabled := h.update.put.put.coverage

theorem Keeps.murEnabled (h : Keeps s₀ s) : Keeps s₀ s.murEnabled :=
  (Keeps.foldl h fun _ _ h => h.clearLane).update.syncLoad.coverage

theorem Keeps.fixedGains (h : Keeps s₀ s) : Keeps s₀ s.fixedGains := .foldl h fun _ _ h => (Keeps.ite h.put h)
theorem Keeps.rfeEnabled (h : Keeps s₀ s) : Keeps s₀ s.rfeEnabled := h.fixedGains.put.update.syncFem

theorem Keeps.bellowsEnabled (h : Keeps s₀ s) : Keeps s₀ s.bellowsEnabled :=
  (Keeps.ite (.foldl h fun _ _ h => h.put) h).clearRun.update.update.startPeriod

theorem Keeps.hreEnabled (h : Keeps s₀ s) : Keeps s₀ s.hreEnabled := h.put.update

theorem Keeps.onEnabled {b} (h : Keeps s₀ s) : Keeps s₀ (s.onEnabled b) :=
  .ite h.hreEnabled (.ite h.bellowsEnabled (.ite h.rfeEnabled (.ite h.update.seats (.ite h.murEnabled (.ite
    h.chnEnabled (.ite h.macEnabled (.ite h.esmEnabled (.ite h.sknEnabled (.ite h.flcEnabled (.ite h.tagEnabled (.ite
    h.drivePads.drivePads (.ite h.evfEnabled h))))))))))))

theorem Keeps.checkDone {b} (h : Keeps s₀ s) : Keeps s₀ (s.checkDone b) := by
  refine .ite h ?_
  dsimp only
  split
  · exact Keeps.checkRefused (by split; exacts [h.put.put, h.put])
  · exact h.put.put.put.put.wr.clearCounters.onEnabled

theorem Keeps.flushMsix (h : Keeps s₀ s) : Keeps s₀ s.flushMsix := .foldl h fun _ _ h => (Keeps.ite h.sendMsix h)

theorem Keeps.bar2Write {off v} (h : Keeps s₀ s) : Keeps s₀ (s.bar2Write off v) := by
  unfold State.bar2Write
  refine .ite h.doorbell (.ite (Keeps.flushMsix (h.step rfl ?_)) h)
  exact fun ⟨hr, hh, ha, hc, hm, hl, he, hk, ht, hp⟩ => ⟨hr, hh, ha, hc, hm, hl, he, hk, Sparse.set_wf ht _ _, hp⟩

theorem Keeps.configWrite {off v} (h : Keeps s₀ s) : Keeps s₀ (s.configWrite off v) := by
  unfold State.configWrite
  refine .ite ?_ (Keeps.flushMsix (h.step rfl ?_))
  · exact Keeps.update (.ite h.hostReset h)
  · exact fun ⟨hr, hh, ha, hc, hm, hl, he, hk, ht, hp⟩ => ⟨hr, hh, ha, hc, hm, hl, he, hk, ht, Sparse.set_wf hp _ _⟩

theorem Keeps.hostWindow {a v} (h : Keeps s₀ s) : Keeps s₀ (s.hostWindow a v) := by
  unfold State.hostWindow
  split
  exacts [h.configWrite, Keeps.ite h h.bar2Write, h]

theorem Keeps.ifBit {v b f} (h : Keeps s₀ s) (hf : Keeps s₀ (f s)) : Keeps s₀ (s.ifBit v b f) := .ite hf h

theorem Keeps.writeSec {a v} (h : Keeps s₀ s) : Keeps s₀ (s.writeSec a v) :=
  .ite h.fresh.alarmClear (.ite (h.ifBit h.keyRestore) (.ite h.writeByCode.put h.writeByCode))

theorem Keeps.writePer {a v} (h : Keeps s₀ s) : Keeps s₀ (s.writePer a v) := by
  unfold State.writePer
  split
  · exact h.writeLatches
  · exact h.writeLatches
  · split
    · exact h.writeLatches
    · split
      exacts [h.uartWrite, h.spiWrite, h.i2cData, h.i2cGo, h.writeByCode]

theorem Keeps.writePlic {req a v} (h : Keeps s₀ s) : Keeps s₀ (s.writePlic req a v) := by
  unfold State.writePlic
  split
  exacts [h.plicComplete, Keeps.ite h (.foldl h.writeByCode fun _ _ h => h.wakeCore)]

theorem Keeps.coreWdtWrite {v} (h : Keeps s₀ s) : Keeps s₀ (s.coreWdtWrite v) :=
  (Keeps.ite (.ite (Keeps.ite h h.put).put (.ite h h.put)) (Keeps.ite (Keeps.ite h h.put).put (.ite h
    h.put)).update).syncWatchdogs

theorem Keeps.writeCpx {req a v} (h : Keeps s₀ s) : Keeps s₀ (s.writeCpx req a v) :=
  .ite (h.debugMuteWrite.ifBit h.debugMuteWrite.endSession) (.ite (.foldl h.writeByCode fun _ _ hx => hx.wakeCore)
    (.ite h.coreWdtWrite (.ite h.coreKick (.ite h.writePlic h.writeByCode))))

theorem Keeps.writeTmb {a v} (h : Keeps s₀ s) : Keeps s₀ (s.writeTmb a v) := by
  unfold State.writeTmb
  refine .ite (h.timerGroup fun _ _ hx => hx.timerStart) (.ite (h.timerGroup fun _ _ hx => hx.timerStop)
    (.ite (h.timerGroup fun _ _ hx => hx.timerReload) (.ite h.stagger ?_)))
  split
  · exact h.timerCtl
  · exact h.writeByCode

theorem Keeps.writeEvf {a v} (h : Keeps s₀ s) : Keeps s₀ (s.writeEvf a v) := by
  refine .ite h.grpSet (.ite h.grpClr ?_)
  split
  exacts [h.swfire, Keeps.ite h.pubSubWrite h.writeByCode]

theorem Keeps.writeUpdCtl {req v} (h : Keeps s₀ s) : Keeps s₀ (s.writeUpdCtl req v) := by
  have h0 := h.ifBit (v := v) (b := 0) h.activate
  have h1 := h0.ifBit (v := v) (b := 1) (f := fun x => x.handover req) h0.handover
  have h2 := h1.ifBit (v := v) (b := 2) (f := fun x => x.alive req) h1.alive
  have h3 := h2.ifBit (v := v) (b := 3) (f := fun x => x.confirm req) h2.confirm
  have h4 := h3.ifBit (v := v) (b := 4) (f := fun x => if x.en Blk.UPD then x.requestRevert else x)
    (.ite h3.requestRevert h3)
  exact h4.ifBit h4.abandon

theorem Keeps.writeFlc {req a v} (h : Keeps s₀ s) : Keeps s₀ (s.writeFlc req a v) :=
  .ite h.put.startWaiting (.ite h.directGo h.writeByCode)

theorem Keeps.writeEsm {a v} (h : Keeps s₀ s) : Keeps s₀ (s.writeEsm a v) :=
  .ite ((h.ifBit h.ckptNow).ifBit (h.ifBit h.ckptNow).close) (.ite h.writeByCode.put h.writeByCode)

theorem Keeps.writeMac {a v} (h : Keeps s₀ s) : Keeps s₀ (s.writeMac a v) :=
  .ite h (.ite h.writeByCode.regionLoad h.writeByCode)

theorem Keeps.writeChn {a v} (h : Keeps s₀ s) : Keeps s₀ (s.writeChn a v) := by
  refine .ite h.cellWrite ?_
  split
  exacts [Keeps.ite h h.writeByCode, h.writeByCode]

theorem Keeps.writeRfe {a v} (h : Keeps s₀ s) : Keeps s₀ (s.writeRfe a v) := by
  have hu : Keeps s₀ (if bits v.toNat 2 2 = 0 ∧ s.on F.RFE_FIR_CTL_LOCK then s.firUnlock else s) := .ite h.firUnlock h
  exact .ite (h.writeByCode.ifBit h.writeByCode.antennaRetry) (.ite (hu.ifBit hu.firCheck) (.ite h.writeByCode.fixedGains
    (.ite (h.writeByCode.ifBit h.writeByCode.captureStart) (.ite h h.writeByCode))))

theorem Keeps.writeRing {n a v} (h : Keeps s₀ s) : Keeps s₀ (s.writeRing n a v) :=
  .ite (.ite h.ringEnable h) (.ite (.ite h.put.put.put.put.ringEnable h.put.put.put.put.ringDisable) (.ite h
    h.writeByCode))

theorem Keeps.writeHre {a v} (h : Keeps s₀ s) : Keeps s₀ (s.writeHre a v) := by
  refine .ite h.setQuench ?_
  split
  exacts [h.doorbell, Keeps.ite h.writeRing h.writeByCode]

theorem Keeps.writeBlw {a v} (h : Keeps s₀ s) : Keeps s₀ (s.writeBlw a v) := by
  unfold State.writeBlw
  refine .ite (h.ifBit h.commitModel) (.ite h.setStore ?_)
  split
  exacts [h, h.writeByCode.put, h.writeByCode.put, h.writeByCode]

theorem Keeps.writeSys {a v} (h : Keeps s₀ s) : Keeps s₀ (s.writeSys a v) :=
  .ite h.sysCtlWrite (.ite h.sysWdtWrite (.ite h.wdtKick (.ite h.supCfgWrite (.ite h.powerRequest h.writeByCode))))

theorem Keeps.writeBlkCtl {b v} (h : Keeps s₀ s) : Keeps s₀ (s.writeBlkCtl b v) :=
  .ite h.enable (.ite h.abandonCheck h.disable)

theorem Keeps.writeReg {req a v} (h : Keeps s₀ s) : Keeps s₀ (s.writeReg req a v) := by
  unfold State.writeReg
  refine .ite h.writeBlkCtl ?_
  split
  · exact h.writeSys
  · exact h.writeSys
  · exact h.writeBlw
  · exact h.writeHre
  · exact h.writeRfe
  · exact h.writeChn
  · exact h.writeMac
  · exact h.writeEsm
  · exact .ite (h.ifBit h.txfcRestart) h.writeByCode
  · exact .ite ((h.ifBit (f := fun x => x.setSquench false) h.setSquench).ifBit (h.ifBit h.setSquench).unblock) h.writeByCode
  · exact h.writeFlc
  · exact .ite h.writeUpdCtl h.writeByCode
  · exact .ite (h.ifBit h.unquiet) h.writeByCode
  · exact h.writeEvf
  · exact h.writeTmb
  · exact h.writeCpx
  · exact h.writePer
  · exact .ite (h.ifBit h.hkaStart) h.writeByCode
  · exact h.writeSec
  · exact h.writeByCode

theorem Keeps.access {req a v whole} (h : Keeps s₀ s) : Keeps s₀ (s.access req a v whole) :=
  .ite h (.ite (.ite h (.ite (.ite h h.writeReg) h.hostWindow)) (.ite h.dmiAccess (.ite h.faultOn (.ite (.ite
    h.writeReg h.faultOn) (.ite h.sramWrite (.ite h.esmWindow h))))))

/-- Every command answers, and what it answers keeps the queue behind it and the canonical form. -/
theorem exec_keeps (c : Instr) (s : State) : ∃ r, exec c s = .next r ∧ Keeps s r := by
  have h {t : Nat} : Keeps s (s.at t) := (Keeps.refl s).at
  cases c with
  | registerWrite => exact ⟨_, rfl, h.access⟩
  | blockEnable => exact ⟨_, rfl, h.enable⟩
  | enableCheckDone => exact ⟨_, rfl, h.checkDone⟩
  | checkAbandoned => exact ⟨_, rfl, h.abandonCheck⟩
  | blockDisable => exact ⟨_, rfl, h.disable⟩
  | flcReady => exact ⟨_, rfl, h.flcReady⟩
  | calibrationDone => exact ⟨_, rfl, h.calibrated⟩
  | ringEnable => exact ⟨_, rfl, h.ringEnable⟩
  | ringDisable => exact ⟨_, rfl, h.ringDisable⟩
  | doorbell => exact ⟨_, rfl, h.doorbell⟩
  | descriptorFetch => exact ⟨_, rfl, h.fetch⟩
  | admission => exact ⟨_, rfl, h.admitNext⟩
  | completionWrite => exact ⟨_, rfl, h.writeCompletion⟩
  | modTimeExpiry => exact ⟨_, rfl, h.modTime⟩
  | eventRecordWrite => exact ⟨_, rfl, h.eventRecord⟩
  | hostReset => exact ⟨_, rfl, h.hostReset⟩
  | quenchSet => exact ⟨_, rfl, h.setQuench⟩
  | quenchClear => exact ⟨_, rfl, h.setQuench⟩
  | nop => exact ⟨_, rfl, h.onFetched fun _ _ hx => hx.done⟩
  | cancel => exact ⟨_, rfl, h.onFetched fun _ _ hx => hx.cancelItem⟩
  | quench => exact ⟨_, rfl, h.onFetched fun _ _ hx => hx.quenchItem⟩
  | fenceAll => exact ⟨_, rfl, h.onFetched fun _ _ hx => hx.fenceAll⟩
  | fenceAllDone => exact ⟨_, rfl, h.fenceDone⟩
  | bankSwap => exact ⟨_, rfl, h.swapReaches⟩
  | bankSwapEffect => exact ⟨_, rfl, h.swapEffect⟩
  | timeSetStep => exact ⟨_, rfl, h.onTimeSet fun _ _ hx => hx.timeStep⟩
  | timeSetSlew => exact ⟨_, rfl, h.onTimeSet fun _ _ hx => hx.timeSlew⟩
  | txFrame => exact ⟨_, rfl, h.onFetched fun _ _ hx => hx.nativeTx⟩
  | tx154 => exact ⟨_, rfl, h.onFetched fun _ _ hx => hx.tx154⟩
  | txBeacon => exact ⟨_, rfl, h.onFetched fun _ _ hx => hx.nativeTx⟩
  | txAckBeacon => exact ⟨_, rfl, h.onFetched fun _ _ hx => hx.nativeTx⟩
  | txLegacy => exact ⟨_, rfl, h.onFetched fun _ _ hx => hx.nativeTx⟩
  | rxWindow => exact ⟨_, rfl, h.onFetched fun _ _ hx => hx.rxWindow⟩
  | rxBuffer => exact ⟨_, rfl, h.onFetched fun _ _ hx => hx.postBuffer⟩
  | lbtListen => exact ⟨_, rfl, h.listen⟩
  | txStart => exact ⟨_, rfl, h.startTx⟩
  | txEnd => exact ⟨_, rfl, h.endTx⟩
  | rxWindowOpen => exact ⟨_, rfl, h.rxOpen⟩
  | rxWindowClose => exact ⟨_, rfl, h.rxClose⟩
  | rxWindowFinal => exact ⟨_, rfl, h.rxFinal⟩
  | flashItemIssue => exact ⟨_, rfl, h.flashIssue.ckptNext⟩
  | slotBoundary => exact ⟨_, rfl, h.slotBoundary⟩
  | lockstepMismatch => exact ⟨_, rfl, h.mismatch⟩
  | restoreComplete => exact ⟨_, rfl, h.restored⟩
  | scheduleEccError => exact ⟨_, rfl, h.eccError⟩
  | cellWrite => exact ⟨_, rfl, h.cellWrite⟩
  | regionPresetLoad => exact ⟨_, rfl, h.regionLoad⟩
  | droneBeaconSubmit => exact ⟨_, rfl, h.droneBeacon⟩
  | recoveryTimeout => exact ⟨_, rfl, h.recoveryTimeout⟩
  | acquireScanExpiry => exact ⟨_, rfl, h.scanExpiry⟩
  | orphanRetryExpiry => exact ⟨_, rfl, h.orphanExpiry⟩
  | txfcRefillDone => exact ⟨_, rfl, h.txfcRefill⟩
  | nonceRefillDone => exact ⟨_, rfl, h.nonceRefill⟩
  | energyWindowEnd => exact ⟨_, rfl, h.energyWindows⟩
  | preambleQualified => exact ⟨_, rfl, h.qualified⟩
  | captureRelock => exact ⟨_, rfl, h.relock⟩
  | syncAccepted => exact ⟨_, rfl, h.synced⟩
  | syncLost => exact ⟨_, rfl, h.syncLost⟩
  | headerDecoded => exact ⟨_, rfl, h.headerDecoded⟩
  | frameEnd => exact ⟨_, rfl, h.frameEnd⟩
  | ieee154FrameEnd => exact ⟨_, rfl, h.frameEnd154⟩
  | sicJobStart => exact ⟨_, rfl, h.sicStart⟩
  | sicSubtractionDone => exact ⟨_, rfl, h.sicSubtracted⟩
  | residueScanDone => exact ⟨_, rfl, h.sicScanned⟩
  | residueAgeExpiry => exact ⟨_, rfl, h.residueAge⟩
  | agcGainStep => exact ⟨_, rfl, h.gainStep⟩
  | captureStart => exact ⟨_, rfl, h.captureStart⟩
  | captureDone => exact ⟨_, rfl, h.captureDone⟩
  | capDataRead => exact ⟨_, rfl, h.capDataRead⟩
  | firCheck => exact ⟨_, rfl, h.firCheck⟩
  | firCheckDone => exact ⟨_, rfl, h.firCheckDone⟩
  | firUnlock => exact ⟨_, rfl, h.firUnlock⟩
  | antennaFault => exact ⟨_, rfl, h.antennaFault⟩
  | antennaRetry => exact ⟨_, rfl, h.antennaRetry⟩
  | synthUnlock => exact ⟨_, rfl, h.synthUnlock⟩
  | bandReselect => exact ⟨_, rfl, h.bandReselect⟩
  | recalDueExpiry => exact ⟨_, rfl, h.recalDue⟩
  | esmAccess => exact ⟨_, rfl, h.esmAccess⟩
  | esmScrub => exact ⟨_, rfl, h.esmScrub⟩
  | checkpointTimer => exact ⟨_, rfl, h.ckptTimer⟩
  | ckptNow => exact ⟨_, rfl, h.ckptNow⟩
  | close => exact ⟨_, rfl, h.close⟩
  | checkpointDone => exact ⟨_, rfl, h.ckptDone⟩
  | checkpointRetry => exact ⟨_, rfl, h.ckptRetry⟩
  | esmRestore => exact ⟨_, rfl, h.esmRestore⟩
  | joinRequest => exact ⟨_, rfl, h.joinRequest⟩
  | joinAcceptDone => exact ⟨_, rfl, h.joinEnd⟩
  | directoryCompaction => exact ⟨_, rfl, h.compact⟩
  | lookupEui => exact ⟨_, rfl, h.onService fun _ _ hx => hx.svcLookupEui⟩
  | lookupIndex => exact ⟨_, rfl, h.onService fun _ _ hx => hx.svcLookupIndex⟩
  | suspend => exact ⟨_, rfl, h.onService fun _ _ hx => hx.svcChange⟩
  | resume => exact ⟨_, rfl, h.onService fun _ _ hx => hx.svcChange⟩
  | revoke => exact ⟨_, rfl, h.onService fun _ _ hx => hx.svcChange⟩
  | delete => exact ⟨_, rfl, h.onService fun _ _ hx => hx.svcChange⟩
  | checkpoint => exact ⟨_, rfl, h.onService fun _ _ hx => hx.svcCheckpoint⟩
  | stats => exact ⟨_, rfl, h.onService fun _ _ hx => hx.svcStats⟩
  | ownerSet => exact ⟨_, rfl, .ite h (h.onService fun _ _ hx => hx.ownerSet)⟩
  | cryOp => exact ⟨_, rfl, h.onFetched fun _ _ hx => hx.cryOp⟩
  | cipherRequestDone => exact ⟨_, rfl, h.cipherDone⟩
  | keyImport => exact ⟨_, rfl, h.onFetched fun _ _ hx => hx.keyImport⟩
  | sigSign => exact ⟨_, rfl, h.onFetched fun _ _ hx => hx.sigSign⟩
  | sigVerify => exact ⟨_, rfl, h.onFetched fun _ _ hx => hx.sigVerify⟩
  | hash => exact ⟨_, rfl, h.onFetched fun _ _ hx => hx.hashOp⟩
  | sigOperationDone => exact ⟨_, rfl, h.sigDone⟩
  | attestReport => exact ⟨_, rfl, h.onAttest⟩
  | attestChain => exact ⟨_, rfl, h.onAttest⟩
  | txfcRestart => exact ⟨_, rfl, h.txfcRestart⟩
  | alarm => exact ⟨_, rfl, h.alarm⟩
  | alarmClear => exact ⟨_, rfl, h.alarmClear⟩
  | keyRestore => exact ⟨_, rfl, h.keyRestore⟩
  | keyRestoreDone => exact ⟨_, rfl, h.restoreDone⟩
  | lineTest => exact ⟨_, rfl, h.lineTest⟩
  | lineShortDetect => exact ⟨_, rfl, h.lineShort⟩
  | rateFallback => exact ⟨_, rfl, h.rateFallback⟩
  | skeinFrameBoundary => exact ⟨_, rfl, h.frameBoundary⟩
  | timeMarkReceived => exact ⟨_, rfl, h.timeMark⟩
  | linkUp => exact ⟨_, rfl, h.bringUp⟩
  | linkDown => exact ⟨_, rfl, h.linkDown⟩
  | eventCellReceived => exact ⟨_, rfl, h.eventCell⟩
  | delayRecord => exact ⟨_, rfl, h.delayRecord⟩
  | electRecord => exact ⟨_, rfl, h.electRecord⟩
  | enumRecord => exact ⟨_, rfl, .ite h.enumIn h⟩
  | pruneRecord => exact ⟨_, rfl, .ite h.prune h⟩
  | quenchRecord => exact ⟨_, rfl, .ite h.quenchIn h⟩
  | enumRefresh => exact ⟨_, rfl, h.enumRefresh⟩
  | memberTimeout => exact ⟨_, rfl, h.memberTimeout⟩
  | incumbency => exact ⟨_, rfl, h.incumbency⟩
  | electionSettled => exact ⟨_, rfl, h.settleElection⟩
  | orphanTimeout => exact ⟨_, rfl, h.orphanTimeout⟩
  | sknSend => exact ⟨_, rfl, h.onFetched fun _ _ hx => hx.sknSend⟩
  | sknRemoteReset => exact ⟨_, rfl, h.onFetched fun _ _ hx => hx.sknRemoteReset⟩
  | skeinDepart => exact ⟨_, rfl, h.skeinDepart⟩
  | skeinMessageReceived => exact ⟨_, rfl, h.messageIn⟩
  | skeinAckReceived => exact ⟨_, rfl, h.ackIn⟩
  | ackTimeout => exact ⟨_, rfl, h.ackTimeout⟩
  | holdExpiry => exact ⟨_, rfl, h.holdExpiry⟩
  | remoteResetReceived => exact ⟨_, rfl, h.resetIn⟩
  | remoteResetExecute => exact ⟨_, rfl, h.resetExecute⟩
  | unblock => exact ⟨_, rfl, h.unblock⟩
  | quenchRelease => exact ⟨_, rfl, h.setSquench⟩
  | commit => exact ⟨_, rfl, h.commitModel⟩
  | storeWrite => exact ⟨_, rfl, h.setStore⟩
  | budgetPeriodStart => exact ⟨_, rfl, h.budgetPeriod⟩
  | harvestHourEnd => exact ⟨_, rfl, h.harvestHour⟩
  | supplyWarning => exact ⟨_, rfl, h.supplyWarning⟩
  | warningClear => exact ⟨_, rfl, h.warningClear⟩
  | economyHoldEnd => exact ⟨_, rfl, h.holdEnd⟩
  | flRead => exact ⟨_, rfl, h.onFetched fun _ _ hx => h.flRead hx⟩
  | flProgram => exact ⟨_, rfl, h.onFetched fun _ _ hx => hx.flProgram⟩
  | flErase => exact ⟨_, rfl, h.onFetched fun _ _ hx => hx.flErase⟩
  | flCounter => exact ⟨_, rfl, h.onFetched fun _ _ hx => hx.flCounter⟩
  | directProgram => exact ⟨_, rfl, h.directGo⟩
  | directErase => exact ⟨_, rfl, h.directGo⟩
  | flashOpDone => exact ⟨_, rfl, h.flashOpEnd.ckptNext⟩
  | flashSuspend => exact ⟨_, rfl, h.flashSuspend⟩
  | flashResume => exact ⟨_, rfl, h.flashResume⟩
  | flashOccupancyStop => exact ⟨_, rfl, h.occupancyStop⟩
  | scrubRefresh => exact ⟨_, rfl, h.scrub⟩
  | execLockWrite => exact ⟨_, rfl, h.put.startWaiting⟩
  | boot => exact ⟨_, rfl, h.boot⟩
  | imagePieceManifest => exact ⟨_, rfl, h.onPiece fun _ _ _ _ hx => hx.pieceManifest⟩
  | imagePieceHash => exact ⟨_, rfl, h.onPiece fun _ _ _ _ hx => hx.pieceHash⟩
  | imagePieceData => exact ⟨_, rfl, h.onPiece fun _ _ _ _ hx => hx.pieceData⟩
  | stagingCheckDone => exact ⟨_, rfl, h.stagingCheck⟩
  | activate => exact ⟨_, rfl, h.activate⟩
  | handover => exact ⟨_, rfl, h.handover⟩
  | alive => exact ⟨_, rfl, h.alive⟩
  | confirm => exact ⟨_, rfl, h.confirm⟩
  | revert => exact ⟨_, rfl, .ite h.requestRevert h⟩
  | abandon => exact ⟨_, rfl, h.abandon⟩
  | quiesceTimeout => exact ⟨_, rfl, h.quiesceTimeout⟩
  | aliveTimeout => exact ⟨_, rfl, .ite h.deviceReset h⟩
  | trialExpiry => exact ⟨_, rfl, .ite h.requestRevert.syncUpd h⟩
  | distStart => exact ⟨_, rfl, h.onDist fun _ _ _ hx => hx.distStart⟩
  | distStop => exact ⟨_, rfl, h.onDist fun _ _ _ hx => hx.distStop⟩
  | distStatus => exact ⟨_, rfl, h.onDist fun _ _ _ hx => hx.distReply⟩
  | distClear => exact ⟨_, rfl, h.onDist fun _ _ _ hx => hx.distClear⟩
  | distCarouselFrame => exact ⟨_, rfl, .ite h.carousel h⟩
  | distSnapshot => exact ⟨_, rfl, .ite h.distSnapshot h⟩
  | reqa => exact ⟨_, rfl, h.reqa⟩
  | anticollision => exact ⟨_, rfl, h.anticollision⟩
  | select => exact ⟨_, rfl, h.selectUid⟩
  | rats => exact ⟨_, rfl, h.rats⟩
  | pps => exact ⟨_, rfl, h.pps⟩
  | deselect => exact ⟨_, rfl, h.deselect⟩
  | ndefSelect => exact ⟨_, rfl, h.ndefSelect⟩
  | readBinary => exact ⟨_, rfl, h.readBinary⟩
  | updateBinary => exact ⟨_, rfl, .ite h.respond h⟩
  | writeBegin => exact ⟨_, rfl, h.vendorApdu h.writeBegin⟩
  | writeData => exact ⟨_, rfl, h.vendorApdu h.writeData⟩
  | writeCommit => exact ⟨_, rfl, h.vendorApdu h.writeCommit⟩
  | writeAbort => exact ⟨_, rfl, h.vendorApdu h.writeAbort⟩
  | tagStatus => exact ⟨_, rfl, h.vendorApdu h.statusApdu⟩
  | fieldOn => exact ⟨_, rfl, h.fieldOn⟩
  | fieldOff => exact ⟨_, rfl, .ite h.fieldLost h⟩
  | quietExpiry => exact ⟨_, rfl, .ite h h.put⟩
  | unquiet => exact ⟨_, rfl, h.unquiet⟩
  | coilTest => exact ⟨_, rfl, h.coilTest⟩
  | eventFire => exact ⟨_, rfl, h.eventFire⟩
  | swfire => exact ⟨_, rfl, h.swfire⟩
  | grpSet => exact ⟨_, rfl, h.grpSet⟩
  | grpClr => exact ⟨_, rfl, h.grpClr⟩
  | pubSubWrite => exact ⟨_, rfl, h.pubSubWrite⟩
  | timerTick => exact ⟨_, rfl, .ite h h.timerTick⟩
  | gstart => exact ⟨_, rfl, h.timerGroup fun _ _ hx => hx.timerStart⟩
  | gstop => exact ⟨_, rfl, h.timerGroup fun _ _ hx => hx.timerStop⟩
  | greload => exact ⟨_, rfl, h.timerGroup fun _ _ hx => hx.timerReload⟩
  | stagger => exact ⟨_, rfl, h.stagger⟩
  | timerCtlWrite => exact ⟨_, rfl, .ite h h.timerCtl⟩
  | oscStartDelayEnd => exact ⟨_, rfl, h.startDelayEnd⟩
  | clockMonitorTrip => exact ⟨_, rfl, h.clockTrip⟩
  | rcTrim => exact ⟨_, rfl, h.trim⟩
  | pllUnlock => exact ⟨_, rfl, h.pllUnlock⟩
  | dspPllUnlock => exact ⟨_, rfl, h.dspUnlock⟩
  | pllRelock => exact ⟨_, rfl, h.pllRelock⟩
  | relockTimeout => exact ⟨_, rfl, h.relockTimeout⟩
  | chanterWake => exact ⟨_, rfl, h.chanterWake⟩
  | brownOut => exact ⟨_, rfl, h.brownOut⟩
  | overvoltage => exact ⟨_, rfl, h.overvoltage⟩
  | powerOn => exact ⟨_, rfl, h.releaseSupply⟩
  | vioFault => exact ⟨_, rfl, h.vioFault⟩
  | vioRetry => exact ⟨_, rfl, h.vioRetry⟩
  | warnWrite => exact ⟨_, rfl, h.supCfgWrite⟩
  | sleepRequest => exact ⟨_, rfl, h.powerRequest⟩
  | hibernateRequest => exact ⟨_, rfl, h.powerRequest⟩
  | powerRequestCancel => exact ⟨_, rfl, h.powerRequest⟩
  | powerStateEntry => exact ⟨_, rfl, h.enterPower⟩
  | wake => exact ⟨_, rfl, h.wake⟩
  | resetPin => exact ⟨_, rfl, h.resetPin⟩
  | resetPinLong => exact ⟨_, rfl, h.resetPinLong⟩
  | deviceReset => exact ⟨_, rfl, .ite h h.deviceReset⟩
  | applicationReset => exact ⟨_, rfl, .ite h.appReset h⟩
  | softReset => exact ⟨_, rfl, h.sysCtlWrite⟩
  | softAppReset => exact ⟨_, rfl, h.sysCtlWrite⟩
  | wdtKick => exact ⟨_, rfl, h.wdtKick⟩
  | wdtHalf => exact ⟨_, rfl, h.wdtHalf⟩
  | wdtSystem => exact ⟨_, rfl, h.wdtSystem⟩
  | wdtLock => exact ⟨_, rfl, .ite h.sysWdtWrite h⟩
  | coreWdtKick => exact ⟨_, rfl, h.coreKick⟩
  | wdtCore => exact ⟨_, rfl, h.wdtCore⟩
  | outputShort => exact ⟨_, rfl, h.outputShort⟩
  | doubleFault => exact ⟨_, rfl, h.doubleFault⟩
  | submit => exact ⟨_, rfl, h.submit⟩
  | wait => exact ⟨_, rfl, h.waitCall⟩
  | yield => exact ⟨_, rfl, .ite h.callResult h⟩
  | partitionFault => exact ⟨_, rfl, h.partitionFault⟩
  | debugChallenge => exact ⟨_, rfl, h.debugChallenge⟩
  | debugAuth => exact ⟨_, rfl, h.debugAuth⟩
  | debugAuthDone => exact ⟨_, rfl, h.debugAuthDone⟩
  | dmiAccess => exact ⟨_, rfl, h.dmiAccess⟩
  | debugHalt => exact ⟨_, rfl, h.debugHalt⟩
  | debugMuteWrite => exact ⟨_, rfl, h.debugMuteWrite⟩
  | endSession => exact ⟨_, rfl, h.endSession⟩
  | plicClaim => exact ⟨_, rfl, h.plicClaim⟩
  | plicComplete => exact ⟨_, rfl, h.plicComplete⟩
  | gpioEdge => exact ⟨_, rfl, h.gpioEdge⟩
  | uartDataWrite => exact ⟨_, rfl, h.uartWrite⟩
  | uartDataRead => exact ⟨_, rfl, h.uartRead⟩
  | uartReceive => exact ⟨_, rfl, h.uartReceive⟩
  | spiDataWrite => exact ⟨_, rfl, h.spiWrite⟩
  | spiDataRead => exact ⟨_, rfl, h.spiRead⟩
  | i2cGo => exact ⟨_, rfl, h.i2cGo⟩
  | i2cDataAccess => exact ⟨_, rfl, h.i2cData⟩
  | i2cCommandEnd => exact ⟨_, rfl, h.i2cEnd⟩
  | tamperTest => exact ⟨_, rfl, h.tamperTest⟩
  | hkaStart => exact ⟨_, rfl, h.hkaStart⟩
  | hkaSequenceDone => exact ⟨_, rfl, h.hkaDone⟩
  | cbDataRead => exact ⟨_, rfl, h.cbDataRead⟩
  | pcieLinkUp => exact ⟨_, rfl, h.linkTrained⟩
  | wfi => exact ⟨_, rfl, h.waitForInterrupt⟩
  | meterSample => exact ⟨_, rfl, h.meterSample⟩
  | guardTimeMet => exact ⟨_, rfl, h.guardMet⟩
  | shrDetected => exact ⟨_, rfl, h.shrDetected⟩
  | synthRelock => exact ⟨_, rfl, h.synthRelock⟩
  | debugResume => exact ⟨_, rfl, h.debugResume⟩
  | waitTimeout => exact ⟨_, rfl, h.waitEnd⟩
  | spiFrameEnd => exact ⟨_, rfl, h.spiEnd⟩
  | uartByteSent => exact ⟨_, rfl, h.uartSent⟩
  | aonLoss => exact ⟨_, rfl, h.aonLost⟩
  | lockAtRate => exact ⟨_, rfl, h.lockAtRate⟩
  | aggregatedCopyDelivery => exact ⟨_, rfl, h.mergedCopy⟩
  | lowerWordRead => exact ⟨_, rfl, h.lowerWordRead⟩

/-- Settles O4: every command answers with a state that keeps the queue. -/
theorem commandsKeepQueue : Obligations.CommandsKeepQueue := by
  intro c s r hr
  obtain ⟨t, ht, hkeeps⟩ := exec_keeps c s
  cases ht.symm.trans hr
  exact hkeeps.1

/-- Settles O3: the front command keeps the canonical form, whatever the queue; an empty queue changes nothing. -/
theorem stepKeepsCanonical : Obligations.StepKeepsCanonical := by
  intro s t hs hstep
  unfold step at hstep
  split at hstep
  next => cases hstep; exact hs
  next c rest hfront =>
    obtain ⟨r, hr, hkeeps⟩ := exec_keeps c { s with pending := rest }
    cases hr.symm.trans hstep
    exact hkeeps.2 hs

end Sys2Proof.Machine

/-! PROOFS. Facts about interrupts, register words and folds that several statements share. -/

namespace Sys2Proof.Machine

/-! ### Interrupts and SUP_STATUS -/

/-- The fields of SUP_STATUS beside STATE. -/
def besideState (f : Fld) : Prop := f.addr = Reg.SUP_STATUS ∧ (f.lo + f.width ≤ 4 ∨ 7 ≤ f.lo)

theorem besideState_warn : besideState F.SUP_STATUS_WARN := ⟨rfl, .inl (by decide)⟩

section
variable {f : Fld} (hf : besideState f)
include hf

theorem State.wakeCore_supField (s : State) (c : Nat) : (s.wakeCore c).get f = s.get f := by
  unfold State.wakeCore
  split
  · rw [State.get_put_field _ _ _ _ (by decide) hf.2]
    rfl
  · rfl

theorem State.plic_supField (s : State) (src : Nat) : (s.plic src).get f = s.get f := by
  unfold State.plic
  split
  · rfl
  · dsimp only
    rw [foldl_keeps (p := fun x : State => x.get f) (fun x c => State.wakeCore_supField hf x c)]
    refine State.get_wr_other _ _ _ ?_
    rw [hf.1]
    simp only [Reg.SUP_STATUS, Reg.CPX_PLIC_PEND]
    omega

theorem State.vector_supField (s : State) (v src : Nat) : (s.vector v src).get f = s.get f := by
  unfold State.vector
  split
  · exact State.plic_supField hf s src
  · dsimp only
    split
    · rw [State.plic_supField hf, State.sendMsix_get]
      rfl
    · rw [State.sendMsix_get]
      rfl

/-- Raising an interrupt, which may wake a core, leaves the fields of SUP_STATUS beside STATE. -/
theorem State.irq_supField (s : State) (b mask : Nat) : (s.irq b mask).get f = s.get f := by
  unfold State.irq
  split
  · rfl
  next isr ier vec src hisr =>
    have hne : f.addr ≠ isr := by
      rw [hf.1]
      unfold isrOf at hisr
      split at hisr <;> simp only [Option.some.injEq, Prod.mk.injEq, reduceCtorEq] at hisr <;> obtain ⟨rfl, -⟩ := hisr <;> decide
    dsimp only
    split
    · exact State.get_wr_other _ _ _ hne
    · split
      · rw [State.vector_supField hf, State.get_wr_other _ _ _ hne]
      · rw [State.plic_supField hf, State.get_wr_other _ _ _ hne]

theorem State.irq_supField_on (s : State) (b mask : Nat) : (s.irq b mask).on f = s.on f := by
  rw [State.on, State.irq_supField hf, State.on]

end

/-! ### Words written by their access code -/

/-- Words with the same bits in a field have the same value there. -/
theorem Fld.value_congr {f : Fld} {v w : Word} (h : ∀ k, f.lo ≤ k → k < f.lo + f.width → v.getLsbD k = w.getLsbD k) :
    f.value v = f.value w := by
  refine Nat.eq_of_testBit_eq fun i => ?_
  unfold Fld.value
  rw [Nat.testBit_mod_two_pow, Nat.testBit_mod_two_pow, Nat.testBit_div_two_pow, Nat.testBit_div_two_pow]
  by_cases hi : i < f.width
  · have hbit := h (i + f.lo) (by omega) (by omega)
    rw [BitVec.getLsbD, BitVec.getLsbD] at hbit
    rw [hbit]
  · simp [hi]

/-- A read-write bit takes the bit written. -/
theorem codedWord_rw {d : RegDesc} {open_ : Bool} {old v : Word} {k : Nat} (hk : k < 32) (hrw : d.rw.testBit k = true)
    (hw1c : d.w1c.testBit k = false) : (codedWord d open_ old v).getLsbD k = v.getLsbD k := by
  have hm : (if open_ = true then d.rw ||| d.rwe else d.rw).testBit k = true := by
    split
    · rw [Nat.testBit_or, hrw, Bool.true_or]
    · exact hrw
  simp only [codedWord, BitVec.getLsbD_and, BitVec.getLsbD_or, BitVec.getLsbD_not, BitVec.getLsbD_ofNat, hk, hm, hw1c,
    decide_true, Bool.not_true, Bool.not_false, Bool.and_true, Bool.and_false, Bool.false_or]

/-- A bit that no access code names keeps what it was. -/
theorem codedWord_ro {d : RegDesc} {open_ : Bool} {old v : Word} {k : Nat} (hk : k < 32) (hrw : d.rw.testBit k = false)
    (hrwe : d.rwe.testBit k = false) (hw1c : d.w1c.testBit k = false) :
    (codedWord d open_ old v).getLsbD k = old.getLsbD k := by
  have hm : (if open_ = true then d.rw ||| d.rwe else d.rw).testBit k = false := by
    split
    · rw [Nat.testBit_or, hrw, hrwe, Bool.or_false]
    · exact hrw
  simp only [codedWord, BitVec.getLsbD_and, BitVec.getLsbD_or, BitVec.getLsbD_not, BitVec.getLsbD_ofNat, hk, hm, hw1c,
    decide_true, Bool.not_false, Bool.and_true, Bool.and_false, Bool.or_false]

/-- A write by access code of an address that is a register's. -/
theorem State.writeByCode_eq {s : State} {a i : Nat} {d : RegDesc} (v : Word) (hfind : regFind a = some (d, i)) :
    s.writeByCode a v = s.wr a (codedWord d (setupOpen s (blockOf a)) (s.rd a) v) := by
  rw [State.writeByCode, hfind]

/-- A write by access code changes its own register alone. -/
theorem State.writeByCode_rd (s : State) {a b : Nat} (v : Word) (hb : b ≠ a) : (s.writeByCode a v).rd b = s.rd b := by
  unfold State.writeByCode
  split
  · rfl
  · exact State.rd_wr_other _ _ hb


/-- A bit that is set stays set when others are. -/
theorem bits_or_keeps (v w : Word) {k : Nat} (hset : bits v.toNat k k = 1) : bits (v ||| w).toNat k k = 1 := by
  have hv : v.toNat.testBit k = true := by
    rw [Nat.testBit_eq_decide_div_mod_eq]
    simpa [bits] using hset
  have hor : (v ||| w).toNat.testBit k = true := by
    rw [BitVec.toNat_or, Nat.testBit_or, hv, Bool.true_or]
  rw [Nat.testBit_eq_decide_div_mod_eq] at hor
  simpa [bits] using hor

end Sys2Proof.Machine

/-! PROOFS. The reset state (R498, R539), and a write of the warning level (R492). -/

namespace Sys2Proof.Machine

/-- Settles O5: the register file of the reset state lists nothing, so each register reads its reset word. -/
theorem resetState : Obligations.ResetState := by
  refine ⟨?canonical, fun _ => rfl, rfl, rfl, rfl, rfl, ?disabled, by decide, by decide, by decide, by decide,
    ?rings⟩
  case canonical => exact ⟨rfl, rfl, rfl, rfl, rfl, rfl, rfl, rfl, rfl, rfl⟩
  case disabled => decide
  case rings => decide

/-! ### SUP_CFG and the supply warning (R359, R492, R493) -/

/-- The level code that a write of SUP_CFG gives WARN. -/
theorem codedWord_warn {d : RegDesc} {i : Nat} (hfind : regFind Reg.SUP_CFG = some (d, i)) (open_ : Bool) (old v : Word) :
    F.SUP_CFG_WARN.value (codedWord d open_ old v) = bits v.toNat 5 0 := by
  have hd : d = { off := 0x10, rw := 0x3f, rwe := 0x100, rst := 0x100 } := by
    have hrow : regFind Reg.SUP_CFG = some ({ off := 0x10, rw := 0x3f, rwe := 0x100, rst := 0x100 }, 0) := by decide
    rw [hrow] at hfind
    exact (Prod.mk.inj (Option.some.inj hfind)).1.symm
  subst hd
  have hbits : F.SUP_CFG_WARN.value (codedWord { off := 0x10, rw := 0x3f, rwe := 0x100, rst := 0x100 } open_ old v) =
      F.SUP_CFG_WARN.value v := by
    refine Fld.value_congr fun k _ hk => codedWord_rw (by simp only [F.SUP_CFG_WARN] at hk; omega) ?_ (by simp)
    simp only [F.SUP_CFG_WARN] at hk
    interval_cases k <;> rfl
  rw [hbits]
  rfl

theorem State.supCfgByCode_warn (s : State) (v : Word) :
    (s.writeByCode Reg.SUP_CFG v).get F.SUP_CFG_WARN = bits v.toNat 5 0 := by
  obtain ⟨p, hfind⟩ := Option.isSome_iff_exists.mp (show (regFind Reg.SUP_CFG).isSome = true by decide)
  rw [State.writeByCode_eq v hfind, State.get, show F.SUP_CFG_WARN.addr = Reg.SUP_CFG from rfl, State.rd_wr_same]
  exact codedWord_warn hfind _ _ _

theorem State.economyCut_rd (s : State) (a : Nat) : s.economyCut.rd a = s.rd a :=
  foldl_keeps (f := fun (x : State) (i : Item) => x.cut i.idx 4 0x0102 true) (p := fun x : State => x.rd a) (fun _ _ => rfl) _ s

theorem State.measured_rd (s : State) (mv : Nat) {a : Nat} (ha : a ≠ Reg.SUP_VSUP) : (s.measured mv).rd a = s.rd a :=
  State.rd_put_other _ _ _ ha

/-- A supply warning leaves the configuration of the supply supervisor. -/
theorem State.supplyWarning_cfg (s : State) (mv : Nat) : (s.supplyWarning mv).rd Reg.SUP_CFG = s.rd Reg.SUP_CFG := by
  have hshown : ((((s.measured mv).put F.SUP_STATUS_WARN 1).irq Blk.SUP 1).count (F.SUP_CNT_COUNT 0)).rd Reg.SUP_CFG =
      s.rd Reg.SUP_CFG := by
    rw [State.count, State.rd_put_other _ _ _ (by decide), State.irq_rd _ _ _ (by decide),
      State.rd_put_other _ _ _ (by decide), State.measured_rd _ _ (by decide)]
  have hbegun (y : State) (hy : y.rd Reg.SUP_CFG = s.rd Reg.SUP_CFG) :
      (((y.put F.BLW_STATUS_ECONOMY 1).irq Blk.BLW 1).count (F.BLW_CNT_COUNT 7)).rd Reg.SUP_CFG = s.rd Reg.SUP_CFG := by
    rw [State.count, State.rd_put_other _ _ _ (by decide), State.irq_rd _ _ _ (by decide),
      State.rd_put_other _ _ _ (by decide), hy]
  unfold State.supplyWarning
  dsimp only
  split
  · exact State.measured_rd _ _ (by decide)
  · split
    · exact (State.rd_put_other _ _ _ (by decide)).trans hshown
    · rw [State.economyCut_rd]
      split
      · exact (State.record_rd ..).trans (hbegun _ hshown)
      · exact hbegun _ hshown

/-- A supply warning below its level, or one that stands, leaves the supply in economy. -/
theorem State.supplyWarning_below {s : State} {mv : Nat} (hwarn : s.on F.SUP_STATUS_WARN = false) (hmv : mv < warnLevel s) :
    (s.supplyWarning mv).on F.BLW_STATUS_ECONOMY = true ∧ (s.supplyWarning mv).on F.SUP_STATUS_WARN = true := by
  have hshown : ((((s.measured mv).put F.SUP_STATUS_WARN 1).irq Blk.SUP 1).count (F.SUP_CNT_COUNT 0)).on
      F.SUP_STATUS_WARN = true := by
    rw [State.count, State.on_put_reg _ _ _ _ (by decide), State.irq_supField_on besideState_warn]
    exact State.on_put_one _ _ (by decide) (by decide)
  have hkept : ((((s.measured mv).put F.SUP_STATUS_WARN 1).irq Blk.SUP 1).count (F.SUP_CNT_COUNT 0)).on
      F.BLW_STATUS_ECONOMY = s.on F.BLW_STATUS_ECONOMY := by
    rw [State.count, State.on_put_reg _ _ _ _ (by decide), State.irq_on _ _ _ (by decide),
      State.on_put_reg _ _ _ _ (by decide)]
    exact State.on_of_rd (State.measured_rd _ _ (by decide))
  have hbegun (y : State) (hy : y.on F.SUP_STATUS_WARN = true) :
      (((y.put F.BLW_STATUS_ECONOMY 1).irq Blk.BLW 1).count (F.BLW_CNT_COUNT 7)).on F.BLW_STATUS_ECONOMY = true ∧
      (((y.put F.BLW_STATUS_ECONOMY 1).irq Blk.BLW 1).count (F.BLW_CNT_COUNT 7)).on F.SUP_STATUS_WARN = true := by
    refine ⟨?_, ?_⟩
    · rw [State.count, State.on_put_reg _ _ _ _ (by decide), State.irq_on _ _ _ (by decide)]
      exact State.on_put_one _ _ (by decide) (by decide)
    · rw [State.count, State.on_put_reg _ _ _ _ (by decide), State.irq_supField_on besideState_warn,
        State.on_put_reg _ _ _ _ (by decide), hy]
  unfold State.supplyWarning
  dsimp only
  rw [if_neg (by simp [hwarn, hmv])]
  split
  next hecon =>
    rw [State.on_put_field _ _ _ _ (by decide) (by decide), State.on_put_reg _ _ _ _ (by decide)]
    exact ⟨hkept.trans hecon, hshown⟩
  next =>
    rw [State.on_of_rd (State.economyCut_rd ..), State.on_of_rd (State.economyCut_rd ..)]
    split
    · rw [State.record_on, State.record_on]
      exact hbegun _ hshown
    · exact hbegun _ hshown

/-- A supply warning at its level or above only shows the measurement. -/
theorem State.supplyWarning_above {s : State} {mv : Nat} (hmv : warnLevel s ≤ mv) :
    s.supplyWarning mv = s.measured mv := by
  unfold State.supplyWarning
  simp [hmv]

/-- Settles O48: the write gives WARN its level code, and the sample is compared with that level. -/
theorem warnLevelWrite : Obligations.WarnLevelWrite := by
  refine ⟨?level, ?below, ?above, ?refused⟩
  case level =>
    rintro s x t mv v rfl hle
    have hcfg : ((s.at t).supCfgWrite v mv).get F.SUP_CFG_WARN = bits v.toNat 5 0 := by
      rw [State.supCfgWrite, if_neg (by omega)]
      exact (State.get_of_rd (State.supplyWarning_cfg _ mv)).trans (State.supCfgByCode_warn _ v)
    exact ⟨_, rfl, hcfg, by rw [warnLevel, hcfg]⟩
  case below =>
    rintro s x t mv v rfl hle hmv hwarn
    refine ⟨_, rfl, ?_⟩
    rw [State.supCfgWrite, if_neg (by omega)]
    refine State.supplyWarning_below ?_ ?_
    · exact (State.on_of_rd (State.writeByCode_rd _ v (by decide))).trans hwarn
    · rwa [warnLevel, State.supCfgByCode_warn]
  case above =>
    rintro s x t mv v rfl hle hmv
    refine ⟨_, rfl, ?_⟩
    rw [State.supCfgWrite, if_neg (by omega), State.supplyWarning_above (by rwa [warnLevel, State.supCfgByCode_warn])]
    exact State.on_of_rd ((State.measured_rd _ mv (by decide)).trans (State.writeByCode_rd _ v (by decide)))
  case refused =>
    rintro s x t mv v rfl hlt
    refine ⟨_, rfl, ?_⟩
    rw [State.supCfgWrite, if_pos hlt]
    refine ⟨?_, ?_⟩
    · rw [State.get_put_same _ _ _ (by decide)]
      exact Nat.mod_eq_of_lt (Nat.mod_lt _ (Nat.two_pow_pos _))
    · rw [State.on_put_reg _ _ _ _ (by decide)]
      exact State.on_of_rd (State.writeByCode_rd _ v (by decide))

end Sys2Proof.Machine

/-! PROOFS. The timer bank (R454 to R459): ticks, the group registers, STAGGER and writes of CTL. -/

namespace Sys2Proof.Machine

/-! ### The channels' registers -/

/-- Is an address one of the timer bank's sixteen channels? -/
def isTimerReg (a : Nat) : Prop := 0x40120100 ≤ a ∧ a < 0x40120300

theorem irqTouches_timer {a : Nat} (ha : isTimerReg a) : irqTouches Blk.TMB a = false := by
  obtain ⟨hlo, hhi⟩ := ha
  simp [irqTouches, isrOf, Blk.TMB, Reg.SUP_STATUS, Reg.CPX_PLIC_PEND, Reg.TMB_ISR]
  omega

theorem State.tmbRun_of_rd {s r : State} {n : Nat} (h : r.rd (Reg.TMB_CH_STATUS n) = s.rd (Reg.TMB_CH_STATUS n)) :
    tmbRun r n = tmbRun s n := State.on_of_rd h

theorem State.tmbRun_put_run (s : State) (n v : Nat) : tmbRun (s.put (F.TMB_CH_STATUS_RUN n) v) n = (v % 2 != 0) := by
  rw [tmbRun, State.on, State.get_put_same _ _ _ (by simp [F.TMB_CH_STATUS_RUN])]
  rfl

theorem State.count_put (s : State) (n : Nat) {v : Nat} (hv : v < 2 ^ 32) :
    (s.put (F.TMB_CH_COUNT_COUNT n) v).get (F.TMB_CH_COUNT_COUNT n) = v := by
  rw [State.get_put_same _ _ _ (by simp [F.TMB_CH_COUNT_COUNT])]
  exact Nat.mod_eq_of_lt hv

theorem State.get_lt (s : State) (f : Fld) : s.get f < 2 ^ f.width := Nat.mod_lt _ (Nat.two_pow_pos _)

/-! ### Ticks (R454, R456 to R458) -/

/-- Channel `n` with a new count, and its next tick a period of the prescaler later. -/
def State.counted (s : State) (n next : Nat) : State :=
  { s.put (F.TMB_CH_COUNT_COUNT n) next with tmb := { s.tmb with
    tickAt := modAt (fun a => a + aonU * 2 ^ s.get (F.TMB_CH_CTL_PRESC n)) s.tmb.tickAt n } }

theorem State.counted_rd (s : State) (n next : Nat) {a : Nat} (ha : a ≠ Reg.TMB_CH_COUNT n) :
    (s.counted n next).rd a = s.rd a := State.rd_put_other s _ _ ha

theorem State.counted_count (s : State) (n : Nat) {next : Nat} (hnext : next < 2 ^ 32) :
    (s.counted n next).get (F.TMB_CH_COUNT_COUNT n) = next := State.count_put s n hnext

/-- A tick that is due of a running channel. -/
def dueTick (s : State) (n : Nat) : Prop := s.en Blk.TMB = true ∧ tmbRun s n = true ∧ s.tmb.tickAt.getD n 0 ≤ s.now

theorem dueTick.passes {s : State} {n : Nat} (hdue : dueTick s n) :
    ¬ (!s.en Blk.TMB || !tmbRun s n || decide (s.now < s.tmb.tickAt.getD n 0)) = true := by
  obtain ⟨hen, hrun, htick⟩ := hdue
  rw [hen, hrun, decide_eq_false (Nat.not_lt.mpr htick)]
  decide

theorem State.timerTick_idle {s : State} {n : Nat} (hrun : tmbRun s n = false) : s.timerTick n = s := by
  unfold State.timerTick
  rw [if_pos (by simp [hrun])]

/-- Below PERIOD the count is one more. -/
theorem State.timerTick_below {s : State} {n : Nat} (hdue : dueTick s n)
    (hbelow : s.get (F.TMB_CH_COUNT_COUNT n) < s.get (F.TMB_CH_PERIOD_PERIOD n)) :
    s.timerTick n = s.counted n (s.get (F.TMB_CH_COUNT_COUNT n) + 1) ∨
    s.timerTick n = (s.counted n (s.get (F.TMB_CH_COUNT_COUNT n) + 1)).fire n := by
  unfold State.timerTick
  dsimp only
  rw [if_neg hdue.passes, if_pos hbelow, if_pos hbelow, if_neg (Nat.not_lt.mpr hbelow.le), decide_eq_false (Nat.not_le.mpr hbelow),
    Bool.false_and, if_neg Bool.false_ne_true]
  split
  · exact .inr rfl
  · exact .inl rfl

/-- The channel at its wrap: its count is 0, and the wrap's event is raised. -/
def State.wrapped (s : State) (n : Nat) : State :=
  (if 0 = s.get (F.TMB_CH_COMPARE_COMPARE n) then (s.counted n 0).fire n else s.counted n 0).fire (16 + n)

/-- Beyond PERIOD the wrap is reported as an overrun. -/
def State.overrun (s : State) (n : Nat) : State :=
  if s.get (F.TMB_CH_PERIOD_PERIOD n) < s.get (F.TMB_CH_COUNT_COUNT n) then
    ((s.wrapped n).irq Blk.TMB (2 ^ n)).put (F.TMB_CH_STATUS_REASON n) 0x1201
  else s.wrapped n

/-- At PERIOD and beyond the channel wraps, and stops if it is one-shot. -/
theorem State.timerTick_wraps {s : State} {n : Nat} (hdue : dueTick s n)
    (hwrap : s.get (F.TMB_CH_PERIOD_PERIOD n) ≤ s.get (F.TMB_CH_COUNT_COUNT n)) :
    s.timerTick n = if s.on (F.TMB_CH_CTL_ONESHOT n) then (s.overrun n).put (F.TMB_CH_STATUS_RUN n) 0 else s.overrun n := by
  have hnot : ¬ s.get (F.TMB_CH_COUNT_COUNT n) < s.get (F.TMB_CH_PERIOD_PERIOD n) := by omega
  unfold State.timerTick
  dsimp only
  rw [if_neg hdue.passes, if_neg hnot, if_neg hnot]
  simp only [hwrap, decide_true, Bool.true_and]
  rfl

theorem State.wrapped_rd (s : State) (n : Nat) {a : Nat} (ha : a ≠ Reg.TMB_CH_COUNT n) : (s.wrapped n).rd a = s.rd a := by
  unfold State.wrapped
  split <;> exact State.counted_rd s n 0 ha

theorem State.wrapped_count (s : State) (n : Nat) : (s.wrapped n).get (F.TMB_CH_COUNT_COUNT n) = 0 := by
  unfold State.wrapped
  split <;> exact State.counted_count s n (Nat.two_pow_pos 32)

theorem State.wrapped_raised (s : State) (n : Nat) : (16 + n, s.now) ∈ (s.wrapped n).evf.raised := by
  unfold State.wrapped
  split <;> exact List.mem_append_right _ (List.mem_singleton_self _)

theorem State.wrapped_items (s : State) (n : Nat) : (s.wrapped n).items = s.items := by
  unfold State.wrapped
  split <;> rfl

theorem State.overrun_count (s : State) {n : Nat} (hn : n < 16) : (s.overrun n).get (F.TMB_CH_COUNT_COUNT n) = 0 := by
  unfold State.overrun
  split
  · rw [State.get_put_reg _ _ _ _ (by simp [F.TMB_CH_STATUS_REASON, F.TMB_CH_COUNT_COUNT, Reg.TMB_CH_STATUS, Reg.TMB_CH_COUNT]),
      State.irq_get _ _ _ (irqTouches_timer (by simp only [isTimerReg, F.TMB_CH_COUNT_COUNT, Reg.TMB_CH_COUNT]; omega))]
    exact s.wrapped_count n
  · exact s.wrapped_count n

/-! ### Loading and starting a channel (R454) -/

theorem State.loadTimer_count (s : State) (n : Nat) :
    (s.loadTimer n).get (F.TMB_CH_COUNT_COUNT n) = s.get (F.TMB_CH_PHASE_PHASE n) :=
  State.count_put s n (State.get_lt s (F.TMB_CH_PHASE_PHASE n))

theorem State.loadTimer_rd (s : State) (n : Nat) {a : Nat} (ha : a ≠ Reg.TMB_CH_COUNT n) :
    (s.loadTimer n).rd a = s.rd a := State.rd_put_other s _ _ ha

/-- What a channel held as its cycle began, while no input of the cycle has come. -/
theorem snapOf_fresh {s : State} {n : Nat} (hsnap : s.tmb.snaps.getD n none = none) :
    snapOf s n = ⟨aonCycle s.now, s.get (F.TMB_CH_COUNT_COUNT n), tmbRun s n, false⟩ := by
  rw [snapOf, hsnap]

/-- START of a stopped channel, the first input of its cycle, loads PHASE and runs it. -/
theorem State.timerStart_fresh {s : State} {n : Nat} (hsnap : s.tmb.snaps.getD n none = none) (hrun : tmbRun s n = false) :
    s.timerStart n = ((s.snapTimer n).loadTimer n).put (F.TMB_CH_STATUS_RUN n) 1 := by
  rw [State.timerStart, snapOf_fresh hsnap, hrun]
  rfl

/-- The mask of one channel. -/
theorem maskChannels_single : ∀ n < 16, maskChannels (word (2 ^ n)) = [n] := by decide

theorem State.timerGroup_single {s : State} {n : Nat} (hen : s.en Blk.TMB = true) (hn : n < 16) (f : State → Nat → State) :
    s.timerGroup (word (2 ^ n)) f = f s n := by
  rw [State.timerGroup, if_pos hen, maskChannels_single n hn, List.foldl_cons, List.foldl_nil]

theorem State.timerGroup_disabled {s : State} (hen : s.en Blk.TMB = false) (v : Word) (f : State → Nat → State) :
    s.timerGroup v f = s := by
  rw [State.timerGroup, if_neg (by simp [hen])]

/-! ### Writes of CTL (R458) -/

/-- A write of CTL of a running channel keeps PRESC and reports itself. -/
theorem State.timerCtl_running {s : State} {n : Nat} (v : Word) (hn : n < 16) (hrun : tmbRun s n = true) :
    (s.timerCtl n v).get (F.TMB_CH_CTL_PRESC n) = s.get (F.TMB_CH_CTL_PRESC n) ∧
    (s.timerCtl n v).get (F.TMB_CH_STATUS_REASON n) = 0x1202 ∧
    bits ((s.timerCtl n v).rd Reg.TMB_ISR).toNat (16 + n) (16 + n) = 1 ∧ (s.timerCtl n v).items = s.items := by
  rw [State.timerCtl]
  simp only [hrun, if_true]
  refine ⟨?_, ?_, ?_, ?_⟩
  · rw [State.get_put_reg _ _ _ _ (by simp [F.TMB_CH_STATUS_REASON, F.TMB_CH_CTL_PRESC, Reg.TMB_CH_STATUS, Reg.TMB_CH_CTL]),
      State.irq_get _ _ _ (irqTouches_timer (by simp only [isTimerReg, F.TMB_CH_CTL_PRESC, Reg.TMB_CH_CTL]; omega)),
      State.get_put_field _ _ _ _ (by simp [F.TMB_CH_CTL_ONESHOT]) (by simp [F.TMB_CH_CTL_ONESHOT, F.TMB_CH_CTL_PRESC])]
  · rw [State.get_put_same _ _ _ (by simp [F.TMB_CH_STATUS_REASON])]
    rfl
  · rw [State.rd_put_other _ _ _ (by simp only [F.TMB_CH_STATUS_REASON, Reg.TMB_CH_STATUS, Reg.TMB_ISR]; omega)]
    exact State.irq_isr_bit _ (by omega) rfl (by decide) (by decide)
  · exact State.irq_items _ _ _

/-- Settles O43: each command's channel by the equation of its operation, every other one by the registers it leaves. -/
theorem timerBank : Obligations.TimerBank := by
  refine ⟨?tick, ?wrap, ?start, ?stop, ?reload, ?disabled, ?stagger, ?ctlRunning, ?ctlStopped⟩
  case tick =>
    rintro s x t n rfl hn hen hrun hdue hbelow
    have hlt := State.get_lt (s.at t) (F.TMB_CH_PERIOD_PERIOD n)
    refine ⟨_, congrArg Host.Outcome.next (if_neg (Nat.not_le.mpr hn)), ?_⟩
    have hcounted := State.counted_count (s.at t) n (next := (s.at t).get (F.TMB_CH_COUNT_COUNT n) + 1)
      (Nat.lt_of_le_of_lt hbelow hlt)
    have hruns : tmbRun ((s.at t).counted n ((s.at t).get (F.TMB_CH_COUNT_COUNT n) + 1)) n = true :=
      (State.tmbRun_of_rd (State.counted_rd _ n _ (by simp [Reg.TMB_CH_STATUS, Reg.TMB_CH_COUNT]))).trans hrun
    have hothers (k : Nat) (hk : k ≠ n) := State.counted_rd (s.at t) n ((s.at t).get (F.TMB_CH_COUNT_COUNT n) + 1)
      (a := Reg.TMB_CH_COUNT k) (by simp only [Reg.TMB_CH_COUNT]; omega)
    rcases State.timerTick_below ⟨hen, hrun, hdue⟩ hbelow with htick | htick
    · rw [htick]
      exact ⟨hcounted, hruns, fun k hk _ => hothers k hk, rfl⟩
    · rw [htick]
      exact ⟨hcounted, hruns, fun k hk _ => hothers k hk, rfl⟩
  case wrap =>
    rintro s x t n rfl hn hen hrun hdue hat
    have hwrapped : (s.at t).overrun n = (s.at t).wrapped n := if_neg (by omega)
    have hstatus : tmbRun ((s.at t).wrapped n) n = true :=
      (State.tmbRun_of_rd (State.wrapped_rd _ n (by simp [Reg.TMB_CH_STATUS, Reg.TMB_CH_COUNT]))).trans hrun
    refine ⟨_, congrArg Host.Outcome.next (if_neg (Nat.not_le.mpr hn)), ?_⟩
    rw [State.timerTick_wraps ⟨hen, hrun, hdue⟩ hat.ge, hwrapped]
    cases hone : (s.at t).on (F.TMB_CH_CTL_ONESHOT n)
    · exact ⟨State.wrapped_count _ n, State.wrapped_raised _ n, hstatus, State.wrapped_items _ n⟩
    · rw [if_pos rfl]
      refine ⟨?_, State.wrapped_raised _ n, State.tmbRun_put_run _ n 0, State.wrapped_items _ n⟩
      rw [State.get_put_reg _ _ _ _ (by simp [F.TMB_CH_STATUS_RUN, F.TMB_CH_COUNT_COUNT, Reg.TMB_CH_STATUS, Reg.TMB_CH_COUNT])]
      exact State.wrapped_count _ n
  case start =>
    rintro s x t n rfl hn hen hsnap hrun
    refine ⟨_, congrArg Host.Outcome.next (State.timerGroup_single hen hn _), ?_⟩
    rw [State.timerStart_fresh hsnap hrun]
    refine ⟨State.tmbRun_put_run _ n 1, ?_, fun k hk _ => ?_, rfl⟩
    · rw [State.get_put_reg _ _ _ _ (by simp [F.TMB_CH_STATUS_RUN, F.TMB_CH_COUNT_COUNT, Reg.TMB_CH_STATUS, Reg.TMB_CH_COUNT])]
      exact State.loadTimer_count _ n
    · rw [State.rd_put_other _ _ _ (by simp only [F.TMB_CH_STATUS_RUN, Reg.TMB_CH_STATUS]; omega)]
      exact State.loadTimer_rd _ n (by simp only [Reg.TMB_CH_STATUS, Reg.TMB_CH_COUNT]; omega)
  case stop =>
    rintro s x t n rfl hn hen
    refine ⟨_, congrArg Host.Outcome.next (State.timerGroup_single hen hn _), State.tmbRun_put_run _ n 0, ?_, fun k hk _ => ?_, rfl⟩
    · exact State.get_put_reg _ _ _ _ (by simp [F.TMB_CH_STATUS_RUN, F.TMB_CH_COUNT_COUNT, Reg.TMB_CH_STATUS, Reg.TMB_CH_COUNT])
    · exact State.rd_put_other _ _ _ (by simp only [F.TMB_CH_STATUS_RUN, Reg.TMB_CH_STATUS]; omega)
  case reload =>
    rintro s x t n rfl hn hen
    refine ⟨_, congrArg Host.Outcome.next (State.timerGroup_single hen hn _), ?_, State.loadTimer_count _ n, rfl⟩
    exact State.tmbRun_of_rd (State.loadTimer_rd _ n (by simp [Reg.TMB_CH_STATUS, Reg.TMB_CH_COUNT]))
  case disabled =>
    rintro s x t v rfl hen
    exact congrArg Host.Outcome.next (State.timerGroup_disabled hen v _)
  case stagger =>
    rintro s x t rfl
    have hmask : maskChannels 3 = [0, 1] := by decide
    refine ⟨_, rfl, ?_⟩
    rw [State.stagger, hmask]
    have hperiod := State.get_lt (s.at t) (F.TMB_CH_PERIOD_PERIOD 1)
    have hsmall : (1 * ((s.at t).get (F.TMB_CH_PERIOD_PERIOD 1) + 1)) / 2 < 2 ^ 32 := by
      simp only [F.TMB_CH_PERIOD_PERIOD] at hperiod ⊢
      omega
    refine ⟨?_, ?_, ?_, rfl⟩
    · exact (State.get_put_reg _ _ _ _ (by decide)).trans (State.get_put_same _ _ _ (by decide)) |>.trans (by simp)
    · refine (State.get_put_same _ _ _ (by decide)).trans ((Nat.mod_eq_of_lt hsmall).trans ?_)
      rw [Nat.one_mul]
    · exact (State.rd_put_other _ _ _ (by decide)).trans (State.rd_put_other _ _ _ (by decide))
  case ctlRunning =>
    rintro s x t n v rfl hn hrun
    obtain ⟨hpresc, hreason, -, hitems⟩ := State.timerCtl_running v hn hrun
    exact ⟨_, congrArg Host.Outcome.next (if_neg (Nat.not_le.mpr hn)), hpresc, hreason, hitems⟩
  case ctlStopped =>
    rintro s x t n v rfl hn hrun
    refine ⟨_, congrArg Host.Outcome.next (if_neg (Nat.not_le.mpr hn)), ?_⟩
    rw [State.timerCtl]
    simp only [hrun, Bool.false_eq_true, if_false]
    refine ⟨?_, ?_, rfl⟩
    · refine (State.get_put_same _ _ _ (by simp [F.TMB_CH_CTL_PRESC])).trans (Nat.mod_eq_of_lt ?_)
      exact Nat.mod_lt _ (Nat.two_pow_pos _)
    · rw [State.get_put_field _ _ _ _ (by simp [F.TMB_CH_CTL_PRESC]) (by simp [F.TMB_CH_CTL_ONESHOT, F.TMB_CH_CTL_PRESC])]
      refine (State.get_put_same _ _ _ (by simp [F.TMB_CH_CTL_ONESHOT])).trans (Nat.mod_eq_of_lt ?_)
      exact Nat.mod_lt _ (Nat.two_pow_pos _)


/-! ### Time passes over a channel's STATUS -/

/-- Is an address a timer channel's STATUS? -/
def isTimerStatus (a : Nat) : Prop := isTimerReg a ∧ a % 0x20 = 0x18

theorem State.onWindow_rd (s : State) (w : Option Nat) (g : RxInfo → RxInfo) (a : Nat) : (s.onWindow w g).rd a = s.rd a := by
  unfold State.onWindow
  split <;> rfl

section
variable {a : Nat} (ha : isTimerStatus a)
include ha

theorem State.clearLane_timerStatus (s : State) (n : Nat) : (s.clearLane n).rd a = s.rd a := by
  obtain ⟨-, hmod⟩ := ha
  unfold State.clearLane State.wr64
  iterate 5 rw [State.rd_wr_other _ _ (by
    simp only [Reg.MUR_LANE_STATE, Reg.MUR_LANE_TRIPLE, Reg.MUR_LANE_METRIC, Reg.MUR_LANE_START]; omega)]
  rfl

theorem State.put_timerStatus (s : State) (f : Fld) (v : Nat) (hf : f.addr < 0x40120000) : (s.put f v).rd a = s.rd a := by
  obtain ⟨⟨hlo, -⟩, -⟩ := ha
  exact State.rd_put_other s f v (by omega)

theorem State.irqMur_timerStatus (s : State) (mask : Nat) : (s.irq Blk.MUR mask).rd a = s.rd a := by
  obtain ⟨⟨hlo, hhi⟩, -⟩ := ha
  refine State.irq_rd s _ mask ?_
  simp [irqTouches, isrOf, Blk.MUR, Reg.SUP_STATUS, Reg.CPX_PLIC_PEND, Reg.MUR_ISR]
  omega

theorem State.syncLoad_timerStatus (s : State) : s.syncLoad.rd a = s.rd a := by
  unfold State.syncLoad
  iterate 3 rw [State.put_timerStatus ha _ _ _ (by decide)]

theorem State.releaseLane_timerStatus (s : State) (n : Nat) : (s.releaseLane n).rd a = s.rd a := by
  unfold State.releaseLane State.chargeLane
  rw [State.syncLoad_timerStatus ha, State.clearLane_timerStatus ha, State.onWindow_rd]

theorem State.giveLane_timerStatus (s : State) (n : Nat) (d : Detection) (w : Option Nat) (residue : Bool) (level : Nat) :
    (s.giveLane n d w residue level).rd a = s.rd a := by
  have hlane (v1 v2 v3 : Word) (v4 : Nat) (x : LaneX) : (((((s.setLaneX n x).wr (Reg.MUR_LANE_STATE n) v1).wr
      (Reg.MUR_LANE_TRIPLE n) v2).wr (Reg.MUR_LANE_METRIC n) v3).wr64 (Reg.MUR_LANE_START n) v4).rd a = s.rd a := by
    obtain ⟨-, hmod⟩ := ha
    unfold State.wr64
    iterate 5 rw [State.rd_wr_other _ _ (by
      simp only [Reg.MUR_LANE_STATE, Reg.MUR_LANE_TRIPLE, Reg.MUR_LANE_METRIC, Reg.MUR_LANE_START]; omega)]
    rfl
  unfold State.giveLane
  dsimp only
  rw [State.syncLoad_timerStatus ha]
  split
  · exact hlane ..
  · exact (State.put_timerStatus ha _ _ _ (by decide)).trans (hlane ..)

theorem State.sicDrop_timerStatus (s : State) (w : Option Nat) : (s.sicDrop w).rd a = s.rd a := by
  unfold State.sicDrop
  rw [State.irqMur_timerStatus ha, State.count, State.put_timerStatus ha _ _ _ (by decide), State.onWindow_rd]

theorem State.assign_timerStatus (s : State) (d : Detection) (residue : Bool) (level : Nat) :
    (s.assign d residue level).rd a = s.rd a := by
  have hcount (x : State) (k : Nat) (hk : k < 16) : (x.count (F.MUR_CNT_COUNT k)).rd a = x.rd a :=
    State.put_timerStatus ha x _ _ (by simp only [F.MUR_CNT_COUNT, Reg.MUR_CNT]; omega)
  have hphy (x : State) (k : Nat) (hk : k < 16) : (x.count (F.PHY_CNT_COUNT k)).rd a = x.rd a :=
    State.put_timerStatus ha x _ _ (by simp only [F.PHY_CNT_COUNT, Reg.PHY_CNT]; omega)
  unfold State.assign
  split
  · rfl
  · split
    · rfl
    · split
      · rw [State.irqMur_timerStatus ha, hcount _ _ (by decide), State.onWindow_rd]
      · split
        · exact State.giveLane_timerStatus ha ..
        · split
          · rfl
          · split
            · dsimp only
              rw [State.giveLane_timerStatus ha, hcount _ _ (by decide), hphy _ _ (by decide), State.releaseLane_timerStatus ha]
            · rw [State.irqMur_timerStatus ha, hcount _ _ (by decide), State.onWindow_rd]

theorem State.serveResidues_timerStatus (k : Nat) (s : State) : (s.serveResidues k).rd a = s.rd a := by
  induction k generalizing s with
  | zero => rfl
  | succ k ih =>
    unfold State.serveResidues
    split
    · rfl
    · dsimp only
      split
      · exact (ih _).trans (State.sicDrop_timerStatus ha _ _)
      · split
        · exact (ih _).trans (State.assign_timerStatus ha ..)
        · rfl

theorem State.listening_timerStatus (s : State) : s.listening.rd a = s.rd a := by
  refine List.foldlRecOn (motive := fun x : State => x.rd a = s.rd a) _ _ rfl fun x hx w hw => ?_
  split
  · refine (State.put_timerStatus ha _ _ _ ?_).trans hx
    have : w < 4 := by simp at hw; omega
    simp only [F.MUR_LANE_STATE_STATE, Reg.MUR_LANE_STATE]
    omega
  · exact hx

/-- Time alone changes no timer channel's STATUS. -/
theorem State.at_timerStatus (s : State) (t : Nat) : (s.at t).rd a = s.rd a := by
  unfold State.at
  rw [State.syncFem_rd, State.clockAt_rd]
  unfold State.dspCycles
  split
  · rfl
  · dsimp only
    have hlanes : (s.mur.freed.foldl State.clearLane { s with mur := { s.mur with freed := [] } }).syncLoad.listening.rd a =
        s.rd a := by
      rw [State.listening_timerStatus ha, State.syncLoad_timerStatus ha]
      exact foldl_keeps (p := fun x : State => x.rd a) (fun x n => State.clearLane_timerStatus ha x n) _ _
    split
    · exact (State.serveResidues_timerStatus ha _ _).trans hlanes
    · exact hlanes

end

/-- Settles O44: a one-shot channel's wrap clears RUN, and a channel that does not run ignores its ticks. -/
theorem oneShotAndPrescaler : Obligations.OneShotAndPrescaler := by
  refine ⟨?wrap, ?ctl⟩
  case wrap =>
    rintro s x t u n rfl hn hen hrun hdue hwrap hone
    refine ⟨_, congrArg Host.Outcome.next (if_neg (Nat.not_le.mpr hn)), ?_⟩
    rw [State.timerTick_wraps ⟨hen, hrun, hdue⟩ hwrap, if_pos hone]
    have hstopped := State.tmbRun_put_run ((s.at t).overrun n) n 0
    refine ⟨hstopped, ?_, _, congrArg Host.Outcome.next (if_neg (Nat.not_le.mpr hn)), ?_⟩
    · rw [State.get_put_reg _ _ _ _ (by simp [F.TMB_CH_STATUS_RUN, F.TMB_CH_COUNT_COUNT, Reg.TMB_CH_STATUS, Reg.TMB_CH_COUNT])]
      exact State.overrun_count _ hn
    · refine State.timerTick_idle ((State.tmbRun_of_rd (State.at_timerStatus ?_ _ u)).trans hstopped)
      simp only [isTimerStatus, isTimerReg, Reg.TMB_CH_STATUS]
      omega
  case ctl =>
    rintro s x t n v rfl hn hrun
    obtain ⟨hpresc, hreason, hbit, -⟩ := State.timerCtl_running v hn hrun
    exact ⟨_, congrArg Host.Outcome.next (if_neg (Nat.not_le.mpr hn)), hpresc, hreason, hbit⟩

/-! ### STAGGER and a freed lane beyond the sixty-four (R459) -/

/-- Reset, with the timer bank enabled and a freed lane whose number no lane has: the address of its STATE would be the
timer bank's BLK_CTL. -/
def freedBeyond : State := { State.reset.put (F.BLK_EN Blk.TMB) 1 with mur := { Mur.reset with freed := [22496] } }

/-- Refutes O45: nothing in the statement keeps the freed lanes below 64, and the release of lane 22,496 in the DSP cycle
before GSTART clears the enable of the timer bank, so that no channel starts. -/
theorem not_staggerSpreads : ¬ Obligations.StaggerSpreads := by
  unfold Obligations.StaggerSpreads
  intro h
  obtain ⟨r, hr, -, -, q, hq, hstarts⟩ := h freedBeyond (freedBeyond.at 0) 0 1000000000 0 1 rfl (by decide) (by decide)
    (by decide) (by decide)
  cases hr
  cases hq
  exact absurd (hstarts (by decide)).2 (by decide)

end Sys2Proof.Machine

/-! PROOFS. The energy accounts of Bellows (R345, R353 to R355, R364). -/

namespace Sys2Proof.Machine

/-! ### The accounts -/

/-- The accounts with another stored energy. -/
def Blw.stored (b : Blw) (uj : Nat) : Blw := { b with store := uj }

theorem Blw.stored_store (b : Blw) (uj : Nat) : (b.stored uj).store = uj := rfl

/-- The accounts with another budget of the next period. -/
def Blw.planned (b : Blw) (budget g : Nat) : Blw := { b with nextBudget := budget, nextG := g }

/-- The accounts as a period begins. -/
def Blw.begun (b : Blw) (start budget held g : Nat) : Blw :=
  { b with periodStart := start, metered := 0, debit := held, budget := budget, reserveG := g }

/-- The accounts handed over from a period that ends, with its background. -/
def Blw.handedOver (b : Blw) (ended : Nat) : Blw :=
  { b with period := b.period + 1, settled := b.settledNext, settledNext := 0, ended := (ended :: b.ended).take 4 }

/-- The accounts under another source model. -/
def Blw.modelled (b : Blw) (m : Model) : Blw := { b with model := m }

/-- The accounts at a local hour. -/
def Blw.atHour (b : Blw) (h : Nat) : Blw := { b with hour := h }

/-! ### The stored energy (R353, R354) -/

theorem State.setStore_items (s : State) (uj : Nat) : (s.setStore uj).items = s.items := by
  unfold State.setStore
  dsimp only
  split
  · exact State.irq_items _ _ _
  · rfl

theorem State.setStore_blw (s : State) (uj : Nat) : (s.setStore uj).blw = s.blw.stored uj := by
  unfold State.setStore
  dsimp only
  split
  · exact State.irq_blw _ _ _
  · rfl

theorem State.setStore_rd (s : State) (uj : Nat) {a : Nat} (ha : a ≠ Reg.BLW_STORE) (hirq : irqTouches Blk.BLW a = false) :
    (s.setStore uj).rd a = s.rd a := by
  unfold State.setStore
  dsimp only
  split
  · rw [State.irq_rd _ _ _ hirq]
    exact State.rd_put_other _ _ _ ha
  · exact State.rd_put_other _ _ _ ha

/-- On a budget source the stored energy is only shown. -/
theorem State.setStore_budget {s : State} (uj : Nat) (hmode : s.on F.BLW_CFG_MODE = false) :
    s.setStore uj = ({ s with blw := s.blw.stored uj }).put F.BLW_STORE_MJ (uj / 1000) := by
  unfold State.setStore
  dsimp only
  rw [hmode]
  rfl

/-! ### Budgets (R355) -/

theorem budgetAt_blw (s : State) (a store : Nat) : (budgetAt s a store).2.blw = s.blw := by
  unfold budgetAt
  dsimp only
  split
  · split <;> rfl
  · rfl

theorem budgetAt_items (s : State) (a store : Nat) : (budgetAt s a store).2.items = s.items := by
  unfold budgetAt
  dsimp only
  split
  · split <;> rfl
  · rfl

theorem budgetAt_rd (s : State) (a store b : Nat) : (budgetAt s a store).2.rd b = s.rd b := by
  unfold budgetAt
  dsimp only
  split
  · split <;> rfl
  · rfl

/-- On a budget source the budget is CAP_MW over the period. -/
theorem budgetAt_source {s : State} (a store : Nat) (hmode : s.on F.BLW_CFG_MODE = false) :
    (budgetAt s a store).1 = s.blw.model.capMw * s.get F.BLW_CFG_PERIOD_MIN * 60 * 1000 := by
  unfold budgetAt
  dsimp only
  rw [hmode]
  rfl

/-- The registers that follow the accounts. -/
def followsAccounts (a : Nat) : Prop :=
  a = Reg.BLW_CHARGED ∨ a = Reg.BLW_BACKGROUND ∨ a = Reg.BLW_BUDGET ∨ a = Reg.BLW_NEXT_BUDGET ∨ a = Reg.BLW_STORE

theorem syncBellows_rd (s : State) {a : Nat} (ha : ¬ followsAccounts a) : (syncBellows s).rd a = s.rd a := by
  simp only [followsAccounts, not_or] at ha
  obtain ⟨hcharged, hbackground, hbudget, hnext, hstore⟩ := ha
  unfold syncBellows
  rw [State.rd_put_other _ _ _ hstore, State.rd_put_other _ _ _ hnext, State.rd_put_other _ _ _ hbudget,
    State.rd_put_other _ _ _ hbackground, State.rd_put_other _ _ _ hcharged]

theorem syncBellows_items (s : State) : (syncBellows s).items = s.items := rfl
theorem syncBellows_blw (s : State) : (syncBellows s).blw = s.blw := rfl

theorem State.setNext_items (s : State) : s.setNext.items = s.items := by
  unfold State.setNext
  extract_lets start r
  exact (syncBellows_items _).trans (budgetAt_items ..)

theorem State.setNext_rd (s : State) {a : Nat} (ha : ¬ followsAccounts a) : s.setNext.rd a = s.rd a := by
  unfold State.setNext
  extract_lets start r
  exact (syncBellows_rd _ ha).trans (budgetAt_rd ..)

/-- The next period's provisional budget is all that changes of the accounts. -/
theorem State.setNext_blw (s : State) :
    ∃ budget g, s.setNext.blw = s.blw.planned budget g := by
  unfold State.setNext
  extract_lets start r
  have hr : r.2.blw = s.blw := budgetAt_blw ..
  exact ⟨r.1, reserveG s, (syncBellows_blw _).trans (congrArg (Blw.planned · r.1 (reserveG s)) hr)⟩

theorem State.checkOverdraw_blw (s : State) : s.checkOverdraw.blw = s.blw := by
  unfold State.checkOverdraw
  split
  · rfl
  · dsimp only
    split <;> exact State.irq_blw _ _ _

theorem State.checkOverdraw_items (s : State) : s.checkOverdraw.items = s.items := by
  unfold State.checkOverdraw
  split
  · rfl
  · dsimp only
    split <;> exact State.irq_items _ _ _

/-- A report of a debit writes BLW_STATUS, and the interrupt's registers. -/
theorem State.checkOverdraw_rd (s : State) {a : Nat} (ha : a ≠ Reg.BLW_STATUS) (hirq : irqTouches Blk.BLW a = false) :
    s.checkOverdraw.rd a = s.rd a := by
  unfold State.checkOverdraw
  split
  · rfl
  · have hirqd : ((s.put F.BLW_STATUS_OVERDRAW 1).irq Blk.BLW 4).rd a = s.rd a := by
      rw [State.irq_rd _ _ _ hirq, State.rd_put_other _ _ _ ha]
    dsimp only
    split
    · exact (State.record_rd ..).trans hirqd
    · exact hirqd

/-- It leaves the interrupt bits that are set. -/
theorem State.checkOverdraw_isr (s : State) (hbit : bits (s.rd Reg.BLW_ISR).toNat 4 4 = 1) :
    bits (s.checkOverdraw.rd Reg.BLW_ISR).toNat 4 4 = 1 := by
  have hset : bits (((s.put F.BLW_STATUS_OVERDRAW 1).irq Blk.BLW 4).rd Reg.BLW_ISR).toNat 4 4 = 1 := by
    rw [State.irq_isr _ _ rfl (by decide) (by decide), State.rd_put_other _ _ _ (by decide)]
    exact bits_or_keeps _ _ hbit
  unfold State.checkOverdraw
  split
  · exact hbit
  · dsimp only
    split
    · rw [State.record_rd]
      exact hset
    · exact hset

/-- What the accounts are as a period starts. -/
theorem State.startPeriod_blw (s : State) (start : Nat) :
    ∃ budget held g next nextG, (s.startPeriod start).blw = (s.blw.begun start budget held g).planned next nextG ∧
      (s.on F.BLW_CFG_MODE = false → budget = s.blw.model.capMw * s.get F.BLW_CFG_PERIOD_MIN * 60 * 1000) := by
  unfold State.startPeriod
  extract_lets _ s0 r g held _ _ s1
  have hr : r.2.blw = s0.blw := budgetAt_blw ..
  obtain ⟨next, nextG, hnext⟩ := ((s1.put F.BLW_STATUS_OVERDRAW 0).irq Blk.BLW 16).setNext_blw
  refine ⟨r.1, held - r.1, g, next, nextG, ?_, budgetAt_source (s := s0) _ _⟩
  rw [State.checkOverdraw_blw, State.put_blw, hnext, State.irq_blw, State.put_blw]
  exact congrArg (fun b => Blw.planned { b with budget := r.1, reserveG := g, debit := held - r.1 } next nextG) hr

/-- The interrupt of the period's start is raised. -/
theorem State.startPeriod_isr (s : State) (start : Nat) :
    bits ((s.startPeriod start).rd Reg.BLW_ISR).toNat 4 4 = 1 := by
  unfold State.startPeriod
  extract_lets _ s0 r g held _ _ s1
  refine State.checkOverdraw_isr _ ?_
  rw [State.rd_put_other _ _ _ (by decide), State.setNext_rd _ (by unfold followsAccounts; decide)]
  exact State.irq_isr_bit (k := 4) _ (by decide) rfl (by decide) (by decide)

theorem State.startPeriod_items (s : State) (start : Nat) : (s.startPeriod start).items = s.items := by
  unfold State.startPeriod
  extract_lets _ s0 r g held _ _ s1
  rw [State.checkOverdraw_items, State.put_items, State.setNext_items, State.irq_items]
  exact budgetAt_items ..

/-- A period that has ended hands over to the next. -/
theorem State.budgetPeriod_due {s : State} (hen : s.en Blk.BLW = true) (hdue : s.blw.periodStart + periodU s ≤ s.now) :
    ∃ x : State, s.budgetPeriod = x.startPeriod (s.blw.periodStart + periodU s) ∧ x.items = s.items ∧
      x.on F.BLW_CFG_MODE = s.on F.BLW_CFG_MODE ∧ x.get F.BLW_CFG_PERIOD_MIN = s.get F.BLW_CFG_PERIOD_MIN ∧
      x.blw = s.blw.handedOver (background s) := by
  unfold State.budgetPeriod
  rw [if_neg (by simp [hen, hdue])]
  split
  · exact ⟨_, rfl, rfl, rfl, rfl, rfl⟩
  · exact ⟨_, rfl, rfl, rfl, rfl, rfl⟩

/-! ### The source model (R353, R364) -/

/-- A state under another source model. -/
def State.modelled (s : State) (m : Model) : State := ({ s with blw := s.blw.modelled m }).put F.BLW_STATUS_MODEL_VALID 1

/-- A commit of shadow registers whose floors do not conflict. -/
theorem State.commitModel_fits {s : State} (hfits : floorConflict s (shadowModel s) = none) :
    s.commitModel = (s.modelled (shadowModel s)).setNext.put F.BLW_STATUS_HOUR
      (localHour (s.modelled (shadowModel s)) s.net % 24) := by
  rw [State.commitModel]
  dsimp only
  rw [hfits]
  rfl

/-! ### Harvest hours (R354) -/

/-- A state at a local hour. -/
def State.atHour (s : State) (h : Nat) : State := ({ s with blw := s.blw.atHour h }).put F.BLW_STATUS_HOUR (h % 24)

/-- The hour that ended is credited on a stored source below its capacity. -/
theorem State.harvestHour_credits {s : State} (hhour : localHour s s.net = s.blw.hour + 1) (hmode : s.on F.BLW_CFG_MODE = true)
    (hroom : s.blw.store < s.blw.model.capacity * 1000) :
    s.harvestHour = (s.atHour (s.blw.hour + 1)).setStore
      (Nat.min (s.blw.store + s.blw.model.harvest.getD (s.blw.hour % 24) 0 * 1000000) (s.blw.model.capacity * 1000)) := by
  unfold State.harvestHour
  dsimp only
  rw [hhour, if_neg (by omega), if_neg (by simp [hmode]), if_neg (by omega)]
  rfl

/-- A new hour with a new stored energy keeps the model and the promise table. -/
theorem State.atHour_stored (s : State) (h uj : Nat) :
    ((s.atHour h).setStore uj).blw.hour = h ∧ ((s.atHour h).setStore uj).blw.store = uj ∧
      ((s.atHour h).setStore uj).blw.model = s.blw.model ∧ ((s.atHour h).setStore uj).items = s.items := by
  rw [State.setStore_blw, State.setStore_items, Blw.stored_store]
  exact ⟨rfl, rfl, rfl, rfl⟩

/-- What the credit changes, and what it leaves. -/
theorem State.harvestHour_credited {s : State} (hhour : localHour s s.net = s.blw.hour + 1)
    (hmode : s.on F.BLW_CFG_MODE = true) (hroom : s.blw.store < s.blw.model.capacity * 1000) :
    s.harvestHour.blw.hour = s.blw.hour + 1 ∧
      s.harvestHour.blw.store = Nat.min (s.blw.store + s.blw.model.harvest.getD (s.blw.hour % 24) 0 * 1000000)
        (s.blw.model.capacity * 1000) ∧
      s.harvestHour.blw.model = s.blw.model ∧ s.harvestHour.items = s.items := by
  rw [State.harvestHour_credits hhour hmode hroom]
  exact State.atHour_stored ..

/-! ### The meter (R345, R350) -/

theorem State.learn_blw (s : State) (reg : Nat) (sample : Int) : (s.learn reg sample).blw = s.blw := by
  unfold State.learn
  dsimp only
  split <;> rfl

theorem State.learn_items (s : State) (reg : Nat) (sample : Int) : (s.learn reg sample).items = s.items := by
  unfold State.learn
  dsimp only
  split <;> rfl

/-- Learning writes the cost entry alone. -/
theorem State.learn_rd (s : State) {reg a : Nat} (sample : Int) (ha : a ≠ reg) : (s.learn reg sample).rd a = s.rd a := by
  unfold State.learn
  dsimp only
  split
  · rfl
  · exact State.rd_wr_other s _ ha

/-- The cost entries of the activities, or none. -/
theorem activities_reg {s : State} {u : Nat} {x : Activity} (hx : x ∈ activities s u) :
    x.reg = 0 ∨ Reg.BLW_COST 0 ≤ x.reg := by
  have hmw (c : Prop) [Decidable c] (k cost unit : Nat)
      (hm : x ∈ if c then ([] : List Activity) else [⟨Reg.BLW_COST k, cost, unit⟩]) : x.reg = 0 ∨ Reg.BLW_COST 0 ≤ x.reg := by
    split at hm
    · cases hm
    · rw [List.mem_singleton.mp hm]
      exact .inr (by simp only [Reg.BLW_COST]; omega)
  have hstep (o : FlashOp) (cost unit : Nat) : (⟨Reg.BLW_COST (if o.op = 2 then 5 else 4), cost, unit⟩ : Activity).reg = 0 ∨
      Reg.BLW_COST 0 ≤ (⟨Reg.BLW_COST (if o.op = 2 then 5 else 4), cost, unit⟩ : Activity).reg := by
    exact .inr (by simp only [Reg.BLW_COST]; omega)
  unfold activities at hx
  simp only [List.mem_append] at hx
  rcases hx with (((htx | hrx) | hflash) | hcores) | hports
  · split at htx
    · cases htx
    · split at htx
      · rw [List.mem_singleton.mp htx]
        exact .inr (by simp only [Reg.BLW_COST, Reg.BLW_TXCOST]; omega)
      · rw [List.mem_singleton.mp htx]
        exact .inl rfl
  · split at hrx
    · rcases List.mem_append.mp hrx with hrx | hrx
      · exact hmw _ _ _ _ hrx
      · exact hmw _ _ _ _ hrx
    · cases hrx
  · rcases hflash with hops | hnested
    · obtain ⟨o, -, ho⟩ := List.mem_filterMap.mp hops
      split at ho
      · split at ho
        · cases ho
        · cases ho
          exact hstep _ _ _
      · cases ho
    · obtain ⟨o, -, rfl⟩ := Option.map_eq_some_iff.mp (Option.mem_toList.mp hnested)
      exact hstep _ _ _
  · exact hmw _ _ _ _ hcores
  · exact hmw _ _ _ _ hports

/-- What every step of learning keeps, a span of learning keeps. -/
theorem State.learnSpan_keeps {β : Type} {p : State → β} (s : State) (uj u : Nat)
    (h : ∀ x reg sample, reg = 0 ∨ Reg.BLW_COST 0 ≤ reg → p (State.learn x reg sample) = p x) :
    p (s.learnSpan uj u) = p s := by
  unfold State.learnSpan
  dsimp only
  split
  · rfl
  · cases hacts : activities s u with
    | nil =>
      dsimp only
      split
      · rfl
      · exact h _ _ _ (.inr (by decide))
    | cons a l =>
      refine List.foldlRecOn (motive := fun x : State => p x = p s) _ _ rfl fun x hx b hb => ?_
      split
      · exact (h _ _ _ (activities_reg (hacts ▸ hb))).trans hx
      · exact hx

/-- The accounts with a sample of the meter. -/
def Blw.metering (b : Blw) (uj now : Nat) : Blw :=
  { b with meter := (b.meter + uj) % 2 ^ 48, metered := b.metered + uj, sampledAt := now }

/-- The sample is added to the meter and, on a stored source, taken from the stored energy. -/
def State.sampled (s : State) (uj : Nat) : State :=
  if s.on F.BLW_CFG_MODE then
    (({ s with blw := s.blw.metering uj s.now }).wr64 Reg.BLW_METER ((s.blw.meter + uj) % 2 ^ 48)).setStore (s.blw.store - uj)
  else ({ s with blw := s.blw.metering uj s.now }).wr64 Reg.BLW_METER ((s.blw.meter + uj) % 2 ^ 48)

theorem State.meterSample_eq (s : State) (uj mv : Nat) :
    s.meterSample uj mv = if s.en Blk.BLW then
      syncBellows ((((s.sampled uj).measured mv).learnSpan uj (s.now - s.blw.sampledAt)).checkOverdraw)
    else (s.sampled uj).measured mv := rfl

/-- Beside the sample the meter's command changes no account, no register of the meter and no item. -/
theorem State.meterSample_keeps (s : State) (uj mv : Nat) :
    (s.meterSample uj mv).blw = (s.sampled uj).blw ∧ (s.meterSample uj mv).items = (s.sampled uj).items ∧
    (s.meterSample uj mv).rd64 Reg.BLW_METER = (s.sampled uj).rd64 Reg.BLW_METER := by
  have hrd {a : Nat} (ha : a = Reg.BLW_METER ∨ a = Reg.BLW_METER + 4) :
      (syncBellows ((((s.sampled uj).measured mv).learnSpan uj (s.now - s.blw.sampledAt)).checkOverdraw)).rd a =
        (s.sampled uj).rd a := by
    have hne : a ≠ Reg.BLW_STATUS ∧ a ≠ Reg.SUP_VSUP ∧ irqTouches Blk.BLW a = false ∧ ¬ followsAccounts a ∧ a ≠ 0 ∧
        a < Reg.BLW_COST 0 := by
      rcases ha with rfl | rfl <;> exact ⟨by decide, by decide, by decide, by unfold followsAccounts; decide, by decide, by decide⟩
    obtain ⟨hstatus, hvsup, hirq, hfollows, hzero, hcost⟩ := hne
    rw [syncBellows_rd _ hfollows, State.checkOverdraw_rd _ hstatus hirq,
      State.learnSpan_keeps (p := fun x : State => x.rd a) _ _ _ fun x reg sample hreg => x.learn_rd sample (by omega)]
    exact State.rd_put_other _ _ _ hvsup
  rw [State.meterSample_eq]
  split
  · refine ⟨?_, ?_, State.rd64_of_rd (hrd (.inl rfl)) (hrd (.inr rfl))⟩
    · rw [syncBellows_blw, State.checkOverdraw_blw,
        State.learnSpan_keeps (p := State.blw) _ _ _ fun x reg sample _ => x.learn_blw reg sample]
      rfl
    · rw [syncBellows_items, State.checkOverdraw_items,
        State.learnSpan_keeps (p := State.items) _ _ _ fun x reg sample _ => x.learn_items reg sample]
      rfl
  · exact ⟨rfl, rfl, State.rd64_of_rd (State.rd_put_other _ _ _ (by decide)) (State.rd_put_other _ _ _ (by decide))⟩

theorem State.sampled_items (s : State) (uj : Nat) : (s.sampled uj).items = s.items := by
  unfold State.sampled
  split
  · exact State.setStore_items ..
  · rfl

theorem State.sampled_blw (s : State) (uj : Nat) : (s.sampled uj).blw =
    if s.on F.BLW_CFG_MODE then (s.blw.metering uj s.now).stored (s.blw.store - uj) else s.blw.metering uj s.now := by
  unfold State.sampled
  split
  · exact State.setStore_blw ..
  · rfl

/-- The meter's registers show the sum. -/
theorem State.sampled_meter (s : State) (uj : Nat) : (s.sampled uj).rd64 Reg.BLW_METER = (s.blw.meter + uj) % 2 ^ 48 := by
  have hshown (x : State) : (x.wr64 Reg.BLW_METER ((s.blw.meter + uj) % 2 ^ 48)).rd64 Reg.BLW_METER = (s.blw.meter + uj) % 2 ^ 48 := by
    rw [State.rd64_wr64_same]
    exact Nat.mod_eq_of_lt (Nat.lt_of_lt_of_le (Nat.mod_lt _ (Nat.two_pow_pos 48)) (by decide))
  unfold State.sampled
  split
  · exact (State.rd64_of_rd (State.setStore_rd _ _ (by decide) (by decide)) (State.setStore_rd _ _ (by decide) (by decide))).trans
      (hshown _)
  · exact hshown _

/-- Settles O46: each command by what its operation does to the accounts and what it leaves. -/
theorem energyAccounts : Obligations.EnergyAccounts := by
  refine ⟨?budgetStore, ?storeFalls, ?conflict, ?commit, ?period, ?early, ?hour, ?sameHour, ?meter⟩
  case budgetStore =>
    rintro s x t v rfl hmode
    refine ⟨_, rfl, congrArg Blw.store ((s.at t).setStore_blw _), ?_, ?_, ?_, State.setStore_items ..⟩
    · rw [State.setStore_budget _ hmode, State.get_put_same _ _ _ (by decide), Nat.mul_div_cancel _ (by decide)]
      exact Nat.mod_eq_of_lt v.isLt
    · rw [State.setStore_blw]; rfl
    · rw [State.setStore_budget _ hmode]
      exact State.rd_put_other _ _ _ (by decide)
  case storeFalls =>
    rintro s x t v rfl hmode habove hbelow
    refine ⟨_, rfl, congrArg Blw.store ((s.at t).setStore_blw _), ?_, State.setStore_items ..⟩
    unfold State.setStore
    dsimp only
    rw [if_pos]
    · exact State.irq_isr_bit (k := 3) _ (by decide) rfl (by decide) (by decide)
    · simp only [hmode, habove, decide_true, Bool.and_true, Bool.true_and, decide_eq_true_eq]
      omega
  case conflict =>
    rintro s x t f rfl hconflict
    have hcommit : (s.at t).commitModel = (s.at t).checkRefused Blk.BLW 0x03F7 f := by
      rw [State.commitModel, hconflict]
    refine ⟨_, congrArg Host.Outcome.next hcommit, ?_⟩
    obtain ⟨hstatus, hreason, hfield⟩ := (s.at t).checkRefused_shows Blk.BLW 0x03F7 f
    exact ⟨hstatus, hreason, hfield, rfl, rfl⟩
  case commit =>
    rintro s x t rfl hconflict
    refine ⟨_, congrArg Host.Outcome.next (State.commitModel_fits hconflict), ?_⟩
    obtain ⟨budget, g, hblw⟩ := ((s.at t).modelled (shadowModel (s.at t))).setNext_blw
    refine ⟨?_, ?_, ?_, ?_, ?_⟩
    · rw [State.put_blw, hblw]; rfl
    · rw [State.on_put_field _ _ _ _ (by decide) (by decide),
        State.on_of_rd (State.setNext_rd _ (by unfold followsAccounts; decide))]
      exact State.on_put_one _ _ (by decide) (by decide)
    · rw [State.put_blw, hblw]; rfl
    · rw [State.put_blw, hblw]; rfl
    · rw [State.put_items, State.setNext_items]; rfl
  case period =>
    rintro s x t rfl hen hdue hmode
    obtain ⟨x, hperiod, hitems, hxmode, hmin, hxblw⟩ := State.budgetPeriod_due hen hdue
    refine ⟨_, congrArg Host.Outcome.next hperiod, ?_⟩
    obtain ⟨budget, held, g, next, nextG, hblw, hbudget⟩ := x.startPeriod_blw ((s.at t).blw.periodStart + periodU (s.at t))
    refine ⟨?_, ?_, ?_, ?_, ?_, ?_, ?_, x.startPeriod_isr _, (x.startPeriod_items _).trans hitems⟩
    · rw [hblw, hxblw]; rfl
    · rw [hblw]; rfl
    · rw [hblw, hxblw]; rfl
    · rw [hblw, hxblw]; rfl
    · rw [hblw]; rfl
    · rw [hblw, hxblw]; rfl
    · rw [hblw]
      exact (hbudget (hxmode.trans hmode)).trans (by rw [hmin, hxblw]; rfl)
  case early =>
    rintro s x t rfl hearly
    refine congrArg Host.Outcome.next ?_
    have hstill : (!(s.at t).en Blk.BLW || decide ((s.at t).now < (s.at t).blw.periodStart + periodU (s.at t))) = true := by
      rw [decide_eq_true hearly, Bool.or_true]
    rw [State.budgetPeriod, if_pos hstill]
  case hour =>
    rintro s x t rfl hhour hmode hroom
    exact ⟨_, rfl, State.harvestHour_credited hhour hmode hroom⟩
  case sameHour =>
    rintro s x t rfl hhour
    refine congrArg Host.Outcome.next ?_
    rw [State.harvestHour, if_pos hhour]
  case meter =>
    rintro s x t uj mv rfl
    obtain ⟨hblw, hitems, hmeter⟩ := (s.at t).meterSample_keeps uj mv
    have hsampled := (s.at t).sampled_blw uj
    refine ⟨_, rfl, ?_, hmeter.trans (State.sampled_meter ..), ?_, ?_, ?_, hitems.trans (State.sampled_items ..)⟩
    · rw [hblw, hsampled]; split <;> rfl
    · rw [hblw, hsampled]; split <;> rfl
    · rw [hblw, hsampled]; split <;> rfl
    · rw [hblw, hsampled]; split <;> rfl

end Sys2Proof.Machine

/-! PROOFS. The event fabric (R441 to R450): firings, groups, SWFIRE and writes of EVF_PUB and EVF_SUB. -/

namespace Sys2Proof.Machine

/-- A counter that saturates. -/
theorem State.count_get (s : State) {f : Fld} (n : Nat) (hf : f.lo + f.width ≤ 32) :
    (s.count f n).get f = Nat.min (s.get f + n) (2 ^ f.width - 1) := by
  rw [State.count, State.get_put_same _ _ _ hf]
  exact Nat.mod_eq_of_lt (Nat.lt_of_le_of_lt (Nat.min_le_right _ _) (Nat.sub_lt (Nat.two_pow_pos _) Nat.one_pos))

/-! ### Firings -/

/-- A state after channel `ch` has fired in cycle `c`. -/
def State.fired (s : State) (ch c : Nat) : State :=
  { s with evf := { s.evf with lastFire := (ch, c) :: s.evf.lastFire.filter (fun p => p.1 != ch) } }

/-- A state whose loop monitor keeps the firing of channel `ch` at instant `u` alone. -/
def State.monitored (s : State) (ch u : Nat) : State := { s with evf := { s.evf with recent := [(ch, u)] } }

/-- The oldest event taken from the queue of raised ones. -/
def State.dequeued (s : State) (rest : List (Nat × Nat)) : State := { s with evf := { s.evf with raised := rest } }

/-- Task `t` noted as triggered in its consumer's cycle `k`, and nothing else. -/
def State.triggered (s : State) (t k : Nat) : State :=
  { s with evf := { s.evf with lastTrigger := (t, k) :: s.evf.lastTrigger.filter (fun p => p.1 != t) } }

/-- A first firing in a disabled group is lost and counts. -/
theorem State.publish_disabled {s : State} {ch c : Nat} (u : Nat)
    (hfirst : s.evf.lastFire.any (fun p => p.1 == ch && p.2 == c) = false) (hgroup : groupEnabled s c (groupOf ch) = false) :
    s.publish ch c u = (s.fired ch c).count (F.EVF_CNT_COUNT 1) := by
  have harrive : s.arrive ch c = (none, (s.fired ch c).count (F.EVF_CNT_COUNT 1)) := by
    unfold State.arrive
    rw [hfirst, if_neg Bool.false_ne_true]
    dsimp only
    rw [hgroup]
    rfl
  rw [State.publish, harrive]

/-- A first firing below the monitor's limit, of a channel that no skein channel is bound to, triggers its tasks. -/
theorem State.publish_triggers {s : State} {ch c : Nat} (u : Nat)
    (hfirst : s.evf.lastFire.any (fun p => p.1 == ch && p.2 == c) = false) (hgroup : groupEnabled s c (groupOf ch) = true)
    (hrecent : s.evf.recent = []) (hlimit : 1 < s.get F.EVF_MON_LIMIT) (hbound : boundTo s c ch = []) :
    s.publish ch c u = ((s.fired ch c).monitored ch u).trigger ch c u := by
  have harrive : s.arrive ch c = (some (s.fired ch c), s.fired ch c) := by
    unfold State.arrive
    rw [hfirst, if_neg Bool.false_ne_true]
    dsimp only
    rw [hgroup]
    rfl
  have hkept : (s.fired ch c).evf.recent = [] := hrecent
  have hlocal : boundTo ((s.fired ch c).monitored ch u) c ch = [] := hbound
  rw [State.publish, harrive]
  dsimp only
  rw [hkept, List.filter_nil, List.filter_nil, List.length_nil, if_neg (by omega)]
  exact (congrArg (List.foldl _ _) hlocal).trans rfl

/-- A channel to which the START of timer 0 alone is subscribed starts that timer. -/
theorem State.trigger_startsTimer {s : State} {ch : Nat} (c u : Nat) (hsub : subscribers s ch = [0])
    (hlast : s.evf.lastTrigger = []) (hwaiting : s.evf.waiting = []) (hen : s.en Blk.TMB = true) :
    s.trigger ch c u = ((s.triggered 0 (aonCycle u)).count (F.EVF_CNT_COUNT 5)).timerStart 0 := by
  have hreach : State.reach c u (s, []) 0 = ((s.triggered 0 (aonCycle u)).count (F.EVF_CNT_COUNT 5), [0]) := by
    have hnew : ¬ (s.evf.lastTrigger.any (fun p => p.1 == 0 && p.2 == consumerCycle s c u 0) ||
        s.evf.waiting.contains 0) = true := by
      rw [hlast, hwaiting]
      exact Bool.false_ne_true
    exact (if_neg hnew).trans (if_pos rfl)
  have hcounted : ((s.triggered 0 (aonCycle u)).count (F.EVF_CNT_COUNT 5)).en Blk.TMB = true :=
    (State.on_of_rd (State.rd_put_other _ _ _ (by decide))).trans hen
  rw [State.trigger, hsub, List.foldl_cons, List.foldl_nil, hreach]
  exact if_pos hcounted

/-- An event that a disabled fabric, or one without an enabled publisher for it, loses. -/
theorem State.eventFire_loses {s : State} {e u : Nat} {rest : List (Nat × Nat)} (hwaiting : s.evf.waiting = [])
    (hraised : s.evf.raised = (e, u) :: rest)
    (hlost : s.en Blk.EVF = false ∨ 60 ≤ e ∨ s.on (F.EVF_PUB_EN e) = false) : s.eventFire = s.dequeued rest := by
  have hnot : (s.en Blk.EVF && decide (e < 60) && s.on (F.EVF_PUB_EN e)) = false := by
    rcases hlost with hen | he | hpub
    · rw [hen]; rfl
    · rw [decide_eq_false (Nat.not_lt.mpr he), Bool.and_false, Bool.false_and]
    · rw [hpub, Bool.and_false]
  unfold State.eventFire
  rw [hwaiting, hraised]
  dsimp only
  rw [hnot]
  rfl

/-- An event that an enabled fabric publishes. -/
theorem State.eventFire_publishes {s : State} {e u : Nat} {rest : List (Nat × Nat)} (hwaiting : s.evf.waiting = [])
    (hraised : s.evf.raised = (e, u) :: rest) (hen : s.en Blk.EVF = true) (he : e < 60)
    (hpub : s.on (F.EVF_PUB_EN e) = true) :
    s.eventFire = (s.dequeued rest).publish (s.get (F.EVF_PUB_CHANNEL e)) (fabricCycle s u) u := by
  unfold State.eventFire
  rw [hwaiting, hraised]
  dsimp only
  rw [hen, hpub, decide_eq_true he]
  rfl

/-- START of a stopped channel, the first input of its cycle: it runs from PHASE. -/
theorem State.timerStart_shows (s : State) {n : Nat} (hsnap : s.tmb.snaps.getD n none = none) (hrun : tmbRun s n = false) :
    tmbRun (s.timerStart n) n = true ∧ (s.timerStart n).get (F.TMB_CH_COUNT_COUNT n) = s.get (F.TMB_CH_PHASE_PHASE n) := by
  rw [State.timerStart_fresh hsnap hrun]
  refine ⟨State.tmbRun_put_run _ n 1, ?_⟩
  rw [State.get_put_reg _ _ _ _ (by simp [F.TMB_CH_STATUS_RUN, F.TMB_CH_COUNT_COUNT, Reg.TMB_CH_STATUS, Reg.TMB_CH_COUNT])]
  exact State.loadTimer_count ..

theorem State.timerStart_evf (s : State) (n : Nat) : (s.timerStart n).evf = s.evf := by
  unfold State.timerStart
  dsimp only
  split
  · rfl
  · split <;> rfl

theorem State.timerStart_items (s : State) (n : Nat) : (s.timerStart n).items = s.items := by
  unfold State.timerStart
  dsimp only
  split
  · rfl
  · split <;> rfl

/-! ### Groups (R441, R442) -/

/-- A mask set among the enables, with nothing disabled. -/
theorem maskEnable (e m : Nat) (he : e < 2 ^ 16) :
    ((e ||| m % 65536) &&& (0xFFFF - 0 % 65536)) % 65536 = e ||| m % 65536 := by
  have hor : e ||| m % 65536 < 2 ^ 16 := Nat.or_lt_two_pow he (Nat.mod_lt _ (by decide))
  rw [Nat.zero_mod, Nat.sub_zero, show 0xFFFF = 2 ^ 16 - 1 from rfl, Nat.and_two_pow_sub_one_eq_mod, Nat.mod_eq_of_lt hor]
  exact Nat.mod_eq_of_lt hor

/-- The first change of a cycle acts on the enables as they stand. -/
theorem State.groupChange_first {s : State} {c : Nat} (hc : c ≠ s.evf.groupCycle) (enable disable : Nat) :
    (s.groupChange c enable disable).get F.EVF_GROUPS_EN =
      ((s.get F.EVF_GROUPS_EN ||| enable) &&& (0xFFFF - disable % 65536)) % 65536 := by
  unfold State.groupChange
  rw [if_neg hc]
  dsimp only
  rw [State.get_put_same _ _ _ (by decide), Nat.zero_or]
  rfl

theorem State.groupChange_rd (s : State) (c enable disable : Nat) {a : Nat} (ha : a ≠ Reg.EVF_GROUPS) :
    (s.groupChange c enable disable).rd a = s.rd a := by
  unfold State.groupChange
  dsimp only
  rw [State.rd_put_other _ _ _ ha]
  split <;> rfl

theorem State.groupChange_items (s : State) (c enable disable : Nat) : (s.groupChange c enable disable).items = s.items := by
  unfold State.groupChange
  dsimp only
  split <;> rfl

/-! ### SWFIRE (R450) and writes of EVF_PUB and EVF_SUB (R448) -/

/-- SWFIRE of channel 0 alone. -/
theorem State.swfire_zero {s : State} (hen : s.en Blk.EVF = true) :
    s.swfire 0 1 = State.swBit (fabricCycle s s.now + 2) s 0 := by
  have hbits : ((List.range 32).filter (fun i => bits (1 : Word).toNat i i == 1)).map (fun i => 32 * 0 + i) = [0] := by decide
  unfold State.swfire
  rw [hen, hbits, if_neg (by decide)]
  rfl

theorem isPubSub_ne_status {a : Nat} (ha : isPubSub a = true) : a ≠ Reg.EVF_STATUS := by
  rintro rfl
  exact absurd ha (by decide)

/-- Settles O42: one lemma above for each way that a firing, a group change or a write can go. -/
theorem eventFabric : Obligations.EventFabric := by
  refine ⟨?lost, ?disabled, ?starts, ?bound, ?free, ?set, ?clear, ?bad, ?good⟩
  case lost =>
    rintro s x t e u rest rfl hwaiting hraised hlost
    exact ⟨_, congrArg Host.Outcome.next (State.eventFire_loses hwaiting hraised hlost), rfl, rfl, rfl⟩
  case disabled =>
    rintro s x t e u ch rest rfl hwaiting hraised hen he hpub rfl hfirst hgroup
    have hfire := State.eventFire_publishes hwaiting hraised hen he hpub
    rw [State.publish_disabled (s := (s.at t).dequeued rest) u hfirst hgroup] at hfire
    exact ⟨_, congrArg Host.Outcome.next hfire, rfl, rfl, rfl, State.count_get _ 1 (by decide)⟩
  case starts =>
    rintro s x t e u ch rest rfl hwaiting hraised hen he hpub rfl hfirst hgroup hrecent hlimit hbound hsub hlast htmb hrun
      hsnaps
    have hfire := State.eventFire_publishes hwaiting hraised hen he hpub
    rw [State.publish_triggers (s := (s.at t).dequeued rest) u hfirst hgroup hrecent hlimit hbound] at hfire
    replace hfire := hfire.trans (State.trigger_startsTimer _ u hsub hlast hwaiting htmb)
    refine ⟨_, congrArg Host.Outcome.next hfire, ?_⟩
    generalize hx : State.count _ _ = x
    have hrd : ∀ a, a ≠ Reg.EVF_CNT 5 → x.rd a = (s.at t).rd a := by
      rintro a ha
      rw [← hx]
      exact State.rd_put_other _ _ _ ha
    have hevf : x.evf.raised = rest := by rw [← hx]; rfl
    have hitems : x.items = (s.at t).items := by rw [← hx]; rfl
    have hfresh : x.tmb.snaps.getD 0 none = none := by
      rw [← hx]
      exact (congrArg (·.getD 0 none) hsnaps).trans rfl
    obtain ⟨hstarted, hcount⟩ := x.timerStart_shows hfresh ((State.tmbRun_of_rd (hrd _ (by decide))).trans hrun)
    refine ⟨?_, hstarted, hcount.trans (State.get_of_rd (hrd _ (by decide))), ?_⟩
    · rw [State.timerStart_evf, hevf]
    · rw [State.timerStart_items, hitems]
  case bound =>
    rintro s x t n rfl hen hn hskpub hsource
    have hany : (List.range 32).any (fun n => (s.at t).on (F.EVF_SKPUB_EN n) && (s.at t).get (F.EVF_SKPUB_SOURCE n) == 0) = true :=
      List.any_eq_true.mpr ⟨n, List.mem_range.mpr hn, by rw [hskpub, hsource]; rfl⟩
    refine ⟨_, congrArg Host.Outcome.next ((State.swfire_zero hen).trans (if_pos hany)), ?_, ?_, ?_⟩
    · exact State.get_put_same _ _ _ (by decide)
    · rw [State.put_tmb, State.irq_tmb]; rfl
    · rw [State.put_items, State.irq_items]; rfl
  case free =>
    rintro s x t rfl hen hall
    have hany : (List.range 32).any (fun n => (s.at t).on (F.EVF_SKPUB_EN n) && (s.at t).get (F.EVF_SKPUB_SOURCE n) == 0) = false := by
      refine List.any_eq_false.mpr fun n hn => ?_
      have hoff := List.all_eq_true.mp hall n hn
      simp only [Bool.not_eq_true'] at hoff
      simp [hoff]
    refine congrArg Host.Outcome.next ((State.swfire_zero hen).trans (if_neg ?_))
    rw [hany]
    decide
  case set =>
    rintro s x t v rfl hcycle
    refine ⟨_, rfl, ?_, ?_, State.groupChange_items (s.at t) _ (v.toNat % 65536) 0⟩
    · rw [State.grpSet, State.get_put_reg _ _ _ _ (by decide), State.groupChange_first hcycle]
      exact maskEnable _ _ (State.get_lt ..)
    · rw [State.grpSet, State.get_put_same _ _ _ (by decide)]
      exact Nat.mod_eq_of_lt (Nat.lt_of_le_of_lt Nat.and_le_left (State.get_lt ..))
  case clear =>
    rintro s x t v rfl hcycle
    refine ⟨_, rfl, ?_, State.get_of_rd (State.groupChange_rd _ _ _ _ (by decide)), State.groupChange_items ..⟩
    rw [State.grpClr, State.groupChange_first hcycle, Nat.or_zero, Nat.mod_mod]
    exact Nat.mod_eq_of_lt (Nat.lt_of_le_of_lt Nat.and_le_left (State.get_lt ..))
  case bad =>
    rintro s x t a v rfl ha hen hbad
    have hwrite : (s.at t).pubSubWrite a v = (s.at t).put F.EVF_STATUS_LAST_REASON 0x11F6 := by
      unfold State.pubSubWrite
      rw [ha, hen, hbad]
      rfl
    refine ⟨_, congrArg Host.Outcome.next hwrite, ?_, State.get_put_same _ _ _ (by decide), rfl⟩
    exact State.rd_put_other _ _ _ (isPubSub_ne_status ha)
  case good =>
    rintro s x t a v rfl ha hgood
    refine congrArg Host.Outcome.next ?_
    unfold State.pubSubWrite
    rw [ha, hgood, Bool.and_false]
    rfl

end Sys2Proof.Machine

/-! PROOFS. The contactless tag (R416 to R436): anticollision, sessions, APDUs and commits, quiet time, field and coil. -/

namespace Sys2Proof.Machine

/-! ### Reports of the tag block -/

theorem State.tagCount_rd (s : State) (k : Nat) {a : Nat} (ha : a ≠ Reg.TAG_CNT k) : (s.tagCount k).rd a = s.rd a := by
  unfold State.tagCount
  split
  · exact State.rd_put_other _ _ _ ha
  · rfl

theorem State.tagCount_tag (s : State) (k : Nat) : (s.tagCount k).tag = s.tag := by
  unfold State.tagCount
  split <;> rfl

theorem State.tagCount_items (s : State) (k : Nat) : (s.tagCount k).items = s.items := by
  unfold State.tagCount
  split <;> rfl

theorem State.tagCount_flc (s : State) (k : Nat) : (s.tagCount k).flc = s.flc := by
  unfold State.tagCount
  split <;> rfl

theorem State.tagIrq_rd (s : State) (m : Nat) {a : Nat} (ha : irqTouches Blk.TAG a = false) : (s.tagIrq m).rd a = s.rd a := by
  unfold State.tagIrq
  split
  · exact State.irq_rd _ _ _ ha
  · rfl

theorem State.tagIrq_tag (s : State) (m : Nat) : (s.tagIrq m).tag = s.tag := by
  unfold State.tagIrq
  split
  · exact State.irq_tag ..
  · rfl

theorem State.tagIrq_items (s : State) (m : Nat) : (s.tagIrq m).items = s.items := by
  unfold State.tagIrq
  split
  · exact State.irq_items ..
  · rfl

theorem State.tagIrq_flc (s : State) (m : Nat) : (s.tagIrq m).flc = s.flc := by
  unfold State.tagIrq
  split
  · exact State.irq_flc ..
  · rfl

theorem vsupOn_of_powered {s : State} (h : s.sup.power ≠ .off) : vsupOn s = true := bne_iff_ne.mpr h

/-- An enabled tag block of a supplied device raises its interrupts. -/
theorem State.tagIrq_raised {s : State} (hvsup : vsupOn s = true) (hen : s.en Blk.TAG = true) (m : Nat) :
    s.tagIrq m = s.irq Blk.TAG m := by
  rw [State.tagIrq, hvsup, hen]
  rfl

/-- The mode log is what flash holds. -/
theorem tagMode_of_flc {s x : State} (h : x.flc = s.flc) : tagMode x = tagMode s := by
  unfold tagMode modeEntries tagWord flashBytes
  rw [h]

/-! ### Anticollision and selection (R416 to R418) -/

theorem State.reqa_idle {s : State} (w : Bool) (hfield : inField s = true) (hquiet : s.tag.quietUntil ≤ s.now)
    (hidle : s.tag.st = .idle) : s.reqa w = (s.tagState .ready).answer [0x44, 0x00] := by
  have hnot : quiet s = false := decide_eq_false (Nat.not_lt.mpr hquiet)
  rw [State.reqa, hfield, hnot, hidle]
  rfl

theorem State.reqa_quiet {s : State} (w : Bool) (hfield : inField s = true) (hquiet : s.now < s.tag.quietUntil) :
    s.reqa w = (s.tagCount 5).answer [] := by
  have hin : quiet s = true := decide_eq_true hquiet
  rw [State.reqa, hfield, hin]
  rfl

/-- A command at the cascade level that the tag is in. -/
theorem atLevel {s : State} {level : Nat} (hfield : inField s = true) (hlevel : levelOf s.tag.st = some level) :
    (inField s && levelOf s.tag.st == some level) = true := by
  rw [hfield, hlevel, beq_self_eq_true]
  rfl

theorem State.anticollision_known {s : State} {level : Nat} {known : List Bool} (hfield : inField s = true)
    (hlevel : levelOf s.tag.st = some level) (hknown : (uidBits (cascade level)).take known.length = known) :
    s.anticollision level known =
      s.answer (((uidBits (cascade level)).drop known.length).map (fun b => if b then 1 else 0)) := by
  rw [State.anticollision, if_pos (atLevel hfield hlevel)]
  exact if_pos hknown

theorem State.selectUid_own {s : State} {level : Nat} (hfield : inField s = true) (hlevel : levelOf s.tag.st = some level) :
    s.selectUid level (cascade level) =
      if level = 1 then (s.tagState .level2).answer [0x04] else (s.tagState .active).answer [0x20] := by
  rw [State.selectUid, if_pos (atLevel hfield hlevel), if_pos rfl]

theorem State.selectUid_other {s : State} {level : Nat} {uid : List Byte} (hfield : inField s = true)
    (hlevel : levelOf s.tag.st = some level) (huid : uid ≠ cascade level) :
    s.selectUid level uid = (s.tagState .idle).answer [] := by
  rw [State.selectUid, if_pos (atLevel hfield hlevel), if_neg huid]

/-! ### Sessions and the quiet time (R419, R432) -/

/-- A tag in a session. -/
theorem inSession {s : State} (hfield : inField s = true) (hsession : s.tag.st = .session) :
    (inField s && s.tag.st == .session) = true := by
  rw [hfield, hsession]
  rfl

/-- The tag with a new session. -/
def Tag.opened (g : Tag) : Tag := { g with st := .session, file := .none, selected := false, buffer := none }

/-- A state whose tag has a new session. -/
def State.rated (s : State) : State := { s with tag := s.tag.opened }

theorem State.rats_active {s : State} (hfield : inField s = true) (hactive : s.tag.st = .active) :
    s.rats = ((s.rated.put F.TAG_STATUS_SESSION 1).tagCount 0).answer [0x05, 0x78, 0x00, 0x80, 0x00] := by
  have hin : (inField s && s.tag.st == .active) = true := by
    rw [hfield, hactive]
    rfl
  rw [State.rats, if_pos hin]
  rfl

theorem State.deselect_session {s : State} (hfield : inField s = true) (hsession : s.tag.st = .session) :
    s.deselect false = if s.tag.selected then ((s.endTagSession .halted).answer [0xC2]).startQuiet
      else (s.endTagSession .halted).answer [0xC2] := by
  rw [State.deselect, hfield, hsession]
  rfl

/-- A state whose quiet time lasts until instant `u`. -/
def State.quieted (s : State) (u : Nat) : State :=
  { s with tag := { s.tag with quietUntil := u } }.put F.TAG_STATUS_QUIET 1

/-- The report of an enabled tag block that the quiet time has started. -/
def State.quietReport (s : State) : State :=
  if vsupOn s && s.en Blk.TAG then (s.irq Blk.TAG 4).record 0x1000 0x1004 else s

theorem State.startQuiet_eq (s : State) :
    s.startQuiet = (s.quieted (s.now + (tagMode s).2.1 * secondU)).quietReport := by
  have hen (u : Nat) : (s.quieted u).en Blk.TAG = s.en Blk.TAG := State.on_of_rd (State.rd_put_other _ _ _ (by decide))
  have hvsup (u : Nat) : vsupOn (s.quieted u) = vsupOn s := rfl
  unfold State.quietReport
  rw [hen, hvsup]
  rfl

theorem State.quietReport_rd (s : State) {a : Nat} (ha : irqTouches Blk.TAG a = false) : s.quietReport.rd a = s.rd a := by
  unfold State.quietReport
  split
  · rw [State.record_rd, State.irq_rd _ _ _ ha]
  · rfl

theorem State.quietReport_tag (s : State) : s.quietReport.tag = s.tag := by
  unfold State.quietReport
  split
  · rw [State.record_tag, State.irq_tag]
  · rfl

theorem State.quietReport_items (s : State) : s.quietReport.items = s.items := by
  unfold State.quietReport
  split
  · rw [State.record_items, State.irq_items]
  · rfl

/-- What a new quiet time shows, and what it leaves. -/
theorem State.quieted_shows (s : State) (u : Nat) :
    (s.quieted u).tag.quietUntil = u ∧ (s.quieted u).tag.st = s.tag.st ∧ (s.quieted u).on F.TAG_STATUS_QUIET = true ∧
      (s.quieted u).on F.TAG_STATUS_SESSION = s.on F.TAG_STATUS_SESSION ∧ (s.quieted u).items = s.items :=
  ⟨rfl, rfl, State.on_put_one _ _ (by decide) (by decide), State.on_put_field _ _ _ _ (by decide) (by decide), rfl⟩

/-- What the start of a quiet time shows, and what it leaves. -/
theorem State.startQuiet_shows (s : State) :
    s.startQuiet.tag.quietUntil = s.now + (tagMode s).2.1 * secondU ∧ s.startQuiet.tag.st = s.tag.st ∧
      s.startQuiet.on F.TAG_STATUS_QUIET = true ∧ s.startQuiet.on F.TAG_STATUS_SESSION = s.on F.TAG_STATUS_SESSION ∧
      s.startQuiet.items = s.items := by
  rw [State.startQuiet_eq, State.on_of_rd (State.quietReport_rd _ (by decide)), State.quietReport_tag,
    State.on_of_rd (State.quietReport_rd _ (by decide)), State.quietReport_items]
  exact s.quieted_shows _

theorem State.endTagSession_session (s : State) (x : TagState) : (s.endTagSession x).on F.TAG_STATUS_SESSION = false :=
  State.on_put_zero _ _ (by decide)

/-! ### Field and coil (R434, R436) -/

/-- A state that has entered a field. -/
def State.fielded (s : State) : State := ((s.put F.TAG_STATUS_FIELD 1).tagIrq 1).tagState .idle

theorem State.fieldOn_supplied {s : State} (hfield : inField s = false) (hvsup : vsupOn s = true) (hen : s.en Blk.TAG = true) :
    s.fieldOn = s.fielded.fire 50 := by
  rw [State.fieldOn, hfield, hvsup, hen]
  rfl

/-- What the loss of a field leaves of the tag. -/
theorem State.fieldLost_shows (s : State) :
    s.fieldLost.on F.TAG_STATUS_FIELD = false ∧ s.fieldLost.tag.st = .idle ∧ s.fieldLost.tag.buffer = none ∧
      s.fieldLost.on F.TAG_STATUS_SESSION = false ∧ s.fieldLost.items = s.items := by
  unfold State.fieldLost
  dsimp only
  refine ⟨?_, ?_, ?_, ?_, ?_⟩
  · rw [State.on_of_rd (State.tagIrq_rd _ _ (by decide))]
    exact State.on_put_zero _ _ (by decide)
  · rw [State.tagIrq_tag]; rfl
  · rw [State.tagIrq_tag]; rfl
  · rw [State.on_of_rd (State.tagIrq_rd _ _ (by decide))]
    exact (State.on_put_field _ _ _ _ (by decide) (by decide)).trans (s.endTagSession_session .idle)
  · rw [State.tagIrq_items]; rfl

/-- A coil test of an enabled block of a supplied device. -/
theorem State.coilTest_runs {s : State} (hen : s.en Blk.TAG = true) (hvsup : vsupOn s = true) (result ball : Nat) :
    s.coilTest result ball = if result = 0 then s.put F.TAG_STATUS_COIL result
      else ((s.put F.TAG_STATUS_COIL result).irq Blk.TAG 32).record 0x1000 (if result = 2 then 0x1401 else 0x1402) ball := by
  rw [State.coilTest, hen, hvsup]
  rfl

/-- Settles O59: each command by what its operation does in the tag's state. -/
theorem tagProtocol : Obligations.TagProtocol := by
  refine ⟨?reqa, ?reqaQuiet, ?reqaAway, ?anticollision, ?select1, ?select2, ?selectOther, ?rats, ?ratsIdle, ?pps,
    ?deselect, ?deselectSelected, ?fieldOn, ?fieldOff, ?fieldOffAway, ?expiry, ?unquiet, ?coilGood, ?coilShort⟩
  case reqa =>
    rintro s x t w rfl hfield hquiet hidle
    exact ⟨_, congrArg Host.Outcome.next (State.reqa_idle w hfield hquiet hidle), rfl, rfl, rfl, rfl⟩
  case reqaQuiet =>
    rintro s x t w rfl hfield hquiet
    refine ⟨_, congrArg Host.Outcome.next (State.reqa_quiet w hfield hquiet), ?_, rfl, (s.at t).tagCount_items 5⟩
    show ((s.at t).tagCount 5).tag.st = _
    rw [State.tagCount_tag]
  case reqaAway =>
    rintro s x t w rfl hfield
    refine congrArg Host.Outcome.next ?_
    rw [State.reqa, hfield]
    rfl
  case anticollision =>
    rintro s x t known rfl hfield hready hknown
    have hlevel : levelOf (s.at t).tag.st = some 1 := by rw [hready]; rfl
    exact ⟨_, congrArg Host.Outcome.next (State.anticollision_known hfield hlevel hknown), rfl, hready, rfl, rfl⟩
  case select1 =>
    rintro s x t rfl hfield hready
    have hlevel : levelOf (s.at t).tag.st = some 1 := by rw [hready]; rfl
    exact ⟨_, congrArg Host.Outcome.next (State.selectUid_own hfield hlevel), rfl, rfl, rfl, rfl⟩
  case select2 =>
    rintro s x t rfl hfield hlevel2
    have hlevel : levelOf (s.at t).tag.st = some 2 := by rw [hlevel2]; rfl
    exact ⟨_, congrArg Host.Outcome.next (State.selectUid_own hfield hlevel), rfl, rfl, rfl, rfl⟩
  case selectOther =>
    rintro s x t uid rfl hfield hready huid
    have hlevel : levelOf (s.at t).tag.st = some 1 := by rw [hready]; rfl
    exact ⟨_, congrArg Host.Outcome.next (State.selectUid_other hfield hlevel huid), rfl, rfl, rfl, rfl⟩
  case rats =>
    rintro s x t rfl hfield hactive
    refine ⟨_, congrArg Host.Outcome.next (State.rats_active hfield hactive), ?_, rfl, ?_, ?_, State.tagCount_items _ 0⟩
    · show (State.tagCount _ 0).tag.st = _
      rw [State.tagCount_tag]
      rfl
    · exact (State.on_of_rd (State.tagCount_rd _ 0 (by decide))).trans (State.on_put_one _ _ (by decide) (by decide))
    · show (State.tagCount _ 0).tag.buffer = _
      rw [State.tagCount_tag]
      rfl
  case ratsIdle =>
    rintro s x t rfl hidle
    refine congrArg Host.Outcome.next ?_
    rw [State.rats, hidle, if_neg]
    rw [show (TagState.idle == TagState.active) = false from rfl, Bool.and_false]
    exact Bool.false_ne_true
  case pps =>
    rintro s x t rate rfl hfield hsession
    exact ⟨_, congrArg Host.Outcome.next (if_pos (inSession hfield hsession)), rfl, hsession, rfl, rfl⟩
  case deselect =>
    rintro s x t rfl hfield hsession hselected
    have hdeselect := State.deselect_session hfield hsession
    rw [hselected] at hdeselect
    exact ⟨_, congrArg Host.Outcome.next hdeselect, rfl, rfl, rfl, (s.at t).endTagSession_session .halted, rfl, rfl⟩
  case deselectSelected =>
    rintro s x t rfl hfield hsession hselected
    have hdeselect := State.deselect_session hfield hsession
    rw [hselected] at hdeselect
    obtain ⟨huntil, hst, hquiet, hshown, hitems⟩ := (((s.at t).endTagSession .halted).answer [0xC2]).startQuiet_shows
    refine ⟨_, congrArg Host.Outcome.next hdeselect, hst, hquiet, huntil.trans ?_,
      hshown.trans ((s.at t).endTagSession_session .halted), hitems⟩
    rw [tagMode_of_flc (s := s.at t) rfl]
    rfl
  case fieldOn =>
    rintro s x t rfl hfield hpower hen
    have hvsup := vsupOn_of_powered hpower
    have hfielded : (s.at t).fielded = (((s.at t).put F.TAG_STATUS_FIELD 1).irq Blk.TAG (2 ^ 0)).tagState .idle := by
      have hstill : ((s.at t).put F.TAG_STATUS_FIELD 1).en Blk.TAG = true :=
        (State.on_of_rd (State.rd_put_other _ _ _ (by decide))).trans hen
      rw [State.fielded, State.tagIrq_raised (s := (s.at t).put F.TAG_STATUS_FIELD 1) hvsup hstill]
      rfl
    refine ⟨_, congrArg Host.Outcome.next (State.fieldOn_supplied hfield hvsup hen), ?_⟩
    rw [hfielded]
    refine ⟨?_, rfl, ?_, ?_, ?_⟩
    · exact (State.irq_on _ _ _ (by decide)).trans (State.on_put_one _ _ (by decide) (by decide))
    · show (State.irq _ _ _).evf.raised ++ [(50, (State.irq _ _ _).now)] = _
      rw [State.irq_evf, State.irq_now]
      rfl
    · exact State.irq_isr_bit (k := 0) _ (by decide) rfl (by decide) (by decide)
    · exact State.irq_items ..
  case fieldOff =>
    rintro s x t rfl hfield
    exact ⟨_, congrArg Host.Outcome.next (if_pos hfield), (s.at t).fieldLost_shows⟩
  case fieldOffAway =>
    rintro s x t rfl hfield
    exact congrArg Host.Outcome.next (if_neg (by rw [hfield]; exact Bool.false_ne_true))
  case expiry =>
    rintro s x t rfl hquiet
    have hnot : ¬ quiet (s.at t) = true := by
      rw [quiet, decide_eq_true_eq]
      exact Nat.not_lt.mpr hquiet
    exact ⟨_, congrArg Host.Outcome.next (if_neg hnot), State.on_put_zero _ _ (by decide), rfl, rfl⟩
  case unquiet =>
    rintro s x t rfl hen
    have hnot : ¬ (!(s.at t).en Blk.TAG) = true := by
      rw [hen]
      exact Bool.false_ne_true
    exact ⟨_, congrArg Host.Outcome.next (if_neg hnot), State.on_put_zero _ _ (by decide), rfl, rfl⟩
  case coilGood =>
    rintro s x t ball rfl hen hpower
    refine ⟨_, congrArg Host.Outcome.next (State.coilTest_runs hen (vsupOn_of_powered hpower) 0 ball), ?_, rfl, rfl⟩
    exact State.get_put_same _ _ _ (by decide)
  case coilShort =>
    rintro s x t ball rfl hen hpower
    refine ⟨_, congrArg Host.Outcome.next (State.coilTest_runs hen (vsupOn_of_powered hpower) 2 ball), ?_, ?_, ?_, ?_⟩
    · exact (State.irq_get _ _ _ (by decide)).trans (State.get_put_same _ _ _ (by decide))
    · exact State.irq_isr_bit (k := 5) _ (by decide) rfl (by decide) (by decide)
    · show (State.irq _ _ _).hre.records ++ [⟨0x1000, 0x1401, (State.irq _ _ _).net, word ball, word 0, word 0, word 0, false⟩] = _
      rw [State.irq_hre, State.irq_net]
      rfl
    · exact State.irq_items ..

end Sys2Proof.Machine

/-! PROOFS. The APDUs of a tag session and the commit of a record (R420 to R428). -/

namespace Sys2Proof.Machine

/-! ### Responses (R424) -/

/-- The status word of a refusal is shown by a supplied device. -/
theorem State.respond_keeps (s : State) (data : List Byte) (sw : Nat) :
    (s.respond data sw).flc = s.flc ∧ (s.respond data sw).items = s.items ∧
      (s.respond data sw).tag = { s.tag with answer := data ++ [BitVec.ofNat 8 (sw / 256), BitVec.ofNat 8 sw] } := by
  have hanswer (x : State) (bs : List Byte) : (x.answer bs).tag = { x.tag with answer := bs } := rfl
  unfold State.respond
  dsimp only
  split
  · exact ⟨s.tagCount_flc 1, s.tagCount_items 1, by rw [hanswer, State.tagCount_tag]⟩
  · split
    · refine ⟨?_, ?_, ?_⟩
      · rw [State.put_flc, State.tagCount_flc]; exact s.tagCount_flc 1
      · rw [State.put_items, State.tagCount_items]; exact s.tagCount_items 1
      · rw [State.put_tag, State.tagCount_tag, hanswer, State.tagCount_tag]
    · refine ⟨?_, ?_, ?_⟩
      · rw [State.tagCount_flc]; exact s.tagCount_flc 1
      · rw [State.tagCount_items]; exact s.tagCount_items 1
      · rw [State.tagCount_tag, hanswer, State.tagCount_tag]

section
variable (s : State) (data : List Byte) (sw : Nat)

theorem State.respond_flc : (s.respond data sw).flc = s.flc := (s.respond_keeps data sw).1
theorem State.respond_items : (s.respond data sw).items = s.items := (s.respond_keeps data sw).2.1
theorem State.respond_tag :
    (s.respond data sw).tag = { s.tag with answer := data ++ [BitVec.ofNat 8 (sw / 256), BitVec.ofNat 8 sw] } :=
  (s.respond_keeps data sw).2.2
theorem State.respond_answer :
    (s.respond data sw).tag.answer = data ++ [BitVec.ofNat 8 (sw / 256), BitVec.ofNat 8 sw] := by
  rw [State.respond_tag]
theorem State.respond_buffer : (s.respond data sw).tag.buffer = s.tag.buffer := by rw [State.respond_tag]
theorem State.respond_lastCommit : (s.respond data sw).tag.lastCommit = s.tag.lastCommit := by rw [State.respond_tag]

end

/-! ### Applications and files (R420) -/

/-- A command outside a session is not run. -/
theorem notOutside {s : State} (hfield : inField s = true) (hsession : s.tag.st = .session) :
    (!inField s || s.tag.st != .session) = false := by
  rw [hfield, hsession]
  rfl

/-- A state whose tag has selected an application by its name. -/
def State.appSelected (s : State) (f : TagFile) : State :=
  { s with tag := { s.tag with file := f, selected := s.tag.selected || true } }

theorem State.ndefSelect_vendor {s : State} (hfield : inField s = true) (hsession : s.tag.st = .session) :
    s.ndefSelect true vendorAid = (s.appSelected .vendor).respond [] 0x9000 := by
  unfold State.ndefSelect
  rw [notOutside hfield hsession]
  rfl

theorem State.ndefSelect_ndef {s : State} (hfield : inField s = true) (hsession : s.tag.st = .session) :
    s.ndefSelect true ndefAid = (s.appSelected .ndefApp).respond [] 0x9000 := by
  unfold State.ndefSelect
  rw [notOutside hfield hsession]
  rfl

/-- An answered application select. -/
theorem State.appSelected_shows (s : State) (f : TagFile) :
    ((s.appSelected f).respond [] 0x9000).tag.file = f ∧ ((s.appSelected f).respond [] 0x9000).tag.selected = true ∧
      ((s.appSelected f).respond [] 0x9000).tag.answer = [0x90, 0x00] ∧
      ((s.appSelected f).respond [] 0x9000).flc = s.flc ∧ ((s.appSelected f).respond [] 0x9000).items = s.items := by
  rw [State.respond_tag, State.respond_flc, State.respond_items]
  exact ⟨rfl, Bool.or_true _, rfl, rfl, rfl⟩

theorem State.readBinary_capability {s : State} {o n : Nat} (hfield : inField s = true) (hsession : s.tag.st = .session)
    (hfile : s.tag.file = .capability) (ho : o < 15) (hn : o + n ≤ 15) :
    s.readBinary o n = s.respond (slice capabilityFile o n) 0x9000 := by
  have hlength : capabilityFile.length = 15 := rfl
  unfold State.readBinary
  rw [notOutside hfield hsession, hfile]
  dsimp only
  rw [hlength, if_neg Bool.false_ne_true, if_pos ⟨ho, by omega, hn⟩]

/-! ### The vendor application (R423, R424) -/

theorem State.vendorApdu_runs {s : State} (hfield : inField s = true) (hsession : s.tag.st = .session)
    (hfile : s.tag.file = .vendor) (k : State → State) : s.vendorApdu 0x80 k = k s := by
  rw [State.vendorApdu, notOutside hfield hsession, if_neg Bool.false_ne_true, hfile, if_neg (by decide)]

theorem State.vendorApdu_class {s : State} {cla : Nat} (hfield : inField s = true) (hsession : s.tag.st = .session)
    (hcla : cla ≠ 0x80) (k : State → State) : s.vendorApdu cla k = s.respond [] 0x6E00 := by
  rw [State.vendorApdu, notOutside hfield hsession, if_neg Bool.false_ne_true, if_pos (.inl hcla)]

theorem State.vendorApdu_away {s : State} (hfield : inField s = false) (cla : Nat) (k : State → State) :
    s.vendorApdu cla k = s := by
  rw [State.vendorApdu, hfield]
  rfl

/-- Free bytes change the free counter alone. -/
theorem State.freshBytes_keeps (s : State) (n : Nat) :
    (s.freshBytes n).2.flc = s.flc ∧ (s.freshBytes n).2.items = s.items ∧ (s.freshBytes n).2.tag = s.tag ∧
      (s.freshBytes n).1.length = n := by
  induction n generalizing s with
  | zero => exact ⟨rfl, rfl, rfl, rfl⟩
  | succ n ih =>
    obtain ⟨hflc, hitems, htag, hlength⟩ := ih (s.fresh 256).2
    exact ⟨hflc, hitems, htag, congrArg (· + 1) hlength⟩

/-- A state whose tag holds record buffer `b`. -/
def State.buffered (s : State) (b : TagBuffer) : State := { s with tag := { s.tag with buffer := some b } }

theorem State.writeBegin_opens {s : State} {data : List Byte} (hdata : data.length = 2) (hsome : leNat data ≠ 0)
    (hfits : leNat data ≤ 4064) (hwrite : (tagMode s).2.2 = true) :
    State.writeBegin data s =
      ((s.freshBytes (leNat data)).2.buffered ⟨leNat data, (s.freshBytes (leNat data)).1⟩).respond [] 0x9000 := by
  have hform : ¬ (data.length ≠ 2 ∨ leNat data = 0) := by omega
  unfold State.writeBegin
  dsimp only
  rw [if_neg hform, hwrite, if_neg (by decide), if_neg (Nat.not_lt.mpr hfits)]
  rfl

/-- A buffer with bytes placed in it. -/
def TagBuffer.placed (b : TagBuffer) (o : Nat) (data : List Byte) : TagBuffer :=
  { b with bytes := b.bytes.take o ++ data ++ b.bytes.drop (o + data.length) }

theorem State.writeData_places {s : State} {o : Nat} {data : List Byte} {b : TagBuffer} (hbuffer : s.tag.buffer = some b)
    (hsome : 0 < data.length) (hmost : data.length ≤ 240) (hfits : o + data.length ≤ b.len) :
    State.writeData o data s = (s.buffered (b.placed o data)).respond [] 0x9000 := by
  have hform : ¬ (data.length = 0 ∨ 240 < data.length) := by omega
  unfold State.writeData
  rw [hbuffer]
  dsimp only
  rw [if_neg hform, if_neg (Nat.not_lt.mpr hfits)]
  rfl

/-- The STATUS response is 16 bytes long, and its open fields change the free counter alone. -/
theorem statusBytes_keeps (s : State) :
    (statusBytes s).1.length = 16 ∧ (statusBytes s).2.flc = s.flc ∧ (statusBytes s).2.items = s.items ∧
      (statusBytes s).2.tag = s.tag := by
  unfold statusBytes
  split
  · refine ⟨?_, rfl, rfl, rfl⟩
    simp only [List.length_append, length_leBytes]
  · obtain ⟨hflc, hitems, htag, hlength⟩ := s.freshBytes_keeps 13
    refine ⟨?_, hflc, hitems, htag⟩
    simp only [List.length_append, length_leBytes, hlength]

/-- The answer to a STATUS request. -/
theorem State.statusApdu_shows (s : State) :
    s.statusApdu.tag.answer.length = 18 ∧ s.statusApdu.flc = s.flc ∧ s.statusApdu.items = s.items ∧
      s.statusApdu.tag.buffer = s.tag.buffer ∧ s.statusApdu.tag.lastCommit = s.tag.lastCommit := by
  obtain ⟨hlength, hflc, hitems, htag⟩ := statusBytes_keeps s
  unfold State.statusApdu
  dsimp only
  rw [State.respond_answer, State.respond_flc, State.respond_items, State.respond_buffer, State.respond_lastCommit, hflc,
    hitems, htag, List.length_append, hlength]
  exact ⟨rfl, rfl, rfl, rfl, rfl⟩

/-! ### A commit (R428) -/

theorem State.counterRecord_offFlash (s : State) (sector v : Nat) (twice : Bool) :
    (s.counterRecord sector v twice).offFlash = s.offFlash := by
  unfold State.counterRecord
  dsimp only
  split
  · exact State.program_offFlash ..
  · split
    · rw [State.program_offFlash, State.program_offFlash]
    · exact State.program_offFlash ..

/-- Each step of a commit, run whole, changes flash alone. -/
theorem commitSteps_offFlash (s : State) (bs : List Byte) :
    ∀ st ∈ commitSteps s bs, ∀ x : State, (st.whole x).offFlash = x.offFlash := by
  intro st hst x
  unfold commitSteps at hst
  dsimp only at hst
  rcases List.mem_append.mp hst with hcounter | hrest
  · split at hcounter
    · simp only [List.mem_cons, List.not_mem_nil, or_false] at hcounter
      rcases hcounter with rfl | rfl
      · exact State.counterRecord_offFlash ..
      · exact State.counterRecord_offFlash ..
    · exact absurd hcounter List.not_mem_nil
  · simp only [List.mem_cons, List.not_mem_nil, or_false] at hrest
    rcases hrest with rfl | rfl | rfl | rfl
    · rfl
    · exact State.program_offFlash ..
    · exact State.program_offFlash ..
    · exact State.program_offFlash ..

/-- Without a collapse of the field every step runs, and flash alone changes. -/
theorem runSteps_whole {steps : List TagStep} (hsteps : ∀ st ∈ steps, ∀ x : State, (st.whole x).offFlash = x.offFlash)
    (s : State) : (runSteps s none steps).2 = true ∧ (runSteps s none steps).1.offFlash = s.offFlash := by
  induction steps generalizing s with
  | nil => exact ⟨rfl, rfl⟩
  | cons st steps ih =>
    obtain ⟨hall, hoff⟩ := ih (fun x hx => hsteps x (List.mem_cons_of_mem _ hx)) (st.whole s)
    exact ⟨hall, hoff.trans (hsteps st List.mem_cons_self s)⟩

/-- A state whose tag remembers status word `sw` of its last commit. -/
def State.committed (s : State) (sw : Nat) : State := { s with tag := { s.tag with lastCommit := sw } }

/-- The report of a finished commit by a supplied device. -/
def State.commitReport (s : State) : State := (s.syncTag.tagCount 3).tagIrq 8

theorem State.commitReport_keeps (s : State) :
    s.commitReport.flc = s.flc ∧ s.commitReport.items = s.items ∧ s.commitReport.tag = s.tag := by
  unfold State.commitReport
  rw [State.tagIrq_flc, State.tagIrq_items, State.tagIrq_tag, State.tagCount_flc, State.tagCount_items, State.tagCount_tag]
  exact ⟨rfl, rfl, rfl⟩

section
variable {s : State} {data : List Byte} {b : TagBuffer} (hbuffer : s.tag.buffer = some b) (hdata : data.length = 4)
  (hwrite : (tagMode s).2.2 = true)
include hbuffer hdata hwrite

theorem State.writeCommit_mismatch (hcrc : leNat data ≠ crc32 b.bytes) :
    State.writeCommit data none false s = s.respond [] 0x6A80 := by
  unfold State.writeCommit
  rw [hbuffer]
  dsimp only
  rw [if_neg (fun h => h hdata), hwrite, if_neg (by decide), if_pos hcrc]

theorem State.writeCommit_runs (hcrc : leNat data = crc32 b.bytes) (hvsup : vsupOn s = true) :
    State.writeCommit data none false s =
      (((runSteps s none (commitSteps s b.bytes)).1.committed 0x9000).commitReport).statusApdu := by
  unfold State.writeCommit
  rw [hbuffer]
  dsimp only
  rw [if_neg (fun h => h hdata), hwrite, if_neg (by decide), if_neg (fun h => h hcrc), if_neg Bool.false_ne_true, hvsup,
    if_pos rfl, (runSteps_whole (commitSteps_offFlash s b.bytes) s).1]
  rfl

end

/-- Settles O60: each APDU by what its operation does, and its answer by the response rule. -/
theorem tagWrites : Obligations.TagWrites := by
  refine ⟨?vendor, ?ndef, ?read, ?update, ?begin, ?data, ?abort, ?status, ?mismatch, ?commit, ?otherClass, ?abortAway,
    ?statusAway⟩
  case vendor =>
    rintro s x t rfl hfield hsession
    exact ⟨_, congrArg Host.Outcome.next (State.ndefSelect_vendor hfield hsession), State.appSelected_shows ..⟩
  case ndef =>
    rintro s x t rfl hfield hsession
    exact ⟨_, congrArg Host.Outcome.next (State.ndefSelect_ndef hfield hsession), State.appSelected_shows ..⟩
  case read =>
    rintro s x t o n rfl hfield hsession hfile ho hn
    exact ⟨_, congrArg Host.Outcome.next (State.readBinary_capability hfield hsession hfile ho hn),
      State.respond_answer .., State.respond_flc .., State.respond_items ..⟩
  case update =>
    rintro s x t rfl hfield hsession
    exact ⟨_, congrArg Host.Outcome.next (if_pos (inSession hfield hsession)), State.respond_answer ..,
      State.respond_flc .., State.respond_items ..⟩
  case begin =>
    rintro s x t data rfl hfield hsession hfile hdata hsome hfits hwrite
    have hopens := (State.vendorApdu_runs hfield hsession hfile (State.writeBegin data)).trans
      (State.writeBegin_opens hdata hsome hfits hwrite)
    obtain ⟨hflc, hitems, -, hlength⟩ := (s.at t).freshBytes_keeps (leNat data)
    exact ⟨_, congrArg Host.Outcome.next hopens, State.respond_answer .., (State.respond_flc ..).trans hflc,
      (State.respond_items ..).trans hitems, _, State.respond_buffer .., rfl, hlength⟩
  case data =>
    rintro s x t o data b rfl hfield hsession hfile hbuffer hsome hmost hfits
    have hplaces := (State.vendorApdu_runs hfield hsession hfile (State.writeData o data)).trans
      (State.writeData_places hbuffer hsome hmost hfits)
    exact ⟨_, congrArg Host.Outcome.next hplaces, State.respond_buffer .., State.respond_answer .., State.respond_flc ..,
      State.respond_items ..⟩
  case abort =>
    rintro s x t rfl hfield hsession hfile
    exact ⟨_, congrArg Host.Outcome.next (State.vendorApdu_runs hfield hsession hfile State.writeAbort),
      State.respond_buffer .., State.respond_answer .., State.respond_flc .., State.respond_items ..⟩
  case status =>
    rintro s x t rfl hfield hsession hfile
    obtain ⟨hlength, hflc, hitems, hbuffer, -⟩ := (s.at t).statusApdu_shows
    exact ⟨_, congrArg Host.Outcome.next (State.vendorApdu_runs hfield hsession hfile State.statusApdu), hlength, hbuffer,
      hflc, hitems⟩
  case mismatch =>
    rintro s x t data b rfl hfield hsession hfile hbuffer hdata hwrite hcrc
    have hrefused := (State.vendorApdu_runs hfield hsession hfile (State.writeCommit data none false)).trans
      (State.writeCommit_mismatch hbuffer hdata hwrite hcrc)
    exact ⟨_, congrArg Host.Outcome.next hrefused, State.respond_answer .., State.respond_flc ..,
      (State.respond_buffer ..).trans hbuffer, State.respond_items ..⟩
  case commit =>
    rintro s x t data b rfl hfield hsession hfile hbuffer hdata hwrite hcrc hpower
    have hruns := (State.vendorApdu_runs hfield hsession hfile (State.writeCommit data none false)).trans
      (State.writeCommit_runs hbuffer hdata hwrite hcrc (vsupOn_of_powered hpower))
    have hitems := State.items_of_offFlash (runSteps_whole (commitSteps_offFlash (s.at t) b.bytes) (s.at t)).2
    generalize hy : (runSteps (s.at t) none (commitSteps (s.at t) b.bytes)).1 = y at hruns hitems
    obtain ⟨hlength, hflc, hkept, -, hlast⟩ := ((y.committed 0x9000).commitReport).statusApdu_shows
    obtain ⟨hrflc, hritems, hrtag⟩ := (y.committed 0x9000).commitReport_keeps
    exact ⟨_, congrArg Host.Outcome.next hruns, hlength, hlast.trans (congrArg Tag.lastCommit hrtag), hflc.trans hrflc,
      (hkept.trans hritems).trans hitems⟩
  case otherClass =>
    rintro s x t cla data rfl hfield hsession hcla
    exact ⟨_, congrArg Host.Outcome.next (State.vendorApdu_class hfield hsession hcla (State.writeBegin data)),
      State.respond_answer .., State.respond_buffer .., State.respond_flc .., State.respond_items ..⟩
  case abortAway =>
    rintro s x t cla rfl hfield
    exact congrArg Host.Outcome.next (State.vendorApdu_away hfield cla _)
  case statusAway =>
    rintro s x t cla rfl hfield
    exact congrArg Host.Outcome.next (State.vendorApdu_away hfield cla _)

end Sys2Proof.Machine

/-! PROOFS. Resets (R485, R491, R498 to R503): the reset record, and what a device reset keeps and clears. -/

namespace Sys2Proof.Machine

/-! ### What the end of the items and of cut-off operations leaves for the reset record (R498, R502) -/

/-- The clocks, the memory of a recorded reset, the IOSEL strap and the host's memory. -/
def State.resetMark (s : State) : Nat × Nat × Option Nat × Nat × List (Nat × Byte) :=
  (s.now, s.net, s.sup.resetIn, s.sup.iosel, s.hostMem)

theorem State.resetMark_ite {p : Prop} [Decidable p] {s y z : State} (hy : y.resetMark = s.resetMark)
    (hz : z.resetMark = s.resetMark) : (if p then y else z).resetMark = s.resetMark := by
  split
  · exact hy
  · exact hz

theorem State.put_resetMark (s : State) (f : Fld) (v : Nat) : (s.put f v).resetMark = s.resetMark := rfl
theorem State.wr_resetMark (s : State) (a : Nat) (v : Word) : (s.wr a v).resetMark = s.resetMark := rfl
theorem State.setLaneX_resetMark (s : State) (n : Nat) (x : LaneX) : (s.setLaneX n x).resetMark = s.resetMark := rfl

theorem State.wakeCore_resetMark (s : State) (c : Nat) : (s.wakeCore c).resetMark = s.resetMark := by
  unfold State.wakeCore
  split <;> rfl

theorem State.plic_resetMark (s : State) (src : Nat) : (s.plic src).resetMark = s.resetMark := by
  unfold State.plic
  split
  · rfl
  · exact foldl_keeps (p := State.resetMark) State.wakeCore_resetMark _ _

theorem State.sendMsix_resetMark (s : State) (v : Nat) : (s.sendMsix v).resetMark = s.resetMark := by
  simp only [State.resetMark, State.sendMsix_now, State.sendMsix_net, State.sendMsix_sup, State.sendMsix_hostMem]

theorem State.vector_resetMark (s : State) (v src : Nat) : (s.vector v src).resetMark = s.resetMark := by
  have hsend : ({ s with msix := s.msix ++ [v] }.sendMsix v).resetMark = s.resetMark := State.sendMsix_resetMark ..
  unfold State.vector
  split
  · exact State.plic_resetMark ..
  · exact State.resetMark_ite ((State.plic_resetMark ..).trans hsend) hsend

theorem State.irq_resetMark (s : State) (b mask : Nat) : (s.irq b mask).resetMark = s.resetMark := by
  unfold State.irq
  split
  · rfl
  · dsimp only
    split
    · rfl
    · split
      · exact State.vector_resetMark ..
      · exact State.plic_resetMark ..

theorem State.syncItems_resetMark (s : State) : s.syncItems.resetMark = s.resetMark :=
  State.syncItems_keeps (p := State.resetMark) (fun _ _ _ => rfl) s

theorem State.ownerEnd_resetMark (s : State) (o : Owner) (status reason : Nat) :
    (s.ownerEnd o status reason).resetMark = s.resetMark := by
  unfold State.ownerEnd
  split
  · split
    · rfl
    split
    · rfl
    · exact State.irq_resetMark ..
  · rfl
  · split <;> rfl
  · rfl

theorem State.decideFinal_resetMark (s : State) (idx status reason since : Nat) :
    (s.decideFinal idx status reason since).resetMark = s.resetMark := by
  unfold State.decideFinal
  split
  · rfl
  split
  · rfl
  dsimp only
  split
  · exact State.syncItems_resetMark _
  · refine (State.syncItems_resetMark _).trans ?_
    split
    · exact State.ownerEnd_resetMark ..
    · exact State.ownerEnd_resetMark ..

theorem State.releaseLane_resetMark (s : State) (n : Nat) : (s.releaseLane n).resetMark = s.resetMark := by
  have hcharge : (s.chargeLane n).resetMark = s.resetMark := by
    unfold State.chargeLane State.onWindow
    split <;> rfl
  unfold State.releaseLane State.syncLoad State.clearLane State.wr64
  simp only [State.put_resetMark, State.wr_resetMark, State.setLaneX_resetMark]
  exact hcharge

theorem State.dropLanes_resetMark (s : State) (idx : Nat) : (s.dropLanes idx).resetMark = s.resetMark := by
  unfold State.dropLanes State.syncLoad
  simp only [State.put_resetMark]
  exact foldl_keeps (p := State.resetMark) State.releaseLane_resetMark _ _

theorem State.putSeat_resetMark (s : State) (b : Int) (seat : Option Nat) : (s.putSeat b seat).resetMark = s.resetMark := by
  unfold State.putSeat
  split
  · rfl
  · split <;> rfl

theorem State.overload_resetMark (s : State) (b : Int) : (s.overload b).resetMark = s.resetMark :=
  State.irq_resetMark ..

theorem State.serveQueue_resetMark (l : List Int) (s : State) : (s.serveQueue l).resetMark = s.resetMark := by
  induction l generalizing s with
  | nil => rfl
  | cons b l ih =>
    unfold State.serveQueue
    split
    · rfl
    dsimp only
    rw [ih]
    exact State.resetMark_ite ((State.overload_resetMark ..).trans (State.putSeat_resetMark ..))
      (State.putSeat_resetMark ..)

theorem State.seatAlways_resetMark (s : State) (b : Int) : (s.seatAlways b).resetMark = s.resetMark := by
  unfold State.seatAlways
  split
  · rfl
  split
  · exact State.putSeat_resetMark ..
  dsimp only
  split
  · rfl
  · exact (State.putSeat_resetMark _ _ _).trans (State.putSeat_resetMark ..)

theorem State.seatFlagged_resetMark (s : State) (b : Int) : (s.seatFlagged b).resetMark = s.resetMark := by
  unfold State.seatFlagged
  split
  · rfl
  split
  · exact State.putSeat_resetMark ..
  · rfl

theorem State.coverage_resetMark (s : State) : s.coverage.resetMark = s.resetMark := by
  have hdrop : s.dropSeats.dropQueue.resetMark = s.resetMark :=
    foldl_keeps (p := State.resetMark) State.overload_resetMark _ _
  have hseats : s.seats.resetMark = s.resetMark := by
    unfold State.seats
    rw [State.put_resetMark, State.put_resetMark, foldl_keeps (p := State.resetMark) State.seatFlagged_resetMark,
      foldl_keeps (p := State.resetMark) State.seatAlways_resetMark, State.serveQueue_resetMark, hdrop]
  unfold State.coverage State.listening
  refine (foldl_keeps (p := State.resetMark) (fun x w => ?_) _ _).trans hseats
  split <;> rfl

theorem State.finish_resetMark (s : State) (idx status reason : Nat) :
    (s.finish idx status reason).resetMark = s.resetMark := by
  unfold State.finish State.finishAt
  split
  · split
    · exact (State.coverage_resetMark _).trans ((State.decideFinal_resetMark ..).trans (State.dropLanes_resetMark ..))
    · exact State.decideFinal_resetMark ..
  · rfl

theorem State.endForReset_resetMark (s : State) (status reason : Nat) :
    (s.endForReset status reason).resetMark = s.resetMark := by
  unfold State.endForReset
  refine foldl_keeps (p := State.resetMark) (fun x i => ?_) _ _
  split
  · exact State.finish_resetMark ..
  · rfl

/-! Operations that the reset cuts off (R381, R285) -/

theorem State.eraseRange_offFlash (s : State) (a n : Nat) : (s.eraseRange a n).offFlash = s.offFlash := rfl

theorem State.counterWrite_offFlash (s : State) (copy n v : Nat) : (s.counterWrite copy n v).offFlash = s.offFlash := by
  have hput (x : State) (k m w : Nat) : (x.counterPut copy k m w).offFlash = x.offFlash := State.program_offFlash ..
  unfold State.counterWrite
  dsimp only
  split
  · rw [hput, State.eraseRange_offFlash]
    exact foldl_keeps (p := State.offFlash) (fun x k => hput x k 1 _) _ _
  · exact hput ..

/-- What flash operations that are cut off leave: all but flash and the free counter. -/
def State.cutKept (s : State) : State := { s with flc := State.reset.flc, freeCtr := 0 }

theorem State.cutKept_of_offFlash {s r : State} (h : r.offFlash = s.offFlash) : r.cutKept = s.cutKept :=
  congrArg (fun y : State => { y with freeCtr := 0 }) h

theorem State.scramble_cutKept (s : State) (a n : Nat) : (s.scramble a n).cutKept = s.cutKept := by
  have hbytes : (s.freshBytes n).2.cutKept = s.cutKept := by
    induction n generalizing s with
    | zero => rfl
    | succ n ih => exact ih (s.fresh 256).2
  exact hbytes

theorem State.cutOps_cutKept (s : State) : s.cutOps.cutKept = s.cutKept := by
  unfold State.cutOps
  refine foldl_keeps (p := State.cutKept) (fun x o => ?_) _ _
  split
  · dsimp only
    split
    · rfl
    · exact (State.cutKept_of_offFlash (State.counterWrite_offFlash ..)).trans rfl
  split
  · rfl
  split
  · exact State.scramble_cutKept ..
  · exact State.scramble_cutKept ..

/-- Then flash and the free counter are all that has changed. -/
theorem State.eq_of_cutKept {s r : State} (h : r.cutKept = s.cutKept) : r = { s with flc := r.flc, freeCtr := r.freeCtr } :=
  congrArg (fun y : State => { y with flc := r.flc, freeCtr := r.freeCtr }) h

/-- Is an address one of the reset record's registers? -/
def isRecordReg (a : Nat) : Prop := 0x40000014 ≤ a ∧ a < 0x4000001c ∨ 0x40000040 ≤ a ∧ a < 0x40000078

section
variable {a : Nat} (ha : isRecordReg a)
include ha

theorem irqTouches_record {b : Nat} (hb : b = Blk.SIG ∨ b = Blk.CPX) : irqTouches b a = false := by
  unfold isRecordReg at ha
  rcases hb with rfl | rfl
  · simp [irqTouches, isrOf, Blk.SIG, Reg.SUP_STATUS, Reg.CPX_PLIC_PEND, Reg.SIG_ISR]
    omega
  · simp [irqTouches, isrOf, Blk.CPX, Reg.SUP_STATUS, Reg.CPX_PLIC_PEND, Reg.CPX_ISR]
    omega

theorem State.put_recordRd (s : State) (f : Fld) (v : Nat) (hf : f.addr < 0x40000014 ∨ 0x40000078 ≤ f.addr) :
    (s.put f v).rd a = s.rd a := by
  unfold isRecordReg at ha
  exact State.rd_put_other s f v (by omega)

theorem State.wr_recordRd (s : State) {b : Nat} (v : Word) (hb : b < 0x40000014 ∨ 0x40000078 ≤ b) :
    (s.wr b v).rd a = s.rd a := by
  unfold isRecordReg at ha
  exact State.rd_wr_other s v (by omega)

theorem State.wr64_recordRd (s : State) {b : Nat} (v : Nat) (hb : b + 4 < 0x40000014 ∨ 0x40000078 ≤ b) :
    (s.wr64 b v).rd a = s.rd a := by
  rw [State.wr64, State.wr_recordRd ha _ _ (by omega), State.wr_recordRd ha _ _ (by omega)]

theorem State.syncItems_recordRd (s : State) : s.syncItems.rd a = s.rd a := by
  unfold State.syncItems State.syncHold
  rw [State.put_recordRd ha _ _ _ (by decide), State.put_recordRd ha _ _ _ (by decide)]
  simp only [List.foldl_cons, List.foldl_nil]
  iterate 8 rw [State.put_recordRd ha _ _ _ (by decide)]

end

/-! ### A key store step that the reset cuts off (R285) -/

theorem State.setOwner_keeps (s : State) (i : Nat) (key : Option (List Byte)) :
    (s.setOwner i key).resetMark = s.resetMark ∧ (s.setOwner i key).items = s.items ∧
      ∀ a, isRecordReg a → (s.setOwner i key).rd a = s.rd a := by
  unfold State.setOwner State.syncOwners
  dsimp only
  refine ⟨State.irq_resetMark .., ?_, fun a ha => ?_⟩
  · rw [State.irq_items]
    rfl
  · rw [State.irq_rd _ _ _ (irqTouches_record ha (.inl rfl))]
    iterate 3 rw [State.put_recordRd ha _ _ _ (by decide)]
    rfl

theorem State.cutStore_keeps (s : State) :
    s.cutStore.resetMark = s.resetMark ∧ s.cutStore.items = s.items ∧ ∀ a, isRecordReg a → s.cutStore.rd a = s.rd a := by
  unfold State.cutStore
  split
  · split
    · dsimp only
      split
      · exact ⟨rfl, rfl, fun _ _ => rfl⟩
      · unfold State.commitStore
        split
        · exact ⟨rfl, rfl, fun _ _ => rfl⟩
        · exact State.setOwner_keeps ..
    · exact ⟨rfl, rfl, fun _ _ => rfl⟩
  · exact ⟨rfl, rfl, fun _ _ => rfl⟩

/-- A state whose flash operations and key store step have been cut off. -/
theorem State.cut_keeps (s : State) :
    s.cutOps.cutStore.resetMark = s.resetMark ∧ s.cutOps.cutStore.items = s.items ∧
      ∀ a, isRecordReg a → s.cutOps.cutStore.rd a = s.rd a := by
  obtain ⟨hmark, hitems, hrd⟩ := s.cutOps.cutStore_keeps
  have hcut := State.eq_of_cutKept s.cutOps_cutKept
  generalize s.cutOps = x at hmark hitems hrd hcut ⊢
  refine ⟨hmark.trans ?_, hitems.trans ?_, fun a ha => (hrd a ha).trans ?_⟩
  · rw [hcut]; rfl
  · rw [hcut]
  · rw [hcut]; rfl

/-! ### The record (R498, R502) -/

/-- The word of a record. -/
def recordWord (cause scope reason : Nat) : Word := word (cause + scope * 16 + reason * 65536)

theorem recordWord_fields {cause scope reason : Nat} (hcause : cause < 16) (hscope : scope < 2) (hreason : reason < 65536) :
    F.SYS_RST_CAUSE.value (recordWord cause scope reason) = cause ∧
      F.SYS_RST_SCOPE.value (recordWord cause scope reason) = scope ∧
      F.SYS_RST_REASON.value (recordWord cause scope reason) = reason := by
  simp only [Fld.value, recordWord, word, BitVec.toNat_ofNat, F.SYS_RST_CAUSE, F.SYS_RST_SCOPE, F.SYS_RST_REASON]
  omega

theorem alarmReason_lt (s : State) : alarmReason s < 65536 := by
  unfold alarmReason
  split
  next k hk =>
    have := List.mem_range.mp (List.mem_of_find?_eq_some hk)
    omega
  · decide

theorem resetReason_lt (s : State) (cause : Nat) : resetReason s cause < 65536 := by
  unfold resetReason
  split
  case h_11 => exact alarmReason_lt s
  all_goals decide

theorem State.newRecord_rd (s : State) (cause scope reason : Nat) :
    (s.newRecord cause scope reason).rd Reg.SYS_RST = recordWord cause scope reason := by
  show (State.count _ _).rd Reg.SYS_RST = _
  rw [State.count, State.rd_put_other _ _ _ (by simp only [F.SYS_RSTCNT_COUNT, Reg.SYS_RST, Reg.SYS_RSTCNT]; omega), State.wr64,
    State.rd_wr_other _ _ (by decide), State.rd_wr_other _ _ (by decide), State.rd_wr_same]
  rfl

theorem State.newRecord_prev (s : State) (cause scope reason : Nat) :
    (s.newRecord cause scope reason).rd Reg.SYS_RST_PREV = s.rd Reg.SYS_RST := by
  show (State.count _ _).rd Reg.SYS_RST_PREV = _
  rw [State.count, State.rd_put_other _ _ _ (by simp only [F.SYS_RSTCNT_COUNT, Reg.SYS_RST_PREV, Reg.SYS_RSTCNT]; omega),
    State.wr64, State.rd_wr_other _ _ (by decide), State.rd_wr_other _ _ (by decide), State.rd_wr_other _ _ (by decide),
    State.rd_wr_same]

theorem State.newRecord_count (s : State) (cause scope reason : Nat) :
    (s.newRecord cause scope reason).get (F.SYS_RSTCNT_COUNT cause) =
      Nat.min (s.get (F.SYS_RSTCNT_COUNT cause) + 1) 65535 := by
  have hother (y : State) {b : Nat} (v : Word) (hb : b < 0x40000040) :
      (y.wr b v).get (F.SYS_RSTCNT_COUNT cause) = y.get (F.SYS_RSTCNT_COUNT cause) :=
    State.get_of_rd (State.rd_wr_other _ _ (by simp only [F.SYS_RSTCNT_COUNT, Reg.SYS_RSTCNT]; omega))
  show (State.count _ _).get _ = _
  rw [State.count_get _ 1 (show 0 + 16 ≤ 32 by decide), State.wr64, hother _ _ (by decide), hother _ _ (by decide), hother _ _ (by decide),
    hother _ _ (by decide)]
  rfl

theorem State.loadRecord_first {s : State} {cause : Nat} (hcause : cause ≠ 1) (hfirst : recordedNow s = false)
    (scope reason : Nat) : s.loadRecord cause scope reason = s.newRecord cause scope reason := by
  rw [State.loadRecord, if_neg hcause, hfirst, if_neg Bool.false_ne_true]

theorem State.loadRecord_powerOn (s : State) (scope reason : Nat) :
    s.loadRecord 1 scope reason = s.clearRecord.newRecord 1 scope reason := by
  rw [State.loadRecord, if_pos rfl]

theorem recordedNow_of_mark {s r : State} (h : r.resetMark = s.resetMark) : recordedNow r = recordedNow s := by
  simp only [State.resetMark, Prod.mk.injEq] at h
  obtain ⟨hnow, -, hin, -⟩ := h
  rw [recordedNow, busCycle, hnow, hin, recordedNow, busCycle]

/-! ### The registers after a device reset (R498) -/

/-- A register outside a run that is copied stays, and so does one that agrees with the old file. -/
theorem State.keepRun_agrees {s old : State} {a : Nat} (n : Nat) (b : Nat) (h : s.rd a = old.rd a) :
    (s.keepRun old b n).rd a = old.rd a := by
  induction n generalizing s b with
  | zero => exact h
  | succ n ih =>
    refine ih _ ?_
    by_cases hab : a = b
    · rw [hab, State.rd_wr_same]
    · rw [State.rd_wr_other _ _ hab, h]

/-- A register of a run that is copied. -/
theorem State.keepRun_copies {s old : State} {k n : Nat} (b : Nat) (hk : k < n) :
    (s.keepRun old b n).rd (b + 4 * k) = old.rd (b + 4 * k) := by
  induction n generalizing s b k with
  | zero => omega
  | succ n ih =>
    cases k with
    | zero => exact State.keepRun_agrees (s := s.wr b (old.rd b)) n (b + 4) (State.rd_wr_same ..)
    | succ k =>
      have hnext := ih (s := s.wr b (old.rd b)) (b + 4) (Nat.lt_of_succ_lt_succ hk)
      rw [show b + 4 * (k + 1) = b + 4 + 4 * k by omega]
      exact hnext

section
variable {s : State} {a : Nat} (ha : isRecordReg a)
include ha

theorem State.shadowFromModel_recordRd (s : State) : s.shadowFromModel.rd a = s.rd a := by
  unfold State.shadowFromModel
  dsimp only
  rw [foldl_keeps (p := fun x : State => x.rd a) fun x h => State.put_recordRd ha x _ _ (.inr (by
      simp only [F.BLW_HARVEST_J, Reg.BLW_HARVEST]; omega)),
    foldl_keeps (p := fun x : State => x.rd a) fun x c => State.put_recordRd ha x _ _ (.inr (by
      simp only [F.BLW_FLOOR_MJ, Reg.BLW_FLOOR]; omega))]
  iterate 5 rw [State.put_recordRd ha _ _ _ (by decide)]

/-- The record registers that a device reset keeps: all of them but for the counts at a power-on reset. -/
theorem State.resetRegisters_recordRd {full : Bool} (hkept : a < 0x4000001c ∨ full = false)
    (halign : a % 4 = 0) : (s.resetRegisters full).rd a = s.rd a := by
  unfold State.resetRegisters
  extract_lets r r1 k1 k2 r2 r3
  have hr1 : a < 0x4000001c → r1.rd a = s.rd a := by
    intro hlow
    unfold r1
    rw [State.wr_recordRd ha _ _ (by decide)]
    refine State.keepRun_agrees 2 _ ?_
    unfold isRecordReg at ha
    obtain rfl | rfl : a = Reg.SYS_RST ∨ a = Reg.SYS_RST_PREV := by
      simp only [Reg.SYS_RST, Reg.SYS_RST_PREV]
      omega
    · exact State.keepRun_agrees 1 _ (State.keepRun_copies (k := 0) _ Nat.one_pos)
    · exact State.keepRun_copies (k := 0) _ Nat.one_pos
  clear_value r1
  have hk1 : k1.rd a = s.rd a := by
    unfold k1
    refine State.keepRun_agrees _ _ (State.keepRun_agrees _ _ (State.keepRun_agrees _ _ ?_))
    by_cases hlow : a < 0x4000001c
    · exact State.keepRun_agrees _ _ (hr1 hlow)
    · unfold isRecordReg at ha
      have hcopied := State.keepRun_copies (s := r1) (old := s) (k := (a - Reg.SYS_RSTCNT 0) / 4) (n := 14) (Reg.SYS_RSTCNT 0)
        (by simp only [Reg.SYS_RSTCNT]; omega)
      rwa [show Reg.SYS_RSTCNT 0 + 4 * ((a - Reg.SYS_RSTCNT 0) / 4) = a by simp only [Reg.SYS_RSTCNT]; omega] at hcopied
  clear_value k1
  have hk2 : k2.rd a = s.rd a := by
    unfold k2
    rw [State.put_recordRd ha _ _ _ (by decide)]
    refine State.keepRun_agrees _ _ (State.keepRun_agrees _ _ (State.keepRun_agrees _ _ (State.keepRun_agrees _ _ ?_)))
    rw [State.shadowFromModel_recordRd ha, hk1]
  clear_value k2
  have hr2 : r2.rd a = s.rd a := by
    unfold r2
    split
    case isTrue hfull =>
      refine State.keepRun_agrees _ _ (hr1 ?_)
      rcases hkept with hlow | hpart
      · exact hlow
      · exact absurd hfull (by rw [hpart]; exact Bool.false_ne_true)
    · rw [State.put_recordRd ha _ _ _ (by decide), State.put_recordRd ha _ _ _ (by decide), hk2]
  clear_value r2
  have hr3 : r3.rd a = s.rd a := by
    unfold r3
    split
    · exact hr2
    · exact State.keepRun_agrees _ _ hr2
  clear_value r3
  unfold State.showStrap
  iterate 2 rw [State.put_recordRd ha _ _ _ (by decide)]
  refine State.keepRun_agrees _ _ ?_
  iterate 2 rw [State.put_recordRd ha _ _ _ (by decide)]
  rw [State.wr64_recordRd ha _ _ (by decide), State.wr_recordRd ha _ _ (by decide)]
  exact hr3

theorem State.resetUsage_recordRd (x old : State) (lost : Bool) (h : x.rd a = old.rd a) :
    (x.resetUsage old lost).rd a = old.rd a := by
  unfold State.resetUsage
  refine List.foldlRecOn (motive := fun y : State => y.rd a = old.rd a) _ _ h fun y hy n hn => ?_
  have := List.mem_range.mp hn
  split
  · exact State.keepRun_agrees _ _ hy
  · split
    · exact (State.wr64_recordRd ha y _ (.inr (by simp only [Reg.CRY_SLOT_USE_LO]; omega))).trans hy
    · exact (State.wr64_recordRd ha y _ (.inr (by simp only [Reg.CRY_SLOT_USE_LO]; omega))).trans hy

end

/-! ### A device reset (R498, R503) -/

/-- The state whose registers and memories a device reset clears: its items have ended, and the record is loaded. -/
def State.recorded (s : State) (cause : Nat) : State :=
  (if cause = 1 then { s.cutOps.cutStore with items := [], hre := Hre.reset }
    else s.cutOps.cutStore.endForReset (resetStatus cause) (resetReason s cause)).loadRecord cause 0 (resetReason s cause)

theorem State.deviceReset_recordRd (s : State) (cause : Nat) {a : Nat} (ha : isRecordReg a)
    (hkept : a < 0x4000001c ∨ cause ≠ 1) (halign : a % 4 = 0) : (s.deviceReset cause).rd a = (s.recorded cause).rd a := by
  unfold State.deviceReset
  extract_lets reason full lost esmLost s1 s2 s3 r r1 r2
  have hs3 : s3 = s.recorded cause := by
    unfold s3 s2 State.recorded full
    simp only [decide_eq_true_eq]
    rfl
  have hr : r.rd a = s3.rd a :=
    State.resetUsage_recordRd ha _ _ _ (State.resetRegisters_recordRd ha (hkept.imp id fun h => decide_eq_false h) halign)
  have hr1 : r1.rd a = s3.rd a :=
    State.rd_ite ((State.put_recordRd ha _ _ _ (by decide)).trans hr) ((State.put_recordRd ha _ _ _ (by decide)).trans hr)
  have hr2 : r2.rd a = s3.rd a := (State.put_recordRd ha _ _ _ (by decide)).trans hr1
  rw [← hs3]
  exact (State.syncItems_recordRd ha _).trans hr2

/-- What a device reset leaves outside the registers. -/
theorem State.deviceReset_clears (s : State) (cause : Nat) :
    (s.deviceReset cause).sram = [] ∧ (s.deviceReset cause).cry.vault = List.replicate 64 0 ∧
      (s.deviceReset cause).cpx.session = false ∧ (s.deviceReset cause).chn.cells = [] ∧
      (s.deviceReset cause).sup.power = .run ∧ (s.deviceReset cause).upd.bootPending = true := by
  unfold State.deviceReset
  extract_lets reason full lost esmLost s1 s2 s3 r r1 r2
  exact ⟨rfl, rfl, rfl, rfl, rfl, rfl⟩

/-- The state whose record a device reset loads. -/
def State.ended (s : State) (cause : Nat) : State :=
  if cause = 1 then { s.cutOps.cutStore with items := [], hre := Hre.reset }
  else s.cutOps.cutStore.endForReset (resetStatus cause) (resetReason s cause)

theorem State.ended_resetMark (s : State) (cause : Nat) : (s.ended cause).resetMark = s.resetMark := by
  unfold State.ended
  split
  · exact s.cut_keeps.1
  · exact (State.endForReset_resetMark ..).trans s.cut_keeps.1

/-- Without items nothing but cut-off operations comes before the record. -/
theorem State.ended_empty {s : State} {cause : Nat} (hitems : s.items = []) (hcause : cause ≠ 1) :
    s.ended cause = s.cutOps.cutStore := by
  have hempty : s.cutOps.cutStore.items = [] := s.cut_keeps.2.1.trans hitems
  rw [State.ended, if_neg hcause, State.endForReset, hempty, List.foldl_nil]

theorem State.ended_items {s : State} {cause : Nat} (h : s.items = [] ∨ cause = 1) : (s.ended cause).items = [] := by
  by_cases hcause : cause = 1
  · rw [State.ended, if_pos hcause]
  · have hitems := h.resolve_right hcause
    rw [State.ended_empty hitems hcause, s.cut_keeps.2.1, hitems]

theorem State.clearRecord_keeps (s : State) :
    s.clearRecord.net = s.net ∧ s.clearRecord.sup.iosel = s.sup.iosel ∧ s.clearRecord.hostMem = s.hostMem ∧
      s.clearRecord.items = s.items := by
  unfold State.clearRecord
  rw [foldl_keeps (p := State.net) fun x k => State.put_net .., foldl_keeps (p := State.sup) fun x k => State.put_sup ..,
    foldl_keeps (p := State.hostMem) fun x k => State.put_hostMem ..,
    foldl_keeps (p := State.items) fun x k => State.put_items ..]
  exact ⟨rfl, rfl, rfl, rfl⟩

theorem State.newRecord_keeps (s : State) (cause scope reason : Nat) :
    (s.newRecord cause scope reason).net = s.net ∧ (s.newRecord cause scope reason).sup.iosel = s.sup.iosel ∧
      (s.newRecord cause scope reason).hostMem = s.hostMem ∧ (s.newRecord cause scope reason).items = s.items :=
  ⟨rfl, rfl, rfl, rfl⟩

/-- What a recorded reset leaves beside the registers. -/
theorem State.loadRecord_keeps (s : State) (cause scope reason : Nat) :
    (s.loadRecord cause scope reason).net = s.net ∧ (s.loadRecord cause scope reason).sup.iosel = s.sup.iosel ∧
      (s.loadRecord cause scope reason).hostMem = s.hostMem ∧ (s.loadRecord cause scope reason).items = s.items := by
  unfold State.loadRecord
  split
  · obtain ⟨hnet, hiosel, hhost, hitems⟩ := s.clearRecord.newRecord_keeps cause scope reason
    rw [hnet, hiosel, hhost, hitems]
    exact s.clearRecord_keeps
  · split
    · split
      · exact ⟨rfl, rfl, rfl, rfl⟩
      · exact s.takeBackRecord.newRecord_keeps cause scope reason
    · exact s.newRecord_keeps cause scope reason

/-! The new register file leaves the host's memory. -/

theorem State.keepRun_hostMem (s old : State) (a n : Nat) : (s.keepRun old a n).hostMem = s.hostMem := by
  induction n generalizing s a with
  | zero => rfl
  | succ n ih => exact ih ..

theorem State.shadowFromModel_hostMem (s : State) : s.shadowFromModel.hostMem = s.hostMem := by
  unfold State.shadowFromModel
  dsimp only
  rw [foldl_keeps (p := State.hostMem) fun x h => State.put_hostMem ..,
    foldl_keeps (p := State.hostMem) fun x c => State.put_hostMem ..]
  rfl

theorem State.resetRegisters_hostMem (s : State) (full : Bool) : (s.resetRegisters full).hostMem = s.hostMem := by
  unfold State.resetRegisters State.showStrap
  dsimp only
  simp only [State.put_hostMem, State.wr_hostMem, State.wr64_hostMem, State.keepRun_hostMem,
    apply_ite State.hostMem, State.shadowFromModel_hostMem, ite_self]

theorem State.resetUsage_hostMem (s old : State) (lost : Bool) : (s.resetUsage old lost).hostMem = s.hostMem := by
  unfold State.resetUsage
  refine foldl_keeps (p := State.hostMem) (fun x n => ?_) _ _
  split
  · exact State.keepRun_hostMem ..
  · split <;> rfl

/-- What a device reset keeps outside the registers. -/
theorem State.deviceReset_keeps (s : State) (cause : Nat) :
    (s.deviceReset cause).net = (if cause = 1 then 0 else s.net) ∧ (s.deviceReset cause).hostMem = s.hostMem ∧
      (s.deviceReset cause).sup.iosel = s.sup.iosel ∧
      (s.items = [] ∨ cause = 1 → (s.deviceReset cause).items = []) := by
  have hmark := s.ended_resetMark cause
  simp only [State.resetMark, Prod.mk.injEq] at hmark
  obtain ⟨-, hnet, -, hiosel, hhost⟩ := hmark
  obtain ⟨hlnet, hliosel, hlhost, hlitems⟩ := (s.ended cause).loadRecord_keeps cause 0 (resetReason s cause)
  unfold State.deviceReset
  extract_lets reason full lost esmLost s1 s2 s3 r r1 r2
  have hs3 : s3 = (s.ended cause).loadRecord cause 0 (resetReason s cause) := by
    unfold s3 s2 State.ended full
    simp only [decide_eq_true_eq]
    rfl
  rw [← hs3] at hlnet hliosel hlhost hlitems
  clear_value s3
  refine ⟨?_, ?_, ?_, fun hnone => ?_⟩
  · refine (State.syncItems_keeps (p := State.net) State.put_net _).trans ?_
    show (if full = true then 0 else s3.net) = _
    rw [hlnet, hnet]
    simp only [full, decide_eq_true_eq]
  · refine (State.syncItems_keeps (p := State.hostMem) State.put_hostMem _).trans ?_
    have hr : r.hostMem = s3.hostMem := (State.resetUsage_hostMem ..).trans (State.resetRegisters_hostMem ..)
    have hr1 : r1.hostMem = r.hostMem := by
      unfold r1
      split <;> rfl
    exact hr1.trans (hr.trans (hlhost.trans hhost))
  · refine (State.syncItems_keeps (p := fun x : State => x.sup.iosel) (fun _ _ _ => rfl) _).trans ?_
    exact hliosel.trans hiosel
  · rw [State.syncItems_items]
    show s3.items.map _ = []
    rw [hlitems, State.ended_items hnone, List.map_nil]

/-- The record of a reset, and what it counts. -/
theorem State.recorded_first {s : State} {cause : Nat} (hcause : cause ≠ 1) (hfirst : recordedNow s = false) :
    s.recorded cause = (s.ended cause).newRecord cause 0 (resetReason s cause) :=
  State.loadRecord_first hcause ((recordedNow_of_mark (s.ended_resetMark cause)).trans hfirst) _ _

theorem State.deviceReset_cause {s : State} {cause : Nat} (hcause : cause < 16) (h : cause = 1 ∨ recordedNow s = false) :
    (s.deviceReset cause).rd Reg.SYS_RST = recordWord cause 0 (resetReason s cause) := by
  rw [State.deviceReset_recordRd s cause (.inl ⟨by decide, by decide⟩) (.inl (by decide)) (by decide)]
  by_cases hone : cause = 1
  · subst hone
    exact (congrArg (fun y : State => y.rd Reg.SYS_RST) (State.loadRecord_powerOn ..)).trans (State.newRecord_rd ..)
  · rw [State.recorded_first hone (h.resolve_left hone), State.newRecord_rd]

/-- CAUSE of the first reset of an AON bus cycle. -/
theorem State.deviceReset_get_cause {s : State} {cause : Nat} (hcause : cause < 16) (h : cause = 1 ∨ recordedNow s = false) :
    (s.deviceReset cause).get F.SYS_RST_CAUSE = cause :=
  (congrArg F.SYS_RST_CAUSE.value (State.deviceReset_cause hcause h)).trans
    (recordWord_fields hcause (by decide) (resetReason_lt ..)).1

/-- A state with another supply state. -/
def State.resupplied (s : State) (p : Sup) : State := { s with sup := p }

theorem State.resupplied_get (s : State) (p : Sup) (f : Fld) : (s.resupplied p).get f = s.get f := rfl
theorem State.resupplied_upd (s : State) (p : Sup) : (s.resupplied p).upd = s.upd := rfl
theorem State.resupplied_sup (s : State) (p : Sup) : (s.resupplied p).sup = p := rfl

/-- What holds of a first reset in its AON bus cycle, whatever the supply does after it. -/
theorem State.deviceReset_resupplied {s : State} {cause : Nat} (hcause : cause < 16) (hfirst : recordedNow s = false)
    (p : Sup) : ((s.deviceReset cause).resupplied p).get F.SYS_RST_CAUSE = cause ∧
      ((s.deviceReset cause).resupplied p).upd.bootPending = true := by
  obtain ⟨-, -, -, -, -, hboot⟩ := s.deviceReset_clears cause
  rw [State.resupplied_get, State.resupplied_upd]
  exact ⟨State.deviceReset_get_cause hcause (.inr hfirst), hboot⟩

theorem State.brownOut_resets {s : State} {mv : Nat} (hpower : s.sup.power ≠ .off) (hmv : mv < 1620)
    (hbrown : s.sup.brown = false) :
    s.brownOut mv = (s.deviceReset 2).resupplied { (s.deviceReset 2).sup with brown := true } := by
  have hrun : ¬ (s.sup.power = .off ∨ 1620 ≤ mv ∨ s.sup.brown = true) := by
    rw [hbrown]
    simp [hpower, Nat.not_le.mpr hmv]
  exact if_neg hrun

theorem State.overvoltage_resets {s : State} {mv : Nat} (hpower : s.sup.power ≠ .off) (hmv : 5800 < mv)
    (hclosed : s.sup.switchOpen = false) :
    s.overvoltage mv = (s.deviceReset 3).resupplied { (s.deviceReset 3).sup with switchOpen := true } := by
  have hrun : 5800 < mv ∧ (!s.sup.switchOpen) = true := ⟨hmv, by rw [hclosed]; rfl⟩
  exact (if_neg hpower).trans (if_pos hrun)

theorem State.resetPin_resets {s : State} (hpin : s.sup.pinLow = none) (hpower : s.sup.power ≠ .off) :
    s.resetPin true = (s.deviceReset 4).resupplied { (s.deviceReset 4).sup with pinLow := some s.now } := by
  have hrun : ¬ (s.sup.pinLow.isSome = true ∨ s.sup.power = .off) := by
    rw [hpin]
    simp [hpower]
  exact (if_neg Bool.false_ne_true).trans (if_neg hrun)

/-- A power-on reset, whose record shows whether the pin was long low. -/
theorem State.powerOnReset_shows (s : State) (iosel : Nat) (long : Bool) :
    (s.powerOnReset iosel long).get F.SYS_RST_CAUSE = 1 ∧ (s.powerOnReset iosel long).on F.SYS_RST_PIN_LONG = long ∧
      (s.powerOnReset iosel long).net = 0 ∧ (s.powerOnReset iosel long).items = [] ∧
      (s.powerOnReset iosel long).sup.iosel = iosel % 3 ∧ (s.powerOnReset iosel long).sup.power = .run ∧
      (s.powerOnReset iosel long).upd.bootPending = true := by
  unfold State.powerOnReset
  dsimp only
  generalize hx : { s with sup := { s.sup with iosel := iosel % 3 } } = x
  have hiosel : x.sup.iosel = iosel % 3 := by rw [← hx]
  obtain ⟨hnet, -, hkept, hitems⟩ := x.deviceReset_keeps 1
  obtain ⟨-, -, -, -, hpower, hboot⟩ := x.deviceReset_clears 1
  have hcause : (x.deviceReset 1).get F.SYS_RST_CAUSE = 1 := State.deviceReset_get_cause (by decide) (.inl rfl)
  replace hnet := hnet.trans (if_pos rfl)
  replace hitems := hitems (.inr rfl)
  generalize x.deviceReset 1 = y at hnet hkept hitems hpower hboot hcause
  refine ⟨?_, ?_, hnet, hitems, hkept.trans hiosel, hpower, hboot⟩
  · exact (State.get_put_field _ _ _ _ (by decide) (by decide)).trans hcause
  · cases long
    · exact State.on_put_zero _ _ (by decide)
    · exact State.on_put_one _ _ (by decide) (by decide)

/-- The reset of the cores and the partition leaves the reset record. -/
theorem State.restart_recordRd (s : State) {a : Nat} (ha : isRecordReg a) : s.restartCores.startPartition.rd a = s.rd a := by
  have hcores : s.restartCores.rd a = s.rd a := by
    unfold State.restartCores
    rw [State.put_recordRd ha _ _ _ (by decide), State.put_recordRd ha _ _ _ (by decide)]
    rfl
  unfold State.startPartition
  split
  · exact (State.put_recordRd ha _ _ _ (by decide)).trans hcores
  · split
    · exact (State.put_recordRd ha _ _ _ (by decide)).trans hcores
    · rw [State.record_rd, State.irq_rd _ _ _ (irqTouches_record ha (.inr rfl)), State.put_recordRd ha _ _ _ (by decide)]
      exact hcores

/-- CAUSE of an application reset that is the first reset of its cycle (R19). -/
theorem State.appReset_get_cause {s : State} {cause : Nat} (hcause : cause < 16) (hone : cause ≠ 1) (hseven : cause ≠ 7)
    (hfirst : recordedNow s = false) : (s.appReset cause).get F.SYS_RST_CAUSE = cause := by
  have happ : s.appReset cause = (s.newRecord cause 1 (resetReason s cause)).restartCores.startPartition := by
    rw [State.appReset, if_neg (fun h => hseven h.1), State.loadRecord_first hone hfirst]
  have hrecord : isRecordReg Reg.SYS_RST := .inl ⟨by decide, by decide⟩
  have hword : (s.appReset cause).rd Reg.SYS_RST = recordWord cause 1 (resetReason s cause) := by
    rw [happ, State.restart_recordRd _ hrecord, State.newRecord_rd]
  exact (congrArg F.SYS_RST_CAUSE.value hword).trans
    (recordWord_fields hcause (show 1 < 2 by decide) (resetReason_lt s cause)).1

/-- Settles O51: the reset record and what a device reset clears and keeps, and what each cause adds. -/
theorem deviceResets : Obligations.DeviceResets := by
  refine ⟨?reset, ?none, ?brown, ?supplied, ?opens, ?closes, ?powerOn, ?release, ?pinLow, ?pinHigh, ?pinLong, ?pinAway, ?soft,
    ?softKey, ?appKey, ?app⟩
  case reset =>
    rintro s x t c rfl hlow hhigh hseven hitems hfirst
    have hone : c ≠ 1 := by omega
    have hrun : ¬ (c = 0 ∨ 13 < c ∨ c = 7) := by omega
    have hword := State.deviceReset_cause (s := s.at t) (cause := c) (by omega) (.inr hfirst)
    obtain ⟨hcause, hscope, hreason⟩ := recordWord_fields (cause := c) (scope := 0) (by omega) (by decide)
      (resetReason_lt (s.at t) c)
    obtain ⟨hsram, hvault, hsession, hcells, hpower, hboot⟩ := (s.at t).deviceReset_clears c
    obtain ⟨hnet, hhost, -, hnone⟩ := (s.at t).deviceReset_keeps c
    have hended : (s.at t).recorded c = (s.at t).cutOps.cutStore.newRecord c 0 (resetReason (s.at t) c) := by
      rw [State.recorded_first hone hfirst, State.ended_empty hitems hone]
    obtain ⟨-, -, hrd⟩ := (s.at t).cut_keeps
    refine ⟨_, congrArg Host.Outcome.next (if_neg hrun), ?_, ?_, ?_, ?_, ?_, hsram, hvault, hsession, hcells, hpower, hboot,
      hnet.trans (if_neg hone), hhost, hnone (.inl hitems)⟩
    · exact (congrArg F.SYS_RST_CAUSE.value hword).trans hcause
    · exact (congrArg F.SYS_RST_SCOPE.value hword).trans hscope
    · exact (congrArg F.SYS_RST_REASON.value hword).trans hreason
    · rw [State.deviceReset_recordRd _ _ (.inl ⟨by decide, by decide⟩) (.inl (by decide)) (by decide), hended,
        State.newRecord_prev, hrd _ (.inl ⟨by decide, by decide⟩)]
    · have hcounter : isRecordReg (Reg.SYS_RSTCNT c) := .inr (by simp only [Reg.SYS_RSTCNT]; omega)
      refine (State.get_of_rd (State.deviceReset_recordRd _ _ hcounter (.inr hone) ?_)).trans ?_
      · show (0x40000040 + c * 4) % 4 = 0
        omega
      · rw [hended, State.newRecord_count, State.get_of_rd (s := s.at t) (hrd _ hcounter)]
  case none =>
    rintro s x t rfl
    rfl
  case brown =>
    rintro s x t mv rfl hpower hmv hbrown hfirst
    exact ⟨_, congrArg Host.Outcome.next (State.brownOut_resets hpower hmv hbrown), congrArg Sup.brown (State.resupplied_sup ..),
      State.deviceReset_resupplied (by decide) hfirst _⟩
  case supplied =>
    rintro s x t mv rfl hmv
    exact congrArg Host.Outcome.next (if_pos (.inr (.inl hmv)))
  case opens =>
    rintro s x t mv rfl hpower hmv hclosed hfirst
    exact ⟨_, congrArg Host.Outcome.next (State.overvoltage_resets hpower hmv hclosed),
      congrArg Sup.switchOpen (State.resupplied_sup ..), State.deviceReset_resupplied (by decide) hfirst _⟩
  case closes =>
    rintro s x t mv rfl hpower hmv
    have hrun : ¬ (5800 < mv ∧ (!(s.at t).sup.switchOpen) = true) := by omega
    exact ⟨_, congrArg Host.Outcome.next ((if_neg hpower).trans ((if_neg hrun).trans (if_pos hmv))), rfl, rfl, rfl⟩
  case powerOn =>
    rintro s x t iosel rfl hpower hiosel
    obtain ⟨hcause, -, hnet, hitems, hstrap, hrun, hboot⟩ :=
      { s.at t with sup := { (s.at t).sup with brown := false } }.powerOnReset_shows iosel false
    exact ⟨_, congrArg Host.Outcome.next (if_pos hpower), hrun, hcause, hstrap.trans (Nat.mod_eq_of_lt hiosel), hnet, hitems,
      hboot⟩
  case release =>
    rintro s x t iosel rfl hpower
    exact congrArg Host.Outcome.next (if_neg hpower)
  case pinLow =>
    rintro s x t rfl hpin hpower hfirst
    exact ⟨_, congrArg Host.Outcome.next (State.resetPin_resets hpin hpower), congrArg Sup.pinLow (State.resupplied_sup ..),
      State.deviceReset_resupplied (by decide) hfirst _⟩
  case pinHigh =>
    rintro s x t rfl
    exact ⟨_, rfl, rfl, rfl, rfl⟩
  case pinLong =>
    rintro s x t iosel a rfl hpin hlong hshown
    obtain ⟨hcause, hpinLong, hnet, hitems, -⟩ := (s.at t).powerOnReset_shows iosel true
    have hreset : (s.at t).resetPinLong iosel = (s.at t).powerOnReset iosel true := by
      rw [State.resetPinLong, hpin]
      exact if_pos ⟨hlong, by rw [hshown]; rfl⟩
    exact ⟨_, congrArg Host.Outcome.next hreset, hcause, hpinLong, hnet, hitems⟩
  case pinAway =>
    rintro s x t iosel rfl hpin
    refine congrArg Host.Outcome.next ?_
    rw [State.resetPinLong, hpin]
  case soft =>
    rintro s x t v rfl hkey hreset hfirst
    have hrun : ¬ bits v.toNat 31 16 ≠ 0xD1A6 := fun h => h hkey
    exact ⟨_, congrArg Host.Outcome.next ((if_neg hrun).trans (if_pos hreset)), rfl,
      State.deviceReset_get_cause (by decide) (.inr hfirst)⟩
  case softKey =>
    rintro s x t v rfl hkey
    exact congrArg Host.Outcome.next (if_pos hkey)
  case appKey =>
    rintro s x t v rfl hkey
    exact congrArg Host.Outcome.next (if_pos hkey)
  case app =>
    rintro s x t v rfl hkey hreset happ hfirst
    have hrun : ¬ bits v.toNat 31 16 ≠ 0xD1A6 := fun h => h hkey
    have hnot : ¬ bits v.toNat 0 0 = 1 := by rw [hreset]; decide
    exact ⟨_, congrArg Host.Outcome.next ((if_neg hrun).trans ((if_neg hnot).trans (if_pos happ))), rfl,
      State.appReset_get_cause (by decide) (by decide) (by decide) hfirst⟩

end Sys2Proof.Machine

/-! PROOFS. Activation, trial and reversion of device images (R408, R409, R413). -/

namespace Sys2Proof.Machine

/-! ### The activation log and the session (R402, R406) -/

theorem State.appendLog_offFlash (s : State) (base : Nat) (keep : List (List Byte)) (e : List Byte) :
    (s.appendLog base keep e).offFlash = s.offFlash := by
  unfold State.appendLog
  extract_lets used b other s1
  split
  · exact State.program_offFlash ..
  · exact (State.eraseRange_offFlash ..).trans ((State.program_offFlash ..).trans (State.eraseRange_offFlash ..))

theorem State.actFor_offFlash (s : State) (kind bobbin reason : Nat) (m : List Byte) (trial : Nat) :
    (s.actFor kind bobbin reason m trial).offFlash = s.offFlash := State.appendLog_offFlash ..

theorem State.eraseSessions_offFlash (s : State) : s.eraseSessions.offFlash = s.offFlash := rfl

/-- A change of flash leaves the registers. -/
theorem State.rd_of_offFlash {s r : State} (h : r.offFlash = s.offFlash) (a : Nat) : r.rd a = s.rd a :=
  (congrArg (fun y : State => y.rd a) h :)

theorem State.upd_of_offFlash {s r : State} (h : r.offFlash = s.offFlash) : r.upd = s.upd :=
  (congrArg State.upd h :)
theorem State.now_of_offFlash {s r : State} (h : r.offFlash = s.offFlash) : r.now = s.now :=
  (congrArg State.now h :)
theorem State.sram_of_offFlash {s r : State} (h : r.offFlash = s.offFlash) : r.sram = s.sram :=
  (congrArg State.sram h :)

/-! ### The registers that follow the session -/

/-- The registers of UPD are written field by field. -/
theorem State.syncUpd_keeps {β : Type} {p : State → β} (hput : ∀ x f v, p (State.put x f v) = p x)
    (hwr : ∀ x a v, p (State.wr x a v) = p x) (s : State) : p s.syncUpd = p s := by
  unfold State.syncUpd
  dsimp only
  split
  · simp only [hput, hwr]
  · simp only [hput]

section
variable (s : State)

theorem State.syncUpd_upd : s.syncUpd.upd = s.upd := State.syncUpd_keeps State.put_upd State.wr_upd s
theorem State.syncUpd_items : s.syncUpd.items = s.items := State.syncUpd_keeps State.put_items State.wr_items s
theorem State.syncUpd_flc : s.syncUpd.flc = s.flc := State.syncUpd_keeps State.put_flc State.wr_flc s
theorem State.syncUpd_sram : s.syncUpd.sram = s.sram := State.syncUpd_keeps State.put_sram State.wr_sram s

/-- Is an address none of the registers that follow the session? -/
def besideSession (a : Nat) : Prop :=
  a ≠ Reg.UPD_STATUS ∧ a ≠ Reg.UPD_HELD ∧ a ≠ Reg.UPD_STG_EPOCH ∧ a ≠ Reg.UPD_STG_VERSION

theorem State.syncUpd_rd {a : Nat} (ha : besideSession a) : s.syncUpd.rd a = s.rd a := by
  obtain ⟨hstatus, hheld, hepoch, hversion⟩ := ha
  unfold State.syncUpd
  dsimp only
  split
  · rw [State.rd_put_other _ _ _ hversion, State.rd_put_other _ _ _ hepoch, State.rd_wr_other _ _ hheld,
      State.rd_put_other _ _ _ hstatus, State.rd_put_other _ _ _ hstatus]
  · rw [State.rd_put_other _ _ _ hversion, State.rd_put_other _ _ _ hepoch, State.rd_put_other _ _ _ hheld,
      State.rd_put_other _ _ _ hheld, State.rd_put_other _ _ _ hstatus, State.rd_put_other _ _ _ hstatus]

/-- A field of UPD_STATUS beside STAGE and SOURCE stays. -/
theorem State.syncUpd_get {f : Fld} (haddr : f.addr = Reg.UPD_STATUS) (hbits : 3 ≤ f.lo ∧ f.lo + f.width ≤ 6 ∨ 8 ≤ f.lo) :
    s.syncUpd.get f = s.get f := by
  have hreg {g : Fld} (hg : g.addr ≠ Reg.UPD_STATUS) (y : State) (v : Nat) : (y.put g v).get f = y.get f :=
    State.get_put_reg _ _ _ _ (by rw [haddr]; exact hg.symm)
  have hsource (y : State) (v : Nat) : (y.put F.UPD_STATUS_SOURCE v).get f = y.get f :=
    State.get_put_field _ _ _ _ (by decide) (by simp only [F.UPD_STATUS_SOURCE]; omega)
  have hstage (y : State) (v : Nat) : (y.put F.UPD_STATUS_STAGE v).get f = y.get f :=
    State.get_put_field _ _ _ _ (by decide) (by simp only [F.UPD_STATUS_STAGE]; omega)
  unfold State.syncUpd
  dsimp only
  split
  · rw [hreg (by decide), hreg (by decide), State.get_wr_other _ _ _ (by rw [haddr]; decide), hsource, hstage]
  · rw [hreg (by decide), hreg (by decide), hreg (by decide), hreg (by decide), hsource, hstage]

/-- STAGE stays from 3 on, and below 3 follows the session. -/
theorem State.syncUpd_stage :
    (3 ≤ s.get F.UPD_STATUS_STAGE → s.syncUpd.get F.UPD_STATUS_STAGE = s.get F.UPD_STATUS_STAGE) ∧
      (s.get F.UPD_STATUS_STAGE < 3 → s.syncUpd.get F.UPD_STATUS_STAGE < 3) := by
  have hstage (y : State) (v w : Nat) : ((y.put F.UPD_STATUS_STAGE v).put F.UPD_STATUS_SOURCE w).get F.UPD_STATUS_STAGE = v % 8 :=
    (State.get_put_field _ _ _ _ (by decide) (by decide)).trans (State.get_put_same _ _ _ (by decide))
  have hlt := State.get_lt s F.UPD_STATUS_STAGE
  have hwidth : 2 ^ F.UPD_STATUS_STAGE.width = 8 := rfl
  unfold State.syncUpd
  dsimp only
  split
  · rw [State.get_put_reg _ _ _ _ (by decide), State.get_put_reg _ _ _ _ (by decide), State.get_wr_other _ _ _ (by decide),
      hstage]
    split <;> omega
  · rw [State.get_put_reg _ _ _ _ (by decide), State.get_put_reg _ _ _ _ (by decide),
      State.get_put_reg _ _ _ _ (by decide), State.get_put_reg _ _ _ _ (by decide), hstage]
    split
    · omega
    · split <;> omega

end

/-! ### Arming, and the end of an activation without a switch (R408) -/

/-- A state whose UPD has another state. -/
def State.withUpd (s : State) (u : Upd) : State := { s with upd := u }

theorem State.withUpd_rd (s : State) (u : Upd) (a : Nat) : (s.withUpd u).rd a = s.rd a := rfl
theorem State.withUpd_get (s : State) (u : Upd) (f : Fld) : (s.withUpd u).get f = s.get f := rfl

/-- An activation record, then a field of UPD_STATUS, changes flash and the field alone. -/
theorem State.actFor_rd (s : State) (kind bobbin reason : Nat) (m : List Byte) (trial a : Nat) :
    (s.actFor kind bobbin reason m trial).rd a = s.rd a :=
  State.rd_of_offFlash (State.actFor_offFlash ..) a

/-- The reports of UPD leave its registers but UPD_ISR. -/
theorem irqTouches_upd {a : Nat} (hlow : 0x400f0000 ≤ a) (hhigh : a < 0x40100000) (ha : a ≠ Reg.UPD_ISR) :
    irqTouches Blk.UPD a = false := by
  simp only [Reg.UPD_ISR] at ha
  simp [irqTouches, isrOf, Blk.UPD, Reg.SUP_STATUS, Reg.CPX_PLIC_PEND, Reg.UPD_ISR]
  omega

/-- An armed activation, before its deadline is set. -/
def State.armed (s : State) : State :=
  (((s.put F.UPD_STATUS_STAGE 3).actFor 2 (targetBobbin s) 0 (manifestOf s (targetBobbin s))).irq Blk.UPD (2 ^ 2))

theorem State.activate_arms {s : State} (hen : s.en Blk.UPD = true) (hstage : s.get F.UPD_STATUS_STAGE = 2) :
    s.activate = s.armed.withUpd { s.armed.upd with quiesceBy := some (s.armed.now + quiesceU s.armed) } := by
  rw [State.activate, hen, hstage]
  rfl

theorem State.armed_shows (s : State) :
    s.armed.get F.UPD_STATUS_STAGE = 3 ∧ s.armed.now = s.now ∧ quiesceU s.armed = quiesceU s ∧
      bits (s.armed.rd Reg.UPD_ISR).toNat 2 2 = 1 ∧ s.armed.items = s.items := by
  have hrd {a : Nat} (ha : irqTouches Blk.UPD a = false) : s.armed.rd a = (s.put F.UPD_STATUS_STAGE 3).rd a := by
    rw [State.armed, State.irq_rd _ _ _ ha, State.actFor_rd]
  refine ⟨?_, ?_, ?_, State.irq_isr_bit (k := 2) _ (by decide) rfl (by decide) (by decide), ?_⟩
  · rw [State.get_of_rd (hrd (by decide))]
    exact State.get_put_same _ _ _ (by decide)
  · rw [State.armed, State.irq_now, State.now_of_offFlash (State.actFor_offFlash ..)]
    rfl
  · rw [quiesceU, State.get_of_rd (hrd (by decide)), State.get_put_reg _ _ _ _ (by decide), quiesceU]
  · rw [State.armed, State.irq_items, State.items_of_offFlash (State.actFor_offFlash ..)]
    rfl

/-- What an activation that ends without a switch shows and leaves. -/
theorem State.abandonArmed_shows (s : State) {code : Nat} (hcode : code < 65536) :
    (s.abandonArmed code).get F.UPD_STATUS_STAGE = 2 ∧ (s.abandonArmed code).get F.UPD_STATUS_REASON = code ∧
      (s.abandonArmed code).get F.UPD_STATUS_RUN_BOBBIN = s.get F.UPD_STATUS_RUN_BOBBIN ∧
      (s.abandonArmed code).upd.quiesceBy = none ∧ (s.abandonArmed code).items = s.items := by
  unfold State.abandonArmed
  extract_lets b s1
  have hstage : s1.get F.UPD_STATUS_STAGE = 2 :=
    (State.get_put_field _ _ _ _ (by decide) (by decide)).trans (State.get_put_same _ _ _ (by decide))
  have hreason : s1.get F.UPD_STATUS_REASON = code :=
    (State.get_put_same _ _ _ (by decide)).trans (Nat.mod_eq_of_lt hcode)
  have hbobbin : s1.get F.UPD_STATUS_RUN_BOBBIN = s.get F.UPD_STATUS_RUN_BOBBIN :=
    (State.get_put_field _ _ _ _ (by decide) (by decide)).trans ((State.get_put_field _ _ _ _ (by decide) (by decide)).trans
      (State.get_of_rd (State.actFor_rd ..)))
  have hact := s.actFor_offFlash 7 b code (manifestOf s b) 0
  have hitems : s1.items = s.items := (State.items_of_offFlash hact :)
  exact ⟨hstage, hreason, hbobbin, rfl, hitems⟩

/-! ### The switch (R408) -/

/-- The window on bobbin `b`, before the cores restart. -/
def State.shown (s : State) (b : Nat) : State :=
  (((s.measureImage (manifestOf s b)).put F.UPD_STATUS_RUN_BOBBIN b).put F.UPD_RUN_EPOCH_EPOCH (manEpoch (manifestOf s b))).put
    F.UPD_RUN_VERSION_VERSION (manVersion (manifestOf s b))

theorem State.startPartition_keeps (s : State) :
    s.startPartition.now = s.now ∧ s.startPartition.sram = s.sram ∧ s.startPartition.items = s.items ∧
      ∀ a, a ≠ Reg.CPX_STATUS → irqTouches Blk.CPX a = false → s.startPartition.rd a = s.rd a := by
  have hput (v a : Nat) (ha : a ≠ Reg.CPX_STATUS) : (s.put F.CPX_STATUS_PART v).rd a = s.rd a :=
    State.rd_put_other _ _ _ ha
  unfold State.startPartition
  split
  · exact ⟨rfl, rfl, rfl, fun a ha _ => hput 0 a ha⟩
  split
  · exact ⟨rfl, rfl, rfl, fun a ha _ => hput 1 a ha⟩
  · refine ⟨?_, ?_, ?_, fun a ha hirq => ?_⟩
    · rw [State.record_now, State.irq_now]; rfl
    · rw [State.record_sram, State.irq_sram]; rfl
    · rw [State.record_items, State.irq_items]; rfl
    · rw [State.record_rd, State.irq_rd _ _ _ hirq, hput 2 a ha]

theorem State.window_keeps (s : State) (b : Nat) :
    (s.window b).now = s.now ∧ (s.window b).sram = s.sram ∧ (s.window b).items = s.items ∧
      (s.window b).get F.UPD_STATUS_RUN_BOBBIN = b % 2 := by
  have hwindow : s.window b = ({ s.shown b with cpx := { (s.shown b).cpx with icache := [[], [], [], []] } }
    : State).restartCores.startPartition := rfl
  generalize hy : ({ s.shown b with cpx := { (s.shown b).cpx with icache := [[], [], [], []] } } : State).restartCores = y
    at hwindow
  obtain ⟨hnow, hsram, hitems, hrd⟩ := y.startPartition_keeps
  rw [hwindow]
  refine ⟨hnow.trans ?_, hsram.trans ?_, hitems.trans ?_, ?_⟩
  · rw [← hy]; rfl
  · rw [← hy]; rfl
  · rw [← hy]; rfl
  · rw [State.get_of_rd (hrd Reg.UPD_STATUS (by decide) (by decide)), ← hy]
    have hcores (z : State) : z.restartCores.get F.UPD_STATUS_RUN_BOBBIN = z.get F.UPD_STATUS_RUN_BOBBIN :=
      (State.get_put_reg _ _ _ _ (by decide)).trans (State.get_put_reg _ _ _ _ (by decide))
    rw [hcores]
    exact (State.get_put_reg _ _ _ _ (by decide)).trans ((State.get_put_reg _ _ _ _ (by decide)).trans
      (State.get_put_same _ _ _ (by decide)))

/-- The running state of the new image, before its deadlines are set. -/
def State.switched (s : State) : State :=
  (((s.actFor 3 (targetBobbin s) 0 (manifestOf s (targetBobbin s)) (manTrial (manifestOf s (targetBobbin s)))).window
    (targetBobbin s)).put F.UPD_STATUS_STAGE 4).irq Blk.UPD (2 ^ 3)

theorem State.switched_shows (s : State) :
    s.switched.get F.UPD_STATUS_STAGE = 4 ∧ s.switched.get F.UPD_STATUS_RUN_BOBBIN = targetBobbin s % 2 ∧
      s.switched.now = s.now ∧ s.switched.sram = s.sram ∧ s.switched.items = s.items ∧
      bits (s.switched.rd Reg.UPD_ISR).toNat 3 3 = 1 := by
  unfold State.switched
  have hact := s.actFor_offFlash 3 (targetBobbin s) 0 (manifestOf s (targetBobbin s)) (manTrial (manifestOf s (targetBobbin s)))
  generalize State.actFor s 3 _ _ _ _ = y at hact ⊢
  obtain ⟨hnow, hsram, hitems, hbobbin⟩ := y.window_keeps (targetBobbin s)
  refine ⟨?_, ?_, ?_, ?_, ?_, State.irq_isr_bit (k := 3) _ (by decide) rfl (by decide) (by decide)⟩
  · exact (State.irq_get _ _ _ (by decide)).trans (State.get_put_same _ _ _ (by decide))
  · exact (State.irq_get _ _ _ (by decide)).trans ((State.get_put_field _ _ _ _ (by decide) (by decide)).trans hbobbin)
  · rw [State.irq_now, State.put_now, hnow, State.now_of_offFlash hact]
  · rw [State.irq_sram, State.put_sram, hsram, State.sram_of_offFlash hact]
  · rw [State.irq_items, State.put_items, hitems, State.items_of_offFlash hact]

/-- The deadlines of the new image. -/
def Upd.onTrial (u : Upd) (now trial : Nat) : Upd :=
  { u with quiesceBy := none, aliveBy := some (now + msU 50), trialEnd := some (now + trial * secondU), handoverAt := now }

theorem Upd.onTrial_aliveBy (u : Upd) (now trial : Nat) : (u.onTrial now trial).aliveBy = some (now + msU 50) := rfl
theorem Upd.onTrial_trialEnd (u : Upd) (now trial : Nat) : (u.onTrial now trial).trialEnd = some (now + trial * secondU) := rfl

theorem State.switchOver_good {s : State} (hgood : forwardGood s (manHandover (manifestOf s (targetBobbin s))) = true) :
    s.switchOver = (s.switched.withUpd (s.switched.upd.onTrial s.switched.now
      (manTrial (manifestOf s (targetBobbin s))))).syncUpd := by
  unfold State.switchOver
  dsimp only
  rw [hgood]
  rfl

theorem State.switchOver_bad {s : State} (hbad : forwardGood s (manHandover (manifestOf s (targetBobbin s))) = false) :
    s.switchOver = s.abandonArmed 0x0FF7 := by
  unfold State.switchOver
  dsimp only
  rw [hbad]
  rfl

theorem State.handover_armed {s : State} (n : Nat) (hen : s.en Blk.UPD = true) (hstage : s.get F.UPD_STATUS_STAGE = 3) :
    s.handover (.core n) = s.switchOver := by
  rw [State.handover, hen, if_neg (by exact Bool.false_ne_true), if_pos hstage]

theorem targetBobbin_lt (s : State) : targetBobbin s < 2 := by
  unfold targetBobbin
  split <;> omega

/-! ### ALIVE, CONFIRM and the reversion (R408, R409) -/

/-- The new image is alive, and the blackout is shown. -/
def State.aliveShown (s : State) : State :=
  (s.actFor 4 (s.get F.UPD_STATUS_RUN_BOBBIN) 0 (manifestOf s (s.get F.UPD_STATUS_RUN_BOBBIN))).put F.UPD_BLACKOUT_US
    (Nat.min ((s.now - s.upd.handoverAt) * 100000 / secondU) 65535)

theorem State.alive_awaited {s : State} {d : Nat} (n : Nat) (hen : s.en Blk.UPD = true)
    (hstage : s.get F.UPD_STATUS_STAGE = 4) (halive : s.upd.aliveBy = some d) :
    s.alive (.core n) = (s.aliveShown.withUpd { s.aliveShown.upd with aliveBy := none }).syncUpd := by
  rw [State.alive, hen, hstage, halive]
  rfl

theorem State.aliveShown_shows (s : State) :
    s.aliveShown.get F.UPD_STATUS_STAGE = s.get F.UPD_STATUS_STAGE ∧ s.aliveShown.items = s.items ∧
      s.aliveShown.get F.UPD_BLACKOUT_US = Nat.min ((s.now - s.upd.handoverAt) * 100000 / secondU) 65535 := by
  refine ⟨?_, ?_, ?_⟩
  · exact (State.get_put_reg _ _ _ _ (by decide)).trans (State.get_of_rd (State.actFor_rd ..))
  · rw [State.aliveShown, State.put_items, State.items_of_offFlash (State.actFor_offFlash ..)]
  · refine (State.get_put_same _ _ _ (by decide)).trans (Nat.mod_eq_of_lt (Nat.lt_of_le_of_lt (Nat.min_le_right _ _) ?_))
    decide

theorem State.setCounter_rd (s : State) (n v : Nat) {a : Nat} (ha : a ≠ Reg.FLC_CTR n) : (s.setCounter n v).rd a = s.rd a := by
  rw [State.setCounter, State.rd_put_other _ _ _ ha, State.rd_of_offFlash (State.counterWrite_offFlash ..),
    State.rd_of_offFlash (State.counterWrite_offFlash ..)]

theorem State.raiseCounter2_keeps (s : State) (v : Nat) :
    (s.raiseCounter2 v).items = s.items ∧ ∀ a, a ≠ Reg.FLC_CTR 2 → (s.raiseCounter2 v).rd a = s.rd a := by
  unfold State.raiseCounter2
  split
  · exact ⟨rfl, fun _ _ => rfl⟩
  · exact ⟨State.setCounter_items .., fun a ha => State.setCounter_rd _ _ _ ha⟩

/-- The trial has ended well, before the registers follow. -/
def State.confirmed (s : State) : State :=
  (((s.actFor 5 (s.get F.UPD_STATUS_RUN_BOBBIN) 0 (manifestOf s (s.get F.UPD_STATUS_RUN_BOBBIN))).raiseCounter2
    (manEpoch (manifestOf s (s.get F.UPD_STATUS_RUN_BOBBIN)))).eraseSessions.put F.UPD_STATUS_STAGE 0).irq Blk.UPD (2 ^ 5)

theorem State.confirm_alive {s : State} (n : Nat) (hen : s.en Blk.UPD = true) (hstage : s.get F.UPD_STATUS_STAGE = 4)
    (halive : s.upd.aliveBy = none) (hrevert : s.upd.revertBy = none) :
    s.confirm (.core n) = (s.confirmed.withUpd { s.confirmed.upd with trialEnd := none }).syncUpd := by
  rw [State.confirm, hen, hstage, halive, hrevert]
  rfl

theorem State.confirmed_shows (s : State) :
    s.confirmed.get F.UPD_STATUS_STAGE = 0 ∧ s.confirmed.get F.UPD_STATUS_RUN_BOBBIN = s.get F.UPD_STATUS_RUN_BOBBIN ∧
      bits (s.confirmed.rd Reg.UPD_ISR).toNat 5 5 = 1 ∧ s.confirmed.items = s.items := by
  unfold State.confirmed
  generalize hb : s.get F.UPD_STATUS_RUN_BOBBIN = b
  have hact := s.actFor_offFlash 5 b 0 (manifestOf s b) 0
  generalize State.actFor s 5 _ _ _ _ = y at hact ⊢
  obtain ⟨hitems, hrd⟩ := y.raiseCounter2_keeps (manEpoch (manifestOf s b))
  generalize y.raiseCounter2 _ = z at hitems hrd ⊢
  refine ⟨?_, ?_, State.irq_isr_bit (k := 5) _ (by decide) rfl (by decide) (by decide), ?_⟩
  · exact (State.irq_get _ _ _ (by decide)).trans (State.get_put_same _ _ _ (by decide))
  · rw [State.irq_get _ _ _ (by decide), State.get_put_field _ _ _ _ (by decide) (by decide),
      State.get_of_rd (State.rd_of_offFlash z.eraseSessions_offFlash _), State.get_of_rd (hrd _ (by decide)),
      State.get_of_rd (State.rd_of_offFlash hact _), hb]
  · rw [State.irq_items, State.put_items, State.items_of_offFlash z.eraseSessions_offFlash, hitems,
      State.items_of_offFlash hact]

/-- A requested reversion has its deadline, and is reported. -/
theorem State.requestRevert_trial {s : State} (hstage : s.get F.UPD_STATUS_STAGE = 4) (hrevert : s.upd.revertBy = none) :
    s.requestRevert = (s.irq Blk.UPD (2 ^ 4)).withUpd { s.upd with revertBy := some (s.now + quiesceU s) } := by
  have hrun : ¬ (s.get F.UPD_STATUS_STAGE ≠ 4 ∨ s.upd.revertBy.isSome = true) := by
    rw [hstage, hrevert]
    decide
  exact if_neg hrun

theorem State.revertReport_shows (s : State) :
    bits ((s.irq Blk.UPD (2 ^ 4)).rd Reg.UPD_ISR).toNat 4 4 = 1 ∧
      (s.irq Blk.UPD (2 ^ 4)).get F.UPD_STATUS_STAGE = s.get F.UPD_STATUS_STAGE ∧ (s.irq Blk.UPD (2 ^ 4)).items = s.items :=
  ⟨State.irq_isr_bit (k := 4) _ (by decide) rfl (by decide) (by decide), State.irq_get _ _ _ (by decide),
    State.irq_items ..⟩

theorem passed_of_le {s : State} {e : Option Nat} {d : Nat} (he : e = some d) (hd : d ≤ s.now) : passed s e = true := by
  rw [he]
  exact decide_eq_true hd

/-- Settles O57: one lemma above for each step of an activation, its confirmation and its reversion. -/
theorem activation : Obligations.Activation := by
  refine ⟨?activate, ?activateOther, ?handover, ?handoverBad, ?handoverHost, ?aliveHost, ?confirmHost, ?alive, ?confirm,
    ?revert, ?revertOther, ?abandon, ?abandonNone, ?quiesce, ?quiesceTrial, ?aliveTimeout, ?aliveNone, ?expiry,
    ?expiryNone⟩
  case activate =>
    rintro s x t rfl hen hstage
    obtain ⟨harmed, hnow, hquiesce, hisr, hitems⟩ := (s.at t).armed_shows
    refine ⟨_, congrArg Host.Outcome.next (State.activate_arms hen hstage), harmed, ?_, hisr, hitems⟩
    rw [hnow, hquiesce]
    rfl
  case activateOther =>
    rintro s x t rfl hstage
    refine congrArg Host.Outcome.next (if_pos ?_)
    rw [bne_iff_ne.mpr hstage, Bool.or_true]
  case handover =>
    rintro s x t n rfl hen hstage hgood
    obtain ⟨hfour, hbobbin, hnow, hsram, hitems, hisr⟩ := (s.at t).switched_shows
    refine ⟨_, congrArg Host.Outcome.next ((State.handover_armed n hen hstage).trans (State.switchOver_good hgood)), ?_, ?_,
      ?_, ?_, ?_, (State.syncUpd_sram _).trans hsram, (State.syncUpd_items _).trans hitems⟩
    · rw [(State.syncUpd_stage _).1 (by rw [State.withUpd_get, hfour]; decide), State.withUpd_get, hfour]
    · rw [State.syncUpd_get _ rfl (.inl (by decide)), State.withUpd_get, hbobbin]
      exact Nat.mod_eq_of_lt (targetBobbin_lt _)
    · rw [State.syncUpd_upd, ← hnow]
      rfl
    · rw [State.syncUpd_upd, ← hnow]
      rfl
    · rw [State.syncUpd_rd _ (by unfold besideSession; decide)]
      exact hisr
  case handoverBad =>
    rintro s x t n rfl hen hstage hbad
    exact ⟨_, congrArg Host.Outcome.next ((State.handover_armed n hen hstage).trans (State.switchOver_bad hbad)),
      (s.at t).abandonArmed_shows (by decide)⟩
  case handoverHost =>
    rintro s x t rfl
    exact congrArg Host.Outcome.next (if_pos (Bool.or_true _))
  case aliveHost =>
    rintro s x t rfl
    refine congrArg Host.Outcome.next (if_pos ?_)
    simp [isCore]
  case confirmHost =>
    rintro s x t rfl
    refine congrArg Host.Outcome.next (if_pos ?_)
    simp [isCore]
  case alive =>
    rintro s x t n d rfl hen hstage halive
    obtain ⟨hsame, hitems, hblackout⟩ := (s.at t).aliveShown_shows
    refine ⟨_, congrArg Host.Outcome.next (State.alive_awaited n hen hstage halive), ?_, ?_, ?_,
      (State.syncUpd_items _).trans hitems⟩
    · rw [State.syncUpd_upd]
      rfl
    · rw [(State.syncUpd_stage _).1 (by rw [State.withUpd_get, hsame, hstage]; decide), State.withUpd_get, hsame, hstage]
    · rw [State.get_of_rd (State.syncUpd_rd _ (by unfold besideSession; decide))]
      exact hblackout
  case confirm =>
    rintro s x t n rfl hen hstage halive hrevert
    obtain ⟨hzero, hbobbin, hisr, hitems⟩ := (s.at t).confirmed_shows
    refine ⟨_, congrArg Host.Outcome.next (State.confirm_alive n hen hstage halive hrevert), ?_, ?_, ?_, ?_,
      (State.syncUpd_items _).trans hitems⟩
    · exact (State.syncUpd_stage _).2 (by rw [State.withUpd_get, hzero]; decide)
    · rw [State.syncUpd_upd]
      rfl
    · rw [State.syncUpd_get _ rfl (.inl (by decide))]
      exact hbobbin
    · rw [State.syncUpd_rd _ (by unfold besideSession; decide)]
      exact hisr
  case revert =>
    rintro s x t rfl hen hstage hrevert
    obtain ⟨hisr, hsame, hitems⟩ := (s.at t).revertReport_shows
    exact ⟨_, congrArg Host.Outcome.next ((if_pos hen).trans (State.requestRevert_trial hstage hrevert)), rfl, hisr,
      hsame.trans hstage, hitems⟩
  case revertOther =>
    rintro s x t rfl hstage
    refine congrArg Host.Outcome.next ?_
    split
    · exact if_pos (.inl hstage)
    · rfl
  case abandon =>
    rintro s x t rfl hen hstage
    have habandon : (s.at t).abandon = ((s.at t).eraseSessions.put F.UPD_STATUS_STAGE 0).syncUpd := by
      rw [State.abandon, hen, hstage]
      rfl
    refine ⟨_, congrArg Host.Outcome.next habandon, ?_, ?_, ?_, ?_⟩
    · refine (State.syncUpd_stage _).2 ?_
      rw [State.get_put_same _ _ _ (by decide)]
      decide
    · rw [State.syncUpd_upd]
      rfl
    · rw [State.syncUpd_items]
      rfl
    · rw [State.syncUpd_flc]
      rfl
  case abandonNone =>
    rintro s x t rfl hstage
    refine congrArg Host.Outcome.next ?_
    rw [State.abandon, hstage]
    exact if_pos (Bool.or_true _)
  case quiesce =>
    rintro s x t d rfl hstage hquiesce hd
    obtain ⟨htwo, hreason, -, hnone, hitems⟩ := (s.at t).abandonArmed_shows (code := 0x0F05) (by decide)
    exact ⟨_, congrArg Host.Outcome.next (if_pos ⟨hstage, passed_of_le hquiesce hd⟩), htwo, hreason, hnone, hitems⟩
  case quiesceTrial =>
    rintro s x t d rfl hstage hrevert hd hfirst
    have hnot : ¬ ((s.at t).get F.UPD_STATUS_STAGE = 3 ∧ passed (s.at t) (s.at t).upd.quiesceBy = true) := by omega
    exact ⟨_, congrArg Host.Outcome.next ((if_neg hnot).trans (if_pos ⟨hstage, passed_of_le hrevert hd⟩)), rfl,
      State.deviceReset_get_cause (by decide) (.inr hfirst)⟩
  case aliveTimeout =>
    rintro s x t d rfl halive hd hfirst
    exact ⟨_, congrArg Host.Outcome.next (if_pos (passed_of_le (by rw [← State.at_upd s t, halive]) hd)), rfl,
      State.deviceReset_get_cause (by decide) (.inr hfirst)⟩
  case aliveNone =>
    rintro s x t rfl halive
    refine congrArg Host.Outcome.next (if_neg ?_)
    rw [← State.at_upd s t, halive]
    exact Bool.false_ne_true
  case expiry =>
    rintro s x t d rfl htrial hd hstage hrevert
    obtain ⟨hisr, -, hitems⟩ := (s.at t).revertReport_shows
    have hrun : (if passed (s.at t) s.upd.trialEnd then (s.at t).requestRevert.syncUpd else s.at t) =
        (((s.at t).irq Blk.UPD (2 ^ 4)).withUpd
          { (s.at t).upd with revertBy := some ((s.at t).now + quiesceU (s.at t)) }).syncUpd := by
      rw [← State.at_upd s t, if_pos (passed_of_le htrial hd), State.requestRevert_trial hstage hrevert]
    refine ⟨_, congrArg Host.Outcome.next hrun, ?_, ?_, (State.syncUpd_items _).trans hitems⟩
    · rw [State.syncUpd_upd]
      rfl
    · rw [State.syncUpd_rd _ (by unfold besideSession; decide)]
      exact hisr
  case expiryNone =>
    rintro s x t rfl htrial
    refine congrArg Host.Outcome.next (if_neg ?_)
    rw [← State.at_upd s t, htrial]
    exact Bool.false_ne_true

end Sys2Proof.Machine

/-! PROOFS. The processor complex: core faults, the customer partition, interrupt claims, and the PCIe link (R504, R511,
R513, R516, R517, R537, R555). -/

namespace Sys2Proof.Machine

/-! ### Core faults (R513) -/

/-- A core's bit of FAULTED is set. -/
theorem bits_faulted : ∀ v < 16, ∀ c < 4, bits ((v ||| 2 ^ c) % 16) c c = 1 := by decide

theorem State.doubleFault_marks {s : State} {c : Nat} (mepc : Nat) (hc : c < 4) (htrial : inTrial s = false) :
    s.doubleFault c mepc =
      ((s.put F.CPX_STATUS_FAULTED (s.get F.CPX_STATUS_FAULTED ||| 2 ^ c)).irq Blk.CPX (2 ^ 0)).record 0x1300 0x1301 c mepc := by
  rw [State.doubleFault, if_neg (Nat.not_le.mpr hc), htrial]
  rfl

theorem State.doubleFault_inTrial {s : State} {c : Nat} (mepc : Nat) (hc : c < 4) (htrial : inTrial s = true) :
    s.doubleFault c mepc = s.deviceReset 11 := by
  rw [State.doubleFault, if_neg (Nat.not_le.mpr hc), if_pos htrial]

/-- The records after a report that follows an interrupt. -/
theorem State.irq_record_records (s : State) (b mask tag reason w4 w5 : Nat) :
    ((s.irq b mask).record tag reason w4 w5).hre.records =
      s.hre.records ++ [⟨tag, reason, s.net, word w4, word w5, word 0, word 0, false⟩] := by
  show (s.irq b mask).hre.records ++ [⟨tag, reason, (s.irq b mask).net, word w4, word w5, word 0, word 0, false⟩] = _
  rw [State.irq_hre, State.irq_net]

/-! ### The customer partition (R516, R517) -/

/-- The descriptor at an address of application SRAM. -/
def partitionWords (s : State) (addr : Nat) : List Word :=
  (List.range 8).map (fun k => word (leNat (s.sramRead (addr + 4 * k) 4)))

/-- A state with a descriptor fetched for the partition. -/
def State.partitionFetched (s : State) (ring : Nat) (d : List Word) : State :=
  { s with hre := { s.hre with fetched := s.hre.fetched ++ [⟨ring + 32, d, []⟩] } }

section
variable {s : State} (hruns : partitionRuns s = true)
include hruns

theorem notStopped : (!partitionRuns s) = false := by rw [hruns]; rfl

theorem State.submit_outside (ring : Nat) {addr : Nat} (haddr : inWindow addr = false) :
    s.submit ring addr = s.callResult 0x0401 := by
  rw [State.submit, notStopped hruns, haddr]
  rfl

theorem State.submit_fetches {ring addr : Nat} (haddr : inWindow addr = true) (hmay : partitionMay s ring = true)
    (hop : opcodeOnRing ring (wbits (partitionWords s addr) 0 7 0) = true) (hlen : wbits (partitionWords s addr) 1 15 0 = 0)
    (hpre : preAdmission s ring (partitionWords s addr) false = none) :
    s.submit ring addr = (s.partitionFetched ring (partitionWords s addr)).callResult 0 := by
  rw [State.submit, notStopped hruns, if_neg Bool.false_ne_true]
  extract_lets d len base h s1
  have hd : d = partitionWords s addr := rfl
  have hempty : len = 0 := hlen
  have hbuffer : (decide (0 < len) && !inSram base len) = false := by rw [hempty]; rfl
  have hs1 : s1 = s.partitionFetched ring (partitionWords s addr) := by
    unfold s1
    rw [hbuffer, hd, hpre, hempty]
    rfl
  rw [haddr, hmay, hd, hop, hs1]
  rfl

theorem State.waitCall_waits {addr : Nat} (ms : Nat) (haddr : inWindow addr = true) (hserve : s.serveWait addr = none) :
    s.waitCall addr ms = { s with cpx := { s.cpx with wait := some ⟨addr, s.now + msU ms⟩ } } := by
  rw [State.waitCall, notStopped hruns, haddr, hserve]
  rfl

/-- A partition that a fault stops. -/
theorem State.partitionFault_stops (mcause : Nat) :
    s.partitionFault mcause = (({ s with cpx := { s.cpx with wait := none } }.put F.CPX_STATUS_PART 3).irq Blk.CPX (2 ^ 2)).record
      0x1300 0x1302 mcause := by
  rw [State.partitionFault, notStopped hruns]
  rfl

end

theorem takeFirst_none {α : Type} {p : α → Bool} {l : List α} (h : ∀ x ∈ l, p x = false) : takeFirst p l = none := by
  induction l with
  | nil => rfl
  | cons x l ih =>
    rw [takeFirst, h x List.mem_cons_self, ih fun y hy => h y (List.mem_cons_of_mem _ hy)]
    rfl

/-- No completion of the partition waits to be written. -/
theorem State.serveWait_none {s : State} (addr : Nat) (hnone : s.hre.outq.all (fun c => c.cring != partitionRing) = true) :
    s.serveWait addr = none := by
  have hfirst : takeFirst (fun (c : Compl) => c.cring == partitionRing) s.hre.outq = none :=
    takeFirst_none fun c hc => by
      have hother := List.all_eq_true.mp hnone c hc
      rw [bne, Bool.not_eq_true'] at hother
      exact hother
  rw [State.serveWait, hfirst]

/-! ### Interrupt claims (R511, R537) -/

/-- A bit that is cleared reads as 0. -/
theorem bits_and_not_bit (w : Word) {k : Nat} (hk : k < 32) : bits (w &&& ~~~(BitVec.ofNat 32 (2 ^ k))).toNat k k = 0 := by
  have hclear : (w &&& ~~~(BitVec.ofNat 32 (2 ^ k))).getLsbD k = false := by
    simp only [BitVec.getLsbD_and, BitVec.getLsbD_not, BitVec.getLsbD_ofNat, Nat.testBit_two_pow_self, hk, decide_true,
      Bool.and_true, Bool.not_true, Bool.and_false]
  rw [BitVec.getLsbD, Nat.testBit_eq_decide_div_mod_eq, decide_eq_false_iff_not] at hclear
  rw [bits, Nat.sub_self, Nat.zero_add, Nat.pow_one]
  omega

/-- A state in which context `ctx` serves source `n`. -/
def State.claimed (s : State) (ctx n : Nat) : State :=
  { s.wr (Reg.CPX_PLIC_PEND (n / 32)) (s.rd (Reg.CPX_PLIC_PEND (n / 32)) &&& ~~~(BitVec.ofNat 32 (2 ^ (n % 32)))) with
    cpx := { s.cpx with servicing := (n, ctx) :: s.cpx.servicing } }

theorem State.plicClaim_none {s : State} {ctx : Nat} (hctx : ctx < 5) (hbest : bestSource s (claimable s ctx) = 0) :
    s.plicClaim ctx = s.deliverWords [0] := by
  rw [State.plicClaim, if_neg (Nat.not_le.mpr hctx)]
  dsimp only
  rw [hbest, if_pos rfl]

theorem State.plicClaim_best {s : State} {ctx n : Nat} (hctx : ctx < 5) (hbest : n = bestSource s (claimable s ctx))
    (hn : n ≠ 0) : s.plicClaim ctx = (s.claimed ctx n).deliverWords [word n] := by
  rw [State.plicClaim, if_neg (Nat.not_le.mpr hctx)]
  dsimp only
  rw [← hbest, if_neg hn]
  rfl

/-- A state in which source `id` is served no more. -/
def State.serviceEnded (s : State) (id : Nat) : State :=
  { s with cpx := { s.cpx with
    servicing := s.cpx.servicing.filter (fun x => x.1 != id)
    deferred := s.cpx.deferred.filter (fun d => d != id) } }

theorem State.plicComplete_ends {s : State} {ctx id : Nat} (hctx : ctx < 5) (hid : id < 256)
    (hen : bits (s.rd (Reg.CPX_PLIC_EN ctx (id / 32))).toNat (id % 32) (id % 32) = 1) (hnone : s.cpx.deferred = [])
    (hlevel : firmwareWaits s = false) : s.plicComplete ctx id = s.serviceEnded id := by
  have hrun : ¬ (5 ≤ ctx ∨ 256 ≤ id ∨ bits (s.rd (Reg.CPX_PLIC_EN ctx (id / 32))).toNat (id % 32) (id % 32) = 0) := by omega
  have hagain : (s.cpx.deferred.contains id || (id == 69 && firmwareWaits s)) = false := by
    rw [hnone, hlevel, Bool.and_false]
    rfl
  rw [State.plicComplete, if_neg hrun]
  dsimp only
  rw [hagain, Bool.and_false, if_neg Bool.false_ne_true]
  rfl

/-! ### Outputs and the PCIe link (R504, R555) -/

theorem State.outputShort_reports {s : State} {pin : Nat} (hpin : pin < 40) :
    s.outputShort pin = (s.irq Blk.PER (2 ^ 0)).record 0x1400 0x1401 pin := by
  rw [State.outputShort, if_pos hpin]
  rfl

theorem State.linkTrained_shows {s : State} (hrelay : s.relay = false) (hboot : s.upd.bootPending = false)
    (hen : s.en Blk.CLK = true) : s.linkTrained = s.put F.HRE_STATUS_LINK_UP 1 := by
  rw [State.linkTrained, hrelay, hboot, hen]
  rfl

/-- Settles O53: each command by the one thing that its operation does. -/
theorem coresAndPartition : Obligations.CoresAndPartition := by
  refine ⟨?fault, ?faultInTrial, ?outside, ?submit, ?wait, ?timeout, ?timeoutNone, ?yield, ?stop, ?yieldStopped,
    ?faultStopped, ?claimNone, ?claim, ?complete, ?completeOther, ?short, ?link, ?linkRelay⟩
  case fault =>
    rintro s x t c mepc rfl hc htrial
    refine ⟨_, congrArg Host.Outcome.next (State.doubleFault_marks mepc hc htrial), ?_, ?_, ?_, ?_, ?_⟩
    · rw [State.record_get, State.irq_get _ _ _ (by decide), State.get_put_same _ _ _ (by decide)]
      exact bits_faulted _ (State.get_lt ..) c hc
    · exact State.irq_isr_bit (k := 0) _ (by decide) rfl (by decide) (by decide)
    · rw [State.record_items, State.irq_items]
      rfl
    · rw [State.record_sram, State.irq_sram]
      rfl
    · exact State.irq_record_records ..
  case faultInTrial =>
    rintro s x t c mepc rfl hc htrial hfirst
    exact ⟨_, congrArg Host.Outcome.next (State.doubleFault_inTrial mepc hc htrial), rfl,
      State.deviceReset_get_cause (by decide) (.inr hfirst)⟩
  case outside =>
    rintro s x t ring addr rfl hruns haddr
    exact ⟨_, congrArg Host.Outcome.next (State.submit_outside hruns ring haddr), rfl, rfl, rfl, rfl⟩
  case submit =>
    rintro s x t ring addr d rfl hruns haddr hmay rfl hop hlen hpre
    exact ⟨_, congrArg Host.Outcome.next (State.submit_fetches hruns haddr hmay hop hlen hpre), rfl, rfl, rfl, rfl⟩
  case wait =>
    rintro s x t addr ms rfl hruns haddr hnone
    exact ⟨_, congrArg Host.Outcome.next (State.waitCall_waits hruns ms haddr (State.serveWait_none addr hnone)), rfl, rfl,
      rfl, rfl⟩
  case timeout =>
    rintro s x t w rfl hwait hnone hdeadline
    have hend : (s.at t).waitEnd = { s.at t with cpx := { (s.at t).cpx with wait := none } }.callResult 0 := by
      rw [State.waitEnd, hwait]
      dsimp only
      rw [State.serveWait_none _ hnone]
      exact if_neg (Nat.not_lt.mpr hdeadline)
    exact ⟨_, congrArg Host.Outcome.next hend, rfl, rfl, rfl, rfl⟩
  case timeoutNone =>
    rintro s x t rfl hwait
    refine congrArg Host.Outcome.next ?_
    rw [State.waitEnd, hwait]
  case yield =>
    rintro s x t rfl hruns
    exact ⟨_, congrArg Host.Outcome.next (if_pos hruns), rfl, rfl, rfl⟩
  case stop =>
    rintro s x t mcause rfl hruns
    refine ⟨_, congrArg Host.Outcome.next (State.partitionFault_stops hruns mcause), ?_, ?_, ?_, ?_⟩
    · rw [State.record_get, State.irq_get _ _ _ (by decide)]
      exact State.get_put_same _ _ _ (by decide)
    · exact (congrArg Cpx.wait (State.irq_uninterrupted ..) :)
    · exact State.irq_isr_bit (k := 2) _ (by decide) rfl (by decide) (by decide)
    · rw [State.record_items, State.irq_items]
      rfl
  case yieldStopped =>
    rintro s x t rfl hstopped
    exact congrArg Host.Outcome.next (if_neg (by rw [hstopped]; exact Bool.false_ne_true))
  case faultStopped =>
    rintro s x t rfl hstopped
    exact congrArg Host.Outcome.next (if_pos (by rw [hstopped]; rfl))
  case claimNone =>
    rintro s x t ctx rfl hctx hbest
    exact ⟨_, congrArg Host.Outcome.next (State.plicClaim_none hctx hbest), rfl, rfl, rfl⟩
  case claim =>
    rintro s x t ctx n rfl hctx hbest hn
    refine ⟨_, congrArg Host.Outcome.next (State.plicClaim_best hctx hbest hn), rfl, ?_, rfl, rfl⟩
    show bits (((s.at t).wr _ _).rd _).toNat _ _ = 0
    rw [State.rd_wr_same]
    exact bits_and_not_bit _ (Nat.mod_lt _ (by decide))
  case complete =>
    rintro s x t ctx id rfl hctx hid hen hnone hlevel
    exact ⟨_, congrArg Host.Outcome.next (State.plicComplete_ends hctx hid hen hnone hlevel), rfl, rfl, rfl⟩
  case completeOther =>
    rintro s x t ctx id rfl hoff
    exact congrArg Host.Outcome.next (if_pos (.inr (.inr hoff)))
  case short =>
    rintro s x t pin rfl hpin
    refine ⟨_, congrArg Host.Outcome.next (State.outputShort_reports hpin), ?_, ?_, State.irq_record_records ..⟩
    · exact State.irq_isr_bit (k := 0) _ (by decide) rfl (by decide) (by decide)
    · rw [State.record_items, State.irq_items]
  case link =>
    rintro s x t rfl hrelay hboot hen
    exact ⟨_, congrArg Host.Outcome.next (State.linkTrained_shows hrelay hboot hen), State.get_put_same _ _ _ (by decide), rfl,
      rfl⟩
  case linkRelay =>
    rintro s x t rfl hrelay
    exact congrArg Host.Outcome.next (if_pos (by rw [hrelay]; rfl))

end Sys2Proof.Machine

/-! PROOFS. Power requests, power states and wake sources (R479, R486, R490, R494 to R497). -/

namespace Sys2Proof.Machine

/-! ### Requests (R495) -/

/-- A pending request. -/
def State.requested (s : State) (req : Nat) : State := (s.put F.SUP_PWR_REQ req).put F.SUP_PWR_PENDING 1

theorem State.requested_shows (s : State) {req : Nat} (hreq : req < 4) :
    (s.requested req).on F.SUP_PWR_PENDING = true ∧ (s.requested req).get F.SUP_PWR_REQ = req := by
  refine ⟨State.on_put_one _ _ (by decide) (by decide), ?_⟩
  exact (State.get_put_field _ _ _ _ (by decide) (by decide)).trans ((State.get_put_same _ _ _ (by decide)).trans
    (Nat.mod_eq_of_lt hreq))

/-- A refused request is pending no more, and is reported with its code. -/
theorem State.refusePower_shows (s : State) {code : Nat} (hcode : code < 65536) :
    (s.refusePower code).on F.SUP_PWR_PENDING = false ∧ (s.refusePower code).get F.SUP_PWR_REASON = code ∧
      bits ((s.refusePower code).rd Reg.SUP_ISR).toNat 5 5 = 1 ∧ (s.refusePower code).items = s.items := by
  have hirq : s.refusePower code =
      (((s.put F.SUP_PWR_REQ 0).put F.SUP_PWR_PENDING 0).put F.SUP_PWR_REASON code).irq Blk.SUP (2 ^ 5) := rfl
  rw [hirq]
  refine ⟨?_, ?_, State.irq_isr_bit (k := 5) _ (by decide) rfl (by decide) (by decide), ?_⟩
  · rw [State.irq_on _ _ _ (by decide), State.on_put_field _ _ _ _ (by decide) (by decide)]
    exact State.on_put_zero _ _ (by decide)
  · rw [State.irq_get _ _ _ (by decide)]
    exact (State.get_put_same _ _ _ (by decide)).trans (Nat.mod_eq_of_lt hcode)
  · rw [State.irq_items]
    rfl

section
variable {s : State}

theorem State.powerRequest_cancels (s : State) :
    s.powerRequest 0 = (s.put F.SUP_PWR_REQ 0).put F.SUP_PWR_PENDING 0 := rfl

/-- A request that nothing refuses is pending. -/
theorem State.powerRequest_pends {req : Nat} (hsome : req ≠ 0) (hknown : req ≠ 1)
    (huse : ¬ (req = 3 ∧ (s.on F.CHN_USE_TX_USED = true ∨ s.on F.CHN_USE_TIMED_USED = true)))
    (hblock : ¬ ((req = 3 ∧ s.en Blk.SKN = true) ∨ (!s.relay && s.en Blk.HRE) = true)) :
    s.powerRequest req = s.requested req := by
  unfold State.powerRequest
  dsimp only
  rw [if_neg hsome, if_neg hknown, if_neg huse, if_neg hblock]
  rfl

theorem State.powerRequest_sleepRefused (hhre : s.en Blk.HRE = true) (hrelay : s.relay = false) :
    s.powerRequest 2 = s.refusePower 0x01F7 := by
  unfold State.powerRequest
  dsimp only
  rw [if_neg (by decide), if_neg (by decide), if_neg (fun h => absurd h.1 (by decide)), hhre, hrelay, if_pos (.inr rfl)]

theorem State.powerRequest_inUse (htimed : s.on F.CHN_USE_TIMED_USED = true) :
    s.powerRequest 3 = s.refusePower 0x01F4 := by
  unfold State.powerRequest
  dsimp only
  rw [if_neg (by decide), if_neg (by decide), if_pos ⟨rfl, .inr htimed⟩]

/-! ### Entry (R495, R496) -/

theorem State.enterPower_enters (hpending : s.on F.SUP_PWR_PENDING = true) (hmay : mayEnter s = true)
    (hawake : awake s = true) :
    s.enterPower = if s.get F.SUP_PWR_REQ = 2 then s.enterSleep else if s.get F.SUP_PWR_REQ = 3 then s.enterHibernate else s := by
  rw [State.enterPower, hpending, hmay, hawake]
  rfl

end

/-- What the clocks' stop and the lanes' release leave: the pending request, the flash and the key store. -/
def State.sleepKept (s : State) : Bool × Flc × Cry := (s.on F.SUP_PWR_PENDING, s.flc, s.cry)

theorem State.put_sleepKept (s : State) (f : Fld) (v : Nat) (hf : Reg.SUP_PWR ≠ f.addr) :
    (s.put f v).sleepKept = s.sleepKept := by
  rw [State.sleepKept, State.on_of_rd (State.rd_put_other s f v hf)]
  rfl

theorem State.irq_sleepKept (s : State) (b mask : Nat) (hb : irqTouches b Reg.SUP_PWR = false) :
    (s.irq b mask).sleepKept = s.sleepKept := by
  rw [State.sleepKept, State.irq_on _ _ _ hb, State.irq_flc, State.irq_cry, State.sleepKept]

theorem State.wr_sleepKept (s : State) (a : Nat) (v : Word) (ha : Reg.SUP_PWR ≠ a) : (s.wr a v).sleepKept = s.sleepKept := by
  rw [State.sleepKept, State.on_of_rd (State.rd_wr_other s v ha)]
  rfl

theorem State.releaseLane_sleepKept (s : State) (n : Nat) : (s.releaseLane n).sleepKept = s.sleepKept := by
  have hcharge : (s.chargeLane n).sleepKept = s.sleepKept := by
    unfold State.chargeLane State.onWindow
    split <;> rfl
  unfold State.releaseLane State.clearLane State.wr64 State.syncLoad
  iterate 3 rw [State.put_sleepKept _ _ _ (by decide)]
  iterate 5 rw [State.wr_sleepKept _ _ _ (by
    simp only [Reg.SUP_PWR, Reg.MUR_LANE_STATE, Reg.MUR_LANE_TRIPLE, Reg.MUR_LANE_METRIC, Reg.MUR_LANE_START]; omega)]
  exact hcharge

theorem State.syncRef_sleepKept (s : State) : s.syncRef.sleepKept = s.sleepKept := by
  unfold State.syncRef
  dsimp only
  split
  · rfl
  · rw [State.irq_sleepKept _ _ _ (by decide), State.put_sleepKept _ _ _ (by decide)]

theorem State.stopClocks_sleepKept (s : State) : s.stopClocks.sleepKept = s.sleepKept := by
  unfold State.stopClocks State.setOk
  split
  · rfl
  · rw [State.syncRef_sleepKept]
    show (State.put _ _ _).sleepKept = _
    iterate 4 rw [State.put_sleepKept _ _ _ (by decide)]

/-- The state that falls asleep, before its lanes are released. -/
def State.dozing (s : State) : State :=
  ((s.dropSegments.count (F.SUP_CNT_COUNT 2)).put F.SUP_PWR_REQ 0).put F.SUP_PWR_PENDING 0

theorem State.dozing_sleepKept (s : State) : s.dozing.sleepKept = (false, s.flc, s.cry) := by
  rw [State.sleepKept, State.dozing, State.on_put_zero _ _ (by decide)]
  rfl

/-- What entering SLEEP shows and keeps. -/
theorem State.enterSleep_shows (s : State) :
    s.enterSleep.sup.power = .sleep ∧ s.enterSleep.mur.jobs = [] ∧ s.enterSleep.sleepKept = (false, s.flc, s.cry) := by
  unfold State.enterSleep
  extract_lets s1 s2 s3
  have hs2 : s2.sleepKept = (false, s.flc, s.cry) := by
    refine (foldl_keeps (p := State.sleepKept) (fun x n => ?_) _ _).trans s.dozing_sleepKept
    split
    · exact State.releaseLane_sleepKept ..
    · rfl
  have hs3 : s3.sleepKept = (false, s.flc, s.cry) := by
    rw [State.stopClocks_sleepKept, State.put_sleepKept _ _ _ (by decide), hs2]
  exact ⟨rfl, rfl, hs3⟩

theorem State.enterHibernate_shows (s : State) :
    s.enterHibernate.sup.power = .hibernate ∧ s.enterHibernate.on F.SUP_PWR_PENDING = false ∧ s.enterHibernate.sram = [] ∧
      s.enterHibernate.items = s.items := by
  refine ⟨rfl, ?_, rfl, rfl⟩
  exact (State.on_of_rd (State.rd_put_other _ F.EVF_STATUS_FAST 0 (by decide))).trans (State.on_put_zero _ _ (by decide))

/-! ### Waking (R479, R497) -/

theorem State.startClocks_keeps (s : State) :
    s.startClocks.sup = s.sup ∧ s.startClocks.cpx = s.cpx ∧ s.startClocks.items = s.items ∧ s.startClocks.regs = s.regs := by
  unfold State.startClocks
  dsimp only
  split
  · split <;> exact ⟨rfl, rfl, rfl, rfl⟩
  · split <;> exact ⟨rfl, rfl, rfl, rfl⟩

/-- A state that wakes, before its wake interrupt. -/
def State.waking (s : State) (src : Nat) (power : Power) (wfi : List Bool) : State :=
  (({ s with sup := { s.sup with power := power }, cpx := { s.cpx with wfi := wfi } }.startClocks.put F.EVF_STATUS_FAST 1).put
    F.SUP_WAKE_SRC_SRC src)

theorem State.waking_shows (s : State) {src : Nat} (hsrc : src < 32) (power : Power) (wfi : List Bool) :
    (s.waking src power wfi).sup.power = power ∧ (s.waking src power wfi).cpx.wfi = wfi ∧
      (s.waking src power wfi).get F.SUP_WAKE_SRC_SRC = src ∧ (s.waking src power wfi).items = s.items ∧
      (s.waking src power wfi).rd Reg.SUP_IER = s.rd Reg.SUP_IER := by
  unfold State.waking
  generalize hy : ({ s with sup := { s.sup with power := power }, cpx := { s.cpx with wfi := wfi } } : State) = y
  obtain ⟨hsup, hcpx, hitems, hregs⟩ := y.startClocks_keeps
  refine ⟨?_, ?_, ?_, ?_, ?_⟩
  · rw [State.put_sup, State.put_sup, hsup, ← hy]
  · rw [State.put_cpx, State.put_cpx, hcpx, ← hy]
  · exact (State.get_put_same _ _ _ (by decide)).trans (Nat.mod_eq_of_lt hsrc)
  · rw [State.put_items, State.put_items, hitems, ← hy]
  · rw [State.rd_put_other _ _ _ (by decide), State.rd_put_other _ _ _ (by decide), State.rd, hregs, ← hy]
    rfl

/-- A wake source fires in SLEEP. -/
theorem State.wake_sleep {s : State} {src : Nat} (hpower : s.sup.power = .sleep) (hen : wakeEnabled s src = true) :
    s.wake src = (((s.waking src (if src = 26 then .doze else .run)
      (if src = 26 then s.cpx.wfi else [false, false, false, false])).irq Blk.SUP (2 ^ 3)).put F.SUP_STATUS_STATE
        (if src = 26 then 1 else 0)).syncWatchdogs := by
  rw [State.wake, hen, hpower]
  rfl

/-- An interrupt of a device with no core in WFI wakes none. -/
theorem State.wakeCore_none {s : State} {c : Nat} (hwfi : s.cpx.wfi.getD c false = false) : s.wakeCore c = s := by
  rw [State.wakeCore, hwfi, Bool.false_and, if_neg Bool.false_ne_true]

theorem State.irq_wfi_none {s : State} (b mask : Nat) (hwfi : ∀ c, s.cpx.wfi.getD c false = false) :
    (s.irq b mask).cpx.wfi = s.cpx.wfi ∧ (s.irq b mask).sup = s.sup := by
  have hplic (x : State) (src : Nat) (hx : ∀ c, x.cpx.wfi.getD c false = false) :
      (x.plic src).cpx.wfi = x.cpx.wfi ∧ (x.plic src).sup = x.sup := by
    unfold State.plic
    split
    · exact ⟨rfl, rfl⟩
    · dsimp only
      generalize hy : x.wr _ _ = y
      have hycpx : y.cpx = x.cpx := by rw [← hy]; rfl
      have hysup : y.sup = x.sup := by rw [← hy]; rfl
      have hfold (l : List Nat) : l.foldl State.wakeCore y = y := by
        induction l with
        | nil => rfl
        | cons c l ih => rw [List.foldl_cons, State.wakeCore_none (by rw [hycpx]; exact hx c), ih]
      rw [hfold, hycpx, hysup]
      exact ⟨rfl, rfl⟩
  have hvector (x : State) (v src : Nat) (hx : ∀ c, x.cpx.wfi.getD c false = false) :
      (x.vector v src).cpx.wfi = x.cpx.wfi ∧ (x.vector v src).sup = x.sup := by
    unfold State.vector
    split
    · exact hplic x src hx
    · dsimp only
      generalize hy : State.sendMsix _ v = y
      have hycpx : y.cpx = x.cpx := by rw [← hy, State.sendMsix_cpx]
      have hysup : y.sup = x.sup := by rw [← hy, State.sendMsix_sup]
      split
      · have hsent := hplic y src (by rw [hycpx]; exact hx)
        rwa [hycpx, hysup] at hsent
      · exact ⟨congrArg Cpx.wfi hycpx, hysup⟩
  unfold State.irq
  split
  · exact ⟨rfl, rfl⟩
  · dsimp only
    split
    · exact ⟨rfl, rfl⟩
    · split
      · exact hvector _ _ _ hwfi
      · exact hplic _ _ hwfi

/-- An interrupt of a block whose sources are all disabled only sets its bits. -/
theorem State.irq_disabled {s : State} {b isr ier src : Nat} {vec : Option Nat} (mask : Nat)
    (hb : isrOf b = some (isr, ier, vec, src)) (hoff : s.rd ier = 0) :
    s.irq b mask = s.wr isr (s.rd isr ||| BitVec.ofNat 32 mask) := by
  rw [State.irq, hb]
  dsimp only
  exact if_pos (by rw [hoff]; exact BitVec.and_zero)

/-- Settles O50: one lemma above for each request, entry and wake source. -/
theorem powerStates : Obligations.PowerStates := by
  refine ⟨?sleep, ?sleepRefused, ?hibernate, ?inUse, ?cancel, ?enterSleep, ?enterHibernate, ?enterNone, ?wake, ?wakeOff,
    ?chanter, ?chanterAwake, ?wfi, ?vioFault, ?vioRetry, ?vioEarly, ?aonLoss⟩
  case sleep =>
    rintro s x t rfl hhre
    have hblock : ¬ ((2 = 3 ∧ (s.at t).en Blk.SKN = true) ∨ (!(s.at t).relay && (s.at t).en Blk.HRE) = true) := by
      rw [hhre, Bool.and_false]
      simp
    obtain ⟨hpending, hreq⟩ := (s.at t).requested_shows (req := 2) (by decide)
    exact ⟨_, congrArg Host.Outcome.next (State.powerRequest_pends (by decide) (by decide) (fun h => absurd h.1 (by decide))
      hblock), hpending, hreq, rfl, rfl⟩
  case sleepRefused =>
    rintro s x t rfl hhre hrelay
    exact ⟨_, congrArg Host.Outcome.next (State.powerRequest_sleepRefused hhre hrelay),
      (s.at t).refusePower_shows (by decide)⟩
  case hibernate =>
    rintro s x t rfl hhre hskn htx htimed
    have huse : ¬ (3 = 3 ∧ ((s.at t).on F.CHN_USE_TX_USED = true ∨ (s.at t).on F.CHN_USE_TIMED_USED = true)) := by
      rw [htx, htimed]
      simp
    have hblock : ¬ ((3 = 3 ∧ (s.at t).en Blk.SKN = true) ∨ (!(s.at t).relay && (s.at t).en Blk.HRE) = true) := by
      rw [hhre, hskn, Bool.and_false]
      simp
    obtain ⟨hpending, hreq⟩ := (s.at t).requested_shows (req := 3) (by decide)
    exact ⟨_, congrArg Host.Outcome.next (State.powerRequest_pends (by decide) (by decide) huse hblock), hpending, hreq, rfl⟩
  case inUse =>
    rintro s x t rfl htimed
    exact ⟨_, congrArg Host.Outcome.next (State.powerRequest_inUse htimed), (s.at t).refusePower_shows (by decide)⟩
  case cancel =>
    rintro s x t rfl
    refine ⟨_, congrArg Host.Outcome.next (State.powerRequest_cancels _), State.on_put_zero _ _ (by decide), ?_, rfl, rfl⟩
    exact (State.get_put_field _ _ _ _ (by decide) (by decide)).trans (State.get_put_same _ _ _ (by decide))
  case enterSleep =>
    rintro s x t rfl hpending hmay hawake hreq
    obtain ⟨hpower, hjobs, hkept⟩ := (s.at t).enterSleep_shows
    simp only [State.sleepKept, Prod.mk.injEq] at hkept
    obtain ⟨hgone, hflc, hcry⟩ := hkept
    exact ⟨_, congrArg Host.Outcome.next ((State.enterPower_enters hpending hmay hawake).trans (if_pos hreq)), hpower, hgone,
      hjobs, hflc, hcry⟩
  case enterHibernate =>
    rintro s x t rfl hpending hmay hawake hreq
    have hnot : ¬ (s.at t).get F.SUP_PWR_REQ = 2 := by omega
    exact ⟨_, congrArg Host.Outcome.next ((State.enterPower_enters hpending hmay hawake).trans ((if_neg hnot).trans
      (if_pos hreq))), (s.at t).enterHibernate_shows⟩
  case enterNone =>
    rintro s x t rfl hnone
    exact congrArg Host.Outcome.next (if_pos (by rw [hnone]; rfl))
  case wake =>
    rintro s x t src rfl hpower hen hsrc
    have hne : src ≠ 26 := by omega
    have hwake := State.wake_sleep hpower hen
    rw [if_neg hne, if_neg hne, if_neg hne] at hwake
    obtain ⟨hrun, hwfi, hshown, hitems, -⟩ := (s.at t).waking_shows (src := src) (by omega) .run [false, false, false, false]
    have hnone (c : Nat) : ((s.at t).waking src .run [false, false, false, false]).cpx.wfi.getD c false = false := by
      rw [hwfi]
      rcases c with _ | _ | _ | _ | c <;> rfl
    obtain ⟨hirqWfi, hirqSup⟩ := State.irq_wfi_none Blk.SUP (2 ^ 3) hnone
    refine ⟨_, congrArg Host.Outcome.next hwake, ?_, ?_, ?_, ?_, ?_⟩
    · exact (congrArg Sup.power hirqSup).trans hrun
    · rw [State.syncWatchdogs_get, State.get_put_reg _ _ _ _ (by decide), State.irq_get _ _ _ (by decide), hshown]
    · refine (congrArg (fun w : Word => bits w.toNat 3 3) (State.rd_put_other _ F.SUP_STATUS_STATE 0 (by decide))).trans ?_
      exact State.irq_isr_bit (k := 3) _ (by decide) rfl (by decide) (by decide)
    · exact hirqWfi.trans hwfi
    · rw [State.syncWatchdogs_items, State.put_items, State.irq_items, hitems]
  case wakeOff =>
    rintro s x t src rfl hoff
    exact congrArg Host.Outcome.next (if_pos (by rw [hoff]; rfl))
  case chanter =>
    rintro s x t i rfl hpower hi hdecided hstarted hdue hier
    have hen : wakeEnabled (s.at t) 26 = true := by
      have hne : ((s.at t).sup.power != .hibernate) = true := by rw [hpower]; rfl
      exact hne
    have hany : (s.at t).items.any (fun i => !i.decided && !i.started &&
        decide (i.due ≤ (s.at t).net + usU (xoDelayUs (s.at t)) + msU 1)) = true := by
      refine List.any_eq_true.mpr ⟨i, hi, ?_⟩
      rw [hdecided, hstarted, decide_eq_true (by omega)]
      rfl
    obtain ⟨hdoze, -, hshown, hitems, hierKept⟩ := (s.at t).waking_shows (src := 26) (by decide) .doze (s.at t).cpx.wfi
    have hwake := State.wake_sleep hpower hen
    rw [if_pos rfl, if_pos rfl, if_pos rfl, State.irq_disabled (ier := Reg.SUP_IER) _ rfl (hierKept.trans hier)] at hwake
    refine ⟨_, congrArg Host.Outcome.next ((if_pos ⟨hpower, hany⟩).trans hwake), hdoze, ?_, hitems⟩
    rw [State.syncWatchdogs_get, State.get_put_reg _ _ _ _ (by decide), State.get_wr_other _ _ _ (by decide), hshown]
  case chanterAwake =>
    rintro s x t rfl hpower
    exact congrArg Host.Outcome.next (if_neg (fun h => hpower h.1))
  case wfi =>
    rintro s x t rfl hreleased hpower hwfi
    have hrun : ¬ ((!(s.at t).cpx.released) = true ∨ (!awake (s.at t)) = true) := by
      rw [hreleased, awake, hpower]
      decide
    have hall : (modAt (fun _ => true) (s.at t).cpx.wfi 3) = [true, true, true, true] := by
      rw [hwfi]
      rfl
    have hlast : (modAt (fun _ => true) (s.at t).cpx.wfi 3).all (fun w => w) = true := by
      rw [hall]
      rfl
    exact ⟨_, congrArg Host.Outcome.next ((if_neg hrun).trans (if_pos hlast)), rfl, State.get_put_same _ _ _ (by decide), hall,
      rfl⟩
  case vioFault =>
    rintro s x t rfl
    refine ⟨_, rfl, ?_, rfl, ?_, ?_⟩
    · refine (State.on_of_rd (State.rd_put_other _ (F.SUP_CNT_COUNT 1) _ (by decide))).trans ?_
      rw [State.irq_supField_on ⟨rfl, .inl (by decide)⟩]
      exact State.on_put_one _ _ (by decide) (by decide)
    · refine (congrArg (fun w : Word => bits w.toNat 2 2) (State.rd_put_other _ (F.SUP_CNT_COUNT 1) _ (by decide))).trans ?_
      exact State.irq_isr_bit (k := 2) _ (by decide) rfl (by decide) (by decide)
    · exact State.irq_items ..
  case vioRetry =>
    rintro s x t rfl hfault hlate
    have hrun : ((s.at t).on F.SUP_STATUS_VIO_FAULT && decide ((s.at t).sup.vioAt + msU 100 ≤ (s.at t).now)) = true := by
      rw [hfault, decide_eq_true hlate]
      rfl
    exact ⟨_, congrArg Host.Outcome.next (if_pos hrun), State.on_put_zero _ _ (by decide), rfl, rfl⟩
  case vioEarly =>
    rintro s x t rfl hearly
    refine congrArg Host.Outcome.next (if_neg ?_)
    rw [decide_eq_false (Nat.not_le.mpr hearly), Bool.and_false]
    exact Bool.false_ne_true
  case aonLoss =>
    rintro s x t rfl hpower
    obtain ⟨hsram, -⟩ := (s.at t).deviceReset_clears 1
    obtain ⟨hnet, -, -, hitems⟩ := (s.at t).deviceReset_keeps 1
    have hloss : (s.at t).aonLost = ((s.at t).deviceReset 1).resupplied { ((s.at t).deviceReset 1).sup with power := .off } :=
      if_neg hpower
    refine ⟨_, congrArg Host.Outcome.next hloss, ?_⟩
    replace hnet := hnet.trans (if_pos rfl)
    replace hitems := hitems (.inr rfl)
    generalize (s.at t).deviceReset 1 = y at hsram hnet hitems
    exact ⟨rfl, hitems, hnet, hsram⟩

end Sys2Proof.Machine

/-! PROOFS. Clock sources, the reference, the PLLs, monitors and trimming (R464 to R478). -/

namespace Sys2Proof.Machine

/-! ### The state of the clocks -/

/-- A state with other data of CLK, its registers aside. -/
def State.withClk (s : State) (c : Clk) : State := { s with clk := c }

@[simp] theorem State.withClk_get (s : State) (c : Clk) (f : Fld) : (s.withClk c).get f = s.get f := rfl
@[simp] theorem State.withClk_on (s : State) (c : Clk) (f : Fld) : (s.withClk c).on f = s.on f := rfl
@[simp] theorem State.withClk_rd (s : State) (c : Clk) (a : Nat) : (s.withClk c).rd a = s.rd a := rfl
@[simp] theorem State.withClk_items (s : State) (c : Clk) : (s.withClk c).items = s.items := rfl
@[simp] theorem State.withClk_clk (s : State) (c : Clk) : (s.withClk c).clk = c := rfl
@[simp] theorem State.withClk_chn (s : State) (c : Clk) : (s.withClk c).chn = s.chn := rfl

/-- Monitor bits of four sources after one of them is written. -/
theorem bits_write : ∀ m < 16, ∀ src < 4, ∀ v < 2, ∀ k < 4,
    bits ((m - bits m src src * 2 ^ src + v * 2 ^ src) % 16) k k = if k = src then v else bits m k k := by
  decide

theorem State.clkOk_lt (s : State) : s.get F.CLK_STATUS_OK < 16 := State.get_lt s F.CLK_STATUS_OK

/-- A monitor's bit written is that monitor's alone. -/
theorem State.setOk_shows (s : State) {src k : Nat} (v : Bool) (hsrc : src < 4) (hk : k < 4) :
    sourceOk (s.setOk src v) k = if k = src then v else sourceOk s k := by
  have hget : (s.setOk src v).get F.CLK_STATUS_OK = _ := State.get_put_same s F.CLK_STATUS_OK _ (by decide)
  have hbits := bits_write _ s.clkOk_lt src hsrc v.toNat v.toNat_lt k hk
  unfold sourceOk
  rw [hget, show 2 ^ F.CLK_STATUS_OK.width = 16 from rfl, hbits]
  split
  · cases v <;> rfl
  · rfl

theorem sourceOk_congr {x y : State} (h : x.get F.CLK_STATUS_OK = y.get F.CLK_STATUS_OK) (src : Nat) :
    sourceOk x src = sourceOk y src := by
  rw [sourceOk, h, sourceOk]

/-- Fields of CLK_STATUS outside the monitors' bits are not written with them. -/
theorem State.setOk_get (s : State) (src : Nat) (v : Bool) {f : Fld} (hf : f.lo + f.width ≤ 5 ∨ 9 ≤ f.lo) :
    (s.setOk src v).get f = s.get f :=
  State.get_put_field s F.CLK_STATUS_OK f _ (by decide) (by simp only [F.CLK_STATUS_OK]; omega)

theorem State.setOk_rd (s : State) (src : Nat) (v : Bool) {a : Nat} (ha : a ≠ Reg.CLK_STATUS) :
    (s.setOk src v).rd a = s.rd a :=
  State.rd_put_other s _ _ ha

/-! ### What an operation leaves -/

/-- The reference's validity follows it, and its edges raise an interrupt; nothing else changes. -/
theorem State.syncRef_get (s : State) {f : Fld} (hirq : irqTouches Blk.CLK f.addr = false)
    (hf : f.lo + f.width ≤ 2 ∨ 3 ≤ f.lo) : s.syncRef.get f = s.get f := by
  unfold State.syncRef
  dsimp only
  split
  · rfl
  · rw [State.irq_get _ _ _ hirq, State.get_put_field _ _ _ _ (by decide) (by simp only [F.CLK_STATUS_REF_VALID]; omega)]

theorem State.syncRef_keeps {α : Type} {F : State → α} (hput : ∀ (x : State) (f : Fld) (v : Nat), F (x.put f v) = F x)
    (hirq : ∀ (x : State) (m : Nat), F (x.irq Blk.CLK m) = F x) (s : State) : F s.syncRef = F s := by
  unfold State.syncRef
  dsimp only
  split
  · rfl
  · rw [hirq, hput]

@[simp] theorem State.syncRef_items (s : State) : s.syncRef.items = s.items :=
  State.syncRef_keeps State.put_items (fun x m => State.irq_items x _ m) s
@[simp] theorem State.syncRef_clk (s : State) : s.syncRef.clk = s.clk :=
  State.syncRef_keeps State.put_clk (fun x m => State.irq_clk x _ m) s
@[simp] theorem State.syncRef_chn (s : State) : s.syncRef.chn = s.chn :=
  State.syncRef_keeps State.put_chn (fun x m => State.irq_chn x _ m) s

/-- Interrupts of CLK that are shown stay shown. -/
theorem State.syncRef_isr (s : State) {k : Nat} (h : bits (s.rd Reg.CLK_ISR).toNat k k = 1) :
    bits (s.syncRef.rd Reg.CLK_ISR).toNat k k = 1 := by
  unfold State.syncRef
  dsimp only
  split
  · exact h
  · rw [State.irq_isr _ _ rfl (by decide) (by decide)]
    exact bits_or_keeps _ _ ((congrArg (fun w : Word => bits w.toNat k k) (State.rd_put_other s _ _ (by decide))).trans h)

/-- Where the reference is neither XOSC nor the skein clock, or the PLL is not locked to it, REF_VALID is 0. -/
theorem State.syncRef_invalid {s : State}
    (h : (s.clk.lockedTo && (s.get F.CLK_STATUS_REF_SRC == 1 || (s.get F.CLK_STATUS_REF_SRC == 0 && sourceOk s 0))) = false) :
    s.syncRef.on F.CLK_STATUS_REF_VALID = false := by
  unfold State.syncRef
  dsimp only
  rw [h]
  split
  · rename_i hv
    exact (beq_iff_eq.mp hv).symm
  · rw [State.irq_on _ _ _ (by decide)]
    exact State.on_put_zero _ _ (by decide)

theorem State.switchIslands_rd (s : State) {a : Nat} (ha : ∀ n ∈ pllIslands, a ≠ Reg.CLK_LOST n) :
    s.switchIslands.rd a = s.rd a :=
  List.foldlRecOn (motive := fun x : State => x.rd a = s.rd a) _ _ rfl fun x hx n hn =>
    (State.rd_put_other x (F.CLK_LOST_CYCLES n) _ (ha n hn)).trans hx

theorem State.switchIslands_get (s : State) {f : Fld} (hf : ∀ n ∈ pllIslands, f.addr ≠ Reg.CLK_LOST n) :
    s.switchIslands.get f = s.get f := by
  rw [State.get, State.switchIslands_rd s hf, State.get]

@[simp] theorem State.switchIslands_items (s : State) : s.switchIslands.items = s.items := rfl
@[simp] theorem State.switchIslands_clk (s : State) : s.switchIslands.clk = s.clk := rfl
@[simp] theorem State.switchIslands_chn (s : State) : s.switchIslands.chn = s.chn := rfl
@[simp] theorem State.switchIslands_net (s : State) : s.switchIslands.net = s.net := rfl

/-- An island that the system PLL feeds loses six cycles. -/
theorem State.switchIslands_cycles (s : State) :
    s.switchIslands.get (F.CLK_LOST_CYCLES 3) =
      Nat.min (s.get (F.CLK_LOST_CYCLES 3) + 6) (2 ^ (F.CLK_LOST_CYCLES 3).width - 1) := by
  have hother (x : State) {n : Nat} (hn : (F.CLK_LOST_CYCLES 3).addr ≠ (F.CLK_LOST_CYCLES n).addr) :
      (x.switchDomain n).get (F.CLK_LOST_CYCLES 3) = x.get (F.CLK_LOST_CYCLES 3) := State.get_put_reg x _ _ _ hn
  unfold State.switchIslands pllIslands
  simp only [List.foldl_cons, List.foldl_nil]
  iterate 5 rw [hother _ (by decide)]
  exact State.count_get _ _ (by decide)

/-! ### The PLLs (R475, R476) -/

/-- The system PLL unlocks while Chanter is off. -/
theorem State.pllUnlock_eq {s : State} (hlock : s.on F.CLK_STATUS_SYS_LOCK = true) (hchn : s.en Blk.CHN = false) :
    s.pllUnlock = ((((s.put F.CLK_STATUS_SYS_LOCK 0).irq Blk.CLK (2 ^ 5)).count (F.CLK_CNT_COUNT 2)).switchIslands).withClk
      { s.clk with sysUnlocked := some s.now } := by
  have hclk : ((((s.put F.CLK_STATUS_SYS_LOCK 0).irq Blk.CLK (2 ^ 5)).count (F.CLK_CNT_COUNT 2)).switchIslands).clk = s.clk := by
    rw [State.switchIslands_clk, State.count_clk, State.irq_clk, State.put_clk]
  rw [← hclk]
  unfold State.pllUnlock
  dsimp only
  rw [hlock, hchn]
  rfl

theorem State.pllUnlock_unlocked {s : State} (hlock : s.on F.CLK_STATUS_SYS_LOCK = false) : s.pllUnlock = s := by
  unfold State.pllUnlock
  rw [hlock]
  rfl

/-- A field of CLK_STATUS beside SYS_LOCK is kept. -/
theorem State.pllUnlock_status {s : State} (hchn : s.en Blk.CHN = false) {f : Fld} (haddr : f.addr = Reg.CLK_STATUS)
    (hf : f.lo + f.width ≤ 3 ∨ 4 ≤ f.lo) : s.pllUnlock.get f = s.get f := by
  cases hlock : s.on F.CLK_STATUS_SYS_LOCK with
  | false => rw [State.pllUnlock_unlocked hlock]
  | true =>
    rw [State.pllUnlock_eq hlock hchn, State.withClk_get, State.switchIslands_get _ (by rw [haddr]; decide), State.count,
      State.get_put_reg _ _ _ _ (by rw [haddr]; decide), State.irq_get _ _ _ (by rw [haddr]; decide),
      State.get_put_field _ _ _ _ (by decide) (by simp only [F.CLK_STATUS_SYS_LOCK]; omega)]

theorem State.pllUnlock_sysLock {s : State} (hchn : s.en Blk.CHN = false) : s.pllUnlock.on F.CLK_STATUS_SYS_LOCK = false := by
  cases hlock : s.on F.CLK_STATUS_SYS_LOCK with
  | false => rw [State.pllUnlock_unlocked hlock, hlock]
  | true =>
    rw [State.pllUnlock_eq hlock hchn, State.withClk_on, State.on, State.switchIslands_get _ (by decide), State.count,
      State.get_put_reg _ _ _ _ (by decide), State.irq_get _ _ _ (by decide)]
    exact State.on_put_zero _ _ (by decide)

theorem State.pllUnlock_items {s : State} (hchn : s.en Blk.CHN = false) : s.pllUnlock.items = s.items := by
  cases hlock : s.on F.CLK_STATUS_SYS_LOCK with
  | false => rw [State.pllUnlock_unlocked hlock]
  | true => rw [State.pllUnlock_eq hlock hchn, State.withClk_items, State.switchIslands_items, State.count_items,
      State.irq_items, State.put_items]

/-- The loss is shown, its instant noted, and the islands that the PLL feeds lose six cycles each. -/
theorem State.pllUnlock_shows {s : State} (hlock : s.on F.CLK_STATUS_SYS_LOCK = true) (hchn : s.en Blk.CHN = false) :
    bits (s.pllUnlock.rd Reg.CLK_ISR).toNat 5 5 = 1 ∧ s.pllUnlock.clk = { s.clk with sysUnlocked := some s.now } ∧
      s.pllUnlock.get (F.CLK_LOST_CYCLES 3) =
        Nat.min (s.get (F.CLK_LOST_CYCLES 3) + 6) (2 ^ (F.CLK_LOST_CYCLES 3).width - 1) ∧
      s.pllUnlock.get (F.CLK_LOST_CYCLES 0) = s.get (F.CLK_LOST_CYCLES 0) := by
  have hcycles {f : Fld} (hf : f.addr ≠ (F.CLK_CNT_COUNT 2).addr) (hi : irqTouches Blk.CLK f.addr = false)
      (hs : f.addr ≠ Reg.CLK_STATUS) :
      (((s.put F.CLK_STATUS_SYS_LOCK 0).irq Blk.CLK (2 ^ 5)).count (F.CLK_CNT_COUNT 2)).get f = s.get f := by
    rw [State.count, State.get_put_reg _ _ _ _ hf, State.irq_get _ _ _ hi, State.get_put_reg _ _ _ _ hs]
  rw [State.pllUnlock_eq hlock hchn]
  refine ⟨?_, rfl, ?_, ?_⟩
  · rw [State.withClk_rd, State.switchIslands_rd _ (by decide), State.count, State.rd_put_other _ _ _ (by decide)]
    exact State.irq_isr_bit (k := 5) _ (by decide) rfl (by decide) (by decide)
  · rw [State.withClk_get, State.switchIslands_cycles, hcycles (by decide) (by decide) (by decide)]
  · rw [State.withClk_get, State.switchIslands_get _ (by decide), hcycles (by decide) (by decide) (by decide)]

/-- The DSP PLL unlocks while Chanter is off. -/
theorem State.dspUnlock_eq {s : State} (hlock : s.on F.CLK_STATUS_DSP_LOCK = true) (hchn : s.en Blk.CHN = false) :
    s.dspUnlock = (((s.put F.CLK_STATUS_DSP_LOCK 0).irq Blk.CLK (2 ^ 6)).count (F.CLK_CNT_COUNT 3)).withClk
      { s.clk with dspUnlocked := some s.now } := by
  have hclk : (((s.put F.CLK_STATUS_DSP_LOCK 0).irq Blk.CLK (2 ^ 6)).count (F.CLK_CNT_COUNT 3)).clk = s.clk := by
    rw [State.count_clk, State.irq_clk, State.put_clk]
  rw [← hclk]
  unfold State.dspUnlock
  dsimp only
  rw [hlock, hchn]
  rfl

theorem State.dspUnlock_shows {s : State} (hlock : s.on F.CLK_STATUS_DSP_LOCK = true) (hchn : s.en Blk.CHN = false) :
    s.dspUnlock.on F.CLK_STATUS_DSP_LOCK = false ∧ bits (s.dspUnlock.rd Reg.CLK_ISR).toNat 6 6 = 1 ∧
      s.dspUnlock.clk.dspUnlocked = some s.now ∧ s.dspUnlock.on F.CLK_STATUS_SYS_LOCK = s.on F.CLK_STATUS_SYS_LOCK ∧
      s.dspUnlock.items = s.items := by
  have hstatus {f : Fld} (haddr : f.addr = Reg.CLK_STATUS) (x : State) :
      ((x.irq Blk.CLK (2 ^ 6)).count (F.CLK_CNT_COUNT 3)).on f = x.on f := by
    rw [State.count, State.on_put_reg _ _ _ _ (by rw [haddr]; decide), State.irq_on _ _ _ (by rw [haddr]; decide)]
  rw [State.dspUnlock_eq hlock hchn]
  refine ⟨?_, ?_, rfl, ?_, ?_⟩
  · rw [State.withClk_on, hstatus rfl]
    exact State.on_put_zero _ _ (by decide)
  · rw [State.withClk_rd, State.count, State.rd_put_other _ _ _ (by decide)]
    exact State.irq_isr_bit (k := 6) _ (by decide) rfl (by decide) (by decide)
  · rw [State.withClk_on, hstatus rfl, State.on_put_field _ _ _ _ (by decide) (by decide)]
  · rw [State.withClk_items, State.count_items, State.irq_items, State.put_items]

@[simp] theorem State.endMute_rd (s : State) (a : Nat) : s.endMute.rd a = s.rd a := rfl
@[simp] theorem State.endMute_on (s : State) (f : Fld) : s.endMute.on f = s.on f := rfl
@[simp] theorem State.endMute_items (s : State) : s.endMute.items = s.items := rfl
@[simp] theorem State.endMute_clk (s : State) : s.endMute.clk = s.clk := rfl
theorem State.endMute_pllHi (s : State) : s.endMute.chn.pllHi = asn s.net + 1 := rfl

/-- A dead time is noted in the data of the front end alone. -/
theorem State.noteDead_beside (s : State) (u : Option Nat) : ∃ f, s.noteDead u = { s with rfe := f } := by
  cases u with
  | none => exact ⟨s.rfe, rfl⟩
  | some a => exact ⟨_, rfl⟩

theorem State.noteDead_keeps (s : State) (u : Option Nat) :
    (s.noteDead u).items = s.items ∧ (s.noteDead u).net = s.net ∧ ∀ f, (s.noteDead u).on f = s.on f := by
  obtain ⟨f, hf⟩ := s.noteDead_beside u
  rw [hf]
  exact ⟨rfl, rfl, fun _ => rfl⟩

/-- The system PLL locks after a loss (R475). -/
theorem State.pllRelock_shows {s : State} {a : Nat} (href : s.get F.CLK_STATUS_REF_SRC ≠ 3)
    (hlock : s.on F.CLK_STATUS_SYS_LOCK = false) (hlost : s.clk.sysUnlocked = some a) :
    (s.pllRelock false).on F.CLK_STATUS_SYS_LOCK = true ∧ (s.pllRelock false).clk.sysUnlocked = none ∧
      (s.pllRelock false).clk.lockedTo = true ∧ bits ((s.pllRelock false).rd Reg.CLK_ISR).toNat 7 7 = 1 ∧
      (s.pllRelock false).chn.pllHi = asn s.net + 1 ∧ (s.pllRelock false).items = s.items := by
  have hrelock : s.pllRelock false =
      ((((s.put F.CLK_STATUS_SYS_LOCK 1).switchIslands.irq Blk.CLK (2 ^ 7)).endMute).withClk
        { (((s.put F.CLK_STATUS_SYS_LOCK 1).switchIslands.irq Blk.CLK (2 ^ 7)).endMute).clk with
          sysUnlocked := none, lockedTo := true }).syncRef := by
    unfold State.pllRelock
    rw [if_neg href, if_neg Bool.false_ne_true, if_neg (by rw [hlock]; exact Bool.false_ne_true), hlost]
    rfl
  rw [hrelock, State.syncRef_clk, State.syncRef_chn, State.syncRef_items, State.on, State.syncRef_get _ (by decide) (by decide),
    State.withClk_clk, State.withClk_chn, State.withClk_items, State.withClk_get, State.endMute_pllHi, State.endMute_items,
    State.irq_net, State.irq_items, State.switchIslands_net, State.switchIslands_items, State.put_net, State.put_items]
  refine ⟨?_, rfl, rfl, State.syncRef_isr _ ?_, rfl, rfl⟩
  · rw [← State.on, State.endMute_on, State.irq_on _ _ _ (by decide), State.on, State.switchIslands_get _ (by decide)]
    exact State.on_put_one _ _ (by decide) (by decide)
  · rw [State.withClk_rd, State.endMute_rd]
    exact State.irq_isr_bit (k := 7) _ (by decide) rfl (by decide) (by decide)

/-- The DSP PLL locks after a loss (R476). -/
theorem State.dspRelock_shows {s : State} {a : Nat} (href : s.get F.CLK_STATUS_REF_SRC ≠ 3)
    (hlock : s.on F.CLK_STATUS_DSP_LOCK = false) (hlost : s.clk.dspUnlocked = some a) :
    (s.pllRelock true).on F.CLK_STATUS_DSP_LOCK = true ∧ (s.pllRelock true).clk.dspUnlocked = none ∧
      bits ((s.pllRelock true).rd Reg.CLK_ISR).toNat 7 7 = 1 ∧ (s.pllRelock true).chn.pllHi = asn s.net + 1 ∧
      (s.pllRelock true).items = s.items := by
  obtain ⟨hitems, hnet, hon⟩ := State.noteDead_keeps (s.put F.CLK_STATUS_DSP_LOCK 1) s.clk.dspUnlocked
  have hrelock : s.pllRelock true = (((((s.put F.CLK_STATUS_DSP_LOCK 1).noteDead s.clk.dspUnlocked).withClk
      { s.clk with dspUnlocked := none })).irq Blk.CLK (2 ^ 7)).endMute := by
    unfold State.pllRelock
    rw [if_neg href, if_pos rfl, if_neg (by rw [hlock]; exact Bool.false_ne_true)]
    dsimp only
    rw [if_pos (by rw [hlost]; rfl)]
    rfl
  rw [hrelock, State.endMute_on, State.endMute_clk, State.endMute_rd, State.endMute_pllHi, State.endMute_items,
    State.irq_on _ _ _ (by decide), State.irq_clk, State.irq_net, State.irq_items, State.withClk_on, State.withClk_clk,
    State.withClk_items, hon, hitems, State.put_items]
  refine ⟨State.on_put_one _ _ (by decide) (by decide), rfl,
    State.irq_isr_bit (k := 7) _ (by decide) rfl (by decide) (by decide), ?_, rfl⟩
  exact congrArg (fun n => asn n + 1) hnet

/-! ### Starts and failures (R465, R477, R478) -/

/-- The monitor of HFRC is armed at the end of its start, and nothing waits for it (R465). -/
theorem State.startDelayEnd_hfrc {s : State} (meas : Nat) (hrun : s.clk.running.getD 2 false = true) (hok : sourceOk s 2 = false)
    (hdue : s.clk.startedAt.getD 2 0 + usU 10 ≤ s.now) (hheld : s.on F.CLK_STATUS_HELD = false) :
    s.startDelayEnd 2 true meas =
      ((s.withClk { s.clk with measured := modAt (fun _ => true) s.clk.measured 2 }).setOk 2 true).put F.CLK_STATUS_HELD 0 := by
  have hready : ¬ (3 < 2 ∨ (!s.clk.running.getD 2 false) = true ∨ sourceOk s 2 = true ∨
      s.now < s.clk.startedAt.getD 2 0 + startDelayU s 2) := by
    have hdelay : startDelayU s 2 = usU 10 := rfl
    rw [hrun, hok, hdelay]
    rintro (h | h | h | h)
    · exact absurd h (by decide)
    · exact Bool.false_ne_true h
    · exact Bool.false_ne_true h
    · exact Nat.not_lt.mpr hdue h
  unfold State.startDelayEnd
  rw [if_neg hready]
  extract_lets s1 clk s2
  have hs2 : s2 = s.withClk { s.clk with measured := modAt (fun _ => true) s.clk.measured 2 } := rfl
  have hheld' : s2.on F.CLK_STATUS_HELD = false := hheld
  rw [if_pos rfl]
  unfold State.enterService
  dsimp only
  rw [hheld', Bool.false_and, if_neg Bool.false_ne_true]
  exact congrArg (fun x : State => (x.setOk 2 true).put F.CLK_STATUS_HELD 0) hs2

theorem State.startDelayEnd_stopped {s : State} {src : Nat} (valid : Bool) (meas : Nat)
    (hrun : s.clk.running.getD src false = false) : s.startDelayEnd src valid meas = s := by
  unfold State.startDelayEnd
  rw [if_pos (.inr (.inl (by rw [hrun]; rfl)))]

/-- A tripped source before its place in the plan is taken by another: shown out of service, and stopped. -/
def State.tripped (s : State) (src : Nat) : State :=
  (((s.setOk src false).irq Blk.CLK (2 ^ src)).count (F.CLK_CNT_COUNT src)).withClk
    { s.clk with running := modAt (fun _ => false) s.clk.running src }

theorem State.clockTrip_eq {s : State} {src : Nat} (hsrc : src < 2) (hok : sourceOk s src = true) :
    s.clockTrip src = (s.tripped src).sourceFailed src := by
  have hclk : (((s.setOk src false).irq Blk.CLK (2 ^ src)).count (F.CLK_CNT_COUNT src)).clk = s.clk :=
    (State.count_clk ..).trans ((State.irq_clk ..).trans rfl)
  unfold State.clockTrip
  rw [if_neg (by omega), hok, if_neg (by simp only [Bool.not_true, Bool.false_eq_true, or_false]; omega)]
  dsimp only
  rw [if_pos hsrc, hclk]
  rfl

theorem State.clockTrip_failed {s : State} {src : Nat} (hsrc : src < 4) (hok : sourceOk s src = false) : s.clockTrip src = s := by
  unfold State.clockTrip
  rw [if_neg (by omega), hok, if_pos (.inr rfl)]

theorem State.tripped_items (s : State) (src : Nat) : (s.tripped src).items = s.items :=
  (State.irq_items (s.setOk src false) ..).trans rfl

/-- A field of CLK_STATUS outside the monitors' bits is kept by a trip. -/
theorem State.tripped_status (s : State) {src : Nat} (hsrc : src < 2) {f : Fld} (haddr : f.addr = Reg.CLK_STATUS)
    (hf : f.lo + f.width ≤ 5 ∨ 9 ≤ f.lo) : (s.tripped src).get f = s.get f := by
  have hcnt : Reg.CLK_STATUS ≠ Reg.CLK_CNT src := by simp only [Reg.CLK_STATUS, Reg.CLK_CNT]; omega
  rw [State.tripped, State.withClk_get, State.count, State.get_put_reg _ _ _ _ (by rw [haddr]; exact hcnt),
    State.irq_get _ _ _ (by rw [haddr]; decide), State.setOk_get _ _ _ hf]

/-- Only the tripped source's monitor bit clears. -/
theorem State.tripped_ok (s : State) {src k : Nat} (hsrc : src < 2) (hk : k < 4) :
    sourceOk (s.tripped src) k = if k = src then false else sourceOk s k := by
  have hcnt : Reg.CLK_STATUS ≠ Reg.CLK_CNT src := by simp only [Reg.CLK_STATUS, Reg.CLK_CNT]; omega
  rw [← State.setOk_shows s false (by omega : src < 4) hk]
  refine sourceOk_congr ?_ k
  rw [State.tripped, State.withClk_get, State.count, State.get_put_reg _ _ _ _ hcnt, State.irq_get _ _ _ (by decide)]

theorem State.tripped_en (s : State) {src b : Nat}
    (ha : (F.BLK_EN b).addr ≠ Reg.CLK_STATUS ∧ (F.BLK_EN b).addr ≠ Reg.CLK_CNT src)
    (hi : irqTouches Blk.CLK (F.BLK_EN b).addr = false) : (s.tripped src).en b = s.en b := by
  rw [State.en, State.tripped, State.withClk_on, State.count, State.on_put_reg _ _ _ _ ha.2, State.irq_on _ _ _ hi,
    State.on, State.get, State.setOk_rd _ _ _ ha.1]
  rfl

/-- A failure of LFXO while LFRC keeps time changes no source's place (Table 16-5). -/
theorem State.sourceFailed_lfxo {s : State} (h : s.on F.CLK_STATUS_LF_ACT = true) : s.sourceFailed 1 = s := by
  unfold State.sourceFailed
  exact if_pos h

/-- HFRC becomes the reference, at a lock loss (R474, R477). -/
theorem State.selectHfrc_shows {s : State} (href : s.get F.CLK_STATUS_REF_SRC = 0) (hchn : s.en Blk.CHN = false) :
    (s.selectRef 2 false).get F.CLK_STATUS_REF_SRC = 2 ∧ (s.selectRef 2 false).on F.CLK_STATUS_SYS_LOCK = false ∧
      (s.selectRef 2 false).get F.CLK_STATUS_OK = s.get F.CLK_STATUS_OK ∧ (s.selectRef 2 false).items = s.items ∧
      (s.selectRef 2 false).on F.CLK_STATUS_REF_VALID = false ∧ (s.selectRef 2 false).clk.lockedTo = false := by
  let s1 := (s.put F.CLK_STATUS_REF_SRC 2).count (F.CLK_CNT_COUNT 4)
  have hchn1 : s1.en Blk.CHN = false := by
    unfold s1
    rw [State.en, State.count, State.on_put_reg _ _ _ _ (by decide), State.on_put_reg _ _ _ _ (by decide)]
    exact hchn
  have hsrc : s1.pllUnlock.get F.CLK_STATUS_REF_SRC = 2 := by
    rw [State.pllUnlock_status hchn1 rfl (by decide)]
    unfold s1
    rw [State.count, State.get_put_reg _ _ _ _ (by decide), State.get_put_same _ _ _ (by decide)]
    rfl
  have hok : s1.pllUnlock.get F.CLK_STATUS_OK = s.get F.CLK_STATUS_OK := by
    rw [State.pllUnlock_status hchn1 rfl (by decide)]
    unfold s1
    rw [State.count, State.get_put_reg _ _ _ _ (by decide), State.get_put_field _ _ _ _ (by decide) (by decide)]
  have hlock := State.pllUnlock_sysLock hchn1
  have hitems : s1.pllUnlock.items = s.items := (State.pllUnlock_items hchn1).trans rfl
  have heq : s.selectRef 2 false = (s1.pllUnlock.withClk { s1.pllUnlock.clk with lockedTo := false }).syncRef := by
    unfold State.selectRef
    rw [if_neg (by rw [href]; decide)]
    dsimp only
    rw [if_neg Bool.false_ne_true, hlock]
    rfl
  rw [heq, State.syncRef_clk, State.syncRef_items, State.syncRef_get _ (by decide) (by decide), State.on,
    State.syncRef_get _ (by decide) (by decide), State.syncRef_get _ (by decide) (by decide)]
  exact ⟨hsrc, hlock, hok, hitems, State.syncRef_invalid rfl, rfl⟩

/-! ### Trimming (R471) -/

theorem trimRef_first {s : State} {r : Nat} {order : List Nat} (hr : r ≠ 2) (hok : sourceOk s r = true) :
    trimRef s (r :: order) = r := by
  unfold trimRef
  dsimp only
  rw [List.find?_cons_of_pos (by rw [if_neg hr]; exact hok)]
  rfl

/-- Both oscillators are trimmed against their first references. -/
theorem State.trim_eq {s : State} (hf lf : Nat) (hrun : s.clk.running = [true, true, true, true]) (hxo : sourceOk s 0 = true)
    (hlfxo : sourceOk s 1 = true) :
    s.trim hf lf = ((((s.put F.CLK_TRIM_HF_CODE hf).put F.CLK_TRIM_LF_CODE lf).put F.CLK_TRIM_HF_REF 0).put
      F.CLK_TRIM_LF_REF 1).count (F.CLK_CNT_COUNT 5) := by
  unfold State.trim
  rw [hrun, trimRef_first (by decide) hxo, trimRef_first (by decide) hlfxo]
  rfl

/-- Settles O49: the monitors' bits are written one by one, and a switch of the reference leaves all but its own fields. -/
theorem clockPlan : Obligations.ClockPlan := by
  unfold Obligations.ClockPlan
  refine ⟨?started, ?stopped, ?lfxo, ?xosc, ?failed, ?trim, ?unlock, ?unlocked, ?dspUnlock, ?relock, ?dspRelock, ?timeout, ?locked⟩
  case started =>
    intro s x t meas hx hrun hok hlen hdue hheld
    refine ⟨_, rfl, ?_⟩
    rw [← hx, State.startDelayEnd_hfrc meas hrun hok hdue hheld]
    have hput (k : Nat) (y : State) : sourceOk (y.put F.CLK_STATUS_HELD 0) k = sourceOk y k :=
      sourceOk_congr (State.get_put_field _ _ _ _ (by decide) (by decide)) k
    refine ⟨?_, ?_, rfl, ?_, ?_, rfl⟩
    · rw [hput, State.setOk_shows _ _ (by decide) (by decide)]
      rfl
    · change (modAt (fun _ => true) x.clk.measured 2).getD 2 false = true
      match h : x.clk.measured, hlen with
      | [a, b, c, d], _ => rfl
    · rw [hput, State.setOk_shows _ _ (by decide) (by decide)]
      rfl
    · rw [State.get_put_field _ _ _ _ (by decide) (by decide), State.setOk_get _ _ _ (by decide), State.withClk_get]
  case stopped =>
    intro s x t src meas ok hx hrun
    subst hx
    exact congrArg Host.Outcome.next (State.startDelayEnd_stopped ok meas hrun)
  case lfxo =>
    intro s x t hx hok hact hlen
    refine ⟨_, rfl, ?_⟩
    have hstays : (x.tripped 1).on F.CLK_STATUS_LF_ACT = true := by
      rw [State.on, State.tripped_status _ (by decide) rfl (by decide)]
      exact hact
    rw [← hx, State.clockTrip_eq (by decide) hok, State.sourceFailed_lfxo hstays]
    refine ⟨?_, ?_, ?_, ?_, ?_, State.tripped_items ..⟩
    · rw [State.tripped_ok _ (by decide) (by decide)]
      rfl
    · change (modAt (fun _ => false) x.clk.running 1).getD 1 true = false
      match h : x.clk.running, hlen with
      | [a, b, c, d], _ => rfl
    · rw [State.tripped, State.withClk_rd, State.count, State.rd_put_other _ _ _ (by decide)]
      exact State.irq_isr_bit (k := 1) _ (by decide) rfl (by decide) (by decide)
    · rw [State.on, State.tripped_status _ (by decide) rfl (by decide), State.on]
    · rw [State.tripped, State.withClk_get, State.count_get _ _ (by decide), State.irq_get _ _ _ (by decide), State.get,
        State.setOk_rd _ _ _ (by decide)]
      rfl
  case xosc =>
    intro s x t hx hxo hhfrc href hchn
    refine ⟨_, rfl, ?_⟩
    have href' : (x.tripped 0).get F.CLK_STATUS_REF_SRC = 0 := (State.tripped_status _ (by decide) rfl (by decide)).trans href
    have hok : sourceOk (x.tripped 0) 2 = true := by
      rw [State.tripped_ok _ (by decide) (by decide)]
      exact hhfrc
    have hgone : sourceOk (x.tripped 0) 0 = false := State.tripped_ok _ (by decide) (by decide)
    have hchn' : (x.tripped 0).en Blk.CHN = false := (State.tripped_en _ (by decide) (by decide)).trans hchn
    have hfall : (x.tripped 0).sourceFailed 0 = ((x.tripped 0).selectRef 2 false).syncRef := by
      unfold State.sourceFailed
      refine (if_pos href').trans (congrArg State.syncRef ?_)
      rw [State.fallBack, if_pos hok]
    rw [← hx, State.clockTrip_eq (by decide) hxo, hfall]
    obtain ⟨hsrc, hlock, hsame, hitems, hvalid, hto⟩ := State.selectHfrc_shows href' hchn'
    refine ⟨?_, ?_, ?_, State.syncRef_invalid (by rw [hto]; rfl), ?_⟩
    · rw [sourceOk_congr (State.syncRef_get _ (by decide) (by decide)), sourceOk_congr hsame]
      exact hgone
    · rw [State.syncRef_get _ (by decide) (by decide)]
      exact hsrc
    · rw [State.on, State.syncRef_get _ (by decide) (by decide)]
      exact hlock
    · rw [State.syncRef_items, hitems, State.tripped_items]
  case failed =>
    intro s x t src hx hsrc hok
    subst hx
    exact congrArg Host.Outcome.next (State.clockTrip_failed hsrc hok)
  case trim =>
    intro s x t hf lf hx hrun hxo hlfxo
    refine ⟨_, rfl, ?_⟩
    rw [← hx, State.trim_eq hf lf hrun hxo hlfxo]
    have hcnt {f : Fld} (hf : f.addr ≠ (F.CLK_CNT_COUNT 5).addr) (y : State) : (y.count (F.CLK_CNT_COUNT 5)).get f = y.get f :=
      State.get_put_reg y _ _ _ hf
    refine ⟨?_, ?_, ?_, ?_, rfl, rfl⟩
    · rw [hcnt (by decide)]
      iterate 3 rw [State.get_put_field _ _ _ _ (by decide) (by decide)]
      exact State.get_put_same _ _ _ (by decide)
    · rw [hcnt (by decide)]
      iterate 2 rw [State.get_put_field _ _ _ _ (by decide) (by decide)]
      exact State.get_put_same _ _ _ (by decide)
    · rw [hcnt (by decide), State.get_put_field _ _ _ _ (by decide) (by decide)]
      exact State.get_put_same _ _ _ (by decide)
    · rw [hcnt (by decide)]
      exact State.get_put_same _ _ _ (by decide)
  case unlock =>
    intro s x t hx hlock hchn
    refine ⟨_, rfl, ?_⟩
    rw [← hx]
    obtain ⟨hisr, hclk, hlost, hkept⟩ := State.pllUnlock_shows hlock hchn
    rw [hclk]
    exact ⟨State.pllUnlock_sysLock hchn, hisr, rfl, rfl, hlost, hkept, State.pllUnlock_items hchn⟩
  case unlocked =>
    intro s x t hx hlock
    subst hx
    exact congrArg Host.Outcome.next (State.pllUnlock_unlocked hlock)
  case dspUnlock =>
    intro s x t hx hlock hchn
    exact ⟨_, rfl, hx ▸ State.dspUnlock_shows hlock hchn⟩
  case relock =>
    intro s x t a hx href hlock hlost
    subst hx
    exact ⟨_, rfl, State.pllRelock_shows href hlock hlost⟩
  case dspRelock =>
    intro s x t a hx href hlock hlost
    subst hx
    exact ⟨_, rfl, State.dspRelock_shows href hlock hlost⟩
  case timeout =>
    intro s x t a hx hlost hlate hfirst
    refine ⟨_, rfl, ?_⟩
    rw [← hx]
    have hreset : x.relockTimeout = x.deviceReset 6 := by
      have hlate' : decide (a + usU 200 ≤ x.now) = true := decide_eq_true hlate
      unfold State.relockTimeout
      dsimp only
      rw [hlost]
      exact if_pos (Bool.or_eq_true_iff.mpr (.inl hlate'))
    rw [hreset]
    exact ⟨rfl, State.deviceReset_get_cause (by decide) (.inr hfirst)⟩
  case locked =>
    intro s x t hx hsys hdsp
    subst hx
    refine congrArg Host.Outcome.next ?_
    unfold State.relockTimeout
    dsimp only
    rw [hsys, hdsp]
    rfl

end Sys2Proof.Machine

/-! PROOFS. GPIO, serial interfaces, tamper inputs and the housekeeping ADC (R504, R521 to R529). -/

namespace Sys2Proof.Machine

theorem serialOn_of {s : State} {i : Nat} (hen : s.en Blk.PER = true) (hi : i < 2) : serialOn s i = true := by
  rw [serialOn, hen, decide_eq_true hi, Bool.and_self]

/-! ### GPIO (R522) -/

/-- The pad of an event unit's pin at its new level. -/
def State.padSet (s : State) (p : Nat) (rising : Bool) : State :=
  s.wr (Reg.PER_GPIO_IN (p / 32)) (if rising then s.rd (Reg.PER_GPIO_IN (p / 32)) ||| pinMask p
    else s.rd (Reg.PER_GPIO_IN (p / 32)) &&& ~~~pinMask p)

/-- A unit that selects rising edges publishes them, and no others. -/
theorem State.gpioEdge_rising {s : State} {u : Nat} (rising : Bool) (hu : u < 8) (hp : s.get (F.PER_GEVT_PIN u) < 40)
    (hedge : s.get (F.PER_GEVT_EDGE u) = 1) :
    s.gpioEdge u rising =
      if s.en Blk.PER && rising then (s.padSet (s.get (F.PER_GEVT_PIN u)) rising).fire (52 + u)
      else s.padSet (s.get (F.PER_GEVT_PIN u)) rising := by
  unfold State.gpioEdge
  dsimp only
  rw [if_neg (by omega), hedge]
  cases rising with
  | true => rfl
  | false => cases s.en Blk.PER <;> rfl

/-! ### UART (R523) -/

/-- A UART's new FIFOs, and their counts, which its status shows. -/
theorem State.setUart_shows (s : State) {i : Nat} (u : Uart) (hi : i < s.per.uart.length) :
    uartOf (s.setUart i u) i = u ∧ (s.setUart i u).items = s.items ∧
      (s.setUart i u).get (F.PER_UART_STATUS_TXN i) = u.tx.length % 64 :=
  ⟨getD_modAt_same _ _ _ _ hi, rfl, State.get_put_same _ _ _ (Nat.le_of_ble_eq_true rfl)⟩

/-- Status bits above the counts are kept. -/
theorem State.setUart_status (s : State) (i : Nat) (u : Uart) {f : Fld} (hlo : 14 ≤ f.lo) :
    (s.setUart i u).get f = s.get f :=
  (State.get_put_field _ _ _ _ (Nat.le_of_ble_eq_true rfl) (by simp only [F.PER_UART_STATUS_TXN]; omega)).trans
    (State.get_put_field _ _ _ _ (Nat.le_of_ble_eq_true rfl) (by simp only [F.PER_UART_STATUS_RXN]; omega))

theorem State.uartWrite_eq {s : State} {i : Nat} (b : Byte) (hon : serialOn s i = true) (hroom : (uartOf s i).tx.length < 32) :
    s.uartWrite i b = s.setUart i ⟨(uartOf s i).rx, (uartOf s i).tx ++ [b]⟩ := by
  unfold State.uartWrite
  dsimp only
  rw [hon, decide_eq_false (Nat.not_le.mpr hroom)]
  rfl

theorem State.uartWrite_full {s : State} {i : Nat} (b : Byte) (hfull : 32 ≤ (uartOf s i).tx.length) : s.uartWrite i b = s := by
  unfold State.uartWrite
  dsimp only
  rw [decide_eq_true hfull, Bool.or_true, if_pos rfl]

theorem State.uartRead_eq {s : State} {i : Nat} {b : Byte} {rest : List Byte} (hon : serialOn s i = true)
    (hrx : (uartOf s i).rx = b :: rest) :
    s.uartRead i = (s.setUart i ⟨rest, (uartOf s i).tx⟩).put (F.PER_UART_DATA_BYTE i) b.toNat := by
  unfold State.uartRead
  rw [hon, hrx]
  rfl

/-- A state before a byte is received: ERR shows a bad one. -/
def State.markedBad (s : State) (i : Nat) (bad : Bool) : State := if bad then s.put (F.PER_UART_STATUS_ERR i) 1 else s

theorem State.markedBad_beside (s : State) (i : Nat) (bad : Bool) :
    (s.markedBad i bad).per = s.per ∧ (s.markedBad i bad).items = s.items := by
  cases bad <;> exact ⟨rfl, rfl⟩

theorem State.markedBad_shows (s : State) (i : Nat) : (s.markedBad i true).on (F.PER_UART_STATUS_ERR i) = true :=
  State.on_put_one _ _ (Nat.le_of_ble_eq_true rfl) Nat.one_ne_zero

theorem State.uartReceive_room {s : State} {i : Nat} (b : Byte) (bad : Bool) (hon : serialOn s i = true)
    (hroom : (uartOf s i).rx.length < 32) (hbits : s.on (F.PER_UART_CFG_BITS7 i) = false) :
    s.uartReceive i b bad = (s.markedBad i bad).setUart i ⟨(uartOf s i).rx ++ [b], (uartOf s i).tx⟩ := by
  unfold State.uartReceive
  dsimp only
  rw [hon, hbits, if_neg (Nat.not_le.mpr hroom)]
  rfl

theorem State.uartReceive_full {s : State} {i : Nat} (b : Byte) (hon : serialOn s i = true)
    (hfull : 32 ≤ (uartOf s i).rx.length) : s.uartReceive i b false = s.put (F.PER_UART_STATUS_OVR i) 1 := by
  unfold State.uartReceive
  dsimp only
  rw [hon, if_pos hfull]
  rfl

theorem State.uartSent_eq {s : State} {i : Nat} (hon : serialOn s i = true) :
    s.uartSent i = s.setUart i ⟨(uartOf s i).rx, (uartOf s i).tx.drop 1⟩ := by
  unfold State.uartSent
  rw [hon]
  rfl

/-! ### SPI (R524) -/

/-- An interface's new FIFOs and shift register; BUSY follows. -/
theorem State.setSpi_shows (s : State) {i : Nat} (x : Spi) (hi : i < s.per.spi.length) :
    spiOf (s.setSpi i x) i = x ∧ (s.setSpi i x).items = s.items ∧
      (s.setSpi i x).on (F.PER_SPI_STATUS_BUSY i) = x.shifting.isSome :=
  ⟨getD_modAt_same _ _ _ _ hi, rfl, State.on_put_toNat _ _ (Nat.le_of_ble_eq_true rfl) Nat.one_ne_zero⟩

theorem spiWidth_word {s : State} {i : Nat} (hw : s.get (F.PER_SPI_CFG_WIDTH i) = 2) : spiWidth s i = 4 := by
  unfold spiWidth
  rw [hw]
  rfl

/-- A frame of four bytes is the whole word. -/
theorem frame_word (v : Word) : BitVec.ofNat 32 (v.toNat % 256 ^ 4) = v :=
  BitVec.eq_of_toNat_eq ((BitVec.toNat_ofNat ..).trans (by have := v.isLt; omega))

theorem State.spiWrite_idle {s : State} {i : Nat} (v : Word) (hon : serialOn s i = true) (htx : (spiOf s i).tx = [])
    (hidle : (spiOf s i).shifting = none) (hw : s.get (F.PER_SPI_CFG_WIDTH i) = 2) :
    s.spiWrite i v = s.setSpi i ⟨(spiOf s i).rx, [], some v, true⟩ := by
  unfold State.spiWrite
  dsimp only
  rw [hon, spiWidth_word hw, frame_word, htx, hidle]
  rfl

theorem State.spiRead_eq {s : State} {i : Nat} {f : Word} {rest : List Word} (hon : serialOn s i = true)
    (hrx : (spiOf s i).rx = f :: rest) :
    s.spiRead i = (s.setSpi i { spiOf s i with rx := rest }).wr (Reg.PER_SPI_DATA i) f := by
  unfold State.spiRead
  rw [hon, hrx]
  rfl

theorem State.spiEnd_last {s : State} {i : Nat} {f : Word} (v : Word) (hi : i < 2) (hshift : (spiOf s i).shifting = some f)
    (htx : (spiOf s i).tx = []) (hrx : (spiOf s i).rx = []) (hw : s.get (F.PER_SPI_CFG_WIDTH i) = 2) :
    s.spiEnd i v = s.setSpi i ⟨[v], [], none, false⟩ := by
  have hruns : ¬ ((spiOf s i).shifting.isNone = true ∨ 2 ≤ i) := by
    rw [hshift]
    simp only [Option.isNone_some, Bool.false_eq_true, false_or]
    omega
  unfold State.spiEnd
  dsimp only
  rw [if_neg hruns, spiWidth_word hw, frame_word, hrx, if_neg (by decide)]
  simp only [Spi.next, htx, List.nil_append]

/-! ### I2C (R525) -/

theorem State.i2cGo_busy {s : State} {i : Nat} {v : Word} (hi : i < 2) (hen : s.en Blk.PER = true) (hgo : bits v.toNat 31 31 = 1) :
    s.i2cGo i v = if s.on (F.PER_I2C_STATUS_BUSY i) then s.wr (Reg.PER_I2C_CMD i) (v &&& 0x001FFFFF)
      else (s.wr (Reg.PER_I2C_CMD i) (v &&& 0x001FFFFF)).put (F.PER_I2C_STATUS_BUSY i) 1 := by
  unfold State.i2cGo
  dsimp only
  rw [if_neg (Nat.not_le.mpr hi), serialOn_of hen hi, hgo]
  cases s.on (F.PER_I2C_STATUS_BUSY i) <;> rfl

/-- An interface is BUSY after GO, with its command kept. -/
theorem State.i2cGo_shows {s : State} {i : Nat} {v : Word} (hi : i < 2) (hen : s.en Blk.PER = true) (hgo : bits v.toNat 31 31 = 1) :
    (s.i2cGo i v).on (F.PER_I2C_STATUS_BUSY i) = true ∧ (s.i2cGo i v).rd (Reg.PER_I2C_CMD i) = (v &&& 0x001FFFFF) ∧
      (s.i2cGo i v).per = s.per ∧ (s.i2cGo i v).items = s.items := by
  have haddr : Reg.PER_I2C_STATUS i ≠ Reg.PER_I2C_CMD i := by simp only [Reg.PER_I2C_STATUS, Reg.PER_I2C_CMD]; omega
  rw [State.i2cGo_busy hi hen hgo]
  split
  · rename_i hbusy
    refine ⟨?_, State.rd_wr_same .., rfl, rfl⟩
    exact (congrArg (fun w => (F.PER_I2C_STATUS_BUSY i).value w != 0) (State.rd_wr_other _ _ haddr)).trans hbusy
  · refine ⟨State.on_put_one _ _ (Nat.le_of_ble_eq_true rfl) Nat.one_ne_zero, ?_, rfl, rfl⟩
    rw [State.rd_put_other _ _ _ haddr.symm, State.rd_wr_same]

theorem State.i2cData_write {s : State} {i : Nat} (b : Byte) (hon : serialOn s i = true) (hroom : (i2cOf s i).tx.length < 16) :
    s.i2cData i true b = s.setI2c i ⟨(i2cOf s i).rx, (i2cOf s i).tx ++ [b]⟩ := by
  unfold State.i2cData
  dsimp only
  rw [hon, decide_eq_false (Nat.not_le.mpr hroom)]
  rfl

theorem State.i2cEnd_read {s : State} {i : Nat} (bs : List Byte) (hon : serialOn s i = true)
    (hbusy : s.on (F.PER_I2C_STATUS_BUSY i) = true) (hread : s.on (F.PER_I2C_CMD_READ i) = true) :
    s.i2cEnd i false false bs =
      (s.setI2c i ⟨(i2cOf s i).rx ++ bs.take (s.get (F.PER_I2C_CMD_COUNT i)), (i2cOf s i).tx⟩).put
        (F.PER_I2C_STATUS_BUSY i) 0 := by
  unfold State.i2cEnd
  dsimp only
  rw [hon, hbusy, hread]
  rfl

/-! ### Tamper inputs (R526) -/

/-- TAMP0's line and level in PER_TAMP, all other bits kept. -/
theorem tamp_write (w : Word) {line : Nat} (hline : line < 4) :
    bits (word (w.toNat - bits w.toNat 2 0 * 16 ^ 0 + line * 16 ^ 0)).toNat 2 0 = line := by
  have := w.isLt
  simp only [bits, word, BitVec.toNat_ofNat]
  omega

/-- A state whose TAMP0 line and level read as `line`. -/
def State.tampLine (s : State) (line : Nat) : State :=
  s.wr Reg.PER_TAMP (word ((s.rd Reg.PER_TAMP).toNat - bits (s.rd Reg.PER_TAMP).toNat 2 0 * 16 ^ 0 + line * 16 ^ 0))

/-- A change of a line without an alarm is reported, and nothing else. -/
theorem State.tamperTest_reports {s : State} {line : Nat} (hoff : s.on F.SEC_CFG_TAMP0_EN = false) (hline : line < 4)
    (hchange : bits (s.rd Reg.PER_TAMP).toNat 2 0 ≠ line) :
    s.tamperTest 0 line false =
      ((s.tampLine line).irq Blk.PER (2 ^ 1)).record 0x1400 0x1403 0 ((s.tampLine line).rd Reg.PER_TAMP).toNat := by
  have hnew : line % 4 + false.toNat * 4 = line := Nat.mod_eq_of_lt hline
  unfold State.tamperTest
  dsimp only
  rw [if_neg (by decide), if_pos rfl, hoff, if_neg Bool.false_ne_true, hnew, if_neg hchange.symm]
  rfl

/-! ### Housekeeping ADC (R528) -/

/-- One entry within its limits, without a line check. -/
theorem State.hkaEntry_plain {s : State} {j v ch : Nat} (hch : s.get (F.HKA_SEQ_CH j) = ch) (hmax : ch ≤ 12)
    (hcheck : s.on (F.HKA_SEQ_CHECK j) = false) (hv : v < 65536) (hin : outOfLimits s ch v = false) :
    s.hkaEntry j (v, 0, 0) =
      (s.put (F.HKA_RESULT_VALUE ch) v).put (F.HKA_RESULT_LINE ch) (s.get (F.HKA_RESULT_LINE ch)) := by
  unfold State.hkaEntry
  dsimp only
  rw [hch, hcheck, Nat.mod_eq_of_lt hv, hin, if_neg (Nat.not_lt.mpr hmax)]
  rfl

theorem State.hkaDone_one {s : State} (r : Nat × Nat × Nat) (hbusy : s.on F.HKA_STATUS_BUSY = true) (hlen : 1 ≤ s.get F.HKA_CFG_LEN) :
    s.hkaDone [r] = (((s.hkaEntry 0 r).put F.HKA_STATUS_BUSY 0).irq Blk.HKA (2 ^ 0)).fire 48 := by
  unfold State.hkaDone State.hkaEntries
  rw [hbusy, if_pos (Nat.lt_of_lt_of_le Nat.zero_lt_one hlen)]
  rfl

/-- Settles O55: each command is one change of its interface's data, whose status registers follow. -/
theorem peripherals : Obligations.Peripherals := by
  unfold Obligations.Peripherals
  refine ⟨?rising, ?falling, ?uartWrite, ?uartFull, ?uartRead, ?uartReceive, ?overrun, ?uartSent, ?spiWrite, ?spiRead, ?spiEnd,
    ?i2cGo, ?i2cData, ?i2cEnd, ?tamper, ?hkaStart, ?hkaBusy, ?hkaDone⟩
  case rising =>
    intro s x t u p hx hu hp hp40 hen hedge
    subst hp
    refine ⟨_, rfl, ?_⟩
    rw [← hx, State.gpioEdge_rising true hu hp40 hedge, hen]
    exact ⟨rfl, State.rd_wr_same .., rfl⟩
  case falling =>
    intro s x t u p hx hu hp hp40 hedge
    subst hp
    refine ⟨_, rfl, ?_⟩
    rw [← hx, State.gpioEdge_rising false hu hp40 hedge, Bool.and_false]
    exact ⟨rfl, State.rd_wr_same .., rfl⟩
  case uartWrite =>
    intro s x t i b hx hen hi hlen hroom
    refine ⟨_, rfl, ?_⟩
    rw [← hx, State.uartWrite_eq b (serialOn_of hen hi) hroom]
    obtain ⟨huart, hitems, htxn⟩ := x.setUart_shows ⟨(uartOf x i).rx, (uartOf x i).tx ++ [b]⟩ (hlen ▸ hi)
    refine ⟨huart, htxn.trans ?_, hitems⟩
    rw [List.length_append, List.length_singleton]
    omega
  case uartFull =>
    intro s x t i b hx hfull
    subst hx
    exact congrArg Host.Outcome.next (State.uartWrite_full b hfull)
  case uartRead =>
    intro s x t i b rest hx hen hi hlen hrx
    refine ⟨_, rfl, ?_⟩
    rw [← hx, State.uartRead_eq (serialOn_of hen hi) hrx]
    obtain ⟨huart, hitems, -⟩ := x.setUart_shows ⟨rest, (uartOf x i).tx⟩ (hlen ▸ hi)
    refine ⟨?_, congrArg Uart.rx huart, hitems⟩
    exact (State.get_put_same _ _ _ (Nat.le_of_ble_eq_true rfl)).trans (Nat.mod_eq_of_lt b.isLt)
  case uartReceive =>
    intro s x t i b bad hx hen hi hlen hroom hbits
    refine ⟨_, rfl, ?_⟩
    rw [← hx, State.uartReceive_room b bad (serialOn_of hen hi) hroom hbits]
    obtain ⟨hper, hitems'⟩ := x.markedBad_beside i bad
    have hi' : i < (x.markedBad i bad).per.uart.length := by rw [hper, hlen]; exact hi
    obtain ⟨huart, hitems, -⟩ := (x.markedBad i bad).setUart_shows ⟨(uartOf x i).rx ++ [b], (uartOf x i).tx⟩ hi'
    refine ⟨congrArg Uart.rx huart, fun hbad => ?_, hitems.trans hitems'⟩
    subst hbad
    rw [State.on, State.setUart_status _ _ _ (Nat.le_of_ble_eq_true rfl)]
    exact State.markedBad_shows ..
  case overrun =>
    intro s x t i b hx hen hi hfull
    refine ⟨_, rfl, ?_⟩
    rw [← hx, State.uartReceive_full b (serialOn_of hen hi) hfull]
    exact ⟨State.on_put_one _ _ (Nat.le_of_ble_eq_true rfl) Nat.one_ne_zero, rfl⟩
  case uartSent =>
    intro s x t i hx hen hi hlen
    refine ⟨_, rfl, ?_⟩
    rw [← hx, State.uartSent_eq (serialOn_of hen hi)]
    obtain ⟨huart, hitems, -⟩ := x.setUart_shows ⟨(uartOf x i).rx, (uartOf x i).tx.drop 1⟩ (hlen ▸ hi)
    exact ⟨congrArg Uart.tx huart, (congrArg Uart.rx huart :), hitems⟩
  case spiWrite =>
    intro s x t i v hx hen hi hlen htx hidle hw
    refine ⟨_, rfl, ?_⟩
    rw [← hx, State.spiWrite_idle v (serialOn_of hen hi) htx hidle hw]
    obtain ⟨hspi, hitems, hbusy⟩ := x.setSpi_shows ⟨(spiOf x i).rx, [], some v, true⟩ (hlen ▸ hi)
    exact ⟨congrArg Spi.shifting hspi, congrArg Spi.selected hspi, congrArg Spi.tx hspi, hbusy, hitems⟩
  case spiRead =>
    intro s x t i f rest hx hen hi hlen hrx
    refine ⟨_, rfl, ?_⟩
    rw [← hx, State.spiRead_eq (serialOn_of hen hi) hrx]
    obtain ⟨hspi, hitems, -⟩ := x.setSpi_shows { spiOf x i with rx := rest } (hlen ▸ hi)
    exact ⟨State.rd_wr_same .., congrArg Spi.rx hspi, hitems⟩
  case spiEnd =>
    intro s x t i f v hx hi hlen hshift htx hrx hw
    refine ⟨_, rfl, ?_⟩
    rw [← hx, State.spiEnd_last v hi hshift htx hrx hw]
    obtain ⟨hspi, hitems, hbusy⟩ := x.setSpi_shows ⟨[v], [], none, false⟩ (hlen ▸ hi)
    exact ⟨congrArg Spi.rx hspi, congrArg Spi.shifting hspi, congrArg Spi.selected hspi, hbusy, hitems⟩
  case i2cGo =>
    intro s x t i v hx hi hen hgo
    exact ⟨_, rfl, hx ▸ State.i2cGo_shows hi (hx ▸ hen) hgo⟩
  case i2cData =>
    intro s x t i b hx hi hen hlen hroom
    refine ⟨_, rfl, ?_⟩
    rw [← hx, State.i2cData_write b (serialOn_of hen hi) hroom]
    exact ⟨congrArg I2c.tx (getD_modAt_same _ _ _ _ (hlen ▸ hi)), rfl, rfl⟩
  case i2cEnd =>
    intro s x t i bs hx hi hen hlen hbusy hread
    refine ⟨_, rfl, ?_⟩
    rw [← hx, State.i2cEnd_read bs (serialOn_of hen hi) hbusy hread]
    exact ⟨State.on_put_zero _ _ (Nat.le_of_ble_eq_true rfl), congrArg I2c.rx (getD_modAt_same _ _ _ _ (hlen ▸ hi)), rfl⟩
  case tamper =>
    intro s x t line hx hoff hline hchange
    refine ⟨_, rfl, ?_⟩
    rw [← hx, State.tamperTest_reports hoff hline hchange, State.record_rd, State.record_rd, State.record_cry, State.record_items, State.irq_rd _ _ _ (by decide),
      State.irq_cry, State.irq_items]
    refine ⟨?_, State.irq_isr_bit (k := 1) _ (by decide) rfl (by decide) (by decide), rfl, rfl⟩
    rw [State.tampLine, State.rd_wr_same]
    exact tamp_write _ hline
  case hkaStart =>
    intro s x t hx hen hidle
    refine ⟨_, rfl, ?_⟩
    have hstart : x.hkaStart = (x.put F.HKA_STATUS_BUSY 1).put F.HKA_STATUS_ENTRY 0 := by
      rw [State.hkaStart, hen, hidle]
      rfl
    rw [← hx, hstart]
    refine ⟨?_, State.get_put_same _ _ _ (by decide), rfl⟩
    rw [State.on_put_field _ _ _ _ (by decide) (by decide)]
    exact State.on_put_one _ _ (by decide) (by decide)
  case hkaBusy =>
    intro s x t hx hen hbusy
    refine ⟨_, rfl, ?_⟩
    have hstart : x.hkaStart = (x.irq Blk.HKA (2 ^ 2)).put F.HKA_STATUS_REASON 0x1502 := by
      rw [State.hkaStart, hen, hbusy]
      rfl
    rw [← hx, hstart]
    refine ⟨State.get_put_same _ _ _ (by decide), ?_, State.irq_items ..⟩
    rw [State.rd_put_other _ _ _ (by decide)]
    exact State.irq_isr_bit (k := 2) _ (by decide) rfl (by decide) (by decide)
  case hkaDone =>
    intro s x t v ch hx hbusy hlen hch hmax hcheck hv hin
    have hres : Reg.HKA_RESULT ch ≠ Reg.HKA_STATUS := by simp only [Reg.HKA_RESULT, Reg.HKA_STATUS]; omega
    have htouch : irqTouches Blk.HKA (Reg.HKA_RESULT ch) = false := by
      have : ∀ k ≤ 12, irqTouches Blk.HKA (Reg.HKA_RESULT k) = false := by decide
      exact this ch hmax
    refine ⟨_, rfl, ?_⟩
    rw [← hx, State.hkaDone_one _ hbusy hlen, State.hkaEntry_plain hch.symm hmax hcheck hv hin, State.fire_get, State.fire_on,
      State.fire_rd, State.fire_items, State.irq_get _ _ _ htouch, State.irq_on _ _ _ (by decide), State.irq_items]
    refine ⟨?_, State.on_put_zero _ _ (by decide), State.irq_isr_bit (k := 0) _ (by decide) rfl (by decide) (by decide), ?_, rfl⟩
    · rw [State.get_put_reg _ _ _ _ hres, State.get_put_field _ _ _ _ (Nat.le_of_ble_eq_true rfl) (.inl (Nat.le_of_ble_eq_true rfl))]
      exact (State.get_put_same _ _ _ (Nat.le_of_ble_eq_true rfl)).trans (Nat.mod_eq_of_lt hv)
    · refine List.mem_append_right _ ?_
      rw [State.irq_now]
      exact List.mem_singleton.mpr rfl

end Sys2Proof.Machine

/-! PROOFS. Flash descriptors (R370): a read of a bank that holds a nested program alone. -/

namespace Sys2Proof.Machine

/-- Reset, with the flash controller enabled, an FL_READ of no byte at address 0 fetched, and a nested program in bank 0,
where no erase is suspended. -/
def nestedAlone : State :=
  { State.reset.put (F.BLK_EN Blk.FLC) 1 with
    hre := { State.reset.hre with fetched := [⟨0, [0x30], []⟩] }
    flc := { Flc.reset with nested := some (newOp none true 1 0 [] 0 0) } }

/-- Refutes O33: "no operation on the bank" leaves out a nested program, for which FL_READ waits with its descriptor
still fetched. -/
theorem not_flashDescriptors : ¬ Obligations.FlashDescriptors := by
  unfold Obligations.FlashDescriptors
  rintro ⟨hread, -⟩
  have hdone := Host.Outcome.next.inj (hread nestedAlone (nestedAlone.at 0) _ 0 0 0 ⟨0, [0x30], []⟩ [] rfl (by decide) rfl (by decide)
    (by decide) (by decide) (by decide) (by decide) (by decide) (by decide) (by decide) (by decide))
  exact absurd (congrArg (fun r : State => r.hre.fetched.length) hdone) (by decide)

end Sys2Proof.Machine

/-! PROOFS. What starts on the banks of the flash controller, and the direct interface (R369 to R379, R385). -/

namespace Sys2Proof.Machine

/-! ### What the controller works at -/

/-- Operations, nested program, waiting operation and due refreshes: what programs and erases leave of the controller. -/
def State.flcWork (s : State) : List (Option FlashOp) × Option FlashOp × Option FlashOp × List Nat :=
  (s.flc.ops, s.flc.nested, s.flc.waiting, s.flc.refreshDue)

theorem State.flcWork_of_flc {s r : State} (h : r.flc = s.flc) : r.flcWork = s.flcWork := by
  rw [State.flcWork, h, State.flcWork]

theorem State.programWord_flcWork (s : State) (a : Nat) (data : List Byte) (w : Nat) :
    (s.programWord a data w).flcWork = s.flcWork := by
  unfold State.programWord
  dsimp only
  split <;> rfl

theorem State.program_flcWork (s : State) (a : Nat) (data : List Byte) : (s.program a data).flcWork = s.flcWork :=
  foldl_keeps (p := State.flcWork) (fun x w => State.programWord_flcWork x a data w) _ _

theorem State.openRecord_flcWork (s : State) (a kind source len : Nat) :
    (s.openRecord a kind source len).flcWork = s.flcWork := by
  have hprogram := State.program_flcWork s (opJournalAt s.flc.journalNext) (opRecord a kind source len s.flc.journalSeq)
  unfold State.openRecord
  dsimp only
  split
  · exact hprogram
  · exact hprogram

/-- The record of an operation is opened, and the operation runs from now. -/
theorem State.journalOp_shows (s : State) (o : FlashOp) :
    (s.journalOp o).1.flcWork = s.flcWork ∧ (s.journalOp o).1.offFlash = s.offFlash ∧
      ∃ k, (s.journalOp o).2 = { o with since := s.now, lastAccess := s.now, record := k } := by
  unfold State.journalOp
  dsimp only
  split
  · exact ⟨rfl, rfl, o.record, rfl⟩
  · exact ⟨State.openRecord_flcWork .., State.openRecord_offFlash .., _, rfl⟩

theorem opOf_setOp (s : State) {b : Nat} (o : Option FlashOp) (hb : b < s.flc.ops.length) : opOf (s.setOp b o) b = o :=
  getD_modAt_same _ _ _ _ hb

theorem opOf_setOp_other (s : State) {b c : Nat} (o : Option FlashOp) (h : c ≠ b) : opOf (s.setOp b o) c = opOf s c :=
  getD_modAt_other _ _ _ h

theorem opOf_of_flcWork {s r : State} (h : r.flcWork = s.flcWork) (b : Nat) : opOf r b = opOf s b :=
  congrArg (fun w => w.1.getD b none) h

/-- An operation of the array begins on its idle bank. -/
theorem State.beginOp_shows (s : State) {o : FlashOp} (hop : o.op ≠ 3) (hb : bankOf o.addr < s.flc.ops.length) :
    ∃ k, opOf (s.beginOp o) (bankOf o.addr) = some { o with since := s.now, lastAccess := s.now, record := k } := by
  obtain ⟨hwork, -, k, hk⟩ := s.journalOp_shows o
  refine ⟨k, ?_⟩
  rw [State.beginOp, if_neg hop, hk]
  refine opOf_setOp _ _ ?_
  rw [show (s.journalOp o).1.flc.ops = s.flc.ops from congrArg Prod.fst hwork]
  exact hb

theorem State.beginOp_offFlash (s : State) (o : FlashOp) : (s.beginOp o).offFlash = s.offFlash :=
  (s.journalOp_shows o).2.1

theorem State.beginOp_waiting (s : State) (o : FlashOp) :
    (s.beginOp o).flc.nested = s.flc.nested ∧ (s.beginOp o).flc.waiting = s.flc.waiting ∧
      (s.beginOp o).flc.refreshDue = s.flc.refreshDue ∧ (s.beginOp o).flc.ops.length = s.flc.ops.length := by
  have hwork := (s.journalOp_shows o).1
  simp only [State.flcWork, Prod.mk.injEq] at hwork
  obtain ⟨hops, hnested, hwaiting, hdue⟩ := hwork
  exact ⟨hnested, hwaiting, hdue, (length_modAt ..).trans (congrArg List.length hops)⟩

/-! ### What the registers of the controller show -/

/-- Only registers follow the controller. -/
theorem State.syncFlc_keeps {α : Type} {F : State → α} (hput : ∀ (x : State) (f : Fld) (v : Nat), F (x.put f v) = F x)
    (s : State) : F s.syncFlc = F s := by
  unfold State.syncFlc
  dsimp only
  iterate 9 rw [hput]

@[simp] theorem State.syncFlc_flc (s : State) : s.syncFlc.flc = s.flc := State.syncFlc_keeps State.put_flc s

theorem State.syncFlc_rd (s : State) {a : Nat} (ha : a ≠ Reg.FLC_STATUS ∧ a ≠ Reg.FLC_DSTAT ∧ a ≠ Reg.FLC_LOCK) :
    s.syncFlc.rd a = s.rd a := by
  obtain ⟨hstatus, hdstat, hlock⟩ := ha
  unfold State.syncFlc
  dsimp only
  rw [State.rd_put_other _ _ _ hstatus, State.rd_put_other _ _ _ hlock]
  iterate 3 rw [State.rd_put_other _ _ _ hdstat]
  iterate 4 rw [State.rd_put_other _ _ _ hstatus]

theorem State.syncFlc_get (s : State) {f : Fld} (hf : f.addr ≠ Reg.FLC_STATUS ∧ f.addr ≠ Reg.FLC_DSTAT ∧ f.addr ≠ Reg.FLC_LOCK) :
    s.syncFlc.get f = s.get f := by
  rw [State.get, State.syncFlc_rd s hf, State.get]

theorem State.syncFlc_execLock (s : State) : s.syncFlc.get F.FLC_LOCK_EXEC_LOCK = s.get F.FLC_LOCK_EXEC_LOCK := by
  unfold State.syncFlc
  dsimp only
  rw [State.get_put_reg _ _ _ _ (by decide), State.get_put_field _ _ _ _ (by decide) (by decide)]
  iterate 7 rw [State.get_put_reg _ _ _ _ (by decide)]

/-! ### What starts (R372, R378, R379) -/

/-- With nothing that waits, the controller's registers are all that follows. -/
theorem State.startWaiting_idle {s : State} (hstore : s.cry.storing = []) (hwait : s.flc.waiting = none)
    (hdue : s.flc.refreshDue = []) : s.startWaiting = s.syncFlc := by
  have hno : storeWaits s = false := by rw [storeWaits, hstore]
  unfold State.startWaiting
  split
  · rfl
  · dsimp only
    rw [hno, Bool.false_and, Bool.false_and, Bool.false_and, Bool.false_and, if_neg Bool.false_ne_true, hwait]
    dsimp only
    rw [hdue]
    rfl

/-- In economy nothing starts (R359). -/
theorem State.startWaiting_economy {s : State} (heco : s.on F.BLW_STATUS_ECONOMY = true) : s.startWaiting = s.syncFlc := by
  unfold State.startWaiting
  exact if_pos heco

theorem State.freshBytes_flc (s : State) (n : Nat) : (s.freshBytes n).2.flc = s.flc ∧ (s.freshBytes n).2.net = s.net ∧
    (s.freshBytes n).2.regs = s.regs ∧ (s.freshBytes n).2.sram = s.sram := by
  induction n generalizing s with
  | zero => exact ⟨rfl, rfl, rfl, rfl⟩
  | succ n ih => exact ih (s.fresh 256).2

theorem State.storeIssued_beside (s : State) :
    s.storeIssued.flcWork = s.flcWork ∧ s.storeIssued.net = s.net ∧ s.storeIssued.regs = s.regs ∧ s.storeIssued.sram = s.sram :=
  ⟨rfl, rfl, rfl, rfl⟩

/-- The pages of the key store lie in bank 0. -/
theorem bankOf_storePage (k : Nat) : bankOf (keyStoreBase + k % 2048 * 256) = 0 := by
  have hlow : keyStoreBase + k % 2048 * 256 < 0x1000000 := by simp only [keyStoreBase]; omega
  have hfield : ¬ fieldBase ≤ keyStoreBase + k % 2048 * 256 := Nat.not_le.mpr (Nat.lt_trans hlow (by decide))
  rw [bankOf, if_neg hfield]
  exact Nat.div_eq_of_lt hlow

/-- The page that the oldest write of the key store programs. -/
def storeAddr (s : State) : Nat := keyStoreBase + s.cry.storePage % 2048 * 256
/-- A page that opens a block erases it. -/
def State.storeErased (s : State) : State := if s.cry.storePage % 128 = 0 then s.eraseRange (storeAddr s) 32768 else s

theorem State.beginStore_eq (s : State) :
    s.beginStore = (s.storeErased.freshBytes 256).2.storeIssued.beginOp
      (newOp none false 1 (storeAddr s) (s.storeErased.freshBytes 256).1 0 (usU 300)) := by
  unfold State.beginStore State.storeIssued State.storeErased storeAddr
  rfl
/-- A write of the key store begins: the waiting operation, the due refreshes and the other banks stay. -/
theorem State.beginStore_shows (s : State) :
    s.beginStore.flc.waiting = s.flc.waiting ∧ s.beginStore.flc.refreshDue = s.flc.refreshDue ∧
      s.beginStore.flc.ops.length = s.flc.ops.length ∧ s.beginStore.net = s.net ∧ s.beginStore.regs = s.regs ∧
      s.beginStore.sram = s.sram ∧ (∀ b, b ≠ 0 → opOf s.beginStore b = opOf s b) := by
  have herase : s.storeErased.flcWork = s.flcWork ∧ s.storeErased.net = s.net ∧ s.storeErased.regs = s.regs ∧
      s.storeErased.sram = s.sram := by
    unfold State.storeErased
    split <;> exact ⟨rfl, rfl, rfl, rfl⟩
  obtain ⟨hflc, hnet, hregs, hsram⟩ := State.freshBytes_flc s.storeErased 256
  obtain ⟨hwork', hnet', hregs', hsram'⟩ := (s.storeErased.freshBytes 256).2.storeIssued_beside
  have hz := hwork'.trans ((State.flcWork_of_flc hflc).trans herase.1)
  rw [hnet, herase.2.1] at hnet'
  rw [hregs, herase.2.2.1] at hregs'
  rw [hsram, herase.2.2.2] at hsram'
  obtain ⟨o, ho, hop, haddr⟩ : ∃ o, s.beginStore = (s.storeErased.freshBytes 256).2.storeIssued.beginOp o ∧ o.op = 1 ∧
      o.addr = storeAddr s := ⟨_, s.beginStore_eq, rfl, rfl⟩
  rw [storeAddr] at haddr
  generalize (s.storeErased.freshBytes 256).2.storeIssued = z at *
  obtain ⟨-, hwaiting, hdue, hlen⟩ := z.beginOp_waiting o
  have hoff := z.beginOp_offFlash o
  have hothers (b : Nat) (hb : b ≠ 0) : opOf (z.beginOp o) b = opOf s b := by
    rw [State.beginOp, if_neg (by rw [hop]; decide), haddr, bankOf_storePage, opOf_setOp_other _ _ hb,
      opOf_of_flcWork (z.journalOp_shows o).1, opOf_of_flcWork hz]
  simp only [State.flcWork, Prod.mk.injEq] at hz
  obtain ⟨hops', -, hwaiting', hdue'⟩ := hz
  rw [ho]
  exact ⟨hwaiting.trans hwaiting', hdue.trans hdue', hlen.trans (congrArg List.length hops'),
    (congrArg State.net hoff :).trans hnet', (congrArg State.regs hoff :).trans hregs', (congrArg State.sram hoff :).trans hsram',
    hothers⟩

/-- Whether a run ends before its bank's next occupancy depends on the promise table and network time. -/
theorem endsBefore_congr {s r : State} (hitems : r.items = s.items) (hnet : r.net = s.net) (b runU : Nat) :
    endsBefore r b runU = endsBefore s b runU := by
  rw [endsBefore, nextOccupancy, hitems, hnet, endsBefore, nextOccupancy]

/-- A waiting operation starts on its idle bank, where it ends before the next occupancy; a write of the key store that
starts with it takes another bank (R372). -/
theorem State.startWaiting_starts {s : State} {o : FlashOp} (heco : s.on F.BLW_STATUS_ECONOMY = false)
    (hwait : s.flc.waiting = some o) (hop : o.op ≠ 3) (hfree : opOf s (bankOf o.addr) = none)
    (hends : endsBefore s (bankOf o.addr) o.runU = true) (hdue : s.flc.refreshDue = [])
    (hbank : bankOf o.addr < s.flc.ops.length) :
    ∃ n k, opOf s.startWaiting (bankOf o.addr) = some { o with since := n, lastAccess := n, record := k } := by
  unfold State.startWaiting
  rw [if_neg (by rw [heco]; exact Bool.false_ne_true)]
  extract_lets y flc y1 locked ready flc1 y2
  have hy : y.flc.waiting = some o ∧ opOf y (bankOf o.addr) = none ∧ y.items = s.items ∧ y.net = s.net ∧
      y.flc.refreshDue = [] ∧ bankOf o.addr < y.flc.ops.length := by
    unfold y
    split
    · rename_i hstore
      obtain ⟨hw, hd, hl, hnet, -, -, hothers⟩ := s.beginStore_shows
      have hitems : s.beginStore.items = s.items := congrArg (fun k => k.2.1) s.beginStore_storeKept
      have hb : bankOf o.addr ≠ 0 := by
        simp only [hwait, Option.all_some, Bool.and_eq_true, bne_iff_ne, ne_eq] at hstore
        exact hstore.1.2
      exact ⟨hw.trans hwait, (hothers _ hb).trans hfree, hitems, hnet, hd.trans hdue, hl ▸ hbank⟩
    · exact ⟨hwait, hfree, rfl, rfl, hdue, hbank⟩
  obtain ⟨hw, hf, hitems, hnet, hd, hl⟩ := hy
  let z : State := { y with flc := { y.flc with waiting := none } }
  have hy1 : y1 = z.beginOp o := by
    unfold y1
    rw [hw]
    dsimp only
    rw [hf]
    dsimp only
    rw [endsBefore_congr hitems hnet, hends, if_pos rfl]
  have hy2 : y2 = y1 := by
    have hnone : y1.flc.refreshDue = [] := by
      rw [hy1, (z.beginOp_waiting o).2.2.1]
      exact hd
    unfold y2
    rw [hnone]
    rfl
  obtain ⟨k, hk⟩ := z.beginOp_shows hop hl
  refine ⟨z.now, k, ?_⟩
  rw [← hk, hy2, hy1]
  exact congrArg (fun f : Flc => f.ops.getD (bankOf o.addr) none) (State.syncFlc_flc _)

/-- Starting what waits leaves the locks. -/
theorem State.startWaiting_execLock (s0 : State) :
    s0.startWaiting.get F.FLC_LOCK_EXEC_LOCK = s0.get F.FLC_LOCK_EXEC_LOCK := by
  have hbegin (x : State) (o : FlashOp) : (x.beginOp o).rd Reg.FLC_LOCK = x.rd Reg.FLC_LOCK :=
    State.rd_of_offFlash (x.beginOp_offFlash o) _
  unfold State.startWaiting
  extract_lets +lift s flc s1 locked ready flc1 s2
  have hs : s.rd Reg.FLC_LOCK = s0.rd Reg.FLC_LOCK := by
    unfold s
    split
    · obtain ⟨-, -, -, -, hregs, -⟩ := s0.beginStore_shows
      rw [State.rd, hregs, State.rd]
    · rfl
  have hs1 : s1.rd Reg.FLC_LOCK = s.rd Reg.FLC_LOCK := by
    simp only [s1]
    split
    · rfl
    · split
      · exact State.rd_ite (hbegin _ _) rfl
      · refine State.rd_ite (State.rd_ite ?_ ?_) rfl
        · exact (State.irq_rd _ _ _ (by decide)).trans (State.rd_put_other _ _ _ (by decide))
        · exact State.rd_of_offFlash (s.journalOp_shows _).2.1 _
  have hs2 : s2.rd Reg.FLC_LOCK = s1.rd Reg.FLC_LOCK := by
    simp only [s2]
    split
    · exact hbegin _ _
    · rfl
  split
  · exact State.syncFlc_execLock s0
  · rw [State.syncFlc_execLock]
    exact congrArg F.FLC_LOCK_EXEC_LOCK.value (hs2.trans (hs1.trans hs))

/-! ### The direct interface (R373) -/

/-- FLC_DCMD holds the command given to the direct interface. -/
def State.commanded (s : State) (v : Word) : State :=
  s.wr Reg.FLC_DCMD (word (bits v.toNat 2 0 + bits v.toNat 28 16 * 65536))

theorem State.commanded_get (s : State) (v : Word) {f : Fld} (hf : f.addr ≠ Reg.FLC_DCMD) : (s.commanded v).get f = s.get f :=
  congrArg f.value (State.rd_wr_other s _ hf)

theorem State.commanded_rangeRefusal (s : State) (v : Word) (a n : Nat) (own : Bool) :
    rangeRefusal (s.commanded v) a n own = rangeRefusal s a n own := by
  rw [rangeRefusal, State.commanded_get _ _ (by decide), rangeRefusal]

/-- A state whose direct interface waits with an operation. -/
def State.withWaiting (s : State) (o : FlashOp) : State := { s with flc := { s.flc with waiting := some o } }

/-- The operation of a command of `len` bytes. -/
def directOp (s : State) (op a len : Nat) : FlashOp :=
  newOp none true op a (if op = 1 then s.sramRead (s.rd Reg.FLC_DSRC).toNat len else []) 0
    (if op = 1 then programRunU a len else eraseRunU a)

/-- A command that no check refuses waits for its bank, or starts. -/
theorem State.directGo_passes {s : State} {req : Requester} {v : Word} {op a len : Nat} (hop : op = 1 ∨ op = 2)
    (hbusy : s.on F.FLC_DSTAT_BUSY = false) (hfield : bits v.toNat 2 2 = 0) (ha : a = s.get F.FLC_DADDR_ADDR)
    (hlen : len = bits v.toNat 28 16) (hprogram : op = 1 → 1 ≤ len ∧ len ≤ 4096 ∧ (s.rd Reg.FLC_DSRC).toNat % 4 = 0)
    (herase : op = 2 → a % blockSize a = 0)
    (hrange : rangeRefusal s a (if op = 1 then len else blockSize a) (isSecurity req) = none)
    (hready : s.on F.FLC_STATUS_READY = true) (hfree : opOf s (bankOf a) = none) :
    s.directGo req v op = ((s.commanded v).withWaiting (directOp s op a len)).startWaiting := by
  unfold State.directGo
  rw [if_neg (by rw [hbusy]; exact Bool.false_ne_true)]
  extract_lets w s1 field a' len' src n bad nestedBlock code data run flc
  have hs1 : s1 = s.commanded v := rfl
  have ha' : a' = a := by
    unfold a' field w
    rw [hfield, hs1, State.commanded_get _ _ (by decide), ← ha]
    rfl
  have hlen' : len' = len := hlen.symm
  have hsrc : src = (s.rd Reg.FLC_DSRC).toNat := congrArg BitVec.toNat (State.rd_wr_other s _ (by decide))
  have hbad : bad = false := by
    unfold bad
    rw [ha', hlen', hsrc]
    rcases hop with rfl | rfl
    · obtain ⟨hlo, hhi, hsrc4⟩ := hprogram rfl
      rw [hsrc4, decide_eq_false (Nat.not_lt.mpr hlo), decide_eq_false (Nat.not_lt.mpr hhi)]
      rfl
    · rw [herase rfl]
      rfl
  have hnested : nestedBlock = false := by
    unfold nestedBlock
    rw [ha', show opOf s1 (bankOf a) = none from hfree]
  have hready' : s1.on F.FLC_STATUS_READY = true := by
    rw [State.on, hs1, State.commanded_get _ _ (by decide)]
    exact hready
  have hcode : code = none := by
    unfold code n
    rw [hbad, if_neg Bool.false_ne_true, ha', hlen', hs1, State.commanded_rangeRefusal, hrange, ← hs1]
    dsimp only
    rw [hready', hnested]
    rfl
  rw [hcode]
  dsimp only
  unfold data run
  rw [ha', hlen', hsrc]
  rfl

/-- And where its bank is idle and time is left, it starts. -/
theorem State.directGo_starts {s : State} (v : Word) {op a len : Nat} (hop : op ≠ 3) (heco : s.on F.BLW_STATUS_ECONOMY = false)
    (hfree : opOf s (bankOf a) = none)
    (hends : endsBefore s (bankOf a) (if op = 1 then programRunU a len else eraseRunU a) = true) (hdue : s.flc.refreshDue = [])
    (hbank : bankOf a < s.flc.ops.length) :
    ∃ n k, opOf ((s.commanded v).withWaiting (directOp s op a len)).startWaiting (bankOf a) =
      some { directOp s op a len with since := n, lastAccess := n, record := k } := by
  have heco' : ((s.commanded v).withWaiting (directOp s op a len)).on F.BLW_STATUS_ECONOMY = false :=
    (congrArg (· != 0) (State.commanded_get s v (f := F.BLW_STATUS_ECONOMY) (by decide))).trans heco
  exact State.startWaiting_starts (o := directOp s op a len) heco' rfl hop hfree hends hdue hbank

/-- A command while one is busy, and one that a check refuses, change a register alone. -/
theorem State.directGo_busy {s : State} (req : Requester) (v : Word) (op : Nat) (hbusy : s.on F.FLC_DSTAT_BUSY = true) :
    s.directGo req v op = s.put F.FLC_DSTAT_REASON 0x0EF4 := by
  unfold State.directGo
  exact if_pos hbusy

/-- Blocks of the boot area are refused to all (R369). -/
theorem rangeRefusal_boot (s : State) {a : Nat} (own : Bool) (hlow : a < 0x200000) (hblock : a % 32768 = 0) :
    rangeRefusal s a 32768 own = some 0x0E01 := by
  have hfield {b : Nat} (hb : b < 0x400000) : ¬ fieldBase ≤ b := Nat.not_le.mpr (Nat.lt_trans hb (by decide))
  have hbank : bankOf a = 0 := by
    rw [bankOf, if_neg (hfield (by omega))]
    omega
  have hstart : blockStart a = blockStart (a + 32768 - 1) := by
    rw [blockStart, blockSize, if_neg (hfield (by omega)), blockStart, blockSize, if_neg (hfield (by omega))]
    omega
  unfold rangeRefusal
  dsimp only
  rw [hbank, if_neg (by decide), ← hstart, if_neg (by simp only [ne_eq, not_true, or_false]; omega), if_pos (.inl hlow)]

theorem State.directGo_boot {s : State} {req : Requester} {v : Word} (hbusy : s.on F.FLC_DSTAT_BUSY = false)
    (hfield : bits v.toNat 2 2 = 0) (hlow : s.get F.FLC_DADDR_ADDR < 0x200000) (hblock : s.get F.FLC_DADDR_ADDR % 32768 = 0) :
    s.directGo req v 2 = (s.commanded v).put F.FLC_DSTAT_REASON 0x0E01 := by
  unfold State.directGo
  rw [if_neg (by rw [hbusy]; exact Bool.false_ne_true)]
  extract_lets w s1 field a len src n bad nestedBlock code data run flc
  have hs1 : s1 = s.commanded v := rfl
  have ha : a = s.get F.FLC_DADDR_ADDR := by
    unfold a field w
    rw [hfield, hs1, State.commanded_get _ _ (by decide)]
    rfl
  have hsize : blockSize a = 32768 := by
    rw [blockSize, ha, if_neg (Nat.not_le.mpr (Nat.lt_trans hlow (by decide)))]
  have hbad : bad = false := by
    unfold bad
    rw [hsize, ha, hblock]
    rfl
  have hcode : code = some 0x0E01 := by
    unfold code n
    rw [hbad, if_neg Bool.false_ne_true, if_neg (by decide), hsize, rangeRefusal_boot s1 _ (ha ▸ hlow) (ha ▸ hblock)]
  rw [hcode]
  rfl

/-! ### Scrubbing (R385) -/

/-- A state with other due refreshes. -/
def State.withDue (s : State) (l : List Nat) : State := { s with flc := { s.flc with refreshDue := l } }

theorem State.withDue_get (s : State) (l : List Nat) (f : Fld) : (s.withDue l).get f = s.get f := rfl
theorem State.withDue_on (s : State) (l : List Nat) (f : Fld) : (s.withDue l).on f = s.on f := rfl
theorem State.withDue_flc (s : State) (l : List Nat) : (s.withDue l).flc = { s.flc with refreshDue := l } := rfl

/-- A word with as many errors as THRESH asks for counts, and makes its block due. -/
theorem State.scrub_due {s : State} {a errors : Nat} (hen : s.en Blk.FLC = true) (hon : s.on F.FLC_SCRUB_SCRUB_EN = true)
    (hpos : errors ≠ 0) (herr : errors < 3) (hthresh : s.get F.FLC_SCRUB_THRESH + 1 ≤ errors) (ha : a < 0x4000000)
    (hue : s.flc.ue = []) (hdue : s.flc.refreshDue = []) :
    s.scrub a errors =
      ((s.count (F.FLC_CNT_COUNT 0) 1).withDue [a / 32768]).startWaiting := by
  have hbank : bankOf a ≠ 4 := by
    have hfield : ¬ fieldBase ≤ a := Nat.not_le.mpr ha
    rw [bankOf, if_neg hfield]
    omega
  have hgo : (!s.en Blk.FLC || !s.on F.FLC_SCRUB_SCRUB_EN || decide (errors = 0)) = false := by
    rw [hen, hon, decide_eq_false hpos]
    rfl
  have hcount : s.countEcc 1 [] = s.count (F.FLC_CNT_COUNT 0) 1 := by
    unfold State.countEcc
    exact rfl
  have hgood : ¬ (3 ≤ errors ∨ s.flc.ue.contains (a / 32 * 32) = true) := by
    rw [hue]
    simp [herr]
  have hdue' : ¬ (errors < s.get F.FLC_SCRUB_THRESH + 1 ∨ bankOf a = 4 ∨ s.flc.refreshDue.contains (a / 32768) = true ∨
      s.flc.ue.any (fun x => x / 32768 == a / 32768) = true) := by
    rw [hdue, hue]
    simp [hbank, Nat.lt_of_succ_le hthresh]
  unfold State.scrub
  dsimp only
  rw [hgo, if_neg Bool.false_ne_true, if_neg hgood, if_neg hdue', hcount]
  have hflc : (s.count (F.FLC_CNT_COUNT 0) 1).flc.refreshDue = [] := hdue
  rw [hflc]
  refine congrArg State.startWaiting ?_
  rfl

/-- Settles O35: what the direct interface starts is the waiting operation of State.startWaiting, which leaves its idle bank
for nothing else. -/
theorem directFlash : Obligations.DirectFlash := by
  unfold Obligations.DirectFlash
  refine ⟨?program, ?erase, ?busy, ?boot, ?scrub, ?locks⟩
  case program =>
    intro s x t a len v hx hbusy hfield ha hlen hlo hhi hsrc hrange hready hfree hends heco hdue hbank
    refine ⟨_, rfl, ?_⟩
    rw [← hx, State.directGo_passes (req := .core 0) (.inl rfl) hbusy hfield ha hlen (fun _ => ⟨hlo, hhi, hsrc⟩)
      (fun h => absurd h (by decide)) (by rw [if_pos rfl]; exact hrange) hready hfree]
    obtain ⟨n, k, ho⟩ := State.directGo_starts v (op := 1) (len := len) (by decide) heco hfree
      (by rw [if_pos rfl]; exact hends) hdue hbank
    generalize hd : directOp x 1 a len = d at ho
    have hdata : d.data = x.sramRead (x.rd Reg.FLC_DSRC).toNat len := by
      rw [← hd, directOp, if_pos rfl, newOp]
    exact ⟨_, ho, hd ▸ rfl, hd ▸ rfl, hd ▸ rfl, hdata, hd ▸ rfl⟩
  case erase =>
    intro s x t a v hx hbusy hfield ha hblock hlow hrange hready hfree hends heco hdue hbank
    have hsize : blockSize a = 32768 := by
      have hfield : ¬ fieldBase ≤ a := Nat.not_le.mpr hlow
      rw [blockSize, if_neg hfield]
    refine ⟨_, rfl, ?_⟩
    rw [← hx, State.directGo_passes (req := .core 0) (.inr rfl) hbusy hfield ha rfl (fun h => absurd h (by decide))
      (fun _ => hsize.symm ▸ hblock) (by rw [if_neg (by decide), hsize]; exact hrange) hready hfree]
    obtain ⟨n, k, ho⟩ := State.directGo_starts v (op := 2) (len := bits v.toNat 28 16) (by decide) heco hfree hends hdue hbank
    exact ⟨_, ho, rfl, rfl, rfl⟩
  case busy =>
    intro s x t req v hx hbusy
    refine ⟨_, rfl, ?_⟩
    rw [← hx, State.directGo_busy req v 2 hbusy]
    exact ⟨State.get_put_same _ _ _ (by decide), rfl, rfl⟩
  case boot =>
    intro s x t v hx hbusy hfield hlow hblock
    refine ⟨_, rfl, ?_⟩
    rw [← hx, State.directGo_boot hbusy hfield hlow hblock]
    exact ⟨State.get_put_same _ _ _ (by decide), rfl⟩
  case scrub =>
    intro s x t a hx hen hon hthresh ha hue hdue heco
    refine ⟨_, rfl, ?_⟩
    have heco' : ((x.count (F.FLC_CNT_COUNT 0) 1).withDue [a / 32768]).on F.BLW_STATUS_ECONOMY = true := by
      rw [State.withDue_on, State.count, State.on_put_reg _ _ _ _ (by decide)]
      exact heco
    rw [← hx, State.scrub_due hen hon (by decide) (by decide) hthresh ha hue hdue, State.startWaiting_economy heco',
      State.syncFlc_flc, State.syncFlc_get _ (by decide), State.withDue_get, State.withDue_flc, State.count_flc]
    exact ⟨rfl, rfl, State.count_get _ _ (by decide)⟩
  case locks =>
    intro s x t v hx
    refine ⟨_, rfl, ?_⟩
    rw [← hx]
    have hkept := (x.put F.FLC_LOCK_EXEC_LOCK v.toNat).startWaiting_storeKept
    simp only [State.storeKept, Prod.mk.injEq] at hkept
    obtain ⟨hhre, hitems, -⟩ := hkept
    refine ⟨hitems, hhre, ?_, fun hwait hdue hstore => ?_⟩
    · rw [State.startWaiting_execLock]
      exact State.get_put_same _ _ _ (by decide)
    · rw [State.startWaiting_idle (by exact hstore) (by exact hwait) (by exact hdue), State.syncFlc_flc]
      rfl

end Sys2Proof.Machine

/-! PROOFS. The operations of the flash controller (R374): an erase that ends while a checkpoint has a segment to enter. -/

namespace Sys2Proof.Machine

/-- An erase of the controller's own in bank 1. -/
def ownErase : FlashOp := newOp none false 2 0x01400000 [] 0 0

/-- Reset, with that erase running, and a checkpoint that has written the last segment of bank 0 of the ESM and whose item
is not in flight. -/
def segmentWritten : State :=
  { State.reset with
    flc := { Flc.reset with ops := [none, some ownErase, none, none, none] }
    esm := { State.reset.esm with ckpt := some ⟨[0], 36, false, 0, false, none⟩ } }

/-- Refutes O34: its clause of FLASH_OP_DONE, unlike that of FLASH_ITEM_ISSUE, does not assume that no checkpoint runs. Here
the command enters the segment in the ESM index, a write of flash beside the erased block. -/
theorem not_flashOperations : ¬ Obligations.FlashOperations := by
  unfold Obligations.FlashOperations
  rintro ⟨-, hdone, -⟩
  obtain ⟨r, hr, -, hmem⟩ := hdone segmentWritten (segmentWritten.at 0) 0 1 ownErase rfl (by decide) (by decide) (by decide) (by decide)
    (by decide) (by decide) (by decide) (by decide) (by decide) (by decide) (by decide) (by decide) (by decide)
  have hr' := Host.Outcome.next.inj hr
  rw [← hr'] at hmem
  exact absurd (congrArg List.isEmpty hmem) (by decide)

end Sys2Proof.Machine

/-! PROOFS. Distribution of endpoint images (R410 to R412). -/

namespace Sys2Proof.Machine

/-! ### What a native frame of the device's own takes -/

theorem State.useSlot_upd (s : State) (n blocks : Nat) : (s.useSlot n blocks).upd = s.upd :=
  State.setUse_keeps (P := fun y => y.upd = s.upd) rfl (fun _ _ h => h) (fun _ _ h => (State.irq_upd ..).trans h) (fun _ h => h)

theorem State.cacheTouch_upd (s : State) (eui gen : Nat) : (s.cacheTouch eui gen).upd = s.upd := by
  unfold State.cacheTouch
  dsimp only
  split
  · unfold State.cacheHit
    split <;> rfl
  split
  · rfl
  split
  · rfl
  split <;> rfl

theorem State.useNative_upd (s : State) (r : NativeReq) : (s.useNative r).upd = s.upd := by
  unfold State.useNative
  split
  · exact (State.cacheTouch_upd ..).trans (State.useSlot_upd ..)
  · exact State.useSlot_upd ..
  · exact State.useSlot_upd ..
  · rfl

theorem State.takeTxfc_upd (s : State) : s.takeTxfc.upd = s.upd := by
  unfold State.takeTxfc
  extract_lets n s1 mac s2
  have hs1 : s1.upd = s.upd := State.put_upd ..
  have hs2 : s2.upd = s.upd := by
    unfold s2
    split
    · exact hs1
    · exact hs1
  split
  · exact (State.irq_upd ..).trans hs2
  · exact hs2

theorem State.await_upd (s : State) (w : Waiting) : (s.await w).upd = s.upd := rfl

/-- One item more waits for admission; the promise table and UPD stay. -/
theorem State.awaitNative_waits (s : State) (o : Owner) (ring : Nat) (ws : List Word) (r : NativeReq) (key : AesKey) :
    (s.awaitNative o ring ws r key).items = s.items ∧ (s.awaitNative o ring ws r key).upd = s.upd ∧
      (s.awaitNative o ring ws r key).chn.awaiting.length = s.chn.awaiting.length + 1 := by
  have hused := State.useNative_frameKept s r
  have htaken := State.takeTxfc_frameKept (s.useNative r)
  simp only [State.frameKept, Prod.mk.injEq, State.put_items, State.put_chn] at hused htaken
  obtain ⟨hitems, -, -, hchn, -⟩ := hused
  obtain ⟨hitems', -, -, hchn', -⟩ := htaken
  have hupd := (State.takeTxfc_upd (s.useNative r)).trans (State.useNative_upd s r)
  obtain ⟨w, hw⟩ : ∃ w, s.awaitNative o ring ws r key = ((s.useNative r).takeTxfc).await w := ⟨_, rfl⟩
  generalize (s.useNative r).takeTxfc = y at *
  rw [hw, State.await_items, State.await_upd, State.await_awaiting, hchn', hchn, List.length_append, List.length_singleton]
  exact ⟨hitems'.trans hitems, hupd, rfl⟩

/-! ### Slots and descriptors (R410, R411) -/

theorem distSlot_setDist (s : State) {d : Nat} (f : DistSlot → DistSlot) (hd : d < s.upd.dist.length) :
    (s.setDist d f).distSlot d = f (s.distSlot d) :=
  getD_modAt_same f _ _ _ hd

theorem distSlot_of_upd {s r : State} (h : r.upd = s.upd) (d : Nat) : r.distSlot d = s.distSlot d := by
  rw [State.distSlot, h, State.distSlot]

/-- A descriptor names one of the two slots. -/
theorem distIdx_lt (f : Fetched) : distIdx f < 2 := by
  unfold distIdx wbits bits
  exact Nat.mod_lt _ (by decide)

/-- The descriptor whose turn it is runs while UPD is enabled. -/
theorem State.onDist_turn {s : State} {cmd : Nat} {f : Fetched} {rest : List Fetched} (k : State → Nat → Fetched → State)
    (hturn : takeTurn (fun g => wbits g.words 0 7 0 == 0x53 && wbits g.words 6 7 0 == cmd) (busyRings s) s.hre.fetched =
      some (f, rest)) (hen : s.en Blk.UPD = true) :
    s.onDist cmd k = k (s.taken rest) (distIdx f) f := by
  rw [State.onDist, State.onTurn, hturn]
  exact if_pos hen

/-- A DONE is the last completion. -/
theorem State.done_last (s : State) (ring : Nat) (ws : List Word) :
    ∃ c, (s.done ring ws).hre.outq = s.hre.outq ++ [c] ∧ c.status = 2 ∧ c.reason = 0 :=
  ⟨_, rfl, rfl, rfl⟩

theorem State.bufWrite_keeps {α : Type} {F : State → α} (hsram : ∀ (x : State) m, F { x with sram := m } = F x)
    (hhost : ∀ (x : State) m, F { x with hostMem := m } = F x) (s : State) (ring a : Nat) (bs : List Byte) :
    F (s.bufWrite ring a bs) = F s := by
  unfold State.bufWrite State.dma
  split
  · exact hsram ..
  split
  · exact hsram ..
  · exact hhost ..

/-- With no report waiting the service has none to take. -/
theorem State.takeReports_none {s : State} (hempty : s.esm.firmware = []) : s.takeReports = s := by
  unfold State.takeReports
  rw [hempty]
  exact congrArg (fun l => { s with esm := { s.esm with firmware := l } }) hempty.symm

theorem State.distStart_unstaged {s : State} {d : Nat} (f : Fetched) (hstaged : isChecked s (d + 1) = false) :
    s.distStart d f = s.refuse f.ring f.words 0x0F08 := by
  unfold State.distStart
  rw [hstaged]
  rfl

/-- The campaign that a START descriptor describes (Table 13-8). -/
def startedCampaign (s : State) (f : Fetched) : Campaign :=
  let n := fun lo k => leNat (slice f.buf lo k)
  ⟨binOf (n 0 1), n 1 1, n 2 1, n 3 1, n 4 2, s.net + n 6 2 * 86400 * secondU, n 8 4, n 12 4, n 16 2, 0, 0, s.net, false⟩

theorem State.distStart_staged {s : State} {d : Nat} (f : Fetched) (hstaged : isChecked s (d + 1) = true) :
    s.distStart d f = (s.setDist d (fun x => { x with campaign := some (startedCampaign s f), failed := [], snapAt := s.now })).done
      f.ring f.words := by
  unfold State.distStart
  rw [hstaged]
  rfl

theorem State.distClear_busy {s : State} {d : Nat} {c : Campaign} (f : Fetched) (hc : (s.distSlot d).campaign = some c) :
    s.distClear d f = s.refuse f.ring f.words 0x0F09 := by
  unfold State.distClear
  rw [hc]
  rfl

/-- A slot's header and snapshots erased, and its manifest dropped. -/
def State.distFreed (s : State) (d : Nat) : State :=
  let s1 := (s.eraseRange (distPlace d).header 0x8000).eraseRange (snapHalf d 0) 0x40000
  { s1 with upd := { s1.upd with manifests := modAt (fun _ => []) s1.upd.manifests (2 + d) } }

theorem State.distFreed_shows (s : State) (d : Nat) :
    (s.distFreed d).upd = { s.upd with manifests := modAt (fun _ => []) s.upd.manifests (2 + d) } ∧
      (s.distFreed d).items = s.items ∧ (s.distFreed d).hre = s.hre := by
  unfold State.distFreed
  exact ⟨rfl, rfl, rfl⟩

theorem State.setDist_done (s : State) (d : Nat) (g : DistSlot → DistSlot) (ring : Nat) (ws : List Word) :
    ((s.setDist d g).done ring ws).upd.manifests = s.upd.manifests ∧ ((s.setDist d g).done ring ws).items = s.items ∧
      ∃ c, ((s.setDist d g).done ring ws).hre.outq = s.hre.outq ++ [c] ∧ c.status = 2 ∧ c.reason = 0 :=
  ⟨rfl, rfl, State.done_last (s.setDist d g) ring ws⟩

theorem State.distClear_frees {s : State} {d : Nat} (f : Fetched) (hc : (s.distSlot d).campaign = none) :
    s.distClear d f = ((s.distFreed d).setDist d (fun _ => DistSlot.reset)).done f.ring f.words := by
  unfold State.distClear
  rw [hc]
  rfl

theorem getD_modAt_default {α : Type} (d : α) (l : List α) (n : Nat) : (modAt (fun _ => d) l n).getD n d = d := by
  by_cases h : n < l.length
  · exact getD_modAt_same _ _ _ _ h
  · rw [modAt_of_length_le _ (Nat.not_lt.mp h)]
    exact List.getD_eq_default _ _ (Nat.not_lt.mp h)

/-! ### The carousel (R412) -/

/-- A frame submitted is one item more that waits, and moves the cursor alone; a refused one is nothing. -/
theorem State.distSubmit_waits {s : State} {d : Nat} (c : Campaign) (m : List Byte) (hd : d < s.upd.dist.length) :
    (s.distSubmit d c m).items = s.items ∧ ((s.distSubmit d c m).distSlot d).done = (s.distSlot d).done ∧
      ((s.distSubmit d c m).distSlot d).campaign.map (fun e => e.nextAt) = (s.distSlot d).campaign.map (fun e => e.nextAt) ∧
      s.chn.awaiting.length ≤ (s.distSubmit d c m).chn.awaiting.length ∧
      (s.distSubmit d c m).chn.awaiting.length ≤ s.chn.awaiting.length + 1 := by
  unfold State.distSubmit
  extract_lets req ws key
  split
  · let y := s.setDist d (fun x => { x with campaign := x.campaign.map (fun (y : Campaign) => { y with cursor := y.cursor + 1 }) })
    obtain ⟨hitems, hupd, hlen⟩ := y.awaitNative_waits (.dist d) 0xFF ws req (slotKey s key)
    have hslot := distSlot_of_upd hupd d
    have hy : y.distSlot d = _ := distSlot_setDist s _ hd
    rw [hslot, hy, hlen]
    refine ⟨hitems, rfl, ?_, Nat.le_succ _, Nat.le_refl _⟩
    cases (s.distSlot d).campaign <;> rfl
  · exact ⟨rfl, rfl, rfl, Nat.le_refl _, Nat.le_succ _⟩

/-- The campaign of a slot ends: one record, and its marks stay. -/
theorem State.distEnd_shows {s : State} {d : Nat} (hd : d < s.upd.dist.length) :
    ((s.distEnd d).distSlot d).campaign = none ∧ ((s.distEnd d).distSlot d).done = (s.distSlot d).done ∧
      (s.distEnd d).hre.records.length = s.hre.records.length + 1 ∧ (s.distEnd d).items = s.items := by
  obtain ⟨w4, w5, w6, w7, hend⟩ : ∃ w4 w5 w6 w7, s.distEnd d =
      (s.record 0x0F00 0 w4 w5 w6 w7).setDist d (fun x => { x with campaign := none }) := ⟨_, _, _, _, rfl⟩
  have hslot : ((s.record 0x0F00 0 w4 w5 w6 w7).setDist d (fun x => { x with campaign := none })).distSlot d = _ :=
    distSlot_setDist _ _ hd
  rw [hend, hslot]
  exact ⟨rfl, rfl, List.length_append, rfl⟩

/-- A snapshot is a change of flash, and of its slot's marks. -/
theorem State.snapshot_shows {s : State} {d : Nat} (hd : d < s.upd.dist.length) :
    (s.snapshot d).distSlot d = { s.distSlot d with changed := false, snapAt := s.now } ∧ (s.snapshot d).regs = s.regs ∧
      (s.snapshot d).items = s.items := by
  obtain ⟨y, hy, hoff⟩ : ∃ y : State, s.snapshot d = y.setDist d (fun x => { x with changed := false, snapAt := s.now }) ∧
      y.offFlash = s.offFlash := by
    unfold State.snapshot
    exact ⟨_, rfl, (State.appendLog_offFlash ..).trans ((State.program_offFlash ..).trans (State.eraseRange_offFlash ..))⟩
  have hupd := State.upd_of_offFlash hoff
  rw [hy, distSlot_setDist _ _ (by rw [hupd]; exact hd), distSlot_of_upd hupd]
  exact ⟨rfl, (congrArg State.regs hoff :), (congrArg State.items hoff :)⟩

/-- Settles O58: each command and turn is one change of its slot; a frame submitted beside it only waits. -/
theorem distribution : Obligations.Distribution := by
  unfold Obligations.Distribution
  refine ⟨?start, ?unstaged, ?stop, ?status, ?clear, ?busy, ?turn, ?deadline, ?snapshot⟩
  case start =>
    intro s x y t d f rest hx hturn hy hen hd hstaged hlen
    subst hy hd
    refine ⟨_, rfl, ?_⟩
    rw [← hx, State.onDist_turn _ hturn hen, State.distStart_staged (s := x.taken rest) f hstaged, distSlot_of_upd (State.done_upd ..),
      distSlot_setDist _ _ (hlen ▸ distIdx_lt f)]
    exact ⟨rfl, rfl, rfl, State.done_last ..⟩
  case unstaged =>
    intro s x y t f rest hx hturn hy hen hstaged
    subst hx hy
    refine congrArg Host.Outcome.next ?_
    rw [State.onDist_turn _ hturn hen]
    exact State.distStart_unstaged f hstaged
  case stop =>
    intro s x t d f rest c hx hturn hen hd hlen hc
    subst hd
    refine ⟨_, rfl, ?_⟩
    rw [← hx, State.onDist_turn _ hturn hen, State.distStop, distSlot_of_upd (State.done_upd ..),
      distSlot_setDist _ _ (hlen ▸ distIdx_lt f)]
    exact ⟨congrArg (Option.map _) hc, rfl, State.done_last ..⟩
  case status =>
    intro s x t f rest hx hturn hen hempty
    refine ⟨_, rfl, ?_⟩
    rw [← hx, State.onDist_turn _ hturn hen, State.distReply, State.takeReports_none (s := x.taken rest) hempty,
      if_neg Bool.false_ne_true]
    generalize hw : (x.taken rest).bufWrite _ _ _ = w
    have hkept {α : Type} {F : State → α} (hsram : ∀ (z : State) m, F { z with sram := m } = F z)
        (hhost : ∀ (z : State) m, F { z with hostMem := m } = F z) : F w = F (x.taken rest) :=
      hw ▸ State.bufWrite_keeps hsram hhost ..
    have houtq : w.hre = (x.taken rest).hre := hkept (fun _ _ => rfl) (fun _ _ => rfl)
    obtain ⟨c, hc, hstatus, hreason⟩ := w.done_last f.ring f.words
    exact ⟨hkept (F := State.upd) (fun _ _ => rfl) (fun _ _ => rfl), hkept (F := State.regs) (fun _ _ => rfl) (fun _ _ => rfl),
      hkept (F := State.items) (fun _ _ => rfl) (fun _ _ => rfl), c, hc.trans (by rw [houtq]; rfl), hstatus, hreason⟩
  case clear =>
    intro s x t d f rest hx hturn hen hd hc hlen
    subst hd
    refine ⟨_, rfl, ?_⟩
    rw [← hx, State.onDist_turn _ hturn hen, State.distClear_frees (s := x.taken rest) f hc, distSlot_of_upd (State.done_upd ..)]
    obtain ⟨hupd, hitems, hhre⟩ := (x.taken rest).distFreed_shows (distIdx f)
    generalize (x.taken rest).distFreed (distIdx f) = y at *
    obtain ⟨hmans, hitems', c, houtq, hreason⟩ := y.setDist_done (distIdx f) (fun _ => DistSlot.reset) f.ring f.words
    rw [distSlot_setDist _ _ (by rw [hupd]; exact hlen ▸ distIdx_lt f), hmans, hitems', hupd, hitems]
    exact ⟨rfl, getD_modAt_default .., rfl, c, houtq.trans (by rw [hhre]; rfl), hreason⟩
  case busy =>
    intro s x y t f rest c hx hturn hy hen hc
    subst hx hy
    refine congrArg Host.Outcome.next ?_
    rw [State.onDist_turn _ hturn hen]
    exact State.distClear_busy f hc
  case turn =>
    intro s x t d i c hx hd hlen hempty hc hnext hunder hstop hdeadline htarget hdone hfailed hrate
    have hopen : (targeted x c).all (fun i => (x.distSlot d).done.contains i || (x.distSlot d).failed.contains i) = false := by
      rw [List.all_eq_false]
      exact ⟨i, htarget, by simp [hdone, hfailed]⟩
    let y := x.setDist d (fun z => { z with campaign := z.campaign.map (fun (e : Campaign) =>
      { e with nextAt := c.nextAt + 3600 * secondU / c.perHour }) })
    have hturn : x.carousel d = y.distSubmit d c (checkedManifest y (d + 1)) := by
      unfold State.carousel
      rw [State.takeReports_none hempty]
      dsimp only
      rw [hc]
      dsimp only
      rw [if_neg (by rw [hunder]; simp [hnext]), hstop, if_neg Bool.false_ne_true, hopen, decide_eq_false (Nat.not_le.mpr hdeadline),
        if_neg (by exact Bool.false_ne_true), if_neg hrate]
    have hy : y.distSlot d = _ := distSlot_setDist x _ (hlen ▸ hd)
    obtain ⟨hitems, hmarks, hat, hlo, hhi⟩ := State.distSubmit_waits (s := y) c (checkedManifest y (d + 1))
      (by exact (length_modAt ..).trans hlen ▸ hd)
    refine ⟨_, congrArg Host.Outcome.next ((if_pos hd).trans (hx ▸ hturn)), hitems, hat.trans ?_, hmarks.trans ?_, hlo, hhi⟩
    · rw [hy, hc]
      rfl
    · rw [hy]
  case deadline =>
    intro s x t d c hx hd hlen hempty hc hnext hunder hstop hdeadline
    have hturn : x.carousel d = x.distEnd d := by
      unfold State.carousel
      rw [State.takeReports_none hempty]
      dsimp only
      rw [hc]
      dsimp only
      rw [if_neg (by rw [hunder]; simp [hnext]), hstop, if_neg Bool.false_ne_true, decide_eq_true hdeadline, Bool.true_or, if_pos rfl]
    exact ⟨_, congrArg Host.Outcome.next ((if_pos hd).trans (hx ▸ hturn)), State.distEnd_shows (hlen ▸ hd)⟩
  case snapshot =>
    intro s x t d c hx hd hlen hempty hc hdue hchanged
    have hsnap : x.distSnapshot d = x.snapshot d := by
      unfold State.distSnapshot
      rw [State.takeReports_none hempty]
      dsimp only
      rw [hc, if_neg (by simp; exact hdue), if_pos hchanged]
    obtain ⟨hslot, hregs, hitems⟩ := State.snapshot_shows (s := x) (hlen ▸ hd)
    exact ⟨_, congrArg Host.Outcome.next ((if_pos hd).trans (hx ▸ hsnap)), hslot, rfl, hregs, hitems⟩

end Sys2Proof.Machine

/-! PROOFS. The boot chain (R393 to R396), and the records of an image (R397 to R405). -/

namespace Sys2Proof.Machine

/-! ### What the boot chain leaves from step 2 on -/

/-- The promise table, the profile, the boot chain's mark, and the enables of SYS and CLK. -/
def State.bootKept (s : State) : List Item × Bool × Bool × Word × Word :=
  (s.items, s.relay, s.upd.bootPending, s.rd (Reg.BLK_CTL Blk.SYS), s.rd (Reg.BLK_CTL Blk.CLK))

theorem State.wr_bootKept (s : State) {a : Nat} (v : Word) (ha : Reg.BLK_CTL Blk.CLK < a) :
    (s.wr a v).bootKept = s.bootKept := by
  have hsys : Reg.BLK_CTL Blk.SYS ≠ a := Nat.ne_of_lt (Nat.lt_trans (by decide) ha)
  rw [State.bootKept, State.rd_wr_other _ _ hsys, State.rd_wr_other _ _ (Nat.ne_of_lt ha)]
  rfl

theorem State.put_bootKept (s : State) (f : Fld) (v : Nat) (hf : Reg.BLK_CTL Blk.CLK < f.addr) :
    (s.put f v).bootKept = s.bootKept := State.wr_bootKept s _ hf

theorem State.irq_bootKept (s : State) {b : Nat} (mask : Nat)
    (hb : irqTouches b (Reg.BLK_CTL Blk.SYS) = false ∧ irqTouches b (Reg.BLK_CTL Blk.CLK) = false) :
    (s.irq b mask).bootKept = s.bootKept := by
  rw [State.bootKept, State.irq_items, State.irq_relay, State.irq_upd, State.irq_rd _ _ _ hb.1, State.irq_rd _ _ _ hb.2, State.bootKept]

theorem State.bootKept_of_offFlash {s r : State} (h : r.offFlash = s.offFlash) : r.bootKept = s.bootKept :=
  (congrArg State.bootKept h :)

theorem State.bootKept_ite {p : Prop} [Decidable p] {s y z : State} (hy : y.bootKept = s.bootKept)
    (hz : z.bootKept = s.bootKept) : (if p then y else z).bootKept = s.bootKept := by
  split
  · exact hy
  · exact hz

/-! Keys and owner keys -/

theorem State.syncOwners_bootKept (s : State) : s.syncOwners.bootKept = s.bootKept := by
  unfold State.syncOwners
  dsimp only
  rw [State.put_bootKept _ _ _ (by decide), State.put_bootKept _ _ _ (by decide)]

theorem State.setOwner_bootKept (s : State) (i : Nat) (key : Option (List Byte)) : (s.setOwner i key).bootKept = s.bootKept := by
  unfold State.setOwner
  dsimp only
  rw [State.irq_bootKept _ _ (by decide), State.put_bootKept _ _ _ (by decide), State.syncOwners_bootKept]
  rfl

theorem State.loadStore_bootKept (s : State) : s.loadStore.bootKept = s.bootKept := by
  have hslot (n : Nat) : Reg.BLK_CTL Blk.CLK < Reg.CRY_SLOT_ATTR n := Nat.lt_add_right _ (by decide)
  have hcry (x : State) (c : Cry) : ({ x with cry := c }).bootKept = x.bootKept := rfl
  unfold State.loadStore
  extract_lets s1
  have hs1 : s1.bootKept = s.bootKept :=
    List.foldlRecOn (motive := fun x : State => x.bootKept = s.bootKept) _ _ rfl fun x hx k _ =>
      ((hcry _ _).trans (State.wr_bootKept x _ (hslot k.slot))).trans hx
  clear_value s1
  exact (hcry _ _).trans hs1

/-! The tag -/

theorem State.syncTag_bootKept (s : State) : s.syncTag.bootKept = s.bootKept := by
  unfold State.syncTag
  dsimp only
  rw [State.wr_bootKept _ _ (by decide), State.wr_bootKept _ _ (by decide)]
  iterate 4 rw [State.put_bootKept _ _ _ (by decide)]

theorem State.modeLog_offFlash (s : State) (mode quiet : Nat) (wr : Bool) : (s.modeLog mode quiet wr).offFlash = s.offFlash := by
  unfold State.modeLog
  dsimp only
  split
  · exact State.program_offFlash ..
  · exact State.program_offFlash ..

theorem State.bootMode_bootKept (s : State) (mode : Nat) : (s.bootMode mode).bootKept = s.bootKept :=
  State.bootKept_ite rfl (State.bootKept_of_offFlash (State.modeLog_offFlash ..))

theorem State.bootRestore_bootKept (s : State) : s.bootRestore.bootKept = s.bootKept := by
  unfold State.bootRestore
  extract_lets cry s1 s2 m
  have hs1 : s1.bootKept = s.bootKept :=
    (State.syncOwners_bootKept _).trans (State.bootKept_ite rfl (State.loadStore_bootKept s))
  have hs2 : s2.bootKept = s.bootKept := State.bootKept_ite ((State.put_bootKept _ _ _ (by decide)).trans hs1) hs1
  rw [State.syncTag_bootKept, State.put_bootKept _ _ _ (by decide), State.put_bootKept _ _ _ (by decide), hs2]

/-- A waiting record is applied, or not: the configuration record, an owner key and flash change (R431). -/
theorem State.applyRecord_bootKept (s : State) (formOk : Bool) (ownerKey : Option (List Byte)) :
    (s.applyRecord formOk ownerKey).1.bootKept = s.bootKept := by
  have happlied (x : State) (k v : Nat) : (x.setApplied k v).bootKept = x.bootKept :=
    State.bootKept_of_offFlash (State.program_offFlash ..)
  unfold State.applyRecord
  split
  · rfl
  · dsimp only
    split
    · rfl
    split
    · exact happlied ..
    split
    · exact happlied ..
    · rw [State.irq_bootKept _ _ (by decide), happlied]
      split
      · exact State.bootKept_ite rfl (State.setOwner_bootKept ..)
      · rfl

/-! The cores -/

theorem State.startPartition_boots (s : State) :
    s.startPartition.bootKept = s.bootKept ∧ s.startPartition.cpx.released = s.cpx.released := by
  have hput (v : Nat) : (s.put F.CPX_STATUS_PART v).bootKept = s.bootKept := State.put_bootKept _ _ _ (by decide)
  unfold State.startPartition
  split
  · exact ⟨hput 0, rfl⟩
  split
  · exact ⟨hput 1, rfl⟩
  · refine ⟨?_, ?_⟩
    · exact (State.irq_bootKept (s.put F.CPX_STATUS_PART 2) 4 (by decide)).trans (hput 2)
    · exact (congrArg Cpx.released (State.irq_uninterrupted (s.put F.CPX_STATUS_PART 2) Blk.CPX 4) :)

theorem State.release_boots (s : State) : s.release.bootKept = s.bootKept ∧ s.release.cpx.released = true := by
  obtain ⟨hkept, hreleased⟩ := State.startPartition_boots ({ s with cpx := { s.cpx with released := true } }.restartCores)
  refine ⟨hkept.trans ?_, hreleased.trans rfl⟩
  unfold State.restartCores
  rw [State.put_bootKept _ _ _ (by decide), State.put_bootKept _ _ _ (by decide)]
  rfl

theorem State.syncUpd_bootKept (s : State) : s.syncUpd.bootKept = s.bootKept := by
  have hbeside : besideSession (Reg.BLK_CTL Blk.SYS) ∧ besideSession (Reg.BLK_CTL Blk.CLK) := by
    unfold besideSession
    decide
  have hrelay : s.syncUpd.relay = s.relay := State.syncUpd_keeps State.put_relay (fun _ _ _ => rfl) s
  rw [State.bootKept, State.syncUpd_items, hrelay, State.syncUpd_upd, State.syncUpd_rd _ hbeside.1, State.syncUpd_rd _ hbeside.2,
    State.bootKept]

theorem State.syncUpd_cpx (s : State) : s.syncUpd.cpx = s.cpx := State.syncUpd_keeps State.put_cpx (fun _ _ _ => rfl) s

/-- An enable check starts in the block's own registers. -/
theorem State.enable_shows (s : State) {b : Nat} (hb : 3 ≤ b) :
    (s.enable b).bootKept = s.bootKept ∧ (s.enable b).cpx = s.cpx ∧
      ∀ a, a ≠ Reg.BLK_CTL b → a ≠ Reg.BLK_CHK b → a ≠ Reg.BLK_CHK_FIELD b → (s.enable b).rd a = s.rd a := by
  have hlow : Reg.BLK_CTL Blk.CLK < blockBase b := by
    simp only [Reg.BLK_CTL, blockBase, Blk.CLK]
    omega
  have hchk : Reg.BLK_CTL Blk.CLK < Reg.BLK_CHK b := Nat.lt_add_right _ hlow
  have hfield : Reg.BLK_CTL Blk.CLK < Reg.BLK_CHK_FIELD b := Nat.lt_add_right _ hlow
  unfold State.enable
  split
  · exact ⟨rfl, rfl, fun _ _ _ _ => rfl⟩
  · refine ⟨?_, rfl, fun a hctl hchk' hfield' => ?_⟩
    · rw [State.wr_bootKept _ _ hfield, State.put_bootKept _ _ _ hchk, State.put_bootKept _ _ _ hchk, State.put_bootKept _ _ _ hlow]
    · rw [State.rd_wr_other _ _ hfield', State.rd_put_other _ _ _ hchk', State.rd_put_other _ _ _ hchk',
        State.rd_put_other _ _ _ hctl]

/-! ### The images (R396) -/

/-- What the recovery image shows: what the boot chain leaves, the cores' release, and UPD_STATUS.RECOVERY. -/
def State.recoveryShown (s : State) : (List Item × Bool × Bool × Word × Word) × Bool × Bool :=
  (s.bootKept, s.cpx.released, s.on F.UPD_STATUS_RECOVERY)

theorem State.release_recovery (s : State) : s.release.on F.UPD_STATUS_RECOVERY = s.on F.UPD_STATUS_RECOVERY := by
  obtain ⟨-, -, -, hrd⟩ := State.startPartition_keeps ({ s with cpx := { s.cpx with released := true } }.restartCores)
  refine State.on_of_rd ((hrd _ (by decide) (by decide)).trans ?_)
  unfold State.restartCores
  rw [State.rd_put_other _ _ _ (by decide), State.rd_put_other _ _ _ (by decide)]
  rfl

theorem State.enable_recoveryShown (s : State) {b : Nat} (hb : 3 ≤ b) (hstatus : Reg.UPD_STATUS ≠ Reg.BLK_CTL b ∧
    Reg.UPD_STATUS ≠ Reg.BLK_CHK b ∧ Reg.UPD_STATUS ≠ Reg.BLK_CHK_FIELD b) :
    (s.enable b).recoveryShown = s.recoveryShown := by
  obtain ⟨hctl, hchk, hfield⟩ := hstatus
  obtain ⟨hkept, hcpx, hrd⟩ := s.enable_shows hb
  rw [State.recoveryShown, hkept, hcpx, State.on_of_rd (hrd _ hctl hchk hfield), State.recoveryShown]

/-- The recovery image runs. -/
theorem State.bootRecovery_runs (s : State) :
    s.bootRecovery.bootKept = s.bootKept ∧ s.bootRecovery.cpx.released = true ∧
      s.bootRecovery.on F.UPD_STATUS_RECOVERY = true := by
  let y := ((s.bootMode 4).bootRestore).put F.UPD_STATUS_RECOVERY 1
  have hy : y.bootKept = s.bootKept :=
    (State.put_bootKept _ _ _ (by decide)).trans ((State.bootRestore_bootKept _).trans (State.bootMode_bootKept s 4))
  have hrecovery : y.on F.UPD_STATUS_RECOVERY = true := State.on_put_one _ _ (by decide) (by decide)
  have hrun : s.bootRecovery = (((y.release.syncUpd.enable Blk.HRE).enable Blk.FLC).enable Blk.SIG).enable Blk.UPD := rfl
  clear_value y
  obtain ⟨hkept, hreleased⟩ := y.release_boots
  have hsync : y.release.syncUpd.recoveryShown = (s.bootKept, true, true) := by
    rw [State.recoveryShown, State.syncUpd_bootKept, State.syncUpd_cpx, State.on, State.syncUpd_get _ rfl (.inl (by decide)),
      hkept, hreleased, hy, ← hrecovery, ← y.release_recovery]
    rfl
  have hshown : s.bootRecovery.recoveryShown = (s.bootKept, true, true) := by
    rw [hrun, State.enable_recoveryShown _ (by decide) (by decide), State.enable_recoveryShown _ (by decide) (by decide),
      State.enable_recoveryShown _ (by decide) (by decide), State.enable_recoveryShown _ (by decide) (by decide), hsync]
  exact ⟨congrArg (·.1) hshown, congrArg (·.2.1) hshown, congrArg (·.2.2) hshown⟩

/-- The run of one of the bobbins. -/
theorem State.bootImage_runs (s : State) (b : Nat) (applied : Bool) :
    (s.bootImage b applied).bootKept = s.bootKept ∧ (s.bootImage b applied).cpx.released = true := by
  unfold State.bootImage
  extract_lets m s1 s2 s3
  have hs1 : s1.bootKept = s.bootKept := by
    refine State.bootKept_ite rfl (State.bootKept_ite rfl ?_)
    unfold State.setCounter
    rw [State.put_bootKept _ _ _ (by decide)]
    exact State.bootKept_of_offFlash ((State.counterWrite_offFlash ..).trans (State.counterWrite_offFlash ..))
  have hs2 : s2.bootKept = s.bootKept := State.bootKept_ite ((State.bootMode_bootKept ..).trans hs1) hs1
  have hs3 : s3.bootKept = s.bootKept := by
    unfold s3
    rw [State.put_bootKept _ _ _ (by decide), State.put_bootKept _ _ _ (by decide), State.put_bootKept _ _ _ (by decide),
      State.bootRestore_bootKept]
    exact hs2
  obtain ⟨hkept, hreleased⟩ := s3.release_boots
  rw [State.syncUpd_bootKept, State.syncUpd_cpx]
  exact ⟨hkept.trans hs3, hreleased⟩

/-- A trial that a reset ended is reverted (R409). -/
theorem State.bootRevert_bootKept (s : State) (b : Nat) : (s.bootRevert b).bootKept = s.bootKept := by
  unfold State.bootRevert
  rw [State.count, State.put_bootKept _ _ _ (by decide), State.irq_bootKept _ _ (by decide), State.put_bootKept _ _ _ (by decide)]
  exact State.bootKept_of_offFlash (State.actFor_offFlash ..)

theorem State.bootChoose_runs (s : State) (applied : Bool) :
    (s.bootChoose applied).bootKept = s.bootKept ∧ (s.bootChoose applied).cpx.released = true := by
  unfold State.bootChoose
  extract_lets trial s1 p
  have hs1 : s1.bootKept = s.bootKept := by
    unfold s1
    clear_value trial
    cases trial with
    | none => rfl
    | some b => exact State.bootRevert_bootKept s b
  split
  · obtain ⟨hkept, hreleased⟩ := s1.bootImage_runs p applied
    exact ⟨hkept.trans hs1, hreleased⟩
  split
  · obtain ⟨hkept, hreleased⟩ := (s1.put F.UPD_STATUS_FALLBACK 1).bootImage_runs (1 - p) applied
    exact ⟨hkept.trans ((State.put_bootKept _ _ _ (by decide)).trans hs1), hreleased⟩
  · obtain ⟨hkept, hreleased, -⟩ := s1.bootRecovery_runs
    exact ⟨hkept.trans hs1, hreleased⟩

/-! ### Steps 1 and 2 -/

theorem State.bootEnable_shows (s : State) (b : Nat) :
    (s.bootEnable b).en b = true ∧ (s.bootEnable b).items = s.items ∧ (s.bootEnable b).relay = s.relay ∧
      (s.bootEnable b).upd = s.upd ∧
      ∀ a, a ≠ Reg.BLK_CTL b → a ≠ Reg.BLK_CHK b → (s.bootEnable b).rd a = s.rd a := by
  have hctl : Reg.BLK_CTL b ≠ Reg.BLK_CHK b := Nat.ne_of_lt (Nat.lt_add_of_pos_right (by decide))
  refine ⟨?_, rfl, rfl, rfl, fun a hctl' hchk => ?_⟩
  · rw [State.bootEnable, State.en, State.on_put_reg _ _ _ _ hctl]
    exact State.on_put_one _ _ (by exact Nat.le_of_ble_eq_true rfl) (by exact Nat.one_ne_zero)
  · rw [State.bootEnable, State.rd_put_other _ _ _ hchk, State.rd_put_other _ _ _ hctl']

/-- After the configuration SYS, SUP and CLK are enabled. -/
theorem State.bootEnables_shows (s : State) :
    s.bootEnables.en Blk.SYS = true ∧ s.bootEnables.en Blk.CLK = true ∧ s.bootEnables.items = s.items ∧
      s.bootEnables.relay = s.relay ∧ s.bootEnables.upd = s.upd := by
  have hclk (x : State) (hx : x.en Blk.SYS = true ∧ x.items = s.items ∧ x.relay = s.relay ∧ x.upd = s.upd) :
      (x.bootEnable Blk.CLK).en Blk.SYS = true ∧ (x.bootEnable Blk.CLK).en Blk.CLK = true ∧
        (x.bootEnable Blk.CLK).items = s.items ∧ (x.bootEnable Blk.CLK).relay = s.relay ∧ (x.bootEnable Blk.CLK).upd = s.upd := by
    obtain ⟨hsys, hitems, hrelay, hupd⟩ := hx
    obtain ⟨hon, hitems', hrelay', hupd', hrd⟩ := x.bootEnable_shows Blk.CLK
    exact ⟨(State.on_of_rd (hrd _ (by decide) (by decide))).trans hsys, hon, hitems'.trans hitems, hrelay'.trans hrelay,
      hupd'.trans hupd⟩
  have hsup : ((s.bootEnable Blk.SYS).bootEnable Blk.SUP).en Blk.SYS = true :=
    (State.on_of_rd ((State.bootEnable_shows _ Blk.SUP).2.2.2.2 _ (by decide) (by decide))).trans (s.bootEnable_shows Blk.SYS).1
  have hput (x : State) (f : Fld) (v : Nat) (hf : Reg.BLK_CTL Blk.SYS ≠ f.addr) : (x.put f v).en Blk.SYS = x.en Blk.SYS :=
    State.on_put_reg _ _ _ _ hf
  unfold State.bootEnables
  extract_lets s1
  have hs1 : s1.en Blk.SYS = true ∧ s1.items = s.items ∧ s1.relay = s.relay ∧ s1.upd = s.upd := ⟨hsup, rfl, rfl, rfl⟩
  clear_value s1
  split
  · exact hclk s1 hs1
  · obtain ⟨hsys, hitems, hrelay, hupd⟩ := hs1
    refine hclk _ ⟨?_, hitems, hrelay, hupd⟩
    rw [hput _ _ _ (by decide), hput _ _ _ (by decide), hput _ _ _ (by decide), hsys]

/-- The configuration record sets registers, the profile and the sources that run. -/
theorem State.applyConfig_keeps {β : Type} {p : State → β} (hput : ∀ x f v, p (State.put x f v) = p x)
    (hwr : ∀ x a v, p (State.wr x a v) = p x) (hclk : ∀ (x : State) (k : Clk), p { x with clk := k } = p x) (s : State)
    (c : BootConfig) : p (s.applyConfig c) = p { s with relay := c.relay } := by
  have hfactory (x : State) : p x.factoryCosts = p x := by
    unfold State.factoryCosts
    split
    · rw [hput, hput, hput]
    · rfl
  unfold State.applyConfig
  extract_lets r lanes s1 s2 banks s3 s4 s5 s6
  have hs1 : p s1 = p { s with relay := c.relay } := by rw [hput, hput, hput, hput]
  clear_value s1
  have hs2 : p s2 = p s1 := by rw [hput, hput, hwr, hput]
  clear_value s2 banks
  have hs3 : p s3 = p s2 := hput ..
  clear_value s3
  have hs4 : p s4 = p s3 := hput ..
  clear_value s4
  have hs6 : p s6 = p s4 := by rw [hput, hput, hput, hput, hput]
  clear_value s6
  rw [hfactory, hclk, hs6, hs4, hs3, hs2, hs1]

theorem State.applyConfig_shows (s : State) (c : BootConfig) :
    (s.applyConfig c).items = s.items ∧ (s.applyConfig c).relay = c.relay ∧ (s.applyConfig c).upd = s.upd :=
  ⟨State.applyConfig_keeps State.put_items State.wr_items (fun _ _ => rfl) s c,
    State.applyConfig_keeps State.put_relay State.wr_relay (fun _ _ => rfl) s c,
    State.applyConfig_keeps State.put_upd State.wr_upd (fun _ _ => rfl) s c⟩

/-- The boot loader as step 1 leaves it: measured, and the chain under way. -/
def State.loaded (s : State) : State :=
  { s.measure 0 (flashBytes s 0 0x200000) with upd := { (s.measure 0 (flashBytes s 0 0x200000)).upd with bootPending := false } }

/-- Step 2: the configuration is applied, the first blocks are enabled, and both records are measured. -/
def State.configured (s : State) (cfg : BootConfig) : State :=
  let s1 := (s.applyConfig cfg).bootEnables
  (s1.measure 2 s1.upd.config).measure 3 (ownerBytes s1)

theorem State.configured_shows (s : State) (cfg : BootConfig) :
    (s.configured cfg).en Blk.SYS = true ∧ (s.configured cfg).en Blk.CLK = true ∧ (s.configured cfg).items = s.items ∧
      (s.configured cfg).relay = cfg.relay ∧ (s.configured cfg).upd.bootPending = s.upd.bootPending := by
  obtain ⟨hsys, hclk, hitems, hrelay, hupd⟩ := (s.applyConfig cfg).bootEnables_shows
  obtain ⟨hitems', hrelay', hupd'⟩ := s.applyConfig_shows cfg
  have hpending : (s.applyConfig cfg).bootEnables.upd.bootPending = s.upd.bootPending := by rw [hupd, hupd']
  unfold State.configured
  generalize (s.applyConfig cfg).bootEnables = x at *
  exact ⟨hsys, hclk, hitems.trans hitems', hrelay.trans hrelay', hpending⟩

theorem State.boot_waits {s : State} (ok recOk step2 : Bool) (cfg : Option BootConfig) (key : Option (List Byte))
    (hready : bootReady s = false) : s.boot ok cfg recOk key step2 = s := by
  unfold State.boot
  exact if_pos (by rw [hready]; rfl)

theorem State.boot_bad {s : State} (recOk step2 : Bool) (cfg : Option BootConfig) (key : Option (List Byte))
    (hready : bootReady s = true) : s.boot false cfg recOk key step2 = s.loaded := by
  unfold State.boot
  rw [hready, if_neg (by decide)]
  exact if_pos rfl

theorem State.boot_recovers {s : State} (recOk : Bool) (cfg : Option BootConfig) (key : Option (List Byte))
    (hready : bootReady s = true) :
    s.boot true cfg recOk key false =
      ((s.loaded.applyRecord recOk key).1.configured (cfg.getD BootConfig.absent)).bootRecovery := by
  unfold State.boot
  rw [hready, if_neg (by decide)]
  exact (if_neg (by decide)).trans (if_neg Bool.false_ne_true)

theorem State.boot_chooses {s : State} (recOk : Bool) (cfg : Option BootConfig) (key : Option (List Byte))
    (hready : bootReady s = true) :
    s.boot true cfg recOk key true =
      ((s.loaded.applyRecord recOk key).1.configured (cfg.getD BootConfig.absent)).bootChoose (s.loaded.applyRecord recOk key).2 := by
  unfold State.boot
  rw [hready, if_neg (by decide)]
  exact (if_neg (by decide)).trans (if_pos rfl)

/-- A good boot loader takes the profile and enables SYS and CLK, and no step of the chain changes the promise table. -/
theorem State.configured_kept (s : State) (recOk : Bool) (key : Option (List Byte)) (cfg : BootConfig) {r : State}
    (hr : r.bootKept = ((s.loaded.applyRecord recOk key).1.configured cfg).bootKept) :
    r.items = s.items ∧ r.relay = cfg.relay ∧ r.upd.bootPending = false ∧ r.en Blk.SYS = true ∧ r.en Blk.CLK = true := by
  have hrecord := s.loaded.applyRecord_bootKept recOk key
  obtain ⟨hsys, hclk, hitems, hrelay, hpending⟩ := (s.loaded.applyRecord recOk key).1.configured_shows cfg
  generalize (s.loaded.applyRecord recOk key).1 = x at *
  generalize x.configured cfg = y at *
  simp only [State.bootKept, Prod.mk.injEq] at hr hrecord
  obtain ⟨hitems', hrelay', hpending', hsys', hclk'⟩ := hr
  obtain ⟨hitems'', -, hpending'', -⟩ := hrecord
  exact ⟨(hitems'.trans hitems).trans hitems'', hrelay'.trans hrelay, (hpending'.trans hpending).trans hpending'',
    (State.on_of_rd hsys').trans hsys, (State.on_of_rd hclk').trans hclk⟩

/-! ### The records of an image (R397 to R403) -/

/-- The answer to a record: one completion, and the registers that follow the session. -/
theorem State.pieceEnd_shows (s : State) (f : Fetched) (target : Nat) (code : Option Nat) :
    (s.pieceEnd (some f) target code).items = s.items ∧ (s.pieceEnd (some f) target code).flc = s.flc ∧
      (∀ a, besideSession a → (s.pieceEnd (some f) target code).rd a = s.rd a) ∧
      (s.pieceEnd (some f) target code).hre.fetched = s.hre.fetched ∧
      ∃ c, (s.pieceEnd (some f) target code).hre.outq = s.hre.outq ++ [c] ∧ c.tag = wbits f.words 0 31 16 ∧
        c.status = (if code.isSome then 3 else 2) ∧ c.reason = code.getD 0 := by
  have hhre : s.syncUpd.hre = s.hre := State.syncUpd_keeps State.put_hre State.wr_hre s
  have hitems := s.syncUpd_items
  have hflc := s.syncUpd_flc
  have hrd {a : Nat} (ha : besideSession a) := s.syncUpd_rd ha
  unfold State.pieceEnd
  extract_lets s1
  change s1.hre = s.hre at hhre
  change s1.items = s.items at hitems
  change s1.flc = s.flc at hflc
  change ∀ {a : Nat}, besideSession a → s1.rd a = s.rd a at hrd
  clear_value s1
  rw [← hhre]
  cases code with
  | some c => exact ⟨hitems, hflc, fun _ ha => hrd ha, rfl, _, rfl, rfl, rfl, rfl⟩
  | none => exact ⟨hitems, hflc, fun _ ha => hrd ha, rfl, _, rfl, rfl, rfl, rfl⟩

theorem State.onPiece_turn {s : State} {ty : Nat → Bool} {f : Fetched} {rest : List Fetched}
    (k : State → Option Fetched → Nat → List Byte → State)
    (hturn : takeTurn (fun g => wbits g.words 0 7 0 == 0x52 && ty (recType g.buf)) (busyRings s) s.hre.fetched = some (f, rest)) :
    s.onPiece 0 [] ty k = k (s.taken rest) (some f) 0 f.buf := by
  rw [State.onPiece, if_pos rfl, State.onTurn, hturn]
  rfl

/-- What a session's start and change leave: the promise table, and the host's descriptors and completions. -/
def State.hostShown (s : State) : List Item × List Fetched × List Compl := (s.items, s.hre.fetched, s.hre.outq)

theorem State.newSession_hostShown (s : State) (k : Nat) (m : List Byte) (src : Nat) :
    (s.newSession k m src).hostShown = s.hostShown := by
  have hflash {x y : State} (h : y.offFlash = x.offFlash) (v : Nat) : (y.put F.UPD_STATUS_STAGE v).hostShown = x.hostShown :=
    (congrArg State.hostShown h :)
  unfold State.newSession
  extract_lets seq upd s1
  exact hflash (x := s1) ((State.program_offFlash ..).trans (State.eraseRange_offFlash ..)) 0

theorem State.offer_hostShown {s r : State} {m : List Byte} {src : Nat} (hr : s.offer m src = some r) :
    r.hostShown = s.hostShown := by
  have hcounted (x : State) : ((x.irq Blk.UPD 2).count (F.UPD_CNT_COUNT 2)).hostShown = x.hostShown := by
    rw [State.hostShown, State.count_items, State.count_hre, State.irq_items, State.irq_hre, State.hostShown]
  have hrecord (x : State) (w4 w5 w6 w7 : Nat) : (x.record 0x0F00 0x0F04 w4 w5 w6 w7).hostShown = x.hostShown := rfl
  have herased : (s.eraseRange (bobbinBase (targetBobbin s)) 0x800000).hostShown = s.hostShown := rfl
  unfold State.offer at hr
  split at hr
  · split at hr
    · rw [← Option.some.inj hr]
    split at hr
    · rw [← Option.some.inj hr, hrecord, hcounted, State.newSession_hostShown]
    · exact absurd hr (by simp)
  · rw [← Option.some.inj hr, State.newSession_hostShown, herased]

theorem State.pieceManifest_refused {s : State} {c src : Nat} (f : Option Fetched) (b : List Byte)
    (hc : sourceRefusal s src = some c) : s.pieceManifest f src b = s.pieceEnd f (recTarget b) (some c) := by
  unfold State.pieceManifest
  dsimp only
  rw [hc]

/-- A manifest of the device image that may come is refused, offered and taken, or offered and refused. -/
theorem State.pieceManifest_device {s : State} {src : Nat} (f : Option Fetched) {b : List Byte}
    (hsource : sourceRefusal s src = none) (hlen : b.length = 264) (htype : recType b = 0) (htarget : recTarget b = 0) :
    s.pieceManifest f src b =
      match manifestRefusal s 0 (b.drop 8), s.offer (b.drop 8) src with
      | some c, _ => s.pieceEnd f 0 (some c)
      | none, some r => r.pieceEnd f 0 none
      | none, none => s.pieceEnd f 0 (some 0x0F04) := by
  unfold State.pieceManifest
  dsimp only
  rw [hsource, htarget]
  dsimp only
  rw [if_neg (by rw [hlen, htype]; decide)]
  cases manifestRefusal s 0 (b.drop 8) with
  | some c => rfl
  | none =>
    cases s.offer (b.drop 8) src with
    | some r => rfl
    | none => rfl

/-- The answer to a manifest of the device image. -/
theorem State.pieceManifest_shows {s : State} {f : Fetched} (hsource : sourceRefusal s 0 = none) (hlen : f.buf.length = 264)
    (htype : recType f.buf = 0) (htarget : recTarget f.buf = 0) :
    (s.pieceManifest (some f) 0 f.buf).hre.fetched = s.hre.fetched ∧ (s.pieceManifest (some f) 0 f.buf).items = s.items ∧
      ∃ c, (s.pieceManifest (some f) 0 f.buf).hre.outq = s.hre.outq ++ [c] ∧ c.tag = wbits f.words 0 31 16 ∧
        (∀ k, manifestRefusal s 0 (f.buf.drop 8) = some k →
          c.status = 3 ∧ c.reason = k ∧ (s.pieceManifest (some f) 0 f.buf).flc = s.flc) ∧
        (manifestRefusal s 0 (f.buf.drop 8) = none → s.offer (f.buf.drop 8) 0 = none → c.status = 3 ∧ c.reason = 0x0F04) ∧
        (manifestRefusal s 0 (f.buf.drop 8) = none → s.offer (f.buf.drop 8) 0 ≠ none → c.status = 2 ∧ c.reason = 0) := by
  rw [State.pieceManifest_device (some f) hsource hlen htype htarget]
  cases hrefusal : manifestRefusal s 0 (f.buf.drop 8) with
  | some k =>
    obtain ⟨hitems, hflc, -, hfetched, c, hout, htag, hstatus, hreason⟩ := s.pieceEnd_shows f 0 (some k)
    refine ⟨hfetched, hitems, c, hout, htag, fun k' hk => ?_, fun h => absurd h (by simp), fun h => absurd h (by simp)⟩
    exact ⟨hstatus, hreason.trans (Option.some.inj hk), hflc⟩
  | none =>
    cases hoffer : s.offer (f.buf.drop 8) 0 with
    | none =>
      obtain ⟨hitems, -, -, hfetched, c, hout, htag, hstatus, hreason⟩ := s.pieceEnd_shows f 0 (some 0x0F04)
      exact ⟨hfetched, hitems, c, hout, htag, fun _ h => absurd h (by simp), fun _ _ => ⟨hstatus, hreason⟩,
        fun _ h => absurd rfl h⟩
    | some r =>
      have hshown := State.offer_hostShown hoffer
      simp only [State.hostShown, Prod.mk.injEq] at hshown
      obtain ⟨hitems', hfetched', hout'⟩ := hshown
      obtain ⟨hitems, -, -, hfetched, c, hout, htag, hstatus, hreason⟩ := r.pieceEnd_shows f 0 none
      exact ⟨hfetched.trans hfetched', hitems.trans hitems', c, hout.trans (by rw [hout']), htag,
        fun _ h => absurd h (by simp), fun _ h => absurd h (by simp), fun _ _ => ⟨hstatus, hreason⟩⟩

/-- The counters of pieces follow no session. -/
theorem besideSession_count {n : Nat} (hn : n < 2) : besideSession (F.UPD_CNT_COUNT n).addr := by
  unfold besideSession
  interval_cases n
  · decide
  · decide

/-- A wrong piece is counted and refused. -/
theorem State.pieceEnd_wrong (s : State) (f : Fetched) (target : Nat) :
    ((s.count (F.UPD_CNT_COUNT 1)).pieceEnd (some f) target (some 0x0F03)).items = s.items ∧
      ((s.count (F.UPD_CNT_COUNT 1)).pieceEnd (some f) target (some 0x0F03)).flc = s.flc ∧
      ((s.count (F.UPD_CNT_COUNT 1)).pieceEnd (some f) target (some 0x0F03)).get (F.UPD_CNT_COUNT 1) =
        Nat.min (s.get (F.UPD_CNT_COUNT 1) + 1) (2 ^ (F.UPD_CNT_COUNT 1).width - 1) ∧
      ∃ c, ((s.count (F.UPD_CNT_COUNT 1)).pieceEnd (some f) target (some 0x0F03)).hre.outq = s.hre.outq ++ [c] ∧
        c.status = 3 ∧ c.reason = 0x0F03 := by
  obtain ⟨hitems, hflc, hrd, -, c, hout, -, hstatus, hreason⟩ :=
    (s.count (F.UPD_CNT_COUNT 1)).pieceEnd_shows f target (some 0x0F03)
  exact ⟨hitems, hflc, (State.get_of_rd (hrd _ (besideSession_count (by decide)))).trans (State.count_get _ _ (by decide)), c, hout,
    hstatus, hreason⟩

/-- A piece that was written is counted and completes. -/
theorem State.pieceEnd_kept {s y : State} (hy : y.offFlash = s.offFlash) (f : Fetched) (target : Nat) :
    ((y.count (F.UPD_CNT_COUNT 0)).pieceEnd (some f) target none).items = s.items ∧
      ∃ c, ((y.count (F.UPD_CNT_COUNT 0)).pieceEnd (some f) target none).hre.outq = s.hre.outq ++ [c] ∧
        c.status = 2 ∧ c.reason = 0 ∧
        ((y.count (F.UPD_CNT_COUNT 0)).pieceEnd (some f) target none).get (F.UPD_CNT_COUNT 0) =
          Nat.min (s.get (F.UPD_CNT_COUNT 0) + 1) (2 ^ (F.UPD_CNT_COUNT 0).width - 1) := by
  obtain ⟨hitems, -, hrd, -, c, hout, -, hstatus, hreason⟩ := (y.count (F.UPD_CNT_COUNT 0)).pieceEnd_shows f target none
  have hhre : y.hre = s.hre := (congrArg State.hre hy :)
  refine ⟨hitems.trans (congrArg State.items hy :), c, hout.trans ?_, hstatus, hreason, ?_⟩
  · rw [State.count_hre, hhre]
  · rw [State.get_of_rd (hrd _ (besideSession_count (by decide))), State.count_get _ _ (by decide),
      State.get_of_rd (State.rd_of_offFlash hy _)]

section
variable {s : State} {src osrc : Nat} {b m : List Byte} {q : Place} (f : Option Fetched)

/-- A new hash piece outside the tree, or whose path leads elsewhere, is wrong (R401). -/
theorem State.pieceHash_wrong (hmay : pieceRefusal s src b 1288 = none) (htarget : targetOf s (recTarget b) = some (q, m, osrc))
    (hnew : ¬ (recIndex b < 256 ∧ marked s q.hashMark (recIndex b) = true))
    (hwrong : 256 ≤ recIndex b ∨ hashPieces (manPieces m) ≤ recIndex b ∨
      walkPath (topHash (recIndex b) (slice b 8 1024)) (recIndex b) ((List.range 8).map (fun i => slice b (1032 + 32 * i) 32)) ≠
        manRoot m) :
    s.pieceHash f src b = (s.count (F.UPD_CNT_COUNT 1)).pieceEnd f (recTarget b) (some 0x0F03) := by
  unfold State.pieceHash
  dsimp only
  rw [hmay]
  dsimp only
  rw [htarget]
  exact (if_neg hnew).trans (if_pos hwrong)

/-- A new hash piece of a distribution slot whose path leads to the root is kept (R401). -/
theorem State.pieceHash_right (hmay : pieceRefusal s src b 1288 = none) (htarget : targetOf s (recTarget b) = some (q, m, osrc))
    (hslot : recTarget b ≠ 0) (hnew : ¬ (recIndex b < 256 ∧ marked s q.hashMark (recIndex b) = true))
    (hright : ¬ (256 ≤ recIndex b ∨ hashPieces (manPieces m) ≤ recIndex b ∨
      walkPath (topHash (recIndex b) (slice b 8 1024)) (recIndex b) ((List.range 8).map (fun i => slice b (1032 + 32 * i) 32)) ≠
        manRoot m)) :
    s.pieceHash f src b =
      (((s.program (q.store + 1024 * recIndex b) (slice b 8 1024)).mark q.hashMark (recIndex b)).count
        (F.UPD_CNT_COUNT 0)).pieceEnd f (recTarget b) none := by
  unfold State.pieceHash
  dsimp only
  rw [hmay]
  dsimp only
  rw [htarget]
  refine ((if_neg hnew).trans (if_neg hright)).trans ?_
  rw [if_neg hslot]

/-- A data piece without its hash piece is refused (R402). -/
theorem State.pieceData_early (hmay : pieceRefusal s src b 1032 = none) (htarget : targetOf s (recTarget b) = some (q, m, osrc))
    (hindex : recIndex b < 8192) (hnew : marked s q.dataMark (recIndex b) = false)
    (hhash : marked s q.hashMark (recIndex b / 32) = false) :
    s.pieceData f src b = s.pieceEnd f (recTarget b) (some 0x0F07) := by
  unfold State.pieceData
  dsimp only
  rw [hmay]
  dsimp only
  rw [htarget]
  dsimp only
  rw [if_neg (Nat.not_le.mpr hindex), hnew, hhash]
  exact (if_neg Bool.false_ne_true).trans (if_pos rfl)

/-- A new data piece of the image is kept where the hash piece gives its leaf hash, and else wrong (R402). -/
theorem State.pieceData_checked (hmay : pieceRefusal s src b 1032 = none)
    (htarget : targetOf s (recTarget b) = some (q, m, osrc)) (hindex : recIndex b < 8192) (hpiece : recIndex b < manPieces m)
    (hnew : marked s q.dataMark (recIndex b) = false) (hhash : marked s q.hashMark (recIndex b / 32) = true) :
    s.pieceData f src b =
      if leafHash (recIndex b) (slice b 8 1024) =
          flashBytes s (q.store + 1024 * (recIndex b / 32) + 32 * (recIndex b % 32)) 32 then
        (((s.program (q.image + 1024 * recIndex b) (slice b 8 1024)).mark q.dataMark (recIndex b)).count
          (F.UPD_CNT_COUNT 0)).pieceEnd f (recTarget b) none
      else (s.count (F.UPD_CNT_COUNT 1)).pieceEnd f (recTarget b) (some 0x0F03) := by
  unfold State.pieceData
  dsimp only
  rw [hmay]
  dsimp only
  rw [htarget]
  dsimp only
  rw [if_neg (Nat.not_le.mpr hindex), hnew, hhash, if_neg Bool.false_ne_true, Bool.not_true, if_neg Bool.false_ne_true]
  split
  case isTrue hwrong => exact (if_neg (hwrong.resolve_left (Nat.not_le.mpr hpiece))).symm
  case isFalse hright => exact (if_pos (Classical.not_not.mp (not_or.mp hright).2)).symm

end

theorem State.mark_program_offFlash (s : State) (a base k : Nat) (data : List Byte) :
    ((s.program a data).mark base k).offFlash = s.offFlash :=
  (State.program_offFlash ..).trans (State.program_offFlash ..)

/-- The answer to a new hash piece of distribution slot 0. -/
theorem State.pieceHash_shows {s : State} {f : Fetched} {src osrc : Nat} {q : Place} {m : List Byte}
    (hmay : pieceRefusal s src f.buf 1288 = none) (hslot : recTarget f.buf = 1)
    (htarget : targetOf s (recTarget f.buf) = some (q, m, osrc)) (hpiece : recIndex f.buf < hashPieces (manPieces m))
    (hlt : recIndex f.buf < 256) (hmark : marked s q.hashMark (recIndex f.buf) = false) :
    (s.pieceHash (some f) src f.buf).items = s.items ∧ ∃ c, (s.pieceHash (some f) src f.buf).hre.outq = s.hre.outq ++ [c] ∧
      (if walkPath (topHash (recIndex f.buf) (slice f.buf 8 1024)) (recIndex f.buf)
          ((List.range 8).map (fun i => slice f.buf (1032 + 32 * i) 32)) = manRoot m then
        c.status = 2 ∧ c.reason = 0 ∧ (s.pieceHash (some f) src f.buf).get (F.UPD_CNT_COUNT 0) =
          Nat.min (s.get (F.UPD_CNT_COUNT 0) + 1) (2 ^ (F.UPD_CNT_COUNT 0).width - 1)
      else c.status = 3 ∧ c.reason = 0x0F03 ∧ (s.pieceHash (some f) src f.buf).flc = s.flc ∧
        (s.pieceHash (some f) src f.buf).get (F.UPD_CNT_COUNT 1) =
          Nat.min (s.get (F.UPD_CNT_COUNT 1) + 1) (2 ^ (F.UPD_CNT_COUNT 1).width - 1)) := by
  have hnew : ¬ (recIndex f.buf < 256 ∧ marked s q.hashMark (recIndex f.buf) = true) :=
    fun h => Bool.false_ne_true (hmark.symm.trans h.2)
  split
  case isTrue hroot =>
    rw [State.pieceHash_right (some f) hmay htarget (by rw [hslot]; decide) hnew
      (fun h => h.elim (Nat.not_le.mpr hlt) (fun h => h.elim (Nat.not_le.mpr hpiece) (fun h => h hroot)))]
    exact State.pieceEnd_kept (State.mark_program_offFlash ..) f _
  case isFalse hroot =>
    rw [State.pieceHash_wrong (some f) hmay htarget hnew (.inr (.inr hroot))]
    obtain ⟨hitems, hflc, hcount, c, hout, hstatus, hreason⟩ := s.pieceEnd_wrong f (recTarget f.buf)
    exact ⟨hitems, c, hout, hstatus, hreason, hflc, hcount⟩

/-- The answer to a new data piece whose hash piece is held. -/
theorem State.pieceData_shows {s : State} {f : Fetched} {src osrc : Nat} {q : Place} {m : List Byte}
    (hmay : pieceRefusal s src f.buf 1032 = none) (htarget : targetOf s (recTarget f.buf) = some (q, m, osrc))
    (hindex : recIndex f.buf < 8192) (hpiece : recIndex f.buf < manPieces m) (hmark : marked s q.dataMark (recIndex f.buf) = false)
    (hhash : marked s q.hashMark (recIndex f.buf / 32) = true) :
    (s.pieceData (some f) src f.buf).items = s.items ∧ ∃ c, (s.pieceData (some f) src f.buf).hre.outq = s.hre.outq ++ [c] ∧
      (if leafHash (recIndex f.buf) (slice f.buf 8 1024) =
          flashBytes s (q.store + 1024 * (recIndex f.buf / 32) + 32 * (recIndex f.buf % 32)) 32 then
        c.status = 2 ∧ c.reason = 0 ∧ (s.pieceData (some f) src f.buf).get (F.UPD_CNT_COUNT 0) =
          Nat.min (s.get (F.UPD_CNT_COUNT 0) + 1) (2 ^ (F.UPD_CNT_COUNT 0).width - 1)
      else c.status = 3 ∧ c.reason = 0x0F03 ∧ (s.pieceData (some f) src f.buf).flc = s.flc ∧
        (s.pieceData (some f) src f.buf).get (F.UPD_CNT_COUNT 1) =
          Nat.min (s.get (F.UPD_CNT_COUNT 1) + 1) (2 ^ (F.UPD_CNT_COUNT 1).width - 1)) := by
  rw [State.pieceData_checked (some f) hmay htarget hindex hpiece hmark hhash]
  split
  case isTrue hleaf => exact State.pieceEnd_kept (State.mark_program_offFlash ..) f _
  case isFalse hleaf =>
    obtain ⟨hitems, hflc, hcount, c, hout, hstatus, hreason⟩ := s.pieceEnd_wrong f (recTarget f.buf)
    exact ⟨hitems, c, hout, hstatus, hreason, hflc, hcount⟩

/-! ### The staging check (R403) -/

theorem State.stagingCheck_incomplete {s : State} {target : Nat} (hheld : allHeld s target = false) : s.stagingCheck target = s := by
  unfold State.stagingCheck
  rw [hheld]
  exact if_pos (by simp)

section
variable {s : State} {q : Place} {m : List Byte} {src : Nat}

/-- The check of a distribution slot whose image is its manifest's. -/
theorem State.stagingCheck_passes (hen : s.en Blk.UPD = true) (hheld : allHeld s 1 = true) (hchecked : isChecked s 1 = false)
    (htarget : targetOf s 1 = some (q, m, src)) (hroot : rootOf (imagePieces s q.image (manPieces m)) = manRoot m) :
    s.stagingCheck 1 = (({ s with upd := { s.upd with manifests := modAt (fun _ => m) s.upd.manifests 2 } } : State).irq Blk.UPD 1).syncUpd := by
  unfold State.stagingCheck
  rw [hen, hheld, hchecked, htarget]
  exact (if_neg (by decide)).trans (if_pos hroot)

/-- The check of a distribution slot whose image is another one: its header is erased, and a record made. -/
theorem State.stagingCheck_fails (hen : s.en Blk.UPD = true) (hheld : allHeld s 1 = true) (hchecked : isChecked s 1 = false)
    (htarget : targetOf s 1 = some (q, m, src)) (hroot : rootOf (imagePieces s q.image (manPieces m)) ≠ manRoot m) :
    s.stagingCheck 1 = ((s.eraseRange q.header 0x8000).record 0x0F00 0x0F03).syncUpd := by
  unfold State.stagingCheck
  rw [hen, hheld, hchecked, htarget]
  exact (if_neg (by decide)).trans (if_neg hroot)

end

/-- A manifest that passed is kept as checked, and UPD_ISR bit 0 reports it. -/
theorem State.keepManifest_shows (s : State) (m : List Byte) (hlen : s.upd.manifests.length = 4) :
    let r := (({ s with upd := { s.upd with manifests := modAt (fun _ => m) s.upd.manifests 2 } } : State).irq Blk.UPD 1).syncUpd
    r.items = s.items ∧ r.upd.manifests.getD 2 [] = m ∧ bits (r.rd Reg.UPD_ISR).toNat 0 0 = 1 ∧ r.flc = s.flc := by
  intro r
  have hbeside : besideSession Reg.UPD_ISR := by
    unfold besideSession
    decide
  refine ⟨?_, ?_, ?_, ?_⟩
  · rw [State.syncUpd_items, State.irq_items]
  · rw [State.syncUpd_upd, State.irq_upd]
    exact getD_modAt_same _ _ _ _ (by rw [hlen]; decide)
  · rw [State.syncUpd_rd _ hbeside]
    exact State.irq_isr_bit _ (k := 0) (by decide) (by rfl) (by decide) (by decide)
  · rw [State.syncUpd_flc, State.irq_flc]

/-- Settles O56: the boot chain keeps the promise table through steps 1 to 3, and a record of an image is one turn: its
check, its pages of flash, and one completion. -/
theorem bootAndPieces : Obligations.BootAndPieces := by
  unfold Obligations.BootAndPieces
  refine ⟨?pending, ?bad, ?recovery, ?good, ?manifest, ?source, ?hash, ?outside, ?data, ?early, ?check, ?incomplete⟩
  case pending =>
    intro s x t ok recOk step2 cfg key hx hpending
    subst hx
    exact congrArg Host.Outcome.next (State.boot_waits _ _ _ _ _ (by rw [bootReady, hpending]; rfl))
  case bad =>
    intro s x t recOk step2 cfg key hx hready
    subst hx
    exact ⟨_, congrArg Host.Outcome.next (State.boot_bad _ _ _ _ hready), rfl, rfl, rfl, rfl⟩
  case recovery =>
    intro s x t recOk cfg key hx hready
    subst hx
    obtain ⟨hkept, hreleased, hrecovery⟩ :=
      (((s.at t).loaded.applyRecord recOk key).1.configured (cfg.getD BootConfig.absent)).bootRecovery_runs
    obtain ⟨hitems, hrelay, hpending, hsys, hclk⟩ := State.configured_kept _ recOk key _ hkept
    exact ⟨_, congrArg Host.Outcome.next (State.boot_recovers recOk cfg key hready), hpending, hreleased, hrelay, hrecovery, hsys,
      hclk, hitems⟩
  case good =>
    intro s x t recOk cfg key hx hready
    subst hx
    obtain ⟨hkept, hreleased⟩ :=
      (((s.at t).loaded.applyRecord recOk key).1.configured (cfg.getD BootConfig.absent)).bootChoose_runs
        ((s.at t).loaded.applyRecord recOk key).2
    obtain ⟨hitems, hrelay, hpending, -⟩ := State.configured_kept _ recOk key _ hkept
    exact ⟨_, congrArg Host.Outcome.next (State.boot_chooses recOk cfg key hready), hpending, hreleased, hrelay, hitems⟩
  case manifest =>
    intro s x y t f rest hx hturn hy hsource hlen htype htarget
    subst hx hy
    exact ⟨_, congrArg Host.Outcome.next (State.onPiece_turn _ hturn),
      State.pieceManifest_shows (s := (s.at t).taken rest) hsource hlen htype htarget⟩
  case source =>
    intro s x y t c f rest hx hturn hy hsource
    subst hx hy
    obtain ⟨hitems, hflc, -, -, q, hout, -, hstatus, hreason⟩ :=
      ((s.at t).taken rest).pieceEnd_shows f (recTarget f.buf) (some c)
    exact ⟨_, congrArg Host.Outcome.next ((State.onPiece_turn _ hturn).trans
      (State.pieceManifest_refused (s := (s.at t).taken rest) (some f) f.buf hsource)), hflc, hitems, q, hout, hstatus, hreason⟩
  case hash =>
    intro s x y t j src f rest q m hx hturn hy hmay htarget hof hj hpiece hlt hnew
    subst hx hy hj
    rw [← htarget] at hof
    exact ⟨_, congrArg Host.Outcome.next (State.onPiece_turn _ hturn),
      State.pieceHash_shows (s := (s.at t).taken rest) hmay htarget hof hpiece hlt hnew⟩
  case outside =>
    intro s x y t src f rest q m hx hturn hy hmay hof hj
    subst hx hy
    obtain ⟨hitems, hflc, hcount, hcompl⟩ := ((s.at t).taken rest).pieceEnd_wrong f (recTarget f.buf)
    exact ⟨_, congrArg Host.Outcome.next ((State.onPiece_turn _ hturn).trans
      (State.pieceHash_wrong (s := (s.at t).taken rest) (some f) hmay hof (fun h => absurd h.1 (Nat.not_lt.mpr hj)) (.inl hj))), hflc,
      hitems, hcount, hcompl⟩
  case data =>
    intro s x y t k src f rest q m hx hturn hy hmay hof hk hlt hpiece hnew hhash
    subst hx hy hk
    exact ⟨_, congrArg Host.Outcome.next (State.onPiece_turn _ hturn),
      State.pieceData_shows (s := (s.at t).taken rest) hmay hof hlt hpiece hnew hhash⟩
  case early =>
    intro s x y t src f rest q m hx hturn hy hmay hof hlt hnew hhash
    subst hx hy
    obtain ⟨hitems, hflc, -, -, c, hout, -, hstatus, hreason⟩ :=
      ((s.at t).taken rest).pieceEnd_shows f (recTarget f.buf) (some 0x0F07)
    exact ⟨_, congrArg Host.Outcome.next ((State.onPiece_turn _ hturn).trans
      (State.pieceData_early (s := (s.at t).taken rest) (some f) hmay hof hlt hnew hhash)), hflc, hitems, c, hout, hstatus, hreason⟩
  case check =>
    intro s x t src q m hx hen hheld hchecked hof hlen
    subst hx
    by_cases hroot : rootOf (imagePieces (s.at t) q.image (manPieces m)) = manRoot m
    · obtain ⟨hitems, hkept⟩ := (s.at t).keepManifest_shows m hlen
      refine ⟨_, congrArg Host.Outcome.next (State.stagingCheck_passes hen hheld hchecked hof hroot), hitems, ?_⟩
      rw [if_pos hroot]
      exact hkept
    · refine ⟨_, congrArg Host.Outcome.next (State.stagingCheck_fails hen hheld hchecked hof hroot), State.syncUpd_items _, ?_⟩
      rw [if_neg hroot]
      exact ⟨State.syncUpd_upd _, congrArg Hre.records (State.syncUpd_keeps State.put_hre State.wr_hre _)⟩
  case incomplete =>
    intro s x t target hx hheld
    subst hx
    exact congrArg Host.Outcome.next (State.stagingCheck_incomplete hheld)

end Sys2Proof.Machine
